-- ==== Sys2Proof/Word.lean ====
section
/-! DEFINITION. The word types: bytes of memories, images and packets, and the 32-bit register word (R3, R6). -/

namespace Sys2Proof

/-- A byte of a memory, an image or a packet (R3). -/
abbrev Byte := BitVec 8

/-- A register word: every register is 32 bits wide (chapter 00, "Registers"). -/
abbrev Word := BitVec 32

end Sys2Proof
end

