-- ==== Sys2Proof/Types.lean ====
section
/-! DEFINITION. The data the commands carry and the state holds, apart from registers: seed descriptions, budget
rows, codewords, packets. Each type names the rule of spec/ that lists its items. -/

namespace Sys2Proof

/-- The line modes of R15. -/
inductive LineMode where
  | l400e | l400s | l200 | l100
deriving DecidableEq, Repr

/-- The port types of R20, coded as GBX_PSTATUS.TYPE. -/
inductive PortType where
  | g400 | g800 | g1600
deriving DecidableEq, Repr

/-- A port of a bunch description (R29): `h0` and `l0` are the first host and line lane within the bunch. -/
structure PortDesc where
  num    : Nat
  ptype  : PortType
  mode   : LineMode
  h0     : Nat
  nH     : Nat
  l0     : Nat
  nL     : Nat
  term   : Bool
  lowLat : Bool
deriving DecidableEq, Repr

/-- The items of one line lane of a bunch description (R29). `hosts` is the lane map, host lanes within the bunch
in order; `rank` is the rank filter's length, 0 for off; `shifts` are the right shifts of the sideband stages in the
order of SB_SHIFT; `firSet` the 64 sideband coefficients. -/
structure LaneDesc where
  hosts  : List Nat
  taps   : Nat
  quads  : Nat
  mlse   : Bool
  slots  : Nat
  maxp   : Nat
  p2     : Nat
  p3     : Nat
  p4     : Nat
  dl     : Nat
  depth  : Nat
  lowLat : Bool
  rank   : Nat
  hb     : Nat
  firEn  : Bool
  dcEn   : Bool
  shifts : List Nat
  firSet : List Int
deriving DecidableEq, Repr

/-- What a throttle profile gives one line lane (R33). -/
structure ProfLane where
  maxp : Nat
  keep : Bool
  taps : Nat
deriving DecidableEq, Repr

/-- One bunch's description (R29): ports, four line lanes, and up to three profiles of four lane entries. -/
structure BunchDesc where
  ports    : List PortDesc
  lanes    : List LaneDesc
  profiles : List (List ProfLane)
deriving DecidableEq, Repr

/-- A line lane in no port (R29, last row). -/
def LaneDesc.unused : LaneDesc :=
  { hosts := [], taps := 0, quads := 0, mlse := false, slots := 0, maxp := 0, p2 := 0, p3 := 0, p4 := 0, dl := 0,
    depth := 0, lowLat := false, rank := 0, hb := 0, firEn := false, dcEn := false, shifts := [8, 8, 8, 8, 8, 8, 8], firSet := [] }

/-- A bunch whose description lists no port (R29), and a bunch without a seed. -/
def BunchDesc.none : BunchDesc :=
  { ports := [], lanes := [.unused, .unused, .unused, .unused], profiles := [] }

/-- A row of the budget table (R31, "Budget table format"). -/
structure BudgetRow where
  bunch    : Nat
  profile  : Nat
  resource : Nat
  lane     : Nat
  demand   : Nat
  capacity : Nat
deriving DecidableEq, Repr

/-- Which way a port's data runs: line to host (receive) or host to line (transmit). -/
inductive Dir where
  | rx | tx
deriving DecidableEq, Repr

/-- The number a direction has in instance numbers: 0 receive, 1 transmit. -/
def Dir.ix : Dir → Nat
  | .rx => 0
  | .tx => 1

/-- A codeword in a lane's reorder stage (R117 to R127). `id` numbers the lane's codewords in arrival order, `arrive`
is the arrival cycle in lane dpclk; `bch` tells Cleril-144 from H128, `lsb` that the codeword carries the less
significant bits and `partner` is the other codeword of its pair (R112); `soft` holds the equaliser's values, `work` the
values the last pass used (refined or not, R122); `best` the kept candidate and its metric; `passes` the passes
completed; `run` the running pass and its start cycle; `place` the number that each of its bits has in the lane's stream of soft
values, two to a symbol; `maxp` the maximum passes that hold for it, 0 for a hard pass;
`verify`: pass 1 marked it for verification; `fin`: decoding has ended, `failed`: without a valid codeword; `rel` the cycle of its release; `spec`:
released speculatively; `word` the bits released; `played`: its bits have left the hold buffer. -/
structure Codeword where
  lane    : Nat
  id      : Nat
  arrive  : Nat
  bch     : Bool
  lsb     : Bool
  partner : Option Nat
  soft    : List Int
  work    : List Int
  best    : Option (List Bool × Nat)
  passes  : Nat
  run     : Option (Nat × Nat)
  place   : List Nat
  maxp    : Nat
  verify  : Bool
  fin     : Bool
  failed  : Bool
  rel     : Option Nat
  spec    : Bool
  word    : List Bool
  played  : Bool
deriving DecidableEq, Repr

/-- What the equaliser keeps of a pip (R79, R84, R89): lane, pip number, the ball time `start` of its first symbol (R232), its ADC codes
`raw`, the restored samples `xs` in Q2.7 from `pre` samples before the pip on, the feed-forward outputs `ys` in Q4.8 of the pip's symbols, the symbols it decided as levels 3, 1, -1
or -3, their soft values, the more significant bit's first, and the sampling DECIM of the pip. -/
structure EqPip where
  lane : Nat
  pip  : Nat
  start : Int
  raw  : List Int
  pre  : Nat
  dec  : Nat
  xs   : List Int
  ys   : List Int
  syms : List Int
  soft : List Int
deriving DecidableEq, Repr

/-- What decoding a codeword left for the equaliser (R89): its lane, the place of each bit, and its final word, none if it was
released at its deadline or is not a valid codeword. -/
structure CwFinal where
  lane  : Nat
  place : List Nat
  word  : Option (List Bool)
deriving DecidableEq, Repr

/-- How the clock of an optical-engine transaction runs (R69): mclk per half-period, idle level, sampling on the second edge. -/
structure SpiClock where
  half : Nat
  cpol : Bool
  cpha : Bool
deriving DecidableEq, Repr

/-- A first-stage output that waits for the engine (R182): value in Q1.23, ball time of its last symbol (2^-16 ns, active timescale),
whether a SYNC or a start of the lane comes with it, and whether a change of the stage list does (R190, R191). -/
structure SbIn where
  value  : Int
  ball   : Int
  sync   : Bool
  change : Bool
deriving DecidableEq, Repr

/-- The sideband engine's state of one running lane (R180 to R195). `cic` the ADC codes the first stage still sums,
newest first; `cicFill` that its next input fills it; `sync`, `change` what the next first-stage output will carry; `wait` the
first-stage outputs not yet visited; `hold` which of the stages (rank filter, four half-bands, FIR, DC blocker) are still to be filled
by their next input; histories newest first; `phase` the inputs seen modulo 2 of each half-band stage; `dc` the blocker's estimate in
2^-47; `sat` a saturation not yet shown on a fine output; the fast block and its sum; the power window and the one last completed, as
sum and count; the noise-floor sub-block, the lowest mean and count of sub-blocks counted, and the lowest of the last 16. -/
structure SbLane where
  lane    : Nat
  cic     : List Int
  cicFill : Bool
  sync    : Bool
  change  : Bool
  wait    : List SbIn
  hold    : List Bool
  rank    : List Int
  hb      : List (List Int)
  phase   : List Nat
  fir     : List Int
  dc      : Int
  sat     : Bool
  fastLen : Nat
  fastSum : Int
  fastCnt : Nat
  pwrSum  : Nat
  pwrCnt  : Nat
  pwrDone : Option (Nat × Nat)
  nfSum   : Nat
  nfCnt   : Nat
  nfBad   : Bool
  nfMin   : Option Nat
  nfBlks  : Nat
  nfDone  : Option Nat
deriving DecidableEq, Repr

/-- The chain of a lane at its start (R189, R190). -/
def SbLane.start (n : Nat) : SbLane :=
  { lane := n, cic := [], cicFill := true, sync := true, change := false, wait := [], hold := List.replicate 7 true, rank := [],
    hb := [[], [], [], []], phase := [0, 0, 0, 0], fir := [], dc := 0, sat := false, fastLen := 0, fastSum := 0, fastCnt := 0,
    pwrSum := 0, pwrCnt := 0, pwrDone := none, nfSum := 0, nfCnt := 0, nfBad := false, nfMin := none, nfBlks := 0, nfDone := none }

/-- A firmware packet of a Sloe transmitter, from SEND until it ends (R200, R205). -/
structure SloePkt where
  lane    : Nat
  typ     : Nat
  ackReq  : Bool
  retx    : Bool
  seq     : Nat
  payload : List Byte
deriving DecidableEq, Repr

/-- The chirp symbols of a lane's packet in transmission that are still to be sent: direction (true up) and shift (R196, R199). -/
structure SloeTx where
  lane : Nat
  syms : List (Bool × Nat)
deriving DecidableEq, Repr

/-- A tile reload, running or waiting (R46): bunch, tile, and the line lane held at DOWN for it, if any. -/
structure TileReload where
  bunch : Nat
  tile  : Nat
  hold  : Option Nat
deriving DecidableEq, Repr

/-- What the LMS loops of a host receiver have accumulated over an interval (R136): the sums of the products of slicer error and
regressor for the CTLE peaking and pole, the 16 FFE taps and h1, each in its control's own unit. -/
structure HostRx where
  peak : Int
  pole : Int
  ffe  : List Int
  h1   : Int
deriving DecidableEq, Repr

/-- What a host transmitter sends (R148, R150, R162): traffic, fill or a test pattern. -/
inductive HostKind where
  | data | fill | pattern
deriving DecidableEq, Repr

/-- Blocks that framing puts into a terminated stream in place of its own: idle blocks, or an error block that ends a frame (R161, R163). -/
inductive BlockKind where
  | idle | error
deriving DecidableEq, Repr

/-- Bits of a host-lane stream that a loopback feeds back toward the line, waiting for a transmit pip (R177). -/
structure LoopBits where
  host : Nat
  bits : List Bool
deriving DecidableEq, Repr

/-- The transmitter coefficients a training request may name, in the order of the applied set; `other` is any other
coefficient of the standard (R144). -/
inductive TapName where
  | cm3 | cm2 | cm1 | c1 | c2 | other
deriving DecidableEq, Repr

/-- A training request of one end to the other (R144, R145). -/
inductive TrainReq where
  | preset (p : Nat)
  | step (tap : TapName) (up : Bool)
  | precode (on : Bool)
deriving DecidableEq, Repr

/-- The answer to a training request (R144). -/
inductive TrainResp where
  | updated | atMax | atMin | notSupported
deriving DecidableEq, Repr

/-- A fleet packet (R320, R321): TYPE, byte enables (first dword in [3:0], last in [7:4]), LENGTH in dwords from 1 to 1024,
requester device, requesting unit, TAG, the requester's device generation, `code` the message code or completer device, the
fleet address, the STATUS of a completion, and the payload dwords. -/
structure Pkt where
  typ    : Nat
  be     : Nat
  len    : Nat
  req    : Nat
  unit   : Nat
  tag    : Nat
  gen    : Nat
  code   : Nat
  addr   : Nat
  status : Nat
  data   : List Nat
deriving DecidableEq, Repr

/-- A link-layer block waiting for a slot of a Bramble port (R320): its 8 bytes, none for an IDLE block that a replay asks for (R323), and
whether it belongs to a packet. -/
structure BrmBlock where
  port  : Nat
  pkt   : Bool
  bytes : List Byte
deriving DecidableEq, Repr

/-- A packet waiting to be sent: the port it leaves on, the port it came in on if it is forwarded, the packet. -/
structure TxEnt where
  port : Nat
  ingr : Option Nat
  pkt  : Pkt
deriving DecidableEq, Repr

/-- An outstanding non-posted request of one of the device's own units (R321, R329): unit, TAG, target device. -/
structure OwnReq where
  unit : Nat
  tag  : Nat
  dev  : Nat
deriving DecidableEq, Repr

/-- Which target brought a bridge request (R338, R339). -/
inductive BrSrc where
  | spi | i3c
deriving DecidableEq, Repr

/-- A request of the bridge (R338 to R340): its target, whether it is a write, the fleet address, N + 1 dwords, the data of a
write, and whether the result of a read is discarded. -/
structure BrReq where
  src   : BrSrc
  write : Bool
  addr  : Nat
  n     : Nat
  data  : List Nat
  drop  : Bool
deriving DecidableEq, Repr

/-- A PCIe completion of a host read (R336): successful, poisoned, Unsupported Request, Completer Abort. -/
inductive PcieCpl where
  | success | poisoned | unsupported | abort
deriving DecidableEq, Repr

/-- What a comparator set of a lane trigger unit has running (R243): run count, pending runt (symbols since its crossing,
true for upward), symbols since the last qualifying transition, whether the timeout has fired, the last values, newest
first, and the first lane dpclk of the receive grid not yet evaluated. -/
structure TrgSet where
  lane : Nat
  set  : Nat
  run  : Nat
  runt : Option (Nat × Bool)
  tmo  : Nat
  done : Bool
  hist : List Int
  next : Nat
deriving DecidableEq, Repr

/-- A gap in progress of a capture stream (R252): reason, index and stamp (2^-16 ns) of the first missing unit, count. -/
structure CapGap where
  stream : Nat
  reason : Nat
  first  : Nat
  stamp  : Int
  count  : Nat
deriving DecidableEq, Repr

/-- Units of a capture stream that wait to be written (R248, R251): source and lane, the stamp of the first unit of the batch they came in
(2^-16 ns, active timescale; the units of a batch are one UI apart), how many of the batch have gone, and each unit that remains, as
the number its bytes make. -/
structure CapWait where
  stream : Nat
  src    : Nat
  lane   : Nat
  stamp  : Int
  skip   : Nat
  vals   : List Nat
deriving DecidableEq, Repr

/-- An entry of a merge buffer (R276): first local address of the word or line, whether it is an LPDDR6 line, and the bytes
written so far. -/
structure MergeEnt where
  unit  : Nat
  lp    : Bool
  bytes : List (Option Byte)
deriving DecidableEq, Repr

/-- An entry of the uncorrectable-error log (R273): location words, ECC_UE_INFO.MEM, found by demand, ACTION. -/
structure UeEnt where
  lo     : Nat
  hi     : Nat
  mem    : Nat
  demand : Bool
  action : Nat
deriving DecidableEq, Repr

/-- What a read or an access finds in the code of a word or line (R265, R266): clean, a correctable error, an uncorrectable one
with the whole unit as decoded, or a genuine double error whose syndrome is that of the poison pattern, with the unit as decoded. -/
inductive EccFind where
  | clean
  | ce
  | ue (data : Nat)
  | aliased (data : Nat)
deriving DecidableEq, Repr

/-- The status of a read (R267, R290, R293, R295). -/
inductive RdStatus where
  | ok | poison | notInit | rsvd | offline | unmapped | aborted
deriving DecidableEq, Repr

/-- An undo descriptor of the Stone's journal (R348, R349): its slot, the target page, the sequence number, the CRC-32 of the
old contents, and whether its STATE is ARMED. -/
structure UndoDesc where
  slot  : Nat
  page  : Nat
  seq   : Nat
  crc   : Nat
  armed : Bool
deriving DecidableEq, Repr

/-- A queued page write of the Stone (R350): source address, target page, journaled or plain. -/
structure StnEnt where
  src     : Nat
  page    : Nat
  journal : Bool
deriving DecidableEq, Repr

/-- The page write that executes: its entry, the source as read when it started, and the words that carried poison (R350). -/
structure StnRun where
  ent    : StnEnt
  data   : List Byte
  poison : List Nat
deriving DecidableEq, Repr

/-- The security fuses (R355): vendor key hash, serial number, programmed bits of LC_STATE and LC_WIPED, the unique device
secret once drawn, the owner key hashes once fused, the revoked slots, programmed bits of FW_SVN. -/
structure Fuses where
  vendor : List Byte
  serial : Nat
  lc     : Nat
  wiped  : Nat
  uds    : Option (List Byte)
  owner0 : Option (List Byte)
  owner1 : Option (List Byte)
  rev0   : Bool
  rev1   : Bool
  svn    : Nat
deriving DecidableEq, Repr

/-- A copy of the factory record whose CRC holds (R353): I3C_PID.MFR and INST, the management SRAM spares as (bank, word), and
how many bytes the record takes. -/
structure FactoryRec where
  mfr    : Nat
  inst   : Nat
  spares : List (Nat × Nat)
  len    : Nat
deriving DecidableEq, Repr

/-- A read that a reset leaves unanswered (R295): its initiator, by TOP_ACCESS_INFO.INIT, and its address. -/
structure AbRead where
  init : Fin 16
  addr : Nat
deriving DecidableEq, Repr

/-- What a write takes with it from outside: reads that a reset leaves unanswered (R295), the step a Stone page write has
reached (R351), whether the Bramble ports have been quiet (R372), the step a wake meets an entry at (R374), whether a core's
access is made in user mode (R287), the lines of its granule that a FILL has written when it is aborted (R283), and what the
flush of a merge entry that the write forces finds in the code of the old data (R277). -/
structure WrEnv where
  ab    : List AbRead
  k     : Fin 5
  quiet : Bool
  wake  : Fin 8
  user  : Bool
  lines : Nat
  find  : EccFind
deriving DecidableEq, Repr

/-- Where an access to the local address space comes from: an initiator of TOP_ACCESS_INFO.INIT, a request that came in on a
Bramble port, a host request with its tag, the bridge. -/
inductive Origin where
  | init (i : Nat)
  | port (p : Nat)
  | host (tag : Nat)
  | bridge
deriving DecidableEq, Repr

/-- A request that waits at the port of a bunch held in reset (R296): an initiator's access of `size` bytes, or a request packet
of another device, the host or the bridge. -/
inductive WaitReq where
  | access (bunch init addr size value : Nat) (write : Bool) (env : WrEnv)
  | packet (bunch : Nat) (o : Origin) (k : Pkt) (env : WrEnv)
deriving DecidableEq, Repr

end Sys2Proof
end

