-- ==== Sys2Proof/Syntax.lean ====
section
/-! DEFINITION. The commands of the block: one constructor per row of spec/opcode_table.json, with the operands the
command carries. Lanes, slots, ports and domains are numbered device-wide. -/

namespace Sys2Proof

/-- The commands: those with operands in the order of the table, then those without. -/
inductive Instr where
  /-- REGISTER_WRITE (R8): A write to a register that has no row of its own sets its fields by access type; narrow or misaligned writes are dropped. -/
  | registerWrite (addr size value init : Nat) (env : WrEnv)
  /-- READ_CLEAR (R8): A read of a register with RC fields returns them and then clears them, keeping an increment made in the same mclk. -/
  | readClear (addr size init : Nat) (env : WrEnv)
  /-- RESET_N_PULSE (R400): A low pulse on RESET_N of 1 µs or longer causes a WARM reset. -/
  | resetNPulse (k : Fin 5)
  /-- TOP_RESET_WARM (R10): A write of TOP_RESET.WARM causes a WARM reset after its acknowledgement. -/
  | topResetWarm (k : Fin 5)
  /-- TOP_RESET_CORE (R286): A write of TOP_RESET.CORE resets the selected cores, which restart at BOOT_VEC. -/
  | topResetCore (mask : BitVec 4) (ab : List AbRead)
  /-- SEED_LOAD_FULL (R39): A LOAD_FULL command latches the source and options and starts a load of both bunches. -/
  | seedLoadFull (src : BitVec 2) (warm hold : Bool)
  /-- SEED_LOAD_BUNCH0 (R39): A LOAD_BUNCH0 command starts a partial reseed of bunch 0. -/
  | seedLoadBunch0 (src : BitVec 2) (warm hold : Bool)
  /-- SEED_LOAD_BUNCH1 (R39): A LOAD_BUNCH1 command starts a partial reseed of bunch 1. -/
  | seedLoadBunch1 (src : BitVec 2) (warm hold : Bool)
  /-- SEED_CHECK (R39): A CHECK command runs phases 1 to 4 on an image and applies nothing. -/
  | seedCheck (src : BitVec 2) (warm hold : Bool)
  /-- SEED_VERIFY_DONE (R37): Signature verification ends, and structure and budget checks run, followed by quiesce of the target bunches. -/
  | seedVerifyDone (d0 d1 : BunchDesc) (ab0 ab1 : List AbRead)
  /-- SEED_APPLY_DONE (R43): The configuration words have been written to the tiles and the shadow, and the loader moves to RESTART. -/
  | seedApplyDone (cfg0 cfg1 : List Byte)
  /-- BUNCH_RESET (R45): A BN_RESET write resets a bunch's registers and datapath and increments its generations, or is held during a load. -/
  | bunchReset (b : Fin 2) (ab : List AbRead)
  /-- BN_RESET_HELD_ACT (R45): A BN_RESET held during a load acts in the mclk after RESTART ends. -/
  | bnResetHeldAct (b : Fin 2) (ab : List AbRead)
  /-- BUNCH_SHADOW_RELOAD_DONE (R168): The shadow reload after a BUNCH reset ends, and EN is set on port lanes unless HOLD_LANES is set. -/
  | bunchShadowReloadDone (b : Fin 2)
  /-- TILE_RELOAD_DONE (R46): A tile reload from the shadow ends, SEED_RELOAD counts it, and a waiting reload starts. -/
  | tileReloadDone (shadowUe : Bool)
  /-- LANE_ENABLE (R168): Setting BN_LINK_CTRL.EN powers the ADC and DAC up and puts the lane at DOWN. -/
  | laneEnable (n : Fin 8)
  /-- LANE_DISABLE (R168): Clearing EN powers the ADC down, idles the DAC, clears ATTEMPTS, STOPPED and codeword lock. -/
  | laneDisable (n : Fin 8)
  /-- LANE_RESET_LL (R168): An LL_RESET write resets a line lane's registers and restarts its converters. -/
  | laneResetLl (n : Fin 8) (ab : List AbRead)
  /-- LANE_RESET_HL (R147): An HL_RESET write resets a host lane, idles its transmitter and returns training to OFF. -/
  | laneResetHl (m : Fin 16) (ab : List AbRead)
  /-- ADC_READY (R51): 20 µs after power-up the ADC samples become valid, READY is set and the calibration and clock-recovery loops start. -/
  | adcReady (n : Fin 8)
  /-- AFE_GAIN_UPDATE (R50): Once per 1 ms the automatic gain moves one code toward its target percentile. -/
  | afeGainUpdate (n : Fin 8) (pct : Nat)
  /-- OFFSET_LOOP_STEP (R54): A slice's offset accumulation completes and its offset trim steps toward zero mean. -/
  | offsetLoopStep (n : Fin 8) (slice : Fin 96)
  /-- GAIN_LOOP_STEP (R54): A slice's gain accumulation completes and its gain trim steps toward the mean over all slices. -/
  | gainLoopStep (n : Fin 8) (slice : Fin 96)
  /-- SKEW_LOOP_STEP (R54): A slice's skew accumulation completes and its skew trim steps against the sign of the sum. -/
  | skewLoopStep (n : Fin 8) (slice : Fin 96)
  /-- SLICE_TRIM_WRITE (R56): A write of LL_ADC_SLICE_TRIM sets the selected slice's trims and restarts its accumulations. -/
  | sliceTrimWrite (n : Fin 8) (ofs gain skew : Int)
  /-- ADC_FACTORY (R57): Writing LL_ADC_CAL.FACTORY copies every slice's kept factory trims into its trims in use. -/
  | adcFactory (n : Fin 8)
  /-- ADC_FG_START (R57): Writing FG_START begins a foreground calibration, or is dropped with FG_ERR. -/
  | adcFgStart (n : Fin 8)
  /-- ADC_FG_DONE (R57): After 1.2 ms the input is reconnected, the new trims are written and FG_BUSY clears. -/
  | adcFgDone (n : Fin 8) (trims : List (Int × Int × Int))
  /-- CDR_LOCK_INTERVAL (R62): At the end of each 4096-dpclk interval the frequency estimate updates and LOCKED, FREQ_RANGE and MISMATCH are evaluated. -/
  | cdrLockInterval (n : Fin 8)
  /-- CDR_PHASE_WRITE (R64): A write of LL_CDR_PHASE in OPEN mode moves the interpolator toward the value one step per dpclk. -/
  | cdrPhaseWrite (n : Fin 8) (phase : Fin 128)
  /-- SPI_OE_START (R70): A START write begins an optical-engine SPI transaction or is refused with LEN or BUSY. -/
  | spiOeStart (ctrl : Word)
  /-- SPI_OE_TRANSACTION_END (R69): An SPI transaction ends, RXBUF is written, and the poll test runs if enabled. -/
  | spiOeTransactionEnd (rx : List Byte)
  /-- OE_ALARM_ACCEPT (R73): The low time reaches DEBOUNCE, the alarm is accepted, ALARM_EV is set and the squelch holds. -/
  | oeAlarmAccept (us : Nat)
  /-- OE_GPIO_EDGE (R74): An edge on an OE_GPIO input with its IRQ enable set sets GPIO_EV. -/
  | oeGpioEdge (k : Fin 4) (level : Bool)
  /-- EQ_PIP_UPDATE (R85): At each receive pip boundary the LMS engine updates coefficients and pending coefficient writes, snapshots and restores act. -/
  | eqPipUpdate (n : Fin 8) (sub : Nat) (volts : List Int) (errs : List (Int × Int)) (coefUe snapUe : Bool) (tileUe : Option (Nat × Bool))
  /-- EQ_PERIODIC_SNAPSHOT (R92): Every 2^SHIFT pips while converged the lane takes a snapshot. -/
  | eqPeriodicSnapshot (n : Fin 8)
  /-- EQ_SNAP_NOW (R92): A write of SNAP_NOW requests a snapshot at the next pip boundary. -/
  | eqSnapNow (n : Fin 8)
  /-- EQ_RESTORE (R93): A write of RESTORE requests a snapshot restore at the next pip boundary. -/
  | eqRestore (n : Fin 8)
  /-- EQ_REINIT (R94): A write of REINIT requests the initial coefficients at the next pip boundary. -/
  | eqReinit (n : Fin 8)
  /-- EQ_COEF_WRITE (R88): A write of LL_EQ_COEF sets a coefficient or pair entry at the next pip boundary. -/
  | eqCoefWrite (n : Fin 8) (value : BitVec 16)
  /-- EQ_HIST_START (R96): A write of HIST_START starts or restarts a histogram window. -/
  | eqHistStart (n : Fin 8)
  /-- EQ_HIST_WINDOW_END (R96): A histogram window ends, counts are copied and the BER estimate updates. -/
  | eqHistWindowEnd (n : Fin 8)
  /-- TX_APPLY (R102): A write of LL_TX_CTRL.APPLY sets APPLY_PEND for the next transmit pip boundary. -/
  | txApply (n : Fin 8)
  /-- TX_PIP_BOUNDARY (R102): At a transmit pip boundary pending shaping values, PD_EN, DATA_MUTE, DELAY and squelch release take effect. -/
  | txPipBoundary (n : Fin 8) (h0 h1 : List Bool)
  /-- TX_FINE_WRITE (R104): A write of FINE moves the DAC clock phase one step per dpclk. -/
  | txFineWrite (n : Fin 8) (fine : Fin 64)
  /-- TX_EIDLE_SET (R107): Setting EIDLE squelches the lane and powers the DAC down within 100 ns. -/
  | txEidleSet (n : Fin 8)
  /-- TX_DAC_READY (R107): 2 µs after electrical idle ends the DAC is settled and LL_TX_STATUS.READY is set. -/
  | txDacReady (n : Fin 8)
  /-- CW_ARRIVAL (R117): The last soft value of a block enters the pool and its codewords arrive with their deadlines. -/
  | cwArrival (n : Fin 8) (cyc : Nat)
  /-- DEC_PASS_START (R118): A free slot starts the next pass of a waiting codeword in priority order. -/
  | decPassStart (n : Fin 8) (cyc : Nat)
  /-- DEC_PASS_RESULT (R121): A pass result reaches the reorder stage and the codeword becomes final or continues. -/
  | decPassResult (n : Fin 8) (cyc id : Nat)
  /-- CW_LOW_LATENCY_RELEASE (R125): In low-latency mode a final codeword whose predecessors are released leaves the reorder stage. -/
  | cwLowLatencyRelease (n : Fin 8) (cyc : Nat)
  /-- CW_DEADLINE (R124): A codeword's deadline cycle arrives and it is released, as a deadline release if not final. -/
  | cwDeadline (n : Fin 8) (cyc : Nat)
  /-- HUNT_WINDOW_END (R114): A hunter window of 128 arrivals ends and candidates pass, confirm, fail or lock. -/
  | huntWindowEnd (n : Fin 8) (verdict : Bool)
  /-- LOCK_WINDOW_END (R115): A locked lane's window ends, bad windows are counted, and lock is lost after LOSS_WIN. -/
  | lockWindowEnd (n : Fin 8) (verdict : Bool)
  /-- DEC_REHUNT (R115): A write of REHUNT clears the lock at the next pip boundary and starts a new hunt. -/
  | decRehunt (n : Fin 8)
  /-- DEC_PIP_END (R132): At a lane pip end deadline bursts raise DL_BURST_EV and UNLOCKED pips are counted. -/
  | decPipEnd (n : Fin 8)
  /-- DEC_DEADLINE_WRITE (R129): A DEADLINE write changes D for the port at the next pip boundary, clamped to the seed. -/
  | decDeadlineWrite (n : Fin 8) (v : BitVec 3)
  /-- DEC_MAXPASS_WRITE (R130): A MAXPASS write changes the maximum passes at the next pip boundary, clamped to the seed. -/
  | decMaxpassWrite (n : Fin 8) (v : BitVec 3)
  /-- HL_RX_CONTROL_WRITE (R136): A write to a host receiver control replaces the adapted value within 1 µs. -/
  | hlRxControlWrite (m : Fin 16) (tap : Bool) (value : Nat)
  /-- HL_SIG_DET_CHANGE (R137): The input amplitude stays above or below its threshold for 1 µs and SIG_DET changes. -/
  | hlSigDetChange (m : Fin 16) (up : Bool)
  /-- HL_CDR_INTERVAL (R138): A host clock-recovery interval of 2^16 UI ends and CDR_LOCK is evaluated. -/
  | hlCdrInterval (m : Fin 16) (est : Int) (mse : Nat) (g : HostRx)
  /-- HL_TX_APPLY (R141): A write of HL_TX_CTRL.APPLY applies the pending coefficients, limited as R140 states. -/
  | hlTxApply (m : Fin 16)
  /-- HL_PRESET_LOAD (R141): A write of PRESET_LOAD loads and applies the named preset. -/
  | hlPresetLoad (m : Fin 16) (preset : Fin 8)
  /-- HL_TRAIN_RESTART (R143): A write of RESTART restarts training at SEND_TRAINING or WAIT_TX. -/
  | hlTrainRestart (m : Fin 16)
  /-- HL_TRAIN_ABORT (R143): A write of ABORT sends training to OFF, keeping coefficients. -/
  | hlTrainAbort (m : Fin 16)
  /-- HL_PARTNER_FRAME_LOCK (R143): The partner's training frames lock and training enters TRAIN_LOCAL. -/
  | hlPartnerFrameLock (m : Fin 16) (locked : Bool)
  /-- HL_PARTNER_REQUEST (R144): A partner coefficient, preset or precoding request is answered and applied. -/
  | hlPartnerRequest (m : Fin 16) (req : TrainReq)
  /-- HL_PARTNER_RESPONSE (R145): The partner responds to a request and the requester waits its settling window. -/
  | hlPartnerResponse (m : Fin 16) (resp : TrainResp)
  /-- HL_MEAS_WINDOW (R145): A measurement window ends, the SNR reading is judged and the next request of the loop is sent. -/
  | hlMeasWindow (m : Fin 16) (mse : Nat)
  /-- HL_PARTNER_READY (R143): The partner reports receiver ready and training moves toward LINK_READY. -/
  | hlPartnerReady (m : Fin 16)
  /-- HL_WAIT_TIMER (R143): The standard's wait timer expires and training enters SEND_DATA. -/
  | hlWaitTimer (m : Fin 16)
  /-- HL_TRAIN_TIMEOUT (R146): HL_TRAIN_TMO expires before LINK_READY and training enters FAIL. -/
  | hlTrainTimeout (m : Fin 16)
  /-- HL_HRETRAIN_HOLDOFF (R174): HHOLDOFF after a training FAIL expires and the device writes RESTART to the lane. -/
  | hlHretrainHoldoff (m : Fin 16)
  /-- HL_PAT_GEN_WRITE (R148): A write of HL_PAT.GEN replaces the transmitted symbols with a pattern and sends training to OFF. -/
  | hlPatGenWrite (m : Fin 16) (gen : Fin 8)
  /-- HL_PAT_CHECK_WINDOW (R149): The pattern checker locks after 64 agreeing symbols or loses lock on a bad 1024-symbol window. -/
  | hlPatCheckWindow (m : Fin 16) (syms : List (Fin 4))
  /-- HL_CHK_RESTART (R149): A write of CHK_RESTART clears the checker lock and count. -/
  | hlChkRestart (m : Fin 16)
  /-- HL_TX_READY (R150): 1 µs after electrical idle ends the host driver is settled, TX_READY is set and sending begins. -/
  | hlTxReady (m : Fin 16)
  /-- MARKER_PASSAGE (R154): An alignment marker passes a lane, its passage is recorded, and marker lock and skew are updated. -/
  | markerPassage (m : Fin 16) (dir : Dir) (sym : Nat) (locked : Bool) (lead : Nat)
  /-- PLAYOUT_DUE (R159): A codeword's play-out point arrives and its bits leave the hold buffer or a low-latency step or insertion occurs. -/
  | playoutDue (n : Fin 8) (id : Nat) (others : List (Nat × Nat)) (ins grow del shrink : Nat) (frame : Bool)
  /-- GBX_REARM (R160): A write of GBX_LL.REARM drops bits to return P to OFS. -/
  | gbxRearm (sl : Fin 8)
  /-- RS_CODEWORD_DECODE (R158): An RS(544,514) codeword is decoded and an uncorrectable one is counted and raises the trigger event. -/
  | rsCodewordDecode (sl : Fin 8) (dir : Dir) (corrected ago : Nat) (bad frame : Bool)
  /-- FILL_END (R163): Every fill cause has cleared and fill ends at the next symbol or frame start. -/
  | fillEnd (sl : Fin 8) (dir : Dir)
  /-- PTP_EVENT_FRAME (R165): A recognised PTP event frame in terminating framing is rewritten or queued and its checksums corrected. -/
  | ptpEventFrame (sl : Fin 8) (dir : Dir) (frame : List Byte) (arr dep : Int)
  /-- LINK_STATE_UP (R169): A line lane whose state's exit condition holds moves up one acquisition state. -/
  | linkStateUp (n : Fin 8)
  /-- LINK_STATE_TIMEOUT (R172): A state timer expires, TMO_EV is set and a retrain attempt starts under AUTO. -/
  | linkStateTimeout (n : Fin 8)
  /-- GAIN_TIMEOUT (R170): T_GAIN expires before the gain settles and the lane enters EQ_ACQ with GAIN_TMO. -/
  | gainTimeout (n : Fin 8)
  /-- RETRAIN_HOLDOFF_END (R174): HOLDOFF at DOWN after an attempt expires and the lane may climb. -/
  | retrainHoldoffEnd (n : Fin 8)
  /-- RETRAIN_NOW (R174): A write of RETRAIN_NOW clears ATTEMPTS and STOPPED and starts attempt 1. -/
  | retrainNow (n : Fin 8)
  /-- LINK_STABLE_TIMER (R174): The lane holds UP for STABLE and ATTEMPTS clears. -/
  | linkStableTimer (n : Fin 8)
  /-- LOS_WINDOW_END (R173): A 1 µs loss-of-signal window ends and LOS is set or cleared by its run counts. -/
  | losWindowEnd (n : Fin 8) (mean : Nat)
  /-- PORT_LOOP_WRITE (R177): A write of BN_PORT_CTRL.LOOP selects a loopback, or is rejected on an empty slot. -/
  | portLoopWrite (sl : Fin 8) (loop : Fin 4) (hretrain : Bool) (hholdoff : Byte)
  /-- PORT_LOOP_TAKE (R177): A new loopback takes effect at the next receive pip boundary of the reference lane. -/
  | portLoopTake (sl : Fin 8)
  /-- SB_FIRST_STAGE_OUTPUT (R180): Every 1024 symbols the first-stage decimator produces one output. -/
  | sbFirstStageOutput (n : Fin 8) (ago : Nat) (volts : List Int)
  /-- SB_ENGINE_VISIT (R182): The shared engine visits a lane and processes its waiting first-stage outputs through the stages. -/
  | sbEngineVisit (n : Fin 8)
  /-- SB_FIR_APPLY (R185): A write of SB_FIR_CTRL.APPLY takes the pending coefficients, shifts and K at the next fine output. -/
  | sbFirApply (n : Fin 8)
  /-- SB_POWER_WINDOW (R194): A power-monitor window ends and SB_PWR is written. -/
  | sbPowerWindow (n : Fin 8)
  /-- SB_NF_REPORT (R195): After 16 counted sub-blocks the lowest mean is written to SB_NF. -/
  | sbNfReport (n : Fin 8)
  /-- SLOE_SEND (R205): A write of SLOE_TX_CTRL.SEND queues a firmware packet, or is dropped or refused. -/
  | sloeSend (n : Fin 8) (ctrl : Word)
  /-- SLOE_PACKET_START (R205): The transmitter starts the highest-priority waiting packet at a symbol boundary. -/
  | sloePacketStart (n : Fin 8) (lead markAge : Nat)
  /-- SLOE_PACKET_END (R206): A packet's last symbol is sent and it ends SENT or opens an ACK window. -/
  | sloePacketEnd (n : Fin 8)
  /-- SLOE_ACK_WINDOW_EXPIRY (R206): The ACK window expires and the packet is resent or ends NO_ACK. -/
  | sloeAckWindowExpiry (n : Fin 8)
  /-- SLOE_CONFIG_CHANGE (R208): A change of SF, BW, fc or SYNC at the next symbol boundary drops the firmware packet and aborts reception. -/
  | sloeConfigChange (n : Fin 8)
  /-- SLOE_PREAMBLE_DETECT (R211): DET_PAIRS agreeing pairs above threshold detect a preamble and the receiver locks. -/
  | sloePreambleDetect (n : Fin 8) (m p : Int)
  /-- SLOE_SYNC_FOUND (R212): Two sync symbols are found and the receiver enters HEADER. -/
  | sloeSyncFound (n : Fin 8) (p : Int)
  /-- SLOE_FALSE_LOCK (R212): No expected chirp or sync for 8 symbols, or 66 symbols without sync, returns to SEARCH. -/
  | sloeFalseLock (n : Fin 8)
  /-- SLOE_HEADER_DONE (R214): The 16 header symbols are decoded and checked for CRC, source and length. -/
  | sloeHeaderDone (n : Fin 8) (shifts : List Nat) (age markAge : Nat)
  /-- SLOE_RECEPTION_END (R216): The payload ends and the reception is stored, acknowledged, discarded or passed to the transmitter. -/
  | sloeReceptionEnd (n : Fin 8) (syms : List (Bool × Nat)) (age markAge : Nat)
  /-- SLOE_RX_VALID_CLEAR (R216): Writing 1 to SLOE_RX_STATUS.VALID frees the receive buffer. -/
  | sloeRxValidClear (n : Fin 8)
  /-- SLOE_NF_REPORT (R221): After 16 counted search windows the receiver writes SLOE_NF. -/
  | sloeNfReport (n : Fin 8) (p : Nat)
  /-- SLOE_TR_WINDOW (R222): A timing receiver window of 2^AVG s ends and SLOE_TR_FREQ updates. -/
  | sloeTrWindow (t : Fin 2) (ppb : Int) (cover : Fin 17) (tracking : Bool)
  /-- TIME_ACTIVE_WRITE (R226): A write of TIME_CTRL.ACTIVE retargets the active timescale, or is dropped for an invalid domain. -/
  | timeActiveWrite (k : Fin 2) (slew : Byte)
  /-- TIME_SET (R225): A write of TIME_CMD.SET loads TIME_SET at the next tclk and makes the domain valid. -/
  | timeSet (k : Fin 2)
  /-- TIME_STEP (R227): A write of TIME_CMD.STEP adds TIME_STEP to the domain and steps or slews the active timescale. -/
  | timeStep (k : Fin 2)
  /-- TIME_MEAS_SUBMIT (R229): A write of TIME_MEAS_HI submits a measurement to a domain whose source is MEAS. -/
  | timeMeasSubmit (k : Fin 2) (hi : Word)
  /-- PPS_EDGE (R229): A selected PPS_IN edge is stamped and, with SRC = PPS, drives the servo. -/
  | ppsEdge (falling : Bool) (sub : Nat)
  /-- HOLDOVER_ENTRY (R230): HOLD_N expected intervals pass without a measurement and the domain enters holdover. -/
  | holdoverEntry (k : Fin 2)
  /-- TIME_WRAP (R223): A domain counter wraps from S = 2^48 − 1 to 0 and sets WRAP_EV. -/
  | timeWrap (k : Fin 2)
  /-- TPO_PULSE (R240): A pulse output's timescale reaches a scheduled time and the pulse begins. -/
  | tpoPulse (k : Fin 4)
  /-- TPO_PULSE_END (R240): WIDTH ns after the leading edge the pulse ends. -/
  | tpoPulseEnd (k : Fin 4)
  /-- TRIG_SET_FIRE (R243): A lane comparator set fires under its type and reports an event to the sequencer. -/
  | trigSetFire (n : Fin 8) (k : Fin 4) (c : Fin 72)
  /-- CAP_EVENT_INPUT (R245): A stamped trigger event reaches the sequencer. -/
  | capEventInput (input : Fin 67)
  /-- CAP_STREAM_RECORD (R251): A stream's units are written as a record into the ring. -/
  | capStreamRecord (st : Fin 16) (missing : Nat) (absent : Bool) (mstamp : Int) (units : Nat)
  /-- TRIGB_FRAME_RECEIVED (R257): A trigger-bus frame is received, its mark stamped, and it is acted on or counted as an error. -/
  | trigbFrameReceived (bits : BitVec 11)
  /-- TRG_SEND_WRITE (R258): A TRG_SEND write queues a frame at the driver or is dropped with SEND_REJ. -/
  | trgSendWrite (w : Word)
  /-- TRG_CAL_START (R260): A write of TRG_CAL.START makes the driver send CAL(DEV). -/
  | trgCalStart (dev : Fin 64)
  /-- CAL_ANSWER_RECEIVED (R260): Device i receives the answer, computes d and sets CAL_OK or CAL_FAIL. -/
  | calAnswerReceived (r : Nat)
  /-- FABRIC_READ (R267): An initiator's read returns OK, POISON, NOTINIT, RSVD, OFFLINE or UNMAPPED with its data. -/
  | fabricRead (init addr size : Nat) (find : EccFind) (env : WrEnv)
  /-- MEMORY_WRITE (R276): A write to a memory is stored or gathered in a merge buffer. -/
  | memoryWrite (init : Fin 16) (addr : Nat) (data : List Byte) (find : EccFind)
  /-- MERGE_FLUSH (R276): A merge-buffer entry is flushed on timeout or need and merged with the old data. -/
  | mergeFlush (addr : Nat) (find : EccFind)
  /-- STALE_REPLY_DISCARD (R295): A reply carrying an outdated generation is discarded and counted. -/
  | staleReplyDiscard (target : Fin 31) (tg : Byte) (initiator : Fin 31) (ig : Byte)
  /-- SCRUB_VISIT (R270): The scrubber reads a word or line and corrects or acts on what it finds. -/
  | scrubVisit (m : Fin 9) (loc : Nat) (find : EccFind) (race wrap : Bool) (lane : Fin 8) (good : Bool)
  /-- BMAP_UNMARK (R282): A W1C write of MEM_BMAP unmarks granules. -/
  | bmapUnmark (w : Word)
  /-- IRQ_CLAIM_READ (R301): A read of IRQ_CLAIM returns and claims the highest-priority qualifying source. -/
  | irqClaimRead (c : Fin 4)
  /-- IRQ_COMPLETE_WRITE (R301): A write of IRQ_COMPLETE ends a claim and re-offers a still-pending source. -/
  | irqCompleteWrite (n : Fin 256)
  /-- IRQ_SW_SET (R297): A write of IRQ_SW_SET makes software interrupt sources pending. -/
  | irqSwSet (bits : BitVec 4)
  /-- PRF_OVERFLOW (R303): A performance counter wraps, sets its PRF_OVF bit and may fire its source. -/
  | prfOverflow (u : Fin 6) (k : Fin 8) (pc : BitVec 64)
  /-- PRF_SNAP_RP_WRITE (R306): Firmware advances PRF_SNAP_RP to consume records. -/
  | prfSnapRpWrite (v : Word)
  /-- BRM_PORT_ENABLE (R313): Setting BRM_PCTRL.EN moves the port from DISABLED to DETECT. -/
  | brmPortEnable (p : Fin 3)
  /-- BRM_PORT_DISABLE (R316): Clearing EN takes the port to DISABLED. -/
  | brmPortDisable (p : Fin 3)
  /-- BRM_DETECT_PROBE (R313): Every 1 ms a receiver probe runs and a found termination enters TRAIN. -/
  | brmDetectProbe (p : Fin 3) (t0 t1 : Bool)
  /-- BRM_MARKER_RECEIVED (R309): A MARKER block arrives, reloading the descrambler and updating marker lock and deskew. -/
  | brmMarkerReceived (p : Fin 3) (l : Fin 2) (b : List Byte) (spaced skewed : Bool) (hdr ctrl stuff : Nat)
  /-- BRM_LOCK_LOSS (R313): Block or marker lock is lost on a lane, taking an ACTIVE port back to TRAIN. -/
  | brmLockLoss (p : Fin 3) (l : Fin 2) (block cdr : Bool)
  /-- BRM_LANE_WAIT_EXPIRY (R313): LANE_WAIT passes after the first lane's lock and the port enters CAP_EXCH. -/
  | brmLaneWaitExpiry (p : Fin 3)
  /-- BRM_CAP_RECEIVED (R314): A CAP block arrives and the port may enter ACTIVE or return to TRAIN. -/
  | brmCapReceived (p : Fin 3) (b : List Byte)
  /-- BRM_TRAIN_TIMEOUT (R315): T_TRAIN expires and the port returns to DETECT, alternating mode under AUTO. -/
  | brmTrainTimeout (p : Fin 3)
  /-- BRM_RESTART (R316): A write of BRM_PCTRL.RESTART retrains the port. -/
  | brmRestart (p : Fin 3)
  /-- BRM_LOOP_WRITE (R319): A write of BRM_PCTRL.LOOP moves the port into or out of LOOP, or is rejected. -/
  | brmLoopWrite (p : Fin 3) (loop : Fin 4) (up : Bool)
  /-- MRD_RECEIVED (R326): A read request is checked, routed or carried out and completed. -/
  | mrdReceived (p : Fin 3) (seq : Fin 4096) (good : Bool) (k : Pkt) (find : EccFind) (env : WrEnv)
  /-- MWR_RECEIVED (R326): A write request is checked, routed or applied. -/
  | mwrReceived (p : Fin 3) (seq : Fin 4096) (good : Bool) (k : Pkt) (env : WrEnv)
  /-- CPL_RECEIVED (R329): A completion is routed to its requester or matched to an outstanding tag. -/
  | cplReceived (p : Fin 3) (seq : Fin 4096) (good : Bool) (k : Pkt)
  /-- ACK_RECEIVED (R323): An ACK frees acknowledged packets from the replay buffer. -/
  | ackReceived (p : Fin 3) (seq : Fin 4096) (crcOk : Bool)
  /-- NAK_RECEIVED (R323): A NAK makes the transmitter replay every unacknowledged packet. -/
  | nakReceived (p : Fin 3) (seq : Fin 4096) (crcOk : Bool)
  /-- CREDIT_RECEIVED (R324): A CREDIT block grants headers and data for one class. -/
  | creditReceived (p c : Fin 3) (h u : Fin 65536) (crcOk : Bool)
  /-- REPLAY_TIMEOUT (R323): 10 µs without ACK progress triggers a replay, and a fourth replay restarts the port. -/
  | replayTimeout (p : Fin 3)
  /-- COMPLETION_TIMEOUT (R329): A non-posted request's timer expires and it completes TIMEOUT. -/
  | completionTimeout (unit : Fin 4) (tag : Fin 1024)
  /-- ENUM_OFFER_RECEIVED (R332): An MSG_NP code 0x01 numbers the device, which enumerates its subtree or refuses. -/
  | enumOfferReceived (p : Fin 3) (seq : Fin 4096) (good : Bool) (k : Pkt)
  /-- IRQ_MESSAGE (R334): An IRQ message at the root sets BRM_FIRQ and sends MSI-X. -/
  | irqMessage (p : Fin 3) (seq : Fin 4096) (good : Bool) (k : Pkt)
  /-- TRIG_MESSAGE (R334): A TRIG message at the driver queues a bus TRIGGER frame. -/
  | trigMessage (p : Fin 3) (seq : Fin 4096) (good : Bool) (k : Pkt)
  /-- TIME_MESSAGE (R229): A Bramble TIME message drives a BRAMBLE-sourced domain's servo or is discarded. -/
  | timeMessage (p : Fin 3) (seq : Fin 4096) (good : Bool) (k : Pkt)
  /-- PCIE_READ (R336): A host read through BAR0 or BAR2 is forwarded and its status mapped to a PCIe completion. -/
  | pcieRead (tag : Fin 1024) (bar2 : Bool) (ofs be len : Nat) (find : EccFind) (env : WrEnv)
  /-- PCIE_WRITE (R336): A host write through BAR0 or BAR2 is forwarded as posted. -/
  | pcieWrite (bar2 : Bool) (ofs be : Nat) (data : List Nat) (poisoned : Bool) (env : WrEnv)
  /-- SPI_WRITE (R338): An SPI WRITE command passes N + 1 dwords to the bridge, or is dropped with WR_ERR. -/
  | spiWrite (addr : BitVec 48) (data : List Nat) (whole : Bool) (find : EccFind) (env : WrEnv)
  /-- SPI_READ (R338): An SPI READ command returns 0xA5, the status and the data once ready. -/
  | spiRead (addr : BitVec 48) (n : Byte) (abandoned : Bool) (find : EccFind) (env : WrEnv)
  /-- I3C_PRIVATE_WRITE (R339): An I3C private write with data is a bridge WRITE. -/
  | i3cPrivateWrite (addr : BitVec 48) (data : List Nat) (find : EccFind) (env : WrEnv)
  /-- I3C_READ_SETUP (R339): An I3C private write of address and N alone sets up a READ. -/
  | i3cReadSetup (addr : BitVec 48) (n : Byte) (find : EccFind) (env : WrEnv)
  /-- I3C_ENTDAA (R339): ENTDAA assigns the I3C dynamic address. -/
  | i3cEntdaa (addr : Fin 128)
  /-- BRIDGE_REQUEST_DONE (R340): The bridge's request completes and a waiting request is taken. -/
  | bridgeRequestDone (find : EccFind) (env : WrEnv)
  /-- BOOT_B0 (R343): B0 waits for zero-fill, samples straps, reads the journal, rolls back armed writes and counts interrupted steps. -/
  | bootB0 (straps : BitVec 2)
  /-- BOOT_B2 (R343): B2 locks the system PLLs and switches mclk to 1.5 GHz. -/
  | bootB2 (ref up : Bool)
  /-- BOOT_B3 (R343): B3 reads the factory and boot configuration records and loads spares and I3C_PID. -/
  | bootB3 (fac0 fac1 : Option FactoryRec)
  /-- BOOT_B5 (R280): B5 trains the LPDDR6 channels or boots without them. -/
  | bootB5 (trained : BitVec 4)
  /-- BOOT_B6 (R343): B6 loads factory or retained trims and calibration records. -/
  | bootB6 (fac : List (Int × Int × Int)) (cal : List (Option (List (Int × Int × Int))))
  /-- BOOT_WATCHDOG (R345): A step watchdog expires and forces a WARM reset. -/
  | bootWatchdog (k : Fin 5)
  /-- BOOT_FAIL_CLEAR (R344): A W1C write of BOOT_FAIL clears F and LEVEL in the journal. -/
  | bootFailClear (second : Bool) (w : Word)
  /-- STN_PUSH (R350): A write of STN_CMD.PUSH queues a page write or is refused with ERR. -/
  | stnPush (page : Fin 131072) (journal : Bool)
  /-- STN_WINDOW_WRITE (R347): A write to the Stone read window is dropped and counted. -/
  | stnWindowWrite (init : Fin 16) (ofs : Fin 33554432)
  /-- SEC_VERIFY_FW (R359): The VERIFY_FW command verifies a firmware image. -/
  | secVerifyFw (mr : BitVec 3)
  /-- SEC_VERIFY_APP (R359): The VERIFY_APP command verifies and measures an applet. -/
  | secVerifyApp (mr : BitVec 3)
  /-- SEC_EXTEND (R361): The EXTEND command extends MR5 to MR7 with a digest, or refuses with STATE. -/
  | secExtend (mr : BitVec 3)
  /-- SEC_CHALLENGE (R365): The CHALLENGE command draws a fresh 32-byte challenge. -/
  | secChallenge (mr : BitVec 3)
  /-- SEC_LC_GO (R366): The LC_GO command verifies a token and starts a key command or life-cycle transition. -/
  | secLcGo (mr : BitVec 3) (k : Fin 5)
  /-- SEC_SVN_BUMP (R355): The SVN_BUMP command programs FW_SVN up to the running image's SVN. -/
  | secSvnBump (mr : BitVec 3)
  /-- IDLE_EXIT (R371): A core leaves WFI and IDLE ends. -/
  | idleExit (c : Fin 4)
  /-- PWR_GO_SLEEP (R370): PWR_CTRL.GO = SLEEP requests SLEEP, or is dropped with GO_REJ. -/
  | pwrGoSleep (en quiet : Bool)
  /-- PWR_GO_DEEP (R370): PWR_CTRL.GO = DEEP requests DEEP, or is dropped with GO_REJ. -/
  | pwrGoDeep (en quiet : Bool)
  /-- PWR_GO_OFF (R370): PWR_CTRL.GO = OFF requests OFF. -/
  | pwrGoOff (en quiet : Bool)
  /-- PWR_GO_WAKE (R377): PWR_CTRL.GO = WAKE wakes the device from SLEEP. -/
  | pwrGoWake (en : Bool) (k : Fin 8)
  /-- PWR_GO_RUN_CLK (R381): PWR_CTRL.GO = RUN_CLK relocks the PLLs and switches mclk. -/
  | pwrGoRunClk (en : Bool)
  /-- VDD_LOSS (R376): VDD stays below 0.66 V for 2 µs outside DEEP and OFF and the device goes to OFF_LOST. -/
  | vddLoss (k : Fin 6) (mask : List Bool)
  /-- WAKE_PIN (R377): WAKE high for 10 µs with WAKE_EN starts a wake. -/
  | wakePin (k : Fin 8)
  /-- RIND_WAKE_TIMER (R377): The Rind wake timer expires and starts a wake. -/
  | rindWakeTimer (k : Fin 8)
  /-- BRAMBLE_WAKE_BEACON (R378): A signal for more than 4 µs on an enabled Bramble port wakes the device from SLEEP. -/
  | brambleWakeBeacon (p : Fin 3) (k : Fin 8)
  /-- PCIE_DETECT_WAKE (R377): PCIe receiver detection by the host wakes the root from SLEEP. -/
  | pcieDetectWake (k : Fin 8)
  /-- THM_SAMPLE (R386): The sensors sample and are tested, excluded, combined into THM_MAX and compared with thresholds. -/
  | thmSample (r : List Int) (k : Fin 5)
  /-- THM_STOP_COMPLETE (R392): The gasp, drain and load end, or STOP_T expires, and the stop completes into thermal shutdown. -/
  | thmStopComplete (late : Bool)
  /-- THM_TH_WRITE (R389): A write of THM_TH sets the thresholds or is dropped with TH_REJ. -/
  | thmThWrite (w : Word)
  /-- MEM_FILL_START (R283): A write of MEM_FILL_CTRL.START starts the FILL engine over MEM_FILL_COUNT granules from MEM_FILL_BASE, or refuses it with ZERO, RANGE, UNTRAINED, BUSY or CONFLICT. -/
  | memFillStart (mode : Bool)
  /-- LPDDR6_TEMP_READ (R280): Every 32 ms the controller reads the LPDDR6 devices' temperature report and sets the refresh rate from it. -/
  | lpddr6TempRead (code : Nat)
  /-- BRM_LFREQ_UPDATE (R315): Every 1 ms each Bramble lane updates BRM_LFREQ, and in NATIVE an estimate beyond ±0.5 ppm sets FREQ_ERR_EV and holds the lane short of marker lock until it returns within limits. -/
  | brmLfreqUpdate (p : Fin 3) (l : Fin 2) (ppm : Int) (prbs : Nat)
  /-- BRM_ACK_TIMER (R323): 1 µs after accepting a packet without yet acknowledging it, the receiver sends an ACK. -/
  | brmAckTimer (p : Fin 3)
  /-- PCIE_LINK_CHANGE (R336): The PCIe link at the root comes up or goes down and PCI_STATUS.LINK_UP changes. -/
  | pcieLinkChange (up : Bool)
  /-- POWER_ON (R10): VDD comes up and the device takes a POR, clearing everything except the Rind domain. -/
  | powerOn
  /-- RIND_RESET (R10): VDD_RIND is applied and the Rind domain, retention SRAM and BOOT and Rind block take their reset values. -/
  | rindReset
  /-- TOP_LOCK_SET (R8): Writing TOP_LOCK.LOCK locks every RWL field until the next POR or WARM reset. -/
  | topLockSet
  /-- SEED_ABORT (R40): An ABORT ends a load in phases 1 to 4 as ABANDONED and is dropped in phases 5 to 7. -/
  | seedAbort
  /-- SEED_HEADER_DONE (R37): The header has been read and checked and the image copied to the private buffer, and verification begins. -/
  | seedHeaderDone
  /-- SEED_RESTART (R44): The pool clock relocks and the bunch's lanes start at DOWN, or stay disabled under HOLD_LANES. -/
  | seedRestart
  /-- SPI_OE_POLL_GAP (R71): The poll gap of 2^GAP µs expires and the transaction is repeated. -/
  | spiOePollGap
  /-- SPI_OE_POLL_TIMEOUT (R71): The poll timeout expires and the controller ends with POLL_TIMEOUT. -/
  | spiOePollTimeout
  /-- OE_ALARM_FALL (R73): OE_ALARM_N falls and the low time starts accumulating. -/
  | oeAlarmFall
  /-- OE_ALARM_RISE (R73): OE_ALARM_N rises, ending the alarm squelch if ALARM_EV is clear. -/
  | oeAlarmRise
  /-- OE_ALARM_EV_CLEAR (R73): Clearing ALARM_EV ends the squelch at once if the ball is high. -/
  | oeAlarmEvClear
  /-- SB_SYNC_WRITE (R189): A write of SB_CTRL.SYNC restarts the decimation phase of every READY lane. -/
  | sbSyncWrite
  /-- SLOE_GASP_SEND (R207): A write of SLOE_GASP.SEND sends DYING_GASP on every enabled lane. -/
  | sloeGaspSend
  /-- TIME_SLEW_END (R226): The remainder falls to 0.8 ns and the active timescale joins its target. -/
  | timeSlewEnd
  /-- STAMP_QUEUE_POP (R237): A read of TIME_SQ3 removes the head entry of the stamp queue. -/
  | stampQueuePop
  /-- SEQ_WINDOW_EXPIRY (R246): The active timescale passes a state's window plus 1 µs and the sequencer returns to state 0. -/
  | seqWindowExpiry
  /-- CAP_ARM (R249): A write of CAP_CTRL.ARM checks the streams and arms a capture or sets ARM_ERR. -/
  | capArm
  /-- CAP_STOP (R256): A write of CAP_CTRL.STOP ends the capture STOPPED. -/
  | capStop
  /-- CAP_FORCE (R247): A write of CAP_CTRL.FORCE triggers the capture at once. -/
  | capForce
  /-- CAP_SW_EV (R245): A write of CAP_CTRL.SW_EV raises the SW trigger input. -/
  | capSwEv
  /-- CAP_COMPLETE (R250): The kept units reach CAP_LEN and the capture ends COMPLETE. -/
  | capComplete
  /-- DRAIN_GRANULE_DONE (R255): The drain writes a granule completely, marks it, and ends TRUNC near the region end. -/
  | drainGranuleDone
  /-- DRAIN_FINISHED (R255): The ring has drained and the capture state moves from DRAINING to DONE. -/
  | drainFinished
  /-- TRIGB_FRAME_LAUNCH (R258): The driver launches a queued frame on the bus. -/
  | trigbFrameLaunch
  /-- BUS_EVENT_ACT (R259): The fleet instant of a bus event arrives and the device acts on it. -/
  | busEventAct
  /-- CAL_PROBE_LAUNCH (R260): 256 ns after CAL(i) arrives device i drives its probe. -/
  | calProbeLaunch
  /-- CAL_ANSWER_LAUNCH (R260): 256 ns after the probe arrives the driver sends its answer. -/
  | calAnswerLaunch
  /-- CAL_TIMEOUT (R260): No answer or probe arrives within 2 µs and CAL_FAIL or NO_PROBE is set. -/
  | calTimeout
  /-- ZERO_FILL_DONE (R262): On-chip zero-fill ends and ZFILL clears. -/
  | zeroFillDone
  /-- LPDDR6_WIPE_DONE (R263): The life-cycle wipe of LPDDR6 ends and the init bitmap is cleared. -/
  | lpddr6WipeDone
  /-- DQS_TRACK (R280): Every 1 ms the controller tracks DQS drift, pausing each channel briefly. -/
  | dqsTrack
  /-- FILL_ABORT (R283): A write of ABORT stops the FILL at the next line. -/
  | fillAbort (lines : Nat)
  /-- FILL_GRANULE_DONE (R283): The FILL engine writes a granule's last line and marks it. -/
  | fillGranuleDone (late : List (Fin 16384))
  /-- PRF_CLEAR (R302): A write of PRF_CTRL.CLEAR zeroes every counter and PRF_OVF. -/
  | prfClear
  /-- PRF_SNAP_ENABLE (R304): Setting PRF_SNAP_CTRL.EN starts snapshot records or is refused with ERR. -/
  | prfSnapEnable
  /-- PRF_SNAPSHOT_RECORD (R304): Every N periods a 512-byte snapshot record is written to the ring. -/
  | prfSnapshotRecord
  /-- BRM_CLEANER_HOLDOVER (R317): Upstream lane 0 loses lock and the clock cleaner enters holdover. -/
  | brmCleanerHoldover
  /-- BRM_CLEANER_LOCK (R317): The clock cleaner locks to the upstream lane and the Bramble transmitters may send. -/
  | brmCleanerLock
  /-- ENUM_START (R332): A write of BRM_FCTRL.ENUM_START at the root begins enumeration or is refused. -/
  | enumStart
  /-- TIME_MSG_BROADCAST (R335): The root broadcasts a TIME message after a trigger-bus TIME event. -/
  | timeMsgBroadcast
  /-- PERST_N_RESET (R407): PERST_N at the root applies the PCIe fundamental reset. -/
  | perstNReset
  /-- SPI_STATUS (R338): An SPI STATUS command returns BUSY and WR_ERR, clearing WR_ERR. -/
  | spiStatus
  /-- I3C_PRIVATE_READ (R339): An I3C private read returns the status and data once ready, or is NACKed. -/
  | i3cPrivateRead
  /-- BOOT_B1 (R343): B1 reads the fuses and life-cycle state and resumes an unfinished transition wipe. -/
  | bootB1
  /-- BOOT_B4 (R343): B4 verifies, measures and copies a firmware image. -/
  | bootB4
  /-- BOOT_B7 (R343): B7 loads a seed slot or the ROM safe seed. -/
  | bootB7
  /-- BOOT_B8 (R343): B8 enables the PCIe endpoint at the root. -/
  | bootB8
  /-- BOOT_B9 (R343): B9 enables the Bramble ports and enumerates or waits for the upstream port. -/
  | bootB9
  /-- BOOT_B10 (R343): B10 closes the boot measurements. -/
  | bootB10
  /-- BOOT_B11 (R343): B11 writes BOOT_VEC, optionally TOP_LOCK, releases the cores and sets DONE. -/
  | bootB11
  /-- BOOT_RETRY (R345): A write of BOOT_CTRL.RETRY while stopped releases FAULT_N and begins an attempt at B0. -/
  | bootRetry
  /-- STN_ENTRY_DONE (R348): A queued page write, journaled or plain, completes and the next entry starts. -/
  | stnEntryDone
  /-- SEC_COMMAND_DONE (R359): A running SEC command ends, setting CMD_DONE and CMD_ERR. -/
  | secCommandDone
  /-- LC_TRANSITION_WIPE_DONE (R366): The transition's wipes end, LC_WIPED is programmed and a WARM reset follows. -/
  | lcTransitionWipeDone
  /-- ATT_START (R364): A write of SEC_ATT_CTRL.START copies the nonce and values and begins signing a report. -/
  | attStart
  /-- ATT_DONE (R364): Signing ends and the report is written in one burst. -/
  | attDone
  /-- IDLE_ENTRY (R371): Every core has waited in WFI for PWR_IDLE_T and the core clocks are gated. -/
  | idleEntry
  /-- SLEEP_AUTO_ENTRY (R372): With SLEEP_EN the conditions hold for PWR_SLEEP_T and SLEEP entry begins. -/
  | sleepAutoEntry
  /-- RUN_CLK_SWITCH_DONE (R381): The PLLs relock and mclk switches to the PLL clock. -/
  | runClkSwitchDone
  /-- LOW_POWER_ENTRY_DONE (R373): The entry steps to SLEEP, DEEP or OFF complete. -/
  | lowPowerEntryDone
  /-- DEEP_TIMER (R370): PWR_DEEP_T in SLEEP expires and entry to DEEP begins. -/
  | deepTimer
  /-- VDD_RETURN (R376): VDD becomes good, starting as POR from OFF_LOST or releasing a held wake. -/
  | vddReturn
  /-- SLEEP_BEACON_TIMER (R378): Every 1 ms each enabled port sends a sleep beacon. -/
  | sleepBeaconTimer
  /-- WAKE_STEP_READY (R379): A wake step's unit reports ready and the next step starts, or management is released. -/
  | wakeStepReady
  /-- WAKE_STEP_TIMEOUT (R380): A wake step times out, sets WAKE_FAIL and retries, or goes to OFF with FAULT_N. -/
  | wakeStepTimeout
  /-- THM_PROFILE_STEP (R390): STEP_T passes and the active profile rises or falls by one. -/
  | thmProfileStep
deriving DecidableEq, Repr

end Sys2Proof
end

