-- ==== Sys2Proof/Decode.lean ====
section
/-! DEFINITION. The commands a word spells. spec/opcode_table.json gives its rows no bits, so a word spells none
(assumption 1). -/

namespace Sys2Proof

/-- The command that a word of `nbits` bits spells by the table's bits: the table gives no row any bits. -/
def decodeTableWord (nbits w : Nat) : Option Instr :=
  match nbits, w with
  | _, _ => none

end Sys2Proof
end

