-- ==== Sys2Proof/Config.lean ====
section
/-! DEFINITION. What the spec leaves open, as constants without a body: nothing in Lean can evaluate them, so every
statement holds for each of their values. Each is named in notes/assumptions. -/

namespace Sys2Proof.Config

/-- A free value: the `k`-th value the machine draws where the spec leaves a value open (assumption 7). -/
opaque freeValue : Nat → Nat

/-- The coefficients of transmitter preset `p` of IEEE 802.3 for a host lane rate (false: 212.5 Gb/s), in the order
c(-3), c(-2), c(-1), c(1), c(2); none where the standard defines no such preset (R141; the values stand in the
standard, which the spec does not repeat; assumption 9). -/
opaque presetCoefs : Bool → Nat → Option (List Int)

/-- The order of the columns of the 120 message bits in the parity-check matrix of the (128,120) inner code of IEEE 802.3dj, as swaps
that lead to it from a fixed order (R110; the standard's, not the spec's; assumption 9). -/
opaque h128Swaps : List (Nat × Nat)

/-- Which bits of an L200 lane's stream, counted from the start of codeword lock, make up bit `j` of its codeword `k`, given the number
of the lock (R110, R117: framing and interleave are the standard's; assumption 9). -/
opaque l200Bit : Nat → Nat → Nat → Nat

/-- Symbol `i` of a transmit pip of an L200 lane, given the bits of the 90 inner codewords that encode the pip's host bits: framing and
interleave are those of IEEE 802.3dj (R110, R153), which may carry bits of earlier pips; `k` numbers the free value (assumptions 7 and 9). -/
opaque l200Symbol : Nat → List Bool → Nat → Fin 4

/-- Bit of a fill stream toward the host (0) or the line (1), given the number of the free value: a valid stream of IEEE 802.3 of Local
Fault ordered sets or error blocks, which the spec does not write out (R162; assumption 9). -/
opaque fillBit : Nat → Nat → Nat → Bool

/-- Bit of a host-lane stream that terminating framing has decoded and encoded again, given whether the outer codeword it belongs to could
not be corrected, the number of the free value, and the bits that entered: the coding is the standard's, and may carry bits of
earlier pieces (R158; assumption 9). -/
opaque outerBit : Bool → Nat → List Bool → Nat → Bool

/-- The next bit of PRBS31 (false) or PRBS13 (true) after the bits before it, the last one least significant: the sequences behind PRBS31Q
and PRBS13Q are the standard's (R134, R148; assumption 9). -/
opaque prbsNext : Bool → Nat → Bool

/-- Symbol of the standard's SSPRQ pattern, as a level code (R134, R148; assumption 9). -/
opaque ssprq : Nat → Fin 4

/-- The taps of the half-band decimators of the sideband chain at the odd distances 2 j + 1 from the centre, in 2^-32: the spec gives
their number and bands, not their values (R184; assumption 9). -/
opaque halfBand : Nat → Int

/-- Whether a value of exactly 0 at the slicer is decided as the upper of its two levels: both are equally near zero,
and the spec states no choice (R76; assumption 9). -/
opaque sliceZero : Bool

/-- Which of the symbols whose path metrics tie the sequence detector decides for, given the four metrics (R83 states no choice;
assumption 22). -/
opaque vitTie : List Int → Nat

/-- Verification of a pure SLH-DSA-SHAKE-256s signature: context, message, public key, signature (R357; the algorithm is FIPS
205's, which the spec does not repeat; assumption 30). -/
opaque slhDsaVerify : List Byte → List Byte → List Byte → List Byte → Bool

/-- The public key and a hedged SLH-DSA-SHAKE-256f signature of the identity key (R362, R363): the 96 bytes the key pair is
made from; those bytes, the message and the randomiser. The algorithm is FIPS 205's (assumption 30). -/
opaque identityKey : List Byte → List Byte

/-- See `identityKey`. -/
opaque identitySign : List Byte → List Byte → Nat → List Byte

/-- The bytes in which B1 measures the fuse fields of R355 other than the UDS (vendor hash, serial number, LC_STATE, LC_WIPED,
owner hashes, revoked slots, FW_SVN, as numbers); the spec does not give their layout (assumption 31). -/
opaque fuseBytes : List Nat → List Byte

/-- The boot configuration record of default values, as B3 measures it; the spec does not give its bytes (R353, R361;
assumption 31). -/
opaque defaultRecord : List Byte

/-- What a byte of the capture store holds after the store's domain was switched off for the `k`-th time: its state is lost, and
the spec says nothing of what it then holds (R369; assumption 34). -/
opaque lostByte : Nat → Nat → Byte

/-- Whether a life-cycle state, as the fuse bits of LC_STATE, locks the RWL field of this key; the spec says that the state locks
RWL fields and names neither states nor fields (R8; assumption 70). -/
opaque lcLocks : Nat → Nat → Bool

/-- Byte of the boot ROM, whose contents the spec does not give (assumption 60). -/
opaque romByte : Nat → Byte

end Sys2Proof.Config
end

