-- ==== Sys2Proof/Machine/Fields.lean ====
section
/-! DEFINITION. The register list of the spec: one constructor of `Reg` per register heading (an array of
registers is one constructor, its words told apart by the instance number), one `Fld` per table row. Read from the
register tables of spec/00 to spec/22 (columns Bits, Field, Access, Reset, Meaning; R8, R11). -/

namespace Sys2Proof.Machine

/-- The registers of the register tables, in the order of the spec files. -/
inductive Reg where
  | SEED_CTRL
  | SEED_SRC_LO
  | SEED_SRC_HI
  | SEED_STATUS
  | SEED_VER_B0
  | SEED_VER_B1
  | SEED_BUD_B0
  | SEED_BUD_B1
  | SEED_PROF
  | SEED_RELOAD
  | SEED_RELOAD_LAST
  | LL_CDR_CTRL
  | LL_CDR_STATUS
  | LL_CDR_FREQ
  | LL_CDR_PHASE
  | LL_ADC_CTRL
  | LL_ADC_STATUS
  | LL_ADC_CLIP
  | LL_ADC_CAL
  | LL_ADC_SLICE_SEL
  | LL_ADC_SLICE_TRIM
  | SPI_OE_CTRL
  | SPI_OE_STATUS
  | SPI_OE_POLL
  | SPI_OE_POLL_TO
  | SPI_OE_PINS
  | SPI_OE_ALARM
  | SPI_OE_TXBUF
  | SPI_OE_RXBUF
  | LL_EQ_CTRL
  | LL_EQ_SHAPE
  | LL_EQ_MU
  | LL_EQ_CONV
  | LL_EQ_STATUS
  | LL_EQ_SNR
  | LL_EQ_LLR
  | LL_EQ_QCTRL
  | LL_EQ_BER
  | LL_EQ_SNAP_INT
  | LL_EQ_EXCL
  | LL_EQ_COEF_SEL
  | LL_EQ_COEF
  | LL_EQ_HIST
  | LL_TX_CTRL
  | LL_TX_STATUS
  | LL_TX_FIR
  | LL_TX_OVL
  | LL_TX_SKEW
  | LL_TX_CLIP
  | LL_TX_PEAK
  | LL_TX_PD
  | DEC_BSTATUS
  | DEC_CTRL
  | DEC_STATUS
  | DEC_LOCK
  | DEC_CW_LO
  | DEC_CW_HI
  | DEC_PASS
  | DEC_DLREL
  | DEC_FAIL
  | DEC_FLIPS
  | DEC_SPEC
  | DEC_SPEC_RES
  | DEC_MISC
  | DEC_UNLOCKED
  | DEC_OCC
  | DEC_FHIST
  | HL_CTRL
  | HL_RESET
  | HL_STATUS
  | HL_RX_CTLE
  | HL_RX_ADAPT
  | HL_RX_TAP_SEL
  | HL_RX_TAP
  | HL_RX_SNR
  | HL_TX_COEF0
  | HL_TX_COEF1
  | HL_TX_CTRL
  | HL_TRAIN_CFG
  | HL_TRAIN_TMO
  | HL_TRAIN_TH
  | HL_TRAIN_CTRL
  | HL_TRAIN_STATUS
  | HL_TRAIN_CNT
  | HL_PAT
  | HL_PAT_ERR
  | HL_PAT_USER
  | GBX_PSTATUS
  | GBX_EVENTS
  | GBX_SKEW
  | GBX_LL
  | GBX_LL_CNT
  | GBX_LL_BLK
  | PCS_CTRL
  | PCS_STATUS
  | PCS_RX_CW
  | PCS_RX_SYM
  | PCS_RX_UNC
  | PCS_TX_CW
  | PCS_TX_SYM
  | PCS_TX_UNC
  | PCS_PTP_CNT
  | PCS_PTP_SKIP
  | BN_LINK_CTRL
  | BN_LINK_STATUS
  | BN_LINK_LOS
  | BN_LINK_TMR
  | BN_LINK_TMR2
  | BN_LINK_CNT
  | BN_PORT_CTRL
  | BN_PORT_STATUS
  | SB_CTRL
  | SB_STATUS
  | SB_STAGES
  | SB_SHIFT
  | SB_DC
  | SB_FAST
  | SB_MON
  | SB_PWR
  | SB_NF
  | SB_LSTATUS
  | SB_SAT
  | SB_FIR_CTRL
  | SB_FIR_SEL
  | SB_FIR_COEF
  | SLOE_CAPTURE
  | SLOE_GASP
  | SLOE_LCFG
  | SLOE_DET
  | SLOE_ID
  | SLOE_RX
  | SLOE_TX_CTRL
  | SLOE_TX_STATUS
  | SLOE_RX_STATUS
  | SLOE_RX_HDR
  | SLOE_RX_TS
  | SLOE_NF
  | SLOE_RX_CNT0
  | SLOE_RX_CNT1
  | SLOE_RX_CNT2
  | SLOE_TX_CNT
  | SLOE_TR_CTRL
  | SLOE_TR_FREQ
  | SLOE_TR_STATUS
  | TIME_CTRL
  | TIME_STATUS
  | TIME_OFS01_LO
  | TIME_OFS01_HI
  | TIME_ACT_REM_LO
  | TIME_ACT_REM_HI
  | TIME_DCFG
  | TIME_DSTAT
  | TIME_T
  | TIME_SET
  | TIME_CMD
  | TIME_STEP_LO
  | TIME_STEP_HI
  | TIME_RATE
  | TIME_MEAS_LO
  | TIME_MEAS_HI
  | TIME_MEAS_INT
  | TIME_HOLD
  | TIME_BOUND
  | TIME_SQ
  | TIME_SQ_STAT
  | TIME_PCFG
  | TIME_LOPT
  | TIME_LASYM
  | TIME_MTX
  | TIME_MRX
  | TIME_PPS
  | TIME_PPS_TS
  | TIME_TPO_CTRL
  | TIME_TPO_START
  | TIME_TPO_PERIOD
  | TIME_TPO_CNT
  | CAP_CTRL
  | CAP_STATUS
  | CAP_PRE
  | CAP_LEN
  | CAP_DRAIN_BASE
  | CAP_DRAIN_SIZE
  | CAP_RESULT_START
  | CAP_RESULT_UNITS
  | CAP_TSTAMP
  | CAP_GAPS
  | CAP_EVF
  | CAP_TMATCH
  | CAP_STREAM
  | CAP_SEQ_M
  | CAP_SEQ_CTRL
  | TRG_CTRL
  | TRG_STATUS
  | TRG_ALIGN
  | TRG_SEND
  | TRG_CAL
  | TRG_CNT
  | LL_TRG_CFG
  | LL_TRG_TH
  | LL_TRG_N
  | LL_TRG_CNT
  | MEM_CTRL
  | MEM_STATUS
  | MEM_GRANULES
  | MEM_FILL_BASE
  | MEM_FILL_COUNT
  | MEM_FILL_PAT_LO
  | MEM_FILL_PAT_HI
  | MEM_FILL_CTRL
  | MEM_FILL_STATUS
  | MEM_BMAP_SEL
  | MEM_BMAP
  | MEM_ACC_LOG_LO
  | MEM_ACC_LOG_HI
  | MEM_ACC_CNT
  | MEM_REMAP_SEL
  | MEM_REMAP
  | ECC_CTRL
  | ECC_SCRUB0
  | ECC_SCRUB1
  | ECC_CE_CNT0
  | ECC_CE_CNT1
  | ECC_CE_CNT2
  | ECC_CE_LAST_LO
  | ECC_CE_LAST_HI
  | ECC_UE_STATUS
  | ECC_UE_ADDR_LO
  | ECC_UE_ADDR_HI
  | ECC_UE_INFO
  | ECC_MSPARE_SEL
  | ECC_MSPARE
  | TOP_ID
  | TOP_RESET
  | TOP_LOCK
  | TOP_ACCESS_ADDR_LO
  | TOP_ACCESS_ADDR_HI
  | TOP_ACCESS_INFO
  | TOP_ACCESS_CNT
  | TOP_GEN
  | TOP_GEN_LL
  | TOP_GEN_HL
  | TOP_DISC
  | BN_RESET
  | LL_RESET
  | IRQ_SRC_CFG
  | IRQ_PEND
  | IRQ_THR
  | IRQ_CLAIM
  | IRQ_COMPLETE
  | IRQ_SW
  | IRQ_SW_SET
  | IRQ_PIN
  | PRF_CTRL
  | PRF_SNAP_CTRL
  | PRF_SNAP_BASE_LO
  | PRF_SNAP_BASE_HI
  | PRF_SNAP_SIZE
  | PRF_SNAP_WP
  | PRF_SNAP_RP
  | PRF_SNAP_STATUS
  | PRF_CYC_LO
  | PRF_CYC_HI
  | PRF_EVSEL
  | PRF_CNT
  | PRF_OVF
  | PRF_OVF_PC_LO
  | PRF_OVF_PC_HI
  | BRM_PCTRL
  | BRM_PSTATUS
  | BRM_PARTNER
  | BRM_PCNT
  | BRM_LSTATUS
  | BRM_LFREQ
  | BRM_LCNT0
  | BRM_LCNT1
  | BRM_LPRBS
  | BRM_CLK
  | BRM_FCTRL
  | BRM_FSTATUS
  | BRM_ROUTE
  | BRM_CTO
  | BRM_FCNT
  | BRM_FCNT2
  | BRM_FIRQ_LO
  | BRM_FIRQ_HI
  | BRM_LLCNT
  | PCI_CTRL
  | PCI_WIN
  | PCI_STATUS
  | PCI_CPL_LOG
  | SPI_CFG
  | I3C_CFG
  | I3C_PID
  | SPI_I3C_STATUS
  | BOOT_STATUS
  | BOOT_FAIL0
  | BOOT_FAIL1
  | BOOT_CTRL
  | BOOT_VEC_LO
  | BOOT_VEC_HI
  | RIND_REC
  | STN_SRC_LO
  | STN_SRC_HI
  | STN_CMD
  | STN_STATUS
  | STN_ABANDON
  | STN_WEAR_SEL
  | STN_WEAR
  | SEC_LC
  | SEC_SERIAL_LO
  | SEC_SERIAL_HI
  | SEC_KHASH
  | SEC_SRC_LO
  | SEC_SRC_HI
  | SEC_CMD
  | SEC_STATUS
  | SEC_LC_STATUS
  | SEC_CHAL
  | SEC_NONCE
  | SEC_ATT_DST_LO
  | SEC_ATT_DST_HI
  | SEC_ATT_CTRL
  | SEC_MR_SEL
  | SEC_MR
  | SEC_MR_CNT
  | PWR_CTRL
  | PWR_STATUS
  | PWR_IDLE_T
  | PWR_SLEEP_T
  | PWR_DEEP_T
  | PWR_CNT
  | RIND_WAKE
  | RIND_PWR
  | THM_CTRL
  | THM_TH
  | THM_XCHK
  | THM_STATUS
  | THM_MAX
  | THM_EXCL
  | THM_TS
  | THM_CNT
deriving DecidableEq, Repr

/-- The access types of R8. -/
inductive Acc where
  | rw | ro | wo | w1c | w1s | rc | rws | rwl
deriving DecidableEq, Repr

/-- The value the Reset column gives (R11): a constant, the host lane's index h (HL_TRAIN_CFG.TSEED), the line
lane's number n (SLOE_ID.TX_ID), or `g0` = 0x0C0 in LL_TX_FIR1 and 0 in the other LL_TX_FIR registers. -/
inductive Rst where
  | val (v : Nat) | laneIndex | laneNumber | firOne
deriving DecidableEq, Repr

/-- One field of a register table: its register, lowest bit, width, access type and reset value. -/
structure Fld where
  reg : Reg
  lo  : Nat
  w   : Nat
  acc : Acc
  rst : Rst
deriving DecidableEq, Repr

/-- The reset value of a field in instance `n` of its register. -/
def rstAt : Rst → Nat → Nat
  | .val v, _ => v
  | .laneIndex, n => n % 8
  | .laneNumber, n => n
  | .firOne, n => if n % 4 = 1 then 0x0C0 else 0

/-- The key under which a field of instance `n` of its register is held: register number and lowest bit, then the instance. -/
def fkey (f : Fld) (n : Nat) : Nat × Nat := (f.reg.ctorIdx * 32 + f.lo, n)

/-- SEED_CTRL.CMD (02): 0x0 none; 0x1 LOAD_FULL; 0x2 LOAD_BUNCH0; 0x3 LOAD_BUNCH1; 0x4 CHECK; 0x5 ABORT (R40). Other values are ignored. -/
def SEED_CTRL_CMD : Fld := ⟨.SEED_CTRL, 0, 4, .wo, .val 0⟩
/-- SEED_CTRL.SRC (02): 0b00 staging address in SEED_SRC_HI and SEED_SRC_LO; 0b01 Stone seed slot 0; 0b10 Stone seed slot 1; 0b11 refused with SOURCE. -/
def SEED_CTRL_SRC : Fld := ⟨.SEED_CTRL, 4, 2, .rw, .val 0⟩
/-- SEED_CTRL.WARM_EQ (02): 1: keep the equaliser coefficients of a lane whose mode and tap counts are unchanged (R43). 0: all lanes start from initial coefficients. -/
def SEED_CTRL_WARM_EQ : Fld := ⟨.SEED_CTRL, 6, 1, .rw, .val 1⟩
/-- SEED_CTRL.HOLD_LANES (02): 1: leave the loaded bunch's line lanes disabled after RESTART (R44). 0: start them at once. -/
def SEED_CTRL_HOLD_LANES : Fld := ⟨.SEED_CTRL, 7, 1, .rw, .val 0⟩
/-- SEED_SRC_LO.ADDR_LO (02): Local address bits [31:3] of the image source. -/
def SEED_SRC_LO_ADDR_LO : Fld := ⟨.SEED_SRC_LO, 3, 29, .rw, .val 0⟩
/-- SEED_SRC_HI.ADDR_HI (02): Local address bits [39:32] of the image source. -/
def SEED_SRC_HI_ADDR_HI : Fld := ⟨.SEED_SRC_HI, 0, 8, .rw, .val 0⟩
/-- SEED_STATUS.BUSY (02): 1 while a load or check runs. -/
def SEED_STATUS_BUSY : Fld := ⟨.SEED_STATUS, 0, 1, .ro, .val 0⟩
/-- SEED_STATUS.PHASE (02): 0 IDLE; 1 HEADER; 2 VERIFY; 3 STRUCTURE; 4 BUDGET; 5 QUIESCE; 6 APPLY; 7 RESTART (R37). -/
def SEED_STATUS_PHASE : Fld := ⟨.SEED_STATUS, 1, 3, .ro, .val 0⟩
/-- SEED_STATUS.RESULT (02): 0 none since reset; 1 ACCEPTED (applied, or checked without fault for CHECK); 2 REFUSED; 3 ABANDONED. -/
def SEED_STATUS_RESULT : Fld := ⟨.SEED_STATUS, 4, 2, .ro, .val 0⟩
/-- SEED_STATUS.ERR (02): Refusal code (R41). -/
def SEED_STATUS_ERR : Fld := ⟨.SEED_STATUS, 8, 8, .ro, .val 0⟩
/-- SEED_STATUS.ERR_ROW (02): Index of the first failing budget row (R32), or directory entry (R35); 0xFF for a header fault. -/
def SEED_STATUS_ERR_ROW : Fld := ⟨.SEED_STATUS, 16, 8, .ro, .val 0⟩
/-- SEED_STATUS.DONE (02): Set when a load or check ends, in any result. Raises the loader's interrupt. -/
def SEED_STATUS_DONE : Fld := ⟨.SEED_STATUS, 24, 1, .w1c, .val 0⟩
/-- SEED_STATUS.SHADOW_UE (02): Set when a tile reload fails on a shadow word (R47). Raises the loader's interrupt. -/
def SEED_STATUS_SHADOW_UE : Fld := ⟨.SEED_STATUS, 25, 1, .w1c, .val 0⟩
/-- SEED_VER_B0.VERSION (02): VERSION field of the image last applied to bunch 0; 0 under the ROM safe seed or with no seed. -/
def SEED_VER_B0_VERSION : Fld := ⟨.SEED_VER_B0, 0, 32, .ro, .val 0⟩
/-- SEED_VER_B1.VERSION (02): As SEED_VER_B0, for bunch 1. -/
def SEED_VER_B1_VERSION : Fld := ⟨.SEED_VER_B1, 0, 32, .ro, .val 0⟩
/-- SEED_BUD_B0.TAPS (02): Taps allocated, 0 to 192. -/
def SEED_BUD_B0_TAPS : Fld := ⟨.SEED_BUD_B0, 0, 8, .ro, .val 0⟩
/-- SEED_BUD_B0.SLOTS (02): Decoder slots allocated, 0 to 192. -/
def SEED_BUD_B0_SLOTS : Fld := ⟨.SEED_BUD_B0, 8, 8, .ro, .val 0⟩
/-- SEED_BUD_B0.REORDER (02): Reorder entries demanded, 0 to 3200. -/
def SEED_BUD_B0_REORDER : Fld := ⟨.SEED_BUD_B0, 16, 12, .ro, .val 0⟩
/-- SEED_BUD_B1.TAPS (02): As SEED_BUD_B0, for bunch 1. -/
def SEED_BUD_B1_TAPS : Fld := ⟨.SEED_BUD_B1, 0, 8, .ro, .val 0⟩
/-- SEED_BUD_B1.SLOTS (02): As SEED_BUD_B0, for bunch 1. -/
def SEED_BUD_B1_SLOTS : Fld := ⟨.SEED_BUD_B1, 8, 8, .ro, .val 0⟩
/-- SEED_BUD_B1.REORDER (02): As SEED_BUD_B0, for bunch 1. -/
def SEED_BUD_B1_REORDER : Fld := ⟨.SEED_BUD_B1, 16, 12, .ro, .val 0⟩
/-- SEED_PROF.COUNT_B0 (02): Profiles declared for bunch 0, 1 to 3; 0 with no seed. -/
def SEED_PROF_COUNT_B0 : Fld := ⟨.SEED_PROF, 0, 2, .ro, .val 0⟩
/-- SEED_PROF.COUNT_B1 (02): Profiles declared for bunch 1. -/
def SEED_PROF_COUNT_B1 : Fld := ⟨.SEED_PROF, 2, 2, .ro, .val 0⟩
/-- SEED_PROF.ACTIVE (02): Profile in force, 0 to 3, as set by thermal protection; each bunch applies R33. -/
def SEED_PROF_ACTIVE : Fld := ⟨.SEED_PROF, 4, 2, .ro, .val 0⟩
/-- SEED_RELOAD.CNT_B0 (02): Tile reloads in bunch 0; saturates at 0xFFFF. -/
def SEED_RELOAD_CNT_B0 : Fld := ⟨.SEED_RELOAD, 0, 16, .rc, .val 0⟩
/-- SEED_RELOAD.CNT_B1 (02): Tile reloads in bunch 1; saturates at 0xFFFF. -/
def SEED_RELOAD_CNT_B1 : Fld := ⟨.SEED_RELOAD, 16, 16, .rc, .val 0⟩
/-- SEED_RELOAD_LAST.TILE (02): Tile index within the bunch of the last reload attempt. -/
def SEED_RELOAD_LAST_TILE : Fld := ⟨.SEED_RELOAD_LAST, 0, 12, .ro, .val 0⟩
/-- SEED_RELOAD_LAST.BUNCH (02): Bunch of the last reload attempt. -/
def SEED_RELOAD_LAST_BUNCH : Fld := ⟨.SEED_RELOAD_LAST, 12, 1, .ro, .val 0⟩
/-- SEED_RELOAD_LAST.RESULT (02): 0b00 none since reset; 0b01 reloaded; 0b10 SHADOW_UE, not reloaded; 0b11 dropped because a load of the bunch was running. -/
def SEED_RELOAD_LAST_RESULT : Fld := ⟨.SEED_RELOAD_LAST, 13, 2, .ro, .val 0⟩
/-- LL_CDR_CTRL.MODE (03): 0b00 TRACK; 0b01 HOLD (R64); 0b10 OPEN, phase set by LL_CDR_PHASE; 0b11 acts as TRACK. -/
def LL_CDR_CTRL_MODE : Fld := ⟨.LL_CDR_CTRL, 0, 2, .rw, .val 0⟩
/-- LL_CDR_CTRL.PD_SEL (03): 0b00 AUTO; 0b01 RAW; 0b10 EQ; 0b11 acts as AUTO (R60). -/
def LL_CDR_CTRL_PD_SEL : Fld := ⟨.LL_CDR_CTRL, 2, 2, .rw, .val 0⟩
/-- LL_CDR_CTRL.KP_SHIFT (03): Proportional gain 2^−KP_SHIFT, 4 to 10; values outside the range act as the nearer limit (R59). -/
def LL_CDR_CTRL_KP_SHIFT : Fld := ⟨.LL_CDR_CTRL, 4, 4, .rw, .val 6⟩
/-- LL_CDR_CTRL.KI_SHIFT (03): Integral gain 2^−KI_SHIFT, 8 to 20; values outside the range act as the nearer limit. -/
def LL_CDR_CTRL_KI_SHIFT : Fld := ⟨.LL_CDR_CTRL, 8, 5, .rw, .val 0xE⟩
/-- LL_CDR_CTRL.LOCK_TOL (03): Lock tolerance in ppm, 1 to 15; 0 acts as 1 (R62). -/
def LL_CDR_CTRL_LOCK_TOL : Fld := ⟨.LL_CDR_CTRL, 16, 4, .rw, .val 2⟩
/-- LL_CDR_CTRL.LOCK_CNT (03): Consecutive stable intervals needed for LOCKED, 1 to 7; 0 acts as 1. -/
def LL_CDR_CTRL_LOCK_CNT : Fld := ⟨.LL_CDR_CTRL, 20, 3, .rw, .val 4⟩
/-- LL_CDR_STATUS.LOCKED (03): 1 when the loop is locked (R62). -/
def LL_CDR_STATUS_LOCKED : Fld := ⟨.LL_CDR_STATUS, 0, 1, .ro, .val 0⟩
/-- LL_CDR_STATUS.FREQ_RANGE (03): 1 when the offset magnitude is beyond 200 ppm (R63). -/
def LL_CDR_STATUS_FREQ_RANGE : Fld := ⟨.LL_CDR_STATUS, 1, 1, .ro, .val 0⟩
/-- LL_CDR_STATUS.MISMATCH (03): 1 when the lane differs from its port's reference lane by more than 20 ppm (R66). -/
def LL_CDR_STATUS_MISMATCH : Fld := ⟨.LL_CDR_STATUS, 2, 1, .ro, .val 0⟩
/-- LL_CDR_STATUS.HOLDING (03): 1 while the loop is held (R64). -/
def LL_CDR_STATUS_HOLDING : Fld := ⟨.LL_CDR_STATUS, 3, 1, .ro, .val 0⟩
/-- LL_CDR_STATUS.RX_REF (03): 1 when this lane is the reference of its port's receive follower. -/
def LL_CDR_STATUS_RX_REF : Fld := ⟨.LL_CDR_STATUS, 4, 1, .ro, .val 0⟩
/-- LL_CDR_STATUS.LOCK_LOST (03): Set when LOCKED falls from 1 to 0; raises the clock-recovery interrupt. -/
def LL_CDR_STATUS_LOCK_LOST : Fld := ⟨.LL_CDR_STATUS, 5, 1, .w1c, .val 0⟩
/-- LL_CDR_STATUS.TX_REF_HL (03): Index within the bunch of the host lane that is the reference of the transmit follower (R67). -/
def LL_CDR_STATUS_TX_REF_HL : Fld := ⟨.LL_CDR_STATUS, 8, 3, .ro, .val 0⟩
/-- LL_CDR_STATUS.TX_REF_VALID (03): 1 when TX_REF_HL names a locked host lane; 0 in holdover or at nominal frequency. -/
def LL_CDR_STATUS_TX_REF_VALID : Fld := ⟨.LL_CDR_STATUS, 11, 1, .ro, .val 0⟩
/-- LL_CDR_FREQ.PPM (03): Signed offset against REFCLK in 0.001 ppm, updated every 4096 dpclk (R62). -/
def LL_CDR_FREQ_PPM : Fld := ⟨.LL_CDR_FREQ, 0, 24, .ro, .val 0⟩
/-- LL_CDR_PHASE.PHASE (03): Reads the current phase in 1/128 UI. A write acts only in MODE = OPEN, where the phase moves toward the written value by at most one step per dpclk (R -/
def LL_CDR_PHASE_PHASE : Fld := ⟨.LL_CDR_PHASE, 0, 7, .rw, .val 0⟩
/-- LL_ADC_CTRL.AFE_GAIN (03): Front-end gain −3 dB + 0.75 dB × code; 0 to 12; 13 to 15 act as 12 (R50). -/
def LL_ADC_CTRL_AFE_GAIN : Fld := ⟨.LL_ADC_CTRL, 0, 4, .rw, .val 4⟩
/-- LL_ADC_CTRL.AFE_AUTO (03): 1: automatic gain below EQ_ACQ; 0: gain fixed at AFE_GAIN. -/
def LL_ADC_CTRL_AFE_AUTO : Fld := ⟨.LL_ADC_CTRL, 4, 1, .rw, .val 1⟩
/-- LL_ADC_CTRL.OFS_EN (03): 1: offset loop runs (R55). -/
def LL_ADC_CTRL_OFS_EN : Fld := ⟨.LL_ADC_CTRL, 8, 1, .rw, .val 1⟩
/-- LL_ADC_CTRL.GAIN_EN (03): 1: gain loop runs. -/
def LL_ADC_CTRL_GAIN_EN : Fld := ⟨.LL_ADC_CTRL, 9, 1, .rw, .val 1⟩
/-- LL_ADC_CTRL.SKEW_EN (03): 1: skew loop runs while the equaliser is converged. -/
def LL_ADC_CTRL_SKEW_EN : Fld := ⟨.LL_ADC_CTRL, 10, 1, .rw, .val 1⟩
/-- LL_ADC_CTRL.ACC_SHIFT (03): Offset and gain accumulation 2^(16 + ACC_SHIFT − 4) samples for codes 0 to 8, which is 2^12 to 2^20; 9 to 15 act as 8. Reset 0x0 selects 2^12. -/
def LL_ADC_CTRL_ACC_SHIFT : Fld := ⟨.LL_ADC_CTRL, 12, 4, .rw, .val 0⟩
/-- LL_ADC_CTRL.SKEW_SHIFT (03): Skew accumulation 2^(18 + SKEW_SHIFT − 4) samples for codes 0 to 8, which is 2^14 to 2^22; 9 to 15 act as 8. Reset 0x0 selects 2^14. -/
def LL_ADC_CTRL_SKEW_SHIFT : Fld := ⟨.LL_ADC_CTRL, 16, 4, .rw, .val 0⟩
/-- LL_ADC_STATUS.READY (03): 1 when the ADC samples are valid (R51). -/
def LL_ADC_STATUS_READY : Fld := ⟨.LL_ADC_STATUS, 0, 1, .ro, .val 0⟩
/-- LL_ADC_STATUS.FG_BUSY (03): 1 during a foreground calibration (R57). -/
def LL_ADC_STATUS_FG_BUSY : Fld := ⟨.LL_ADC_STATUS, 1, 1, .ro, .val 0⟩
/-- LL_ADC_STATUS.FG_ERR (03): Set when FG_START is dropped. -/
def LL_ADC_STATUS_FG_ERR : Fld := ⟨.LL_ADC_STATUS, 2, 1, .w1c, .val 0⟩
/-- LL_ADC_STATUS.SKEW_HOLD (03): 1 while the skew loop holds (R55). -/
def LL_ADC_STATUS_SKEW_HOLD : Fld := ⟨.LL_ADC_STATUS, 3, 1, .ro, .val 0⟩
/-- LL_ADC_STATUS.GAIN_NOW (03): Front-end gain code in force. -/
def LL_ADC_STATUS_GAIN_NOW : Fld := ⟨.LL_ADC_STATUS, 4, 4, .ro, .val 4⟩
/-- LL_ADC_CLIP.COUNT (03): Samples at code −128 or +127 since the last read; saturates at 0xFFFF_FFFF (R49). -/
def LL_ADC_CLIP_COUNT : Fld := ⟨.LL_ADC_CLIP, 0, 32, .rc, .val 0⟩
/-- LL_ADC_CAL.FG_START (03): 1: start a foreground calibration (R57). -/
def LL_ADC_CAL_FG_START : Fld := ⟨.LL_ADC_CAL, 0, 1, .wo, .val 0⟩
/-- LL_ADC_CAL.FACTORY (03): 1: copy every slice's kept factory trims into its trims in use; zero before B6 has written the copy (R57). -/
def LL_ADC_CAL_FACTORY : Fld := ⟨.LL_ADC_CAL, 1, 1, .wo, .val 0⟩
/-- LL_ADC_SLICE_SEL.SLICE (03): Slice 0 to 95; 96 to 127 select no slice (R56). -/
def LL_ADC_SLICE_SEL_SLICE : Fld := ⟨.LL_ADC_SLICE_SEL, 0, 7, .rw, .val 0⟩
/-- LL_ADC_SLICE_SEL.AUTO_INC (03): 1: SLICE advances by one after each access to LL_ADC_SLICE_TRIM, wrapping from 95 to 0. -/
def LL_ADC_SLICE_SEL_AUTO_INC : Fld := ⟨.LL_ADC_SLICE_SEL, 7, 1, .rw, .val 0⟩
/-- LL_ADC_SLICE_TRIM.OFS (03): Offset trim in 1/8 LSB, signed (R53). -/
def LL_ADC_SLICE_TRIM_OFS : Fld := ⟨.LL_ADC_SLICE_TRIM, 0, 8, .rw, .val 0⟩
/-- LL_ADC_SLICE_TRIM.GAIN (03): Gain trim in 0.05 %, signed. -/
def LL_ADC_SLICE_TRIM_GAIN : Fld := ⟨.LL_ADC_SLICE_TRIM, 8, 8, .rw, .val 0⟩
/-- LL_ADC_SLICE_TRIM.SKEW (03): Skew trim in 10 fs, signed, limited to −200 to +200. -/
def LL_ADC_SLICE_TRIM_SKEW : Fld := ⟨.LL_ADC_SLICE_TRIM, 16, 9, .rw, .val 0⟩
/-- SPI_OE_CTRL.DIV (03): OE_SCK = 1500 MHz / (2 × (DIV + 1)); below 29 acts as 29. Reset 59 gives 12.5 MHz. -/
def SPI_OE_CTRL_DIV : Fld := ⟨.SPI_OE_CTRL, 0, 6, .rw, .val 0x3B⟩
/-- SPI_OE_CTRL.CPOL (03): Clock idle level. -/
def SPI_OE_CTRL_CPOL : Fld := ⟨.SPI_OE_CTRL, 6, 1, .rw, .val 0⟩
/-- SPI_OE_CTRL.CPHA (03): 0: sample on the first edge; 1: sample on the second edge. -/
def SPI_OE_CTRL_CPHA : Fld := ⟨.SPI_OE_CTRL, 7, 1, .rw, .val 0⟩
/-- SPI_OE_CTRL.CS (03): 0: OE_CS0_N; 1: OE_CS1_N. -/
def SPI_OE_CTRL_CS : Fld := ⟨.SPI_OE_CTRL, 8, 1, .rw, .val 0⟩
/-- SPI_OE_CTRL.LSB_FIRST (03): 0: most significant bit of each byte first; 1: least significant first. -/
def SPI_OE_CTRL_LSB_FIRST : Fld := ⟨.SPI_OE_CTRL, 9, 1, .rw, .val 0⟩
/-- SPI_OE_CTRL.DUPLEX (03): 1: full duplex, TXLEN bytes each way (R69). -/
def SPI_OE_CTRL_DUPLEX : Fld := ⟨.SPI_OE_CTRL, 10, 1, .rw, .val 0⟩
/-- SPI_OE_CTRL.TXLEN (03): Bytes to send, 0 to 64. -/
def SPI_OE_CTRL_TXLEN : Fld := ⟨.SPI_OE_CTRL, 16, 7, .rw, .val 0⟩
/-- SPI_OE_CTRL.RXLEN (03): Bytes to receive, 0 to 64. -/
def SPI_OE_CTRL_RXLEN : Fld := ⟨.SPI_OE_CTRL, 24, 7, .rw, .val 0⟩
/-- SPI_OE_CTRL.START (03): 1: start a transaction (R70). -/
def SPI_OE_CTRL_START : Fld := ⟨.SPI_OE_CTRL, 31, 1, .wo, .val 0⟩
/-- SPI_OE_STATUS.BUSY (03): 1 while a transaction or poll runs. -/
def SPI_OE_STATUS_BUSY : Fld := ⟨.SPI_OE_STATUS, 0, 1, .ro, .val 0⟩
/-- SPI_OE_STATUS.DONE (03): Set when a transaction ends, in any result. -/
def SPI_OE_STATUS_DONE : Fld := ⟨.SPI_OE_STATUS, 1, 1, .w1c, .val 0⟩
/-- SPI_OE_STATUS.ERR (03): 0b00 none; 0b01 BUSY; 0b10 LEN; 0b11 POLL_TIMEOUT. Writing 0b11 clears the field. -/
def SPI_OE_STATUS_ERR : Fld := ⟨.SPI_OE_STATUS, 2, 2, .w1c, .val 0⟩
/-- SPI_OE_STATUS.ALARM (03): 1 while OE_ALARM_N is low. -/
def SPI_OE_STATUS_ALARM : Fld := ⟨.SPI_OE_STATUS, 4, 1, .ro, .val 0⟩
/-- SPI_OE_STATUS.ALARM_EV (03): Set when an alarm is accepted (R73). -/
def SPI_OE_STATUS_ALARM_EV : Fld := ⟨.SPI_OE_STATUS, 5, 1, .w1c, .val 0⟩
/-- SPI_OE_STATUS.GPIO_EV (03): Edge seen on OE_GPIO3 to OE_GPIO0 (R74). -/
def SPI_OE_STATUS_GPIO_EV : Fld := ⟨.SPI_OE_STATUS, 8, 4, .w1c, .val 0⟩
/-- SPI_OE_POLL.EN (03): 1: repeat until the condition matches (R71). -/
def SPI_OE_POLL_EN : Fld := ⟨.SPI_OE_POLL, 0, 1, .rw, .val 0⟩
/-- SPI_OE_POLL.BYTE (03): Index of the received byte tested, 0 to 63. -/
def SPI_OE_POLL_BYTE : Fld := ⟨.SPI_OE_POLL, 1, 6, .rw, .val 0⟩
/-- SPI_OE_POLL.MASK (03): Bits tested. -/
def SPI_OE_POLL_MASK : Fld := ⟨.SPI_OE_POLL, 8, 8, .rw, .val 0⟩
/-- SPI_OE_POLL.VALUE (03): Value required. -/
def SPI_OE_POLL_VALUE : Fld := ⟨.SPI_OE_POLL, 16, 8, .rw, .val 0⟩
/-- SPI_OE_POLL.GAP (03): Wait 2^GAP µs between transactions. -/
def SPI_OE_POLL_GAP : Fld := ⟨.SPI_OE_POLL, 24, 4, .rw, .val 0⟩
/-- SPI_OE_POLL_TO.TIMEOUT (03): Timeout in µs, 1 to 1,048,575; 0 tests once. -/
def SPI_OE_POLL_TO_TIMEOUT : Fld := ⟨.SPI_OE_POLL_TO, 0, 20, .rw, .val 0⟩
/-- SPI_OE_PINS.RST_N (03): Level of OE_RST_N; 0 holds the engine in reset (R72). -/
def SPI_OE_PINS_RST_N : Fld := ⟨.SPI_OE_PINS, 0, 1, .rw, .val 0⟩
/-- SPI_OE_PINS.GPIO_OUT (03): Output levels of OE_GPIO3 to OE_GPIO0. -/
def SPI_OE_PINS_GPIO_OUT : Fld := ⟨.SPI_OE_PINS, 4, 4, .rw, .val 0⟩
/-- SPI_OE_PINS.GPIO_OE (03): 1: ball is an output. -/
def SPI_OE_PINS_GPIO_OE : Fld := ⟨.SPI_OE_PINS, 8, 4, .rw, .val 0⟩
/-- SPI_OE_PINS.GPIO_OD (03): 1: output is open-drain. -/
def SPI_OE_PINS_GPIO_OD : Fld := ⟨.SPI_OE_PINS, 12, 4, .rw, .val 0⟩
/-- SPI_OE_PINS.GPIO_IN (03): Ball levels. -/
def SPI_OE_PINS_GPIO_IN : Fld := ⟨.SPI_OE_PINS, 16, 4, .ro, .val 0⟩
/-- SPI_OE_PINS.GPIO_IRQ_EN (03): 1: an edge on the input fires the interrupt. -/
def SPI_OE_PINS_GPIO_IRQ_EN : Fld := ⟨.SPI_OE_PINS, 20, 4, .rw, .val 0⟩
/-- SPI_OE_PINS.ALARM_IRQ_EN (03): 1: an accepted alarm fires the interrupt. -/
def SPI_OE_PINS_ALARM_IRQ_EN : Fld := ⟨.SPI_OE_PINS, 24, 1, .rw, .val 1⟩
/-- SPI_OE_PINS.SQUELCH (03): Bit b: while the alarm squelch holds, bunch b's line transmitters are squelched; the bits in force at each mclk decide (R73). -/
def SPI_OE_PINS_SQUELCH : Fld := ⟨.SPI_OE_PINS, 25, 2, .rw, .val 0⟩
/-- SPI_OE_ALARM.DEBOUNCE (03): Low time in µs before an alarm is accepted; 0 accepts after one mclk. -/
def SPI_OE_ALARM_DEBOUNCE : Fld := ⟨.SPI_OE_ALARM, 0, 8, .rw, .val 1⟩
/-- SPI_OE_TXBUF.DATA (03): Sixteen words. Byte 4 × w + k is bits [8k + 7:8k] of the word at 0x8040 + 4 × w; byte 0 is sent first. -/
def SPI_OE_TXBUF_DATA : Fld := ⟨.SPI_OE_TXBUF, 0, 32, .rw, .val 0⟩
/-- SPI_OE_RXBUF.DATA (03): Sixteen words, in the same byte order as SPI_OE_TXBUF; written when a transaction ends. -/
def SPI_OE_RXBUF_DATA : Fld := ⟨.SPI_OE_RXBUF, 0, 32, .ro, .val 0⟩
/-- LL_EQ_CTRL.FRZ_LIN (04): 1: hold the linear taps (R87). -/
def LL_EQ_CTRL_FRZ_LIN : Fld := ⟨.LL_EQ_CTRL, 0, 1, .rw, .val 0⟩
/-- LL_EQ_CTRL.FRZ_QUAD (04): 1: hold the quadratic coefficients. -/
def LL_EQ_CTRL_FRZ_QUAD : Fld := ⟨.LL_EQ_CTRL, 1, 1, .rw, .val 0⟩
/-- LL_EQ_CTRL.FRZ_FB (04): 1: hold b1, b2 and h1. -/
def LL_EQ_CTRL_FRZ_FB : Fld := ⟨.LL_EQ_CTRL, 2, 1, .rw, .val 0⟩
/-- LL_EQ_CTRL.FRZ_BLR (04): 1: hold the restorer estimate b. -/
def LL_EQ_CTRL_FRZ_BLR : Fld := ⟨.LL_EQ_CTRL, 3, 1, .rw, .val 0⟩
/-- LL_EQ_CTRL.DA_EN (04): 1: decoder-aided adaptation when the inner code is locked (R89). 0: slicer decisions always. -/
def LL_EQ_CTRL_DA_EN : Fld := ⟨.LL_EQ_CTRL, 4, 1, .rw, .val 1⟩
/-- LL_EQ_CTRL.BLR_MODE (04): 0: MEAN always. 1: MEAN until CONV, then FAST (R77). -/
def LL_EQ_CTRL_BLR_MODE : Fld := ⟨.LL_EQ_CTRL, 5, 1, .rw, .val 1⟩
/-- LL_EQ_CTRL.QUAD_EARLY (04): 1: adapt quadratic terms before the first CONV (R86). -/
def LL_EQ_CTRL_QUAD_EARLY : Fld := ⟨.LL_EQ_CTRL, 6, 1, .rw, .val 0⟩
/-- LL_EQ_CTRL.BLR_SHIFT (04): Restorer gain 2^−BLR_SHIFT, 1 to 8; 0 acts as 1; 9 to 15 act as 8. -/
def LL_EQ_CTRL_BLR_SHIFT : Fld := ⟨.LL_EQ_CTRL, 8, 4, .rw, .val 2⟩
/-- LL_EQ_CTRL.SNAP_NOW (04): 1: take a snapshot at the next pip boundary (R92). -/
def LL_EQ_CTRL_SNAP_NOW : Fld := ⟨.LL_EQ_CTRL, 16, 1, .wo, .val 0⟩
/-- LL_EQ_CTRL.RESTORE (04): 1: restore the snapshot at the next pip boundary (R93). -/
def LL_EQ_CTRL_RESTORE : Fld := ⟨.LL_EQ_CTRL, 17, 1, .wo, .val 0⟩
/-- LL_EQ_CTRL.REINIT (04): 1: take the initial coefficients at the next pip boundary (R94). -/
def LL_EQ_CTRL_REINIT : Fld := ⟨.LL_EQ_CTRL, 18, 1, .wo, .val 0⟩
/-- LL_EQ_SHAPE.PRE (04): Pre-cursor taps, 0 to 111; at or above the linear count acts as the count minus 1 (R78). -/
def LL_EQ_SHAPE_PRE : Fld := ⟨.LL_EQ_SHAPE, 0, 7, .rw, .val 4⟩
/-- LL_EQ_SHAPE.LEVEL (04): Target level L, unsigned Q1.7; reset 0.75; below 0x20 acts as 0x20 (R75). -/
def LL_EQ_SHAPE_LEVEL : Fld := ⟨.LL_EQ_SHAPE, 8, 8, .rw, .val 0x60⟩
/-- LL_EQ_SHAPE.MAIN_INIT (04): Initial main cursor c₀, Q2.14; reset 1.0 (R94). -/
def LL_EQ_SHAPE_MAIN_INIT : Fld := ⟨.LL_EQ_SHAPE, 16, 16, .rw, .val 0x4000⟩
/-- LL_EQ_MU.MU_ACQ (04): Acquisition-gear step 2^−MU_ACQ, 4 to 15; below 4 acts as 4 (R85). -/
def LL_EQ_MU_MU_ACQ : Fld := ⟨.LL_EQ_MU, 0, 4, .rw, .val 8⟩
/-- LL_EQ_MU.MU_TRK (04): Tracking-gear step 2^−MU_TRK, 4 to 15; below 4 acts as 4. -/
def LL_EQ_MU_MU_TRK : Fld := ⟨.LL_EQ_MU, 4, 4, .rw, .val 0xC⟩
/-- LL_EQ_MU.MU_Q_OFS (04): Quadratic step is mu_lin × 2^−MU_Q_OFS. -/
def LL_EQ_MU_MU_Q_OFS : Fld := ⟨.LL_EQ_MU, 8, 2, .rw, .val 2⟩
/-- LL_EQ_MU.MU_FB_OFS (04): Feedback step is mu_lin × 2^−MU_FB_OFS. -/
def LL_EQ_MU_MU_FB_OFS : Fld := ⟨.LL_EQ_MU, 10, 2, .rw, .val 0⟩
/-- LL_EQ_MU.MU_DA_OFS (04): Added to MU while decoder-aided adaptation is active. -/
def LL_EQ_MU_MU_DA_OFS : Fld := ⟨.LL_EQ_MU, 12, 2, .rw, .val 1⟩
/-- LL_EQ_MU.DECIM (04): Sample 1 symbol in 2^DECIM, 0 to 6; 7 acts as 6; R89 sets a floor while DA is active. -/
def LL_EQ_MU_DECIM : Fld := ⟨.LL_EQ_MU, 16, 3, .rw, .val 4⟩
/-- LL_EQ_MU.LEAK (04): 0: no leakage. 1 to 15: leakage factor 1 − 2^−(LEAK + 8) per update on all coefficients except c₀. -/
def LL_EQ_MU_LEAK : Fld := ⟨.LL_EQ_MU, 20, 4, .rw, .val 0⟩
/-- LL_EQ_CONV.SNR_MIN (04): Convergence threshold in 0.1 dB; reset 14.0 dB (R90). -/
def LL_EQ_CONV_SNR_MIN : Fld := ⟨.LL_EQ_CONV, 0, 10, .rw, .val 0x8C⟩
/-- LL_EQ_CONV.HYST (04): Hysteresis in 0.1 dB, 0 to 6.3 dB; reset 1.0 dB. -/
def LL_EQ_CONV_HYST : Fld := ⟨.LL_EQ_CONV, 10, 6, .rw, .val 0xA⟩
/-- LL_EQ_CONV.CNT (04): Consecutive pips to set or clear CONV, 1 to 255; 0 acts as 1. -/
def LL_EQ_CONV_CNT : Fld := ⟨.LL_EQ_CONV, 16, 8, .rw, .val 0x10⟩
/-- LL_EQ_CONV.DIV_SNR (04): Divergence threshold in 0.1 dB, 0 to 25.5 dB; reset 8.0 dB (R91). -/
def LL_EQ_CONV_DIV_SNR : Fld := ⟨.LL_EQ_CONV, 24, 8, .rw, .val 0x50⟩
/-- LL_EQ_STATUS.CONV (04): 1 while converged (R90). -/
def LL_EQ_STATUS_CONV : Fld := ⟨.LL_EQ_STATUS, 0, 1, .ro, .val 0⟩
/-- LL_EQ_STATUS.EVER_CONV (04): 1 once CONV has been set since the lane last started or reinitialised. -/
def LL_EQ_STATUS_EVER_CONV : Fld := ⟨.LL_EQ_STATUS, 1, 1, .ro, .val 0⟩
/-- LL_EQ_STATUS.GEAR (04): 0 acquisition; 1 tracking (R86). -/
def LL_EQ_STATUS_GEAR : Fld := ⟨.LL_EQ_STATUS, 2, 1, .ro, .val 0⟩
/-- LL_EQ_STATUS.DA_ACTIVE (04): 1 while decoder-aided adaptation is active (R89). -/
def LL_EQ_STATUS_DA_ACTIVE : Fld := ⟨.LL_EQ_STATUS, 3, 1, .ro, .val 0⟩
/-- LL_EQ_STATUS.FROZEN (04): 1 while a whole-lane hold of R87 applies. -/
def LL_EQ_STATUS_FROZEN : Fld := ⟨.LL_EQ_STATUS, 4, 1, .ro, .val 0⟩
/-- LL_EQ_STATUS.SNAP_VALID (04): 1 when a usable snapshot is held (R92). -/
def LL_EQ_STATUS_SNAP_VALID : Fld := ⟨.LL_EQ_STATUS, 5, 1, .ro, .val 0⟩
/-- LL_EQ_STATUS.STAGE (04): Decision stage from the seed: 0 speculative DFE; 1 MLSE. -/
def LL_EQ_STATUS_STAGE : Fld := ⟨.LL_EQ_STATUS, 6, 1, .ro, .val 0⟩
/-- LL_EQ_STATUS.CONV_LOST (04): Set when CONV falls from 1 to 0. -/
def LL_EQ_STATUS_CONV_LOST : Fld := ⟨.LL_EQ_STATUS, 8, 1, .w1c, .val 0⟩
/-- LL_EQ_STATUS.DIVERGED (04): Set on a divergence (R91). -/
def LL_EQ_STATUS_DIVERGED : Fld := ⟨.LL_EQ_STATUS, 9, 1, .w1c, .val 0⟩
/-- LL_EQ_STATUS.FALLBACK (04): Set on a restore caused by an uncorrectable coefficient error (R93). -/
def LL_EQ_STATUS_FALLBACK : Fld := ⟨.LL_EQ_STATUS, 10, 1, .w1c, .val 0⟩
/-- LL_EQ_STATUS.SNAP_UE (04): Set when a restore found no usable snapshot and took the initial coefficients. -/
def LL_EQ_STATUS_SNAP_UE : Fld := ⟨.LL_EQ_STATUS, 11, 1, .w1c, .val 0⟩
/-- LL_EQ_STATUS.LIN_NOW (04): Linear taps in force, 0 to 112 (R81). -/
def LL_EQ_STATUS_LIN_NOW : Fld := ⟨.LL_EQ_STATUS, 16, 7, .ro, .val 0⟩
/-- LL_EQ_STATUS.QUAD_NOW (04): Quadratic terms in force, 0 to 32. -/
def LL_EQ_STATUS_QUAD_NOW : Fld := ⟨.LL_EQ_STATUS, 24, 6, .ro, .val 0⟩
/-- LL_EQ_SNR.SNR (04): SNR in 0.1 dB, 0 to 600, saturating (R95). -/
def LL_EQ_SNR_SNR : Fld := ⟨.LL_EQ_SNR, 0, 10, .ro, .val 0⟩
/-- LL_EQ_SNR.MSE (04): MSE / L² in units of 2^−16, saturating at 0xFFFF. -/
def LL_EQ_SNR_MSE : Fld := ⟨.LL_EQ_SNR, 16, 16, .ro, .val 0⟩
/-- LL_EQ_LLR.K (04): Scale K, unsigned Q3.5; reset 1.0 (R84). -/
def LL_EQ_LLR_K : Fld := ⟨.LL_EQ_LLR, 0, 8, .rw, .val 0x20⟩
/-- LL_EQ_LLR.AUTO (04): 1: use the lane's measured MSE. 0: use MSE_FIX. -/
def LL_EQ_LLR_AUTO : Fld := ⟨.LL_EQ_LLR, 8, 1, .rw, .val 1⟩
/-- LL_EQ_LLR.MSE_FIX (04): Fixed MSE / L² in units of 2^−16; reset 0.01396, the value at 16 dB. -/
def LL_EQ_LLR_MSE_FIX : Fld := ⟨.LL_EQ_LLR, 16, 16, .rw, .val 0x393⟩
/-- LL_EQ_QCTRL.AVG (04): MSE averaging weight 2^−AVG per pip, 0 to 10; 11 to 15 act as 10 (R90). -/
def LL_EQ_QCTRL_AVG : Fld := ⟨.LL_EQ_QCTRL, 0, 4, .rw, .val 4⟩
/-- LL_EQ_QCTRL.WIN (04): Histogram and BER window 2^(WIN + 4) pips; reset 1024 pips (R96). -/
def LL_EQ_QCTRL_WIN : Fld := ⟨.LL_EQ_QCTRL, 8, 4, .rw, .val 6⟩
/-- LL_EQ_QCTRL.HIST_START (04): 1: start a window. -/
def LL_EQ_QCTRL_HIST_START : Fld := ⟨.LL_EQ_QCTRL, 16, 1, .wo, .val 0⟩
/-- LL_EQ_QCTRL.HIST_BUSY (04): 1 while a window runs. -/
def LL_EQ_QCTRL_HIST_BUSY : Fld := ⟨.LL_EQ_QCTRL, 17, 1, .ro, .val 0⟩
/-- LL_EQ_QCTRL.HIST_CONT (04): 1: start each window when the previous one ends. -/
def LL_EQ_QCTRL_HIST_CONT : Fld := ⟨.LL_EQ_QCTRL, 18, 1, .rw, .val 1⟩
/-- LL_EQ_BER.MANT (04): Mantissa, 10 to 99 (R97). -/
def LL_EQ_BER_MANT : Fld := ⟨.LL_EQ_BER, 0, 7, .ro, .val 0⟩
/-- LL_EQ_BER.EXP (04): Exponent; the estimate is MANT × 10^−EXP. -/
def LL_EQ_BER_EXP : Fld := ⟨.LL_EQ_BER, 8, 5, .ro, .val 0⟩
/-- LL_EQ_BER.SRC (04): 0 MODEL; 1 DECODER. -/
def LL_EQ_BER_SRC : Fld := ⟨.LL_EQ_BER, 13, 1, .ro, .val 0⟩
/-- LL_EQ_BER.BOUND (04): 1: no flips in the window; the value is an upper bound. -/
def LL_EQ_BER_BOUND : Fld := ⟨.LL_EQ_BER, 14, 1, .ro, .val 0⟩
/-- LL_EQ_BER.VALID (04): 1 once a window has ended since the lane started. -/
def LL_EQ_BER_VALID : Fld := ⟨.LL_EQ_BER, 15, 1, .ro, .val 0⟩
/-- LL_EQ_SNAP_INT.SHIFT (04): Periodic snapshot every 2^SHIFT pips, 8 to 20; 0 disables periodic snapshots; 1 to 7 act as 8; 21 to 31 act as 20. Reset 4096 pips, 197.4 µs at L400E  -/
def LL_EQ_SNAP_INT_SHIFT : Fld := ⟨.LL_EQ_SNAP_INT, 0, 5, .rw, .val 0xC⟩
/-- LL_EQ_EXCL.COUNT (04): Codewords left out of decoder-aided gradients (R89); saturates at 0xFFFF_FFFF. -/
def LL_EQ_EXCL_COUNT : Fld := ⟨.LL_EQ_EXCL, 0, 32, .rc, .val 0⟩
/-- LL_EQ_COEF_SEL.INDEX (04): 0 to 111: linear tap at span index, where the main cursor is at index PRE. 112 to 143: quadratic coefficient q = INDEX − 112. 144 to 175: pair entry q -/
def LL_EQ_COEF_SEL_INDEX : Fld := ⟨.LL_EQ_COEF_SEL, 0, 8, .rw, .val 0⟩
/-- LL_EQ_COEF_SEL.AUTO_INC (04): 1: INDEX advances by one after each access to LL_EQ_COEF, wrapping from 179 to 0. -/
def LL_EQ_COEF_SEL_AUTO_INC : Fld := ⟨.LL_EQ_COEF_SEL, 8, 1, .rw, .val 0⟩
/-- LL_EQ_COEF.VALUE (04): Linear: Q2.14. Quadratic: Q1.15. Pair entry: bits [4:0] offset i and bits [12:8] offset j, each signed, −16 to +15. b1, b2, h1: Q1.9 in bits [9:0]. b: -/
def LL_EQ_COEF_VALUE : Fld := ⟨.LL_EQ_COEF, 0, 16, .rw, .val 0⟩
/-- LL_EQ_HIST.COUNT (04): Bin k is at 0x2040 + 4 × k; counts of the last complete window (R96), saturating at 0xFFFF_FFFF. -/
def LL_EQ_HIST_COUNT : Fld := ⟨.LL_EQ_HIST, 0, 32, .ro, .val 0⟩
/-- LL_TX_CTRL.SQUELCH (05): 1: squelch the lane (R105). -/
def LL_TX_CTRL_SQUELCH : Fld := ⟨.LL_TX_CTRL, 0, 1, .rw, .val 0⟩
/-- LL_TX_CTRL.DATA_MUTE (05): 1: send the overlay only; a change acts at the next transmit pip boundary (R106). -/
def LL_TX_CTRL_DATA_MUTE : Fld := ⟨.LL_TX_CTRL, 1, 1, .rw, .val 0⟩
/-- LL_TX_CTRL.EIDLE (05): 1: electrical idle (R107). -/
def LL_TX_CTRL_EIDLE : Fld := ⟨.LL_TX_CTRL, 2, 1, .rw, .val 0⟩
/-- LL_TX_CTRL.PD_EN (05): 1: add the predistortion entry (R99); a change acts at the next transmit pip boundary and the peak is evaluated again (R101). -/
def LL_TX_CTRL_PD_EN : Fld := ⟨.LL_TX_CTRL, 3, 1, .rw, .val 0⟩
/-- LL_TX_CTRL.APPLY (05): 1: take the pending values at the next transmit pip boundary (R102). -/
def LL_TX_CTRL_APPLY : Fld := ⟨.LL_TX_CTRL, 8, 1, .wo, .val 0⟩
/-- LL_TX_STATUS.READY (05): 1 when the DAC is powered and settled (R107). -/
def LL_TX_STATUS_READY : Fld := ⟨.LL_TX_STATUS, 0, 1, .ro, .val 0⟩
/-- LL_TX_STATUS.SQ_ACTIVE (05): 1 while the output is squelched; 1 whenever the lane is disabled, and so after every reset (R107). -/
def LL_TX_STATUS_SQ_ACTIVE : Fld := ⟨.LL_TX_STATUS, 1, 1, .ro, .val 1⟩
/-- LL_TX_STATUS.SQ_SRC (05): Bit 2 firmware; bit 3 reseed; bit 4 optical-engine alarm; bit 5 electrical idle or its exit, set whenever the lane is disabled; bit 6 thermal stop. Th -/
def LL_TX_STATUS_SQ_SRC : Fld := ⟨.LL_TX_STATUS, 2, 5, .ro, .val 8⟩
/-- LL_TX_STATUS.APPLY_PEND (05): 1 until pending values are applied (R102). -/
def LL_TX_STATUS_APPLY_PEND : Fld := ⟨.LL_TX_STATUS, 7, 1, .ro, .val 0⟩
/-- LL_TX_STATUS.FINE_BUSY (05): 1 while the fine phase moves (R104). -/
def LL_TX_STATUS_FINE_BUSY : Fld := ⟨.LL_TX_STATUS, 8, 1, .ro, .val 0⟩
/-- LL_TX_STATUS.HEADROOM (05): Set when an application gives a peak above 1.0; fires the transmit interrupt (R101). -/
def LL_TX_STATUS_HEADROOM : Fld := ⟨.LL_TX_STATUS, 9, 1, .w1c, .val 0⟩
/-- LL_TX_FIR.G_LO (05): Q2.8, pending. FIR0: g₋₂; FIR1: g₀; FIR2: g₂; FIR3: g₄. Reset 0x000, except FIR1 0x0C0, which is g₀ = 0.75. -/
def LL_TX_FIR_G_LO : Fld := ⟨.LL_TX_FIR, 0, 10, .rw, .firOne⟩
/-- LL_TX_FIR.G_HI (05): Q2.8, pending. FIR0: g₋₁; FIR1: g₁; FIR2: g₃; FIR3: reserved, reads zero. -/
def LL_TX_FIR_G_HI : Fld := ⟨.LL_TX_FIR, 16, 10, .rw, .val 0⟩
/-- LL_TX_OVL.DEPTH (05): Pending; depth in 0.25 %; 0 sends no overlay; 1 to 3 act as 4; 33 to 63 act as 32 (R100). -/
def LL_TX_OVL_DEPTH : Fld := ⟨.LL_TX_OVL, 0, 6, .rw, .val 0xC⟩
/-- LL_TX_SKEW.DELAY (05): Coarse delay 0 to 63 UI; acts at the next transmit pip boundary (R103). -/
def LL_TX_SKEW_DELAY : Fld := ⟨.LL_TX_SKEW, 0, 6, .rw, .val 0x20⟩
/-- LL_TX_SKEW.FINE (05): DAC clock phase in 1/64 UI; moves one step per dpclk (R104). -/
def LL_TX_SKEW_FINE : Fld := ⟨.LL_TX_SKEW, 8, 6, .rw, .val 0⟩
/-- LL_TX_CLIP.COUNT (05): Codes clamped since the last read; saturates at 0xFFFF_FFFF (R101). -/
def LL_TX_CLIP_COUNT : Fld := ⟨.LL_TX_CLIP, 0, 32, .rc, .val 0⟩
/-- LL_TX_PEAK.PEAK (05): Peak of R101 for the applied values, in 1/256 full scale, rounded down; saturates at 0xFFF. Reset 203/256: the reset values give 0.75 + 0 + 0.045 = 0. -/
def LL_TX_PEAK_PEAK : Fld := ⟨.LL_TX_PEAK, 0, 12, .ro, .val 0xCB⟩
/-- LL_TX_PD.ENTRY (05): Pending. Entry 4 × w + k is bits [8k + 7:8k] of the word at 0x3040 + 4 × w; signed, in 1/512 full scale (R99). -/
def LL_TX_PD_ENTRY : Fld := ⟨.LL_TX_PD, 0, 32, .rw, .val 0⟩
/-- DEC_BSTATUS.BUSY (06): Slots of the bunch running a pass in the last lane pip, peak over the pip, 0 to 192. -/
def DEC_BSTATUS_BUSY : Fld := ⟨.DEC_BSTATUS, 0, 8, .ro, .val 0⟩
/-- DEC_BSTATUS.BUSY_HWM (06): Highest BUSY since the last read. -/
def DEC_BSTATUS_BUSY_HWM : Fld := ⟨.DEC_BSTATUS, 8, 8, .rc, .val 0⟩
/-- DEC_CTRL.DEADLINE (06): D in pips; limited to 2 to 6 and to the seed's D (R128). A write sets every lane of the port. -/
def DEC_CTRL_DEADLINE : Fld := ⟨.DEC_CTRL, 0, 3, .rw, .val 3⟩
/-- DEC_CTRL.MAXPASS (06): Maximum passes, 0 to 4; 0 is the hard pass only (R123); limited to the seed's value; reads that limited value without the throttle profile, which MAXP -/
def DEC_CTRL_MAXPASS : Fld := ⟨.DEC_CTRL, 4, 3, .rw, .val 4⟩
/-- DEC_CTRL.SPEC_EN (06): 1: speculative release in low-latency mode (R126). 0: none. -/
def DEC_CTRL_SPEC_EN : Fld := ⟨.DEC_CTRL, 7, 1, .rw, .val 1⟩
/-- DEC_CTRL.REL_MIN (06): Reliability threshold of R120, in soft-value units; reset 24. -/
def DEC_CTRL_REL_MIN : Fld := ⟨.DEC_CTRL, 8, 8, .rw, .val 0x18⟩
/-- DEC_CTRL.ACC (06): Acceptance metric of R120 and R121, in soft-value units; reset 20. -/
def DEC_CTRL_ACC : Fld := ⟨.DEC_CTRL, 16, 8, .rw, .val 0x14⟩
/-- DEC_CTRL.DL_BURST (06): Deadline releases per pip that raise DL_BURST_EV (R132); 0 disables. -/
def DEC_CTRL_DL_BURST : Fld := ⟨.DEC_CTRL, 24, 8, .rw, .val 0x10⟩
/-- DEC_STATUS.CW_LOCK (06): 1 while codeword lock holds (R114, R116). -/
def DEC_STATUS_CW_LOCK : Fld := ⟨.DEC_STATUS, 0, 1, .ro, .val 0⟩
/-- DEC_STATUS.HUNTING (06): 1 while the hunter runs. -/
def DEC_STATUS_HUNTING : Fld := ⟨.DEC_STATUS, 1, 1, .ro, .val 0⟩
/-- DEC_STATUS.RELMODE (06): Release mode from the seed: 0 fixed-latency; 1 low-latency. -/
def DEC_STATUS_RELMODE : Fld := ⟨.DEC_STATUS, 2, 1, .ro, .val 0⟩
/-- DEC_STATUS.CODE (06): 0b00 none (L100 or no seed); 0b01 Cleril-144; 0b10 H128; 0b11 not used. -/
def DEC_STATUS_CODE : Fld := ⟨.DEC_STATUS, 3, 2, .ro, .val 0⟩
/-- DEC_STATUS.DEPTH (06): Interleave depth from the seed: 0, 1, 2 or 4; 0 is the standard interleave of L200. -/
def DEC_STATUS_DEPTH : Fld := ⟨.DEC_STATUS, 5, 3, .ro, .val 0⟩
/-- DEC_STATUS.SEED_D (06): The seed's D. -/
def DEC_STATUS_SEED_D : Fld := ⟨.DEC_STATUS, 8, 3, .ro, .val 0⟩
/-- DEC_STATUS.SEED_MAXP (06): The seed's maximum passes. -/
def DEC_STATUS_SEED_MAXP : Fld := ⟨.DEC_STATUS, 12, 3, .ro, .val 0⟩
/-- DEC_STATUS.D_NOW (06): D in force (R128). -/
def DEC_STATUS_D_NOW : Fld := ⟨.DEC_STATUS, 16, 3, .ro, .val 0⟩
/-- DEC_STATUS.MAXP_NOW (06): Maximum passes in force, after the throttle profile. -/
def DEC_STATUS_MAXP_NOW : Fld := ⟨.DEC_STATUS, 20, 3, .ro, .val 0⟩
/-- DEC_STATUS.CW_LOST (06): Set on loss of codeword lock (R115); fires the decoder interrupt. -/
def DEC_STATUS_CW_LOST : Fld := ⟨.DEC_STATUS, 24, 1, .w1c, .val 0⟩
/-- DEC_STATUS.DL_CLAMP (06): Set when a DEADLINE write was limited (R128). -/
def DEC_STATUS_DL_CLAMP : Fld := ⟨.DEC_STATUS, 25, 1, .w1c, .val 0⟩
/-- DEC_STATUS.MP_CLAMP (06): Set when a MAXPASS write was limited. -/
def DEC_STATUS_MP_CLAMP : Fld := ⟨.DEC_STATUS, 26, 1, .w1c, .val 0⟩
/-- DEC_STATUS.DL_BURST_EV (06): Set on a deadline burst (R132); fires the decoder interrupt. -/
def DEC_STATUS_DL_BURST_EV : Fld := ⟨.DEC_STATUS, 27, 1, .w1c, .val 0⟩
/-- DEC_LOCK.LOCK_MIN (06): Zero-syndrome codewords out of 128 needed to pass (R114); 0 acts as 1; above 128 acts as 128. -/
def DEC_LOCK_LOCK_MIN : Fld := ⟨.DEC_LOCK, 0, 8, .rw, .val 8⟩
/-- DEC_LOCK.CONFIRM (06): Confirmation windows, 0 to 15. -/
def DEC_LOCK_CONFIRM : Fld := ⟨.DEC_LOCK, 8, 4, .rw, .val 4⟩
/-- DEC_LOCK.LOSS_MIN (06): A window with fewer zero-syndrome codewords than this is bad (R115); above 128 acts as 128. -/
def DEC_LOCK_LOSS_MIN : Fld := ⟨.DEC_LOCK, 16, 8, .rw, .val 2⟩
/-- DEC_LOCK.LOSS_WIN (06): Consecutive bad windows that lose lock, 1 to 15; 0 acts as 1. -/
def DEC_LOCK_LOSS_WIN : Fld := ⟨.DEC_LOCK, 24, 4, .rw, .val 4⟩
/-- DEC_LOCK.REHUNT (06): 1: clear the lock at the next pip boundary and hunt again. -/
def DEC_LOCK_REHUNT : Fld := ⟨.DEC_LOCK, 28, 1, .wo, .val 0⟩
/-- DEC_CW_LO.COUNT_LO (06): Bits [31:0] of the 64-bit count. A read copies bits [63:32] to DEC_CW_HI and clears all 64 bits; saturates at all ones. -/
def DEC_CW_LO_COUNT_LO : Fld := ⟨.DEC_CW_LO, 0, 32, .rc, .val 0⟩
/-- DEC_CW_HI.COUNT_HI (06): Bits [63:32] copied at the last read of DEC_CW_LO. -/
def DEC_CW_HI_COUNT_HI : Fld := ⟨.DEC_CW_HI, 0, 32, .ro, .val 0⟩
/-- DEC_PASS.COUNT (06): DEC_PASSk at 0x018 + 4 × (k − 1): codewords final and valid after k passes (R131); saturates at 0xFFFF_FFFF. -/
def DEC_PASS_COUNT : Fld := ⟨.DEC_PASS, 0, 32, .rc, .val 0⟩
/-- DEC_DLREL.COUNT (06): Codewords released at their deadline while not final (R124); saturates. -/
def DEC_DLREL_COUNT : Fld := ⟨.DEC_DLREL, 0, 32, .rc, .val 0⟩
/-- DEC_FAIL.COUNT (06): Codewords final without a valid codeword (R121); saturates. -/
def DEC_FAIL_COUNT : Fld := ⟨.DEC_FAIL, 0, 32, .rc, .val 0⟩
/-- DEC_FLIPS.COUNT (06): Bits flipped from the equaliser's hard decisions (R131); saturates. -/
def DEC_FLIPS_COUNT : Fld := ⟨.DEC_FLIPS, 0, 32, .rc, .val 0⟩
/-- DEC_SPEC.COUNT (06): Codewords released speculatively (R126); saturates. -/
def DEC_SPEC_COUNT : Fld := ⟨.DEC_SPEC, 0, 32, .rc, .val 0⟩
/-- DEC_SPEC_RES.PATCH (06): Speculative codewords patched in the hold buffer (R127); saturates at 0xFFFF. -/
def DEC_SPEC_RES_PATCH : Fld := ⟨.DEC_SPEC_RES, 0, 16, .rc, .val 0⟩
/-- DEC_SPEC_RES.LATE (06): Speculative codewords changed after leaving the hold buffer; saturates at 0xFFFF. -/
def DEC_SPEC_RES_LATE : Fld := ⟨.DEC_SPEC_RES, 16, 16, .rc, .val 0⟩
/-- DEC_MISC.UNVER (06): Speculative codewords whose verification was abandoned (R127, R130); saturates at 0xFFFF. -/
def DEC_MISC_UNVER : Fld := ⟨.DEC_MISC, 0, 16, .rc, .val 0⟩
/-- DEC_MISC.LOCK_LOSS (06): Losses of codeword lock (R115); saturates at 0xFFFF. -/
def DEC_MISC_LOCK_LOSS : Fld := ⟨.DEC_MISC, 16, 16, .rc, .val 0⟩
/-- DEC_UNLOCKED.COUNT (06): Pips handed to the gearbox as UNLOCKED (R115); saturates. -/
def DEC_UNLOCKED_COUNT : Fld := ⟨.DEC_UNLOCKED, 0, 32, .rc, .val 0⟩
/-- DEC_OCC.NOW (06): Codewords in the lane's reorder stage at the end of the last lane cycle, after its arrivals and releases (R118), 0 to D × N, at most 1080. -/
def DEC_OCC_NOW : Fld := ⟨.DEC_OCC, 0, 11, .ro, .val 0⟩
/-- DEC_OCC.HWM (06): Highest NOW since the last read. -/
def DEC_OCC_HWM : Fld := ⟨.DEC_OCC, 16, 11, .rc, .val 0⟩
/-- DEC_FHIST.COUNT (06): Bin k at 0x060 + 4 × k: released codewords with k flipped bits for k = 0 to 6; bin 7, 7 or more (R131); saturates at 0xFFFF_FFFF. -/
def DEC_FHIST_COUNT : Fld := ⟨.DEC_FHIST, 0, 32, .rc, .val 0⟩
/-- HL_CTRL.PROFILE (07): 0 C2C; 1 C2M, module end (R135). -/
def HL_CTRL_PROFILE : Fld := ⟨.HL_CTRL, 0, 1, .rw, .val 0⟩
/-- HL_CTRL.EIDLE (07): 1: electrical idle (R150). -/
def HL_CTRL_EIDLE : Fld := ⟨.HL_CTRL, 1, 1, .rw, .val 0⟩
/-- HL_CTRL.POL_TX (07): 1: invert transmitted symbols (R142). -/
def HL_CTRL_POL_TX : Fld := ⟨.HL_CTRL, 2, 1, .rw, .val 0⟩
/-- HL_CTRL.POL_RX (07): 1: invert received symbols (R139). -/
def HL_CTRL_POL_RX : Fld := ⟨.HL_CTRL, 3, 1, .rw, .val 0⟩
/-- HL_CTRL.TX_PRECODE (07): 1: precode transmitted symbols; set by training in C2C. -/
def HL_CTRL_TX_PRECODE : Fld := ⟨.HL_CTRL, 4, 1, .rw, .val 0⟩
/-- HL_CTRL.RX_PRECODE (07): 1: decode precoded received symbols; set by training in C2C. -/
def HL_CTRL_RX_PRECODE : Fld := ⟨.HL_CTRL, 5, 1, .rw, .val 0⟩
/-- HL_CTRL.TRAIN_EN (07): 1: train in C2C (R143); ignored in C2M. -/
def HL_CTRL_TRAIN_EN : Fld := ⟨.HL_CTRL, 6, 1, .rw, .val 1⟩
/-- HL_RESET.LANE (07): 1: LANE reset of this host lane (R10). Seed-defined state is reloaded from the shadow. -/
def HL_RESET_LANE : Fld := ⟨.HL_RESET, 0, 1, .wo, .val 0⟩
/-- HL_STATUS.ENABLED (07): 1 when the seed places the lane in a port. -/
def HL_STATUS_ENABLED : Fld := ⟨.HL_STATUS, 0, 1, .ro, .val 0⟩
/-- HL_STATUS.RATE (07): 0: 212.5 Gb/s; 1: 106.25 Gb/s. -/
def HL_STATUS_RATE : Fld := ⟨.HL_STATUS, 1, 1, .ro, .val 0⟩
/-- HL_STATUS.SIG_DET (07): Input amplitude present (R137). -/
def HL_STATUS_SIG_DET : Fld := ⟨.HL_STATUS, 2, 1, .ro, .val 0⟩
/-- HL_STATUS.CDR_LOCK (07): Clock recovery locked (R138). -/
def HL_STATUS_CDR_LOCK : Fld := ⟨.HL_STATUS, 3, 1, .ro, .val 0⟩
/-- HL_STATUS.FREQ_RANGE (07): Offset beyond 200 ppm. -/
def HL_STATUS_FREQ_RANGE : Fld := ⟨.HL_STATUS, 4, 1, .ro, .val 0⟩
/-- HL_STATUS.TX_EIDLE (07): Transmitter in electrical idle (R150). -/
def HL_STATUS_TX_EIDLE : Fld := ⟨.HL_STATUS, 5, 1, .ro, .val 0⟩
/-- HL_STATUS.TX_READY (07): Transmitter powered and settled. -/
def HL_STATUS_TX_READY : Fld := ⟨.HL_STATUS, 6, 1, .ro, .val 0⟩
/-- HL_STATUS.APPLY_PEND (07): 1 until an APPLY or PRESET_LOAD completes (R141). -/
def HL_STATUS_APPLY_PEND : Fld := ⟨.HL_STATUS, 7, 1, .ro, .val 0⟩
/-- HL_STATUS.SIG_LOST (07): SIG_DET fell; fires the host interrupt. -/
def HL_STATUS_SIG_LOST : Fld := ⟨.HL_STATUS, 8, 1, .w1c, .val 0⟩
/-- HL_STATUS.LOCK_LOST (07): CDR_LOCK fell; fires the host interrupt. -/
def HL_STATUS_LOCK_LOST : Fld := ⟨.HL_STATUS, 9, 1, .w1c, .val 0⟩
/-- HL_STATUS.TRAIN_FAIL (07): Training entered FAIL (R146); fires the host interrupt. -/
def HL_STATUS_TRAIN_FAIL : Fld := ⟨.HL_STATUS, 10, 1, .w1c, .val 0⟩
/-- HL_STATUS.TX_LIMIT (07): An applied set was limited (R140). -/
def HL_STATUS_TX_LIMIT : Fld := ⟨.HL_STATUS, 11, 1, .w1c, .val 0⟩
/-- HL_RX_CTLE.PEAK (07): Peaking 0.5 dB × code, 0 to 15.5 dB (R136). -/
def HL_RX_CTLE_PEAK : Fld := ⟨.HL_RX_CTLE, 0, 5, .rw, .val 0x10⟩
/-- HL_RX_CTLE.POLE (07): Pole setting 0 to 3. -/
def HL_RX_CTLE_POLE : Fld := ⟨.HL_RX_CTLE, 5, 2, .rw, .val 1⟩
/-- HL_RX_CTLE.AUTO (07): 1: adapt the receiver; 0: all controls hold. -/
def HL_RX_CTLE_AUTO : Fld := ⟨.HL_RX_CTLE, 7, 1, .rw, .val 1⟩
/-- HL_RX_ADAPT.FRZ_CTLE (07): 1: hold the CTLE. -/
def HL_RX_ADAPT_FRZ_CTLE : Fld := ⟨.HL_RX_ADAPT, 0, 1, .rw, .val 0⟩
/-- HL_RX_ADAPT.FRZ_FFE (07): 1: hold the FFE. -/
def HL_RX_ADAPT_FRZ_FFE : Fld := ⟨.HL_RX_ADAPT, 1, 1, .rw, .val 0⟩
/-- HL_RX_ADAPT.FRZ_DFE (07): 1: hold h1. -/
def HL_RX_ADAPT_FRZ_DFE : Fld := ⟨.HL_RX_ADAPT, 2, 1, .rw, .val 0⟩
/-- HL_RX_ADAPT.MU (07): LMS step 2^−MU, 4 to 15; below 4 acts as 4. -/
def HL_RX_ADAPT_MU : Fld := ⟨.HL_RX_ADAPT, 4, 4, .rw, .val 0xA⟩
/-- HL_RX_TAP_SEL.INDEX (07): 0 to 15: FFE tap, main cursor at 4; 16: h1; 17 to 31: none. -/
def HL_RX_TAP_SEL_INDEX : Fld := ⟨.HL_RX_TAP_SEL, 0, 5, .rw, .val 0⟩
/-- HL_RX_TAP.VALUE (07): FFE: Q2.10. h1: Q1.9 in bits [9:0]. Index 17 to 31 reads zero and drops writes. A write acts within 1 µs (R136). -/
def HL_RX_TAP_VALUE : Fld := ⟨.HL_RX_TAP, 0, 12, .rw, .val 0⟩
/-- HL_RX_SNR.SNR (07): SNR in 0.1 dB, 0 to 600, saturating (R136). -/
def HL_RX_SNR_SNR : Fld := ⟨.HL_RX_SNR, 0, 10, .ro, .val 0⟩
/-- HL_TX_COEF0.CM3 (07): c(−3), signed, −8 to +8 (R140). -/
def HL_TX_COEF0_CM3 : Fld := ⟨.HL_TX_COEF0, 0, 5, .rw, .val 0⟩
/-- HL_TX_COEF0.CM2 (07): c(−2), signed, −12 to +12. -/
def HL_TX_COEF0_CM2 : Fld := ⟨.HL_TX_COEF0, 8, 5, .rw, .val 0⟩
/-- HL_TX_COEF0.CM1 (07): c(−1), signed, −24 to 0. -/
def HL_TX_COEF0_CM1 : Fld := ⟨.HL_TX_COEF0, 16, 6, .rw, .val 0⟩
/-- HL_TX_COEF0.CP1 (07): c(1), signed, −24 to 0. -/
def HL_TX_COEF0_CP1 : Fld := ⟨.HL_TX_COEF0, 24, 6, .rw, .val 0⟩
/-- HL_TX_COEF1.CP2 (07): c(2), signed, −8 to +8. -/
def HL_TX_COEF1_CP2 : Fld := ⟨.HL_TX_COEF1, 0, 5, .rw, .val 0⟩
/-- HL_TX_COEF1.C0 (07): c(0) in force, 32 to 64 (R140). -/
def HL_TX_COEF1_C0 : Fld := ⟨.HL_TX_COEF1, 16, 7, .ro, .val 0x40⟩
/-- HL_TX_CTRL.APPLY (07): 1: apply the pending set (R141). -/
def HL_TX_CTRL_APPLY : Fld := ⟨.HL_TX_CTRL, 0, 1, .wo, .val 0⟩
/-- HL_TX_CTRL.PRESET_LOAD (07): 1: load and apply preset PRESET. -/
def HL_TX_CTRL_PRESET_LOAD : Fld := ⟨.HL_TX_CTRL, 1, 1, .wo, .val 0⟩
/-- HL_TX_CTRL.PRESET (07): Preset number of the standard, 1 to 7; undefined numbers load preset 1. -/
def HL_TX_CTRL_PRESET : Fld := ⟨.HL_TX_CTRL, 2, 3, .rw, .val 1⟩
/-- HL_TRAIN_CFG.INIT_PRESET (07): Preset requested first (R145). -/
def HL_TRAIN_CFG_INIT_PRESET : Fld := ⟨.HL_TRAIN_CFG, 0, 3, .rw, .val 2⟩
/-- HL_TRAIN_CFG.MEAS (07): W = 2^(12 + MEAS) symbols, 0 to 10; 11 to 15 act as 10. -/
def HL_TRAIN_CFG_MEAS : Fld := ⟨.HL_TRAIN_CFG, 4, 4, .rw, .val 8⟩
/-- HL_TRAIN_CFG.THRESH (07): Improvement needed to keep a step, 0.05 dB × code. -/
def HL_TRAIN_CFG_THRESH : Fld := ⟨.HL_TRAIN_CFG, 8, 4, .rw, .val 2⟩
/-- HL_TRAIN_CFG.MAX_REQ (07): Request limit, 1 to 255; 0 acts as 1. -/
def HL_TRAIN_CFG_MAX_REQ : Fld := ⟨.HL_TRAIN_CFG, 12, 8, .rw, .val 0x40⟩
/-- HL_TRAIN_CFG.PRECODE_REQ (07): 0b00 never; 0b01 always; 0b10 auto; 0b11 acts as auto. -/
def HL_TRAIN_CFG_PRECODE_REQ : Fld := ⟨.HL_TRAIN_CFG, 20, 2, .rw, .val 2⟩
/-- HL_TRAIN_CFG.TSEED (07): Lane number of the training-pattern seed. -/
def HL_TRAIN_CFG_TSEED : Fld := ⟨.HL_TRAIN_CFG, 22, 3, .rw, .laneIndex⟩
/-- HL_TRAIN_TMO.MS (07): Timeout in ms from SEND_TRAINING; reset 3000 ms; 0 disables (R146). -/
def HL_TRAIN_TMO_MS : Fld := ⟨.HL_TRAIN_TMO, 0, 16, .rw, .val 0xBB8⟩
/-- HL_TRAIN_TH.RX_SNR_MIN (07): Local ready threshold in 0.1 dB; reset 14.0 dB. -/
def HL_TRAIN_TH_RX_SNR_MIN : Fld := ⟨.HL_TRAIN_TH, 0, 10, .rw, .val 0x8C⟩
/-- HL_TRAIN_TH.PRE_TH (07): Precoding threshold on -/
def HL_TRAIN_TH_PRE_TH : Fld := ⟨.HL_TRAIN_TH, 16, 10, .rw, .val 0xC0⟩
/-- HL_TRAIN_CTRL.RESTART (07): 1: restart training at SEND_TRAINING, or at WAIT_TX while in electrical idle. -/
def HL_TRAIN_CTRL_RESTART : Fld := ⟨.HL_TRAIN_CTRL, 0, 1, .wo, .val 0⟩
/-- HL_TRAIN_CTRL.ABORT (07): 1: go to OFF; coefficients are kept. -/
def HL_TRAIN_CTRL_ABORT : Fld := ⟨.HL_TRAIN_CTRL, 1, 1, .wo, .val 0⟩
/-- HL_TRAIN_STATUS.STATE (07): 0 OFF; 1 WAIT_TX; 2 SEND_TRAINING; 3 TRAIN_LOCAL; 4 TRAIN_REMOTE; 5 LINK_READY; 6 SEND_DATA; 7 FAIL (R143). -/
def HL_TRAIN_STATUS_STATE : Fld := ⟨.HL_TRAIN_STATUS, 0, 3, .ro, .val 0⟩
/-- HL_TRAIN_STATUS.LOCAL_RDY (07): Local receiver declared ready. -/
def HL_TRAIN_STATUS_LOCAL_RDY : Fld := ⟨.HL_TRAIN_STATUS, 3, 1, .ro, .val 0⟩
/-- HL_TRAIN_STATUS.REMOTE_RDY (07): Partner reports ready. -/
def HL_TRAIN_STATUS_REMOTE_RDY : Fld := ⟨.HL_TRAIN_STATUS, 4, 1, .ro, .val 0⟩
/-- HL_TRAIN_STATUS.REQ_COUNT (07): Requests sent in the current training. -/
def HL_TRAIN_STATUS_REQ_COUNT : Fld := ⟨.HL_TRAIN_STATUS, 8, 8, .ro, .val 0⟩
/-- HL_TRAIN_CNT.FAILS (07): Entries to FAIL; saturates at 0xFFFF. -/
def HL_TRAIN_CNT_FAILS : Fld := ⟨.HL_TRAIN_CNT, 0, 16, .rc, .val 0⟩
/-- HL_TRAIN_CNT.PARTNER_REQ (07): Requests received from the partner; saturates at 0xFFFF. -/
def HL_TRAIN_CNT_PARTNER_REQ : Fld := ⟨.HL_TRAIN_CNT, 16, 16, .rc, .val 0⟩
/-- HL_PAT.GEN (07): Generator (R148). -/
def HL_PAT_GEN : Fld := ⟨.HL_PAT, 0, 3, .rw, .val 0⟩
/-- HL_PAT.CHK (07): 0 off; 1 PRBS31Q; 2 PRBS13Q; 3 user; 4 to 7 off (R149). -/
def HL_PAT_CHK : Fld := ⟨.HL_PAT, 4, 3, .rw, .val 0⟩
/-- HL_PAT.CHK_LOCK (07): 1 while the checker is locked. -/
def HL_PAT_CHK_LOCK : Fld := ⟨.HL_PAT, 8, 1, .ro, .val 0⟩
/-- HL_PAT.CHK_RESTART (07): 1: clear lock and count. -/
def HL_PAT_CHK_RESTART : Fld := ⟨.HL_PAT, 9, 1, .wo, .val 0⟩
/-- HL_PAT_ERR.COUNT (07): Bit errors while locked; saturates at 0xFFFF_FFFF. -/
def HL_PAT_ERR_COUNT : Fld := ⟨.HL_PAT_ERR, 0, 32, .rc, .val 0⟩
/-- HL_PAT_USER.SYMBOLS (07): Symbol 16 × w + k is bits [2k + 1:2k] of the word at 0x0410 + 4 × w, sent first from symbol 0. 0b00 −3; 0b01 −1; 0b10 +1; 0b11 +3. -/
def HL_PAT_USER_SYMBOLS : Fld := ⟨.HL_PAT_USER, 0, 32, .rw, .val 0⟩
/-- GBX_PSTATUS.VALID (08): 1 when the seed places a port in this slot (R151). -/
def GBX_PSTATUS_VALID : Fld := ⟨.GBX_PSTATUS, 0, 1, .ro, .val 0⟩
/-- GBX_PSTATUS.PORT (08): Device-wide port number, 0 to 7. -/
def GBX_PSTATUS_PORT : Fld := ⟨.GBX_PSTATUS, 1, 3, .ro, .val 0⟩
/-- GBX_PSTATUS.TYPE (08): 0b00 400GbE; 0b01 800GbE; 0b10 1.6TbE; 0b11 not used. -/
def GBX_PSTATUS_TYPE : Fld := ⟨.GBX_PSTATUS, 4, 2, .ro, .val 0⟩
/-- GBX_PSTATUS.FRAMING (08): 0 transparent; 1 terminating (R157, R158). -/
def GBX_PSTATUS_FRAMING : Fld := ⟨.GBX_PSTATUS, 6, 1, .ro, .val 0⟩
/-- GBX_PSTATUS.RELMODE (08): 0 fixed-latency; 1 low-latency (R159). -/
def GBX_PSTATUS_RELMODE : Fld := ⟨.GBX_PSTATUS, 7, 1, .ro, .val 0⟩
/-- GBX_PSTATUS.RX_AM_LOCK (08): Bit i: the port's i-th host lane has receive marker lock (R154). -/
def GBX_PSTATUS_RX_AM_LOCK : Fld := ⟨.GBX_PSTATUS, 8, 8, .ro, .val 0⟩
/-- GBX_PSTATUS.TX_AM_LOCK (08): Bit i: the port's i-th host lane has transmit marker lock. -/
def GBX_PSTATUS_TX_AM_LOCK : Fld := ⟨.GBX_PSTATUS, 16, 8, .ro, .val 0⟩
/-- GBX_PSTATUS.RX_FILL (08): 1 while host fill is sent (R162). -/
def GBX_PSTATUS_RX_FILL : Fld := ⟨.GBX_PSTATUS, 24, 1, .ro, .val 0⟩
/-- GBX_PSTATUS.TX_FILL (08): 1 while line fill is sent. -/
def GBX_PSTATUS_TX_FILL : Fld := ⟨.GBX_PSTATUS, 25, 1, .ro, .val 0⟩
/-- GBX_PSTATUS.RX_DESKEWED (08): 1 while the receive flows are deskewed within the limit (R155). -/
def GBX_PSTATUS_RX_DESKEWED : Fld := ⟨.GBX_PSTATUS, 26, 1, .ro, .val 0⟩
/-- GBX_PSTATUS.TX_DESKEWED (08): 1 while the transmit flows are deskewed within the limit. -/
def GBX_PSTATUS_TX_DESKEWED : Fld := ⟨.GBX_PSTATUS, 27, 1, .ro, .val 0⟩
/-- GBX_EVENTS.RX_AM_LOST (08): A receive marker lock fell (R154). -/
def GBX_EVENTS_RX_AM_LOST : Fld := ⟨.GBX_EVENTS, 0, 1, .w1c, .val 0⟩
/-- GBX_EVENTS.TX_AM_LOST (08): A transmit marker lock fell. -/
def GBX_EVENTS_TX_AM_LOST : Fld := ⟨.GBX_EVENTS, 1, 1, .w1c, .val 0⟩
/-- GBX_EVENTS.RX_SKEW_ERR (08): Receive skew beyond 16 ns (R155). -/
def GBX_EVENTS_RX_SKEW_ERR : Fld := ⟨.GBX_EVENTS, 2, 1, .w1c, .val 0⟩
/-- GBX_EVENTS.TX_SKEW_ERR (08): Transmit skew beyond 10 ns. -/
def GBX_EVENTS_TX_SKEW_ERR : Fld := ⟨.GBX_EVENTS, 3, 1, .w1c, .val 0⟩
/-- GBX_EVENTS.LL_STEP (08): A transparent low-latency step (R160). -/
def GBX_EVENTS_LL_STEP : Fld := ⟨.GBX_EVENTS, 4, 1, .w1c, .val 0⟩
/-- GBX_EVENTS.RX_FILL_EV (08): A host fill episode began (R162). -/
def GBX_EVENTS_RX_FILL_EV : Fld := ⟨.GBX_EVENTS, 5, 1, .w1c, .val 0⟩
/-- GBX_EVENTS.TX_FILL_EV (08): A line fill episode began. -/
def GBX_EVENTS_TX_FILL_EV : Fld := ⟨.GBX_EVENTS, 6, 1, .w1c, .val 0⟩
/-- GBX_SKEW.RX (08): Largest receive skew among the lanes of a flow, in 10 ps; saturates at 0xFFF (R155). -/
def GBX_SKEW_RX : Fld := ⟨.GBX_SKEW, 0, 12, .ro, .val 0⟩
/-- GBX_SKEW.TX (08): Largest transmit skew, in 10 ps; saturates at 0xFFF. -/
def GBX_SKEW_TX : Fld := ⟨.GBX_SKEW, 16, 12, .ro, .val 0⟩
/-- GBX_LL.OFS (08): Play-out target in lane dpclk; below 4 acts as 4; above D × 72 acts as D × 72 (R159). Ignored in fixed-latency mode and in L100. -/
def GBX_LL_OFS : Fld := ⟨.GBX_LL, 0, 9, .rw, .val 0xC⟩
/-- GBX_LL.REARM (08): 1: return P to OFS in transparent framing (R160). -/
def GBX_LL_REARM : Fld := ⟨.GBX_LL, 9, 1, .wo, .val 0⟩
/-- GBX_LL.OFS_NOW (08): Current P in lane dpclk; D × 72 in fixed-latency mode. -/
def GBX_LL_OFS_NOW : Fld := ⟨.GBX_LL, 16, 9, .ro, .val 0⟩
/-- GBX_LL_CNT.STALLS (08): Steps (R160) or insertion episodes (R161); saturates at 0xFFFF. -/
def GBX_LL_CNT_STALLS : Fld := ⟨.GBX_LL_CNT, 0, 16, .rc, .val 0⟩
/-- GBX_LL_CNT.CUTS (08): Frames ended with an error block by insertion or fill (R161, R163); saturates at 0xFFFF. -/
def GBX_LL_CNT_CUTS : Fld := ⟨.GBX_LL_CNT, 16, 16, .rc, .val 0⟩
/-- GBX_LL_BLK.INS (08): Idle blocks inserted (R161); saturates at 0xFFFF. -/
def GBX_LL_BLK_INS : Fld := ⟨.GBX_LL_BLK, 0, 16, .rc, .val 0⟩
/-- GBX_LL_BLK.DEL (08): Idle blocks deleted; saturates at 0xFFFF. -/
def GBX_LL_BLK_DEL : Fld := ⟨.GBX_LL_BLK, 16, 16, .rc, .val 0⟩
/-- PCS_CTRL.MON_EN (08): 1: run the RS monitor in transparent framing (R157). -/
def PCS_CTRL_MON_EN : Fld := ⟨.PCS_CTRL, 0, 1, .rw, .val 1⟩
/-- PCS_CTRL.PTP_RX (08): Line to host: 0b00 NONE; 0b01 TS_INSERT; 0b10 CF_ADD; 0b11 acts as NONE (R165). Acts in terminating framing only. -/
def PCS_CTRL_PTP_RX : Fld := ⟨.PCS_CTRL, 1, 2, .rw, .val 0⟩
/-- PCS_CTRL.PTP_TX (08): Host to line, with the same encoding. -/
def PCS_CTRL_PTP_TX : Fld := ⟨.PCS_CTRL, 3, 2, .rw, .val 0⟩
/-- PCS_CTRL.MSG_MASK (08): Bit 5 Sync; bit 6 Delay_Req; bit 7 Pdelay_Req; bit 8 Pdelay_Resp (R164). -/
def PCS_CTRL_MSG_MASK : Fld := ⟨.PCS_CTRL, 5, 4, .rw, .val 0xF⟩
/-- PCS_CTRL.MATCH_L2 (08): 1: recognise EtherType 0x88F7. -/
def PCS_CTRL_MATCH_L2 : Fld := ⟨.PCS_CTRL, 9, 1, .rw, .val 1⟩
/-- PCS_CTRL.MATCH_UDP4 (08): 1: recognise UDP/IPv4, port 319. -/
def PCS_CTRL_MATCH_UDP4 : Fld := ⟨.PCS_CTRL, 10, 1, .rw, .val 1⟩
/-- PCS_CTRL.MATCH_UDP6 (08): 1: recognise UDP/IPv6, port 319. -/
def PCS_CTRL_MATCH_UDP6 : Fld := ⟨.PCS_CTRL, 11, 1, .rw, .val 1⟩
/-- PCS_STATUS.TERM (08): 1 when the port runs terminating framing. -/
def PCS_STATUS_TERM : Fld := ⟨.PCS_STATUS, 0, 1, .ro, .val 0⟩
/-- PCS_STATUS.RX_UNC_EV (08): An uncorrectable codeword from the line (R158); fires the framing interrupt. -/
def PCS_STATUS_RX_UNC_EV : Fld := ⟨.PCS_STATUS, 8, 1, .w1c, .val 0⟩
/-- PCS_STATUS.TX_UNC_EV (08): An uncorrectable codeword from the host; fires the framing interrupt. -/
def PCS_STATUS_TX_UNC_EV : Fld := ⟨.PCS_STATUS, 9, 1, .w1c, .val 0⟩
/-- PCS_RX_CW.COUNT (08): At 0x10: RS codewords decoded. At 0x14: symbols corrected. At 0x18: uncorrectable codewords. Each saturates at 0xFFFF_FFFF. -/
def PCS_RX_CW_COUNT : Fld := ⟨.PCS_RX_CW, 0, 32, .rc, .val 0⟩
/-- PCS_RX_SYM.COUNT (08): At 0x10: RS codewords decoded. At 0x14: symbols corrected. At 0x18: uncorrectable codewords. Each saturates at 0xFFFF_FFFF. -/
def PCS_RX_SYM_COUNT : Fld := ⟨.PCS_RX_SYM, 0, 32, .rc, .val 0⟩
/-- PCS_RX_UNC.COUNT (08): At 0x10: RS codewords decoded. At 0x14: symbols corrected. At 0x18: uncorrectable codewords. Each saturates at 0xFFFF_FFFF. -/
def PCS_RX_UNC_COUNT : Fld := ⟨.PCS_RX_UNC, 0, 32, .rc, .val 0⟩
/-- PCS_TX_CW.COUNT (08): As the receive counters, for the host-to-line direction, at 0x20, 0x24 and 0x28. -/
def PCS_TX_CW_COUNT : Fld := ⟨.PCS_TX_CW, 0, 32, .rc, .val 0⟩
/-- PCS_TX_SYM.COUNT (08): As the receive counters, for the host-to-line direction, at 0x20, 0x24 and 0x28. -/
def PCS_TX_SYM_COUNT : Fld := ⟨.PCS_TX_SYM, 0, 32, .rc, .val 0⟩
/-- PCS_TX_UNC.COUNT (08): As the receive counters, for the host-to-line direction, at 0x20, 0x24 and 0x28. -/
def PCS_TX_UNC_COUNT : Fld := ⟨.PCS_TX_UNC, 0, 32, .rc, .val 0⟩
/-- PCS_PTP_CNT.RX (08): Frames rewritten line to host (R165); saturates at 0xFFFF. -/
def PCS_PTP_CNT_RX : Fld := ⟨.PCS_PTP_CNT, 0, 16, .rc, .val 0⟩
/-- PCS_PTP_CNT.TX (08): Frames rewritten host to line; saturates at 0xFFFF. -/
def PCS_PTP_CNT_TX : Fld := ⟨.PCS_PTP_CNT, 16, 16, .rc, .val 0⟩
/-- PCS_PTP_SKIP.RX (08): Line-to-host frames that failed the 256-byte limit (R164); saturates at 0xFFFF. -/
def PCS_PTP_SKIP_RX : Fld := ⟨.PCS_PTP_SKIP, 0, 16, .rc, .val 0⟩
/-- PCS_PTP_SKIP.TX (08): Host-to-line frames that failed the limit; saturates at 0xFFFF. -/
def PCS_PTP_SKIP_TX : Fld := ⟨.PCS_PTP_SKIP, 16, 16, .rc, .val 0⟩
/-- BN_LINK_CTRL.EN (09): 1: lane enabled (R168); set by the loader at RESTART unless HOLD_LANES; a write of 1 for a lane in no port is dropped. -/
def BN_LINK_CTRL_EN : Fld := ⟨.BN_LINK_CTRL, 0, 1, .rw, .val 0⟩
/-- BN_LINK_CTRL.RETRAIN (09): 0 OFF; 1 AUTO (R174). -/
def BN_LINK_CTRL_RETRAIN : Fld := ⟨.BN_LINK_CTRL, 1, 1, .rw, .val 1⟩
/-- BN_LINK_CTRL.RETRAIN_NOW (09): 1: clear ATTEMPTS and STOPPED and start attempt 1; dropped while EN = 0. -/
def BN_LINK_CTRL_RETRAIN_NOW : Fld := ⟨.BN_LINK_CTRL, 2, 1, .wo, .val 0⟩
/-- BN_LINK_CTRL.RETRY_MAX (09): Attempts before giving up, 1 to 15; 0 acts as 1. -/
def BN_LINK_CTRL_RETRY_MAX : Fld := ⟨.BN_LINK_CTRL, 8, 4, .rw, .val 6⟩
/-- BN_LINK_CTRL.HOLDOFF (09): Wait at DOWN after an attempt starts, in 100 µs; reset 1 ms. -/
def BN_LINK_CTRL_HOLDOFF : Fld := ⟨.BN_LINK_CTRL, 16, 8, .rw, .val 0xA⟩
/-- BN_LINK_STATUS.STATE (09): 0 DOWN; 1 SIGNAL; 2 CDR_LOCK; 3 EQ_ACQ; 4 FRAME_LOCK; 5 UP; 6 and 7 not used (R169). -/
def BN_LINK_STATUS_STATE : Fld := ⟨.BN_LINK_STATUS, 0, 3, .ro, .val 0⟩
/-- BN_LINK_STATUS.LOS (09): Loss of signal (R173). -/
def BN_LINK_STATUS_LOS : Fld := ⟨.BN_LINK_STATUS, 3, 1, .ro, .val 0⟩
/-- BN_LINK_STATUS.STOPPED (09): 1 after the lane has given up (R174); cleared by RETRAIN_NOW or by clearing EN (R168). -/
def BN_LINK_STATUS_STOPPED : Fld := ⟨.BN_LINK_STATUS, 4, 1, .ro, .val 0⟩
/-- BN_LINK_STATUS.LOS_EV (09): LOS was set; fires the link interrupt. -/
def BN_LINK_STATUS_LOS_EV : Fld := ⟨.BN_LINK_STATUS, 5, 1, .w1c, .val 0⟩
/-- BN_LINK_STATUS.UP_LOST (09): The lane fell from UP (R171); fires the link interrupt. -/
def BN_LINK_STATUS_UP_LOST : Fld := ⟨.BN_LINK_STATUS, 6, 1, .w1c, .val 0⟩
/-- BN_LINK_STATUS.TMO_EV (09): A state timer expired (R172); fires the link interrupt. -/
def BN_LINK_STATUS_TMO_EV : Fld := ⟨.BN_LINK_STATUS, 7, 1, .w1c, .val 0⟩
/-- BN_LINK_STATUS.GAVE_UP_EV (09): Retries exhausted; fires the link interrupt. -/
def BN_LINK_STATUS_GAVE_UP_EV : Fld := ⟨.BN_LINK_STATUS, 8, 1, .w1c, .val 0⟩
/-- BN_LINK_STATUS.GAIN_TMO (09): T_GAIN expired before the gain settled (R170). -/
def BN_LINK_STATUS_GAIN_TMO : Fld := ⟨.BN_LINK_STATUS, 9, 1, .w1c, .val 0⟩
/-- BN_LINK_STATUS.ATTEMPTS (09): Retrain attempts since the count last cleared. -/
def BN_LINK_STATUS_ATTEMPTS : Fld := ⟨.BN_LINK_STATUS, 12, 4, .ro, .val 0⟩
/-- BN_LINK_STATUS.TMO_STATE (09): State whose timer last expired, coded as STATE. -/
def BN_LINK_STATUS_TMO_STATE : Fld := ⟨.BN_LINK_STATUS, 16, 3, .ro, .val 0⟩
/-- BN_LINK_LOS.ON (09): Mean -/
def BN_LINK_LOS_ON : Fld := ⟨.BN_LINK_LOS, 0, 8, .rw, .val 0xC⟩
/-- BN_LINK_LOS.OFF (09): Mean below which LOS is set; above ON acts as ON. -/
def BN_LINK_LOS_OFF : Fld := ⟨.BN_LINK_LOS, 8, 8, .rw, .val 6⟩
/-- BN_LINK_LOS.ASSERT (09): Consecutive 1 µs windows to set LOS, 1 to 15; 0 acts as 1. -/
def BN_LINK_LOS_ASSERT : Fld := ⟨.BN_LINK_LOS, 16, 4, .rw, .val 2⟩
/-- BN_LINK_LOS.DEASSERT (09): Consecutive windows to clear LOS, 1 to 15; 0 acts as 1. -/
def BN_LINK_LOS_DEASSERT : Fld := ⟨.BN_LINK_LOS, 20, 4, .rw, .val 4⟩
/-- BN_LINK_TMR.T_CDR (09): SIGNAL timer in 100 µs; reset 2 ms; 0 disables (R172). -/
def BN_LINK_TMR_T_CDR : Fld := ⟨.BN_LINK_TMR, 0, 8, .rw, .val 0x14⟩
/-- BN_LINK_TMR.T_GAIN (09): CDR_LOCK gain timer in 1 ms; reset 16 ms; 0 disables (R170). -/
def BN_LINK_TMR_T_GAIN : Fld := ⟨.BN_LINK_TMR, 8, 8, .rw, .val 0x10⟩
/-- BN_LINK_TMR.T_EQ (09): EQ_ACQ timer in 100 µs; reset 10 ms; 0 disables. -/
def BN_LINK_TMR_T_EQ : Fld := ⟨.BN_LINK_TMR, 16, 8, .rw, .val 0x64⟩
/-- BN_LINK_TMR.T_FRAME (09): FRAME_LOCK timer in 100 µs; reset 2 ms; 0 disables. -/
def BN_LINK_TMR_T_FRAME : Fld := ⟨.BN_LINK_TMR, 24, 8, .rw, .val 0x14⟩
/-- BN_LINK_TMR2.GAIN_HOLD (09): Unchanged gain updates needed to settle; 0 settles on entry (R170). -/
def BN_LINK_TMR2_GAIN_HOLD : Fld := ⟨.BN_LINK_TMR2, 0, 4, .rw, .val 2⟩
/-- BN_LINK_TMR2.STABLE (09): Time at UP that clears ATTEMPTS, in 10 ms; reset 100 ms; 0 clears it on entry to UP (R174). -/
def BN_LINK_TMR2_STABLE : Fld := ⟨.BN_LINK_TMR2, 8, 8, .rw, .val 0xA⟩
/-- BN_LINK_CNT.UP_LOSS (09): Falls from UP (R171); saturates at 0xFFFF. -/
def BN_LINK_CNT_UP_LOSS : Fld := ⟨.BN_LINK_CNT, 0, 16, .rc, .val 0⟩
/-- BN_LINK_CNT.RETRAINS (09): Retrain attempts (R174); saturates at 0xFFFF. -/
def BN_LINK_CNT_RETRAINS : Fld := ⟨.BN_LINK_CNT, 16, 16, .rc, .val 0⟩
/-- BN_PORT_CTRL.LOOP (09): 0b00 NONE; 0b01 HOST_SERIAL; 0b10 NEAR_PARALLEL; 0b11 LINE_FAR (R177). -/
def BN_PORT_CTRL_LOOP : Fld := ⟨.BN_PORT_CTRL, 0, 2, .rw, .val 0⟩
/-- BN_PORT_CTRL.HRETRAIN (09): 1: restart a host lane's training after FAIL (R174). -/
def BN_PORT_CTRL_HRETRAIN : Fld := ⟨.BN_PORT_CTRL, 4, 1, .rw, .val 1⟩
/-- BN_PORT_CTRL.HHOLDOFF (09): Wait before the restart, in ms; reset 100 ms. -/
def BN_PORT_CTRL_HHOLDOFF : Fld := ⟨.BN_PORT_CTRL, 8, 8, .rw, .val 0x64⟩
/-- BN_PORT_STATUS.RX_UP (09): Receive direction UP (R175). -/
def BN_PORT_STATUS_RX_UP : Fld := ⟨.BN_PORT_STATUS, 0, 1, .ro, .val 0⟩
/-- BN_PORT_STATUS.TX_UP (09): Transmit direction UP. -/
def BN_PORT_STATUS_TX_UP : Fld := ⟨.BN_PORT_STATUS, 1, 1, .ro, .val 0⟩
/-- BN_PORT_STATUS.LOOP_ACTIVE (09): 1 while the LOOP value in force is not NONE (R177). -/
def BN_PORT_STATUS_LOOP_ACTIVE : Fld := ⟨.BN_PORT_STATUS, 2, 1, .ro, .val 0⟩
/-- BN_PORT_STATUS.TX_REF_LINE (09): 1 while LINE_FAR clocks the transmit follower from the line (R178). -/
def BN_PORT_STATUS_TX_REF_LINE : Fld := ⟨.BN_PORT_STATUS, 3, 1, .ro, .val 0⟩
/-- BN_PORT_STATUS.RX_DOWN_EV (09): RX_UP fell; fires the port's link interrupt. -/
def BN_PORT_STATUS_RX_DOWN_EV : Fld := ⟨.BN_PORT_STATUS, 4, 1, .w1c, .val 0⟩
/-- BN_PORT_STATUS.TX_DOWN_EV (09): TX_UP fell; fires the port's link interrupt. -/
def BN_PORT_STATUS_TX_DOWN_EV : Fld := ⟨.BN_PORT_STATUS, 5, 1, .w1c, .val 0⟩
/-- BN_PORT_STATUS.LOOP_REJ (09): A write naming a LOOP other than NONE to a slot without a port was dropped; its other fields were stored (R177). -/
def BN_PORT_STATUS_LOOP_REJ : Fld := ⟨.BN_PORT_STATUS, 6, 1, .w1c, .val 0⟩
/-- SB_CTRL.SYNC (10): 1: SYNC every READY lane in this mclk (R189). -/
def SB_CTRL_SYNC : Fld := ⟨.SB_CTRL, 0, 1, .wo, .val 0⟩
/-- SB_CTRL.TRG_SYNC (10): 1: act on trigger-bus SYNC events. -/
def SB_CTRL_TRG_SYNC : Fld := ⟨.SB_CTRL, 1, 1, .rw, .val 1⟩
/-- SB_STATUS.ALIGNED (10): Bit n: LLn's phase was set by the last SYNC (R189). -/
def SB_STATUS_ALIGNED : Fld := ⟨.SB_STATUS, 0, 8, .ro, .val 0⟩
/-- SB_STATUS.SYNC_EV (10): Set at every SYNC. -/
def SB_STATUS_SYNC_EV : Fld := ⟨.SB_STATUS, 8, 1, .w1c, .val 0⟩
/-- SB_STATUS.SYNC_UNCAL (10): 1: the last trigger-bus SYNC acted on uncompensated delay. -/
def SB_STATUS_SYNC_UNCAL : Fld := ⟨.SB_STATUS, 9, 1, .ro, .val 0⟩
/-- SB_STAGES.RANK (10): 0 off; 1 K = 3; 2 K = 5; 3 K = 7; 4 K = 9; 5 to 7 not used. -/
def SB_STAGES_RANK : Fld := ⟨.SB_STAGES, 0, 3, .ro, .val 0⟩
/-- SB_STAGES.HB (10): Half-band stages, 0 to 4. -/
def SB_STAGES_HB : Fld := ⟨.SB_STAGES, 3, 3, .ro, .val 0⟩
/-- SB_STAGES.FIR_EN (10): 1: FIR on. -/
def SB_STAGES_FIR_EN : Fld := ⟨.SB_STAGES, 6, 1, .ro, .val 0⟩
/-- SB_STAGES.DC_EN (10): 1: DC blocker on. -/
def SB_STAGES_DC_EN : Fld := ⟨.SB_STAGES, 7, 1, .ro, .val 0⟩
/-- SB_SHIFT.RANK (10): Pending; gain 2^(8 − SHIFT) (R181). -/
def SB_SHIFT_RANK : Fld := ⟨.SB_SHIFT, 0, 4, .rw, .val 8⟩
/-- SB_SHIFT.HB1 (10): Pending; first half-band. -/
def SB_SHIFT_HB1 : Fld := ⟨.SB_SHIFT, 4, 4, .rw, .val 8⟩
/-- SB_SHIFT.HB2 (10): Pending. -/
def SB_SHIFT_HB2 : Fld := ⟨.SB_SHIFT, 8, 4, .rw, .val 8⟩
/-- SB_SHIFT.HB3 (10): Pending. -/
def SB_SHIFT_HB3 : Fld := ⟨.SB_SHIFT, 12, 4, .rw, .val 8⟩
/-- SB_SHIFT.HB4 (10): Pending. -/
def SB_SHIFT_HB4 : Fld := ⟨.SB_SHIFT, 16, 4, .rw, .val 8⟩
/-- SB_SHIFT.FIR (10): Pending. -/
def SB_SHIFT_FIR : Fld := ⟨.SB_SHIFT, 20, 4, .rw, .val 8⟩
/-- SB_SHIFT.DC (10): Pending. -/
def SB_SHIFT_DC : Fld := ⟨.SB_SHIFT, 24, 4, .rw, .val 8⟩
/-- SB_DC.K (10): Pending; update weight 2^−K, 4 to 20; below 4 acts as 4; above 20 acts as 20 (R186). -/
def SB_DC_K : Fld := ⟨.SB_DC, 0, 5, .rw, .val 0xC⟩
/-- SB_DC.FRZ (10): 1: hold d; acts at once. -/
def SB_DC_FRZ : Fld := ⟨.SB_DC, 8, 1, .rw, .val 0⟩
/-- SB_FAST.LOG2 (10): Block of 2^LOG2 first-stage outputs, 0 to 10; 11 to 15 act as 10 (R187). A change acts at the next block boundary. -/
def SB_FAST_LOG2 : Fld := ⟨.SB_FAST, 0, 4, .rw, .val 6⟩
/-- SB_MON.PWR_WIN (10): Power window 2^PWR_WIN fast outputs, 4 to 16; values outside the range act as the nearer limit (R194). -/
def SB_MON_PWR_WIN : Fld := ⟨.SB_MON, 0, 5, .rw, .val 0xA⟩
/-- SB_MON.NF_SUB (10): Sub-block of 2^NF_SUB fine outputs, 4 to 12; values outside the range act as the nearer limit (R195). -/
def SB_MON_NF_SUB : Fld := ⟨.SB_MON, 8, 4, .rw, .val 8⟩
/-- SB_PWR.DBFS (10): Signed, in 0.1 dBFS; reset −200.0 dBFS (R194). -/
def SB_PWR_DBFS : Fld := ⟨.SB_PWR, 0, 16, .ro, .val 0xF830⟩
/-- SB_NF.DBFS (10): Signed, in 0.1 dBFS (R195). -/
def SB_NF_DBFS : Fld := ⟨.SB_NF, 0, 16, .ro, .val 0xF830⟩
/-- SB_LSTATUS.RUNNING (10): 1 while the chain produces outputs (R189). -/
def SB_LSTATUS_RUNNING : Fld := ⟨.SB_LSTATUS, 0, 1, .ro, .val 0⟩
/-- SB_LSTATUS.APPLY_PEND (10): 1 until pending values are taken (R185). -/
def SB_LSTATUS_APPLY_PEND : Fld := ⟨.SB_LSTATUS, 1, 1, .ro, .val 0⟩
/-- SB_LSTATUS.SAT_EV (10): A stage output saturated (R181); fires the sideband interrupt. -/
def SB_LSTATUS_SAT_EV : Fld := ⟨.SB_LSTATUS, 2, 1, .w1c, .val 0⟩
/-- SB_LSTATUS.SETTLE_LEFT (10): Fine outputs still to carry SETTLING, 0 to 106 (R190). -/
def SB_LSTATUS_SETTLE_LEFT : Fld := ⟨.SB_LSTATUS, 8, 8, .ro, .val 0⟩
/-- SB_SAT.COUNT (10): Stage outputs saturated since the last read; saturates at 0xFFFF_FFFF. -/
def SB_SAT_COUNT : Fld := ⟨.SB_SAT, 0, 32, .rc, .val 0⟩
/-- SB_FIR_CTRL.APPLY (10): 1: take the pending FIR coefficients, shifts and K at the next fine output (R185). -/
def SB_FIR_CTRL_APPLY : Fld := ⟨.SB_FIR_CTRL, 0, 1, .wo, .val 0⟩
/-- SB_FIR_SEL.INDEX (10): Coefficient c_k, k = 0 to 63. -/
def SB_FIR_SEL_INDEX : Fld := ⟨.SB_FIR_SEL, 0, 6, .rw, .val 0⟩
/-- SB_FIR_SEL.AUTO_INC (10): 1: INDEX advances by one after each access to SB_FIR_COEF, wrapping from 63 to 0. -/
def SB_FIR_SEL_AUTO_INC : Fld := ⟨.SB_FIR_SEL, 6, 1, .rw, .val 0⟩
/-- SB_FIR_COEF.VALUE (10): Pending c_k, Q2.14 (R183). -/
def SB_FIR_COEF_VALUE : Fld := ⟨.SB_FIR_COEF, 0, 16, .rw, .val 0⟩
/-- SLOE_CAPTURE.MARGIN (11): Capture margin in dB, 0 to 15 (R215). -/
def SLOE_CAPTURE_MARGIN : Fld := ⟨.SLOE_CAPTURE, 0, 4, .rw, .val 6⟩
/-- SLOE_CAPTURE.EN (11): 1: capture enabled; 0: nothing preempts. -/
def SLOE_CAPTURE_EN : Fld := ⟨.SLOE_CAPTURE, 4, 1, .rw, .val 1⟩
/-- SLOE_GASP.EN_THERM (11): 1: send on the orderly thermal stop (R207). -/
def SLOE_GASP_EN_THERM : Fld := ⟨.SLOE_GASP, 0, 1, .rw, .val 1⟩
/-- SLOE_GASP.SEND (11): 1: send DYING_GASP with reason 2 on every lane with TX_EN = 1. -/
def SLOE_GASP_SEND : Fld := ⟨.SLOE_GASP, 1, 1, .wo, .val 0⟩
/-- SLOE_LCFG.SF (11): Spreading factor 6 to 12; below 6 acts as 6; above 12 acts as 12. -/
def SLOE_LCFG_SF : Fld := ⟨.SLOE_LCFG, 0, 4, .rw, .val 8⟩
/-- SLOE_LCFG.BW (11): 0b00 0.5 MHz; 0b01 1 MHz; 0b10 2 MHz; 0b11 acts as 2 MHz. -/
def SLOE_LCFG_BW : Fld := ⟨.SLOE_LCFG, 4, 2, .rw, .val 1⟩
/-- SLOE_LCFG.CENTRE (11): 0b00 2 MHz; 0b01 4 MHz; 0b10 8 MHz; 0b11 acts as 8 MHz. -/
def SLOE_LCFG_CENTRE : Fld := ⟨.SLOE_LCFG, 6, 2, .rw, .val 1⟩
/-- SLOE_LCFG.RX_EN (11): 1: receiver enabled (R209). -/
def SLOE_LCFG_RX_EN : Fld := ⟨.SLOE_LCFG, 8, 1, .rw, .val 1⟩
/-- SLOE_LCFG.TX_EN (11): 1: transmitter enabled. -/
def SLOE_LCFG_TX_EN : Fld := ⟨.SLOE_LCFG, 9, 1, .rw, .val 1⟩
/-- SLOE_LCFG.IDLE (11): 1: idle symbols between packets (R198); 0: no overlay between packets. -/
def SLOE_LCFG_IDLE : Fld := ⟨.SLOE_LCFG, 10, 1, .rw, .val 1⟩
/-- SLOE_LCFG.SYNC (11): Sync nibbles s1 in bits [23:20] and s2 in bits [19:16]; a nibble of 0 acts as 1; 15 acts as 14. -/
def SLOE_LCFG_SYNC : Fld := ⟨.SLOE_LCFG, 16, 8, .rw, .val 0x35⟩
/-- SLOE_DET.DET_OFS (11): Detection offset, signed, in 0.5 dB, −8.0 to +7.5 dB; reset −2.0 dB (R211). -/
def SLOE_DET_DET_OFS : Fld := ⟨.SLOE_DET, 0, 5, .rw, .val 0x1C⟩
/-- SLOE_DET.DET_PAIRS (11): Pairs needed for detection, 1 to 4; 0 acts as 1; 5 to 7 act as 4. -/
def SLOE_DET_DET_PAIRS : Fld := ⟨.SLOE_DET, 8, 3, .rw, .val 2⟩
/-- SLOE_DET.PRE_PAIRS (11): Transmitted preamble pairs, 4 to 32; values outside act as the nearer limit (R199). -/
def SLOE_DET_PRE_PAIRS : Fld := ⟨.SLOE_DET, 16, 6, .rw, .val 8⟩
/-- SLOE_ID.TX_ID (11): SRC_ID sent in every header (R200). -/
def SLOE_ID_TX_ID : Fld := ⟨.SLOE_ID, 0, 16, .rw, .laneNumber⟩
/-- SLOE_ID.EXPECT (11): SRC_ID required when MATCH = 1 (R214). -/
def SLOE_ID_EXPECT : Fld := ⟨.SLOE_ID, 16, 16, .rw, .val 0⟩
/-- SLOE_RX.MAXLEN (11): Largest LEN accepted (R214). -/
def SLOE_RX_MAXLEN : Fld := ⟨.SLOE_RX, 0, 8, .rw, .val 0xFF⟩
/-- SLOE_RX.MATCH (11): 1: reject a SRC_ID other than EXPECT. -/
def SLOE_RX_MATCH : Fld := ⟨.SLOE_RX, 8, 1, .rw, .val 0⟩
/-- SLOE_RX.ACK_AUTO (11): 1: answer ACK_REQ with an ACK (R216). -/
def SLOE_RX_ACK_AUTO : Fld := ⟨.SLOE_RX, 9, 1, .rw, .val 1⟩
/-- SLOE_TX_CTRL.LEN (11): Payload bytes taken from the transmit buffer. -/
def SLOE_TX_CTRL_LEN : Fld := ⟨.SLOE_TX_CTRL, 0, 8, .rw, .val 0⟩
/-- SLOE_TX_CTRL.TYPE (11): Message type (R219). -/
def SLOE_TX_CTRL_TYPE : Fld := ⟨.SLOE_TX_CTRL, 8, 6, .rw, .val 0⟩
/-- SLOE_TX_CTRL.ACK_REQ (11): 1: request an ACK (R206). -/
def SLOE_TX_CTRL_ACK_REQ : Fld := ⟨.SLOE_TX_CTRL, 14, 1, .rw, .val 0⟩
/-- SLOE_TX_CTRL.RETRIES (11): Retransmissions allowed, 0 to 7. -/
def SLOE_TX_CTRL_RETRIES : Fld := ⟨.SLOE_TX_CTRL, 16, 3, .rw, .val 3⟩
/-- SLOE_TX_CTRL.WIN (11): Receive window 32 × 2^WIN symbol times; reset 128. -/
def SLOE_TX_CTRL_WIN : Fld := ⟨.SLOE_TX_CTRL, 20, 3, .rw, .val 2⟩
/-- SLOE_TX_CTRL.SEND (11): 1: queue the packet (R205). -/
def SLOE_TX_CTRL_SEND : Fld := ⟨.SLOE_TX_CTRL, 31, 1, .wo, .val 0⟩
/-- SLOE_TX_STATUS.BUSY (11): 1 from SEND until the packet ends. -/
def SLOE_TX_STATUS_BUSY : Fld := ⟨.SLOE_TX_STATUS, 0, 1, .ro, .val 0⟩
/-- SLOE_TX_STATUS.RESULT (11): 0 none; 1 SENT; 2 ACKED; 3 NO_ACK; 4 DROPPED; 5 REFUSED; 6 and 7 not used. -/
def SLOE_TX_STATUS_RESULT : Fld := ⟨.SLOE_TX_STATUS, 1, 3, .ro, .val 0⟩
/-- SLOE_TX_STATUS.TRY (11): Retransmissions sent for the current or last packet. -/
def SLOE_TX_STATUS_TRY : Fld := ⟨.SLOE_TX_STATUS, 4, 3, .ro, .val 0⟩
/-- SLOE_TX_STATUS.DONE (11): Set when a firmware packet ends; fires the Sloe interrupt. -/
def SLOE_TX_STATUS_DONE : Fld := ⟨.SLOE_TX_STATUS, 7, 1, .w1c, .val 0⟩
/-- SLOE_TX_STATUS.SEQ (11): SEQ of the current or last firmware packet. -/
def SLOE_TX_STATUS_SEQ : Fld := ⟨.SLOE_TX_STATUS, 8, 8, .ro, .val 0⟩
/-- SLOE_TX_STATUS.BUSY_REJ (11): A SEND was dropped while BUSY = 1. -/
def SLOE_TX_STATUS_BUSY_REJ : Fld := ⟨.SLOE_TX_STATUS, 16, 1, .w1c, .val 0⟩
/-- SLOE_RX_STATUS.STATE (11): 0 OFF; 1 SEARCH; 2 PREAMBLE; 3 HEADER; 4 PAYLOAD; 5 to 7 not used (R212). -/
def SLOE_RX_STATUS_STATE : Fld := ⟨.SLOE_RX_STATUS, 0, 3, .ro, .val 0⟩
/-- SLOE_RX_STATUS.VALID (11): 1: the buffer holds a stored packet; writing 1 frees it (R216). -/
def SLOE_RX_STATUS_VALID : Fld := ⟨.SLOE_RX_STATUS, 3, 1, .w1c, .val 0⟩
/-- SLOE_RX_STATUS.LAST (11): Status of the last reception (R217). -/
def SLOE_RX_STATUS_LAST : Fld := ⟨.SLOE_RX_STATUS, 4, 4, .ro, .val 0⟩
/-- SLOE_RX_STATUS.TS_SRC (11): Source of the stored stamp: 0 lane receiver; 1 TR0; 2 TR1; 3 not used. -/
def SLOE_RX_STATUS_TS_SRC : Fld := ⟨.SLOE_RX_STATUS, 8, 2, .ro, .val 0⟩
/-- SLOE_RX_STATUS.CFG_ERR (11): 1: R209 not met; receiver OFF. -/
def SLOE_RX_STATUS_CFG_ERR : Fld := ⟨.SLOE_RX_STATUS, 10, 1, .ro, .val 0⟩
/-- SLOE_RX_STATUS.METRIC (11): Stored packet's metric, signed, in 0.1 dB (R211). -/
def SLOE_RX_STATUS_METRIC : Fld := ⟨.SLOE_RX_STATUS, 12, 10, .ro, .val 0⟩
/-- SLOE_RX_STATUS.GASP_EV (11): A DYING_GASP was received. -/
def SLOE_RX_STATUS_GASP_EV : Fld := ⟨.SLOE_RX_STATUS, 22, 1, .w1c, .val 0⟩
/-- SLOE_RX_STATUS.TRIG_EV (11): A TRIG was received. -/
def SLOE_RX_STATUS_TRIG_EV : Fld := ⟨.SLOE_RX_STATUS, 23, 1, .w1c, .val 0⟩
/-- SLOE_RX_STATUS.SEQ (11): SEQ of the stored packet. -/
def SLOE_RX_STATUS_SEQ : Fld := ⟨.SLOE_RX_STATUS, 24, 8, .ro, .val 0⟩
/-- SLOE_RX_HDR.LEN (11): Payload length. -/
def SLOE_RX_HDR_LEN : Fld := ⟨.SLOE_RX_HDR, 0, 8, .ro, .val 0⟩
/-- SLOE_RX_HDR.TYPE (11): Message type. -/
def SLOE_RX_HDR_TYPE : Fld := ⟨.SLOE_RX_HDR, 8, 6, .ro, .val 0⟩
/-- SLOE_RX_HDR.ACK_REQ (11): As received. -/
def SLOE_RX_HDR_ACK_REQ : Fld := ⟨.SLOE_RX_HDR, 14, 1, .ro, .val 0⟩
/-- SLOE_RX_HDR.RETX (11): As received. -/
def SLOE_RX_HDR_RETX : Fld := ⟨.SLOE_RX_HDR, 15, 1, .ro, .val 0⟩
/-- SLOE_RX_HDR.SRC_ID (11): Sender's lane identity. -/
def SLOE_RX_HDR_SRC_ID : Fld := ⟨.SLOE_RX_HDR, 16, 16, .ro, .val 0⟩
/-- SLOE_RX_TS.TIME (11): Bits [31:0], [63:32] and [95:64] of the reference instant, in the layout of R220. -/
def SLOE_RX_TS_TIME : Fld := ⟨.SLOE_RX_TS, 0, 32, .ro, .val 0⟩
/-- SLOE_NF.DBFS (11): Signed, in 0.1 dBFS; reset −200.0 dBFS (R221). -/
def SLOE_NF_DBFS : Fld := ⟨.SLOE_NF, 0, 16, .ro, .val 0xF830⟩
/-- SLOE_RX_CNT0.OK (11): CNT0: [15:0] OK, [23:16] CRC_PAY, [31:24] DUP. CNT1: [7:0] CRC_HDR, [15:8] FALSE_ABORT, [23:16] FALSE_LOCK, [31:24] PREEMPTED. CNT2: [7:0] FOREIGN, [1 -/
def SLOE_RX_CNT0_OK : Fld := ⟨.SLOE_RX_CNT0, 0, 16, .rc, .val 0⟩
/-- SLOE_RX_CNT0.CRC_PAY (11): CNT0: [15:0] OK, [23:16] CRC_PAY, [31:24] DUP. CNT1: [7:0] CRC_HDR, [15:8] FALSE_ABORT, [23:16] FALSE_LOCK, [31:24] PREEMPTED. CNT2: [7:0] FOREIGN, [1 -/
def SLOE_RX_CNT0_CRC_PAY : Fld := ⟨.SLOE_RX_CNT0, 16, 8, .rc, .val 0⟩
/-- SLOE_RX_CNT0.DUP (11): CNT0: [15:0] OK, [23:16] CRC_PAY, [31:24] DUP. CNT1: [7:0] CRC_HDR, [15:8] FALSE_ABORT, [23:16] FALSE_LOCK, [31:24] PREEMPTED. CNT2: [7:0] FOREIGN, [1 -/
def SLOE_RX_CNT0_DUP : Fld := ⟨.SLOE_RX_CNT0, 24, 8, .rc, .val 0⟩
/-- SLOE_RX_CNT1.CRC_HDR (11): CNT0: [15:0] OK, [23:16] CRC_PAY, [31:24] DUP. CNT1: [7:0] CRC_HDR, [15:8] FALSE_ABORT, [23:16] FALSE_LOCK, [31:24] PREEMPTED. CNT2: [7:0] FOREIGN, [1 -/
def SLOE_RX_CNT1_CRC_HDR : Fld := ⟨.SLOE_RX_CNT1, 0, 8, .rc, .val 0⟩
/-- SLOE_RX_CNT1.FALSE_ABORT (11): CNT0: [15:0] OK, [23:16] CRC_PAY, [31:24] DUP. CNT1: [7:0] CRC_HDR, [15:8] FALSE_ABORT, [23:16] FALSE_LOCK, [31:24] PREEMPTED. CNT2: [7:0] FOREIGN, [1 -/
def SLOE_RX_CNT1_FALSE_ABORT : Fld := ⟨.SLOE_RX_CNT1, 8, 8, .rc, .val 0⟩
/-- SLOE_RX_CNT1.FALSE_LOCK (11): CNT0: [15:0] OK, [23:16] CRC_PAY, [31:24] DUP. CNT1: [7:0] CRC_HDR, [15:8] FALSE_ABORT, [23:16] FALSE_LOCK, [31:24] PREEMPTED. CNT2: [7:0] FOREIGN, [1 -/
def SLOE_RX_CNT1_FALSE_LOCK : Fld := ⟨.SLOE_RX_CNT1, 16, 8, .rc, .val 0⟩
/-- SLOE_RX_CNT1.PREEMPTED (11): CNT0: [15:0] OK, [23:16] CRC_PAY, [31:24] DUP. CNT1: [7:0] CRC_HDR, [15:8] FALSE_ABORT, [23:16] FALSE_LOCK, [31:24] PREEMPTED. CNT2: [7:0] FOREIGN, [1 -/
def SLOE_RX_CNT1_PREEMPTED : Fld := ⟨.SLOE_RX_CNT1, 24, 8, .rc, .val 0⟩
/-- SLOE_RX_CNT2.FOREIGN (11): CNT0: [15:0] OK, [23:16] CRC_PAY, [31:24] DUP. CNT1: [7:0] CRC_HDR, [15:8] FALSE_ABORT, [23:16] FALSE_LOCK, [31:24] PREEMPTED. CNT2: [7:0] FOREIGN, [1 -/
def SLOE_RX_CNT2_FOREIGN : Fld := ⟨.SLOE_RX_CNT2, 0, 8, .rc, .val 0⟩
/-- SLOE_RX_CNT2.TOO_LONG (11): CNT0: [15:0] OK, [23:16] CRC_PAY, [31:24] DUP. CNT1: [7:0] CRC_HDR, [15:8] FALSE_ABORT, [23:16] FALSE_LOCK, [31:24] PREEMPTED. CNT2: [7:0] FOREIGN, [1 -/
def SLOE_RX_CNT2_TOO_LONG : Fld := ⟨.SLOE_RX_CNT2, 8, 8, .rc, .val 0⟩
/-- SLOE_RX_CNT2.OVERRUN (11): CNT0: [15:0] OK, [23:16] CRC_PAY, [31:24] DUP. CNT1: [7:0] CRC_HDR, [15:8] FALSE_ABORT, [23:16] FALSE_LOCK, [31:24] PREEMPTED. CNT2: [7:0] FOREIGN, [1 -/
def SLOE_RX_CNT2_OVERRUN : Fld := ⟨.SLOE_RX_CNT2, 16, 8, .rc, .val 0⟩
/-- SLOE_RX_CNT2.DROPPED (11): CNT0: [15:0] OK, [23:16] CRC_PAY, [31:24] DUP. CNT1: [7:0] CRC_HDR, [15:8] FALSE_ABORT, [23:16] FALSE_LOCK, [31:24] PREEMPTED. CNT2: [7:0] FOREIGN, [1 -/
def SLOE_RX_CNT2_DROPPED : Fld := ⟨.SLOE_RX_CNT2, 24, 8, .rc, .val 0⟩
/-- SLOE_TX_CNT.SENT (11): Packets sent, retransmissions and hardware packets included; saturates. -/
def SLOE_TX_CNT_SENT : Fld := ⟨.SLOE_TX_CNT, 0, 16, .rc, .val 0⟩
/-- SLOE_TX_CNT.NO_ACK (11): Firmware packets ended NO_ACK; saturates. -/
def SLOE_TX_CNT_NO_ACK : Fld := ⟨.SLOE_TX_CNT, 16, 8, .rc, .val 0⟩
/-- SLOE_TX_CNT.DROPPED (11): Firmware packets ended DROPPED (R208); saturates. -/
def SLOE_TX_CNT_DROPPED : Fld := ⟨.SLOE_TX_CNT, 24, 8, .rc, .val 0⟩
/-- SLOE_TR_CTRL.EN (11): 1: follow lane LANE (R222). -/
def SLOE_TR_CTRL_EN : Fld := ⟨.SLOE_TR_CTRL, 0, 1, .rw, .val 0⟩
/-- SLOE_TR_CTRL.LANE (11): Line lane 0 to 7. -/
def SLOE_TR_CTRL_LANE : Fld := ⟨.SLOE_TR_CTRL, 1, 3, .rw, .val 0⟩
/-- SLOE_TR_CTRL.AVG (11): Window 2^AVG s, 0 to 10; 11 to 15 act as 10; reset 16 s. -/
def SLOE_TR_CTRL_AVG : Fld := ⟨.SLOE_TR_CTRL, 4, 4, .rw, .val 4⟩
/-- SLOE_TR_FREQ.PPB10 (11): Signed, in 0.1 ppb; positive when the far end runs fast; saturates. -/
def SLOE_TR_FREQ_PPB10 : Fld := ⟨.SLOE_TR_FREQ, 0, 32, .ro, .val 0⟩
/-- SLOE_TR_STATUS.VALID (11): 1 when the last window's value is valid (R222). -/
def SLOE_TR_STATUS_VALID : Fld := ⟨.SLOE_TR_STATUS, 0, 1, .ro, .val 0⟩
/-- SLOE_TR_STATUS.TRACKING (11): 1 while the symbol grid is tracked. -/
def SLOE_TR_STATUS_TRACKING : Fld := ⟨.SLOE_TR_STATUS, 1, 1, .ro, .val 0⟩
/-- SLOE_TR_STATUS.COVER (11): Sixteenths of the last window in which chirps were tracked. -/
def SLOE_TR_STATUS_COVER : Fld := ⟨.SLOE_TR_STATUS, 2, 4, .ro, .val 0⟩
/-- TIME_CTRL.ACTIVE (12): Target domain of the active timescale (R226); a write naming an invalid domain is dropped. -/
def TIME_CTRL_ACTIVE : Fld := ⟨.TIME_CTRL, 0, 1, .rw, .val 0⟩
/-- TIME_CTRL.SLEW (12): Slew rate in ppm, 1 to 255; 0 acts as 1. -/
def TIME_CTRL_SLEW : Fld := ⟨.TIME_CTRL, 8, 8, .rw, .val 0xA⟩
/-- TIME_STATUS.SLEWING (12): 1 while the active timescale slews (R226). -/
def TIME_STATUS_SLEWING : Fld := ⟨.TIME_STATUS, 0, 1, .ro, .val 0⟩
/-- TIME_STATUS.SWITCH_EV (12): A slew ended. -/
def TIME_STATUS_SWITCH_EV : Fld := ⟨.TIME_STATUS, 1, 1, .w1c, .val 0⟩
/-- TIME_STATUS.SW_REJ (12): An ACTIVE write was dropped. -/
def TIME_STATUS_SW_REJ : Fld := ⟨.TIME_STATUS, 2, 1, .w1c, .val 0⟩
/-- TIME_STATUS.SQ_OVF (12): A stamp-queue entry was dropped (R237). -/
def TIME_STATUS_SQ_OVF : Fld := ⟨.TIME_STATUS, 3, 1, .w1c, .val 0⟩
/-- TIME_STATUS.WRAP_EV (12): A domain's S wrapped (R223). -/
def TIME_STATUS_WRAP_EV : Fld := ⟨.TIME_STATUS, 4, 1, .w1c, .val 0⟩
/-- TIME_OFS01_LO.VALUE (12): Signed 64-bit value in 2^−16 ns, saturating; LO at 0x0008, HI at 0x000C; reading LO latches HI (R227). -/
def TIME_OFS01_LO_VALUE : Fld := ⟨.TIME_OFS01_LO, 0, 32, .ro, .val 0⟩
/-- TIME_OFS01_HI.VALUE (12): Signed 64-bit value in 2^−16 ns, saturating; LO at 0x0008, HI at 0x000C; reading LO latches HI (R227). -/
def TIME_OFS01_HI_VALUE : Fld := ⟨.TIME_OFS01_HI, 0, 32, .ro, .val 0⟩
/-- TIME_ACT_REM_LO.VALUE (12): Target minus active timescale, signed 64-bit in 2^−16 ns; reading LO latches HI. -/
def TIME_ACT_REM_LO_VALUE : Fld := ⟨.TIME_ACT_REM_LO, 0, 32, .ro, .val 0⟩
/-- TIME_ACT_REM_HI.VALUE (12): Target minus active timescale, signed 64-bit in 2^−16 ns; reading LO latches HI. -/
def TIME_ACT_REM_HI_VALUE : Fld := ⟨.TIME_ACT_REM_HI, 0, 32, .ro, .val 0⟩
/-- TIME_DCFG.SRC (12): 0b00 NONE; 0b01 PPS; 0b10 BRAMBLE; 0b11 MEAS (R229). -/
def TIME_DCFG_SRC : Fld := ⟨.TIME_DCFG, 0, 2, .rw, .val 0⟩
/-- TIME_DCFG.ACT_STEP (12): 0: the active timescale steps with this domain; 1: it slews (R227). -/
def TIME_DCFG_ACT_STEP : Fld := ⟨.TIME_DCFG, 2, 1, .rw, .val 0⟩
/-- TIME_DCFG.KP_SHIFT (12): Phase gain 2^−KP_SHIFT (R228). -/
def TIME_DCFG_KP_SHIFT : Fld := ⟨.TIME_DCFG, 4, 4, .rw, .val 1⟩
/-- TIME_DCFG.KI_SHIFT (12): Frequency gain 2^−KI_SHIFT. -/
def TIME_DCFG_KI_SHIFT : Fld := ⟨.TIME_DCFG, 8, 4, .rw, .val 4⟩
/-- TIME_DCFG.HOLD_N (12): Missed intervals before holdover, 1 to 15; 0 acts as 1 (R230). -/
def TIME_DCFG_HOLD_N : Fld := ⟨.TIME_DCFG, 12, 4, .rw, .val 3⟩
/-- TIME_DCFG.STEP_TH (12): Step threshold in µs; 0 acts as 1 ns. -/
def TIME_DCFG_STEP_TH : Fld := ⟨.TIME_DCFG, 16, 16, .rw, .val 1⟩
/-- TIME_DSTAT.VALID (12): 1 once set or stepped (R225). -/
def TIME_DSTAT_VALID : Fld := ⟨.TIME_DSTAT, 0, 1, .ro, .val 0⟩
/-- TIME_DSTAT.HOLDOVER (12): 1 in holdover (R230). -/
def TIME_DSTAT_HOLDOVER : Fld := ⟨.TIME_DSTAT, 1, 1, .ro, .val 0⟩
/-- TIME_DSTAT.BRM_UNCAL (12): 1: the last Bramble measurement used uncompensated delay. -/
def TIME_DSTAT_BRM_UNCAL : Fld := ⟨.TIME_DSTAT, 2, 1, .ro, .val 0⟩
/-- TIME_DSTAT.STEP_EV (12): A servo step was applied. -/
def TIME_DSTAT_STEP_EV : Fld := ⟨.TIME_DSTAT, 3, 1, .w1c, .val 0⟩
/-- TIME_DSTAT.HOLD_EV (12): Holdover began. -/
def TIME_DSTAT_HOLD_EV : Fld := ⟨.TIME_DSTAT, 4, 1, .w1c, .val 0⟩
/-- TIME_DSTAT.MISS (12): Measurements discarded (R229); saturates. -/
def TIME_DSTAT_MISS : Fld := ⟨.TIME_DSTAT, 8, 8, .rc, .val 0⟩
/-- TIME_T.TIME (12): Bits [31:0], [63:32] and [93:64] of the domain's time (R223); a read of T0 latches T1 and T2. -/
def TIME_T_TIME : Fld := ⟨.TIME_T, 0, 32, .ro, .val 0⟩
/-- TIME_SET.TIME (12): Time written by TIME_CMD.SET, in the layout of R223; bits [31:30] of SET2 are reserved. -/
def TIME_SET_TIME : Fld := ⟨.TIME_SET, 0, 32, .rw, .val 0⟩
/-- TIME_CMD.SET (12): 1: load TIME_SET at the next tclk; sets VALID. -/
def TIME_CMD_SET : Fld := ⟨.TIME_CMD, 0, 1, .wo, .val 0⟩
/-- TIME_CMD.STEP (12): 1: add TIME_STEP at the next tclk; sets VALID (R227). -/
def TIME_CMD_STEP : Fld := ⟨.TIME_CMD, 1, 1, .wo, .val 0⟩
/-- TIME_STEP_LO.VALUE (12): Signed 64-bit step in 2^−16 ns. -/
def TIME_STEP_LO_VALUE : Fld := ⟨.TIME_STEP_LO, 0, 32, .rw, .val 0⟩
/-- TIME_STEP_HI.VALUE (12): Signed 64-bit step in 2^−16 ns. -/
def TIME_STEP_HI_VALUE : Fld := ⟨.TIME_STEP_HI, 0, 32, .rw, .val 0⟩
/-- TIME_RATE.F (12): Signed, in 2^−40 (R224); the servo updates it; a write replaces it from the next tclk. -/
def TIME_RATE_F : Fld := ⟨.TIME_RATE, 0, 32, .rw, .val 0⟩
/-- TIME_MEAS_LO.THETA (12): Signed 64-bit θ in 2^−16 ns; a write of HI submits it when SRC = MEAS (R229) and is otherwise ignored. -/
def TIME_MEAS_LO_THETA : Fld := ⟨.TIME_MEAS_LO, 0, 32, .rw, .val 0⟩
/-- TIME_MEAS_HI.THETA (12): Signed 64-bit θ in 2^−16 ns; a write of HI submits it when SRC = MEAS (R229) and is otherwise ignored. -/
def TIME_MEAS_HI_THETA : Fld := ⟨.TIME_MEAS_HI, 0, 32, .rw, .val 0⟩
/-- TIME_MEAS_INT.MS (12): τ in ms, 1 to 1,048,575; 0 acts as 1; reset 1 s. -/
def TIME_MEAS_INT_MS : Fld := ⟨.TIME_MEAS_INT, 0, 20, .rw, .val 0x3E8⟩
/-- TIME_HOLD.DRIFT (12): REFCLK stability in 0.1 ppb; reset 10 ppb (R231). -/
def TIME_HOLD_DRIFT : Fld := ⟨.TIME_HOLD, 0, 16, .rw, .val 0x64⟩
/-- TIME_HOLD.T (12): Seconds in holdover; saturates at 0xFFFF; clears on leaving. -/
def TIME_HOLD_T : Fld := ⟨.TIME_HOLD, 16, 16, .ro, .val 0⟩
/-- TIME_BOUND.NS (12): Bound of R231 in ns; saturates; 0 outside holdover. -/
def TIME_BOUND_NS : Fld := ⟨.TIME_BOUND, 0, 32, .ro, .val 0⟩
/-- TIME_SQ.ENTRY (12): SQ0: [2:0] port; [3] direction, 0 line to host and 1 host to line; [7:4] messageType; [15:8] domainNumber; [31:16] sequenceId. SQ1 to SQ3: stamp bits  -/
def TIME_SQ_ENTRY : Fld := ⟨.TIME_SQ, 0, 32, .ro, .val 0⟩
/-- TIME_SQ_STAT.COUNT (12): Entries held, 0 to 64. -/
def TIME_SQ_STAT_COUNT : Fld := ⟨.TIME_SQ_STAT, 0, 7, .ro, .val 0⟩
/-- TIME_SQ_STAT.DROPS (12): Entries dropped; saturates. -/
def TIME_SQ_STAT_DROPS : Fld := ⟨.TIME_SQ_STAT, 16, 16, .rc, .val 0⟩
/-- TIME_PCFG.DOM (12): 0b00 active timescale; 0b01 domain 0; 0b10 domain 1; 0b11 acts as active (R235). -/
def TIME_PCFG_DOM : Fld := ⟨.TIME_PCFG, 0, 2, .rw, .val 0⟩
/-- TIME_PCFG.OPT_IN_CF (12): 1: include the optics entry in CF_ADD and in PTP_TX departure stamps (R236). -/
def TIME_PCFG_OPT_IN_CF : Fld := ⟨.TIME_PCFG, 2, 1, .rw, .val 0⟩
/-- TIME_LOPT.OPT_TX (12): DAC ball to connector, in 2^−8 ns (R233). -/
def TIME_LOPT_OPT_TX : Fld := ⟨.TIME_LOPT, 0, 16, .rw, .val 0⟩
/-- TIME_LOPT.OPT_RX (12): Connector to ADC ball, in 2^−8 ns. -/
def TIME_LOPT_OPT_RX : Fld := ⟨.TIME_LOPT, 16, 16, .rw, .val 0⟩
/-- TIME_LASYM.ASYM (12): Outbound minus return fiber delay, signed, in 2^−8 ns. -/
def TIME_LASYM_ASYM : Fld := ⟨.TIME_LASYM, 0, 16, .rw, .val 0⟩
/-- TIME_MTX.TIME (12): Marker ball time bits [31:0], [63:32] and [93:64] (R234). In MTX2, bit 30 is VARLAT and bit 31 is VALID. -/
def TIME_MTX_TIME : Fld := ⟨.TIME_MTX, 0, 32, .ro, .val 0⟩
/-- TIME_MRX.TIME (12): As TIME_MTX, for the receive direction. -/
def TIME_MRX_TIME : Fld := ⟨.TIME_MRX, 0, 32, .ro, .val 0⟩
/-- TIME_PPS.EDGE (12): 0: rising edge; 1: falling edge. -/
def TIME_PPS_EDGE : Fld := ⟨.TIME_PPS, 0, 1, .rw, .val 0⟩
/-- TIME_PPS.DOM (12): Domain in which edges are stamped into TIME_PPS_TS. -/
def TIME_PPS_DOM : Fld := ⟨.TIME_PPS, 1, 1, .rw, .val 0⟩
/-- TIME_PPS.CABLE (12): Cable and buffer delay in 0.1 ns, up to 6553.5 ns (R229). -/
def TIME_PPS_CABLE : Fld := ⟨.TIME_PPS, 16, 16, .rw, .val 0⟩
/-- TIME_PPS_TS.TIME (12): Ball time of the last selected edge, bits [31:0], [63:32] and [93:64], less CABLE; a read of TS0 latches TS1 and TS2. -/
def TIME_PPS_TS_TIME : Fld := ⟨.TIME_PPS_TS, 0, 32, .ro, .val 0⟩
/-- TIME_TPO_CTRL.EN (12): 1: armed (R240); cleared by R241. -/
def TIME_TPO_CTRL_EN : Fld := ⟨.TIME_TPO_CTRL, 0, 1, .rw, .val 0⟩
/-- TIME_TPO_CTRL.MODE (12): 0 ONCE; 1 PERIODIC. -/
def TIME_TPO_CTRL_MODE : Fld := ⟨.TIME_TPO_CTRL, 1, 1, .rw, .val 0⟩
/-- TIME_TPO_CTRL.DOM (12): 0b00 domain 0; 0b01 domain 1; 0b10 active timescale; 0b11 acts as active. -/
def TIME_TPO_CTRL_DOM : Fld := ⟨.TIME_TPO_CTRL, 2, 2, .rw, .val 2⟩
/-- TIME_TPO_CTRL.POL (12): Active level: 1 high, 0 low. -/
def TIME_TPO_CTRL_POL : Fld := ⟨.TIME_TPO_CTRL, 4, 1, .rw, .val 1⟩
/-- TIME_TPO_CTRL.SKIP_EV (12): Pulses were skipped by a forward step (R241). -/
def TIME_TPO_CTRL_SKIP_EV : Fld := ⟨.TIME_TPO_CTRL, 5, 1, .w1c, .val 0⟩
/-- TIME_TPO_CTRL.WIDTH (12): Pulse width in ns; reset 100 ns; 0 or at least PERIOD acts as PERIOD / 2. -/
def TIME_TPO_CTRL_WIDTH : Fld := ⟨.TIME_TPO_CTRL, 16, 16, .rw, .val 0x64⟩
/-- TIME_TPO_START.TIME (12): Bits [31:0], [63:32] and [93:64] of START, in the layout of R223. -/
def TIME_TPO_START_TIME : Fld := ⟨.TIME_TPO_START, 0, 32, .rw, .val 0⟩
/-- TIME_TPO_PERIOD.NS (12): Period in ns, 1 to 4,294,967,295; 0 acts as 1; reset 1 s. -/
def TIME_TPO_PERIOD_NS : Fld := ⟨.TIME_TPO_PERIOD, 0, 32, .rw, .val 0x3B9ACA00⟩
/-- TIME_TPO_CNT.COUNT (12): Pulses sent since the last read; saturates. -/
def TIME_TPO_CNT_COUNT : Fld := ⟨.TIME_TPO_CNT, 0, 32, .rc, .val 0⟩
/-- CAP_CTRL.ARM (13): 1: arm (R249). -/
def CAP_CTRL_ARM : Fld := ⟨.CAP_CTRL, 0, 1, .wo, .val 0⟩
/-- CAP_CTRL.STOP (13): 1: end the capture STOPPED (R256). -/
def CAP_CTRL_STOP : Fld := ⟨.CAP_CTRL, 1, 1, .wo, .val 0⟩
/-- CAP_CTRL.FORCE (13): 1: capture trigger now (R247). -/
def CAP_CTRL_FORCE : Fld := ⟨.CAP_CTRL, 2, 1, .wo, .val 0⟩
/-- CAP_CTRL.SW_EV (13): 1: raise the SW input (R245). -/
def CAP_CTRL_SW_EV : Fld := ⟨.CAP_CTRL, 3, 1, .wo, .val 0⟩
/-- CAP_CTRL.DRAIN (13): 1: drain to the LPDDR6 region (R255). -/
def CAP_CTRL_DRAIN : Fld := ⟨.CAP_CTRL, 4, 1, .rw, .val 0⟩
/-- CAP_CTRL.MODE (13): 0 LOCAL; 1 FLEET (R247). -/
def CAP_CTRL_MODE : Fld := ⟨.CAP_CTRL, 5, 1, .rw, .val 0⟩
/-- CAP_CTRL.FLEET_OUT (13): 1: send a bus trigger on firing. -/
def CAP_CTRL_FLEET_OUT : Fld := ⟨.CAP_CTRL, 6, 1, .rw, .val 0⟩
/-- CAP_CTRL.OUT_TAG (13): Tag sent on firing. -/
def CAP_CTRL_OUT_TAG : Fld := ⟨.CAP_CTRL, 8, 6, .rw, .val 0⟩
/-- CAP_CTRL.BUS_TAG (13): Tag the BUS input and FLEET mode accept. -/
def CAP_CTRL_BUS_TAG : Fld := ⟨.CAP_CTRL, 16, 6, .rw, .val 0⟩
/-- CAP_CTRL.SLOE_OUT (13): Bit n: send a Sloe TRIG on LLn on firing. -/
def CAP_CTRL_SLOE_OUT : Fld := ⟨.CAP_CTRL, 24, 8, .rw, .val 0⟩
/-- CAP_STATUS.STATE (13): 0 IDLE; 1 ARMED; 2 TRIGGERED; 3 DRAINING; 4 DONE; 5 to 7 not used. -/
def CAP_STATUS_STATE : Fld := ⟨.CAP_STATUS, 0, 3, .ro, .val 0⟩
/-- CAP_STATUS.ARM_ERR (13): Last refusal (R249); 0 none. -/
def CAP_STATUS_ARM_ERR : Fld := ⟨.CAP_STATUS, 4, 3, .ro, .val 0⟩
/-- CAP_STATUS.PRE_SHORT (13): Fewer than CAP_PRE units were held at the trigger (R250). -/
def CAP_STATUS_PRE_SHORT : Fld := ⟨.CAP_STATUS, 7, 1, .ro, .val 0⟩
/-- CAP_STATUS.END_REASON (13): R256; 0 none. -/
def CAP_STATUS_END_REASON : Fld := ⟨.CAP_STATUS, 8, 3, .ro, .val 0⟩
/-- CAP_STATUS.POISON_LOST (13): The poison tail was full (R254). -/
def CAP_STATUS_POISON_LOST : Fld := ⟨.CAP_STATUS, 11, 1, .ro, .val 0⟩
/-- CAP_STATUS.DONE_EV (13): The capture ended; fires the capture interrupt. -/
def CAP_STATUS_DONE_EV : Fld := ⟨.CAP_STATUS, 12, 1, .w1c, .val 0⟩
/-- CAP_STATUS.TRIG_EV (13): The sequencer fired; fires the capture interrupt. -/
def CAP_STATUS_TRIG_EV : Fld := ⟨.CAP_STATUS, 13, 1, .w1c, .val 0⟩
/-- CAP_STATUS.GAP_EV (13): A GAP record was written. -/
def CAP_STATUS_GAP_EV : Fld := ⟨.CAP_STATUS, 14, 1, .w1c, .val 0⟩
/-- CAP_STATUS.POISON_EV (13): A POISON record was written; fires the capture interrupt. -/
def CAP_STATUS_POISON_EV : Fld := ⟨.CAP_STATUS, 15, 1, .w1c, .val 0⟩
/-- CAP_PRE.UNITS (13): In 64-byte units. At 0x0008: pre-trigger depth. At 0x000C: capture length; 0 with the drain means until the region is full (R249). -/
def CAP_PRE_UNITS : Fld := ⟨.CAP_PRE, 0, 32, .rw, .val 0⟩
/-- CAP_LEN.UNITS (13): In 64-byte units. At 0x0008: pre-trigger depth. At 0x000C: capture length; 0 with the drain means until the region is full (R249). -/
def CAP_LEN_UNITS : Fld := ⟨.CAP_LEN, 0, 32, .rw, .val 0⟩
/-- CAP_DRAIN_BASE.GRANULE (13): At 0x0010: first 1 MiB granule of LPDDR6, 0 to 131071. At 0x0014: region size in granules; 0 is refused (R255). -/
def CAP_DRAIN_BASE_GRANULE : Fld := ⟨.CAP_DRAIN_BASE, 0, 17, .rw, .val 0⟩
/-- CAP_DRAIN_SIZE.GRANULE (13): At 0x0010: first 1 MiB granule of LPDDR6, 0 to 131071. At 0x0014: region size in granules; 0 is refused (R255). -/
def CAP_DRAIN_SIZE_GRANULE : Fld := ⟨.CAP_DRAIN_SIZE, 0, 17, .rw, .val 0⟩
/-- CAP_RESULT_START.VALUE (13): At 0x0018: store byte offset of the oldest kept record (R250), or 0 with the drain. At 0x001C: 64-byte units of records kept. -/
def CAP_RESULT_START_VALUE : Fld := ⟨.CAP_RESULT_START, 0, 32, .ro, .val 0⟩
/-- CAP_RESULT_UNITS.VALUE (13): At 0x0018: store byte offset of the oldest kept record (R250), or 0 with the drain. At 0x001C: 64-byte units of records kept. -/
def CAP_RESULT_UNITS_VALUE : Fld := ⟨.CAP_RESULT_UNITS, 0, 32, .ro, .val 0⟩
/-- CAP_TSTAMP.TIME (13): Bits [31:0], [63:32] and [93:64] of the capture trigger instant (R223). -/
def CAP_TSTAMP_TIME : Fld := ⟨.CAP_TSTAMP, 0, 32, .ro, .val 0⟩
/-- CAP_GAPS.COUNT (13): GAP records written; saturates. -/
def CAP_GAPS_COUNT : Fld := ⟨.CAP_GAPS, 0, 32, .rc, .val 0⟩
/-- CAP_EVF.SLOE_TYPE (13): TYPE that raises the SLOE input (R245). -/
def CAP_EVF_SLOE_TYPE : Fld := ⟨.CAP_EVF, 0, 6, .rw, .val 3⟩
/-- CAP_EVF.SLOE_ANY (13): 1: any TYPE. -/
def CAP_EVF_SLOE_ANY : Fld := ⟨.CAP_EVF, 6, 1, .rw, .val 0⟩
/-- CAP_EVF.TAG_ANY (13): 1: any TRIG tag. -/
def CAP_EVF_TAG_ANY : Fld := ⟨.CAP_EVF, 7, 1, .rw, .val 0⟩
/-- CAP_EVF.TAG (13): TRIG tag required. -/
def CAP_EVF_TAG : Fld := ⟨.CAP_EVF, 8, 8, .rw, .val 0⟩
/-- CAP_EVF.TM_DOM (13): TMATCH timescale: 0b00 domain 0; 0b01 domain 1; 0b10 and 0b11 active. -/
def CAP_EVF_TM_DOM : Fld := ⟨.CAP_EVF, 16, 2, .rw, .val 2⟩
/-- CAP_TMATCH.TIME (13): Bits [31:0], [63:32] and [93:64] of the TMATCH time. -/
def CAP_TMATCH_TIME : Fld := ⟨.CAP_TMATCH, 0, 32, .rw, .val 0⟩
/-- CAP_STREAM.EN (13): Stream s at 0x0040 + 4 × s; 1: recorded. -/
def CAP_STREAM_EN : Fld := ⟨.CAP_STREAM, 0, 1, .rw, .val 0⟩
/-- CAP_STREAM.LANE (13): Line lane 0 to 7. -/
def CAP_STREAM_LANE : Fld := ⟨.CAP_STREAM, 1, 3, .rw, .val 0⟩
/-- CAP_STREAM.SOURCE (13): R248; 7 is refused with SOURCE. -/
def CAP_STREAM_SOURCE : Fld := ⟨.CAP_STREAM, 4, 3, .rw, .val 0⟩
/-- CAP_SEQ_M.MASK (13): M0: bit 4n + k is comparator set k of LLn. M1: [7:0] DL_BURST, [15:8] OUTER_UNC of ports 0 to 7, [23:16] LOS, [31:24] SLOE. M2: [0] TMATCH, [1] BUS, [ -/
def CAP_SEQ_M_MASK : Fld := ⟨.CAP_SEQ_M, 0, 32, .rw, .val 0⟩
/-- CAP_SEQ_CTRL.NEXT (13): 0 ADVANCE; 1 FIRE; state 3 always fires. -/
def CAP_SEQ_CTRL_NEXT : Fld := ⟨.CAP_SEQ_CTRL, 0, 1, .rw, .val 1⟩
/-- CAP_SEQ_CTRL.WINDOW (13): Window in ns; 0 unlimited; ignored in state 0. -/
def CAP_SEQ_CTRL_WINDOW : Fld := ⟨.CAP_SEQ_CTRL, 8, 24, .rw, .val 0⟩
/-- TRG_CTRL.EN (13): 1: receive bus events. -/
def TRG_CTRL_EN : Fld := ⟨.TRG_CTRL, 0, 1, .rw, .val 0⟩
/-- TRG_CTRL.ROLE (13): 0 listener; 1 driver (R257). -/
def TRG_CTRL_ROLE : Fld := ⟨.TRG_CTRL, 1, 1, .rw, .val 0⟩
/-- TRG_STATUS.UNCAL (13): 1: acting with d = 0 (R259); 0 for the driver. -/
def TRG_STATUS_UNCAL : Fld := ⟨.TRG_STATUS, 0, 1, .ro, .val 1⟩
/-- TRG_STATUS.CAL_BUSY (13): 1 while a calibration runs. -/
def TRG_STATUS_CAL_BUSY : Fld := ⟨.TRG_STATUS, 1, 1, .ro, .val 0⟩
/-- TRG_STATUS.CAL_OK (13): This device calibrated (R260). -/
def TRG_STATUS_CAL_OK : Fld := ⟨.TRG_STATUS, 2, 1, .w1c, .val 0⟩
/-- TRG_STATUS.CAL_FAIL (13): This device's calibration failed; fires the trigger-bus interrupt. -/
def TRG_STATUS_CAL_FAIL : Fld := ⟨.TRG_STATUS, 3, 1, .w1c, .val 0⟩
/-- TRG_STATUS.NO_PROBE (13): The driver saw no probe. -/
def TRG_STATUS_NO_PROBE : Fld := ⟨.TRG_STATUS, 4, 1, .w1c, .val 0⟩
/-- TRG_STATUS.SEND_REJ (13): A frame was dropped (R258). -/
def TRG_STATUS_SEND_REJ : Fld := ⟨.TRG_STATUS, 5, 1, .w1c, .val 0⟩
/-- TRG_ALIGN.DMAX (13): Fleet delay in 10 ps, 0 to 4000; above 4000 acts as 4000. -/
def TRG_ALIGN_DMAX : Fld := ⟨.TRG_ALIGN, 0, 12, .rw, .val 0⟩
/-- TRG_ALIGN.D (13): Calibrated delay d in 10 ps. -/
def TRG_ALIGN_D : Fld := ⟨.TRG_ALIGN, 16, 12, .ro, .val 0⟩
/-- TRG_SEND.TYPE (13): R257; CAL is sent only through TRG_CAL. -/
def TRG_SEND_TYPE : Fld := ⟨.TRG_SEND, 0, 2, .rw, .val 0⟩
/-- TRG_SEND.TAG (13): Tag. -/
def TRG_SEND_TAG : Fld := ⟨.TRG_SEND, 2, 6, .rw, .val 0⟩
/-- TRG_SEND.SEND (13): 1: queue the frame (R258). -/
def TRG_SEND_SEND : Fld := ⟨.TRG_SEND, 8, 1, .wo, .val 0⟩
/-- TRG_CAL.DEV (13): Device number to calibrate. -/
def TRG_CAL_DEV : Fld := ⟨.TRG_CAL, 0, 6, .rw, .val 0⟩
/-- TRG_CAL.START (13): 1: send CAL(DEV) (R260); dropped at a listener or while CAL_BUSY. -/
def TRG_CAL_START : Fld := ⟨.TRG_CAL, 6, 1, .wo, .val 0⟩
/-- TRG_CNT.FRAMES (13): Valid frames received; saturates. -/
def TRG_CNT_FRAMES : Fld := ⟨.TRG_CNT, 0, 16, .rc, .val 0⟩
/-- TRG_CNT.ERR (13): Frames ignored for parity or stop bit; saturates. -/
def TRG_CNT_ERR : Fld := ⟨.TRG_CNT, 16, 16, .rc, .val 0⟩
/-- LL_TRG_CFG.EN (13): 1: evaluate (R242). -/
def LL_TRG_CFG_EN : Fld := ⟨.LL_TRG_CFG, 0, 1, .rw, .val 0⟩
/-- LL_TRG_CFG.SRC (13): 0 RAW; 1 EQ. -/
def LL_TRG_CFG_SRC : Fld := ⟨.LL_TRG_CFG, 1, 1, .rw, .val 0⟩
/-- LL_TRG_CFG.TYPE (13): 0b00 PULSE; 0b01 RUNT; 0b10 TIMEOUT; 0b11 SLEW (R243). -/
def LL_TRG_CFG_TYPE : Fld := ⟨.LL_TRG_CFG, 2, 2, .rw, .val 0⟩
/-- LL_TRG_CFG.MODE (13): PULSE: 0b00 ABOVE, 0b01 BELOW, 0b10 INSIDE, 0b11 LEVEL. RUNT and TIMEOUT: 0b00 UP, 0b01 DOWN, 0b10 and 0b11 EITHER. -/
def LL_TRG_CFG_MODE : Fld := ⟨.LL_TRG_CFG, 4, 2, .rw, .val 0⟩
/-- LL_TRG_CFG.LONGER (13): PULSE: 1 LONGER; 0 SHORTER. -/
def LL_TRG_CFG_LONGER : Fld := ⟨.LL_TRG_CFG, 6, 1, .rw, .val 1⟩
/-- LL_TRG_CFG.UNIT (13): TIMEOUT: 0 symbols; 1 pips. -/
def LL_TRG_CFG_UNIT : Fld := ⟨.LL_TRG_CFG, 7, 1, .rw, .val 0⟩
/-- LL_TRG_CFG.LVL (13): LEVEL: level 0 to 3. -/
def LL_TRG_CFG_LVL : Fld := ⟨.LL_TRG_CFG, 8, 2, .rw, .val 0⟩
/-- LL_TRG_CFG.K (13): SLEW: distance K − 1, so 0x0 is K = 1 and 0xF is K = 16. -/
def LL_TRG_CFG_K : Fld := ⟨.LL_TRG_CFG, 12, 4, .rw, .val 0⟩
/-- LL_TRG_TH.TH0 (13): Signed, in source units; unsigned for SLEW. -/
def LL_TRG_TH_TH0 : Fld := ⟨.LL_TRG_TH, 0, 12, .rw, .val 0⟩
/-- LL_TRG_TH.TH1 (13): Signed, in source units. -/
def LL_TRG_TH_TH1 : Fld := ⟨.LL_TRG_TH, 16, 12, .rw, .val 0⟩
/-- LL_TRG_N.N (13): Run or timeout length, 1 to 2^24 − 1; 0 acts as 1. -/
def LL_TRG_N_N : Fld := ⟨.LL_TRG_N, 0, 24, .rw, .val 1⟩
/-- LL_TRG_N.W (13): Runt window in symbols, 1 to 255; 0 acts as 1. -/
def LL_TRG_N_W : Fld := ⟨.LL_TRG_N, 24, 8, .rw, .val 1⟩
/-- LL_TRG_CNT.COUNT (13): Firings of the set, reported or not (R244); saturates. -/
def LL_TRG_CNT_COUNT : Fld := ⟨.LL_TRG_CNT, 0, 32, .rc, .val 0⟩
/-- MEM_CTRL.KEEP_WARM (14): 1: keep LPDDR6 contents, bitmap and remap through WARM reset (R285). -/
def MEM_CTRL_KEEP_WARM : Fld := ⟨.MEM_CTRL, 0, 1, .rws, .val 0⟩
/-- MEM_STATUS.ZFILL (14): 1 while on-chip zero-fill runs (R262). -/
def MEM_STATUS_ZFILL : Fld := ⟨.MEM_STATUS, 0, 1, .ro, .val 1⟩
/-- MEM_STATUS.WIPE (14): 1 while the life-cycle wipe of LPDDR6 runs (R263). -/
def MEM_STATUS_WIPE : Fld := ⟨.MEM_STATUS, 1, 1, .ro, .val 0⟩
/-- MEM_STATUS.FITTED (14): Bit c: channel c fitted, per the boot configuration. -/
def MEM_STATUS_FITTED : Fld := ⟨.MEM_STATUS, 4, 4, .ro, .val 0⟩
/-- MEM_STATUS.TRAINED (14): Bit c: channel c trained (R280). -/
def MEM_STATUS_TRAINED : Fld := ⟨.MEM_STATUS, 8, 4, .ro, .val 0⟩
/-- MEM_STATUS.CAP (14): Per-channel capacity: 0b00 4 GiB; 0b01 8 GiB; 0b10 16 GiB; 0b11 32 GiB. -/
def MEM_STATUS_CAP : Fld := ⟨.MEM_STATUS, 12, 2, .ro, .val 0⟩
/-- MEM_STATUS.RATE (14): 0b00 12.8; 0b01 10.6667; 0b10 8.5333 Gb/s; 0b11 not used. -/
def MEM_STATUS_RATE : Fld := ⟨.MEM_STATUS, 14, 2, .ro, .val 0⟩
/-- MEM_GRANULES.COUNT (14): Usable granules, 0 to 131071; 0 without trained LPDDR6 (R279). -/
def MEM_GRANULES_COUNT : Fld := ⟨.MEM_GRANULES, 0, 18, .ro, .val 0⟩
/-- MEM_FILL_BASE.GRANULE (14): At 0x0010: first granule. At 0x0014: granule count; 0 is refused with ZERO (R283). -/
def MEM_FILL_BASE_GRANULE : Fld := ⟨.MEM_FILL_BASE, 0, 17, .rw, .val 0⟩
/-- MEM_FILL_COUNT.GRANULE (14): At 0x0010: first granule. At 0x0014: granule count; 0 is refused with ZERO (R283). -/
def MEM_FILL_COUNT_GRANULE : Fld := ⟨.MEM_FILL_COUNT, 0, 17, .rw, .val 0⟩
/-- MEM_FILL_PAT_LO.PAT (14): Bits [31:0] and [63:32] of the 64-bit pattern. -/
def MEM_FILL_PAT_LO_PAT : Fld := ⟨.MEM_FILL_PAT_LO, 0, 32, .rw, .val 0⟩
/-- MEM_FILL_PAT_HI.PAT (14): Bits [31:0] and [63:32] of the 64-bit pattern. -/
def MEM_FILL_PAT_HI_PAT : Fld := ⟨.MEM_FILL_PAT_HI, 0, 32, .rw, .val 0⟩
/-- MEM_FILL_CTRL.START (14): 1: start a FILL. -/
def MEM_FILL_CTRL_START : Fld := ⟨.MEM_FILL_CTRL, 0, 1, .wo, .val 0⟩
/-- MEM_FILL_CTRL.ABORT (14): 1: stop at the next line. -/
def MEM_FILL_CTRL_ABORT : Fld := ⟨.MEM_FILL_CTRL, 1, 1, .wo, .val 0⟩
/-- MEM_FILL_CTRL.MODE (14): 0 PATTERN; 1 ADDRESS. -/
def MEM_FILL_CTRL_MODE : Fld := ⟨.MEM_FILL_CTRL, 2, 1, .rw, .val 0⟩
/-- MEM_FILL_STATUS.BUSY (14): 1 while a FILL runs. -/
def MEM_FILL_STATUS_BUSY : Fld := ⟨.MEM_FILL_STATUS, 0, 1, .ro, .val 0⟩
/-- MEM_FILL_STATUS.DONE (14): Set when a FILL ends or is refused; fires the memory interrupt. -/
def MEM_FILL_STATUS_DONE : Fld := ⟨.MEM_FILL_STATUS, 1, 1, .w1c, .val 0⟩
/-- MEM_FILL_STATUS.ERR (14): R283; 0 none. -/
def MEM_FILL_STATUS_ERR : Fld := ⟨.MEM_FILL_STATUS, 2, 3, .ro, .val 0⟩
/-- MEM_FILL_STATUS.NEXT (14): Granule in progress, or the granule after the last one completed. -/
def MEM_FILL_STATUS_NEXT : Fld := ⟨.MEM_FILL_STATUS, 8, 17, .ro, .val 0⟩
/-- MEM_BMAP_SEL.WORD (14): At 0x0030 (RW): [11:0] word index w, 0 to 4095. At 0x0034 (W1C): bit k is granule 32 × w + k; 1 marked; writing 1 unmarks (R282). -/
def MEM_BMAP_SEL_WORD : Fld := ⟨.MEM_BMAP_SEL, 0, 12, .rw, .val 0⟩
/-- MEM_BMAP.MARKED (14): At 0x0030 (RW): [11:0] word index w, 0 to 4095. At 0x0034 (W1C): bit k is granule 32 × w + k; 1 marked; writing 1 unmarks (R282). -/
def MEM_BMAP_MARKED : Fld := ⟨.MEM_BMAP, 0, 32, .w1c, .val 0⟩
/-- MEM_ACC_LOG_LO.ADDR_LO (14): LO: address bits [31:0]. HI: [7:0] address bits [39:32]; [8] KIND, 0 NOTINIT and 1 RSVD; [9] WRITE; [31] ACC_EV, W1C, which clears the log and re-arms -/
def MEM_ACC_LOG_LO_ADDR_LO : Fld := ⟨.MEM_ACC_LOG_LO, 0, 32, .ro, .val 0⟩
/-- MEM_ACC_LOG_HI.ADDR_HI (14): LO: address bits [31:0]. HI: [7:0] address bits [39:32]; [8] KIND, 0 NOTINIT and 1 RSVD; [9] WRITE; [31] ACC_EV, W1C, which clears the log and re-arms -/
def MEM_ACC_LOG_HI_ADDR_HI : Fld := ⟨.MEM_ACC_LOG_HI, 0, 8, .ro, .val 0⟩
/-- MEM_ACC_LOG_HI.KIND (14): LO: address bits [31:0]. HI: [7:0] address bits [39:32]; [8] KIND, 0 NOTINIT and 1 RSVD; [9] WRITE; [31] ACC_EV, W1C, which clears the log and re-arms -/
def MEM_ACC_LOG_HI_KIND : Fld := ⟨.MEM_ACC_LOG_HI, 8, 1, .ro, .val 0⟩
/-- MEM_ACC_LOG_HI.WRITE (14): LO: address bits [31:0]. HI: [7:0] address bits [39:32]; [8] KIND, 0 NOTINIT and 1 RSVD; [9] WRITE; [31] ACC_EV, W1C, which clears the log and re-arms -/
def MEM_ACC_LOG_HI_WRITE : Fld := ⟨.MEM_ACC_LOG_HI, 9, 1, .ro, .val 0⟩
/-- MEM_ACC_LOG_HI.ACC_EV (14): LO: address bits [31:0]. HI: [7:0] address bits [39:32]; [8] KIND, 0 NOTINIT and 1 RSVD; [9] WRITE; [31] ACC_EV, W1C, which clears the log and re-arms -/
def MEM_ACC_LOG_HI_ACC_EV : Fld := ⟨.MEM_ACC_LOG_HI, 31, 1, .w1c, .val 0⟩
/-- MEM_ACC_CNT.COUNT (14): NOTINIT and RSVD accesses; saturates. -/
def MEM_ACC_CNT_COUNT : Fld := ⟨.MEM_ACC_CNT, 0, 32, .rc, .val 0⟩
/-- MEM_REMAP_SEL.ENTRY (14): At 0x0050: [4:0] entry i, [9:8] channel. At 0x0054: [28:0] line index within the channel (channel address div 64); [31] VALID. Entry i diverts to spar -/
def MEM_REMAP_SEL_ENTRY : Fld := ⟨.MEM_REMAP_SEL, 0, 5, .rwl, .val 0⟩
/-- MEM_REMAP_SEL.CHANNEL (14): At 0x0050: [4:0] entry i, [9:8] channel. At 0x0054: [28:0] line index within the channel (channel address div 64); [31] VALID. Entry i diverts to spar -/
def MEM_REMAP_SEL_CHANNEL : Fld := ⟨.MEM_REMAP_SEL, 8, 2, .rwl, .val 0⟩
/-- MEM_REMAP.LINE (14): At 0x0050: [4:0] entry i, [9:8] channel. At 0x0054: [28:0] line index within the channel (channel address div 64); [31] VALID. Entry i diverts to spar -/
def MEM_REMAP_LINE : Fld := ⟨.MEM_REMAP, 0, 29, .rwl, .val 0⟩
/-- MEM_REMAP.VALID (14): At 0x0050: [4:0] entry i, [9:8] channel. At 0x0054: [28:0] line index within the channel (channel address div 64); [31] VALID. Entry i diverts to spar -/
def MEM_REMAP_VALID : Fld := ⟨.MEM_REMAP, 31, 1, .rwl, .val 0⟩
/-- ECC_CTRL.CE_TH (14): Corrected errors per memory per scrub period that set CE_EV (R268); 0 disables. -/
def ECC_CTRL_CE_TH : Fld := ⟨.ECC_CTRL, 0, 16, .rw, .val 0x10⟩
/-- ECC_SCRUB0.MSRAM (14): Management and retention SRAM period, s; 0 stops their scrubbing. -/
def ECC_SCRUB0_MSRAM : Fld := ⟨.ECC_SCRUB0, 0, 8, .rw, .val 8⟩
/-- ECC_SCRUB0.CAP (14): Capture store period, s; 0 stops. -/
def ECC_SCRUB0_CAP : Fld := ⟨.ECC_SCRUB0, 8, 8, .rw, .val 0x1E⟩
/-- ECC_SCRUB0.TILE (14): Tile SRAM and bitmap period, s; 0 stops. -/
def ECC_SCRUB0_TILE : Fld := ⟨.ECC_SCRUB0, 16, 8, .rw, .val 2⟩
/-- ECC_SCRUB1.HOURS (14): LPDDR6 period, h; 0 stops. -/
def ECC_SCRUB1_HOURS : Fld := ⟨.ECC_SCRUB1, 0, 10, .rw, .val 0x18⟩
/-- ECC_CE_CNT0.MSRAM (14): CNT0: [15:0] management SRAM, [31:16] capture store. CNT1: [15:0] tile SRAMs, [31:16] LPDDR6. CNT2: [15:0] retention SRAM, [23:16] bitmap, [31:24] boo -/
def ECC_CE_CNT0_MSRAM : Fld := ⟨.ECC_CE_CNT0, 0, 16, .rc, .val 0⟩
/-- ECC_CE_CNT0.CAP (14): CNT0: [15:0] management SRAM, [31:16] capture store. CNT1: [15:0] tile SRAMs, [31:16] LPDDR6. CNT2: [15:0] retention SRAM, [23:16] bitmap, [31:24] boo -/
def ECC_CE_CNT0_CAP : Fld := ⟨.ECC_CE_CNT0, 16, 16, .rc, .val 0⟩
/-- ECC_CE_CNT1.TILE (14): CNT0: [15:0] management SRAM, [31:16] capture store. CNT1: [15:0] tile SRAMs, [31:16] LPDDR6. CNT2: [15:0] retention SRAM, [23:16] bitmap, [31:24] boo -/
def ECC_CE_CNT1_TILE : Fld := ⟨.ECC_CE_CNT1, 0, 16, .rc, .val 0⟩
/-- ECC_CE_CNT1.LPDDR6 (14): CNT0: [15:0] management SRAM, [31:16] capture store. CNT1: [15:0] tile SRAMs, [31:16] LPDDR6. CNT2: [15:0] retention SRAM, [23:16] bitmap, [31:24] boo -/
def ECC_CE_CNT1_LPDDR6 : Fld := ⟨.ECC_CE_CNT1, 16, 16, .rc, .val 0⟩
/-- ECC_CE_CNT2.RET (14): CNT0: [15:0] management SRAM, [31:16] capture store. CNT1: [15:0] tile SRAMs, [31:16] LPDDR6. CNT2: [15:0] retention SRAM, [23:16] bitmap, [31:24] boo -/
def ECC_CE_CNT2_RET : Fld := ⟨.ECC_CE_CNT2, 0, 16, .rc, .val 0⟩
/-- ECC_CE_CNT2.BMAP (14): CNT0: [15:0] management SRAM, [31:16] capture store. CNT1: [15:0] tile SRAMs, [31:16] LPDDR6. CNT2: [15:0] retention SRAM, [23:16] bitmap, [31:24] boo -/
def ECC_CE_CNT2_BMAP : Fld := ⟨.ECC_CE_CNT2, 16, 8, .rc, .val 0⟩
/-- ECC_CE_CNT2.ROM (14): CNT0: [15:0] management SRAM, [31:16] capture store. CNT1: [15:0] tile SRAMs, [31:16] LPDDR6. CNT2: [15:0] retention SRAM, [23:16] bitmap, [31:24] boo -/
def ECC_CE_CNT2_ROM : Fld := ⟨.ECC_CE_CNT2, 24, 8, .rc, .val 0⟩
/-- ECC_CE_LAST_LO.VALUE (14): Location in the form of ECC_UE_ADDR; HI [31:28] memory, coded as ECC_UE_INFO.MEM. -/
def ECC_CE_LAST_LO_VALUE : Fld := ⟨.ECC_CE_LAST_LO, 0, 32, .ro, .val 0⟩
/-- ECC_CE_LAST_HI.VALUE (14): Location in the form of ECC_UE_ADDR; HI [31:28] memory, coded as ECC_UE_INFO.MEM. -/
def ECC_CE_LAST_HI_VALUE : Fld := ⟨.ECC_CE_LAST_HI, 0, 32, .ro, .val 0⟩
/-- ECC_UE_STATUS.COUNT (14): Entries held, 0 to 16 (R273). -/
def ECC_UE_STATUS_COUNT : Fld := ⟨.ECC_UE_STATUS, 0, 5, .ro, .val 0⟩
/-- ECC_UE_STATUS.CE_EV (14): A CE threshold was reached (R268). -/
def ECC_UE_STATUS_CE_EV : Fld := ⟨.ECC_UE_STATUS, 5, 1, .w1c, .val 0⟩
/-- ECC_UE_STATUS.DEMAND_EV (14): A demand read found an uncorrectable error (R269). -/
def ECC_UE_STATUS_DEMAND_EV : Fld := ⟨.ECC_UE_STATUS, 6, 1, .w1c, .val 0⟩
/-- ECC_UE_STATUS.LOST (14): Entries not written for a full log; saturates. -/
def ECC_UE_STATUS_LOST : Fld := ⟨.ECC_UE_STATUS, 16, 16, .rc, .val 0⟩
/-- ECC_UE_ADDR_LO.VALUE (14): Local address bits [31:0] and [39:32]. For a tile SRAM: LO [11:0] tile, [12] bunch, [31:16] word; HI zero. For the bitmap: LO word index. -/
def ECC_UE_ADDR_LO_VALUE : Fld := ⟨.ECC_UE_ADDR_LO, 0, 32, .ro, .val 0⟩
/-- ECC_UE_ADDR_HI.VALUE (14): Local address bits [31:0] and [39:32]. For a tile SRAM: LO [11:0] tile, [12] bunch, [31:16] word; HI zero. For the bitmap: LO word index. -/
def ECC_UE_ADDR_HI_VALUE : Fld := ⟨.ECC_UE_ADDR_HI, 0, 32, .ro, .val 0⟩
/-- ECC_UE_INFO.MEM (14): 0 management SRAM; 1 capture store; 2 tile configuration; 3 tile coefficients; 4 other tile; 5 retention SRAM; 6 LPDDR6; 7 bitmap; 8 boot ROM; 9 to 15 -/
def ECC_UE_INFO_MEM : Fld := ⟨.ECC_UE_INFO, 0, 4, .rc, .val 0⟩
/-- ECC_UE_INFO.FINDER (14): 0 SCRUB; 1 DEMAND. -/
def ECC_UE_INFO_FINDER : Fld := ⟨.ECC_UE_INFO, 4, 1, .rc, .val 0⟩
/-- ECC_UE_INFO.ACTION (14): Code of R272. -/
def ECC_UE_INFO_ACTION : Fld := ⟨.ECC_UE_INFO, 5, 3, .rc, .val 0⟩
/-- ECC_UE_INFO.VALID (14): 1: an entry was present. A read removes the head entry and clears the fields. -/
def ECC_UE_INFO_VALID : Fld := ⟨.ECC_UE_INFO, 8, 1, .rc, .val 0⟩
/-- ECC_MSPARE_SEL.ENTRY (14): At 0x0040: [2:0] entry, [6:4] bank. At 0x0044: [16:0] word index within the bank; [31] VALID (R274). -/
def ECC_MSPARE_SEL_ENTRY : Fld := ⟨.ECC_MSPARE_SEL, 0, 3, .rwl, .val 0⟩
/-- ECC_MSPARE_SEL.BANK (14): At 0x0040: [2:0] entry, [6:4] bank. At 0x0044: [16:0] word index within the bank; [31] VALID (R274). -/
def ECC_MSPARE_SEL_BANK : Fld := ⟨.ECC_MSPARE_SEL, 4, 3, .rwl, .val 0⟩
/-- ECC_MSPARE.WORD (14): At 0x0040: [2:0] entry, [6:4] bank. At 0x0044: [16:0] word index within the bank; [31] VALID (R274). -/
def ECC_MSPARE_WORD : Fld := ⟨.ECC_MSPARE, 0, 17, .rwl, .val 0⟩
/-- ECC_MSPARE.VALID (14): At 0x0040: [2:0] entry, [6:4] bank. At 0x0044: [16:0] word index within the bank; [31] VALID (R274). -/
def ECC_MSPARE_VALID : Fld := ⟨.ECC_MSPARE, 31, 1, .rwl, .val 0⟩
/-- TOP_ID.PART (15): Part number. -/
def TOP_ID_PART : Fld := ⟨.TOP_ID, 0, 16, .ro, .val 0x3208⟩
/-- TOP_ID.SREV (15): Silicon stepping. -/
def TOP_ID_SREV : Fld := ⟨.TOP_ID, 16, 8, .ro, .val 0x10⟩
/-- TOP_RESET.WARM (15): 1: WARM reset after the acknowledgement of this write. -/
def TOP_RESET_WARM : Fld := ⟨.TOP_RESET, 0, 1, .wo, .val 0⟩
/-- TOP_RESET.CORE (15): Bit c: CORE reset of core c; a core may reset itself. -/
def TOP_RESET_CORE : Fld := ⟨.TOP_RESET, 4, 4, .wo, .val 0⟩
/-- TOP_LOCK.LOCK (15): 1: every RWL field of the device is locked until the next POR or WARM reset (R8). -/
def TOP_LOCK_LOCK : Fld := ⟨.TOP_LOCK, 0, 1, .w1s, .val 0⟩
/-- TOP_ACCESS_ADDR_LO.ADDR (15): LO: address bits [31:0]. HI: [7:0] address bits [39:32]; other bits zero (R293). -/
def TOP_ACCESS_ADDR_LO_ADDR : Fld := ⟨.TOP_ACCESS_ADDR_LO, 0, 32, .ro, .val 0⟩
/-- TOP_ACCESS_ADDR_HI.ADDR (15): LO: address bits [31:0]. HI: [7:0] address bits [39:32]; other bits zero (R293). -/
def TOP_ACCESS_ADDR_HI_ADDR : Fld := ⟨.TOP_ACCESS_ADDR_HI, 0, 32, .ro, .val 0⟩
/-- TOP_ACCESS_INFO.OFF_EV (15): An OFFLINE access was recorded; source 7. -/
def TOP_ACCESS_INFO_OFF_EV : Fld := ⟨.TOP_ACCESS_INFO, 0, 1, .w1c, .val 0⟩
/-- TOP_ACCESS_INFO.UNMAP_EV (15): An UNMAPPED access was recorded; source 6. -/
def TOP_ACCESS_INFO_UNMAP_EV : Fld := ⟨.TOP_ACCESS_INFO, 1, 1, .w1c, .val 0⟩
/-- TOP_ACCESS_INFO.WRITE (15): 1: the recorded access was a write. -/
def TOP_ACCESS_INFO_WRITE : Fld := ⟨.TOP_ACCESS_INFO, 2, 1, .ro, .val 0⟩
/-- TOP_ACCESS_INFO.INIT (15): Initiator: 0 to 3 C0 to C3; 4 PCIe; 5 SPI; 6 I3C; 7 Bramble; 8 seed loader; 9 capture; 10 FILL; 11 scrubber; 12 to 15 not used. -/
def TOP_ACCESS_INFO_INIT : Fld := ⟨.TOP_ACCESS_INFO, 4, 4, .ro, .val 0⟩
/-- TOP_ACCESS_CNT.COUNT (15): OFFLINE and UNMAPPED accesses; saturates. -/
def TOP_ACCESS_CNT_COUNT : Fld := ⟨.TOP_ACCESS_CNT, 0, 32, .rc, .val 0⟩
/-- TOP_GEN.GEN (15): GEN0: [7:0] device, which survives WARM and increments there; [15:8] bunch 0; [23:16] bunch 1; [31:24] zero. GEN1: byte c is core c (R294). -/
def TOP_GEN_GEN : Fld := ⟨.TOP_GEN, 0, 32, .ro, .val 0⟩
/-- TOP_GEN_LL.GEN (15): LL0 at 0x0028 and LL1 at 0x002C: byte k is line lane LL(4j + k). HLj at 0x0030 + 4 × j: byte k is host lane HL(4j + k). -/
def TOP_GEN_LL_GEN : Fld := ⟨.TOP_GEN_LL, 0, 32, .ro, .val 0⟩
/-- TOP_GEN_HL.GEN (15): LL0 at 0x0028 and LL1 at 0x002C: byte k is line lane LL(4j + k). HLj at 0x0030 + 4 × j: byte k is host lane HL(4j + k). -/
def TOP_GEN_HL_GEN : Fld := ⟨.TOP_GEN_HL, 0, 32, .ro, .val 0⟩
/-- TOP_DISC.REPLY (15): Stale replies discarded (R295); saturates. -/
def TOP_DISC_REPLY : Fld := ⟨.TOP_DISC, 0, 16, .rc, .val 0⟩
/-- TOP_DISC.ABORT (15): Requests completed ABORTED; saturates. -/
def TOP_DISC_ABORT : Fld := ⟨.TOP_DISC, 16, 16, .rc, .val 0⟩
/-- BN_RESET.BUNCH (15): 1: BUNCH reset (R10, R45); held during a load (R45). -/
def BN_RESET_BUNCH : Fld := ⟨.BN_RESET, 0, 1, .wo, .val 0⟩
/-- LL_RESET.LANE (15): 1: LANE reset of this line lane (R10); seed-defined state is reloaded from the shadow. -/
def LL_RESET_LANE : Fld := ⟨.LL_RESET, 0, 1, .wo, .val 0⟩
/-- IRQ_SRC_CFG.PRIO (15): Source n at 0x0000 + 4 × n; priority 1 to 7; 0 disables every target (R300). -/
def IRQ_SRC_CFG_PRIO : Fld := ⟨.IRQ_SRC_CFG, 0, 3, .rw, .val 0⟩
/-- IRQ_SRC_CFG.CORES (15): Bit c: deliver to core c. -/
def IRQ_SRC_CFG_CORES : Fld := ⟨.IRQ_SRC_CFG, 4, 4, .rw, .val 0⟩
/-- IRQ_SRC_CFG.PIN (15): 1: drive IRQ_N. -/
def IRQ_SRC_CFG_PIN : Fld := ⟨.IRQ_SRC_CFG, 8, 1, .rw, .val 0⟩
/-- IRQ_SRC_CFG.MSI (15): 1: MSI-X message on vector VEC. -/
def IRQ_SRC_CFG_MSI : Fld := ⟨.IRQ_SRC_CFG, 9, 1, .rw, .val 0⟩
/-- IRQ_SRC_CFG.FLEET (15): 1: Bramble interrupt message to the fleet host. -/
def IRQ_SRC_CFG_FLEET : Fld := ⟨.IRQ_SRC_CFG, 10, 1, .rw, .val 0⟩
/-- IRQ_SRC_CFG.VEC (15): MSI-X vector, 0 to 63. -/
def IRQ_SRC_CFG_VEC : Fld := ⟨.IRQ_SRC_CFG, 16, 6, .rw, .val 0⟩
/-- IRQ_PEND.PEND (15): Word w at 0x0400 + 4 × w: bit k is source 32w + k pending (R299), whatever its routing. -/
def IRQ_PEND_PEND : Fld := ⟨.IRQ_PEND, 0, 32, .ro, .val 0⟩
/-- IRQ_THR.THR (15): Sources with priority above THR interrupt core c. -/
def IRQ_THR_THR : Fld := ⟨.IRQ_THR, 0, 3, .rw, .val 0⟩
/-- IRQ_CLAIM.SRC (15): A read claims and returns a source for core c, or 0x1FF for none (R301). -/
def IRQ_CLAIM_SRC : Fld := ⟨.IRQ_CLAIM, 0, 9, .ro, .val 0x1FF⟩
/-- IRQ_COMPLETE.SRC (15): Ends the claim of this source. -/
def IRQ_COMPLETE_SRC : Fld := ⟨.IRQ_COMPLETE, 0, 8, .wo, .val 0⟩
/-- IRQ_SW.PEND (15): Bit i: source i pending. -/
def IRQ_SW_PEND : Fld := ⟨.IRQ_SW, 0, 4, .w1c, .val 0⟩
/-- IRQ_SW_SET.SET (15): Bit i: set IRQ_SW.PEND bit i. -/
def IRQ_SW_SET_SET : Fld := ⟨.IRQ_SW_SET, 0, 4, .wo, .val 0⟩
/-- IRQ_PIN.ASSERTED (15): 1 while IRQ_N is driven low. -/
def IRQ_PIN_ASSERTED : Fld := ⟨.IRQ_PIN, 0, 1, .ro, .val 0⟩
/-- PRF_CTRL.UEN (15): 1: user mode may read counters (R287). -/
def PRF_CTRL_UEN : Fld := ⟨.PRF_CTRL, 0, 1, .rw, .val 0⟩
/-- PRF_CTRL.FREEZE (15): 1: all counters of all units hold. -/
def PRF_CTRL_FREEZE : Fld := ⟨.PRF_CTRL, 1, 1, .rw, .val 0⟩
/-- PRF_CTRL.CLEAR (15): 1: zero every counter and PRF_OVF in one mclk. -/
def PRF_CTRL_CLEAR : Fld := ⟨.PRF_CTRL, 2, 1, .wo, .val 0⟩
/-- PRF_SNAP_CTRL.EN (15): 1: write records (R304). -/
def PRF_SNAP_CTRL_EN : Fld := ⟨.PRF_SNAP_CTRL, 0, 1, .rw, .val 0⟩
/-- PRF_SNAP_CTRL.BUNCH (15): Bunch whose pip is the period. -/
def PRF_SNAP_CTRL_BUNCH : Fld := ⟨.PRF_SNAP_CTRL, 1, 1, .rw, .val 0⟩
/-- PRF_SNAP_CTRL.MODE (15): 0 STOP; 1 OVERWRITE (R306). -/
def PRF_SNAP_CTRL_MODE : Fld := ⟨.PRF_SNAP_CTRL, 2, 1, .rw, .val 0⟩
/-- PRF_SNAP_CTRL.IRQ_EN (15): 1: REC_EV fires source 36. -/
def PRF_SNAP_CTRL_IRQ_EN : Fld := ⟨.PRF_SNAP_CTRL, 3, 1, .rw, .val 0⟩
/-- PRF_SNAP_CTRL.N (15): Periods per record, 16 to 2^20 − 1; below 16 acts as 16; 0 acts as 2^20. -/
def PRF_SNAP_CTRL_N : Fld := ⟨.PRF_SNAP_CTRL, 12, 20, .rw, .val 0x400⟩
/-- PRF_SNAP_BASE_LO.VALUE (15): BASE_LO and BASE_HI ([7:0]): local address of the ring. SIZE: bytes, a multiple of 512. Writes while EN = 1 are dropped. -/
def PRF_SNAP_BASE_LO_VALUE : Fld := ⟨.PRF_SNAP_BASE_LO, 0, 32, .rw, .val 0⟩
/-- PRF_SNAP_BASE_HI.VALUE (15): BASE_LO and BASE_HI ([7:0]): local address of the ring. SIZE: bytes, a multiple of 512. Writes while EN = 1 are dropped. -/
def PRF_SNAP_BASE_HI_VALUE : Fld := ⟨.PRF_SNAP_BASE_HI, 0, 32, .rw, .val 0⟩
/-- PRF_SNAP_SIZE.VALUE (15): BASE_LO and BASE_HI ([7:0]): local address of the ring. SIZE: bytes, a multiple of 512. Writes while EN = 1 are dropped. -/
def PRF_SNAP_SIZE_VALUE : Fld := ⟨.PRF_SNAP_SIZE, 0, 32, .rw, .val 0⟩
/-- PRF_SNAP_WP.OFS (15): Byte offset in the ring, a multiple of 512. WP at 0x0014 is RO; RP at 0x0018 is RW. Both are zeroed when EN is set. -/
def PRF_SNAP_WP_OFS : Fld := ⟨.PRF_SNAP_WP, 0, 32, .ro, .val 0⟩
/-- PRF_SNAP_RP.OFS (15): Byte offset in the ring, a multiple of 512. WP at 0x0014 is RO; RP at 0x0018 is RW. Both are zeroed when EN is set. -/
def PRF_SNAP_RP_OFS : Fld := ⟨.PRF_SNAP_RP, 0, 32, .rw, .val 0⟩
/-- PRF_SNAP_STATUS.REC_EV (15): A record was written. -/
def PRF_SNAP_STATUS_REC_EV : Fld := ⟨.PRF_SNAP_STATUS, 0, 1, .w1c, .val 0⟩
/-- PRF_SNAP_STATUS.LOST_EV (15): A record was lost (R306). -/
def PRF_SNAP_STATUS_LOST_EV : Fld := ⟨.PRF_SNAP_STATUS, 1, 1, .w1c, .val 0⟩
/-- PRF_SNAP_STATUS.ERR (15): Last EN refusal: 0 none; 1 ALIGN; 2 RANGE; 3 NOTINIT (R304). -/
def PRF_SNAP_STATUS_ERR : Fld := ⟨.PRF_SNAP_STATUS, 2, 2, .ro, .val 0⟩
/-- PRF_SNAP_STATUS.LOST (15): Records lost; saturates. -/
def PRF_SNAP_STATUS_LOST : Fld := ⟨.PRF_SNAP_STATUS, 16, 16, .rc, .val 0⟩
/-- PRF_CYC_LO.COUNT (15): Bits [31:0] and [63:32]; reading LO latches HI (R302). -/
def PRF_CYC_LO_COUNT : Fld := ⟨.PRF_CYC_LO, 0, 32, .rw, .val 0⟩
/-- PRF_CYC_HI.COUNT (15): Bits [31:0] and [63:32]; reading LO latches HI (R302). -/
def PRF_CYC_HI_COUNT : Fld := ⟨.PRF_CYC_HI, 0, 32, .rw, .val 0⟩
/-- PRF_EVSEL.EVENT (15): Counter k at 0x10 + 4 × k. Core: 0x01 instructions retired; 0x02 loads; 0x03 stores; 0x04 instruction-cache misses; 0x05 fetch stall cycles; 0x06 load -/
def PRF_EVSEL_EVENT : Fld := ⟨.PRF_EVSEL, 0, 8, .rw, .val 0⟩
/-- PRF_EVSEL.FILTER (15): Bunch: line lane index 0 to 3 for lane events, port slot 0 to 3 for port events; 0xF all. Ignored for cores. -/
def PRF_EVSEL_FILTER : Fld := ⟨.PRF_EVSEL, 8, 4, .rw, .val 0xF⟩
/-- PRF_EVSEL.IRQ_EN (15): 1: an overflow fires the unit's source (R303). -/
def PRF_EVSEL_IRQ_EN : Fld := ⟨.PRF_EVSEL, 12, 1, .rw, .val 0⟩
/-- PRF_EVSEL.UONLY (15): Core: 1 counts in user mode only. -/
def PRF_EVSEL_UONLY : Fld := ⟨.PRF_EVSEL, 13, 1, .rw, .val 0⟩
/-- PRF_CNT.COUNT (15): Counter k: LO at 0x40 + 8 × k holds bits [31:0]; HI at 0x44 + 8 × k holds bits [47:32] in [15:0], with [31:16] reserved. Reading LO latches HI. -/
def PRF_CNT_COUNT : Fld := ⟨.PRF_CNT, 0, 32, .rw, .val 0⟩
/-- PRF_OVF.OVF (15): Bit k: counter k wrapped (R303). -/
def PRF_OVF_OVF : Fld := ⟨.PRF_OVF, 0, 8, .w1c, .val 0⟩
/-- PRF_OVF_PC_LO.PC (15): Core units only: bits [31:0] and [63:32] of the address of R303 at the last overflow; reading LO latches HI. Bunch units read zero. -/
def PRF_OVF_PC_LO_PC : Fld := ⟨.PRF_OVF_PC_LO, 0, 32, .ro, .val 0⟩
/-- PRF_OVF_PC_HI.PC (15): Core units only: bits [31:0] and [63:32] of the address of R303 at the last overflow; reading LO latches HI. Bunch units read zero. -/
def PRF_OVF_PC_HI_PC : Fld := ⟨.PRF_OVF_PC_HI, 0, 32, .ro, .val 0⟩
/-- BRM_PCTRL.EN (16): 1: port enabled (R313). Boot sets it at the enumeration step. -/
def BRM_PCTRL_EN : Fld := ⟨.BRM_PCTRL, 0, 1, .rw, .val 0⟩
/-- BRM_PCTRL.MODE (16): 0b00 AUTO; 0b01 NATIVE; 0b10 COMPAT; 0b11 acts as AUTO (R315). -/
def BRM_PCTRL_MODE : Fld := ⟨.BRM_PCTRL, 1, 2, .rw, .val 0⟩
/-- BRM_PCTRL.LANES (16): 1: offer two lanes; 0: lane 0 only. Ignored in COMPAT. -/
def BRM_PCTRL_LANES : Fld := ⟨.BRM_PCTRL, 3, 1, .rw, .val 1⟩
/-- BRM_PCTRL.LOOP (16): 0b00 NONE; 0b01 NEAR_SERIAL; 0b10 FAR; 0b11 PRBS (R319). -/
def BRM_PCTRL_LOOP : Fld := ⟨.BRM_PCTRL, 4, 2, .rw, .val 0⟩
/-- BRM_PCTRL.RESTART (16): 1: leave ACTIVE or LOOP-free states and retrain (R316). -/
def BRM_PCTRL_RESTART : Fld := ⟨.BRM_PCTRL, 6, 1, .wo, .val 0⟩
/-- BRM_PCTRL.T_TRAIN (16): Training timeout in ms, 1 to 255; 0 acts as 1. -/
def BRM_PCTRL_T_TRAIN : Fld := ⟨.BRM_PCTRL, 8, 8, .rw, .val 0xA⟩
/-- BRM_PCTRL.TXEQ (16): Transmitter equaliser preset 0 to 7, as tabulated in Balls, supplies and electrical characteristics. -/
def BRM_PCTRL_TXEQ : Fld := ⟨.BRM_PCTRL, 16, 3, .rw, .val 2⟩
/-- BRM_PCTRL.LANE_WAIT (16): Wait for a second lane in 10 µs; reset 200 µs (R313). -/
def BRM_PCTRL_LANE_WAIT : Fld := ⟨.BRM_PCTRL, 20, 8, .rw, .val 0x14⟩
/-- BRM_PSTATUS.STATE (16): 0 DISABLED; 1 DETECT; 2 TRAIN; 3 CAP_EXCH; 4 ACTIVE; 5 LOOP; 6 and 7 not used (R313). -/
def BRM_PSTATUS_STATE : Fld := ⟨.BRM_PSTATUS, 0, 3, .ro, .val 0⟩
/-- BRM_PSTATUS.COMPAT (16): 1: the port runs, or trains, in COMPAT. -/
def BRM_PSTATUS_COMPAT : Fld := ⟨.BRM_PSTATUS, 3, 1, .ro, .val 0⟩
/-- BRM_PSTATUS.LANE_SET (16): Agreed lanes in ACTIVE, bit l for lane l (R314). -/
def BRM_PSTATUS_LANE_SET : Fld := ⟨.BRM_PSTATUS, 4, 2, .ro, .val 0⟩
/-- BRM_PSTATUS.LINK_DOWN_EV (16): The port left ACTIVE (R316). -/
def BRM_PSTATUS_LINK_DOWN_EV : Fld := ⟨.BRM_PSTATUS, 8, 1, .w1c, .val 0⟩
/-- BRM_PSTATUS.ROLE_ERR_EV (16): The partner's CAP could not be served (R314, R318). -/
def BRM_PSTATUS_ROLE_ERR_EV : Fld := ⟨.BRM_PSTATUS, 9, 1, .w1c, .val 0⟩
/-- BRM_PSTATUS.FREQ_ERR_EV (16): A NATIVE lane exceeded ±0.5 ppm (R315). -/
def BRM_PSTATUS_FREQ_ERR_EV : Fld := ⟨.BRM_PSTATUS, 10, 1, .w1c, .val 0⟩
/-- BRM_PSTATUS.LANE_DROP_EV (16): Fewer lanes were agreed than offered, or none. -/
def BRM_PSTATUS_LANE_DROP_EV : Fld := ⟨.BRM_PSTATUS, 11, 1, .w1c, .val 0⟩
/-- BRM_PSTATUS.TRAIN_TMO_EV (16): T_TRAIN expired. -/
def BRM_PSTATUS_TRAIN_TMO_EV : Fld := ⟨.BRM_PSTATUS, 12, 1, .w1c, .val 0⟩
/-- BRM_PSTATUS.LOOP_REJ (16): A LOOP write was dropped (R319). -/
def BRM_PSTATUS_LOOP_REJ : Fld := ⟨.BRM_PSTATUS, 13, 1, .w1c, .val 0⟩
/-- BRM_PARTNER.PART (16): Part number from the last CAP received (R312). -/
def BRM_PARTNER_PART : Fld := ⟨.BRM_PARTNER, 0, 16, .ro, .val 0⟩
/-- BRM_PARTNER.SREV (16): Partner's SREV. -/
def BRM_PARTNER_SREV : Fld := ⟨.BRM_PARTNER, 16, 8, .ro, .val 0⟩
/-- BRM_PARTNER.VERSION (16): CAP version. -/
def BRM_PARTNER_VERSION : Fld := ⟨.BRM_PARTNER, 24, 4, .ro, .val 0⟩
/-- BRM_PARTNER.CLK_LINK (16): 1: the partner takes its reference from this link. -/
def BRM_PARTNER_CLK_LINK : Fld := ⟨.BRM_PARTNER, 28, 1, .ro, .val 0⟩
/-- BRM_PARTNER.LOCK_MASK (16): Partner's lock mask. -/
def BRM_PARTNER_LOCK_MASK : Fld := ⟨.BRM_PARTNER, 29, 2, .ro, .val 0⟩
/-- BRM_PARTNER.ROLE (16): Partner's role: 0 upstream, 1 downstream. -/
def BRM_PARTNER_ROLE : Fld := ⟨.BRM_PARTNER, 31, 1, .ro, .val 0⟩
/-- BRM_PCNT.DOWNS (16): Exits from ACTIVE; saturates at 0xFFFF. -/
def BRM_PCNT_DOWNS : Fld := ⟨.BRM_PCNT, 0, 16, .rc, .val 0⟩
/-- BRM_PCNT.TRAIN_TMO (16): T_TRAIN expiries; saturates at 0xFFFF. -/
def BRM_PCNT_TRAIN_TMO : Fld := ⟨.BRM_PCNT, 16, 16, .rc, .val 0⟩
/-- BRM_LSTATUS.RX_DETECTED (16): The probe found a far-end termination. -/
def BRM_LSTATUS_RX_DETECTED : Fld := ⟨.BRM_LSTATUS, 0, 1, .ro, .val 0⟩
/-- BRM_LSTATUS.CDR_LOCK (16): Clock recovery locked. -/
def BRM_LSTATUS_CDR_LOCK : Fld := ⟨.BRM_LSTATUS, 1, 1, .ro, .val 0⟩
/-- BRM_LSTATUS.BLOCK_LOCK (16): Block lock (R313). -/
def BRM_LSTATUS_BLOCK_LOCK : Fld := ⟨.BRM_LSTATUS, 2, 1, .ro, .val 0⟩
/-- BRM_LSTATUS.MARKER_LOCK (16): Marker lock. -/
def BRM_LSTATUS_MARKER_LOCK : Fld := ⟨.BRM_LSTATUS, 3, 1, .ro, .val 0⟩
/-- BRM_LSTATUS.DESKEWED (16): Within 100 ns of the other lane (R311); 1 on a one-lane port. -/
def BRM_LSTATUS_DESKEWED : Fld := ⟨.BRM_LSTATUS, 4, 1, .ro, .val 0⟩
/-- BRM_LFREQ.PPM (16): Signed offset against the local reference, in 0.01 ppm, updated every 1 ms. -/
def BRM_LFREQ_PPM : Fld := ⟨.BRM_LFREQ, 0, 24, .ro, .val 0⟩
/-- BRM_LCNT0.HDR_ERR (16): Invalid sync headers (R308); saturates. -/
def BRM_LCNT0_HDR_ERR : Fld := ⟨.BRM_LCNT0, 0, 16, .rc, .val 0⟩
/-- BRM_LCNT0.BAD_CTRL (16): Discarded control blocks; saturates. -/
def BRM_LCNT0_BAD_CTRL : Fld := ⟨.BRM_LCNT0, 16, 16, .rc, .val 0⟩
/-- BRM_LCNT1.STUFF_ERR (16): Stuffed bits equal to their run (R310); saturates. -/
def BRM_LCNT1_STUFF_ERR : Fld := ⟨.BRM_LCNT1, 0, 16, .rc, .val 0⟩
/-- BRM_LCNT1.MRK_ERR (16): Failed markers (R309); saturates. -/
def BRM_LCNT1_MRK_ERR : Fld := ⟨.BRM_LCNT1, 16, 16, .rc, .val 0⟩
/-- BRM_LPRBS.COUNT (16): Bit errors while LOOP = PRBS (R319); saturates at 0xFFFF_FFFF. -/
def BRM_LPRBS_COUNT : Fld := ⟨.BRM_LPRBS, 0, 32, .rc, .val 0⟩
/-- BRM_CLK.SRC (16): 0 REFCLK; 1 UPSTREAM (R317). -/
def BRM_CLK_SRC : Fld := ⟨.BRM_CLK, 0, 1, .rws, .val 0⟩
/-- BRM_CLK.SRC_NOW (16): Source in force. -/
def BRM_CLK_SRC_NOW : Fld := ⟨.BRM_CLK, 1, 1, .ro, .val 0⟩
/-- BRM_CLK.LOCKED (16): The cleaner is locked to the upstream lane. -/
def BRM_CLK_LOCKED : Fld := ⟨.BRM_CLK, 2, 1, .ro, .val 0⟩
/-- BRM_CLK.HOLD (16): The cleaner is in holdover. -/
def BRM_CLK_HOLD : Fld := ⟨.BRM_CLK, 3, 1, .ro, .val 0⟩
/-- BRM_CLK.HOLD_EV (16): Holdover began; fires source 25. -/
def BRM_CLK_HOLD_EV : Fld := ⟨.BRM_CLK, 4, 1, .w1c, .val 0⟩
/-- BRM_FCTRL.ENUM_START (17): 1: enumerate; root only; refused while requests are outstanding (R332). -/
def BRM_FCTRL_ENUM_START : Fld := ⟨.BRM_FCTRL, 0, 1, .wo, .val 0⟩
/-- BRM_FCTRL.TMSG_AUTO (17): 1: the root broadcasts TIME messages (R335). -/
def BRM_FCTRL_TMSG_AUTO : Fld := ⟨.BRM_FCTRL, 1, 1, .rw, .val 0⟩
/-- BRM_FCTRL.DRIVER (17): Device number of the trigger-bus driver (R334). -/
def BRM_FCTRL_DRIVER : Fld := ⟨.BRM_FCTRL, 2, 6, .rw, .val 0⟩
/-- BRM_FCTRL.ROOT (17): 1: this device is the root. -/
def BRM_FCTRL_ROOT : Fld := ⟨.BRM_FCTRL, 8, 1, .ro, .val 0⟩
/-- BRM_FSTATUS.DEVNUM (17): Device number. -/
def BRM_FSTATUS_DEVNUM : Fld := ⟨.BRM_FSTATUS, 0, 6, .ro, .val 0⟩
/-- BRM_FSTATUS.NUMBERED (17): 1 once numbered. -/
def BRM_FSTATUS_NUMBERED : Fld := ⟨.BRM_FSTATUS, 6, 1, .ro, .val 0⟩
/-- BRM_FSTATUS.DEPTH (17): Depth 0 to 6. -/
def BRM_FSTATUS_DEPTH : Fld := ⟨.BRM_FSTATUS, 7, 3, .ro, .val 0⟩
/-- BRM_FSTATUS.FLEET (17): Root: devices enumerated; others: subtree size. -/
def BRM_FSTATUS_FLEET : Fld := ⟨.BRM_FSTATUS, 10, 7, .ro, .val 0⟩
/-- BRM_FSTATUS.ENUM_BUSY (17): 1 while enumeration runs. -/
def BRM_FSTATUS_ENUM_BUSY : Fld := ⟨.BRM_FSTATUS, 17, 1, .ro, .val 0⟩
/-- BRM_FSTATUS.ENUM_EV (17): Enumeration completed. -/
def BRM_FSTATUS_ENUM_EV : Fld := ⟨.BRM_FSTATUS, 24, 1, .w1c, .val 0⟩
/-- BRM_FSTATUS.DEPTH_EV (17): A port beyond depth 6 was left unserved. -/
def BRM_FSTATUS_DEPTH_EV : Fld := ⟨.BRM_FSTATUS, 25, 1, .w1c, .val 0⟩
/-- BRM_FSTATUS.OVF_EV (17): A child was refused for lack of numbers. -/
def BRM_FSTATUS_OVF_EV : Fld := ⟨.BRM_FSTATUS, 26, 1, .w1c, .val 0⟩
/-- BRM_FSTATUS.LATE_EV (17): A late completion was discarded (R329). -/
def BRM_FSTATUS_LATE_EV : Fld := ⟨.BRM_FSTATUS, 27, 1, .w1c, .val 0⟩
/-- BRM_FSTATUS.TMO_EV (17): A request timed out. -/
def BRM_FSTATUS_TMO_EV : Fld := ⟨.BRM_FSTATUS, 28, 1, .w1c, .val 0⟩
/-- BRM_FSTATUS.LINK_ABORT_EV (17): Requests completed ABORTED_LINK (R330). -/
def BRM_FSTATUS_LINK_ABORT_EV : Fld := ⟨.BRM_FSTATUS, 29, 1, .w1c, .val 0⟩
/-- BRM_FSTATUS.ENUM_REJ (17): ENUM_START was refused. -/
def BRM_FSTATUS_ENUM_REJ : Fld := ⟨.BRM_FSTATUS, 30, 1, .w1c, .val 0⟩
/-- BRM_ROUTE.S0 (17): Devices behind downstream port 0 (R333). -/
def BRM_ROUTE_S0 : Fld := ⟨.BRM_ROUTE, 0, 7, .ro, .val 0⟩
/-- BRM_ROUTE.S1 (17): Devices behind downstream port 1. -/
def BRM_ROUTE_S1 : Fld := ⟨.BRM_ROUTE, 8, 7, .ro, .val 0⟩
/-- BRM_CTO.US (17): Timeout in µs, counted in mclk, 1 to 65535; 0 acts as 1 (R329). -/
def BRM_CTO_US : Fld := ⟨.BRM_CTO, 0, 16, .rw, .val 0x64⟩
/-- BRM_FCNT.LATE_CPL (17): Late completions discarded; saturates. -/
def BRM_FCNT_LATE_CPL : Fld := ⟨.BRM_FCNT, 0, 16, .rc, .val 0⟩
/-- BRM_FCNT.TIMEOUT (17): Requests timed out; saturates. -/
def BRM_FCNT_TIMEOUT : Fld := ⟨.BRM_FCNT, 16, 16, .rc, .val 0⟩
/-- BRM_FCNT2.ABORT_LINK (17): ABORTED_LINK completions generated; saturates. -/
def BRM_FCNT2_ABORT_LINK : Fld := ⟨.BRM_FCNT2, 0, 12, .rc, .val 0⟩
/-- BRM_FCNT2.P_LOST (17): Posted packets lost with a replay buffer; saturates. -/
def BRM_FCNT2_P_LOST : Fld := ⟨.BRM_FCNT2, 12, 10, .rc, .val 0⟩
/-- BRM_FCNT2.P_REFUSED (17): Posted requests refused (R326); saturates. -/
def BRM_FCNT2_P_REFUSED : Fld := ⟨.BRM_FCNT2, 22, 10, .rc, .val 0⟩
/-- BRM_FIRQ_LO.DEV (17): Bit d of the 64: an IRQ message from device d (R334); LO devices 0 to 31, HI 32 to 63. -/
def BRM_FIRQ_LO_DEV : Fld := ⟨.BRM_FIRQ_LO, 0, 32, .w1c, .val 0⟩
/-- BRM_FIRQ_HI.DEV (17): Bit d of the 64: an IRQ message from device d (R334); LO devices 0 to 31, HI 32 to 63. -/
def BRM_FIRQ_HI_DEV : Fld := ⟨.BRM_FIRQ_HI, 0, 32, .w1c, .val 0⟩
/-- BRM_LLCNT.REPLAYS (17): Replays (R323); saturates. -/
def BRM_LLCNT_REPLAYS : Fld := ⟨.BRM_LLCNT, 0, 16, .rc, .val 0⟩
/-- BRM_LLCNT.RX_ERR (17): Receive errors; saturates. -/
def BRM_LLCNT_RX_ERR : Fld := ⟨.BRM_LLCNT, 16, 16, .rc, .val 0⟩
/-- PCI_CTRL.WIN_LOG2 (17): BAR2 size 2^WIN_LOG2, 32 to 48; values outside act as the nearer limit; taken at the PCIe fundamental reset (R336). -/
def PCI_CTRL_WIN_LOG2 : Fld := ⟨.PCI_CTRL, 0, 6, .rws, .val 0x28⟩
/-- PCI_WIN.BASE (17): Fleet address bits [47:32] of the window; bits below WIN_LOG2 are ignored. -/
def PCI_WIN_BASE : Fld := ⟨.PCI_WIN, 0, 16, .rw, .val 0⟩
/-- PCI_STATUS.LINK_UP (17): 1 while the PCIe link is up. -/
def PCI_STATUS_LINK_UP : Fld := ⟨.PCI_STATUS, 0, 1, .ro, .val 0⟩
/-- PCI_STATUS.TAGS (17): Host reads outstanding, 0 to 1023. -/
def PCI_STATUS_TAGS : Fld := ⟨.PCI_STATUS, 1, 10, .ro, .val 0⟩
/-- PCI_STATUS.TAGS_FULL (17): 1 while 1024 are outstanding. -/
def PCI_STATUS_TAGS_FULL : Fld := ⟨.PCI_STATUS, 11, 1, .ro, .val 0⟩
/-- PCI_STATUS.CPL_EV (17): A non-OK status was logged; fires source 29. -/
def PCI_STATUS_CPL_EV : Fld := ⟨.PCI_STATUS, 12, 1, .w1c, .val 0⟩
/-- PCI_CPL_LOG.STATUS (17): R327. -/
def PCI_CPL_LOG_STATUS : Fld := ⟨.PCI_CPL_LOG, 0, 4, .ro, .val 0⟩
/-- PCI_CPL_LOG.DEV (17): Target device. -/
def PCI_CPL_LOG_DEV : Fld := ⟨.PCI_CPL_LOG, 4, 6, .ro, .val 0⟩
/-- PCI_CPL_LOG.TAG (17): Host tag. -/
def PCI_CPL_LOG_TAG : Fld := ⟨.PCI_CPL_LOG, 10, 10, .ro, .val 0⟩
/-- SPI_CFG.QUAD (17): 1: all bytes on four lines (R338). -/
def SPI_CFG_QUAD : Fld := ⟨.SPI_CFG, 0, 1, .rws, .val 0⟩
/-- I3C_CFG.IBI_EN (17): 1: in-band interrupt on IRQ_PIN assertion (R339). -/
def I3C_CFG_IBI_EN : Fld := ⟨.I3C_CFG, 0, 1, .rw, .val 0⟩
/-- I3C_CFG.DYN_ADDR (17): Dynamic address assigned; 0 before ENTDAA. -/
def I3C_CFG_DYN_ADDR : Fld := ⟨.I3C_CFG, 1, 7, .ro, .val 0⟩
/-- I3C_PID.MFR (17): PID bits [47:33]; boot loads it from the Stone. -/
def I3C_PID_MFR : Fld := ⟨.I3C_PID, 0, 15, .rwl, .val 0⟩
/-- I3C_PID.INST (17): PID bits [3:0]. -/
def I3C_PID_INST : Fld := ⟨.I3C_PID, 16, 4, .rwl, .val 0⟩
/-- SPI_I3C_STATUS.BUSY (17): 1 while the bridge holds a request. -/
def SPI_I3C_STATUS_BUSY : Fld := ⟨.SPI_I3C_STATUS, 0, 1, .ro, .val 0⟩
/-- SPI_I3C_STATUS.WR_ERR (17): A bridge write was dropped; fires source 30. -/
def SPI_I3C_STATUS_WR_ERR : Fld := ⟨.SPI_I3C_STATUS, 1, 1, .w1c, .val 0⟩
/-- SPI_I3C_STATUS.LAST (17): STATUS of the last bridge read (R327). -/
def SPI_I3C_STATUS_LAST : Fld := ⟨.SPI_I3C_STATUS, 2, 4, .ro, .val 0⟩
/-- BOOT_STATUS.STEP (18): Step running or last run, 0 to 11; 12 when boot is done. -/
def BOOT_STATUS_STEP : Fld := ⟨.BOOT_STATUS, 0, 4, .ro, .val 0⟩
/-- BOOT_STATUS.MODE (18): BOOTMODE as sampled (R341). -/
def BOOT_STATUS_MODE : Fld := ⟨.BOOT_STATUS, 4, 2, .ro, .val 0⟩
/-- BOOT_STATUS.DONE (18): 1 after B11. -/
def BOOT_STATUS_DONE : Fld := ⟨.BOOT_STATUS, 6, 1, .ro, .val 0⟩
/-- BOOT_STATUS.STOPPED (18): 1 while boot is stopped (R345). -/
def BOOT_STATUS_STOPPED : Fld := ⟨.BOOT_STATUS, 7, 1, .ro, .val 0⟩
/-- BOOT_STATUS.RESULT (18): Last clean failure: 0 none; 1 LENGTH; 2 SIGNATURE; 3 POISON; 4 REFUSED; 5 TRAINING; 6 NO_LOCK; 7 RECORD. -/
def BOOT_STATUS_RESULT : Fld := ⟨.BOOT_STATUS, 8, 3, .ro, .val 0⟩
/-- BOOT_STATUS.FW_B (18): 1: firmware B is running. -/
def BOOT_STATUS_FW_B : Fld := ⟨.BOOT_STATUS, 11, 1, .ro, .val 0⟩
/-- BOOT_STATUS.SEED_SLOT (18): Slot loaded at B7. -/
def BOOT_STATUS_SEED_SLOT : Fld := ⟨.BOOT_STATUS, 12, 1, .ro, .val 0⟩
/-- BOOT_STATUS.SAFE_SEED (18): 1: the ROM safe seed is in force. -/
def BOOT_STATUS_SAFE_SEED : Fld := ⟨.BOOT_STATUS, 13, 1, .ro, .val 0⟩
/-- BOOT_STATUS.NO_LPDDR6 (18): 1: booted without LPDDR6. -/
def BOOT_STATUS_NO_LPDDR6 : Fld := ⟨.BOOT_STATUS, 14, 1, .ro, .val 0⟩
/-- BOOT_STATUS.FG_PENDING (18): 1: lanes await foreground calibration (B6 level 1). -/
def BOOT_STATUS_FG_PENDING : Fld := ⟨.BOOT_STATUS, 15, 1, .ro, .val 0⟩
/-- BOOT_STATUS.STANDALONE (18): 1: B9 ran at level 1. -/
def BOOT_STATUS_STANDALONE : Fld := ⟨.BOOT_STATUS, 16, 1, .ro, .val 0⟩
/-- BOOT_STATUS.CFG_DEFAULT (18): 1: boot configuration defaults in use (R353). -/
def BOOT_STATUS_CFG_DEFAULT : Fld := ⟨.BOOT_STATUS, 17, 1, .ro, .val 0⟩
/-- BOOT_STATUS.ALT_EV (18): A step ended above level 0; fires source 22. -/
def BOOT_STATUS_ALT_EV : Fld := ⟨.BOOT_STATUS, 18, 1, .w1c, .val 0⟩
/-- BOOT_STATUS.STOP_EV (18): Boot stopped; fires source 22. -/
def BOOT_STATUS_STOP_EV : Fld := ⟨.BOOT_STATUS, 19, 1, .w1c, .val 0⟩
/-- BOOT_STATUS.ATTEMPT (18): Attempt number, low 12 bits. -/
def BOOT_STATUS_ATTEMPT : Fld := ⟨.BOOT_STATUS, 20, 12, .ro, .val 0⟩
/-- BOOT_FAIL0.STEPS (18): Bits [4s + 3:4s] hold step s: FAIL0 holds B0 to B7 and FAIL1 holds B8 to B11 in [15:0]. Bits [1:0] F and bits [3:2] LEVEL (R344). Writing 1s clears th -/
def BOOT_FAIL0_STEPS : Fld := ⟨.BOOT_FAIL0, 0, 32, .w1c, .val 0⟩
/-- BOOT_FAIL1.STEPS (18): Bits [4s + 3:4s] hold step s: FAIL0 holds B0 to B7 and FAIL1 holds B8 to B11 in [15:0]. Bits [1:0] F and bits [3:2] LEVEL (R344). Writing 1s clears th -/
def BOOT_FAIL1_STEPS : Fld := ⟨.BOOT_FAIL1, 0, 32, .w1c, .val 0⟩
/-- BOOT_CTRL.RETRY (18): 1: release FAULT_N and begin a new attempt at B0; acts only while STOPPED = 1. -/
def BOOT_CTRL_RETRY : Fld := ⟨.BOOT_CTRL, 0, 1, .wo, .val 0⟩
/-- BOOT_VEC_LO.ADDR (18): Restart address of a CORE reset (R342); returned to its reset value at every POR, WARM and WAKE reset; written at B11 before TOP_LOCK; HI holds bits [ -/
def BOOT_VEC_LO_ADDR : Fld := ⟨.BOOT_VEC_LO, 0, 32, .rwl, .val 0x60000000⟩
/-- BOOT_VEC_HI.ADDR (18): Restart address of a CORE reset (R342); returned to its reset value at every POR, WARM and WAKE reset; written at B11 before TOP_LOCK; HI holds bits [ -/
def BOOT_VEC_HI_ADDR : Fld := ⟨.BOOT_VEC_HI, 0, 32, .rwl, .val 0⟩
/-- RIND_REC.WAKE_FAIL (18): Bit w: wake step w recorded failed, as Power domains and power states numbers them. -/
def RIND_REC_WAKE_FAIL : Fld := ⟨.RIND_REC, 0, 8, .rw, .val 0⟩
/-- RIND_REC.LAST_STEP (18): Last boot step started, or 12 after B11. -/
def RIND_REC_LAST_STEP : Fld := ⟨.RIND_REC, 8, 4, .ro, .val 0⟩
/-- RIND_REC.CAUSE (18): Last reset: 0 none; 1 POR; 2 RESET_N; 3 TOP_RESET.WARM; 4 WATCHDOG; 5 thermal restart; 6 wake from DEEP or OFF; 7 not used. -/
def RIND_REC_CAUSE : Fld := ⟨.RIND_REC, 12, 3, .ro, .val 0⟩
/-- RIND_REC.FAILS (18): Attempts that ended FAIL or were interrupted; saturates at 0xFF. -/
def RIND_REC_FAILS : Fld := ⟨.RIND_REC, 16, 8, .rc, .val 0⟩
/-- STN_SRC_LO.ADDR (18): Local source address; LO bits [7:0] must be zero; HI holds bits [39:32] in [7:0] (R350). -/
def STN_SRC_LO_ADDR : Fld := ⟨.STN_SRC_LO, 0, 32, .rw, .val 0⟩
/-- STN_SRC_HI.ADDR (18): Local source address; LO bits [7:0] must be zero; HI holds bits [39:32] in [7:0] (R350). -/
def STN_SRC_HI_ADDR : Fld := ⟨.STN_SRC_HI, 0, 32, .rw, .val 0⟩
/-- STN_CMD.PAGE (18): Target page, 0 to 131071. -/
def STN_CMD_PAGE : Fld := ⟨.STN_CMD, 0, 17, .rw, .val 0⟩
/-- STN_CMD.JOURNAL (18): 1: journaled write (R348); 0: plain write. -/
def STN_CMD_JOURNAL : Fld := ⟨.STN_CMD, 17, 1, .rw, .val 1⟩
/-- STN_CMD.PUSH (18): 1: queue the entry (R350). -/
def STN_CMD_PUSH : Fld := ⟨.STN_CMD, 31, 1, .wo, .val 0⟩
/-- STN_STATUS.BUSY (18): 1 while an entry executes. -/
def STN_STATUS_BUSY : Fld := ⟨.STN_STATUS, 0, 1, .ro, .val 0⟩
/-- STN_STATUS.QCOUNT (18): Entries queued, 0 to 8. -/
def STN_STATUS_QCOUNT : Fld := ⟨.STN_STATUS, 1, 4, .ro, .val 0⟩
/-- STN_STATUS.ERR (18): Last refusal: 0 none; 1 QFULL; 2 PROT; 3 SOURCE. -/
def STN_STATUS_ERR : Fld := ⟨.STN_STATUS, 5, 2, .ro, .val 0⟩
/-- STN_STATUS.DONE_EV (18): An entry completed. -/
def STN_STATUS_DONE_EV : Fld := ⟨.STN_STATUS, 7, 1, .w1c, .val 0⟩
/-- STN_STATUS.IDLE_EV (18): The queue emptied. -/
def STN_STATUS_IDLE_EV : Fld := ⟨.STN_STATUS, 8, 1, .w1c, .val 0⟩
/-- STN_STATUS.UE_EV (18): A Stone read returned POISON. -/
def STN_STATUS_UE_EV : Fld := ⟨.STN_STATUS, 9, 1, .w1c, .val 0⟩
/-- STN_STATUS.ABANDON_EV (18): An abandonment was recorded (R351). -/
def STN_STATUS_ABANDON_EV : Fld := ⟨.STN_STATUS, 10, 1, .w1c, .val 0⟩
/-- STN_STATUS.ROLLBACK (18): Pages rolled back at the last B0. -/
def STN_STATUS_ROLLBACK : Fld := ⟨.STN_STATUS, 16, 8, .ro, .val 0⟩
/-- STN_STATUS.WIN_WR (18): Writes to the read window dropped; saturates. -/
def STN_STATUS_WIN_WR : Fld := ⟨.STN_STATUS, 24, 8, .rc, .val 0⟩
/-- STN_ABANDON.COUNT (18): Entries abandoned, 0 to 9, including an unfinished journaled sequence. -/
def STN_ABANDON_COUNT : Fld := ⟨.STN_ABANDON, 0, 4, .ro, .val 0⟩
/-- STN_ABANDON.FIRST (18): First abandoned target page. -/
def STN_ABANDON_FIRST : Fld := ⟨.STN_ABANDON, 4, 17, .ro, .val 0⟩
/-- STN_ABANDON.LAST_HI (18): Last abandoned target page, bits [16:6]. -/
def STN_ABANDON_LAST_HI : Fld := ⟨.STN_ABANDON, 21, 11, .ro, .val 0⟩
/-- STN_WEAR_SEL.REGION (18): At 0x0014 (RW): [8:0] region, 0 to 511, of 64 KiB each. At 0x0018 (RO): page writes to that region since manufacture, saturating (R352). -/
def STN_WEAR_SEL_REGION : Fld := ⟨.STN_WEAR_SEL, 0, 9, .rw, .val 0⟩
/-- STN_WEAR.WRITES (18): At 0x0014 (RW): [8:0] region, 0 to 511, of 64 KiB each. At 0x0018 (RO): page writes to that region since manufacture, saturating (R352). -/
def STN_WEAR_WRITES : Fld := ⟨.STN_WEAR, 0, 32, .ro, .val 0⟩
/-- SEC_LC.STATE (19): 0 BLANK; 1 PROVISIONED; 2 OWNED; 3 RETURNED; 4 SCRAPPED; 5 to 7 not used. -/
def SEC_LC_STATE : Fld := ⟨.SEC_LC, 0, 3, .ro, .val 0⟩
/-- SEC_LC.WIPE_PEND (19): 1: a transition's wipe is unfinished (R368). -/
def SEC_LC_WIPE_PEND : Fld := ⟨.SEC_LC, 3, 1, .ro, .val 0⟩
/-- SEC_LC.SLOTS (19): Bit 4 slot 0 fused; 5 slot 0 revoked; 6 slot 1 fused; 7 slot 1 revoked. -/
def SEC_LC_SLOTS : Fld := ⟨.SEC_LC, 4, 4, .ro, .val 0⟩
/-- SEC_LC.FW_SVN (19): Programmed FW_SVN bits, 0 to 32. -/
def SEC_LC_FW_SVN : Fld := ⟨.SEC_LC, 8, 6, .ro, .val 0⟩
/-- SEC_LC.BOOT_CLOSED (19): 1 after B10 (R361). -/
def SEC_LC_BOOT_CLOSED : Fld := ⟨.SEC_LC, 14, 1, .ro, .val 0⟩
/-- SEC_SERIAL_LO.SERIAL (19): Bits [31:0] and [63:32]. -/
def SEC_SERIAL_LO_SERIAL : Fld := ⟨.SEC_SERIAL_LO, 0, 32, .ro, .val 0⟩
/-- SEC_SERIAL_HI.SERIAL (19): Bits [31:0] and [63:32]. -/
def SEC_SERIAL_HI_SERIAL : Fld := ⟨.SEC_SERIAL_HI, 0, 32, .ro, .val 0⟩
/-- SEC_KHASH.HASH (19): Words 0 to 7: vendor hash; 8 to 15: owner hash 0; 16 to 23: owner hash 1; little-endian. -/
def SEC_KHASH_HASH : Fld := ⟨.SEC_KHASH, 0, 32, .ro, .val 0⟩
/-- SEC_SRC_LO.ADDR (19): Local address of the image, token or digest, 16-byte aligned, in management SRAM; HI holds bits [39:32] in [7:0]. -/
def SEC_SRC_LO_ADDR : Fld := ⟨.SEC_SRC_LO, 0, 32, .rw, .val 0⟩
/-- SEC_SRC_HI.ADDR (19): Local address of the image, token or digest, 16-byte aligned, in management SRAM; HI holds bits [39:32] in [7:0]. -/
def SEC_SRC_HI_ADDR : Fld := ⟨.SEC_SRC_HI, 0, 32, .rw, .val 0⟩
/-- SEC_CMD.OP (19): 1 VERIFY_FW; 2 VERIFY_APP; 3 EXTEND; 4 CHALLENGE; 5 LC_GO; 6 SVN_BUMP (program FW_SVN up to the running image's SVN); 0 and 7 none. -/
def SEC_CMD_OP : Fld := ⟨.SEC_CMD, 0, 3, .rw, .val 0⟩
/-- SEC_CMD.MR (19): Register for EXTEND; 5 to 7 only. -/
def SEC_CMD_MR : Fld := ⟨.SEC_CMD, 3, 3, .rw, .val 5⟩
/-- SEC_CMD.GO (19): 1: run OP. -/
def SEC_CMD_GO : Fld := ⟨.SEC_CMD, 31, 1, .wo, .val 0⟩
/-- SEC_STATUS.CMD_BUSY (19): 1 while a command runs. -/
def SEC_STATUS_CMD_BUSY : Fld := ⟨.SEC_STATUS, 0, 1, .ro, .val 0⟩
/-- SEC_STATUS.CMD_DONE (19): A command ended or was refused; fires source 24. -/
def SEC_STATUS_CMD_DONE : Fld := ⟨.SEC_STATUS, 1, 1, .w1c, .val 0⟩
/-- SEC_STATUS.CMD_ERR (19): 0 NONE; 1 MAGIC; 2 FORMAT; 3 LENGTH; 4 TARGET; 5 KEY; 6 SIGNATURE; 7 SVN; 8 SOURCE; 9 BUSY; 10 STATE; 11 CHALLENGE; 12 LASTKEY; 13 SLOT; 14 and 15 not -/
def SEC_STATUS_CMD_ERR : Fld := ⟨.SEC_STATUS, 2, 4, .ro, .val 0⟩
/-- SEC_STATUS.ATT_BUSY (19): 1 while a report is signed. -/
def SEC_STATUS_ATT_BUSY : Fld := ⟨.SEC_STATUS, 6, 1, .ro, .val 0⟩
/-- SEC_STATUS.ATT_DONE (19): A report ended; fires source 24. -/
def SEC_STATUS_ATT_DONE : Fld := ⟨.SEC_STATUS, 7, 1, .w1c, .val 0⟩
/-- SEC_STATUS.ATT_RESULT (19): 0 none; 1 WRITTEN; 2 REFUSED; 3 ABANDONED (R364). -/
def SEC_STATUS_ATT_RESULT : Fld := ⟨.SEC_STATUS, 8, 2, .ro, .val 0⟩
/-- SEC_STATUS.ATT_ERR (19): Refusal code, coded as CMD_ERR. -/
def SEC_STATUS_ATT_ERR : Fld := ⟨.SEC_STATUS, 10, 4, .ro, .val 0⟩
/-- SEC_LC_STATUS.CMD (19): Command of the last LC_GO, coded as token byte 0x06. -/
def SEC_LC_STATUS_CMD : Fld := ⟨.SEC_LC_STATUS, 0, 3, .rws, .val 0⟩
/-- SEC_LC_STATUS.LAST (19): Its result, coded as CMD_ERR; 0 means completed. -/
def SEC_LC_STATUS_LAST : Fld := ⟨.SEC_LC_STATUS, 3, 4, .rws, .val 0⟩
/-- SEC_CHAL.CHAL (19): Challenge bytes 4w to 4w + 3; zero when none is valid (R365). -/
def SEC_CHAL_CHAL : Fld := ⟨.SEC_CHAL, 0, 32, .ro, .val 0⟩
/-- SEC_NONCE.NONCE (19): Nonce bytes 4w to 4w + 3; copied at START (R364). -/
def SEC_NONCE_NONCE : Fld := ⟨.SEC_NONCE, 0, 32, .rw, .val 0⟩
/-- SEC_ATT_DST_LO.ADDR (19): Local address of the 50640-byte report; HI holds bits [39:32] in [7:0]. -/
def SEC_ATT_DST_LO_ADDR : Fld := ⟨.SEC_ATT_DST_LO, 0, 32, .rw, .val 0⟩
/-- SEC_ATT_DST_HI.ADDR (19): Local address of the 50640-byte report; HI holds bits [39:32] in [7:0]. -/
def SEC_ATT_DST_HI_ADDR : Fld := ⟨.SEC_ATT_DST_HI, 0, 32, .rw, .val 0⟩
/-- SEC_ATT_CTRL.START (19): 1: sign a report (R364). -/
def SEC_ATT_CTRL_START : Fld := ⟨.SEC_ATT_CTRL, 0, 1, .wo, .val 0⟩
/-- SEC_MR_SEL.MR (19): At 0x0200 (RW): [2:0] register, [7:4] word 0 to 15, [8] AUTO_INC, which advances the word after each read of 0x0204. At 0x0204 (RO): the selected word -/
def SEC_MR_SEL_MR : Fld := ⟨.SEC_MR_SEL, 0, 3, .rw, .val 0⟩
/-- SEC_MR_SEL.WORD (19): At 0x0200 (RW): [2:0] register, [7:4] word 0 to 15, [8] AUTO_INC, which advances the word after each read of 0x0204. At 0x0204 (RO): the selected word -/
def SEC_MR_SEL_WORD : Fld := ⟨.SEC_MR_SEL, 4, 4, .rw, .val 0⟩
/-- SEC_MR_SEL.AUTO_INC (19): At 0x0200 (RW): [2:0] register, [7:4] word 0 to 15, [8] AUTO_INC, which advances the word after each read of 0x0204. At 0x0204 (RO): the selected word -/
def SEC_MR_SEL_AUTO_INC : Fld := ⟨.SEC_MR_SEL, 8, 1, .rw, .val 0⟩
/-- SEC_MR.VALUE (19): At 0x0200 (RW): [2:0] register, [7:4] word 0 to 15, [8] AUTO_INC, which advances the word after each read of 0x0204. At 0x0204 (RO): the selected word -/
def SEC_MR_VALUE : Fld := ⟨.SEC_MR, 0, 32, .ro, .val 0⟩
/-- SEC_MR_CNT.COUNT (19): Extensions of MRk since reset, saturating (R361). -/
def SEC_MR_CNT_COUNT : Fld := ⟨.SEC_MR_CNT, 0, 32, .ro, .val 0⟩
/-- PWR_CTRL.SLEEP_EN (20): 1: automatic entry to SLEEP (R370). -/
def PWR_CTRL_SLEEP_EN : Fld := ⟨.PWR_CTRL, 0, 1, .rw, .val 0⟩
/-- PWR_CTRL.GO (20): 0 none; 1 SLEEP; 2 DEEP; 3 OFF; 4 WAKE from SLEEP; 5 RUN_CLK, relock the PLLs and switch mclk (R381); 6 and 7 ignored. -/
def PWR_CTRL_GO : Fld := ⟨.PWR_CTRL, 1, 3, .wo, .val 0⟩
/-- PWR_STATUS.STATE (20): 0 RUN; 1 IDLE; 2 SLEEP; 3 not used (R370). -/
def PWR_STATUS_STATE : Fld := ⟨.PWR_STATUS, 0, 2, .ro, .val 0⟩
/-- PWR_STATUS.ENTERING (20): 1 during an entry (R373). -/
def PWR_STATUS_ENTERING : Fld := ⟨.PWR_STATUS, 2, 1, .ro, .val 0⟩
/-- PWR_STATUS.PLL_CLK (20): 1: mclk is the 1.5 GHz PLL clock; 0: the wake oscillator or its alternative. -/
def PWR_STATUS_PLL_CLK : Fld := ⟨.PWR_STATUS, 3, 1, .ro, .val 0⟩
/-- PWR_STATUS.ABORT_EV (20): An entry was aborted (R374). -/
def PWR_STATUS_ABORT_EV : Fld := ⟨.PWR_STATUS, 4, 1, .w1c, .val 0⟩
/-- PWR_STATUS.WAKE_EV (20): The device woke from SLEEP (R381). -/
def PWR_STATUS_WAKE_EV : Fld := ⟨.PWR_STATUS, 5, 1, .w1c, .val 0⟩
/-- PWR_STATUS.RETRY_EV (20): The last wake retried a step (R380). -/
def PWR_STATUS_RETRY_EV : Fld := ⟨.PWR_STATUS, 6, 1, .w1c, .val 0⟩
/-- PWR_STATUS.GO_REJ (20): A GO request was dropped (R370). -/
def PWR_STATUS_GO_REJ : Fld := ⟨.PWR_STATUS, 7, 1, .w1c, .val 0⟩
/-- PWR_STATUS.WAKE_SRC (20): Source of the last wake, coded as R377; 0 none. -/
def PWR_STATUS_WAKE_SRC : Fld := ⟨.PWR_STATUS, 8, 3, .ro, .val 0⟩
/-- PWR_IDLE_T.US (20): WFI time before IDLE, in µs; 0 disables IDLE (R371). -/
def PWR_IDLE_T_US : Fld := ⟨.PWR_IDLE_T, 0, 16, .rw, .val 0xA⟩
/-- PWR_SLEEP_T.MS (20): Time the conditions of R372 must hold, in ms; reset 100 ms; 0 acts as 1. -/
def PWR_SLEEP_T_MS : Fld := ⟨.PWR_SLEEP_T, 0, 16, .rw, .val 0x64⟩
/-- PWR_DEEP_T.S (20): Time in SLEEP before DEEP, in s; 0 disables (R370). -/
def PWR_DEEP_T_S : Fld := ⟨.PWR_DEEP_T, 0, 16, .rw, .val 0⟩
/-- PWR_CNT.SLEEPS (20): Completed entries to SLEEP; saturates at 0xFFFF. -/
def PWR_CNT_SLEEPS : Fld := ⟨.PWR_CNT, 0, 16, .rc, .val 0⟩
/-- PWR_CNT.ABORTS (20): Aborted entries (R374); saturates at 0xFFFF. -/
def PWR_CNT_ABORTS : Fld := ⟨.PWR_CNT, 16, 16, .rc, .val 0⟩
/-- RIND_WAKE.WAKE_T (20): Rind wake timer in ms from entry; 0 disables (R377). Reset by Rind reset only. -/
def RIND_WAKE_WAKE_T : Fld := ⟨.RIND_WAKE, 0, 24, .rw, .val 0⟩
/-- RIND_WAKE.WAKE_EN (20): 1: the WAKE ball is a wake source. -/
def RIND_WAKE_WAKE_EN : Fld := ⟨.RIND_WAKE, 24, 1, .rw, .val 1⟩
/-- RIND_PWR.LAST_STATE (20): Last low-power state entered: 0 none; 1 SLEEP; 2 DEEP; 3 OFF by command; 4 OFF_LOST (R376); 5 OFF after a wake failure (R380); 6 and 7 not used. -/
def RIND_PWR_LAST_STATE : Fld := ⟨.RIND_PWR, 0, 3, .ro, .val 0⟩
/-- RIND_PWR.LAST_SRC (20): Source of the last wake, coded as R377. -/
def RIND_PWR_LAST_SRC : Fld := ⟨.RIND_PWR, 3, 3, .ro, .val 0⟩
/-- RIND_PWR.RET_VALID (20): 1: the retention image is valid (R375). -/
def RIND_PWR_RET_VALID : Fld := ⟨.RIND_PWR, 6, 1, .ro, .val 0⟩
/-- RIND_PWR.FAULT (20): 1: FAULT_N is held low by a wake failure. -/
def RIND_PWR_FAULT : Fld := ⟨.RIND_PWR, 7, 1, .ro, .val 0⟩
/-- RIND_PWR.RET_LANES (20): Bit n: LLn has an entry in the retention image. -/
def RIND_PWR_RET_LANES : Fld := ⟨.RIND_PWR, 8, 8, .ro, .val 0⟩
/-- RIND_PWR.VDD_GOOD (20): Supply monitor output (R376). -/
def RIND_PWR_VDD_GOOD : Fld := ⟨.RIND_PWR, 16, 1, .ro, .val 0⟩
/-- THM_CTRL.THERM_SEL (21): THERM_N low at: 0 warning level; 1 throttle level (R389). -/
def THM_CTRL_THERM_SEL : Fld := ⟨.THM_CTRL, 0, 1, .rw, .val 0⟩
/-- THM_CTRL.AUTO_RESTART (21): 1: WARM reset after cooling (R394). -/
def THM_CTRL_AUTO_RESTART : Fld := ⟨.THM_CTRL, 1, 1, .rw, .val 1⟩
/-- THM_CTRL.PROF_MIN (21): Lowest active profile, 0 to 3 (R390). -/
def THM_CTRL_PROF_MIN : Fld := ⟨.THM_CTRL, 2, 2, .rw, .val 0⟩
/-- THM_TH.WARN (21): Warning threshold in °C; reset 100 °C. -/
def THM_TH_WARN : Fld := ⟨.THM_TH, 0, 8, .rw, .val 0x64⟩
/-- THM_TH.THROT (21): Throttle threshold in °C; reset 108 °C. -/
def THM_TH_THROT : Fld := ⟨.THM_TH, 8, 8, .rw, .val 0x6C⟩
/-- THM_TH.SHUT (21): Shutdown threshold in °C, 110 to 125; values outside act as the nearer limit. -/
def THM_TH_SHUT : Fld := ⟨.THM_TH, 16, 8, .rwl, .val 0x78⟩
/-- THM_TH.HYST (21): Hysteresis in °C, 1 to 15; 0 acts as 1. -/
def THM_TH_HYST : Fld := ⟨.THM_TH, 24, 4, .rw, .val 4⟩
/-- THM_XCHK.DIFF (21): Cross-check limit in °C, 2 to 31; below 2 acts as 2 (R386). -/
def THM_XCHK_DIFF : Fld := ⟨.THM_XCHK, 0, 5, .rw, .val 0xA⟩
/-- THM_XCHK.STEP_T (21): Profile step time in ms; 0 acts as 1 (R390). -/
def THM_XCHK_STEP_T : Fld := ⟨.THM_XCHK, 8, 8, .rw, .val 5⟩
/-- THM_XCHK.STOP_T (21): Stop budget in ms; 0 acts as 1 (R392). -/
def THM_XCHK_STOP_T : Fld := ⟨.THM_XCHK, 16, 10, .rw, .val 0x14⟩
/-- THM_XCHK.HARD_OFS (21): Hard stop offset above SHUT in °C; 0 acts as 1; the hard stop never acts above 130 °C, whatever the offset (R393). -/
def THM_XCHK_HARD_OFS : Fld := ⟨.THM_XCHK, 26, 4, .rw, .val 5⟩
/-- THM_STATUS.LEVEL (21): 0 normal; 1 warning; 2 throttle; 3 SHUTDOWN. -/
def THM_STATUS_LEVEL : Fld := ⟨.THM_STATUS, 0, 2, .ro, .val 0⟩
/-- THM_STATUS.PROFILE (21): Active profile. -/
def THM_STATUS_PROFILE : Fld := ⟨.THM_STATUS, 2, 2, .ro, .val 0⟩
/-- THM_STATUS.FAST (21): 50 µs sampling (R388). -/
def THM_STATUS_FAST : Fld := ⟨.THM_STATUS, 4, 1, .ro, .val 0⟩
/-- THM_STATUS.NONE_TRUSTED (21): No sensor contributes (R387). -/
def THM_STATUS_NONE_TRUSTED : Fld := ⟨.THM_STATUS, 5, 1, .ro, .val 0⟩
/-- THM_STATUS.STOPPING (21): Stop running. -/
def THM_STATUS_STOPPING : Fld := ⟨.THM_STATUS, 6, 1, .ro, .val 0⟩
/-- THM_STATUS.HARD (21): The last stop was a hard stop. -/
def THM_STATUS_HARD : Fld := ⟨.THM_STATUS, 7, 1, .ro, .val 0⟩
/-- THM_STATUS.WARN_EV (21): Source 16. -/
def THM_STATUS_WARN_EV : Fld := ⟨.THM_STATUS, 8, 1, .w1c, .val 0⟩
/-- THM_STATUS.THROT_EV (21): Source 17. -/
def THM_STATUS_THROT_EV : Fld := ⟨.THM_STATUS, 9, 1, .w1c, .val 0⟩
/-- THM_STATUS.STOP_EV (21): Source 18. -/
def THM_STATUS_STOP_EV : Fld := ⟨.THM_STATUS, 10, 1, .w1c, .val 0⟩
/-- THM_STATUS.EXCL_EV (21): Source 19. -/
def THM_STATUS_EXCL_EV : Fld := ⟨.THM_STATUS, 11, 1, .w1c, .val 0⟩
/-- THM_STATUS.TH_REJ (21): A THM_TH write was dropped. -/
def THM_STATUS_TH_REJ : Fld := ⟨.THM_STATUS, 12, 1, .w1c, .val 0⟩
/-- THM_MAX.TEMP (21): Signed, 0.125 °C (R387). -/
def THM_MAX_TEMP : Fld := ⟨.THM_MAX, 0, 12, .ro, .val 0⟩
/-- THM_MAX.SRC (21): Sensor giving TEMP; 0xF for the median of R387. -/
def THM_MAX_SRC : Fld := ⟨.THM_MAX, 12, 4, .ro, .val 0⟩
/-- THM_EXCL.EXCL (21): Bit n: TSn excluded. -/
def THM_EXCL_EXCL : Fld := ⟨.THM_EXCL, 0, 12, .ro, .val 0⟩
/-- THM_EXCL.SUSPECT (21): Bit n: TSn suspect. -/
def THM_EXCL_SUSPECT : Fld := ⟨.THM_EXCL, 16, 12, .ro, .val 0⟩
/-- THM_TS.READING (21): TSn at 0x0020 + 4 × n; signed, 0.125 °C. -/
def THM_TS_READING : Fld := ⟨.THM_TS, 0, 12, .ro, .val 0⟩
/-- THM_TS.CAUSE (21): Exclusion cause: 0 none; 1 cross-check; 2 range; 3 stuck. -/
def THM_TS_CAUSE : Fld := ⟨.THM_TS, 12, 2, .ro, .val 0⟩
/-- THM_CNT.THROTTLES (21): Entries to the throttle level; saturates. -/
def THM_CNT_THROTTLES : Fld := ⟨.THM_CNT, 0, 16, .rc, .val 0⟩
/-- THM_CNT.STOPS (21): Stops begun, hard stops included; saturates. -/
def THM_CNT_STOPS : Fld := ⟨.THM_CNT, 16, 16, .rc, .val 0⟩

/-- The registers in order, part 0. -/
def regs0 : List Reg := [.SEED_CTRL, .SEED_SRC_LO, .SEED_SRC_HI, .SEED_STATUS, .SEED_VER_B0, .SEED_VER_B1, .SEED_BUD_B0, .SEED_BUD_B1, .SEED_PROF, .SEED_RELOAD, .SEED_RELOAD_LAST, .LL_CDR_CTRL, .LL_CDR_STATUS, .LL_CDR_FREQ, .LL_CDR_PHASE, .LL_ADC_CTRL, .LL_ADC_STATUS, .LL_ADC_CLIP, .LL_ADC_CAL, .LL_ADC_SLICE_SEL, .LL_ADC_SLICE_TRIM, .SPI_OE_CTRL, .SPI_OE_STATUS, .SPI_OE_POLL, .SPI_OE_POLL_TO, .SPI_OE_PINS, .SPI_OE_ALARM, .SPI_OE_TXBUF, .SPI_OE_RXBUF, .LL_EQ_CTRL]

/-- The registers in order, part 1. -/
def regs1 : List Reg := [.LL_EQ_SHAPE, .LL_EQ_MU, .LL_EQ_CONV, .LL_EQ_STATUS, .LL_EQ_SNR, .LL_EQ_LLR, .LL_EQ_QCTRL, .LL_EQ_BER, .LL_EQ_SNAP_INT, .LL_EQ_EXCL, .LL_EQ_COEF_SEL, .LL_EQ_COEF, .LL_EQ_HIST, .LL_TX_CTRL, .LL_TX_STATUS, .LL_TX_FIR, .LL_TX_OVL, .LL_TX_SKEW, .LL_TX_CLIP, .LL_TX_PEAK, .LL_TX_PD, .DEC_BSTATUS, .DEC_CTRL, .DEC_STATUS, .DEC_LOCK, .DEC_CW_LO, .DEC_CW_HI, .DEC_PASS, .DEC_DLREL, .DEC_FAIL]

/-- The registers in order, part 2. -/
def regs2 : List Reg := [.DEC_FLIPS, .DEC_SPEC, .DEC_SPEC_RES, .DEC_MISC, .DEC_UNLOCKED, .DEC_OCC, .DEC_FHIST, .HL_CTRL, .HL_RESET, .HL_STATUS, .HL_RX_CTLE, .HL_RX_ADAPT, .HL_RX_TAP_SEL, .HL_RX_TAP, .HL_RX_SNR, .HL_TX_COEF0, .HL_TX_COEF1, .HL_TX_CTRL, .HL_TRAIN_CFG, .HL_TRAIN_TMO, .HL_TRAIN_TH, .HL_TRAIN_CTRL, .HL_TRAIN_STATUS, .HL_TRAIN_CNT, .HL_PAT, .HL_PAT_ERR, .HL_PAT_USER, .GBX_PSTATUS, .GBX_EVENTS, .GBX_SKEW]

/-- The registers in order, part 3. -/
def regs3 : List Reg := [.GBX_LL, .GBX_LL_CNT, .GBX_LL_BLK, .PCS_CTRL, .PCS_STATUS, .PCS_RX_CW, .PCS_RX_SYM, .PCS_RX_UNC, .PCS_TX_CW, .PCS_TX_SYM, .PCS_TX_UNC, .PCS_PTP_CNT, .PCS_PTP_SKIP, .BN_LINK_CTRL, .BN_LINK_STATUS, .BN_LINK_LOS, .BN_LINK_TMR, .BN_LINK_TMR2, .BN_LINK_CNT, .BN_PORT_CTRL, .BN_PORT_STATUS, .SB_CTRL, .SB_STATUS, .SB_STAGES, .SB_SHIFT, .SB_DC, .SB_FAST, .SB_MON, .SB_PWR, .SB_NF]

/-- The registers in order, part 4. -/
def regs4 : List Reg := [.SB_LSTATUS, .SB_SAT, .SB_FIR_CTRL, .SB_FIR_SEL, .SB_FIR_COEF, .SLOE_CAPTURE, .SLOE_GASP, .SLOE_LCFG, .SLOE_DET, .SLOE_ID, .SLOE_RX, .SLOE_TX_CTRL, .SLOE_TX_STATUS, .SLOE_RX_STATUS, .SLOE_RX_HDR, .SLOE_RX_TS, .SLOE_NF, .SLOE_RX_CNT0, .SLOE_RX_CNT1, .SLOE_RX_CNT2, .SLOE_TX_CNT, .SLOE_TR_CTRL, .SLOE_TR_FREQ, .SLOE_TR_STATUS, .TIME_CTRL, .TIME_STATUS, .TIME_OFS01_LO, .TIME_OFS01_HI, .TIME_ACT_REM_LO, .TIME_ACT_REM_HI]

/-- The registers in order, part 5. -/
def regs5 : List Reg := [.TIME_DCFG, .TIME_DSTAT, .TIME_T, .TIME_SET, .TIME_CMD, .TIME_STEP_LO, .TIME_STEP_HI, .TIME_RATE, .TIME_MEAS_LO, .TIME_MEAS_HI, .TIME_MEAS_INT, .TIME_HOLD, .TIME_BOUND, .TIME_SQ, .TIME_SQ_STAT, .TIME_PCFG, .TIME_LOPT, .TIME_LASYM, .TIME_MTX, .TIME_MRX, .TIME_PPS, .TIME_PPS_TS, .TIME_TPO_CTRL, .TIME_TPO_START, .TIME_TPO_PERIOD, .TIME_TPO_CNT, .CAP_CTRL, .CAP_STATUS, .CAP_PRE, .CAP_LEN]

/-- The registers in order, part 6. -/
def regs6 : List Reg := [.CAP_DRAIN_BASE, .CAP_DRAIN_SIZE, .CAP_RESULT_START, .CAP_RESULT_UNITS, .CAP_TSTAMP, .CAP_GAPS, .CAP_EVF, .CAP_TMATCH, .CAP_STREAM, .CAP_SEQ_M, .CAP_SEQ_CTRL, .TRG_CTRL, .TRG_STATUS, .TRG_ALIGN, .TRG_SEND, .TRG_CAL, .TRG_CNT, .LL_TRG_CFG, .LL_TRG_TH, .LL_TRG_N, .LL_TRG_CNT, .MEM_CTRL, .MEM_STATUS, .MEM_GRANULES, .MEM_FILL_BASE, .MEM_FILL_COUNT, .MEM_FILL_PAT_LO, .MEM_FILL_PAT_HI, .MEM_FILL_CTRL, .MEM_FILL_STATUS]

/-- The registers in order, part 7. -/
def regs7 : List Reg := [.MEM_BMAP_SEL, .MEM_BMAP, .MEM_ACC_LOG_LO, .MEM_ACC_LOG_HI, .MEM_ACC_CNT, .MEM_REMAP_SEL, .MEM_REMAP, .ECC_CTRL, .ECC_SCRUB0, .ECC_SCRUB1, .ECC_CE_CNT0, .ECC_CE_CNT1, .ECC_CE_CNT2, .ECC_CE_LAST_LO, .ECC_CE_LAST_HI, .ECC_UE_STATUS, .ECC_UE_ADDR_LO, .ECC_UE_ADDR_HI, .ECC_UE_INFO, .ECC_MSPARE_SEL, .ECC_MSPARE, .TOP_ID, .TOP_RESET, .TOP_LOCK, .TOP_ACCESS_ADDR_LO, .TOP_ACCESS_ADDR_HI, .TOP_ACCESS_INFO, .TOP_ACCESS_CNT, .TOP_GEN, .TOP_GEN_LL]

/-- The registers in order, part 8. -/
def regs8 : List Reg := [.TOP_GEN_HL, .TOP_DISC, .BN_RESET, .LL_RESET, .IRQ_SRC_CFG, .IRQ_PEND, .IRQ_THR, .IRQ_CLAIM, .IRQ_COMPLETE, .IRQ_SW, .IRQ_SW_SET, .IRQ_PIN, .PRF_CTRL, .PRF_SNAP_CTRL, .PRF_SNAP_BASE_LO, .PRF_SNAP_BASE_HI, .PRF_SNAP_SIZE, .PRF_SNAP_WP, .PRF_SNAP_RP, .PRF_SNAP_STATUS, .PRF_CYC_LO, .PRF_CYC_HI, .PRF_EVSEL, .PRF_CNT, .PRF_OVF, .PRF_OVF_PC_LO, .PRF_OVF_PC_HI, .BRM_PCTRL, .BRM_PSTATUS, .BRM_PARTNER]

/-- The registers in order, part 9. -/
def regs9 : List Reg := [.BRM_PCNT, .BRM_LSTATUS, .BRM_LFREQ, .BRM_LCNT0, .BRM_LCNT1, .BRM_LPRBS, .BRM_CLK, .BRM_FCTRL, .BRM_FSTATUS, .BRM_ROUTE, .BRM_CTO, .BRM_FCNT, .BRM_FCNT2, .BRM_FIRQ_LO, .BRM_FIRQ_HI, .BRM_LLCNT, .PCI_CTRL, .PCI_WIN, .PCI_STATUS, .PCI_CPL_LOG, .SPI_CFG, .I3C_CFG, .I3C_PID, .SPI_I3C_STATUS, .BOOT_STATUS, .BOOT_FAIL0, .BOOT_FAIL1, .BOOT_CTRL, .BOOT_VEC_LO, .BOOT_VEC_HI]

/-- The registers in order, part 10. -/
def regs10 : List Reg := [.RIND_REC, .STN_SRC_LO, .STN_SRC_HI, .STN_CMD, .STN_STATUS, .STN_ABANDON, .STN_WEAR_SEL, .STN_WEAR, .SEC_LC, .SEC_SERIAL_LO, .SEC_SERIAL_HI, .SEC_KHASH, .SEC_SRC_LO, .SEC_SRC_HI, .SEC_CMD, .SEC_STATUS, .SEC_LC_STATUS, .SEC_CHAL, .SEC_NONCE, .SEC_ATT_DST_LO, .SEC_ATT_DST_HI, .SEC_ATT_CTRL, .SEC_MR_SEL, .SEC_MR, .SEC_MR_CNT, .PWR_CTRL, .PWR_STATUS, .PWR_IDLE_T, .PWR_SLEEP_T, .PWR_DEEP_T]

/-- The registers in order, part 11. -/
def regs11 : List Reg := [.PWR_CNT, .RIND_WAKE, .RIND_PWR, .THM_CTRL, .THM_TH, .THM_XCHK, .THM_STATUS, .THM_MAX, .THM_EXCL, .THM_TS, .THM_CNT]

/-- The registers in the order of their numbers. -/
def allRegs : List Reg := regs0 ++ regs1 ++ regs2 ++ regs3 ++ regs4 ++ regs5 ++ regs6 ++ regs7 ++ regs8 ++ regs9 ++ regs10 ++ regs11

end Sys2Proof.Machine
end

