-- ==== Sys2Proof/Machine/Layout.lean ====
section
/-! DEFINITION. Where the registers lie (R5, R288, R289 and the base each chapter gives), which reset covers each
(R10, R11), and the fields of each register. -/

namespace Sys2Proof.Machine

/-- Which reset covers a register (R10, R11). `per` is how many instances belong to one bunch, lane or unit: an
instance `n` belongs to owner `n / per`. -/
inductive Place where
  | device | rind
  | bunch (per : Nat) | line (per : Nat) | host (per : Nat) | prf (per : Nat)
deriving DecidableEq, Repr

/-- The reset domain of each register. -/
def placeOf : Reg → Place
  | .SEED_CTRL => .device
  | .SEED_SRC_LO => .device
  | .SEED_SRC_HI => .device
  | .SEED_STATUS => .device
  | .SEED_VER_B0 => .device
  | .SEED_VER_B1 => .device
  | .SEED_BUD_B0 => .device
  | .SEED_BUD_B1 => .device
  | .SEED_PROF => .device
  | .SEED_RELOAD => .device
  | .SEED_RELOAD_LAST => .device
  | .LL_CDR_CTRL => .line 1
  | .LL_CDR_STATUS => .line 1
  | .LL_CDR_FREQ => .line 1
  | .LL_CDR_PHASE => .line 1
  | .LL_ADC_CTRL => .line 1
  | .LL_ADC_STATUS => .line 1
  | .LL_ADC_CLIP => .line 1
  | .LL_ADC_CAL => .line 1
  | .LL_ADC_SLICE_SEL => .line 1
  | .LL_ADC_SLICE_TRIM => .line 1
  | .SPI_OE_CTRL => .device
  | .SPI_OE_STATUS => .device
  | .SPI_OE_POLL => .device
  | .SPI_OE_POLL_TO => .device
  | .SPI_OE_PINS => .device
  | .SPI_OE_ALARM => .device
  | .SPI_OE_TXBUF => .device
  | .SPI_OE_RXBUF => .device
  | .LL_EQ_CTRL => .line 1
  | .LL_EQ_SHAPE => .line 1
  | .LL_EQ_MU => .line 1
  | .LL_EQ_CONV => .line 1
  | .LL_EQ_STATUS => .line 1
  | .LL_EQ_SNR => .line 1
  | .LL_EQ_LLR => .line 1
  | .LL_EQ_QCTRL => .line 1
  | .LL_EQ_BER => .line 1
  | .LL_EQ_SNAP_INT => .line 1
  | .LL_EQ_EXCL => .line 1
  | .LL_EQ_COEF_SEL => .line 1
  | .LL_EQ_COEF => .line 1
  | .LL_EQ_HIST => .line 16
  | .LL_TX_CTRL => .line 1
  | .LL_TX_STATUS => .line 1
  | .LL_TX_FIR => .line 4
  | .LL_TX_OVL => .line 1
  | .LL_TX_SKEW => .line 1
  | .LL_TX_CLIP => .line 1
  | .LL_TX_PEAK => .line 1
  | .LL_TX_PD => .line 16
  | .DEC_BSTATUS => .bunch 1
  | .DEC_CTRL => .bunch 4
  | .DEC_STATUS => .bunch 4
  | .DEC_LOCK => .bunch 4
  | .DEC_CW_LO => .bunch 4
  | .DEC_CW_HI => .bunch 4
  | .DEC_PASS => .bunch 16
  | .DEC_DLREL => .bunch 4
  | .DEC_FAIL => .bunch 4
  | .DEC_FLIPS => .bunch 4
  | .DEC_SPEC => .bunch 4
  | .DEC_SPEC_RES => .bunch 4
  | .DEC_MISC => .bunch 4
  | .DEC_UNLOCKED => .bunch 4
  | .DEC_OCC => .bunch 4
  | .DEC_FHIST => .bunch 32
  | .HL_CTRL => .host 1
  | .HL_RESET => .host 1
  | .HL_STATUS => .host 1
  | .HL_RX_CTLE => .host 1
  | .HL_RX_ADAPT => .host 1
  | .HL_RX_TAP_SEL => .host 1
  | .HL_RX_TAP => .host 1
  | .HL_RX_SNR => .host 1
  | .HL_TX_COEF0 => .host 1
  | .HL_TX_COEF1 => .host 1
  | .HL_TX_CTRL => .host 1
  | .HL_TRAIN_CFG => .host 1
  | .HL_TRAIN_TMO => .host 1
  | .HL_TRAIN_TH => .host 1
  | .HL_TRAIN_CTRL => .host 1
  | .HL_TRAIN_STATUS => .host 1
  | .HL_TRAIN_CNT => .host 1
  | .HL_PAT => .host 1
  | .HL_PAT_ERR => .host 1
  | .HL_PAT_USER => .host 4
  | .GBX_PSTATUS => .bunch 4
  | .GBX_EVENTS => .bunch 4
  | .GBX_SKEW => .bunch 4
  | .GBX_LL => .bunch 4
  | .GBX_LL_CNT => .bunch 4
  | .GBX_LL_BLK => .bunch 4
  | .PCS_CTRL => .bunch 4
  | .PCS_STATUS => .bunch 4
  | .PCS_RX_CW => .bunch 4
  | .PCS_RX_SYM => .bunch 4
  | .PCS_RX_UNC => .bunch 4
  | .PCS_TX_CW => .bunch 4
  | .PCS_TX_SYM => .bunch 4
  | .PCS_TX_UNC => .bunch 4
  | .PCS_PTP_CNT => .bunch 4
  | .PCS_PTP_SKIP => .bunch 4
  | .BN_LINK_CTRL => .bunch 4
  | .BN_LINK_STATUS => .bunch 4
  | .BN_LINK_LOS => .bunch 4
  | .BN_LINK_TMR => .bunch 4
  | .BN_LINK_TMR2 => .bunch 4
  | .BN_LINK_CNT => .bunch 4
  | .BN_PORT_CTRL => .bunch 4
  | .BN_PORT_STATUS => .bunch 4
  | .SB_CTRL => .device
  | .SB_STATUS => .device
  | .SB_STAGES => .device
  | .SB_SHIFT => .device
  | .SB_DC => .device
  | .SB_FAST => .device
  | .SB_MON => .device
  | .SB_PWR => .device
  | .SB_NF => .device
  | .SB_LSTATUS => .device
  | .SB_SAT => .device
  | .SB_FIR_CTRL => .device
  | .SB_FIR_SEL => .device
  | .SB_FIR_COEF => .device
  | .SLOE_CAPTURE => .device
  | .SLOE_GASP => .device
  | .SLOE_LCFG => .device
  | .SLOE_DET => .device
  | .SLOE_ID => .device
  | .SLOE_RX => .device
  | .SLOE_TX_CTRL => .device
  | .SLOE_TX_STATUS => .device
  | .SLOE_RX_STATUS => .device
  | .SLOE_RX_HDR => .device
  | .SLOE_RX_TS => .device
  | .SLOE_NF => .device
  | .SLOE_RX_CNT0 => .device
  | .SLOE_RX_CNT1 => .device
  | .SLOE_RX_CNT2 => .device
  | .SLOE_TX_CNT => .device
  | .SLOE_TR_CTRL => .device
  | .SLOE_TR_FREQ => .device
  | .SLOE_TR_STATUS => .device
  | .TIME_CTRL => .device
  | .TIME_STATUS => .device
  | .TIME_OFS01_LO => .device
  | .TIME_OFS01_HI => .device
  | .TIME_ACT_REM_LO => .device
  | .TIME_ACT_REM_HI => .device
  | .TIME_DCFG => .device
  | .TIME_DSTAT => .device
  | .TIME_T => .device
  | .TIME_SET => .device
  | .TIME_CMD => .device
  | .TIME_STEP_LO => .device
  | .TIME_STEP_HI => .device
  | .TIME_RATE => .device
  | .TIME_MEAS_LO => .device
  | .TIME_MEAS_HI => .device
  | .TIME_MEAS_INT => .device
  | .TIME_HOLD => .device
  | .TIME_BOUND => .device
  | .TIME_SQ => .device
  | .TIME_SQ_STAT => .device
  | .TIME_PCFG => .device
  | .TIME_LOPT => .device
  | .TIME_LASYM => .device
  | .TIME_MTX => .device
  | .TIME_MRX => .device
  | .TIME_PPS => .device
  | .TIME_PPS_TS => .device
  | .TIME_TPO_CTRL => .device
  | .TIME_TPO_START => .device
  | .TIME_TPO_PERIOD => .device
  | .TIME_TPO_CNT => .device
  | .CAP_CTRL => .device
  | .CAP_STATUS => .device
  | .CAP_PRE => .device
  | .CAP_LEN => .device
  | .CAP_DRAIN_BASE => .device
  | .CAP_DRAIN_SIZE => .device
  | .CAP_RESULT_START => .device
  | .CAP_RESULT_UNITS => .device
  | .CAP_TSTAMP => .device
  | .CAP_GAPS => .device
  | .CAP_EVF => .device
  | .CAP_TMATCH => .device
  | .CAP_STREAM => .device
  | .CAP_SEQ_M => .device
  | .CAP_SEQ_CTRL => .device
  | .TRG_CTRL => .device
  | .TRG_STATUS => .device
  | .TRG_ALIGN => .device
  | .TRG_SEND => .device
  | .TRG_CAL => .device
  | .TRG_CNT => .device
  | .LL_TRG_CFG => .line 4
  | .LL_TRG_TH => .line 4
  | .LL_TRG_N => .line 4
  | .LL_TRG_CNT => .line 4
  | .MEM_CTRL => .device
  | .MEM_STATUS => .device
  | .MEM_GRANULES => .device
  | .MEM_FILL_BASE => .device
  | .MEM_FILL_COUNT => .device
  | .MEM_FILL_PAT_LO => .device
  | .MEM_FILL_PAT_HI => .device
  | .MEM_FILL_CTRL => .device
  | .MEM_FILL_STATUS => .device
  | .MEM_BMAP_SEL => .device
  | .MEM_BMAP => .device
  | .MEM_ACC_LOG_LO => .device
  | .MEM_ACC_LOG_HI => .device
  | .MEM_ACC_CNT => .device
  | .MEM_REMAP_SEL => .device
  | .MEM_REMAP => .device
  | .ECC_CTRL => .device
  | .ECC_SCRUB0 => .device
  | .ECC_SCRUB1 => .device
  | .ECC_CE_CNT0 => .device
  | .ECC_CE_CNT1 => .device
  | .ECC_CE_CNT2 => .device
  | .ECC_CE_LAST_LO => .device
  | .ECC_CE_LAST_HI => .device
  | .ECC_UE_STATUS => .device
  | .ECC_UE_ADDR_LO => .device
  | .ECC_UE_ADDR_HI => .device
  | .ECC_UE_INFO => .device
  | .ECC_MSPARE_SEL => .device
  | .ECC_MSPARE => .device
  | .TOP_ID => .device
  | .TOP_RESET => .device
  | .TOP_LOCK => .device
  | .TOP_ACCESS_ADDR_LO => .device
  | .TOP_ACCESS_ADDR_HI => .device
  | .TOP_ACCESS_INFO => .device
  | .TOP_ACCESS_CNT => .device
  | .TOP_GEN => .device
  | .TOP_GEN_LL => .device
  | .TOP_GEN_HL => .device
  | .TOP_DISC => .device
  | .BN_RESET => .bunch 1
  | .LL_RESET => .line 1
  | .IRQ_SRC_CFG => .device
  | .IRQ_PEND => .device
  | .IRQ_THR => .device
  | .IRQ_CLAIM => .device
  | .IRQ_COMPLETE => .device
  | .IRQ_SW => .device
  | .IRQ_SW_SET => .device
  | .IRQ_PIN => .device
  | .PRF_CTRL => .device
  | .PRF_SNAP_CTRL => .device
  | .PRF_SNAP_BASE_LO => .device
  | .PRF_SNAP_BASE_HI => .device
  | .PRF_SNAP_SIZE => .device
  | .PRF_SNAP_WP => .device
  | .PRF_SNAP_RP => .device
  | .PRF_SNAP_STATUS => .device
  | .PRF_CYC_LO => .prf 1
  | .PRF_CYC_HI => .prf 1
  | .PRF_EVSEL => .prf 8
  | .PRF_CNT => .prf 16
  | .PRF_OVF => .prf 1
  | .PRF_OVF_PC_LO => .prf 1
  | .PRF_OVF_PC_HI => .prf 1
  | .BRM_PCTRL => .device
  | .BRM_PSTATUS => .device
  | .BRM_PARTNER => .device
  | .BRM_PCNT => .device
  | .BRM_LSTATUS => .device
  | .BRM_LFREQ => .device
  | .BRM_LCNT0 => .device
  | .BRM_LCNT1 => .device
  | .BRM_LPRBS => .device
  | .BRM_CLK => .device
  | .BRM_FCTRL => .device
  | .BRM_FSTATUS => .device
  | .BRM_ROUTE => .device
  | .BRM_CTO => .device
  | .BRM_FCNT => .device
  | .BRM_FCNT2 => .device
  | .BRM_FIRQ_LO => .device
  | .BRM_FIRQ_HI => .device
  | .BRM_LLCNT => .device
  | .PCI_CTRL => .device
  | .PCI_WIN => .device
  | .PCI_STATUS => .device
  | .PCI_CPL_LOG => .device
  | .SPI_CFG => .device
  | .I3C_CFG => .device
  | .I3C_PID => .device
  | .SPI_I3C_STATUS => .device
  | .BOOT_STATUS => .rind
  | .BOOT_FAIL0 => .rind
  | .BOOT_FAIL1 => .rind
  | .BOOT_CTRL => .rind
  | .BOOT_VEC_LO => .rind
  | .BOOT_VEC_HI => .rind
  | .RIND_REC => .rind
  | .STN_SRC_LO => .device
  | .STN_SRC_HI => .device
  | .STN_CMD => .device
  | .STN_STATUS => .device
  | .STN_ABANDON => .device
  | .STN_WEAR_SEL => .device
  | .STN_WEAR => .device
  | .SEC_LC => .device
  | .SEC_SERIAL_LO => .device
  | .SEC_SERIAL_HI => .device
  | .SEC_KHASH => .device
  | .SEC_SRC_LO => .device
  | .SEC_SRC_HI => .device
  | .SEC_CMD => .device
  | .SEC_STATUS => .device
  | .SEC_LC_STATUS => .device
  | .SEC_CHAL => .device
  | .SEC_NONCE => .device
  | .SEC_ATT_DST_LO => .device
  | .SEC_ATT_DST_HI => .device
  | .SEC_ATT_CTRL => .device
  | .SEC_MR_SEL => .device
  | .SEC_MR => .device
  | .SEC_MR_CNT => .device
  | .PWR_CTRL => .device
  | .PWR_STATUS => .device
  | .PWR_IDLE_T => .device
  | .PWR_SLEEP_T => .device
  | .PWR_DEEP_T => .device
  | .PWR_CNT => .device
  | .RIND_WAKE => .rind
  | .RIND_PWR => .rind
  | .THM_CTRL => .device
  | .THM_TH => .device
  | .THM_XCHK => .device
  | .THM_STATUS => .device
  | .THM_MAX => .device
  | .THM_EXCL => .device
  | .THM_TS => .device
  | .THM_CNT => .device

/-- One row of the register layout: the local address of the first instance, and up to three dimensions
(count, stride in bytes), the outermost first. Instances are numbered by mixed radix over the dimensions. -/
structure LayoutRow where
  reg  : Reg
  base : Nat
  dims : List (Nat × Nat)
  inst : Nat
deriving DecidableEq, Repr

/-- Register layout, part 0. -/
def layout0 : List LayoutRow := [
  ⟨.SEED_CTRL, 0xE0000, [], 0⟩,
  ⟨.SEED_SRC_LO, 0xE0004, [], 0⟩,
  ⟨.SEED_SRC_HI, 0xE0008, [], 0⟩,
  ⟨.SEED_STATUS, 0xE0010, [], 0⟩,
  ⟨.SEED_VER_B0, 0xE0018, [], 0⟩,
  ⟨.SEED_VER_B1, 0xE001C, [], 0⟩,
  ⟨.SEED_BUD_B0, 0xE0020, [], 0⟩,
  ⟨.SEED_BUD_B1, 0xE0024, [], 0⟩,
  ⟨.SEED_PROF, 0xE0028, [], 0⟩,
  ⟨.SEED_RELOAD, 0xE0030, [], 0⟩,
  ⟨.SEED_RELOAD_LAST, 0xE0034, [], 0⟩,
  ⟨.LL_CDR_CTRL, 0x1400000, [(2, 0x1000000), (4, 0x40000)], 0⟩,
  ⟨.LL_CDR_STATUS, 0x1400004, [(2, 0x1000000), (4, 0x40000)], 0⟩,
  ⟨.LL_CDR_FREQ, 0x1400008, [(2, 0x1000000), (4, 0x40000)], 0⟩,
  ⟨.LL_CDR_PHASE, 0x140000C, [(2, 0x1000000), (4, 0x40000)], 0⟩,
  ⟨.LL_ADC_CTRL, 0x1401000, [(2, 0x1000000), (4, 0x40000)], 0⟩,
  ⟨.LL_ADC_STATUS, 0x1401004, [(2, 0x1000000), (4, 0x40000)], 0⟩,
  ⟨.LL_ADC_CLIP, 0x1401008, [(2, 0x1000000), (4, 0x40000)], 0⟩,
  ⟨.LL_ADC_CAL, 0x140100C, [(2, 0x1000000), (4, 0x40000)], 0⟩,
  ⟨.LL_ADC_SLICE_SEL, 0x1401010, [(2, 0x1000000), (4, 0x40000)], 0⟩,
  ⟨.LL_ADC_SLICE_TRIM, 0x1401014, [(2, 0x1000000), (4, 0x40000)], 0⟩,
  ⟨.SPI_OE_CTRL, 0x88000, [], 0⟩,
  ⟨.SPI_OE_STATUS, 0x88004, [], 0⟩,
  ⟨.SPI_OE_POLL, 0x88008, [], 0⟩,
  ⟨.SPI_OE_POLL_TO, 0x8800C, [], 0⟩,
  ⟨.SPI_OE_PINS, 0x88010, [], 0⟩,
  ⟨.SPI_OE_ALARM, 0x88014, [], 0⟩,
  ⟨.SPI_OE_TXBUF, 0x88040, [(16, 0x4)], 0⟩,
  ⟨.SPI_OE_RXBUF, 0x88080, [(16, 0x4)], 0⟩,
  ⟨.LL_EQ_CTRL, 0x1402000, [(2, 0x1000000), (4, 0x40000)], 0⟩,
  ⟨.LL_EQ_SHAPE, 0x1402004, [(2, 0x1000000), (4, 0x40000)], 0⟩,
  ⟨.LL_EQ_MU, 0x1402008, [(2, 0x1000000), (4, 0x40000)], 0⟩,
  ⟨.LL_EQ_CONV, 0x140200C, [(2, 0x1000000), (4, 0x40000)], 0⟩,
  ⟨.LL_EQ_STATUS, 0x1402010, [(2, 0x1000000), (4, 0x40000)], 0⟩,
  ⟨.LL_EQ_SNR, 0x1402014, [(2, 0x1000000), (4, 0x40000)], 0⟩,
  ⟨.LL_EQ_LLR, 0x1402018, [(2, 0x1000000), (4, 0x40000)], 0⟩,
  ⟨.LL_EQ_QCTRL, 0x140201C, [(2, 0x1000000), (4, 0x40000)], 0⟩,
  ⟨.LL_EQ_BER, 0x1402020, [(2, 0x1000000), (4, 0x40000)], 0⟩,
  ⟨.LL_EQ_SNAP_INT, 0x1402024, [(2, 0x1000000), (4, 0x40000)], 0⟩,
  ⟨.LL_EQ_EXCL, 0x1402028, [(2, 0x1000000), (4, 0x40000)], 0⟩]

/-- Register layout, part 1. -/
def layout1 : List LayoutRow := [
  ⟨.LL_EQ_COEF_SEL, 0x1402030, [(2, 0x1000000), (4, 0x40000)], 0⟩,
  ⟨.LL_EQ_COEF, 0x1402034, [(2, 0x1000000), (4, 0x40000)], 0⟩,
  ⟨.LL_EQ_HIST, 0x1402040, [(2, 0x1000000), (4, 0x40000), (16, 0x4)], 0⟩,
  ⟨.LL_TX_CTRL, 0x1403000, [(2, 0x1000000), (4, 0x40000)], 0⟩,
  ⟨.LL_TX_STATUS, 0x1403004, [(2, 0x1000000), (4, 0x40000)], 0⟩,
  ⟨.LL_TX_FIR, 0x1403008, [(2, 0x1000000), (4, 0x40000), (4, 0x4)], 0⟩,
  ⟨.LL_TX_OVL, 0x1403018, [(2, 0x1000000), (4, 0x40000)], 0⟩,
  ⟨.LL_TX_SKEW, 0x140301C, [(2, 0x1000000), (4, 0x40000)], 0⟩,
  ⟨.LL_TX_CLIP, 0x1403020, [(2, 0x1000000), (4, 0x40000)], 0⟩,
  ⟨.LL_TX_PEAK, 0x1403024, [(2, 0x1000000), (4, 0x40000)], 0⟩,
  ⟨.LL_TX_PD, 0x1403040, [(2, 0x1000000), (4, 0x40000), (16, 0x4)], 0⟩,
  ⟨.DEC_BSTATUS, 0x1000000, [(2, 0x1000000)], 0⟩,
  ⟨.DEC_CTRL, 0x1001000, [(2, 0x1000000), (4, 0x400)], 0⟩,
  ⟨.DEC_STATUS, 0x1001004, [(2, 0x1000000), (4, 0x400)], 0⟩,
  ⟨.DEC_LOCK, 0x1001008, [(2, 0x1000000), (4, 0x400)], 0⟩,
  ⟨.DEC_CW_LO, 0x1001010, [(2, 0x1000000), (4, 0x400)], 0⟩,
  ⟨.DEC_CW_HI, 0x1001014, [(2, 0x1000000), (4, 0x400)], 0⟩,
  ⟨.DEC_PASS, 0x1001018, [(2, 0x1000000), (4, 0x400), (4, 0x4)], 0⟩,
  ⟨.DEC_DLREL, 0x1001028, [(2, 0x1000000), (4, 0x400)], 0⟩,
  ⟨.DEC_FAIL, 0x100102C, [(2, 0x1000000), (4, 0x400)], 0⟩,
  ⟨.DEC_FLIPS, 0x1001030, [(2, 0x1000000), (4, 0x400)], 0⟩,
  ⟨.DEC_SPEC, 0x1001034, [(2, 0x1000000), (4, 0x400)], 0⟩,
  ⟨.DEC_SPEC_RES, 0x1001038, [(2, 0x1000000), (4, 0x400)], 0⟩,
  ⟨.DEC_MISC, 0x100103C, [(2, 0x1000000), (4, 0x400)], 0⟩,
  ⟨.DEC_UNLOCKED, 0x1001040, [(2, 0x1000000), (4, 0x400)], 0⟩,
  ⟨.DEC_OCC, 0x1001044, [(2, 0x1000000), (4, 0x400)], 0⟩,
  ⟨.DEC_FHIST, 0x1001060, [(2, 0x1000000), (4, 0x400), (8, 0x4)], 0⟩,
  ⟨.HL_CTRL, 0x1800000, [(2, 0x1000000), (8, 0x20000)], 0⟩,
  ⟨.HL_RESET, 0x1800004, [(2, 0x1000000), (8, 0x20000)], 0⟩,
  ⟨.HL_STATUS, 0x1800008, [(2, 0x1000000), (8, 0x20000)], 0⟩,
  ⟨.HL_RX_CTLE, 0x1800100, [(2, 0x1000000), (8, 0x20000)], 0⟩,
  ⟨.HL_RX_ADAPT, 0x1800104, [(2, 0x1000000), (8, 0x20000)], 0⟩,
  ⟨.HL_RX_TAP_SEL, 0x1800108, [(2, 0x1000000), (8, 0x20000)], 0⟩,
  ⟨.HL_RX_TAP, 0x180010C, [(2, 0x1000000), (8, 0x20000)], 0⟩,
  ⟨.HL_RX_SNR, 0x1800110, [(2, 0x1000000), (8, 0x20000)], 0⟩,
  ⟨.HL_TX_COEF0, 0x1800200, [(2, 0x1000000), (8, 0x20000)], 0⟩,
  ⟨.HL_TX_COEF1, 0x1800204, [(2, 0x1000000), (8, 0x20000)], 0⟩,
  ⟨.HL_TX_CTRL, 0x1800208, [(2, 0x1000000), (8, 0x20000)], 0⟩,
  ⟨.HL_TRAIN_CFG, 0x1800300, [(2, 0x1000000), (8, 0x20000)], 0⟩,
  ⟨.HL_TRAIN_TMO, 0x1800304, [(2, 0x1000000), (8, 0x20000)], 0⟩]

/-- Register layout, part 2. -/
def layout2 : List LayoutRow := [
  ⟨.HL_TRAIN_TH, 0x1800308, [(2, 0x1000000), (8, 0x20000)], 0⟩,
  ⟨.HL_TRAIN_CTRL, 0x180030C, [(2, 0x1000000), (8, 0x20000)], 0⟩,
  ⟨.HL_TRAIN_STATUS, 0x1800310, [(2, 0x1000000), (8, 0x20000)], 0⟩,
  ⟨.HL_TRAIN_CNT, 0x1800314, [(2, 0x1000000), (8, 0x20000)], 0⟩,
  ⟨.HL_PAT, 0x1800400, [(2, 0x1000000), (8, 0x20000)], 0⟩,
  ⟨.HL_PAT_ERR, 0x1800404, [(2, 0x1000000), (8, 0x20000)], 0⟩,
  ⟨.HL_PAT_USER, 0x1800410, [(2, 0x1000000), (8, 0x20000), (4, 0x4)], 0⟩,
  ⟨.GBX_PSTATUS, 0x1010000, [(2, 0x1000000), (4, 0x100)], 0⟩,
  ⟨.GBX_EVENTS, 0x1010004, [(2, 0x1000000), (4, 0x100)], 0⟩,
  ⟨.GBX_SKEW, 0x1010008, [(2, 0x1000000), (4, 0x100)], 0⟩,
  ⟨.GBX_LL, 0x1010010, [(2, 0x1000000), (4, 0x100)], 0⟩,
  ⟨.GBX_LL_CNT, 0x1010014, [(2, 0x1000000), (4, 0x100)], 0⟩,
  ⟨.GBX_LL_BLK, 0x1010018, [(2, 0x1000000), (4, 0x100)], 0⟩,
  ⟨.PCS_CTRL, 0x1020000, [(2, 0x1000000), (4, 0x100)], 0⟩,
  ⟨.PCS_STATUS, 0x1020004, [(2, 0x1000000), (4, 0x100)], 0⟩,
  ⟨.PCS_RX_CW, 0x1020010, [(2, 0x1000000), (4, 0x100)], 0⟩,
  ⟨.PCS_RX_SYM, 0x1020014, [(2, 0x1000000), (4, 0x100)], 0⟩,
  ⟨.PCS_RX_UNC, 0x1020018, [(2, 0x1000000), (4, 0x100)], 0⟩,
  ⟨.PCS_TX_CW, 0x1020020, [(2, 0x1000000), (4, 0x100)], 0⟩,
  ⟨.PCS_TX_SYM, 0x1020024, [(2, 0x1000000), (4, 0x100)], 0⟩,
  ⟨.PCS_TX_UNC, 0x1020028, [(2, 0x1000000), (4, 0x100)], 0⟩,
  ⟨.PCS_PTP_CNT, 0x1020030, [(2, 0x1000000), (4, 0x100)], 0⟩,
  ⟨.PCS_PTP_SKIP, 0x1020034, [(2, 0x1000000), (4, 0x100)], 0⟩,
  ⟨.BN_LINK_CTRL, 0x1030000, [(2, 0x1000000), (4, 0x40)], 0⟩,
  ⟨.BN_LINK_STATUS, 0x1030004, [(2, 0x1000000), (4, 0x40)], 0⟩,
  ⟨.BN_LINK_LOS, 0x1030008, [(2, 0x1000000), (4, 0x40)], 0⟩,
  ⟨.BN_LINK_TMR, 0x103000C, [(2, 0x1000000), (4, 0x40)], 0⟩,
  ⟨.BN_LINK_TMR2, 0x1030010, [(2, 0x1000000), (4, 0x40)], 0⟩,
  ⟨.BN_LINK_CNT, 0x1030014, [(2, 0x1000000), (4, 0x40)], 0⟩,
  ⟨.BN_PORT_CTRL, 0x1030100, [(2, 0x1000000), (4, 0x40)], 0⟩,
  ⟨.BN_PORT_STATUS, 0x1030104, [(2, 0x1000000), (4, 0x40)], 0⟩,
  ⟨.SB_CTRL, 0xF0000, [], 0⟩,
  ⟨.SB_STATUS, 0xF0004, [], 0⟩,
  ⟨.SB_STAGES, 0xF0100, [(8, 0x40)], 0⟩,
  ⟨.SB_SHIFT, 0xF0104, [(8, 0x40)], 0⟩,
  ⟨.SB_DC, 0xF010C, [(8, 0x40)], 0⟩,
  ⟨.SB_FAST, 0xF0110, [(8, 0x40)], 0⟩,
  ⟨.SB_MON, 0xF0114, [(8, 0x40)], 0⟩,
  ⟨.SB_PWR, 0xF0118, [(8, 0x40)], 0⟩,
  ⟨.SB_NF, 0xF011C, [(8, 0x40)], 0⟩]

/-- Register layout, part 3. -/
def layout3 : List LayoutRow := [
  ⟨.SB_LSTATUS, 0xF0120, [(8, 0x40)], 0⟩,
  ⟨.SB_SAT, 0xF0124, [(8, 0x40)], 0⟩,
  ⟨.SB_FIR_CTRL, 0xF0128, [(8, 0x40)], 0⟩,
  ⟨.SB_FIR_SEL, 0xF012C, [(8, 0x40)], 0⟩,
  ⟨.SB_FIR_COEF, 0xF0130, [(8, 0x40)], 0⟩,
  ⟨.SLOE_CAPTURE, 0xF1000, [], 0⟩,
  ⟨.SLOE_GASP, 0xF1004, [], 0⟩,
  ⟨.SLOE_LCFG, 0xF1100, [(8, 0x80)], 0⟩,
  ⟨.SLOE_DET, 0xF1104, [(8, 0x80)], 0⟩,
  ⟨.SLOE_ID, 0xF1108, [(8, 0x80)], 0⟩,
  ⟨.SLOE_RX, 0xF110C, [(8, 0x80)], 0⟩,
  ⟨.SLOE_TX_CTRL, 0xF1110, [(8, 0x80)], 0⟩,
  ⟨.SLOE_TX_STATUS, 0xF1114, [(8, 0x80)], 0⟩,
  ⟨.SLOE_RX_STATUS, 0xF1118, [(8, 0x80)], 0⟩,
  ⟨.SLOE_RX_HDR, 0xF111C, [(8, 0x80)], 0⟩,
  ⟨.SLOE_RX_TS, 0xF1120, [(8, 0x80), (3, 0x4)], 0⟩,
  ⟨.SLOE_NF, 0xF112C, [(8, 0x80)], 0⟩,
  ⟨.SLOE_RX_CNT0, 0xF1130, [(8, 0x80)], 0⟩,
  ⟨.SLOE_RX_CNT1, 0xF1134, [(8, 0x80)], 0⟩,
  ⟨.SLOE_RX_CNT2, 0xF1138, [(8, 0x80)], 0⟩,
  ⟨.SLOE_TX_CNT, 0xF113C, [(8, 0x80)], 0⟩,
  ⟨.SLOE_TR_CTRL, 0xF1600, [(2, 0x20)], 0⟩,
  ⟨.SLOE_TR_FREQ, 0xF1604, [(2, 0x20)], 0⟩,
  ⟨.SLOE_TR_STATUS, 0xF1608, [(2, 0x20)], 0⟩,
  ⟨.TIME_CTRL, 0x40000, [], 0⟩,
  ⟨.TIME_STATUS, 0x40004, [], 0⟩,
  ⟨.TIME_OFS01_LO, 0x40008, [], 0⟩,
  ⟨.TIME_OFS01_HI, 0x4000C, [], 0⟩,
  ⟨.TIME_ACT_REM_LO, 0x40010, [], 0⟩,
  ⟨.TIME_ACT_REM_HI, 0x40014, [], 0⟩,
  ⟨.TIME_DCFG, 0x40100, [(2, 0x80)], 0⟩,
  ⟨.TIME_DSTAT, 0x40104, [(2, 0x80)], 0⟩,
  ⟨.TIME_T, 0x40108, [(2, 0x80), (3, 0x4)], 0⟩,
  ⟨.TIME_SET, 0x40114, [(2, 0x80), (3, 0x4)], 0⟩,
  ⟨.TIME_CMD, 0x40120, [(2, 0x80)], 0⟩,
  ⟨.TIME_STEP_LO, 0x40124, [(2, 0x80)], 0⟩,
  ⟨.TIME_STEP_HI, 0x40128, [(2, 0x80)], 0⟩,
  ⟨.TIME_RATE, 0x4012C, [(2, 0x80)], 0⟩,
  ⟨.TIME_MEAS_LO, 0x40130, [(2, 0x80)], 0⟩,
  ⟨.TIME_MEAS_HI, 0x40134, [(2, 0x80)], 0⟩]

/-- Register layout, part 4. -/
def layout4 : List LayoutRow := [
  ⟨.TIME_MEAS_INT, 0x40138, [(2, 0x80)], 0⟩,
  ⟨.TIME_HOLD, 0x4013C, [(2, 0x80)], 0⟩,
  ⟨.TIME_BOUND, 0x40140, [(2, 0x80)], 0⟩,
  ⟨.TIME_SQ, 0x40300, [(4, 0x4)], 0⟩,
  ⟨.TIME_SQ_STAT, 0x40310, [], 0⟩,
  ⟨.TIME_PCFG, 0x40400, [(8, 0x10)], 0⟩,
  ⟨.TIME_LOPT, 0x40500, [(8, 0x20)], 0⟩,
  ⟨.TIME_LASYM, 0x40504, [(8, 0x20)], 0⟩,
  ⟨.TIME_MTX, 0x40508, [(8, 0x20), (3, 0x4)], 0⟩,
  ⟨.TIME_MRX, 0x40514, [(8, 0x20), (3, 0x4)], 0⟩,
  ⟨.TIME_PPS, 0x40600, [], 0⟩,
  ⟨.TIME_PPS_TS, 0x40604, [(3, 0x4)], 0⟩,
  ⟨.TIME_TPO_CTRL, 0x40700, [(4, 0x20)], 0⟩,
  ⟨.TIME_TPO_START, 0x40704, [(4, 0x20), (3, 0x4)], 0⟩,
  ⟨.TIME_TPO_PERIOD, 0x40710, [(4, 0x20)], 0⟩,
  ⟨.TIME_TPO_CNT, 0x40714, [(4, 0x20)], 0⟩,
  ⟨.CAP_CTRL, 0x50000, [], 0⟩,
  ⟨.CAP_STATUS, 0x50004, [], 0⟩,
  ⟨.CAP_PRE, 0x50008, [], 0⟩,
  ⟨.CAP_LEN, 0x5000C, [], 0⟩,
  ⟨.CAP_DRAIN_BASE, 0x50010, [], 0⟩,
  ⟨.CAP_DRAIN_SIZE, 0x50014, [], 0⟩,
  ⟨.CAP_RESULT_START, 0x50018, [], 0⟩,
  ⟨.CAP_RESULT_UNITS, 0x5001C, [], 0⟩,
  ⟨.CAP_TSTAMP, 0x50020, [(3, 0x4)], 0⟩,
  ⟨.CAP_GAPS, 0x5002C, [], 0⟩,
  ⟨.CAP_EVF, 0x50030, [], 0⟩,
  ⟨.CAP_TMATCH, 0x50034, [(3, 0x4)], 0⟩,
  ⟨.CAP_STREAM, 0x50040, [(16, 0x4)], 0⟩,
  ⟨.CAP_SEQ_M, 0x50100, [(4, 0x10), (3, 0x4)], 0⟩,
  ⟨.CAP_SEQ_CTRL, 0x5010C, [(4, 0x10)], 0⟩,
  ⟨.TRG_CTRL, 0x60000, [], 0⟩,
  ⟨.TRG_STATUS, 0x60004, [], 0⟩,
  ⟨.TRG_ALIGN, 0x60008, [], 0⟩,
  ⟨.TRG_SEND, 0x6000C, [], 0⟩,
  ⟨.TRG_CAL, 0x60010, [], 0⟩,
  ⟨.TRG_CNT, 0x60014, [], 0⟩,
  ⟨.LL_TRG_CFG, 0x1404000, [(2, 0x1000000), (4, 0x40000), (4, 0x20)], 0⟩,
  ⟨.LL_TRG_TH, 0x1404004, [(2, 0x1000000), (4, 0x40000), (4, 0x20)], 0⟩,
  ⟨.LL_TRG_N, 0x1404008, [(2, 0x1000000), (4, 0x40000), (4, 0x20)], 0⟩]

/-- Register layout, part 5. -/
def layout5 : List LayoutRow := [
  ⟨.LL_TRG_CNT, 0x140400C, [(2, 0x1000000), (4, 0x40000), (4, 0x20)], 0⟩,
  ⟨.MEM_CTRL, 0x90000, [], 0⟩,
  ⟨.MEM_STATUS, 0x90004, [], 0⟩,
  ⟨.MEM_GRANULES, 0x90008, [], 0⟩,
  ⟨.MEM_FILL_BASE, 0x90010, [], 0⟩,
  ⟨.MEM_FILL_COUNT, 0x90014, [], 0⟩,
  ⟨.MEM_FILL_PAT_LO, 0x90018, [], 0⟩,
  ⟨.MEM_FILL_PAT_HI, 0x9001C, [], 0⟩,
  ⟨.MEM_FILL_CTRL, 0x90020, [], 0⟩,
  ⟨.MEM_FILL_STATUS, 0x90024, [], 0⟩,
  ⟨.MEM_BMAP_SEL, 0x90030, [], 0⟩,
  ⟨.MEM_BMAP, 0x90034, [], 0⟩,
  ⟨.MEM_ACC_LOG_LO, 0x90040, [], 0⟩,
  ⟨.MEM_ACC_LOG_HI, 0x90044, [], 0⟩,
  ⟨.MEM_ACC_CNT, 0x90048, [], 0⟩,
  ⟨.MEM_REMAP_SEL, 0x90050, [], 0⟩,
  ⟨.MEM_REMAP, 0x90054, [], 0⟩,
  ⟨.ECC_CTRL, 0xA0000, [], 0⟩,
  ⟨.ECC_SCRUB0, 0xA0004, [], 0⟩,
  ⟨.ECC_SCRUB1, 0xA0008, [], 0⟩,
  ⟨.ECC_CE_CNT0, 0xA0010, [], 0⟩,
  ⟨.ECC_CE_CNT1, 0xA0014, [], 0⟩,
  ⟨.ECC_CE_CNT2, 0xA0018, [], 0⟩,
  ⟨.ECC_CE_LAST_LO, 0xA001C, [], 0⟩,
  ⟨.ECC_CE_LAST_HI, 0xA0020, [], 0⟩,
  ⟨.ECC_UE_STATUS, 0xA0024, [], 0⟩,
  ⟨.ECC_UE_ADDR_LO, 0xA0028, [], 0⟩,
  ⟨.ECC_UE_ADDR_HI, 0xA002C, [], 0⟩,
  ⟨.ECC_UE_INFO, 0xA0030, [], 0⟩,
  ⟨.ECC_MSPARE_SEL, 0xA0040, [], 0⟩,
  ⟨.ECC_MSPARE, 0xA0044, [], 0⟩,
  ⟨.TOP_ID, 0x0, [], 0⟩,
  ⟨.TOP_RESET, 0x4, [], 0⟩,
  ⟨.TOP_LOCK, 0x8, [], 0⟩,
  ⟨.TOP_ACCESS_ADDR_LO, 0x10, [], 0⟩,
  ⟨.TOP_ACCESS_ADDR_HI, 0x14, [], 0⟩,
  ⟨.TOP_ACCESS_INFO, 0x18, [], 0⟩,
  ⟨.TOP_ACCESS_CNT, 0x1C, [], 0⟩,
  ⟨.TOP_GEN, 0x20, [(2, 0x4)], 0⟩,
  ⟨.TOP_GEN_LL, 0x28, [(2, 0x4)], 0⟩]

/-- Register layout, part 6. -/
def layout6 : List LayoutRow := [
  ⟨.TOP_GEN_HL, 0x30, [(4, 0x4)], 0⟩,
  ⟨.TOP_DISC, 0x40, [], 0⟩,
  ⟨.BN_RESET, 0x1030800, [(2, 0x1000000)], 0⟩,
  ⟨.LL_RESET, 0x1405000, [(2, 0x1000000), (4, 0x40000)], 0⟩,
  ⟨.IRQ_SRC_CFG, 0x30000, [(256, 0x4)], 0⟩,
  ⟨.IRQ_PEND, 0x30400, [(8, 0x4)], 0⟩,
  ⟨.IRQ_THR, 0x30500, [(4, 0x10)], 0⟩,
  ⟨.IRQ_CLAIM, 0x30504, [(4, 0x10)], 0⟩,
  ⟨.IRQ_COMPLETE, 0x30508, [(4, 0x10)], 0⟩,
  ⟨.IRQ_SW, 0x30600, [], 0⟩,
  ⟨.IRQ_SW_SET, 0x30604, [], 0⟩,
  ⟨.IRQ_PIN, 0x30608, [], 0⟩,
  ⟨.PRF_CTRL, 0xB0000, [], 0⟩,
  ⟨.PRF_SNAP_CTRL, 0xB0004, [], 0⟩,
  ⟨.PRF_SNAP_BASE_LO, 0xB0008, [], 0⟩,
  ⟨.PRF_SNAP_BASE_HI, 0xB000C, [], 0⟩,
  ⟨.PRF_SNAP_SIZE, 0xB0010, [], 0⟩,
  ⟨.PRF_SNAP_WP, 0xB0014, [], 0⟩,
  ⟨.PRF_SNAP_RP, 0xB0018, [], 0⟩,
  ⟨.PRF_SNAP_STATUS, 0xB001C, [], 0⟩,
  ⟨.PRF_CYC_LO, 0xB1000, [(4, 0x100)], 0⟩,
  ⟨.PRF_CYC_LO, 0x1040000, [(2, 0x1000000)], 4⟩,
  ⟨.PRF_CYC_HI, 0xB1004, [(4, 0x100)], 0⟩,
  ⟨.PRF_CYC_HI, 0x1040004, [(2, 0x1000000)], 4⟩,
  ⟨.PRF_EVSEL, 0xB1010, [(4, 0x100), (8, 0x4)], 0⟩,
  ⟨.PRF_EVSEL, 0x1040010, [(2, 0x1000000), (8, 0x4)], 32⟩,
  ⟨.PRF_CNT, 0xB1040, [(4, 0x100), (16, 0x4)], 0⟩,
  ⟨.PRF_CNT, 0x1040040, [(2, 0x1000000), (16, 0x4)], 64⟩,
  ⟨.PRF_OVF, 0xB1080, [(4, 0x100)], 0⟩,
  ⟨.PRF_OVF, 0x1040080, [(2, 0x1000000)], 4⟩,
  ⟨.PRF_OVF_PC_LO, 0xB1084, [(4, 0x100)], 0⟩,
  ⟨.PRF_OVF_PC_LO, 0x1040084, [(2, 0x1000000)], 4⟩,
  ⟨.PRF_OVF_PC_HI, 0xB1088, [(4, 0x100)], 0⟩,
  ⟨.PRF_OVF_PC_HI, 0x1040088, [(2, 0x1000000)], 4⟩,
  ⟨.BRM_PCTRL, 0x70000, [(3, 0x100)], 0⟩,
  ⟨.BRM_PSTATUS, 0x70004, [(3, 0x100)], 0⟩,
  ⟨.BRM_PARTNER, 0x70008, [(3, 0x100)], 0⟩,
  ⟨.BRM_PCNT, 0x7000C, [(3, 0x100)], 0⟩,
  ⟨.BRM_LSTATUS, 0x70040, [(3, 0x100), (2, 0x20)], 0⟩,
  ⟨.BRM_LFREQ, 0x70044, [(3, 0x100), (2, 0x20)], 0⟩]

/-- Register layout, part 7. -/
def layout7 : List LayoutRow := [
  ⟨.BRM_LCNT0, 0x70048, [(3, 0x100), (2, 0x20)], 0⟩,
  ⟨.BRM_LCNT1, 0x7004C, [(3, 0x100), (2, 0x20)], 0⟩,
  ⟨.BRM_LPRBS, 0x70050, [(3, 0x100), (2, 0x20)], 0⟩,
  ⟨.BRM_CLK, 0x70400, [], 0⟩,
  ⟨.BRM_FCTRL, 0x71000, [], 0⟩,
  ⟨.BRM_FSTATUS, 0x71004, [], 0⟩,
  ⟨.BRM_ROUTE, 0x71008, [], 0⟩,
  ⟨.BRM_CTO, 0x7100C, [], 0⟩,
  ⟨.BRM_FCNT, 0x71010, [], 0⟩,
  ⟨.BRM_FCNT2, 0x71014, [], 0⟩,
  ⟨.BRM_FIRQ_LO, 0x71018, [], 0⟩,
  ⟨.BRM_FIRQ_HI, 0x7101C, [], 0⟩,
  ⟨.BRM_LLCNT, 0x71100, [(3, 0x40)], 0⟩,
  ⟨.PCI_CTRL, 0x80000, [], 0⟩,
  ⟨.PCI_WIN, 0x80004, [], 0⟩,
  ⟨.PCI_STATUS, 0x80008, [], 0⟩,
  ⟨.PCI_CPL_LOG, 0x8000C, [], 0⟩,
  ⟨.SPI_CFG, 0x80100, [], 0⟩,
  ⟨.I3C_CFG, 0x80200, [], 0⟩,
  ⟨.I3C_PID, 0x80204, [], 0⟩,
  ⟨.SPI_I3C_STATUS, 0x80208, [], 0⟩,
  ⟨.BOOT_STATUS, 0x100000, [], 0⟩,
  ⟨.BOOT_FAIL0, 0x100004, [], 0⟩,
  ⟨.BOOT_FAIL1, 0x100008, [], 0⟩,
  ⟨.BOOT_CTRL, 0x10000C, [], 0⟩,
  ⟨.BOOT_VEC_LO, 0x100010, [], 0⟩,
  ⟨.BOOT_VEC_HI, 0x100014, [], 0⟩,
  ⟨.RIND_REC, 0x100100, [], 0⟩,
  ⟨.STN_SRC_LO, 0xD0000, [], 0⟩,
  ⟨.STN_SRC_HI, 0xD0004, [], 0⟩,
  ⟨.STN_CMD, 0xD0008, [], 0⟩,
  ⟨.STN_STATUS, 0xD000C, [], 0⟩,
  ⟨.STN_ABANDON, 0xD0010, [], 0⟩,
  ⟨.STN_WEAR_SEL, 0xD0014, [], 0⟩,
  ⟨.STN_WEAR, 0xD0018, [], 0⟩,
  ⟨.SEC_LC, 0xC0000, [], 0⟩,
  ⟨.SEC_SERIAL_LO, 0xC0004, [], 0⟩,
  ⟨.SEC_SERIAL_HI, 0xC0008, [], 0⟩,
  ⟨.SEC_KHASH, 0xC0040, [(24, 0x4)], 0⟩,
  ⟨.SEC_SRC_LO, 0xC0100, [], 0⟩]

/-- Register layout, part 8. -/
def layout8 : List LayoutRow := [
  ⟨.SEC_SRC_HI, 0xC0104, [], 0⟩,
  ⟨.SEC_CMD, 0xC0108, [], 0⟩,
  ⟨.SEC_STATUS, 0xC010C, [], 0⟩,
  ⟨.SEC_LC_STATUS, 0xC0110, [], 0⟩,
  ⟨.SEC_CHAL, 0xC0140, [(8, 0x4)], 0⟩,
  ⟨.SEC_NONCE, 0xC0180, [(8, 0x4)], 0⟩,
  ⟨.SEC_ATT_DST_LO, 0xC01A0, [], 0⟩,
  ⟨.SEC_ATT_DST_HI, 0xC01A4, [], 0⟩,
  ⟨.SEC_ATT_CTRL, 0xC01A8, [], 0⟩,
  ⟨.SEC_MR_SEL, 0xC0200, [], 0⟩,
  ⟨.SEC_MR, 0xC0204, [], 0⟩,
  ⟨.SEC_MR_CNT, 0xC0220, [(8, 0x4)], 0⟩,
  ⟨.PWR_CTRL, 0x10000, [], 0⟩,
  ⟨.PWR_STATUS, 0x10004, [], 0⟩,
  ⟨.PWR_IDLE_T, 0x10008, [], 0⟩,
  ⟨.PWR_SLEEP_T, 0x1000C, [], 0⟩,
  ⟨.PWR_DEEP_T, 0x10010, [], 0⟩,
  ⟨.PWR_CNT, 0x10014, [], 0⟩,
  ⟨.RIND_WAKE, 0x100104, [], 0⟩,
  ⟨.RIND_PWR, 0x100108, [], 0⟩,
  ⟨.THM_CTRL, 0x20000, [], 0⟩,
  ⟨.THM_TH, 0x20004, [], 0⟩,
  ⟨.THM_XCHK, 0x20008, [], 0⟩,
  ⟨.THM_STATUS, 0x2000C, [], 0⟩,
  ⟨.THM_MAX, 0x20010, [], 0⟩,
  ⟨.THM_EXCL, 0x20014, [], 0⟩,
  ⟨.THM_TS, 0x20020, [(12, 0x4)], 0⟩,
  ⟨.THM_CNT, 0x20050, [], 0⟩]

/-- The whole register layout. -/
def layout : List LayoutRow :=
  layout0 ++ layout1 ++ layout2 ++ layout3 ++ layout4 ++ layout5 ++ layout6 ++ layout7 ++ layout8

/-- The fields of a register, lowest bit first. -/
def fieldsOf : Reg → List Fld
  | .SEED_CTRL => [SEED_CTRL_CMD, SEED_CTRL_SRC, SEED_CTRL_WARM_EQ, SEED_CTRL_HOLD_LANES]
  | .SEED_SRC_LO => [SEED_SRC_LO_ADDR_LO]
  | .SEED_SRC_HI => [SEED_SRC_HI_ADDR_HI]
  | .SEED_STATUS => [SEED_STATUS_BUSY, SEED_STATUS_PHASE, SEED_STATUS_RESULT, SEED_STATUS_ERR, SEED_STATUS_ERR_ROW, SEED_STATUS_DONE, SEED_STATUS_SHADOW_UE]
  | .SEED_VER_B0 => [SEED_VER_B0_VERSION]
  | .SEED_VER_B1 => [SEED_VER_B1_VERSION]
  | .SEED_BUD_B0 => [SEED_BUD_B0_TAPS, SEED_BUD_B0_SLOTS, SEED_BUD_B0_REORDER]
  | .SEED_BUD_B1 => [SEED_BUD_B1_TAPS, SEED_BUD_B1_SLOTS, SEED_BUD_B1_REORDER]
  | .SEED_PROF => [SEED_PROF_COUNT_B0, SEED_PROF_COUNT_B1, SEED_PROF_ACTIVE]
  | .SEED_RELOAD => [SEED_RELOAD_CNT_B0, SEED_RELOAD_CNT_B1]
  | .SEED_RELOAD_LAST => [SEED_RELOAD_LAST_TILE, SEED_RELOAD_LAST_BUNCH, SEED_RELOAD_LAST_RESULT]
  | .LL_CDR_CTRL => [LL_CDR_CTRL_MODE, LL_CDR_CTRL_PD_SEL, LL_CDR_CTRL_KP_SHIFT, LL_CDR_CTRL_KI_SHIFT, LL_CDR_CTRL_LOCK_TOL, LL_CDR_CTRL_LOCK_CNT]
  | .LL_CDR_STATUS => [LL_CDR_STATUS_LOCKED, LL_CDR_STATUS_FREQ_RANGE, LL_CDR_STATUS_MISMATCH, LL_CDR_STATUS_HOLDING, LL_CDR_STATUS_RX_REF, LL_CDR_STATUS_LOCK_LOST, LL_CDR_STATUS_TX_REF_HL, LL_CDR_STATUS_TX_REF_VALID]
  | .LL_CDR_FREQ => [LL_CDR_FREQ_PPM]
  | .LL_CDR_PHASE => [LL_CDR_PHASE_PHASE]
  | .LL_ADC_CTRL => [LL_ADC_CTRL_AFE_GAIN, LL_ADC_CTRL_AFE_AUTO, LL_ADC_CTRL_OFS_EN, LL_ADC_CTRL_GAIN_EN, LL_ADC_CTRL_SKEW_EN, LL_ADC_CTRL_ACC_SHIFT, LL_ADC_CTRL_SKEW_SHIFT]
  | .LL_ADC_STATUS => [LL_ADC_STATUS_READY, LL_ADC_STATUS_FG_BUSY, LL_ADC_STATUS_FG_ERR, LL_ADC_STATUS_SKEW_HOLD, LL_ADC_STATUS_GAIN_NOW]
  | .LL_ADC_CLIP => [LL_ADC_CLIP_COUNT]
  | .LL_ADC_CAL => [LL_ADC_CAL_FG_START, LL_ADC_CAL_FACTORY]
  | .LL_ADC_SLICE_SEL => [LL_ADC_SLICE_SEL_SLICE, LL_ADC_SLICE_SEL_AUTO_INC]
  | .LL_ADC_SLICE_TRIM => [LL_ADC_SLICE_TRIM_OFS, LL_ADC_SLICE_TRIM_GAIN, LL_ADC_SLICE_TRIM_SKEW]
  | .SPI_OE_CTRL => [SPI_OE_CTRL_DIV, SPI_OE_CTRL_CPOL, SPI_OE_CTRL_CPHA, SPI_OE_CTRL_CS, SPI_OE_CTRL_LSB_FIRST, SPI_OE_CTRL_DUPLEX, SPI_OE_CTRL_TXLEN, SPI_OE_CTRL_RXLEN, SPI_OE_CTRL_START]
  | .SPI_OE_STATUS => [SPI_OE_STATUS_BUSY, SPI_OE_STATUS_DONE, SPI_OE_STATUS_ERR, SPI_OE_STATUS_ALARM, SPI_OE_STATUS_ALARM_EV, SPI_OE_STATUS_GPIO_EV]
  | .SPI_OE_POLL => [SPI_OE_POLL_EN, SPI_OE_POLL_BYTE, SPI_OE_POLL_MASK, SPI_OE_POLL_VALUE, SPI_OE_POLL_GAP]
  | .SPI_OE_POLL_TO => [SPI_OE_POLL_TO_TIMEOUT]
  | .SPI_OE_PINS => [SPI_OE_PINS_RST_N, SPI_OE_PINS_GPIO_OUT, SPI_OE_PINS_GPIO_OE, SPI_OE_PINS_GPIO_OD, SPI_OE_PINS_GPIO_IN, SPI_OE_PINS_GPIO_IRQ_EN, SPI_OE_PINS_ALARM_IRQ_EN, SPI_OE_PINS_SQUELCH]
  | .SPI_OE_ALARM => [SPI_OE_ALARM_DEBOUNCE]
  | .SPI_OE_TXBUF => [SPI_OE_TXBUF_DATA]
  | .SPI_OE_RXBUF => [SPI_OE_RXBUF_DATA]
  | .LL_EQ_CTRL => [LL_EQ_CTRL_FRZ_LIN, LL_EQ_CTRL_FRZ_QUAD, LL_EQ_CTRL_FRZ_FB, LL_EQ_CTRL_FRZ_BLR, LL_EQ_CTRL_DA_EN, LL_EQ_CTRL_BLR_MODE, LL_EQ_CTRL_QUAD_EARLY, LL_EQ_CTRL_BLR_SHIFT, LL_EQ_CTRL_SNAP_NOW, LL_EQ_CTRL_RESTORE, LL_EQ_CTRL_REINIT]
  | .LL_EQ_SHAPE => [LL_EQ_SHAPE_PRE, LL_EQ_SHAPE_LEVEL, LL_EQ_SHAPE_MAIN_INIT]
  | .LL_EQ_MU => [LL_EQ_MU_MU_ACQ, LL_EQ_MU_MU_TRK, LL_EQ_MU_MU_Q_OFS, LL_EQ_MU_MU_FB_OFS, LL_EQ_MU_MU_DA_OFS, LL_EQ_MU_DECIM, LL_EQ_MU_LEAK]
  | .LL_EQ_CONV => [LL_EQ_CONV_SNR_MIN, LL_EQ_CONV_HYST, LL_EQ_CONV_CNT, LL_EQ_CONV_DIV_SNR]
  | .LL_EQ_STATUS => [LL_EQ_STATUS_CONV, LL_EQ_STATUS_EVER_CONV, LL_EQ_STATUS_GEAR, LL_EQ_STATUS_DA_ACTIVE, LL_EQ_STATUS_FROZEN, LL_EQ_STATUS_SNAP_VALID, LL_EQ_STATUS_STAGE, LL_EQ_STATUS_CONV_LOST, LL_EQ_STATUS_DIVERGED, LL_EQ_STATUS_FALLBACK, LL_EQ_STATUS_SNAP_UE, LL_EQ_STATUS_LIN_NOW, LL_EQ_STATUS_QUAD_NOW]
  | .LL_EQ_SNR => [LL_EQ_SNR_SNR, LL_EQ_SNR_MSE]
  | .LL_EQ_LLR => [LL_EQ_LLR_K, LL_EQ_LLR_AUTO, LL_EQ_LLR_MSE_FIX]
  | .LL_EQ_QCTRL => [LL_EQ_QCTRL_AVG, LL_EQ_QCTRL_WIN, LL_EQ_QCTRL_HIST_START, LL_EQ_QCTRL_HIST_BUSY, LL_EQ_QCTRL_HIST_CONT]
  | .LL_EQ_BER => [LL_EQ_BER_MANT, LL_EQ_BER_EXP, LL_EQ_BER_SRC, LL_EQ_BER_BOUND, LL_EQ_BER_VALID]
  | .LL_EQ_SNAP_INT => [LL_EQ_SNAP_INT_SHIFT]
  | .LL_EQ_EXCL => [LL_EQ_EXCL_COUNT]
  | .LL_EQ_COEF_SEL => [LL_EQ_COEF_SEL_INDEX, LL_EQ_COEF_SEL_AUTO_INC]
  | .LL_EQ_COEF => [LL_EQ_COEF_VALUE]
  | .LL_EQ_HIST => [LL_EQ_HIST_COUNT]
  | .LL_TX_CTRL => [LL_TX_CTRL_SQUELCH, LL_TX_CTRL_DATA_MUTE, LL_TX_CTRL_EIDLE, LL_TX_CTRL_PD_EN, LL_TX_CTRL_APPLY]
  | .LL_TX_STATUS => [LL_TX_STATUS_READY, LL_TX_STATUS_SQ_ACTIVE, LL_TX_STATUS_SQ_SRC, LL_TX_STATUS_APPLY_PEND, LL_TX_STATUS_FINE_BUSY, LL_TX_STATUS_HEADROOM]
  | .LL_TX_FIR => [LL_TX_FIR_G_LO, LL_TX_FIR_G_HI]
  | .LL_TX_OVL => [LL_TX_OVL_DEPTH]
  | .LL_TX_SKEW => [LL_TX_SKEW_DELAY, LL_TX_SKEW_FINE]
  | .LL_TX_CLIP => [LL_TX_CLIP_COUNT]
  | .LL_TX_PEAK => [LL_TX_PEAK_PEAK]
  | .LL_TX_PD => [LL_TX_PD_ENTRY]
  | .DEC_BSTATUS => [DEC_BSTATUS_BUSY, DEC_BSTATUS_BUSY_HWM]
  | .DEC_CTRL => [DEC_CTRL_DEADLINE, DEC_CTRL_MAXPASS, DEC_CTRL_SPEC_EN, DEC_CTRL_REL_MIN, DEC_CTRL_ACC, DEC_CTRL_DL_BURST]
  | .DEC_STATUS => [DEC_STATUS_CW_LOCK, DEC_STATUS_HUNTING, DEC_STATUS_RELMODE, DEC_STATUS_CODE, DEC_STATUS_DEPTH, DEC_STATUS_SEED_D, DEC_STATUS_SEED_MAXP, DEC_STATUS_D_NOW, DEC_STATUS_MAXP_NOW, DEC_STATUS_CW_LOST, DEC_STATUS_DL_CLAMP, DEC_STATUS_MP_CLAMP, DEC_STATUS_DL_BURST_EV]
  | .DEC_LOCK => [DEC_LOCK_LOCK_MIN, DEC_LOCK_CONFIRM, DEC_LOCK_LOSS_MIN, DEC_LOCK_LOSS_WIN, DEC_LOCK_REHUNT]
  | .DEC_CW_LO => [DEC_CW_LO_COUNT_LO]
  | .DEC_CW_HI => [DEC_CW_HI_COUNT_HI]
  | .DEC_PASS => [DEC_PASS_COUNT]
  | .DEC_DLREL => [DEC_DLREL_COUNT]
  | .DEC_FAIL => [DEC_FAIL_COUNT]
  | .DEC_FLIPS => [DEC_FLIPS_COUNT]
  | .DEC_SPEC => [DEC_SPEC_COUNT]
  | .DEC_SPEC_RES => [DEC_SPEC_RES_PATCH, DEC_SPEC_RES_LATE]
  | .DEC_MISC => [DEC_MISC_UNVER, DEC_MISC_LOCK_LOSS]
  | .DEC_UNLOCKED => [DEC_UNLOCKED_COUNT]
  | .DEC_OCC => [DEC_OCC_NOW, DEC_OCC_HWM]
  | .DEC_FHIST => [DEC_FHIST_COUNT]
  | .HL_CTRL => [HL_CTRL_PROFILE, HL_CTRL_EIDLE, HL_CTRL_POL_TX, HL_CTRL_POL_RX, HL_CTRL_TX_PRECODE, HL_CTRL_RX_PRECODE, HL_CTRL_TRAIN_EN]
  | .HL_RESET => [HL_RESET_LANE]
  | .HL_STATUS => [HL_STATUS_ENABLED, HL_STATUS_RATE, HL_STATUS_SIG_DET, HL_STATUS_CDR_LOCK, HL_STATUS_FREQ_RANGE, HL_STATUS_TX_EIDLE, HL_STATUS_TX_READY, HL_STATUS_APPLY_PEND, HL_STATUS_SIG_LOST, HL_STATUS_LOCK_LOST, HL_STATUS_TRAIN_FAIL, HL_STATUS_TX_LIMIT]
  | .HL_RX_CTLE => [HL_RX_CTLE_PEAK, HL_RX_CTLE_POLE, HL_RX_CTLE_AUTO]
  | .HL_RX_ADAPT => [HL_RX_ADAPT_FRZ_CTLE, HL_RX_ADAPT_FRZ_FFE, HL_RX_ADAPT_FRZ_DFE, HL_RX_ADAPT_MU]
  | .HL_RX_TAP_SEL => [HL_RX_TAP_SEL_INDEX]
  | .HL_RX_TAP => [HL_RX_TAP_VALUE]
  | .HL_RX_SNR => [HL_RX_SNR_SNR]
  | .HL_TX_COEF0 => [HL_TX_COEF0_CM3, HL_TX_COEF0_CM2, HL_TX_COEF0_CM1, HL_TX_COEF0_CP1]
  | .HL_TX_COEF1 => [HL_TX_COEF1_CP2, HL_TX_COEF1_C0]
  | .HL_TX_CTRL => [HL_TX_CTRL_APPLY, HL_TX_CTRL_PRESET_LOAD, HL_TX_CTRL_PRESET]
  | .HL_TRAIN_CFG => [HL_TRAIN_CFG_INIT_PRESET, HL_TRAIN_CFG_MEAS, HL_TRAIN_CFG_THRESH, HL_TRAIN_CFG_MAX_REQ, HL_TRAIN_CFG_PRECODE_REQ, HL_TRAIN_CFG_TSEED]
  | .HL_TRAIN_TMO => [HL_TRAIN_TMO_MS]
  | .HL_TRAIN_TH => [HL_TRAIN_TH_RX_SNR_MIN, HL_TRAIN_TH_PRE_TH]
  | .HL_TRAIN_CTRL => [HL_TRAIN_CTRL_RESTART, HL_TRAIN_CTRL_ABORT]
  | .HL_TRAIN_STATUS => [HL_TRAIN_STATUS_STATE, HL_TRAIN_STATUS_LOCAL_RDY, HL_TRAIN_STATUS_REMOTE_RDY, HL_TRAIN_STATUS_REQ_COUNT]
  | .HL_TRAIN_CNT => [HL_TRAIN_CNT_FAILS, HL_TRAIN_CNT_PARTNER_REQ]
  | .HL_PAT => [HL_PAT_GEN, HL_PAT_CHK, HL_PAT_CHK_LOCK, HL_PAT_CHK_RESTART]
  | .HL_PAT_ERR => [HL_PAT_ERR_COUNT]
  | .HL_PAT_USER => [HL_PAT_USER_SYMBOLS]
  | .GBX_PSTATUS => [GBX_PSTATUS_VALID, GBX_PSTATUS_PORT, GBX_PSTATUS_TYPE, GBX_PSTATUS_FRAMING, GBX_PSTATUS_RELMODE, GBX_PSTATUS_RX_AM_LOCK, GBX_PSTATUS_TX_AM_LOCK, GBX_PSTATUS_RX_FILL, GBX_PSTATUS_TX_FILL, GBX_PSTATUS_RX_DESKEWED, GBX_PSTATUS_TX_DESKEWED]
  | .GBX_EVENTS => [GBX_EVENTS_RX_AM_LOST, GBX_EVENTS_TX_AM_LOST, GBX_EVENTS_RX_SKEW_ERR, GBX_EVENTS_TX_SKEW_ERR, GBX_EVENTS_LL_STEP, GBX_EVENTS_RX_FILL_EV, GBX_EVENTS_TX_FILL_EV]
  | .GBX_SKEW => [GBX_SKEW_RX, GBX_SKEW_TX]
  | .GBX_LL => [GBX_LL_OFS, GBX_LL_REARM, GBX_LL_OFS_NOW]
  | .GBX_LL_CNT => [GBX_LL_CNT_STALLS, GBX_LL_CNT_CUTS]
  | .GBX_LL_BLK => [GBX_LL_BLK_INS, GBX_LL_BLK_DEL]
  | .PCS_CTRL => [PCS_CTRL_MON_EN, PCS_CTRL_PTP_RX, PCS_CTRL_PTP_TX, PCS_CTRL_MSG_MASK, PCS_CTRL_MATCH_L2, PCS_CTRL_MATCH_UDP4, PCS_CTRL_MATCH_UDP6]
  | .PCS_STATUS => [PCS_STATUS_TERM, PCS_STATUS_RX_UNC_EV, PCS_STATUS_TX_UNC_EV]
  | .PCS_RX_CW => [PCS_RX_CW_COUNT]
  | .PCS_RX_SYM => [PCS_RX_SYM_COUNT]
  | .PCS_RX_UNC => [PCS_RX_UNC_COUNT]
  | .PCS_TX_CW => [PCS_TX_CW_COUNT]
  | .PCS_TX_SYM => [PCS_TX_SYM_COUNT]
  | .PCS_TX_UNC => [PCS_TX_UNC_COUNT]
  | .PCS_PTP_CNT => [PCS_PTP_CNT_RX, PCS_PTP_CNT_TX]
  | .PCS_PTP_SKIP => [PCS_PTP_SKIP_RX, PCS_PTP_SKIP_TX]
  | .BN_LINK_CTRL => [BN_LINK_CTRL_EN, BN_LINK_CTRL_RETRAIN, BN_LINK_CTRL_RETRAIN_NOW, BN_LINK_CTRL_RETRY_MAX, BN_LINK_CTRL_HOLDOFF]
  | .BN_LINK_STATUS => [BN_LINK_STATUS_STATE, BN_LINK_STATUS_LOS, BN_LINK_STATUS_STOPPED, BN_LINK_STATUS_LOS_EV, BN_LINK_STATUS_UP_LOST, BN_LINK_STATUS_TMO_EV, BN_LINK_STATUS_GAVE_UP_EV, BN_LINK_STATUS_GAIN_TMO, BN_LINK_STATUS_ATTEMPTS, BN_LINK_STATUS_TMO_STATE]
  | .BN_LINK_LOS => [BN_LINK_LOS_ON, BN_LINK_LOS_OFF, BN_LINK_LOS_ASSERT, BN_LINK_LOS_DEASSERT]
  | .BN_LINK_TMR => [BN_LINK_TMR_T_CDR, BN_LINK_TMR_T_GAIN, BN_LINK_TMR_T_EQ, BN_LINK_TMR_T_FRAME]
  | .BN_LINK_TMR2 => [BN_LINK_TMR2_GAIN_HOLD, BN_LINK_TMR2_STABLE]
  | .BN_LINK_CNT => [BN_LINK_CNT_UP_LOSS, BN_LINK_CNT_RETRAINS]
  | .BN_PORT_CTRL => [BN_PORT_CTRL_LOOP, BN_PORT_CTRL_HRETRAIN, BN_PORT_CTRL_HHOLDOFF]
  | .BN_PORT_STATUS => [BN_PORT_STATUS_RX_UP, BN_PORT_STATUS_TX_UP, BN_PORT_STATUS_LOOP_ACTIVE, BN_PORT_STATUS_TX_REF_LINE, BN_PORT_STATUS_RX_DOWN_EV, BN_PORT_STATUS_TX_DOWN_EV, BN_PORT_STATUS_LOOP_REJ]
  | .SB_CTRL => [SB_CTRL_SYNC, SB_CTRL_TRG_SYNC]
  | .SB_STATUS => [SB_STATUS_ALIGNED, SB_STATUS_SYNC_EV, SB_STATUS_SYNC_UNCAL]
  | .SB_STAGES => [SB_STAGES_RANK, SB_STAGES_HB, SB_STAGES_FIR_EN, SB_STAGES_DC_EN]
  | .SB_SHIFT => [SB_SHIFT_RANK, SB_SHIFT_HB1, SB_SHIFT_HB2, SB_SHIFT_HB3, SB_SHIFT_HB4, SB_SHIFT_FIR, SB_SHIFT_DC]
  | .SB_DC => [SB_DC_K, SB_DC_FRZ]
  | .SB_FAST => [SB_FAST_LOG2]
  | .SB_MON => [SB_MON_PWR_WIN, SB_MON_NF_SUB]
  | .SB_PWR => [SB_PWR_DBFS]
  | .SB_NF => [SB_NF_DBFS]
  | .SB_LSTATUS => [SB_LSTATUS_RUNNING, SB_LSTATUS_APPLY_PEND, SB_LSTATUS_SAT_EV, SB_LSTATUS_SETTLE_LEFT]
  | .SB_SAT => [SB_SAT_COUNT]
  | .SB_FIR_CTRL => [SB_FIR_CTRL_APPLY]
  | .SB_FIR_SEL => [SB_FIR_SEL_INDEX, SB_FIR_SEL_AUTO_INC]
  | .SB_FIR_COEF => [SB_FIR_COEF_VALUE]
  | .SLOE_CAPTURE => [SLOE_CAPTURE_MARGIN, SLOE_CAPTURE_EN]
  | .SLOE_GASP => [SLOE_GASP_EN_THERM, SLOE_GASP_SEND]
  | .SLOE_LCFG => [SLOE_LCFG_SF, SLOE_LCFG_BW, SLOE_LCFG_CENTRE, SLOE_LCFG_RX_EN, SLOE_LCFG_TX_EN, SLOE_LCFG_IDLE, SLOE_LCFG_SYNC]
  | .SLOE_DET => [SLOE_DET_DET_OFS, SLOE_DET_DET_PAIRS, SLOE_DET_PRE_PAIRS]
  | .SLOE_ID => [SLOE_ID_TX_ID, SLOE_ID_EXPECT]
  | .SLOE_RX => [SLOE_RX_MAXLEN, SLOE_RX_MATCH, SLOE_RX_ACK_AUTO]
  | .SLOE_TX_CTRL => [SLOE_TX_CTRL_LEN, SLOE_TX_CTRL_TYPE, SLOE_TX_CTRL_ACK_REQ, SLOE_TX_CTRL_RETRIES, SLOE_TX_CTRL_WIN, SLOE_TX_CTRL_SEND]
  | .SLOE_TX_STATUS => [SLOE_TX_STATUS_BUSY, SLOE_TX_STATUS_RESULT, SLOE_TX_STATUS_TRY, SLOE_TX_STATUS_DONE, SLOE_TX_STATUS_SEQ, SLOE_TX_STATUS_BUSY_REJ]
  | .SLOE_RX_STATUS => [SLOE_RX_STATUS_STATE, SLOE_RX_STATUS_VALID, SLOE_RX_STATUS_LAST, SLOE_RX_STATUS_TS_SRC, SLOE_RX_STATUS_CFG_ERR, SLOE_RX_STATUS_METRIC, SLOE_RX_STATUS_GASP_EV, SLOE_RX_STATUS_TRIG_EV, SLOE_RX_STATUS_SEQ]
  | .SLOE_RX_HDR => [SLOE_RX_HDR_LEN, SLOE_RX_HDR_TYPE, SLOE_RX_HDR_ACK_REQ, SLOE_RX_HDR_RETX, SLOE_RX_HDR_SRC_ID]
  | .SLOE_RX_TS => [SLOE_RX_TS_TIME]
  | .SLOE_NF => [SLOE_NF_DBFS]
  | .SLOE_RX_CNT0 => [SLOE_RX_CNT0_OK, SLOE_RX_CNT0_CRC_PAY, SLOE_RX_CNT0_DUP]
  | .SLOE_RX_CNT1 => [SLOE_RX_CNT1_CRC_HDR, SLOE_RX_CNT1_FALSE_ABORT, SLOE_RX_CNT1_FALSE_LOCK, SLOE_RX_CNT1_PREEMPTED]
  | .SLOE_RX_CNT2 => [SLOE_RX_CNT2_FOREIGN, SLOE_RX_CNT2_TOO_LONG, SLOE_RX_CNT2_OVERRUN, SLOE_RX_CNT2_DROPPED]
  | .SLOE_TX_CNT => [SLOE_TX_CNT_SENT, SLOE_TX_CNT_NO_ACK, SLOE_TX_CNT_DROPPED]
  | .SLOE_TR_CTRL => [SLOE_TR_CTRL_EN, SLOE_TR_CTRL_LANE, SLOE_TR_CTRL_AVG]
  | .SLOE_TR_FREQ => [SLOE_TR_FREQ_PPB10]
  | .SLOE_TR_STATUS => [SLOE_TR_STATUS_VALID, SLOE_TR_STATUS_TRACKING, SLOE_TR_STATUS_COVER]
  | .TIME_CTRL => [TIME_CTRL_ACTIVE, TIME_CTRL_SLEW]
  | .TIME_STATUS => [TIME_STATUS_SLEWING, TIME_STATUS_SWITCH_EV, TIME_STATUS_SW_REJ, TIME_STATUS_SQ_OVF, TIME_STATUS_WRAP_EV]
  | .TIME_OFS01_LO => [TIME_OFS01_LO_VALUE]
  | .TIME_OFS01_HI => [TIME_OFS01_HI_VALUE]
  | .TIME_ACT_REM_LO => [TIME_ACT_REM_LO_VALUE]
  | .TIME_ACT_REM_HI => [TIME_ACT_REM_HI_VALUE]
  | .TIME_DCFG => [TIME_DCFG_SRC, TIME_DCFG_ACT_STEP, TIME_DCFG_KP_SHIFT, TIME_DCFG_KI_SHIFT, TIME_DCFG_HOLD_N, TIME_DCFG_STEP_TH]
  | .TIME_DSTAT => [TIME_DSTAT_VALID, TIME_DSTAT_HOLDOVER, TIME_DSTAT_BRM_UNCAL, TIME_DSTAT_STEP_EV, TIME_DSTAT_HOLD_EV, TIME_DSTAT_MISS]
  | .TIME_T => [TIME_T_TIME]
  | .TIME_SET => [TIME_SET_TIME]
  | .TIME_CMD => [TIME_CMD_SET, TIME_CMD_STEP]
  | .TIME_STEP_LO => [TIME_STEP_LO_VALUE]
  | .TIME_STEP_HI => [TIME_STEP_HI_VALUE]
  | .TIME_RATE => [TIME_RATE_F]
  | .TIME_MEAS_LO => [TIME_MEAS_LO_THETA]
  | .TIME_MEAS_HI => [TIME_MEAS_HI_THETA]
  | .TIME_MEAS_INT => [TIME_MEAS_INT_MS]
  | .TIME_HOLD => [TIME_HOLD_DRIFT, TIME_HOLD_T]
  | .TIME_BOUND => [TIME_BOUND_NS]
  | .TIME_SQ => [TIME_SQ_ENTRY]
  | .TIME_SQ_STAT => [TIME_SQ_STAT_COUNT, TIME_SQ_STAT_DROPS]
  | .TIME_PCFG => [TIME_PCFG_DOM, TIME_PCFG_OPT_IN_CF]
  | .TIME_LOPT => [TIME_LOPT_OPT_TX, TIME_LOPT_OPT_RX]
  | .TIME_LASYM => [TIME_LASYM_ASYM]
  | .TIME_MTX => [TIME_MTX_TIME]
  | .TIME_MRX => [TIME_MRX_TIME]
  | .TIME_PPS => [TIME_PPS_EDGE, TIME_PPS_DOM, TIME_PPS_CABLE]
  | .TIME_PPS_TS => [TIME_PPS_TS_TIME]
  | .TIME_TPO_CTRL => [TIME_TPO_CTRL_EN, TIME_TPO_CTRL_MODE, TIME_TPO_CTRL_DOM, TIME_TPO_CTRL_POL, TIME_TPO_CTRL_SKIP_EV, TIME_TPO_CTRL_WIDTH]
  | .TIME_TPO_START => [TIME_TPO_START_TIME]
  | .TIME_TPO_PERIOD => [TIME_TPO_PERIOD_NS]
  | .TIME_TPO_CNT => [TIME_TPO_CNT_COUNT]
  | .CAP_CTRL => [CAP_CTRL_ARM, CAP_CTRL_STOP, CAP_CTRL_FORCE, CAP_CTRL_SW_EV, CAP_CTRL_DRAIN, CAP_CTRL_MODE, CAP_CTRL_FLEET_OUT, CAP_CTRL_OUT_TAG, CAP_CTRL_BUS_TAG, CAP_CTRL_SLOE_OUT]
  | .CAP_STATUS => [CAP_STATUS_STATE, CAP_STATUS_ARM_ERR, CAP_STATUS_PRE_SHORT, CAP_STATUS_END_REASON, CAP_STATUS_POISON_LOST, CAP_STATUS_DONE_EV, CAP_STATUS_TRIG_EV, CAP_STATUS_GAP_EV, CAP_STATUS_POISON_EV]
  | .CAP_PRE => [CAP_PRE_UNITS]
  | .CAP_LEN => [CAP_LEN_UNITS]
  | .CAP_DRAIN_BASE => [CAP_DRAIN_BASE_GRANULE]
  | .CAP_DRAIN_SIZE => [CAP_DRAIN_SIZE_GRANULE]
  | .CAP_RESULT_START => [CAP_RESULT_START_VALUE]
  | .CAP_RESULT_UNITS => [CAP_RESULT_UNITS_VALUE]
  | .CAP_TSTAMP => [CAP_TSTAMP_TIME]
  | .CAP_GAPS => [CAP_GAPS_COUNT]
  | .CAP_EVF => [CAP_EVF_SLOE_TYPE, CAP_EVF_SLOE_ANY, CAP_EVF_TAG_ANY, CAP_EVF_TAG, CAP_EVF_TM_DOM]
  | .CAP_TMATCH => [CAP_TMATCH_TIME]
  | .CAP_STREAM => [CAP_STREAM_EN, CAP_STREAM_LANE, CAP_STREAM_SOURCE]
  | .CAP_SEQ_M => [CAP_SEQ_M_MASK]
  | .CAP_SEQ_CTRL => [CAP_SEQ_CTRL_NEXT, CAP_SEQ_CTRL_WINDOW]
  | .TRG_CTRL => [TRG_CTRL_EN, TRG_CTRL_ROLE]
  | .TRG_STATUS => [TRG_STATUS_UNCAL, TRG_STATUS_CAL_BUSY, TRG_STATUS_CAL_OK, TRG_STATUS_CAL_FAIL, TRG_STATUS_NO_PROBE, TRG_STATUS_SEND_REJ]
  | .TRG_ALIGN => [TRG_ALIGN_DMAX, TRG_ALIGN_D]
  | .TRG_SEND => [TRG_SEND_TYPE, TRG_SEND_TAG, TRG_SEND_SEND]
  | .TRG_CAL => [TRG_CAL_DEV, TRG_CAL_START]
  | .TRG_CNT => [TRG_CNT_FRAMES, TRG_CNT_ERR]
  | .LL_TRG_CFG => [LL_TRG_CFG_EN, LL_TRG_CFG_SRC, LL_TRG_CFG_TYPE, LL_TRG_CFG_MODE, LL_TRG_CFG_LONGER, LL_TRG_CFG_UNIT, LL_TRG_CFG_LVL, LL_TRG_CFG_K]
  | .LL_TRG_TH => [LL_TRG_TH_TH0, LL_TRG_TH_TH1]
  | .LL_TRG_N => [LL_TRG_N_N, LL_TRG_N_W]
  | .LL_TRG_CNT => [LL_TRG_CNT_COUNT]
  | .MEM_CTRL => [MEM_CTRL_KEEP_WARM]
  | .MEM_STATUS => [MEM_STATUS_ZFILL, MEM_STATUS_WIPE, MEM_STATUS_FITTED, MEM_STATUS_TRAINED, MEM_STATUS_CAP, MEM_STATUS_RATE]
  | .MEM_GRANULES => [MEM_GRANULES_COUNT]
  | .MEM_FILL_BASE => [MEM_FILL_BASE_GRANULE]
  | .MEM_FILL_COUNT => [MEM_FILL_COUNT_GRANULE]
  | .MEM_FILL_PAT_LO => [MEM_FILL_PAT_LO_PAT]
  | .MEM_FILL_PAT_HI => [MEM_FILL_PAT_HI_PAT]
  | .MEM_FILL_CTRL => [MEM_FILL_CTRL_START, MEM_FILL_CTRL_ABORT, MEM_FILL_CTRL_MODE]
  | .MEM_FILL_STATUS => [MEM_FILL_STATUS_BUSY, MEM_FILL_STATUS_DONE, MEM_FILL_STATUS_ERR, MEM_FILL_STATUS_NEXT]
  | .MEM_BMAP_SEL => [MEM_BMAP_SEL_WORD]
  | .MEM_BMAP => [MEM_BMAP_MARKED]
  | .MEM_ACC_LOG_LO => [MEM_ACC_LOG_LO_ADDR_LO]
  | .MEM_ACC_LOG_HI => [MEM_ACC_LOG_HI_ADDR_HI, MEM_ACC_LOG_HI_KIND, MEM_ACC_LOG_HI_WRITE, MEM_ACC_LOG_HI_ACC_EV]
  | .MEM_ACC_CNT => [MEM_ACC_CNT_COUNT]
  | .MEM_REMAP_SEL => [MEM_REMAP_SEL_ENTRY, MEM_REMAP_SEL_CHANNEL]
  | .MEM_REMAP => [MEM_REMAP_LINE, MEM_REMAP_VALID]
  | .ECC_CTRL => [ECC_CTRL_CE_TH]
  | .ECC_SCRUB0 => [ECC_SCRUB0_MSRAM, ECC_SCRUB0_CAP, ECC_SCRUB0_TILE]
  | .ECC_SCRUB1 => [ECC_SCRUB1_HOURS]
  | .ECC_CE_CNT0 => [ECC_CE_CNT0_MSRAM, ECC_CE_CNT0_CAP]
  | .ECC_CE_CNT1 => [ECC_CE_CNT1_TILE, ECC_CE_CNT1_LPDDR6]
  | .ECC_CE_CNT2 => [ECC_CE_CNT2_RET, ECC_CE_CNT2_BMAP, ECC_CE_CNT2_ROM]
  | .ECC_CE_LAST_LO => [ECC_CE_LAST_LO_VALUE]
  | .ECC_CE_LAST_HI => [ECC_CE_LAST_HI_VALUE]
  | .ECC_UE_STATUS => [ECC_UE_STATUS_COUNT, ECC_UE_STATUS_CE_EV, ECC_UE_STATUS_DEMAND_EV, ECC_UE_STATUS_LOST]
  | .ECC_UE_ADDR_LO => [ECC_UE_ADDR_LO_VALUE]
  | .ECC_UE_ADDR_HI => [ECC_UE_ADDR_HI_VALUE]
  | .ECC_UE_INFO => [ECC_UE_INFO_MEM, ECC_UE_INFO_FINDER, ECC_UE_INFO_ACTION, ECC_UE_INFO_VALID]
  | .ECC_MSPARE_SEL => [ECC_MSPARE_SEL_ENTRY, ECC_MSPARE_SEL_BANK]
  | .ECC_MSPARE => [ECC_MSPARE_WORD, ECC_MSPARE_VALID]
  | .TOP_ID => [TOP_ID_PART, TOP_ID_SREV]
  | .TOP_RESET => [TOP_RESET_WARM, TOP_RESET_CORE]
  | .TOP_LOCK => [TOP_LOCK_LOCK]
  | .TOP_ACCESS_ADDR_LO => [TOP_ACCESS_ADDR_LO_ADDR]
  | .TOP_ACCESS_ADDR_HI => [TOP_ACCESS_ADDR_HI_ADDR]
  | .TOP_ACCESS_INFO => [TOP_ACCESS_INFO_OFF_EV, TOP_ACCESS_INFO_UNMAP_EV, TOP_ACCESS_INFO_WRITE, TOP_ACCESS_INFO_INIT]
  | .TOP_ACCESS_CNT => [TOP_ACCESS_CNT_COUNT]
  | .TOP_GEN => [TOP_GEN_GEN]
  | .TOP_GEN_LL => [TOP_GEN_LL_GEN]
  | .TOP_GEN_HL => [TOP_GEN_HL_GEN]
  | .TOP_DISC => [TOP_DISC_REPLY, TOP_DISC_ABORT]
  | .BN_RESET => [BN_RESET_BUNCH]
  | .LL_RESET => [LL_RESET_LANE]
  | .IRQ_SRC_CFG => [IRQ_SRC_CFG_PRIO, IRQ_SRC_CFG_CORES, IRQ_SRC_CFG_PIN, IRQ_SRC_CFG_MSI, IRQ_SRC_CFG_FLEET, IRQ_SRC_CFG_VEC]
  | .IRQ_PEND => [IRQ_PEND_PEND]
  | .IRQ_THR => [IRQ_THR_THR]
  | .IRQ_CLAIM => [IRQ_CLAIM_SRC]
  | .IRQ_COMPLETE => [IRQ_COMPLETE_SRC]
  | .IRQ_SW => [IRQ_SW_PEND]
  | .IRQ_SW_SET => [IRQ_SW_SET_SET]
  | .IRQ_PIN => [IRQ_PIN_ASSERTED]
  | .PRF_CTRL => [PRF_CTRL_UEN, PRF_CTRL_FREEZE, PRF_CTRL_CLEAR]
  | .PRF_SNAP_CTRL => [PRF_SNAP_CTRL_EN, PRF_SNAP_CTRL_BUNCH, PRF_SNAP_CTRL_MODE, PRF_SNAP_CTRL_IRQ_EN, PRF_SNAP_CTRL_N]
  | .PRF_SNAP_BASE_LO => [PRF_SNAP_BASE_LO_VALUE]
  | .PRF_SNAP_BASE_HI => [PRF_SNAP_BASE_HI_VALUE]
  | .PRF_SNAP_SIZE => [PRF_SNAP_SIZE_VALUE]
  | .PRF_SNAP_WP => [PRF_SNAP_WP_OFS]
  | .PRF_SNAP_RP => [PRF_SNAP_RP_OFS]
  | .PRF_SNAP_STATUS => [PRF_SNAP_STATUS_REC_EV, PRF_SNAP_STATUS_LOST_EV, PRF_SNAP_STATUS_ERR, PRF_SNAP_STATUS_LOST]
  | .PRF_CYC_LO => [PRF_CYC_LO_COUNT]
  | .PRF_CYC_HI => [PRF_CYC_HI_COUNT]
  | .PRF_EVSEL => [PRF_EVSEL_EVENT, PRF_EVSEL_FILTER, PRF_EVSEL_IRQ_EN, PRF_EVSEL_UONLY]
  | .PRF_CNT => [PRF_CNT_COUNT]
  | .PRF_OVF => [PRF_OVF_OVF]
  | .PRF_OVF_PC_LO => [PRF_OVF_PC_LO_PC]
  | .PRF_OVF_PC_HI => [PRF_OVF_PC_HI_PC]
  | .BRM_PCTRL => [BRM_PCTRL_EN, BRM_PCTRL_MODE, BRM_PCTRL_LANES, BRM_PCTRL_LOOP, BRM_PCTRL_RESTART, BRM_PCTRL_T_TRAIN, BRM_PCTRL_TXEQ, BRM_PCTRL_LANE_WAIT]
  | .BRM_PSTATUS => [BRM_PSTATUS_STATE, BRM_PSTATUS_COMPAT, BRM_PSTATUS_LANE_SET, BRM_PSTATUS_LINK_DOWN_EV, BRM_PSTATUS_ROLE_ERR_EV, BRM_PSTATUS_FREQ_ERR_EV, BRM_PSTATUS_LANE_DROP_EV, BRM_PSTATUS_TRAIN_TMO_EV, BRM_PSTATUS_LOOP_REJ]
  | .BRM_PARTNER => [BRM_PARTNER_PART, BRM_PARTNER_SREV, BRM_PARTNER_VERSION, BRM_PARTNER_CLK_LINK, BRM_PARTNER_LOCK_MASK, BRM_PARTNER_ROLE]
  | .BRM_PCNT => [BRM_PCNT_DOWNS, BRM_PCNT_TRAIN_TMO]
  | .BRM_LSTATUS => [BRM_LSTATUS_RX_DETECTED, BRM_LSTATUS_CDR_LOCK, BRM_LSTATUS_BLOCK_LOCK, BRM_LSTATUS_MARKER_LOCK, BRM_LSTATUS_DESKEWED]
  | .BRM_LFREQ => [BRM_LFREQ_PPM]
  | .BRM_LCNT0 => [BRM_LCNT0_HDR_ERR, BRM_LCNT0_BAD_CTRL]
  | .BRM_LCNT1 => [BRM_LCNT1_STUFF_ERR, BRM_LCNT1_MRK_ERR]
  | .BRM_LPRBS => [BRM_LPRBS_COUNT]
  | .BRM_CLK => [BRM_CLK_SRC, BRM_CLK_SRC_NOW, BRM_CLK_LOCKED, BRM_CLK_HOLD, BRM_CLK_HOLD_EV]
  | .BRM_FCTRL => [BRM_FCTRL_ENUM_START, BRM_FCTRL_TMSG_AUTO, BRM_FCTRL_DRIVER, BRM_FCTRL_ROOT]
  | .BRM_FSTATUS => [BRM_FSTATUS_DEVNUM, BRM_FSTATUS_NUMBERED, BRM_FSTATUS_DEPTH, BRM_FSTATUS_FLEET, BRM_FSTATUS_ENUM_BUSY, BRM_FSTATUS_ENUM_EV, BRM_FSTATUS_DEPTH_EV, BRM_FSTATUS_OVF_EV, BRM_FSTATUS_LATE_EV, BRM_FSTATUS_TMO_EV, BRM_FSTATUS_LINK_ABORT_EV, BRM_FSTATUS_ENUM_REJ]
  | .BRM_ROUTE => [BRM_ROUTE_S0, BRM_ROUTE_S1]
  | .BRM_CTO => [BRM_CTO_US]
  | .BRM_FCNT => [BRM_FCNT_LATE_CPL, BRM_FCNT_TIMEOUT]
  | .BRM_FCNT2 => [BRM_FCNT2_ABORT_LINK, BRM_FCNT2_P_LOST, BRM_FCNT2_P_REFUSED]
  | .BRM_FIRQ_LO => [BRM_FIRQ_LO_DEV]
  | .BRM_FIRQ_HI => [BRM_FIRQ_HI_DEV]
  | .BRM_LLCNT => [BRM_LLCNT_REPLAYS, BRM_LLCNT_RX_ERR]
  | .PCI_CTRL => [PCI_CTRL_WIN_LOG2]
  | .PCI_WIN => [PCI_WIN_BASE]
  | .PCI_STATUS => [PCI_STATUS_LINK_UP, PCI_STATUS_TAGS, PCI_STATUS_TAGS_FULL, PCI_STATUS_CPL_EV]
  | .PCI_CPL_LOG => [PCI_CPL_LOG_STATUS, PCI_CPL_LOG_DEV, PCI_CPL_LOG_TAG]
  | .SPI_CFG => [SPI_CFG_QUAD]
  | .I3C_CFG => [I3C_CFG_IBI_EN, I3C_CFG_DYN_ADDR]
  | .I3C_PID => [I3C_PID_MFR, I3C_PID_INST]
  | .SPI_I3C_STATUS => [SPI_I3C_STATUS_BUSY, SPI_I3C_STATUS_WR_ERR, SPI_I3C_STATUS_LAST]
  | .BOOT_STATUS => [BOOT_STATUS_STEP, BOOT_STATUS_MODE, BOOT_STATUS_DONE, BOOT_STATUS_STOPPED, BOOT_STATUS_RESULT, BOOT_STATUS_FW_B, BOOT_STATUS_SEED_SLOT, BOOT_STATUS_SAFE_SEED, BOOT_STATUS_NO_LPDDR6, BOOT_STATUS_FG_PENDING, BOOT_STATUS_STANDALONE, BOOT_STATUS_CFG_DEFAULT, BOOT_STATUS_ALT_EV, BOOT_STATUS_STOP_EV, BOOT_STATUS_ATTEMPT]
  | .BOOT_FAIL0 => [BOOT_FAIL0_STEPS]
  | .BOOT_FAIL1 => [BOOT_FAIL1_STEPS]
  | .BOOT_CTRL => [BOOT_CTRL_RETRY]
  | .BOOT_VEC_LO => [BOOT_VEC_LO_ADDR]
  | .BOOT_VEC_HI => [BOOT_VEC_HI_ADDR]
  | .RIND_REC => [RIND_REC_WAKE_FAIL, RIND_REC_LAST_STEP, RIND_REC_CAUSE, RIND_REC_FAILS]
  | .STN_SRC_LO => [STN_SRC_LO_ADDR]
  | .STN_SRC_HI => [STN_SRC_HI_ADDR]
  | .STN_CMD => [STN_CMD_PAGE, STN_CMD_JOURNAL, STN_CMD_PUSH]
  | .STN_STATUS => [STN_STATUS_BUSY, STN_STATUS_QCOUNT, STN_STATUS_ERR, STN_STATUS_DONE_EV, STN_STATUS_IDLE_EV, STN_STATUS_UE_EV, STN_STATUS_ABANDON_EV, STN_STATUS_ROLLBACK, STN_STATUS_WIN_WR]
  | .STN_ABANDON => [STN_ABANDON_COUNT, STN_ABANDON_FIRST, STN_ABANDON_LAST_HI]
  | .STN_WEAR_SEL => [STN_WEAR_SEL_REGION]
  | .STN_WEAR => [STN_WEAR_WRITES]
  | .SEC_LC => [SEC_LC_STATE, SEC_LC_WIPE_PEND, SEC_LC_SLOTS, SEC_LC_FW_SVN, SEC_LC_BOOT_CLOSED]
  | .SEC_SERIAL_LO => [SEC_SERIAL_LO_SERIAL]
  | .SEC_SERIAL_HI => [SEC_SERIAL_HI_SERIAL]
  | .SEC_KHASH => [SEC_KHASH_HASH]
  | .SEC_SRC_LO => [SEC_SRC_LO_ADDR]
  | .SEC_SRC_HI => [SEC_SRC_HI_ADDR]
  | .SEC_CMD => [SEC_CMD_OP, SEC_CMD_MR, SEC_CMD_GO]
  | .SEC_STATUS => [SEC_STATUS_CMD_BUSY, SEC_STATUS_CMD_DONE, SEC_STATUS_CMD_ERR, SEC_STATUS_ATT_BUSY, SEC_STATUS_ATT_DONE, SEC_STATUS_ATT_RESULT, SEC_STATUS_ATT_ERR]
  | .SEC_LC_STATUS => [SEC_LC_STATUS_CMD, SEC_LC_STATUS_LAST]
  | .SEC_CHAL => [SEC_CHAL_CHAL]
  | .SEC_NONCE => [SEC_NONCE_NONCE]
  | .SEC_ATT_DST_LO => [SEC_ATT_DST_LO_ADDR]
  | .SEC_ATT_DST_HI => [SEC_ATT_DST_HI_ADDR]
  | .SEC_ATT_CTRL => [SEC_ATT_CTRL_START]
  | .SEC_MR_SEL => [SEC_MR_SEL_MR, SEC_MR_SEL_WORD, SEC_MR_SEL_AUTO_INC]
  | .SEC_MR => [SEC_MR_VALUE]
  | .SEC_MR_CNT => [SEC_MR_CNT_COUNT]
  | .PWR_CTRL => [PWR_CTRL_SLEEP_EN, PWR_CTRL_GO]
  | .PWR_STATUS => [PWR_STATUS_STATE, PWR_STATUS_ENTERING, PWR_STATUS_PLL_CLK, PWR_STATUS_ABORT_EV, PWR_STATUS_WAKE_EV, PWR_STATUS_RETRY_EV, PWR_STATUS_GO_REJ, PWR_STATUS_WAKE_SRC]
  | .PWR_IDLE_T => [PWR_IDLE_T_US]
  | .PWR_SLEEP_T => [PWR_SLEEP_T_MS]
  | .PWR_DEEP_T => [PWR_DEEP_T_S]
  | .PWR_CNT => [PWR_CNT_SLEEPS, PWR_CNT_ABORTS]
  | .RIND_WAKE => [RIND_WAKE_WAKE_T, RIND_WAKE_WAKE_EN]
  | .RIND_PWR => [RIND_PWR_LAST_STATE, RIND_PWR_LAST_SRC, RIND_PWR_RET_VALID, RIND_PWR_FAULT, RIND_PWR_RET_LANES, RIND_PWR_VDD_GOOD]
  | .THM_CTRL => [THM_CTRL_THERM_SEL, THM_CTRL_AUTO_RESTART, THM_CTRL_PROF_MIN]
  | .THM_TH => [THM_TH_WARN, THM_TH_THROT, THM_TH_SHUT, THM_TH_HYST]
  | .THM_XCHK => [THM_XCHK_DIFF, THM_XCHK_STEP_T, THM_XCHK_STOP_T, THM_XCHK_HARD_OFS]
  | .THM_STATUS => [THM_STATUS_LEVEL, THM_STATUS_PROFILE, THM_STATUS_FAST, THM_STATUS_NONE_TRUSTED, THM_STATUS_STOPPING, THM_STATUS_HARD, THM_STATUS_WARN_EV, THM_STATUS_THROT_EV, THM_STATUS_STOP_EV, THM_STATUS_EXCL_EV, THM_STATUS_TH_REJ]
  | .THM_MAX => [THM_MAX_TEMP, THM_MAX_SRC]
  | .THM_EXCL => [THM_EXCL_EXCL, THM_EXCL_SUSPECT]
  | .THM_TS => [THM_TS_READING, THM_TS_CAUSE]
  | .THM_CNT => [THM_CNT_THROTTLES, THM_CNT_STOPS]

end Sys2Proof.Machine
end

