-- ==== Sys2Proof/Machine/Map.lean ====
section
/-! DEFINITION. The one sparse table the state is made of: a list of (key, value) pairs, keys strictly rising, no
entry equal to the default of its key, so that equal tables are equal lists. Registers, hidden counters and modes are
held in it. -/

namespace Sys2Proof.Machine

/-- A key: which item, and which instance of it. -/
abbrev Key := Nat × Nat

/-- A sparse table from keys to values. -/
abbrev Tab (α : Type) := List (Key × α)

/-- The order of the keys in a table. -/
def keyLt (a b : Key) : Bool := a.1.blt b.1 || (a.1.beq b.1 && a.2.blt b.2)

/-- The value listed under a key, if any. -/
def tabFind {α : Type} : Tab α → Key → Option α
  | [], _ => none
  | e :: m, k => if e.1 = k then some e.2 else tabFind m k

/-- The value of a key: the listed one, else the default. -/
def tabGet {α : Type} (m : Tab α) (k : Key) (dflt : α) : α := (tabFind m k).getD dflt

/-- Put a value under a key, at its place in the order. -/
def tabInsert {α : Type} : Tab α → Key → α → Tab α
  | [], k, v => [(k, v)]
  | e :: m, k, v =>
    if e.1 = k then (k, v) :: m
    else if keyLt k e.1 then (k, v) :: e :: m
    else e :: tabInsert m k v

/-- Take a key out of a table. -/
def tabErase {α : Type} (m : Tab α) (k : Key) : Tab α := m.filter (fun e => decide (e.1 ≠ k))

/-- Set the value of a key whose default is `dflt`; the default is never listed. -/
def tabSet {α : Type} [DecidableEq α] (m : Tab α) (k : Key) (v dflt : α) : Tab α :=
  if v = dflt then tabErase m k else tabInsert m k v

/-- The keys of a table rise strictly. -/
def tabSorted {α : Type} : Tab α → Bool
  | [] => true
  | [_] => true
  | e :: f :: m => keyLt e.1 f.1 && tabSorted (f :: m)

end Sys2Proof.Machine
end

