-- ==== Sys2Proof/Machine/Memory.lean ====
section
/-! DEFINITION. The addressed memories as one sparse list of bytes in canonical form (R261, R288): management SRAM,
capture store, Stone and LPDDR6, each byte under its physical key. -/

namespace Sys2Proof.Machine

/-- A FILL of one granule (R283): the 64-bit pattern and whether MODE was ADDRESS. -/
structure GranFill where
  granule : Nat
  pat     : Nat
  addr    : Bool
deriving DecidableEq, Repr

/-- The addressed memories. `cells` lists the bytes that differ from what an unlisted address reads as; `fills` the
granules a FILL has written with a non-zero pattern; `poison` the units holding the poison pattern (R265, R266);
`marked` the granules marked in the init bitmap (R282); `lost`: 0, or the capture store has lost its contents, with the number of the free value it holds (R369). -/
structure Memory where
  cells  : List Host.Cell
  fills  : List GranFill
  poison : List Nat
  marked : List Nat
  lost   : Nat
deriving DecidableEq, Repr

/-- Base of the LPDDR6 range (R288). -/
def lpBase : Nat := 0x80_0000_0000
/-- Base of management SRAM (R288). -/
def sramBase : Nat := 0x1000_0000
/-- Base of the capture store (R288). -/
def capBase : Nat := 0x2000_0000
/-- Base of the Stone read window (R288). -/
def stoneBase : Nat := 0x4000_0000
/-- First key above the 40-bit address space: the spare words of management SRAM lie here, bank by bank (R274). -/
def spareBase : Nat := 0x100_0000_0000

/-- Byte `k` of a 64-bit word. -/
def byteOf64 (v k : Nat) : Byte := BitVec.ofNat 8 (v / 2 ^ (8 * k))

/-- The granule of an LPDDR6 key. -/
def granuleOf (a : Nat) : Nat := (a - lpBase) / 0x10_0000

/-- What an unlisted byte reads as: zero, the value zero-fill and a wipe leave (R262, R263), in a granule that a
FILL wrote, that byte of the fill word (R283), or in a capture store that has lost its contents, a free value (R369). -/
def baseByte (fills : List GranFill) (lost a : Nat) : Byte :=
  if capBase ≤ a ∧ a < capBase + 0x300_0000 then (if lost = 0 then 0 else Config.lostByte lost a)
  else if a < lpBase ∨ spareBase ≤ a then 0 else
  match fills.find? (fun g => g.granule == granuleOf a) with
  | none => 0
  | some g => byteOf64 (if g.addr then Nat.xor (a / 8 * 8) g.pat else g.pat) (a % 8)

/-- The byte listed at a key, if any. -/
def cellFind : List Host.Cell → Nat → Option Byte
  | [], _ => none
  | c :: m, a => if c.1 = a then some c.2 else cellFind m a

/-- List a byte at its place in the order. -/
def cellInsert : List Host.Cell → Nat → Byte → List Host.Cell
  | [], a, b => [(a, b)]
  | c :: m, a, b =>
    if c.1 = a then (a, b) :: m
    else if a < c.1 then (a, b) :: c :: m
    else c :: cellInsert m a b

/-- Take a key out of the list. -/
def cellErase (m : List Host.Cell) (a : Nat) : List Host.Cell := m.filter (fun c => decide (c.1 ≠ a))

/-- The addresses rise strictly. -/
def cellsSorted : List Host.Cell → Bool
  | [] => true
  | [_] => true
  | c :: d :: m => decide (c.1 < d.1) && cellsSorted (d :: m)

/-- The canonical form: addresses strictly rising, and no entry equal to what an unlisted address reads as. -/
def Memory.wf (m : Memory) : Bool :=
  cellsSorted m.cells && m.cells.all (fun c => decide (c.2 ≠ baseByte m.fills m.lost c.1))

/-- The memory with nothing listed. -/
def Memory.empty : Memory := { cells := [], fills := [], poison := [], marked := [], lost := 0 }

/-- Read one byte. -/
def Memory.read (m : Memory) (a : Nat) : Byte := (cellFind m.cells a).getD (baseByte m.fills m.lost a)

/-- Write one byte; the value an unlisted address reads as is not listed. -/
def Memory.write (m : Memory) (a : Nat) (b : Byte) : Memory :=
  { m with cells := if b = baseByte m.fills m.lost a then cellErase m.cells a else cellInsert m.cells a b }

/-- Write consecutive bytes from an address up. -/
def Memory.writeBytes (m : Memory) (a : Nat) : List Byte → Memory
  | [] => m
  | b :: bs => (m.write a b).writeBytes (a + 1) bs

/-- Read `n` consecutive bytes. -/
def Memory.readBytes (m : Memory) (a n : Nat) : List Byte := (List.range n).map (fun i => m.read (a + i))

/-- Zero a range of a memory that carries no fill pattern: zero-fill, wipe, erase (R262). -/
def Memory.clear (m : Memory) (lo hi : Nat) : Memory :=
  { m with cells := m.cells.filter (fun c => decide (c.1 < lo ∨ hi ≤ c.1)),
           poison := m.poison.filter (fun a => decide (a < lo ∨ hi ≤ a)) }

/-- First key of a granule. -/
def granBase (g : Nat) : Nat := lpBase + g * 0x10_0000

/-- What a FILL leaves in a granule: every word the pattern, with valid check bits (R283). -/
def Memory.fillGranule (m : Memory) (g pat : Nat) (addr : Bool) : Memory :=
  { m with
    cells := m.cells.filter (fun c => decide (c.1 < granBase g ∨ granBase (g + 1) ≤ c.1)),
    poison := m.poison.filter (fun a => decide (a < granBase g ∨ granBase (g + 1) ≤ a)),
    fills := if pat = 0 ∧ addr = false then m.fills.filter (fun f => f.granule != g)
             else ⟨g, pat, addr⟩ :: m.fills.filter (fun f => f.granule != g) }

/-- Zero the whole of LPDDR6 (the life-cycle wipe, R263). -/
def Memory.wipeLp (m : Memory) : Memory :=
  { m with cells := m.cells.filter (fun c => decide (c.1 < lpBase ∨ spareBase ≤ c.1)),
           poison := m.poison.filter (fun a => decide (a < lpBase ∨ spareBase ≤ a)),
           fills := [] }

/-- The capture store loses its contents; what it holds then is the `k`-th free value (R369). -/
def Memory.loseCap (m : Memory) (k : Nat) : Memory := { m.clear capBase (capBase + 0x300_0000) with lost := k + 1 }

/-- The capture store is zero-filled (R262). -/
def Memory.zeroCap (m : Memory) : Memory := { m.clear capBase (capBase + 0x300_0000) with lost := 0 }

/-- Put the poison pattern in a unit, named by its first key (R265, R266). -/
def Memory.setPoison (m : Memory) (u : Nat) : Memory :=
  if m.poison.contains u then m else { m with poison := u :: m.poison }

/-- Take the poison pattern out of a unit: it is rewritten with valid check bits. -/
def Memory.clearPoison (m : Memory) (u : Nat) : Memory :=
  { m with poison := m.poison.filter (fun a => a != u) }

/-- Mark a granule in the init bitmap (R282). -/
def Memory.mark (m : Memory) (g : Nat) : Memory :=
  if m.marked.contains g then m else { m with marked := g :: m.marked }

/-- Unmark a granule (R282). -/
def Memory.unmark (m : Memory) (g : Nat) : Memory :=
  { m with marked := m.marked.filter (fun a => a != g) }

end Sys2Proof.Machine
end

