-- ==== Sys2Proof/Machine/Vars.lean ====
section
/-! DEFINITION. The hidden counters, modes and latches the spec names that no register field shows, one constructor of
`Var` each, with the rule that names it. A variable holds an integer; a flag holds 0 or 1. -/

namespace Sys2Proof.Machine

/-- The hidden variables of the block. -/
inductive Var where
  /-- receive pip grid runs (R417); reset 0. -/
  | rxGrid
  /-- receive pips counted since the grid started (R417); reset 0. -/
  | rxPip
  /-- transmit pip grid of the port slot runs (R417); reset 0. -/
  | txGrid
  /-- offset trim in use of a slice, 1/8 LSB (R53); reset 0. -/
  | sliceOfs
  /-- gain trim in use of a slice, 0.05 % (R53); reset 0. -/
  | sliceGain
  /-- timing-skew trim in use of a slice, 10 fs (R53); reset 0. -/
  | sliceSkew
  /-- kept factory offset trim of a slice (R57); reset 0. -/
  | facOfs
  /-- kept factory gain trim of a slice (R57); reset 0. -/
  | facGain
  /-- kept factory skew trim of a slice (R57); reset 0. -/
  | facSkew
  /-- sum of the slice's samples so far in the offset loop's accumulation (R54); reset 0. -/
  | ofsSum
  /-- samples so far in that accumulation (R54); reset 0. -/
  | ofsCnt
  /-- sign of the slice's last complete sum of the offset loop, 0 within 1/16 LSB of zero mean (R54); reset 0. -/
  | ofsRes
  /-- that accumulation is complete and its step has not been taken (R54); reset 0. -/
  | ofsDone
  /-- sum of the samples' magnitudes so far in the gain loop's accumulation (R54); reset 0. -/
  | gainSum
  /-- samples so far in that accumulation (R54); reset 0. -/
  | gainCnt
  /-- sum of the slice's last complete accumulation of the gain loop, -1 before the first (R54); reset -1. -/
  | gainRes
  /-- that accumulation is complete and its step has not been taken (R54); reset 0. -/
  | gainDone
  /-- sum of e[n] (x[n+1] - x[n-1]) so far in the skew loop's accumulation (R54); reset 0. -/
  | skewSum
  /-- samples so far in that accumulation (R54); reset 0. -/
  | skewCnt
  /-- sign of the slice's last complete sum of the skew loop (R54); reset 0. -/
  | skewRes
  /-- that accumulation is complete and its step has not been taken (R54); reset 0. -/
  | skewDone
  /-- slice has completed its gain accumulation in the current round of 96 (R54); reset 0. -/
  | visGain
  /-- slice has completed its skew accumulation in the current round of 96 (R54); reset 0. -/
  | visSkew
  /-- a clear of EN waits for the foreground calibration to end (R57); reset 0. -/
  | fgDisable
  /-- consecutive automatic gain updates that left the gain unchanged (R170); reset 0. -/
  | afeSame
  /-- loop integrator I, 2^-40 UI per dpclk (R59); reset 0. -/
  | cdrInteg
  /-- phase advance not yet turned into interpolator steps, 2^-40 UI (R59); reset 0. -/
  | cdrRem
  /-- sum of I over the dpclk of the lock-check interval in progress (R62); reset 0. -/
  | cdrSum
  /-- dpclk of the lock-check interval in progress (R62); reset 0. -/
  | cdrCnt
  /-- sum of I over the last full lock-check interval (R62); reset 0. -/
  | cdrMean
  /-- a lock-check interval has ended and waits: 1 to be evaluated, 2 for its estimate only (R62, R64); reset 0. -/
  | cdrDone
  /-- the interval in progress does not count for lock detection: 1 MODE has left OPEN (R64), 2 the integrator was cleared (R62); reset 0. -/
  | cdrSkip
  /-- the AUTO detector in force is the equaliser's (R60); reset 0. -/
  | cdrAuto
  /-- estimate of the last lock-check interval, 0.001 ppm (R62); reset 0. -/
  | cdrEst
  /-- consecutive stable intervals (R62); reset 0. -/
  | cdrStable
  /-- phase written in OPEN mode that the interpolator moves toward (R64); reset 0. -/
  | cdrPhTarget
  /-- the interpolator moves toward a written phase (R64); reset 0. -/
  | cdrPhMoving
  /-- follower has had a reference since the port's lanes were last started; instance 2*slot+dir, dir 0 receive, 1 transmit (R68); reset 0. -/
  | folEver
  /-- frequency the follower slews to, 0.0001 ppm; held in holdover, 0 at nominal (R68); reset 0. -/
  | folFreq
  /-- frequency of the follower in force, 0.0001 ppm (R68); reset 0. -/
  | folNow
  /-- a polled SPI_OE transaction waits its gap before it repeats (R71); reset 0. -/
  | speBusyPoll
  /-- the first transaction of the poll has ended and the timeout runs (R71); reset 0. -/
  | speFirst
  /-- OE_ALARM_N ball is low (R73); reset 0. -/
  | oeLow
  /-- an alarm was accepted in this low period (R73); reset 0. -/
  | oeTaken
  /-- the alarm squelch holds (R73); reset 0. -/
  | oeSquelch
  /-- level of OE_GPIO ball k at instance k (R74); reset 0. -/
  | oePin
  /-- the HOLDOFF wait after a retrain attempt runs (R174); reset 0. -/
  | lkHoldoff
  /-- period latched at entry to the state whose timer runs, 0 none (R172); reset 0. -/
  | lkTimer
  /-- the STABLE timer runs (R174); reset 0. -/
  | lkStable
  /-- the lane is held at DOWN for a unit without a good configuration word (R46); reset 0. -/
  | lkTileHold
  /-- consecutive 1 us windows below OFF (R173); reset 0. -/
  | losOn
  /-- consecutive 1 us windows at or above ON (R173); reset 0. -/
  | losOff
  /-- ON threshold the current windows use (R173); reset 0. -/
  | losOnTh
  /-- OFF threshold the current windows use (R173); reset 0. -/
  | losOffTh
  /-- ASSERT count the current windows use (R173); reset 0. -/
  | losAs
  /-- DEASSERT count the current windows use (R173); reset 0. -/
  | losDe
  /-- BN_LINK_LOS has been written since the current window began (R173); reset 0. -/
  | losNew
  /-- the hold of the port's host transmitters after a start, until RX_UP is first set (R176); reset 0. -/
  | portHold
  /-- the port's line lanes have been started (R162, R176); reset 0. -/
  | portStart
  /-- loopback in force (R177); reset 0. -/
  | loopNow
  /-- a LOOP change waits for the pip boundary (R177); reset 0. -/
  | loopPend
  /-- how long the lane's stream is delayed to its flow's latest lane, receive and transmit, 10 ps (R155); reset 0. -/
  | amDelay
  /-- fill replaces the data of the host lane's stream; instance 2*m+dir, dir 0 to the host, 1 to the line (R162); reset 0. -/
  | fillRun
  /-- a frame is in progress in the direction (R163); reset 0. -/
  | frameOn
  /-- missing lane dpclk of a latency step still to be filled (R160); reset 0. -/
  | stepLeft
  /-- bits of the stream still to be dropped after a REARM (R160); reset 0. -/
  | rearmDrop
  /-- an idle insertion episode runs for the lane's codeword (R161); reset 0. -/
  | insEpisode
  /-- applied FIR coefficient g of index k+2, Q2.8 (R98, R102); reset if n % 7 = 2 then 192 else 0. -/
  | txFir
  /-- applied predistortion entry (R99, R102); reset 0. -/
  | txPd
  /-- applied DEPTH code (R100, R102); reset 12. -/
  | txDepth
  /-- applied overlay amplitude A in 2^-16; 0.045 at reset (R100); reset 2949. -/
  | txA
  /-- PD_EN in force (R101); reset 0. -/
  | txPdEn
  /-- DATA_MUTE in force, firmware's or the thermal stop's overlay-only sending (R106); reset 0. -/
  | txMute
  /-- DELAY in force (R103); reset 32. -/
  | txDelay
  /-- DAC clock phase in force, 1/64 UI (R104); reset 0. -/
  | txFine
  /-- the DAC powers up and settles (R107); reset 0. -/
  | txExit
  /-- the last six symbols into the FIR, oldest first, as level code 0 to 3 plus 1, 0 none (R98, R105); reset 0. -/
  | txHist
  /-- the squelch of a reseed quiesce holds (R42); reset 0. -/
  | reseedSq
  /-- the coarse delay line: the last 63 symbols, oldest first, as level code 0 to 3 plus 1, 0 none (R103); reset 0. -/
  | txLine
  /-- the last five symbols into the host transmitter's FFE, oldest first, as level code plus 1 (R140); reset 0. -/
  | hlHist
  /-- the last symbol precoded (R142); reset 0. -/
  | hlPreTx
  /-- the last symbol decoded from precoding (R139); reset 0. -/
  | hlPreRx
  /-- symbols the generator has sent (R148); reset 0. -/
  | hlPatPos
  /-- the last 64 symbols the user checker has received, as base-4 digits; for PRBS how many symbols have seeded it (R149); reset 0. -/
  | hlChkHist
  /-- symbols received, or for PRBS agreeing with the prediction, in a row, up to 64 (R149); reset 0. -/
  | hlChkRun
  /-- the locked checker's PRBS bits, or its place in the user pattern (R149); reset 0. -/
  | hlChkReg
  /-- symbols of the locked checker's window (R149); reset 0. -/
  | hlChkWin
  /-- symbol errors of the window (R149); reset 0. -/
  | hlChkErr
  /-- last bits of the generator's PRBS (R148); reset 0. -/
  | hlPrbs
  /-- the last outer codeword of the direction could not be corrected (R158); reset 0. -/
  | outerBad
  /-- the squelch of a thermal stop holds (R105, R391, R392); reset 0. -/
  | thermSq
  /-- FFE tap in force, Q2.10 (R136); reset if n % 16 = 4 then 1024 else 0. -/
  | hlFfe
  /-- DFE tap h1 in force, Q1.9 (R136); reset 0. -/
  | hlH1
  /-- the CTLE has stopped adapting since the clock recovery first locked (R136); reset 0. -/
  | hlPeakAcc
  /-- last clock-recovery estimate, 0.001 ppm (R138); reset 0. -/
  | hlEst
  /-- consecutive stable intervals (R138); reset 0. -/
  | hlStable
  /-- applied transmitter coefficient, order c(-3), c(-2), c(-1), c(1), c(2) (R140); reset 0. -/
  | hlCoef
  /-- the driver leaves electrical idle and settles (R150); reset 0. -/
  | hlExit
  /-- best SNR so far in the requester loop, 0.1 dB (R145); reset 0. -/
  | hlBest
  /-- direction of the tap's next step, order c(1), c(-1), c(-2), c(-3): 0 decrement, 1 increment (R145); reset 0. -/
  | hlDir
  /-- index of the tap the requester works on (R145); reset 0. -/
  | hlTap
  /-- requester phase: 0 none, 1 preset asked, 2 preset settling, 3 step asked, 4 step settling, 5 undo asked, 6 undo settling, 7 loop ended, 8 preset 1 asked (R145); reset 0. -/
  | hlPhase
  /-- a step was kept in this round (R145); reset 0. -/
  | hlKept
  /-- HHOLDOFF after a training FAIL runs (R174); reset 0. -/
  | hlHoldoff
  /-- the scrubber found an uncorrectable error and the log has not been read empty since (R272, R297); reset 0. -/
  | scrubEv
  /-- the last pip of the lane was an UNLOCKED pip (R115); reset 0. -/
  | decUnl
  /-- the ADC is powered and its samples are not yet valid (R51); reset 0. -/
  | adcUp
  /-- a snapshot is requested for the next pip boundary (R92); reset 0. -/
  | eqPendSnap
  /-- a snapshot restore is requested for the next pip boundary (R93); reset 0. -/
  | eqPendRestore
  /-- the initial coefficients are requested for the next pip boundary (R94); reset 0. -/
  | eqPendReinit
  /-- codeword lock is to be set (1), lost (2) or cleared by REHUNT (3) at the next pip boundary (R114, R115); reset 0. -/
  | cwPend
  /-- first candidate offset of the hunter's current group of 8 (R114); reset 0. -/
  | huntPos
  /-- windows the candidate has passed, 0 while candidates are tested (R114); reset 0. -/
  | huntConf
  /-- candidate symbol offset being confirmed, and then the confirmed offset of the block boundary (R114); reset 0. -/
  | huntCand
  /-- first symbol, counted from the start of the pip grid, of the hunter's current window (R114); reset 0. -/
  | huntSym
  /-- pips of the lane that the decoder has ended since the grid started (R115, R417); reset 0. -/
  | decPip
  /-- first symbol of the next block offered to the pool, counted from the start of the pip grid (R114, R117); reset 0. -/
  | cwSym
  /-- codewords with zero hard syndrome in the lane's current window (R115); reset 0. -/
  | lockZero
  /-- arrivals in the lane's current window (R115); reset 0. -/
  | lockArr
  /-- consecutive bad windows (R115); reset 0. -/
  | lockBad
  /-- number the lane's next arriving codeword takes (R118); reset 0. -/
  | cwNext
  /-- deadline releases in the current pip (R132); reset 0. -/
  | pipDl
  /-- codewords released in the current pip (R115); reset 0. -/
  | pipRel
  /-- deadline in pips to take at the next pip boundary, 0 none (R129); reset 0. -/
  | dNext
  /-- maximum passes plus 1 to take at the next pip boundary, 0 none (R130); reset 0. -/
  | mpNext
  /-- lane cycle of the last releases (R125); reset 0. -/
  | relCyc
  /-- releases of the lane in that cycle (R125); reset 0. -/
  | relNum
  /-- symbol count of the last marker passage; instance 2*m+dir (R154); reset 0. -/
  | markSym
  /-- a marker has passed since the port started; instance 2*m+dir (R154); reset 0. -/
  | markSeen
  /-- the orderly thermal stop sends the overlay alone (R106, R391); reset 0. -/
  | thermMute
  /-- linear coefficient at a span index, Q2.14 with 8 further fraction bits (R75, R85); reset if n % 112 = 4 then 0x400000 else 0. -/
  | eqLin
  /-- quadratic coefficient, Q1.15 with 8 further fraction bits (R85); reset 0. -/
  | eqQuad
  /-- first offset of a pair entry (R79); reset ((n % 8 : Nat) : Int) - 2. -/
  | eqPairI
  /-- second offset of a pair entry (R79); reset ((n % 8 : Nat) : Int) - 2 + ((n % 32 / 8 : Nat) : Int). -/
  | eqPairJ
  /-- b1, b2, h1 in Q1.9 with 8 further fraction bits (R82, R83, R85); reset 0. -/
  | eqFb
  /-- restorer estimate of the current dpclk and of the next two, Q1.11 (R77); reset 0. -/
  | eqB
  /-- averaged error power in 2^-40 (R90); reset 0. -/
  | eqMse
  /-- a pip has been measured since the lane's start (R90); reset 0. -/
  | eqMeas
  /-- the lane has entered EQ_ACQ since its start (R86, R90); reset 0. -/
  | eqAcq
  /-- consecutive measured pips at or above SNR_MIN (R90); reset 0. -/
  | eqHi
  /-- consecutive measured pips below SNR_MIN - HYST (R90); reset 0. -/
  | eqLo
  /-- consecutive measured pips below DIV_SNR (R91); reset 0. -/
  | eqDiv
  /-- CONV has been set and divergence is watched (R91); reset 0. -/
  | eqDivOn
  /-- pips of acquisition step left after a regain (R81); reset 0. -/
  | eqSlow
  /-- PRE in force (R78); reset 4. -/
  | eqPre
  /-- PRE in force when profile 0 was last left (R81); reset 4. -/
  | eqPre0
  /-- linear taps of profile 0 when it was last left, 0 none (R81); reset 0. -/
  | eqLin0
  /-- a profile change waits for the next pip boundary (R80); reset 0. -/
  | eqProf
  /-- a firmware write of the indexed value waits for the pip boundary (1) or has acted at the last one (2) (R88); reset 0. -/
  | eqWr
  /-- that value (R88); reset 0. -/
  | eqWrV
  /-- the last two decisions, as level 3, 1, -1 or -3, 0 none (R82); reset 0. -/
  | eqK
  /-- path metrics of the four MLSE states (R83); reset 0. -/
  | eqVit
  /-- partial count of a histogram bin (R96); reset 0. -/
  | eqHp
  /-- pips of the running histogram window (R96); reset 0. -/
  | eqHpips
  /-- bits flipped by the decoder in the running window (R97); reset 0. -/
  | eqFlips
  /-- coded bits of the running window (R97); reset 0. -/
  | eqBits
  /-- first pip whose symbols a decoder-aided update may use (R89); reset 0. -/
  | eqDaFrom
  /-- pips of a pause of decoder-aided updates after a change of D (R89); reset 0. -/
  | eqDaPause
  /-- an uncorrectable coefficient error was found in the last pip (R92); reset 0. -/
  | eqUe
  /-- a whole-lane hold has applied in the current pip (R87, R90); reset 0. -/
  | eqHoldPip
  /-- number of the throttle profile whose allocation is in force (R80, R81); reset 0. -/
  | eqProfIn
  /-- pips since CONV was set, while CONV is 1 (R92); reset 0. -/
  | eqSnapCnt
  /-- number plus 1 of the last pip at whose end no coefficient is updated (R80, R87, R93); reset 0. -/
  | eqNoUpd
  /-- decoder-aided adaptation was active at the last pip boundary (R89); reset 0. -/
  | eqDaWas
  /-- snapshot: linear coefficients (R92); reset 0. -/
  | snLin
  /-- snapshot: quadratic coefficients (R92); reset 0. -/
  | snQuad
  /-- snapshot: pair list, first offsets (R92); reset 0. -/
  | snPairI
  /-- snapshot: pair list, second offsets (R92); reset 0. -/
  | snPairJ
  /-- snapshot: b1, b2, h1 (R92); reset 0. -/
  | snFb
  /-- snapshot: b (R92); reset 0. -/
  | snB
  /-- snapshot: MSE (R92); reset 0. -/
  | snMse
  /-- snapshot: PRE (R92); reset 0. -/
  | snPre
  /-- snapshot: linear count it was taken with (R92); reset 0. -/
  | snNlin
  /-- snapshot: quadratic count it was taken with (R92); reset 0. -/
  | snNquad
  /-- command of the load in progress: 0 none, 1 LOAD_FULL, 2 LOAD_BUNCH0, 3 LOAD_BUNCH1, 4 CHECK (R39, R40); reset 0. -/
  | seedCmd
  /-- most decoder slots in use so far in the current pip (DEC_BSTATUS.BUSY); reset 0. -/
  | slotPeak
  /-- bits [63:32] of the count of released codewords (DEC_CW_LO); reset 0. -/
  | cwHigh
  /-- applied sideband FIR coefficient, Q2.14 (R183, R185); reset 0. -/
  | sbCoef
  /-- pending sideband FIR coefficient (R185); reset 0. -/
  | sbCoefP
  /-- applied shift of a stage in the order of SB_SHIFT (R181, R185); reset 8. -/
  | sbShift
  /-- applied DC blocker exponent (R185, R186); reset 12. -/
  | sbK
  /-- counter of a time domain, in 2^-16 ns / (5 x 2^40 x 15625) (R223, R224); reset 0. -/
  | tDom
  /-- the active timescale, in the same unit (R226); reset 0. -/
  | tAct
  /-- phase-slew term of a domain's servo, 2^-40 (R228); reset 0. -/
  | tSp
  /-- tclk for which the phase-slew term is still held (R228); reset 0. -/
  | tSpLeft
  /-- last measurement interval of a domain, ns (R228, R230); reset 0. -/
  | tTau
  /-- tclk since the last applied measurement of a domain, or since its source was selected (R230); reset 0. -/
  | tSince
  /-- tclk since entry to holdover (R231); reset 0. -/
  | tHold
  /-- next scheduled time of a pulse output, 2^-16 ns (R240); reset 0. -/
  | tpoNext
  /-- time at which the pulse in progress ends, 2^-16 ns (R240); reset 0. -/
  | tpoEnd
  /-- a pulse of the output is in progress (R240); reset 0. -/
  | tpoOn
  /-- a ONCE output has sent its pulse (R240); reset 0. -/
  | tpoDone
  /-- latched words read after a low word: TIME_T1 and T2 of domain 0, of domain 1, TIME_OFS01_HI, TIME_ACT_REM_HI, TIME_PPS_TS1 and TS2 (R227); reset 0. -/
  | tLat
  /-- stamp of the last trigger-bus TIME event in a domain, 2^-16 ns (R229); reset 0. -/
  | busTime
  /-- tclk between the two most recent TIME events of a domain (R229); reset 0. -/
  | busTau
  /-- tclk since the last TIME event of a domain (R229); reset 0. -/
  | busAge
  /-- TIME events stamped since the domain's counter last stopped, at most 2 (R229); reset 0. -/
  | busTimeOn
  /-- spreading factor in force (R196); reset 8. -/
  | slSf
  /-- bandwidth code in force (R196); reset 1. -/
  | slBw
  /-- centre code in force (R196); reset 1. -/
  | slFc
  /-- SYNC in force (R197); reset 0x35. -/
  | slSync
  /-- DET_OFS in force, signed, 0.5 dB (R211); reset -4. -/
  | slOfs
  /-- DET_PAIRS in force (R211); reset 2. -/
  | slPairs
  /-- a DYING_GASP waits: its reason, 0 none (R207); reset 0. -/
  | slGasp
  /-- an ACK waits: its SEQ plus 1, 0 none (R216); reset 0. -/
  | slAck
  /-- a TRIG waits: its tag plus 1, 0 none (R247); reset 0. -/
  | slTrig
  /-- the firmware packet waits for the transmitter (R205); reset 0. -/
  | slFw
  /-- packet in transmission: 0 none, 1 DYING_GASP, 2 ACK, 3 TRIG, 4 firmware (R205); reset 0. -/
  | slCur
  /-- an ACK window is open (R206); reset 0. -/
  | slOpen
  /-- SEQ of the next new firmware packet (R205); reset 0. -/
  | slNextSeq
  /-- word of the transmit buffer (SLOE registers); reset 0. -/
  | slTxBuf
  /-- word of the receive buffer (SLOE registers); reset 0. -/
  | slRxBuf
  /-- metric of the reception in progress, 0.1 dB (R211); reset 0. -/
  | slMetric
  /-- header in progress: LEN (R200); reset 0. -/
  | slHLen
  /-- header in progress: byte 1 (R200); reset 0. -/
  | slHType
  /-- header in progress: SRC_ID (R200); reset 0. -/
  | slHSrc
  /-- header in progress: SEQ (R200); reset 0. -/
  | slHSeq
  /-- the lane has had an OK reception (R216); reset 0. -/
  | slLastOn
  /-- SRC_ID of the last OK reception (R216); reset 0. -/
  | slLastSrc
  /-- SEQ of the last OK reception (R216); reset 0. -/
  | slLastSeq
  /-- TYPE of the last OK reception (R216); reset 0. -/
  | slLastType
  /-- the digital gain loop is frozen (R210); reset 0. -/
  | slFrozen
  /-- the gain at which the loop was last frozen, 0.1 dB (R210); reset 0. -/
  | slGain
  /-- the loop runs on to the first sync symbol, after a FALSE_ABORT or a capture (R210); reset 0. -/
  | slReacq
  /-- the ACK in reception came after its window (R206); reset 0. -/
  | slAckLate
  /-- chirp symbol being sent: 0 grid not started, 1 silence, 2 on twice the shift plus 1 if down (R196, R198); reset 0. -/
  | slSym
  /-- time since the start of the chirp symbol, in thirds of a line symbol (R196); reset 0. -/
  | slPos
  /-- the switch of a bunch is open: its datapath domain is off (R292, R369); reset 0. -/
  | offBunch
  /-- the clocking and shared datapath domain is off (R369); reset 0. -/
  | offClk
  /-- the LPDDR6 channels are in self-refresh (R281); reset 0. -/
  | lpSelf
  /-- the management domain is off (R369); reset 0. -/
  | offMgmt
  /-- SEQ of the next packet of a Bramble port (R323); reset 0. -/
  | llTxSeq
  /-- SEQ a Bramble port expects next (R323); reset 0. -/
  | llRxSeq
  /-- packets accepted since the last ACK sent (R323); reset 0. -/
  | llAcc
  /-- consecutive replays of the oldest packet (R323); reset 0. -/
  | llRepl
  /-- port p class c has received its first CREDIT, instance 3p + c (R324); reset 0. -/
  | crOn
  /-- header credits granted by the partner, modulo 65536 (R322); reset 0. -/
  | crGotH
  /-- data credits granted by the partner, modulo 65536 (R322); reset 0. -/
  | crGotD
  /-- header credits used, modulo 65536 (R324); reset 0. -/
  | crUseH
  /-- data credits used, modulo 65536 (R324); reset 0. -/
  | crUseD
  /-- header credits granted to the partner, modulo 65536 (R322); reset 0. -/
  | crGivH
  /-- data credits granted to the partner, modulo 65536 (R322); reset 0. -/
  | crGivD
  /-- word of the MSI-X table (R336, R337); reset if n % 4 = 3 then 1 else 0. -/
  | msixTab
  /-- MSI-X vector pending while masked (R337); reset 0. -/
  | msixPba
  /-- LPDDR6 remap entry, 32 x channel + i: line index + 1, 0 invalid (R275); reset 0. -/
  | remap
  /-- management SRAM spare, 8 x bank + entry: word index + 1, 0 invalid (R274); reset 0. -/
  | mspare
  /-- corrected errors of a memory in its scrub period, by ECC_UE_INFO.MEM (R268); reset 0. -/
  | ceWin
  /-- granule after the last of the running FILL (R283); reset 0. -/
  | fillEnd
  /-- pattern of the running FILL (R283); reset 0. -/
  | fillPat
  /-- MODE of the running FILL (R283); reset 0. -/
  | fillMode
  /-- the FILL stops PREEMPTED at its next granule boundary (R284); reset 0. -/
  | fillPre
  /-- refresh code of the LPDDR6 devices' temperature report (R280); reset 0. -/
  | lpTemp
  /-- state of the sequencer (R246); reset 0. -/
  | capSt
  /-- entry stamp of the sequencer's state, 2^-16 ns (R246); reset 0. -/
  | capEntry
  /-- TMATCH has fired since arm (R245); reset 0. -/
  | capTm
  /-- units of records written since arm (R250); reset 0. -/
  | capPos
  /-- unit of the oldest kept record, from the capture trigger on (R250); reset 0. -/
  | capBase
  /-- unit the drain writes next (R255); reset 0. -/
  | capDrained
  /-- DRAIN of the capture in force or last completed (R255); reset 0. -/
  | capDrain
  /-- first granule of the drain region of that capture (R255); reset 0. -/
  | capRegBase
  /-- granules of the drain region of that capture (R255); reset 0. -/
  | capRegSize
  /-- next slot of the poison tail (R254); reset 0. -/
  | capTail
  /-- index of a stream's next unit since arm (R251); reset 0. -/
  | capIdx
  /-- the stream has ended (R252); reset 0. -/
  | capDead
  /-- calibration: 0 none; listener 1 probe due, 2 answer awaited; driver 3 CAL queued or sent, 4 answer due (R260); reset 0. -/
  | trgCal
  /-- device number the driver calibrates (R260); reset 0. -/
  | trgCalDev
  /-- a trigger-bus TIME event waits for the root's broadcast: its domain plus 1 (R335); reset 0. -/
  | tmsgPend
  /-- the source is claimed (R301); reset 0. -/
  | irqClaimed
  /-- records written since PRF_SNAP_CTRL.EN was set (R305); reset 0. -/
  | prfSeq
  /-- records lost since the previous record (R305); reset 0. -/
  | prfLost
  /-- the last TIME event of a domain was stamped on an uncompensated delay (R229); reset 0. -/
  | busTimeUn
  /-- enumeration waits for the child of a downstream port: 0 none, 1, 2 (R332); reset 0. -/
  | enStep
  /-- the device owes its parent the size of its subtree (R332); reset 0. -/
  | enPar
  /-- requester of the enumeration message taken (R332); reset 0. -/
  | enParReq
  /-- TAG of that message (R332); reset 0. -/
  | enParTag
  /-- requesting unit of that message (R332); reset 0. -/
  | enParUnit
  /-- requester's generation of that message (R331); reset 0. -/
  | enParGen
  /-- a MARKER has arrived on lane l of port p, instance 2p + l (R309); reset 0. -/
  | mkSeen
  /-- count of the last MARKER of a lane (R309); reset 0. -/
  | mkCount
  /-- the last MARKER of a lane passed R309 (R313); reset 0. -/
  | mkRun
  /-- MARKERs of a lane that failed in a row (R313); reset 0. -/
  | mkBad
  /-- a lane is held short of marker lock for its frequency (R315); reset 0. -/
  | lfHold
  /-- identical CAP blocks received in a row by a port (R314); reset 0. -/
  | capSame
  /-- payload of the last CAP block of a port with its ACK bit 0, little-endian (R312); reset 0. -/
  | capLast
  /-- the port sends CAP with ACK = 1 (R312); reset 0. -/
  | capAck
  /-- journal: failure count F of a boot step (R344); reset 0. -/
  | jFail
  /-- journal: kept level of a boot step (R344); reset 0. -/
  | jLevel
  /-- journal: attempt number (R349); reset 0. -/
  | jAttempt
  /-- journal: primary firmware image last booted, 0 A, 1 B (R349); reset 0. -/
  | jFwLast
  /-- journal: primary seed slot last booted (R349); reset 0. -/
  | jSeedLast
  /-- journal: abandoned entries (R351); reset 0. -/
  | jAbCount
  /-- journal: first abandoned page (R351); reset 0. -/
  | jAbFirst
  /-- journal: last abandoned page (R351); reset 0. -/
  | jAbLast
  /-- the abandonment record has not been copied at a boot yet (R351); reset 0. -/
  | jAbNew
  /-- journal: sequence number of the header (R349); reset 0. -/
  | jSeq
  /-- next record of the boot log's ring, 0 to 5823 (R349); reset 0. -/
  | logPos
  /-- undo slot the next journaled write takes (R348); reset 0. -/
  | undoNext
  /-- sequence number of the next undo descriptor (R348); reset 0. -/
  | undoSeq
  /-- page writes to a 64 KiB region of the Stone since manufacture (R352); reset 0. -/
  | wear
  /-- a BUNCH reset is held until RESTART ends (R45); reset 0. -/
  | bnHeld
  /-- the shadow reload of a BUNCH reset (1) or of a restart after SLEEP (2) runs: the bunch is held in reset (R45, R296, R381); reset 0. -/
  | bnReload
  /-- address at which a core last restarted (R342); reset 0x60000000. -/
  | corePc
  /-- a core is held in reset (R342, R366); reset if n % 4 = 0 then 0 else 1. -/
  | coreHeld
  /-- a core waits in WFI (R371); reset 0. -/
  | coreWfi
  /-- FAULT_N is driven low (R345, R380); reset 0. -/
  | faultN
  /-- boot step that runs or comes next, 0 to 11; 12 done (R343); reset 0. -/
  | bootNext
  /-- SRC latched by the load in progress (R37); reset 0. -/
  | seedSrc
  /-- source address latched by the load in progress (R37); reset 0. -/
  | seedAddr
  /-- WARM_EQ latched by the load in progress (R37); reset 0. -/
  | seedWarm
  /-- HOLD_LANES latched by the load in progress (R37); reset 0. -/
  | seedHold
  /-- refusal code that phase 1 of the running load has found in the source, 0 none (R37, R38); reset 0. -/
  | seedHdr
  /-- a word of the image was read with POISON (R37); reset 0. -/
  | seedBad
  /-- the lane starts afresh at RESTART: its mode or membership changes (R418); reset 0. -/
  | seedDiff
  /-- command that the SEC unit runs: SEC_CMD.OP, 0 none (SEC_CMD); reset 0. -/
  | secOp
  /-- MR of the running EXTEND (R361); reset 0. -/
  | secMr
  /-- code with which the running SEC command will end (R359); reset 0. -/
  | secRes
  /-- destination of the report in preparation (R364); reset 0. -/
  | attDst
  /-- life-cycle transition in progress: command of R365, 0 none (R366); reset 0. -/
  | lcCmd
  /-- a life-cycle transition holds every transmitter in electrical idle (R366); reset 0. -/
  | lcIdle
  /-- the transition has ended a capture (R366); reset 0. -/
  | lcCap
  /-- SVN of the running image (SEC_CMD); reset 0. -/
  | fwSvn
  /-- ENTRY of the image that B4 accepted (R358); reset 0. -/
  | fwEntry
  /-- level at which the boot step that runs is tried (R344); reset 0. -/
  | bootLevel
  /-- the straps have been sampled since the last POR, WARM or WAKE reset (R341); reset 0. -/
  | strapsTaken
  /-- byte 4 of the boot configuration record in use (R353); reset 0. -/
  | cfgFlags
  /-- BRM_WAIT of the boot configuration record in use, ms (R353); reset 500. -/
  | cfgWait
  /-- the lane takes a foreground calibration at its next DOWN with READY (B6 level 1); reset 0. -/
  | fgWant
  /-- the PCIe endpoint is enabled (R341, R343); reset 0. -/
  | pcieOn
  /-- retention image only: line mode of the lane's entry plus 1 (R375); reset 0. -/
  | retMode
  /-- retention image only: seed VERSION of the lane's bunch (R375); reset 0. -/
  | retVer
  /-- thermal protection: 0 no sample since reset, 1 at work, 2 the orderly stop runs, 3 thermal shutdown, 4 too hot for B0 (R391, R392, R394); reset 0. -/
  | thmSt
  /-- last reading code of a sensor (R386); reset 0. -/
  | tsCode
  /-- a sample has been taken since reset (R386); reset 0. -/
  | tsSeen
  /-- consecutive samples in which a sensor's code has not changed (R386); reset 0. -/
  | tsSame
  /-- consecutive samples in which a sensor failed its cross-check (R386); reset 0. -/
  | tsXf
  /-- consecutive samples in which an excluded sensor passed every test (R386); reset 0. -/
  | tsGood
  /-- consecutive samples below the warning threshold less HYST in thermal shutdown (R394); reset 0. -/
  | thmCool
  /-- the warning, throttle and shutdown levels are entered (R389); reset 0. -/
  | thmLvl
  /-- power state, coded as RIND_PWR.LAST_STATE; 0 RUN or IDLE (R370); reset 0. -/
  | pwrState
  /-- entry in progress: 0 none, 1 SLEEP, 2 DEEP, 3 OFF (R373); reset 0. -/
  | pwrTarget
  /-- PWR_STATUS.STATE from which the entry in progress began (R374); reset 0. -/
  | pwrFrom
  /-- wake step that runs plus 1, 0 none (R379); reset 0. -/
  | wakeStep
  /-- the wake step runs in its alternative form (R380); reset 0. -/
  | wakeAlt
  /-- the wake step runs as its retry (R380); reset 0. -/
  | wakeRetry
  /-- wake source that waits for VDD, 0 none (R377); reset 0. -/
  | wakeHeld
  /-- RETRY_EV is set at the next B0 (R380); reset 0. -/
  | retryPend
  /-- the PLLs relock for PWR_CTRL.GO = RUN_CLK (R381); reset 0. -/
  | runClk
  /-- latched high words of the performance monitors: 9 x unit + counter, 9 x unit + 8 the cycle counter, 54 + core PRF_OVF_PC (R302); reset 0. -/
  | prfLat
  /-- BAR2 size taken at the PCIe fundamental reset (R336, PCI_CTRL); reset 40. -/
  | winLog2
  /-- pips with an LMS update (R85, R302); reset 0. -/
  | lmsCount
  /-- tap multiplies the lane's pips have taken, in units of 160 (R302); reset 0. -/
  | multCount
  /-- bits of fill sent toward the host and toward the line, 2 x slot + direction (R162, R302); reset 0. -/
  | fillBits
  /-- fraction of a cycle that monitor unit has counted on clock ticks (R302); reset 0. -/
  | prfFrac
  /-- quarter UI of the current block slot of a Bramble port (R308); reset 0. -/
  | brmUi
  /-- block slots since the last MARKER slot, 0 the MARKER itself (R309); reset 0. -/
  | brmSlot
  /-- count of the next MARKER sent (R309); reset 0. -/
  | brmMark
  /-- scrambler bits s[n-1] to s[n-58] of a Bramble lane, instance 2 x port + lane (R309); reset 0. -/
  | brmScr
  /-- identical bits sent in a row (R310); reset 0. -/
  | brmRun
  /-- last bit sent (R310); reset 0. -/
  | brmLast
  /-- debt of stuffed bits, in UI (R310); reset 0. -/
  | brmDebt
  /-- block slots since the last fill slot (R310); reset 0. -/
  | brmWin
  /-- last 31 bits of the PRBS31 a lane sends (R319); reset 0. -/
  | brmPrbs
deriving DecidableEq, Repr

/-- Which reset covers a hidden variable: the reset of the whole device, of one bunch, line lane, host lane or port
slot (owner = instance / per), of the Rind domain, or none (`ext`: the level of a ball, which the outside sets). -/
inductive VPlace where
  | device | rind | ext
  | bunch (per : Nat) | line (per : Nat) | host (per : Nat) | slot (per : Nat)
deriving DecidableEq, Repr

/-- The reset domain of each hidden variable (R10). -/
def varPlace : Var → VPlace
  | .rxGrid => .line 1
  | .rxPip => .line 1
  | .txGrid => .slot 1
  | .sliceOfs => .line 96
  | .sliceGain => .line 96
  | .sliceSkew => .line 96
  | .facOfs => .device
  | .facGain => .device
  | .facSkew => .device
  | .ofsSum => .line 96
  | .ofsCnt => .line 96
  | .ofsRes => .line 96
  | .ofsDone => .line 96
  | .gainSum => .line 96
  | .gainCnt => .line 96
  | .gainRes => .line 96
  | .gainDone => .line 96
  | .skewSum => .line 96
  | .skewCnt => .line 96
  | .skewRes => .line 96
  | .skewDone => .line 96
  | .visGain => .line 96
  | .visSkew => .line 96
  | .fgDisable => .line 1
  | .afeSame => .line 1
  | .cdrInteg => .line 1
  | .cdrRem => .line 1
  | .cdrSum => .line 1
  | .cdrCnt => .line 1
  | .cdrMean => .line 1
  | .cdrDone => .line 1
  | .cdrSkip => .line 1
  | .cdrAuto => .line 1
  | .cdrEst => .line 1
  | .cdrStable => .line 1
  | .cdrPhTarget => .line 1
  | .cdrPhMoving => .line 1
  | .folEver => .slot 2
  | .folFreq => .slot 2
  | .folNow => .slot 2
  | .speBusyPoll => .device
  | .speFirst => .device
  | .oeLow => .ext
  | .oeTaken => .device
  | .oeSquelch => .device
  | .oePin => .ext
  | .lkHoldoff => .line 1
  | .lkTimer => .line 1
  | .lkStable => .line 1
  | .lkTileHold => .line 1
  | .losOn => .line 1
  | .losOff => .line 1
  | .losOnTh => .line 1
  | .losOffTh => .line 1
  | .losAs => .line 1
  | .losDe => .line 1
  | .losNew => .line 1
  | .portHold => .slot 1
  | .portStart => .slot 1
  | .loopNow => .slot 1
  | .loopPend => .slot 1
  | .amDelay => .host 2
  | .fillRun => .host 2
  | .frameOn => .slot 2
  | .stepLeft => .line 1
  | .rearmDrop => .host 1
  | .insEpisode => .line 1
  | .txFir => .line 7
  | .txPd => .line 64
  | .txDepth => .line 1
  | .txA => .line 1
  | .txPdEn => .line 1
  | .txMute => .line 1
  | .txDelay => .line 1
  | .txFine => .line 1
  | .txExit => .line 1
  | .txHist => .line 6
  | .reseedSq => .bunch 1
  | .txLine => .line 63
  | .hlHist => .host 5
  | .hlPreTx => .host 1
  | .hlPreRx => .host 1
  | .hlPatPos => .host 1
  | .hlChkHist => .host 1
  | .hlChkRun => .host 1
  | .hlChkReg => .host 1
  | .hlChkWin => .host 1
  | .hlChkErr => .host 1
  | .hlPrbs => .host 1
  | .outerBad => .slot 2
  | .thermSq => .device
  | .hlFfe => .host 16
  | .hlH1 => .host 1
  | .hlPeakAcc => .host 1
  | .hlEst => .host 1
  | .hlStable => .host 1
  | .hlCoef => .host 5
  | .hlExit => .host 1
  | .hlBest => .host 1
  | .hlDir => .host 4
  | .hlTap => .host 1
  | .hlPhase => .host 1
  | .hlKept => .host 1
  | .hlHoldoff => .host 1
  | .scrubEv => .device
  | .decUnl => .line 1
  | .adcUp => .line 1
  | .eqPendSnap => .line 1
  | .eqPendRestore => .line 1
  | .eqPendReinit => .line 1
  | .cwPend => .line 1
  | .huntPos => .line 1
  | .huntConf => .line 1
  | .huntCand => .line 1
  | .huntSym => .line 1
  | .decPip => .line 1
  | .cwSym => .line 1
  | .lockZero => .line 1
  | .lockArr => .line 1
  | .lockBad => .line 1
  | .cwNext => .line 1
  | .pipDl => .line 1
  | .pipRel => .line 1
  | .dNext => .bunch 4
  | .mpNext => .bunch 4
  | .relCyc => .line 1
  | .relNum => .line 1
  | .markSym => .host 2
  | .markSeen => .host 2
  | .thermMute => .device
  | .eqLin => .line 112
  | .eqQuad => .line 32
  | .eqPairI => .line 32
  | .eqPairJ => .line 32
  | .eqFb => .line 3
  | .eqB => .line 3
  | .eqMse => .line 1
  | .eqMeas => .line 1
  | .eqAcq => .line 1
  | .eqHi => .line 1
  | .eqLo => .line 1
  | .eqDiv => .line 1
  | .eqDivOn => .line 1
  | .eqSlow => .line 1
  | .eqPre => .line 1
  | .eqPre0 => .line 1
  | .eqLin0 => .line 1
  | .eqProf => .line 1
  | .eqWr => .line 180
  | .eqWrV => .line 180
  | .eqK => .line 2
  | .eqVit => .line 4
  | .eqHp => .line 16
  | .eqHpips => .line 1
  | .eqFlips => .line 1
  | .eqBits => .line 1
  | .eqDaFrom => .line 1
  | .eqDaPause => .line 1
  | .eqUe => .line 1
  | .eqHoldPip => .line 1
  | .eqProfIn => .line 1
  | .eqSnapCnt => .line 1
  | .eqNoUpd => .line 1
  | .eqDaWas => .line 1
  | .snLin => .line 112
  | .snQuad => .line 32
  | .snPairI => .line 32
  | .snPairJ => .line 32
  | .snFb => .line 3
  | .snB => .line 1
  | .snMse => .line 1
  | .snPre => .line 1
  | .snNlin => .line 1
  | .snNquad => .line 1
  | .seedCmd => .device
  | .slotPeak => .bunch 1
  | .cwHigh => .bunch 4
  | .sbCoef => .device
  | .sbCoefP => .device
  | .sbShift => .device
  | .sbK => .device
  | .tDom => .device
  | .tAct => .device
  | .tSp => .device
  | .tSpLeft => .device
  | .tTau => .device
  | .tSince => .device
  | .tHold => .device
  | .tpoNext => .device
  | .tpoEnd => .device
  | .tpoOn => .device
  | .tpoDone => .device
  | .tLat => .device
  | .busTime => .device
  | .busTau => .device
  | .busAge => .device
  | .busTimeOn => .device
  | .slSf => .device
  | .slBw => .device
  | .slFc => .device
  | .slSync => .device
  | .slOfs => .device
  | .slPairs => .device
  | .slGasp => .device
  | .slAck => .device
  | .slTrig => .device
  | .slFw => .device
  | .slCur => .device
  | .slOpen => .device
  | .slNextSeq => .device
  | .slTxBuf => .device
  | .slRxBuf => .device
  | .slMetric => .device
  | .slHLen => .device
  | .slHType => .device
  | .slHSrc => .device
  | .slHSeq => .device
  | .slLastOn => .device
  | .slLastSrc => .device
  | .slLastSeq => .device
  | .slLastType => .device
  | .slFrozen => .device
  | .slGain => .device
  | .slReacq => .device
  | .slAckLate => .device
  | .slSym => .device
  | .slPos => .device
  | .offBunch => .rind
  | .offClk => .rind
  | .lpSelf => .rind
  | .offMgmt => .rind
  | .llTxSeq => .device
  | .llRxSeq => .device
  | .llAcc => .device
  | .llRepl => .device
  | .crOn => .device
  | .crGotH => .device
  | .crGotD => .device
  | .crUseH => .device
  | .crUseD => .device
  | .crGivH => .device
  | .crGivD => .device
  | .msixTab => .device
  | .msixPba => .device
  | .remap => .device
  | .mspare => .device
  | .ceWin => .device
  | .fillEnd => .device
  | .fillPat => .device
  | .fillMode => .device
  | .fillPre => .device
  | .lpTemp => .device
  | .capSt => .device
  | .capEntry => .device
  | .capTm => .device
  | .capPos => .device
  | .capBase => .device
  | .capDrained => .device
  | .capDrain => .device
  | .capRegBase => .device
  | .capRegSize => .device
  | .capTail => .device
  | .capIdx => .device
  | .capDead => .device
  | .trgCal => .device
  | .trgCalDev => .device
  | .tmsgPend => .device
  | .irqClaimed => .device
  | .prfSeq => .device
  | .prfLost => .device
  | .busTimeUn => .device
  | .enStep => .device
  | .enPar => .device
  | .enParReq => .device
  | .enParTag => .device
  | .enParUnit => .device
  | .enParGen => .device
  | .mkSeen => .device
  | .mkCount => .device
  | .mkRun => .device
  | .mkBad => .device
  | .lfHold => .device
  | .capSame => .device
  | .capLast => .device
  | .capAck => .device
  | .jFail => .ext
  | .jLevel => .ext
  | .jAttempt => .ext
  | .jFwLast => .ext
  | .jSeedLast => .ext
  | .jAbCount => .ext
  | .jAbFirst => .ext
  | .jAbLast => .ext
  | .jAbNew => .ext
  | .jSeq => .ext
  | .logPos => .ext
  | .undoNext => .ext
  | .undoSeq => .ext
  | .wear => .ext
  | .bnHeld => .device
  | .bnReload => .device
  | .corePc => .device
  | .coreHeld => .device
  | .coreWfi => .device
  | .faultN => .rind
  | .bootNext => .device
  | .seedSrc => .device
  | .seedAddr => .device
  | .seedWarm => .device
  | .seedHold => .device
  | .seedHdr => .device
  | .seedBad => .device
  | .seedDiff => .device
  | .secOp => .device
  | .secMr => .device
  | .secRes => .device
  | .attDst => .device
  | .lcCmd => .device
  | .lcIdle => .device
  | .lcCap => .device
  | .fwSvn => .device
  | .fwEntry => .device
  | .bootLevel => .device
  | .strapsTaken => .device
  | .cfgFlags => .device
  | .cfgWait => .device
  | .fgWant => .device
  | .pcieOn => .device
  | .retMode => .device
  | .retVer => .device
  | .thmSt => .device
  | .tsCode => .device
  | .tsSeen => .device
  | .tsSame => .device
  | .tsXf => .device
  | .tsGood => .device
  | .thmCool => .device
  | .thmLvl => .device
  | .pwrState => .rind
  | .pwrTarget => .device
  | .pwrFrom => .device
  | .wakeStep => .rind
  | .wakeAlt => .rind
  | .wakeRetry => .rind
  | .wakeHeld => .rind
  | .retryPend => .rind
  | .runClk => .device
  | .prfLat => .device
  | .winLog2 => .device
  | .lmsCount => .line 1
  | .multCount => .line 1
  | .fillBits => .slot 2
  | .prfFrac => .device
  | .brmUi => .device
  | .brmSlot => .device
  | .brmMark => .device
  | .brmScr => .device
  | .brmRun => .device
  | .brmLast => .device
  | .brmDebt => .device
  | .brmWin => .device
  | .brmPrbs => .device

/-- The reset value of a hidden variable in instance `n`: 0 but for the values in force that the spec gives. -/
def varRst (v : Var) (n : Nat) : Int :=
  match v with
  | .gainRes => -1
  | .txFir => if n % 7 = 2 then 192 else 0
  | .txDepth => 12
  | .txA => 2949
  | .txDelay => 32
  | .hlFfe => if n % 16 = 4 then 1024 else 0
  | .eqLin => if n % 112 = 4 then 0x400000 else 0
  | .eqPairI => ((n % 8 : Nat) : Int) - 2
  | .eqPairJ => ((n % 8 : Nat) : Int) - 2 + ((n % 32 / 8 : Nat) : Int)
  | .eqPre => 4
  | .eqPre0 => 4
  | .sbShift => 8
  | .sbK => 12
  | .slSf => 8
  | .slBw => 1
  | .slFc => 1
  | .slSync => 0x35
  | .slOfs => -4
  | .slPairs => 2
  | .msixTab => if n % 4 = 3 then 1 else 0
  | .corePc => 0x60000000
  | .coreHeld => if n % 4 = 0 then 0 else 1
  | .cfgWait => 500
  | .winLog2 => 40
  | _ => 0

/-- The variables in order, part 0. -/
def vars0 : List Var := [.rxGrid, .rxPip, .txGrid, .sliceOfs, .sliceGain, .sliceSkew, .facOfs, .facGain, .facSkew, .ofsSum, .ofsCnt, .ofsRes, .ofsDone, .gainSum, .gainCnt, .gainRes, .gainDone, .skewSum, .skewCnt, .skewRes, .skewDone, .visGain, .visSkew, .fgDisable, .afeSame, .cdrInteg, .cdrRem, .cdrSum, .cdrCnt, .cdrMean, .cdrDone, .cdrSkip, .cdrAuto, .cdrEst, .cdrStable, .cdrPhTarget, .cdrPhMoving, .folEver, .folFreq, .folNow]

/-- The variables in order, part 1. -/
def vars1 : List Var := [.speBusyPoll, .speFirst, .oeLow, .oeTaken, .oeSquelch, .oePin, .lkHoldoff, .lkTimer, .lkStable, .lkTileHold, .losOn, .losOff, .losOnTh, .losOffTh, .losAs, .losDe, .losNew, .portHold, .portStart, .loopNow, .loopPend, .amDelay, .fillRun, .frameOn, .stepLeft, .rearmDrop, .insEpisode, .txFir, .txPd, .txDepth, .txA, .txPdEn, .txMute, .txDelay, .txFine, .txExit, .txHist, .reseedSq, .txLine, .hlHist]

/-- The variables in order, part 2. -/
def vars2 : List Var := [.hlPreTx, .hlPreRx, .hlPatPos, .hlChkHist, .hlChkRun, .hlChkReg, .hlChkWin, .hlChkErr, .hlPrbs, .outerBad, .thermSq, .hlFfe, .hlH1, .hlPeakAcc, .hlEst, .hlStable, .hlCoef, .hlExit, .hlBest, .hlDir, .hlTap, .hlPhase, .hlKept, .hlHoldoff, .scrubEv, .decUnl, .adcUp, .eqPendSnap, .eqPendRestore, .eqPendReinit, .cwPend, .huntPos, .huntConf, .huntCand, .huntSym, .decPip, .cwSym, .lockZero, .lockArr, .lockBad]

/-- The variables in order, part 3. -/
def vars3 : List Var := [.cwNext, .pipDl, .pipRel, .dNext, .mpNext, .relCyc, .relNum, .markSym, .markSeen, .thermMute, .eqLin, .eqQuad, .eqPairI, .eqPairJ, .eqFb, .eqB, .eqMse, .eqMeas, .eqAcq, .eqHi, .eqLo, .eqDiv, .eqDivOn, .eqSlow, .eqPre, .eqPre0, .eqLin0, .eqProf, .eqWr, .eqWrV, .eqK, .eqVit, .eqHp, .eqHpips, .eqFlips, .eqBits, .eqDaFrom, .eqDaPause, .eqUe, .eqHoldPip]

/-- The variables in order, part 4. -/
def vars4 : List Var := [.eqProfIn, .eqSnapCnt, .eqNoUpd, .eqDaWas, .snLin, .snQuad, .snPairI, .snPairJ, .snFb, .snB, .snMse, .snPre, .snNlin, .snNquad, .seedCmd, .slotPeak, .cwHigh, .sbCoef, .sbCoefP, .sbShift, .sbK, .tDom, .tAct, .tSp, .tSpLeft, .tTau, .tSince, .tHold, .tpoNext, .tpoEnd, .tpoOn, .tpoDone, .tLat, .busTime, .busTau, .busAge, .busTimeOn, .slSf, .slBw, .slFc]

/-- The variables in order, part 5. -/
def vars5 : List Var := [.slSync, .slOfs, .slPairs, .slGasp, .slAck, .slTrig, .slFw, .slCur, .slOpen, .slNextSeq, .slTxBuf, .slRxBuf, .slMetric, .slHLen, .slHType, .slHSrc, .slHSeq, .slLastOn, .slLastSrc, .slLastSeq, .slLastType, .slFrozen, .slGain, .slReacq, .slAckLate, .slSym, .slPos, .offBunch, .offClk, .lpSelf, .offMgmt, .llTxSeq, .llRxSeq, .llAcc, .llRepl, .crOn, .crGotH, .crGotD, .crUseH, .crUseD]

/-- The variables in order, part 6. -/
def vars6 : List Var := [.crGivH, .crGivD, .msixTab, .msixPba, .remap, .mspare, .ceWin, .fillEnd, .fillPat, .fillMode, .fillPre, .lpTemp, .capSt, .capEntry, .capTm, .capPos, .capBase, .capDrained, .capDrain, .capRegBase, .capRegSize, .capTail, .capIdx, .capDead, .trgCal, .trgCalDev, .tmsgPend, .irqClaimed, .prfSeq, .prfLost, .busTimeUn, .enStep, .enPar, .enParReq, .enParTag, .enParUnit, .enParGen, .mkSeen, .mkCount, .mkRun]

/-- The variables in order, part 7. -/
def vars7 : List Var := [.mkBad, .lfHold, .capSame, .capLast, .capAck, .jFail, .jLevel, .jAttempt, .jFwLast, .jSeedLast, .jAbCount, .jAbFirst, .jAbLast, .jAbNew, .jSeq, .logPos, .undoNext, .undoSeq, .wear, .bnHeld, .bnReload, .corePc, .coreHeld, .coreWfi, .faultN, .bootNext, .seedSrc, .seedAddr, .seedWarm, .seedHold, .seedHdr, .seedBad, .seedDiff, .secOp, .secMr, .secRes, .attDst, .lcCmd, .lcIdle, .lcCap]

/-- The variables in order, part 8. -/
def vars8 : List Var := [.fwSvn, .fwEntry, .bootLevel, .strapsTaken, .cfgFlags, .cfgWait, .fgWant, .pcieOn, .retMode, .retVer, .thmSt, .tsCode, .tsSeen, .tsSame, .tsXf, .tsGood, .thmCool, .thmLvl, .pwrState, .pwrTarget, .pwrFrom, .wakeStep, .wakeAlt, .wakeRetry, .wakeHeld, .retryPend, .runClk, .prfLat, .winLog2, .lmsCount, .multCount, .fillBits, .prfFrac, .brmUi, .brmSlot, .brmMark, .brmScr, .brmRun, .brmLast, .brmDebt]

/-- The variables in order, part 9. -/
def vars9 : List Var := [.brmWin, .brmPrbs]

/-- The variables in the order of their numbers. -/
def allVars : List Var := vars0 ++ vars1 ++ vars2 ++ vars3 ++ vars4 ++ vars5 ++ vars6 ++ vars7 ++ vars8 ++ vars9

end Sys2Proof.Machine
end

