-- ==== Sys2Proof/Machine/State.lean ====
section
/-! DEFINITION. The state of the block as plain data: every register field, every hidden counter, mode and latch the
spec names, the reorder stages, queues, packets and journals, the addressed memories, and the queue of the commands
that are waiting. -/

namespace Sys2Proof.Machine

/-- A step stops with a fault for no command: every command of the table has an effect in the spec. The one
constructor is never raised; it keeps the type inhabited. Safe. -/
inductive Fault where
  /-- Raised by nothing. Safe. -/
  | never
deriving DecidableEq, Repr

/-- Why a command is refused. -/
inductive Refusal where
  /-- Raised by an arm of exec whose command has no meaning yet, with its mnemonic. Safe. -/
  | notModelled (mnemonic : String)
deriving DecidableEq, Repr

/-- What the block sends out, in the order sent: DAC codes, messages, frames, completions, read data, pulses. -/
inductive Out where
  /-- An MSI-X message: vector, address and data of its table entry (R300, R337). -/
  | msix (vec addr data : Nat)
  /-- A packet leaves on a Bramble port: its link-layer bytes (R320, R321). -/
  | packet (port : Nat) (bytes : List Byte)
  /-- An ACK, NAK or CREDIT block leaves on a Bramble port (R322). -/
  | linkBlock (port : Nat) (bytes : List Byte)
  /-- The line bits of a block slot, or of a tclk of PRBS31, on a lane of a Bramble port, first bit first (R308 to R310, R319). -/
  | brmLine (port lane : Nat) (bits : List Bool)
  /-- What a read returns to its initiator (R267, R290, R293, R295). -/
  | readData (init addr : Nat) (status : RdStatus) (data : Nat)
  /-- A completion of a host read at the PCIe endpoint: host tag, kind, dwords (R336). -/
  | pcieCpl (tag : Nat) (kind : PcieCpl) (data : List Nat)
  /-- An SPI target byte stream answers a READ: on four lines or one, the bytes from 0xA5 on: STATUS and dwords (R338). -/
  | spiRead (quad : Bool) (bytes : List Byte)
  /-- The byte an SPI STATUS command returns, on four lines or one (R338). -/
  | spiStatus (quad : Bool) (byte : Nat)
  /-- An I3C private read is answered, or NACKed (R339). -/
  | i3cRead (answer : Option (Nat × List Nat))
  /-- The provisional ID an I3C ENTDAA reads (R339). -/
  | i3cPid (pid : Nat)
  /-- An I3C in-band interrupt (R339). -/
  | ibi
  /-- A frame leaves on the trigger bus, its 11 bits first bit first (R257). -/
  | trigb (bits : List Bool)
  /-- One transmit pip of a line lane: the DAC codes (R98) and the differential outputs they give, in nV (R58). -/
  | dac (lane : Nat) (codes nv : List Int)
  /-- A released codeword handed to the gearbox: lane, number, word, FINAL flag (R125). -/
  | release (lane id : Nat) (word : List Bool) (final : Bool)
  /-- Bits of a released codeword patched in the hold buffer (R127). -/
  | patch (lane id : Nat) (word : List Bool)
  /-- The UNLOCKED indication of a pip (R115). -/
  | unlocked (lane : Nat)
  /-- An optical-engine SPI transaction starts: chip select, clock, full duplex, bits sent in order, bytes to receive (R69). -/
  | spiOe (cs : Nat) (clk : SpiClock) (duplex : Bool) (tx : List Bool) (rx : Nat)
  /-- A training request to the partner of a host lane (R145). -/
  | trainReq (host : Nat) (req : TrainReq)
  /-- The answer to a partner's request (R144). -/
  | trainResp (host : Nat) (resp : TrainResp)
  /-- How a released codeword ended: its status of R133, pass count and flips (R131, R133). -/
  | cwStatus (lane id status passes flips : Nat)
  /-- A trigger event is raised: its bit in CAP_SEQ_M0 to M2, M1 from 32 on, M2 from 64 on, and its stamp in 2^-16 ns of the active
  timescale (R244 to R246). -/
  | trigger (input : Nat) (stamp : Int)
  /-- A Sloe packet starts: lane, header and payload bytes with their CRCs, and its symbols after the preamble, each a
  direction (true up) and a shift (R197 to R202). -/
  | sloe (lane : Nat) (bytes : List Byte) (symbols : List (Bool × Nat))
  /-- A fine output of the sideband chain: lane, value in Q1.23, SAT, SETTLING, and its stamp, the ball time of its signal instant in 2^-16
  ns of the active timescale (R188). -/
  | fine (lane : Nat) (value : Int) (sat settling : Bool) (stamp : Int)
  /-- A fast output: lane, value, stamp (R187, R188). -/
  | fast (lane : Nat) (value : Int) (stamp : Int)
  /-- An edge of a time-pulse output (R240). -/
  | tpo (k : Nat) (level : Bool)
  /-- A frame leaves the framing stage of a port slot after the PTP rewriter (R165). -/
  | frame (slot : Nat) (dir : Dir) (bytes : List Byte)
  /-- A sleep beacon, or a wake beacon, leaves on a Bramble port (R378). -/
  | beacon (port : Nat) (wake : Bool)
  /-- A core takes an access fault: core, address, whether for a store (R287, R290, R293). -/
  | coreFault (core addr : Nat) (store : Bool)
  /-- A host transmitter sends symbols of this kind: the level codes after polarity and precoding, and the differential output they give
  after the FFE, in nV (R140, R142, R148, R405). -/
  | hostTx (host : Nat) (kind : HostKind) (syms : List Nat) (nv : List Int)
  /-- The training frames a host lane sends report its receiver ready, or not (R143, R146). -/
  | trainFrame (host : Nat) (ready : Bool)
  /-- Framing puts blocks into the stream of a slot in a direction (R161, R163). -/
  | blocks (slot : Nat) (dir : Dir) (kind : BlockKind) (count : Nat)
  /-- A codeword's bits leave the hold buffer (R159), and the gearbox returns its payload to these host lanes (R152, R153). -/
  | playOut (lane id : Nat) (word : List Bool) (hosts : List (Nat × List Bool))
deriving DecidableEq, Repr

/-- Everything the spec gives the block but its addressed memories and the command queue. -/
structure Dev where
  /-- The register fields, each under `fkey` (R8, R11). -/
  regs : Tab Nat
  /-- The hidden variables, each under its number and instance. -/
  vars : Tab Int
  /-- What has been sent out, oldest first (the model's own, assumption 5). -/
  out : List Out
  /-- How many free values have been drawn (the model's own, assumption 7). -/
  fresh : Nat
  /-- The seed in force, bunch 0 and bunch 1 (R29). -/
  bunch0 : BunchDesc
  bunch1 : BunchDesc
  /-- The codewords in the reorder stages of all lanes, in arrival order (R118). -/
  cws : List Codeword
  /-- The pips the equalisers keep, newest first (R89). -/
  eqPips : List EqPip
  /-- The decisions of the codewords whose decoding has ended, oldest first, until the equaliser has used them (R89). -/
  finals : List CwFinal
  /-- The sideband engine's state of each lane whose chain runs (R182). -/
  sb : List SbLane
  /-- What loopbacks have fed back and no transmit pip has taken (R177). -/
  loopBits : List LoopBits
  /-- The firmware packets of the Sloe transmitters (R205). -/
  sloeFw : List SloePkt
  /-- The packets that the Sloe transmitters are sending (R199, R205). -/
  sloeTx : List SloeTx
  /-- The stamp queue, head first: the four words of each entry (R237). -/
  sq : List (List Nat)
  /-- The tile reloads, the running one first (R46). -/
  reloads : List TileReload
  /-- The comparator sets that evaluate (R243). -/
  trg : List TrgSet
  /-- The trigger events that have not reached the sequencer, oldest first: input and stamp (R244 to R246). -/
  events : List (Nat × Int)
  /-- The units of the capture streams that wait to be written, oldest first (R251). -/
  capQ : List CapWait
  /-- The gaps in progress of the capture streams (R252). -/
  capGaps : List CapGap
  /-- Start of each record in the ring, in 64-byte units written since arm, oldest first (R250). -/
  capRecs : List Nat
  /-- The driver's frames that wait, TYPE and TAG, head first (R258). -/
  trigbQ : List (Nat × Nat)
  /-- The bus events that wait for their fleet instant: TYPE, TAG, flagged uncalibrated (R259, R260). -/
  busEvs : List (Nat × Nat × Bool)
  /-- The merge buffers' entries, oldest first (R276). -/
  merge : List MergeEnt
  /-- The uncorrectable-error log, head first (R273). -/
  ueLog : List UeEnt
  /-- Management SRAM words whose last scrub passes gave corrected errors, with how many in a row (R274). -/
  ceStreak : List (Nat × Nat)
  /-- Management SRAM words that have given an uncorrectable error since reset (R274). -/
  ueSeen : List Nat
  /-- The watch lists: channel and line, oldest first (R275). -/
  watch : List (Nat × Nat)
  /-- The link-layer blocks that wait for a slot on a Bramble port, oldest first (R320). -/
  brmFifo : List BrmBlock
  /-- Packets waiting to be sent, oldest first (R323, R324). -/
  txWait : List TxEnt
  /-- The replay buffers: port, SEQ and packet, oldest first (R323). -/
  replay : List (Nat × Nat × Pkt)
  /-- The non-posted requests tracked down a port (R330). -/
  tracked : List (Nat × Pkt)
  /-- The outstanding requests of the device's own units (R329). -/
  ownReqs : List OwnReq
  /-- The bridge's request, its result (STATUS and dwords) once known, and the requests that wait (R338, R340). -/
  brCur : Option BrReq
  brRes : Option (Nat × List Nat)
  brWait : List BrReq
  /-- The result an I3C private read returns (R339). -/
  i3cRes : Option (Nat × List Nat)
  /-- The requests that wait at the ports of bunches held in reset, oldest first (R296). -/
  portWait : List WaitReq
  /-- The undo descriptors of the Stone's journal (R348). -/
  undo : List UndoDesc
  /-- The page write that executes, and the queue of the others, head first (R350). -/
  stnCur : Option StnRun
  stnQ : List StnEnt
  /-- The security fuses (R355). -/
  fuse : Fuses
  /-- The measurement registers MR0 to MR7, 64 bytes each (R361). -/
  mrs : List (List Byte)
  /-- The seed loader's private buffer (R37). -/
  seedBuf : List Byte
  /-- The bunch descriptions of the image that the load in progress has accepted, bunch 0 first (R37). -/
  seedNew : List BunchDesc
  /-- The digest with which the running SEC command will extend its register (R361). -/
  secDig : List Byte
  /-- The report in preparation: the bytes before its signature, copied at START (R364). -/
  attRep : List Byte
  /-- The retention image: hidden variables and register fields kept for a wake (R375). -/
  retVars : Tab Int
  retRegs : Tab Nat
deriving DecidableEq, Repr

/-- The state of the block. -/
structure State where
  dev : Dev
  mem : Memory
  /-- The commands that are waiting, first in, first out. -/
  pending : List Instr
deriving DecidableEq, Repr

/-- The fuses of a device in BLANK; what manufacture writes is not given and reads zero here (assumption 29). -/
def fusesBlank : Fuses :=
  { vendor := List.replicate 32 0, serial := 0, lc := 0, wiped := 0, uds := none, owner0 := none, owner1 := none, rev0 := false,
    rev1 := false, svn := 0 }

/-- The registers and hidden state at the widest reset (R11). -/
def Dev.reset : Dev :=
  { regs := [], vars := [], out := [], fresh := 0, bunch0 := BunchDesc.none, bunch1 := BunchDesc.none, cws := [],
    eqPips := [], finals := [], sb := [], sq := [], loopBits := [], sloeFw := [], sloeTx := [], reloads := [], trg := [], events := [], capQ := [], capGaps := [], capRecs := [],
    trigbQ := [], busEvs := [], merge := [], ueLog := [], ceStreak := [], ueSeen := [], watch := [], brmFifo := [], txWait := [],
    replay := [], tracked := [], ownReqs := [], brCur := none, brRes := none, brWait := [],
    i3cRes := none, portWait := [], undo := [], stnCur := none, stnQ := [], fuse := fusesBlank, mrs := List.replicate 8 (List.replicate 64 0),
    seedBuf := [], seedNew := [], secDig := [], attRep := [], retVars := [], retRegs := [] }

/-- The block right after reset: every field at its reset value, memories with nothing listed, no command waiting. -/
def State.reset : State := { dev := Dev.reset, mem := Memory.empty, pending := [] }

end Sys2Proof.Machine
end

