-- ==== Sys2Proof/Machine/Ops.lean ====
section
/-! DEFINITION. The named operations on register fields and hidden variables through which every command acts, and
the end of a command. -/

namespace Sys2Proof.Machine

/-- The outcome of a command. -/
abbrev Res := Host.Outcome State Fault Refusal

/-- How many low bits of a field are not reserved in instance `n` of its register (R7): the top word of a 94-bit time (R223), the third
mask word of CAP_SEQ_M, the upper half of LL_TX_FIR3, the high words of 40-bit local addresses. -/
def fldBits (f : Fld) (n : Nat) : Nat :=
  match f.reg with
  | .TIME_SET | .TIME_TPO_START | .CAP_TMATCH => if n % 3 = 2 then 30 else f.w
  | .CAP_SEQ_M => if n % 3 = 2 then 3 else f.w
  | .BOOT_VEC_HI | .STN_SRC_HI | .SEC_SRC_HI | .SEC_ATT_DST_HI | .PRF_SNAP_BASE_HI => 8
  | .LL_TX_FIR => if n % 4 = 3 ∧ f.lo = 16 then 0 else f.w
  | _ => f.w

/-- Truth as a field value. -/
def b2n (b : Bool) : Nat := if b then 1 else 0

/-- The value of a field in instance `n` of its register. -/
def Dev.get (d : Dev) (f : Fld) (n : Nat) : Nat := tabGet d.regs (fkey f n) (rstAt f.rst n)

/-- Set a field to a value, cut to the field's width. -/
def Dev.set (d : Dev) (f : Fld) (n v : Nat) : Dev :=
  { d with regs := tabSet d.regs (fkey f n) (v % 2 ^ f.w) (rstAt f.rst n) }

/-- A one-bit field as a truth value. -/
def Dev.on (d : Dev) (f : Fld) (n : Nat) : Bool := d.get f n != 0

/-- Set a one-bit field to a truth value. -/
def Dev.put (d : Dev) (f : Fld) (n : Nat) (b : Bool) : Dev := d.set f n (b2n b)

/-- The event sets a sticky bit (R9: a setting event wins). -/
def Dev.ev (d : Dev) (f : Fld) (n : Nat) : Dev := d.set f n 1

/-- Set the event bit when the condition holds. -/
def Dev.evIf (d : Dev) (c : Bool) (f : Fld) (n : Nat) : Dev := if c then d.ev f n else d

/-- Set one bit of a field to a truth value. -/
def Dev.setBit (d : Dev) (f : Fld) (n k : Nat) (b : Bool) : Dev :=
  let v := d.get f n
  d.set f n (v - (if v.testBit k then 2 ^ k else 0) + (if b then 2 ^ k else 0))

/-- Count up, saturating at the field's largest value. -/
def Dev.count (d : Dev) (f : Fld) (n k : Nat) : Dev := d.set f n (min (d.get f n + k) (2 ^ f.w - 1))

/-- Signed reading of a `w`-bit field value (R4). -/
def sext (w v : Nat) : Int := if v < 2 ^ (w - 1) then (v : Int) else (v : Int) - (2 ^ w : Nat)

/-- Two's complement of an integer in `w` bits (R4). -/
def twos (w : Nat) (i : Int) : Nat := (i % ((2 ^ w : Nat) : Int)).toNat

/-- A field read as two's complement (R4). -/
def Dev.geti (d : Dev) (f : Fld) (n : Nat) : Int := sext f.w (d.get f n)

/-- Set a field to a signed value (R4). -/
def Dev.seti (d : Dev) (f : Fld) (n : Nat) (i : Int) : Dev := d.set f n (twos f.w i)

/-- The key of a hidden variable. -/
def vkey (v : Var) (n : Nat) : Key := (v.ctorIdx, n)

/-- The value of a hidden variable. -/
def Dev.v (d : Dev) (x : Var) (n : Nat) : Int := tabGet d.vars (vkey x n) (varRst x n)

/-- Set a hidden variable. -/
def Dev.sv (d : Dev) (x : Var) (n : Nat) (i : Int) : Dev :=
  { d with vars := tabSet d.vars (vkey x n) i (varRst x n) }

/-- A hidden flag. -/
def Dev.flag (d : Dev) (x : Var) (n : Nat) : Bool := d.v x n != 0

/-- Set a hidden flag. -/
def Dev.sflag (d : Dev) (x : Var) (n : Nat) (b : Bool) : Dev := d.sv x n (if b then 1 else 0)

/-- Send something out. -/
def Dev.emit (d : Dev) (o : Out) : Dev := { d with out := d.out ++ [o] }

/-- The next free value, below `bound` (assumption 7). -/
def Dev.freeNat (d : Dev) (bound : Nat) : Nat := Config.freeValue d.fresh % bound

/-- A free value has been drawn. -/
def Dev.drew (d : Dev) : Dev := { d with fresh := d.fresh + 1 }

/-- Do something for each item of a list, in order. -/
def Dev.each {α : Type} (d : Dev) (l : List α) (f : α → Dev → Dev) : Dev := l.foldl (fun e a => f a e) d

/-- Do something when a condition holds. -/
def Dev.when (d : Dev) (c : Bool) (f : Dev → Dev) : Dev := if c then f d else d

/-- An RWL field is locked: by TOP_LOCK, or by the life-cycle state, of which the spec does not say which field it locks in which
state (R8; DESIGN CHOICE, assumption 70). -/
def Dev.rwlLocked (d : Dev) (f : Fld) : Bool := d.on TOP_LOCK_LOCK 0 || Config.lcLocks d.fuse.lc (fkey f 0).1

/-- Limit an integer to a range. -/
def clampI (lo hi x : Int) : Int := max lo (min hi x)

/-- Limit a natural number to a range. -/
def clampN (lo hi x : Nat) : Nat := max lo (min hi x)

/-- Magnitude of an integer. -/
def absI (x : Int) : Int := x.natAbs

/-- Division rounded to nearest, ties away from zero (R100). -/
def rdiv (a : Int) (b : Nat) : Int :=
  if 0 ≤ a then (2 * a + b) / (2 * b) else -((2 * (-a) + b) / (2 * b))

end Sys2Proof.Machine
end

