-- ==== Sys2Proof/Machine/Packet.lean ====
section
/-! DEFINITION. Fleet packets as bytes, routing by device number, and the transmit side of a Bramble port: credits, SEQ and
the replay buffer (R320 to R325, R333). Ports are numbered 0 upstream, 1 and 2 downstream (R307). -/

namespace Sys2Proof.Machine

/-- A CRC of `w` bits over bytes taken most significant bit first (R202). -/
def crcBits (w poly init : Nat) (bytes : List Byte) : Nat :=
  bytes.foldl (fun c b =>
    (List.range 8).foldl (fun x k =>
      let top := Nat.xor (x / 2 ^ (w - 1)) (b2n (b.toNat.testBit (7 - k)))
      if top = 1 then Nat.xor (2 * x % 2 ^ w) poly else 2 * x % 2 ^ w) c) init

/-- CRC-8 (R202). -/
def crc8 (b : List Byte) : Nat := crcBits 8 0x07 0 b

/-- CRC-16 (R202). -/
def crc16 (b : List Byte) : Nat := crcBits 16 0x1021 0xFFFF b

/-- One byte of the Ethernet CRC's shift register, without initial value or final XOR. -/
def crc32Byte (c : Nat) (b : Nat) : Nat :=
  (List.range 8).foldl (fun x _ => if x % 2 = 1 then Nat.xor (x / 2) 0xEDB88320 else x / 2) (Nat.xor c b)

/-- The CRC-32 of the IEEE 802.3 FCS (R320). -/
def crc32 (l : List Byte) : Nat := Nat.xor (l.foldl (fun c b => crc32Byte c b.toNat) 0xFFFFFFFF) 0xFFFFFFFF

/-- The little-endian `n` bytes of a number. -/
def leBytes (n v : Nat) : List Byte := (List.range n).map (fun k => BitVec.ofNat 8 (v / 2 ^ (8 * k)))

/-- The number little-endian bytes spell. -/
def leNat : List Byte → Nat
  | [] => 0
  | b :: bs => b.toNat + 256 * leNat bs

/-- The packet is a completion. -/
def pktIsCpl (p : Pkt) : Bool := p.typ == 5 || p.typ == 6

/-- The packet carries a payload (R320). -/
def pktHasData (p : Pkt) : Bool := p.typ == 2 || p.typ == 3 || p.typ == 4 || p.typ == 6

/-- The class of a packet: 0 P, 1 NP, 2 CPL (R320). -/
def pktCls (p : Pkt) : Nat := if (pktIsCpl p) then 2 else if p.typ = 1 ∨ p.typ = 4 then 1 else 0

/-- Data credits a packet takes, in units of 64 bytes; none for class NP (R324). -/
def pktDataUnits (p : Pkt) : Nat := if (pktCls p) = 1 ∨ !(pktHasData p) then 0 else (4 * p.data.length + 63) / 64

/-- The header and payload of a packet (R320, R321). -/
def pktBody (p : Pkt) : List Byte :=
  leBytes 1 p.typ ++ leBytes 1 (if (pktIsCpl p) then p.status else p.be) ++ leBytes 2 (p.len % 1024 + 1024 * p.req)
    ++ leBytes 2 (p.tag + 1024 * p.unit) ++ leBytes 1 p.gen ++ leBytes 1 p.code ++ leBytes 6 p.addr ++ leBytes 2 0
    ++ (if (pktHasData p) then p.data.flatMap (leBytes 4) ++ (if p.len % 2 = 1 then leBytes 4 0 else []) else [])

/-- The link-layer bytes of a packet sent with a SEQ (R320). -/
def pktBytes (p : Pkt) (seq : Nat) : List Byte :=
  let b := (pktBody p) ++ leBytes 2 seq ++ leBytes 2 0
  b ++ leBytes 4 (crc32 b)

/-- Bytes a packet takes in the replay buffer: header, payload in whole blocks, trailer. -/
def pktSize (p : Pkt) : Nat := 24 + (if (pktHasData p) then (p.data.length + 1) / 2 * 8 else 0)

/-- The device's own number (R332). -/
def Dev.devNum (d : Dev) : Nat := d.get BRM_FSTATUS_DEVNUM 0

/-- The device's generation (R294). -/
def Dev.devGen (d : Dev) : Nat := d.get TOP_GEN_GEN 0 % 256

/-- Where a request or completion for a device goes (R333): a port, here, or nowhere. -/
inductive Route where
  | port (p : Nat)
  | here
  | none
deriving DecidableEq, Repr

/-- The route to device `v` (R333). -/
def Dev.route (d : Dev) (v : Nat) : Route :=
  let base := d.devNum
  let s0 := d.get BRM_ROUTE_S0 0
  let s1 := d.get BRM_ROUTE_S1 0
  if !(d.on BRM_FSTATUS_NUMBERED 0) then .none
  else if v = base then .here
  else if base < v ∧ v ≤ base + s0 then .port 1
  else if base + s0 < v ∧ v ≤ base + s0 + s1 then .port 2
  else if d.on BRM_FCTRL_ROOT 0 then .none
  else .port 0

/-- Port `p` is in ACTIVE (R313). -/
def Dev.brmActive (d : Dev) (p : Nat) : Bool := d.get BRM_PSTATUS_STATE p == 4

/-- The credits allow the packet on port `p` (R324). -/
def Dev.creditOk (d : Dev) (p : Nat) (k : Pkt) : Bool :=
  let i := 3 * p + (pktCls k)
  d.flag .crOn i && decide (1 ≤ (d.v .crGotH i - d.v .crUseH i) % 65536)
    && decide (((pktDataUnits k) : Int) ≤ (d.v .crGotD i - d.v .crUseD i) % 65536)

/-- The replay buffer of port `p` takes the packet: 64 KiB, 2047 packets (R323). -/
def Dev.replayOk (d : Dev) (p : Nat) (k : Pkt) : Bool :=
  let mine := d.replay.filter (fun r => r.1 == p)
  decide (mine.length < 2047) && decide ((mine.map (fun r => (pktSize r.2.2))).sum + (pktSize k) ≤ 65536)

/-- A non-posted request fits among the 1024 tracked down a downstream port (R330). -/
def Dev.trackOk (d : Dev) (p : Nat) (k : Pkt) : Bool :=
  decide ((pktCls k) ≠ 1 ∨ p = 0 ∨ (d.tracked.filter (fun t => t.1 == p)).length < 1024)

/-- Bytes in groups of eight. -/
def inBlocks : Nat → List Byte → List (List Byte)
  | 0, _ => []
  | k + 1, b => b.take 8 :: inBlocks k (b.drop 8)

/-- Link-layer bytes of a packet (`pkt`) or of an ACK, NAK or CREDIT leave on a port: their blocks wait for slots (R320). -/
def Dev.linkOut (d : Dev) (p : Nat) (pkt : Bool) (b : List Byte) : Dev :=
  ({ d with brmFifo := d.brmFifo ++ (inBlocks (b.length / 8) b).map (fun x => ⟨p, pkt, x⟩) } : Dev).emit
    (if pkt then .packet p b else .linkBlock p b)

/-- Send a packet on port `p` now: its SEQ, its replay entry, the credits it uses, its tracking (R323, R324, R330). -/
def Dev.sendNow (d : Dev) (p : Nat) (k : Pkt) : Dev :=
  let seq := (d.v .llTxSeq p).toNat
  let i := 3 * p + (pktCls k)
  let d1 := ((d.sv .llTxSeq p ((seq + 1) % 4096 : Nat)).sv .crUseH i ((d.v .crUseH i + 1) % 65536)).sv .crUseD i
    ((d.v .crUseD i + ((pktDataUnits k) : Nat)) % 65536)
  let d2 : Dev := { d1 with
    replay := d1.replay ++ [(p, seq, k)],
    tracked := if (pktCls k) = 1 ∧ p ≠ 0 then d1.tracked ++ [(p, k)] else d1.tracked }
  d2.linkOut p true ((pktBytes k) seq)

/-- An ACK, NAK or CREDIT block with its CRC-16 (R322). -/
def linkBytes (typ b1 h w : Nat) : List Byte :=
  let b := leBytes 1 typ ++ leBytes 1 b1 ++ leBytes 2 h ++ leBytes 2 w
  b ++ leBytes 2 (crc16 b)

/-- Grant the partner of port `p` credits of a class: a CREDIT block with the new totals (R322, R324). -/
def Dev.grant (d : Dev) (p c h u : Nat) : Dev :=
  let gh := (d.v .crGivH (3 * p + c) + (h : Nat)) % 65536
  let gd := (d.v .crGivD (3 * p + c) + (u : Nat)) % 65536
  ((d.sv .crGivH (3 * p + c) gh).sv .crGivD (3 * p + c) gd).linkOut p false (linkBytes 0x12 c gh.toNat gd.toNat)

/-- The credits of a packet go back to the port it came in on, when it is forwarded or consumed (R324). -/
def Dev.giveBack (d : Dev) (p : Nat) (k : Pkt) : Dev :=
  if d.brmActive p then d.grant p (pktCls k) 1 (pktDataUnits k) else d

/-- A waiting packet is sent or kept (R323 to R325); `blocked` are the classes that may not pass what waits before. -/
def Dev.pumpOne (p : Nat) (acc : Dev × List TxEnt × List Nat) (e : TxEnt) : Dev × List TxEnt × List Nat :=
  let (d, kept, blocked) := acc
  let c := pktCls e.pkt
  if e.port = p ∧ !(blocked.contains c) ∧ d.creditOk p e.pkt ∧ d.replayOk p e.pkt ∧ d.trackOk p e.pkt then
    let d1 := d.sendNow p e.pkt
    ((match e.ingr with | some i => d1.giveBack i e.pkt | none => d1), kept, blocked)
  else (d, kept ++ [e], if e.port = p then (if c = 0 then [0, 1] else [c]) ++ blocked else blocked)

/-- Send what may be sent of the packets waiting for port `p`. -/
def Dev.pump (d : Dev) (p : Nat) : Dev :=
  if d.brmActive p then
    let r := d.txWait.foldl (Dev.pumpOne p) (d, [], [])
    { r.1 with txWait := r.2.1 }
  else d

/-- A packet is queued on port `p` and sent when it may be (R323, R324); `i` is the port it came in on. -/
def Dev.sendPort (d : Dev) (p : Nat) (i : Option Nat) (k : Pkt) : Dev :=
  ({ d with txWait := d.txWait ++ [⟨p, i, k⟩] } : Dev).pump p

/-- A packet goes toward device `v`; where no port leads there it is dropped. -/
def Dev.sendTo (d : Dev) (v : Nat) (k : Pkt) : Dev :=
  match d.route v with
  | .port p => d.sendPort p none k
  | _ => d

/-- A posted message of one dword to device `v` (R334). -/
def Dev.message (d : Dev) (code v dword : Nat) : Pkt :=
  { typ := 3, be := 0xF, len := 1, req := d.devNum, unit := 3, tag := 0, gen := d.devGen, code := code,
    addr := v * 2 ^ 40, status := 0, data := [dword] }

/-- A message on an MSI-X vector through its table entry; a masked entry sets its pending bit instead (R337). -/
def Dev.msixSend (d : Dev) (v : Nat) : Dev :=
  if d.v .msixTab (4 * v + 3) % 2 = 1 then d.sv .msixPba v 1
  else d.emit (.msix v ((d.v .msixTab (4 * v)).toNat + (d.v .msixTab (4 * v + 1)).toNat * 2 ^ 32) (d.v .msixTab (4 * v + 2)).toNat)

/-- The root takes an interrupt message: the sender's bit of BRM_FIRQ, and MSI-X on the vector (R334). -/
def Dev.rootIrq (d : Dev) (sender vec : Nat) : Dev :=
  ((if sender < 32 then d.setBit BRM_FIRQ_LO_DEV 0 sender true else d.setBit BRM_FIRQ_HI_DEV 0 (sender - 32) true)).msixSend vec

/-- The interrupt message of source `n` for the fleet host (R300, R334). -/
def Dev.fleetIrq (d : Dev) (n vec : Nat) : Dev :=
  if d.on BRM_FCTRL_ROOT 0 then d.rootIrq d.devNum vec
  else d.sendTo 0 (d.message 2 0 (d.devNum + 2 ^ 8 * n + 2 ^ 16 * vec))

/-- Increment the byte `k` of a generation register (R294). -/
def Dev.genUp (d : Dev) (f : Fld) (n k : Nat) : Dev :=
  let v := d.get f n
  let g := v / 2 ^ (8 * k) % 256
  d.set f n (v - g * 2 ^ (8 * k) + (g + 1) % 256 * 2 ^ (8 * k))

end Sys2Proof.Machine
end

