-- ==== Sys2Proof/Machine/Keccak.lean ====
section
/-! DEFINITION. SHAKE256 of FIPS 202, which the device's Keccak engine computes (R360): digests of keys and images (R355,
R361). The engine's state is five planes (y from 0 to 4) of five 64-bit lanes (x from 0 to 4). -/

namespace Sys2Proof.Machine

/-- A plane of the state: its lanes in the order of x. -/
abbrev Plane := List (BitVec 64)

/-- Lane `x` of plane `y`. -/
def sponge.lane (s : List Plane) (x y : Nat) : BitVec 64 := (s.getD y []).getD x 0

/-- The planes' sum lane by lane. -/
def planeXor (p q : Plane) : Plane := List.zipWith (· ^^^ ·) p q

/-- θ: every lane takes the parities of the column before it and of the column after it, the latter turned by one bit. -/
def sponge.mixColumns (s : List Plane) : List Plane :=
  let parity := s.foldl planeXor (List.replicate 5 0)
  s.map (planeXor (planeXor (parity.rotateLeft 4) ((parity.rotateLeft 1).map (·.rotateLeft 1))))

/-- The place after `t` moves of ρ's walk, which begins at x = 1, y = 0. -/
def sponge.walk : Nat → Nat × Nat
  | 0 => (1, 0)
  | t + 1 => let p := sponge.walk t; (p.2, (2 * p.1 + 3 * p.2) % 5)

/-- How far ρ turns a lane: the triangular number of the move that reaches its place; the lane at the origin, which the walk never
reaches, stays. -/
def sponge.turn (p : Nat × Nat) : Nat :=
  match (List.range 24).find? (fun t => sponge.walk t == p) with
  | some t => (t + 1) * (t + 2) / 2
  | none => 0

/-- ρ and π: lane (x, y) is turned and moves to (y, 2x + 3y), so that place (i, j) takes the lane of (i + 3j, i). -/
def sponge.scatter (s : List Plane) : List Plane :=
  (List.range 5).map (fun j => (List.range 5).map (fun i =>
    (sponge.lane s ((i + 3 * j) % 5) i).rotateLeft (sponge.turn ((i + 3 * j) % 5, i))))

/-- χ on one plane: a lane changes where the next is 0 and the one after it is 1. -/
def planeChi (p : Plane) : Plane := planeXor p (List.zipWith (fun a b => ~~~a &&& b) (p.rotateLeft 1) (p.rotateLeft 2))

/-- The feedback register of ι after `k` clocks: bits of a polynomial modulo x⁸ + x⁶ + x⁵ + x⁴ + 1. -/
def sponge.lfsr : Nat → BitVec 9
  | 0 => 1
  | k + 1 => let r := sponge.lfsr k <<< 1; if r.getLsbD 8 then r ^^^ 0x171 else r

/-- ι's constant of round `r`: seven bits of the register at the places 2^j - 1. -/
def sponge.constant (r : Nat) : BitVec 64 :=
  (List.range 7).foldl (fun c j => c ^^^ (BitVec.ofBool ((sponge.lfsr (7 * r + j)).getLsbD 0)).setWidth 64 <<< (2 ^ j - 1)) 0

/-- One round of the permutation. -/
def sponge.round (s : List Plane) (r : Nat) : List Plane :=
  match (sponge.scatter (sponge.mixColumns s)).map planeChi with
  | (l :: p) :: q => ((l ^^^ sponge.constant r) :: p) :: q
  | q => q

/-- The permutation: 24 rounds. -/
def sponge.permute (s : List Plane) : List Plane := (List.range 24).foldl sponge.round s

/-- The bytes of the rate, 136, added into the state: byte k is byte k mod 8 of lane (k div 8) counted along the planes. -/
def sponge.add (s : List Plane) (b : List Byte) : List Plane :=
  s.mapIdx (fun y p => p.mapIdx (fun x l => l ^^^ BitVec.ofNat 64 (leNat ((b.drop (8 * (5 * y + x))).take 8))))

/-- SHAKE256 of a message, `n` bytes: the padded message enters block by block, and each further permutation gives 136 bytes. -/
def shake256 (m : List Byte) (n : Nat) : List Byte :=
  let gap := 135 - m.length % 136
  let tail : List Byte := if gap = 0 then [0x9F] else [0x1F] ++ List.replicate (gap - 1) 0 ++ [0x80]
  let full := m ++ tail
  let start := (List.range (full.length / 136)).foldl (fun s k => sponge.permute (sponge.add s ((full.drop (136 * k)).take 136)))
    (List.replicate 5 (List.replicate 5 0))
  let out := (List.range ((n + 135) / 136)).foldl (fun (acc : List Byte × List Plane) _ =>
    (acc.1 ++ (acc.2.flatten.take 17).flatMap (fun l => leBytes 8 l.toNat), sponge.permute acc.2)) ([], start)
  out.1.take n

end Sys2Proof.Machine
end

