-- ==== Sys2Proof/Machine/SloeCode.lean ====
section
/-! DEFINITION. The coding of Sloe packets (R197 to R202): CRCs, extended Hamming codewords, the block interleave, and the
symbols that carry them. -/

namespace Sys2Proof.Machine

/-- The extended Hamming codeword of a nibble, bit k of the number being codeword bit k (R201). -/
def hamEncode (v : Nat) : Nat :=
  let b := fun (i : Nat) => b2n (v.testBit i)
  let p0 := (b 0 + b 1 + b 3) % 2
  let p1 := (b 0 + b 2 + b 3) % 2
  let p2 := (b 1 + b 2 + b 3) % 2
  let p3 := (b 0 + b 1 + b 2 + b 3 + p0 + p1 + p2) % 2
  v % 16 + 16 * p0 + 32 * p1 + 64 * p2 + 128 * p3

/-- Number of ones in 8 bits. -/
def ones8 (x : Nat) : Nat := ((List.range 8).filter (fun i => x.testBit i)).length

/-- The nibble of a received codeword: one bit error corrected, else its data bits as received (R201). -/
def hamDecode (w : Nat) : Nat :=
  match (List.range 16).find? (fun v => decide (ones8 (Nat.xor (hamEncode v) w) ≤ 1)) with
  | some v => v
  | none => w % 16

/-- The codewords of bytes, low nibble first (R201). -/
def hamBytes (l : List Byte) : List Nat := l.flatMap (fun b => [hamEncode (b.toNat % 16), hamEncode (b.toNat / 16)])

/-- The 8 symbols of a block of R codewords, each a number of R bits (R201). -/
def blockSyms (cws : List Nat) : List Nat :=
  let r := cws.length
  (List.range 8).map (fun j => (List.range r).foldl (fun a i => 2 * a + b2n ((cws.getD ((i + j) % r) 0).testBit j)) 0)

/-- The R codewords of a block of 8 symbols. -/
def symsBlock (r : Nat) (syms : List Nat) : List Nat :=
  (List.range r).map (fun c => (List.range 8).foldl (fun a j =>
    a + 2 ^ j * b2n ((syms.getD j 0).testBit (r - 1 - (c + r - j % r) % r))) 0)

/-- The value whose Gray code is `v` (R197). -/
def grayInv (v : Nat) : Nat := (List.range 13).foldl (fun a k => Nat.xor a (v / 2 ^ k)) 0

/-- The Gray code of a value (R197). -/
def gray (k : Nat) : Nat := Nat.xor k (k / 2)

/-- Bits per data symbol (R198). -/
def sfBits (sf : Nat) : Nat := if sf = 6 then 7 else sf

/-- A data symbol: direction (true up) and shift (R197). -/
def dataSym (sf v : Nat) : Bool × Nat := if sf = 6 then (!(v.testBit 6), grayInv (v % 64)) else (true, grayInv v)

/-- The value a data symbol carries. -/
def symData (sf : Nat) (s : Bool × Nat) : Nat := if sf = 6 then gray s.2 % 64 + (if s.1 then 0 else 64) else gray s.2

/-- Cut a list into pieces of `r`, the last padded. -/
def pieces (r pad : Nat) : Nat → List Nat → List (List Nat)
  | 0, _ => []
  | fuel + 1, l => if l = [] then [] else ((l.take r) ++ List.replicate (r - (l.take r).length) pad) :: pieces r pad fuel (l.drop r)

/-- The 6 header bytes (R200). -/
def sloeHeader (len typ : Nat) (ackReq retx : Bool) (src seq : Nat) : List Byte :=
  let h : List Byte := [BitVec.ofNat 8 len, BitVec.ofNat 8 (typ % 64 + 64 * b2n ackReq + 128 * b2n retx), BitVec.ofNat 8 src,
    BitVec.ofNat 8 (src / 256), BitVec.ofNat 8 seq]
  h ++ [BitVec.ofNat 8 (crc8 h)]

/-- The payload bytes followed by the CRC-16, low byte first; none for an empty payload (R201, R202). -/
def sloePayload (p : List Byte) : List Byte :=
  if p = [] then [] else p ++ [BitVec.ofNat 8 (crc16 p), BitVec.ofNat 8 (crc16 p / 256)]

/-- The sync shifts of a SYNC byte; a nibble of 0 acts as 1, 15 as 14 (R197, SLOE_LCFG). -/
def syncShift (sf nib : Nat) : Nat := clampN 1 14 (nib % 16) * 2 ^ sf / 16

/-- The symbols of a packet (R197, R199, R201): preamble pairs, sync, header, payload. -/
def sloeSymbols (sf pairs sync : Nat) (hdr pay : List Byte) : List (Bool × Nat) :=
  (List.range (2 * pairs)).map (fun i => (i % 2 == 0, 0))
    ++ [(true, syncShift sf (sync / 16)), (true, syncShift sf sync)]
    ++ (pieces 6 0 2 (hamBytes hdr)).flatMap (fun c => (blockSyms c).map (fun v => (true, 2 ^ (sf - 6) * grayInv v)))
    ++ (pieces (sfBits sf) (hamEncode 0) 600 (hamBytes pay)).flatMap (fun c => (blockSyms c).map (dataSym sf))

/-- Bytes of pairs of nibbles, low nibble first. -/
def nibBytes : List Nat → List Byte
  | a :: b :: l => BitVec.ofNat 8 (a + 16 * b) :: nibBytes l
  | _ => []

/-- The 6 header bytes of 16 header symbols, each given by its shift (R197, R201). -/
def readHeader (sf : Nat) (shifts : List Nat) : List Byte :=
  let v := shifts.map (fun k => gray (k / 2 ^ (sf - 6)))
  nibBytes ((symsBlock 6 (v.take 8) ++ symsBlock 6 (v.drop 8)).map hamDecode)

/-- The bytes of the payload symbols (R201). -/
def readPayload (sf : Nat) (syms : List (Bool × Nat)) : List Byte :=
  nibBytes (((pieces 8 0 600 (syms.map (symData sf))).flatMap (symsBlock (sfBits sf))).map hamDecode)

end Sys2Proof.Machine
end

