-- ==== Sys2Proof/Machine/Codes.lean ====
section
/-! DEFINITION. The inner codes and the soft decoding of one word (R108 to R112, R118 to R122), as functions of the soft
values. A word is its list of bits, bit 0 first. -/

namespace Sys2Proof.Machine

/-! ### GF(2^8) and Cleril-144 -/

/-- Multiply a field element by α (R108). -/
def gfX (a : Nat) : Nat := if a < 128 then 2 * a else Nat.xor (2 * a) 0x11D

/-- α^k. -/
def gfPow : Nat → Nat
  | 0 => 1
  | k + 1 => gfX (gfPow k)

/-- The syndromes S1 = r(α) and S3 = r(α³) of a 144-bit word; bit j is the coefficient of x^(143 - j) (R109). -/
def bchSyndromes (w : List Bool) : Nat × Nat :=
  w.foldl (fun a b =>
    (Nat.xor (gfX a.1) (b2n b), Nat.xor (gfX (gfX (gfX a.2))) (b2n b))) (0, 0)

/-- The remainder of x^16 × the message by g(x) (R108). -/
def bchRem (msg : List Bool) : Nat :=
  msg.foldl (fun r b =>
    let top := Nat.xor (r / 2 ^ 15) (b2n b)
    if top = 1 then Nat.xor (2 * r % 2 ^ 16) 0x6F63 else 2 * r % 2 ^ 16) 0

/-- The Cleril-144 codeword of 128 payload bits (R108, R109). -/
def bchEncode (msg : List Bool) : List Bool := msg ++ (List.range 16).map (fun i => (bchRem msg).testBit (15 - i))

/-- Flip one bit of a word. -/
def flipBit (w : List Bool) (i : Nat) : List Bool := w.set i (!(w.getD i false))

/-- The column of bit j: its contribution to (S1, S3). -/
def bchCol (j : Nat) : Nat × Nat := (gfPow ((143 - j) % 255), gfPow (3 * (143 - j) % 255))

/-- Algebraic decoding of a 144-bit word: the codeword at distance 0, 1 or 2, if any (R118). The minimum distance of 5
makes it the only one. -/
def bchDecode (w : List Bool) : Option (List Bool) :=
  let s := bchSyndromes w
  let cols := (List.range 144).map bchCol
  if s = (0, 0) then some w
  else match cols.findIdx? (fun c => c == s) with
    | some j => some (flipBit w j)
    | none =>
      match cols.findIdx? (fun c => cols.any (fun e => decide (Nat.xor c.1 e.1 = s.1 ∧ Nat.xor c.2 e.2 = s.2))) with
      | none => none
      | some i =>
        let c := cols.getD i (0, 0)
        match cols.findIdx? (fun e => decide (Nat.xor c.1 e.1 = s.1 ∧ Nat.xor c.2 e.2 = s.2)) with
        | none => none
        | some j => some (flipBit (flipBit w i) j)

/-! ### H128 -/

/-- The 120 bytes with three, five or seven ones. With the eight unit bytes they are the 128 bytes of odd weight: the columns, up to row
operations, of every (128,120) code of minimum distance 4 whose last eight bits are its parity (R110). -/
def h128Bytes : List Nat :=
  (List.range 256).filter (fun x => let k := ((List.range 8).filter (fun i => x.testBit i)).length
    k == 3 || k == 5 || k == 7)

/-- Where a message bit's column stands in that list: the standard's order (assumption 9). -/
def h128Place (j : Nat) : Nat :=
  Config.h128Swaps.foldl (fun x s => if x = s.1 % 120 then s.2 % 120 else if x = s.2 % 120 then s.1 % 120 else x) j

/-- The column of bit `j` in the parity-check matrix: the parity bits 120 to 127 have the unit columns (R110). -/
def h128Col (j : Nat) : Nat := if j < 120 then h128Bytes.getD (h128Place j) 0 else 2 ^ (j - 120)

/-- The syndrome of a word's bits from bit `j` on: the sum of the columns of its ones (R110). -/
def h128SynFrom (j : Nat) : List Bool → Nat
  | [] => 0
  | b :: w => if b then Nat.xor (h128Col j) (h128SynFrom (j + 1) w) else h128SynFrom (j + 1) w

/-- The syndrome of a 128-bit word (R110). -/
def h128Syndrome (w : List Bool) : Nat := h128SynFrom 0 w

/-- Algebraic decoding of a 128-bit word: the codeword at distance 0 or 1, if any (R118). -/
def h128Decode (w : List Bool) : Option (List Bool) :=
  if h128Syndrome w = 0 then some w
  else ((List.range 128).find? (fun j => h128Col j == h128Syndrome w)).map (flipBit w)

/-- A word has zero syndrome (R109, R110). -/
def zeroSyndrome (bch : Bool) (w : List Bool) : Bool :=
  if bch then bchSyndromes w == (0, 0) else h128Syndrome w == 0

/-- The H128 codeword of 120 message bits: the message, then the 8 parity bits that make its syndrome zero (R110). -/
def h128Encode (msg : List Bool) : List Bool := msg ++ (List.range 8).map (fun i => (h128Syndrome msg).testBit i)

/-- The codeword of a payload (R108, R110). -/
def codeEncode (bch : Bool) (msg : List Bool) : List Bool := if bch then bchEncode msg else h128Encode msg

/-! ### Gearbox, interleave and symbols -/

/-- The next `c` pieces of `k` bits each of a stream, in order of arrival. -/
def bitPieces (k : Nat) : Nat → List Bool → List (List Bool)
  | 0, _ => []
  | c + 1, l => (l.take k ++ List.replicate (k - l.length) false) :: bitPieces k c (l.drop k)

/-- The payloads of a pip's codewords: each takes its first half from the first host lane of the pair and its second half from the
second (R152). -/
def payloads (k c : Nat) (h0 h1 : List Bool) : List (List Bool) :=
  ((bitPieces k c h0).zip (bitPieces k c h1)).map (fun p => p.1 ++ p.2)

/-- Consecutive codewords in blocks of δ. -/
def blocksOf (δ : Nat) : Nat → List (List Bool) → List (List (List Bool))
  | 0, _ => []
  | c + 1, ws => if ws.isEmpty then [] else ws.take δ :: blocksOf δ c (ws.drop δ)

/-- The order in which a block of δ codewords of `n` bits is sent: bit t is bit (t div δ) of codeword (t mod δ) (R111). -/
def interleave (n : Nat) (block : List (List Bool)) : List Bool :=
  (List.range n).flatMap (fun j => block.map (fun w => w.getD j false))

/-- The level of a symbol, 0 the lowest, by the Gray code of its two bits, the more significant first (R76). -/
def grayLevel : Bool → Bool → Fin 4
  | false, false => 0
  | false, true => 1
  | true, true => 2
  | true, false => 3

/-- The symbols of a bit stream (R76, R111). -/
def bitSymbols : List Bool → List (Fin 4)
  | m :: l :: r => grayLevel m l :: bitSymbols r
  | _ => []

/-- The symbols of a pip of `c` codewords with `k` bits from each host lane, at interleave depth δ (R108 to R111, R152). -/
def codedSymbols (bch : Bool) (c k δ : Nat) (h0 h1 : List Bool) : List (Fin 4) :=
  (blocksOf δ c ((payloads k c h0 h1).map (codeEncode bch))).flatMap
    (fun b => bitSymbols (interleave (if bch then 144 else 128) b))

/-- Algebraic decoding. -/
def codeDecode (bch : Bool) (w : List Bool) : Option (List Bool) := if bch then bchDecode w else h128Decode w

/-! ### Soft decoding -/

/-- Hard decisions: 0 for a positive value or zero, 1 for a negative one (R118). -/
def hardWord (v : List Int) : List Bool := v.map (fun x => decide (x < 0))

/-- The metric of a word: the sum of |value| over the bits in which it differs from the hard word (R118). -/
def metric (v : List Int) (w : List Bool) : Nat :=
  (v.zip w).foldl (fun a e => if decide (e.1 < 0) == e.2 then a else a + e.1.natAbs) 0

/-- The bits in which two words differ. -/
def flips (a b : List Bool) : Nat := ((a.zip b).filter (fun e => e.1 != e.2)).length

/-- Insert a bit index into the order of ascending |value|, ties in ascending index. -/
def lrpInsert (v : List Int) (i : Nat) : List Nat → List Nat
  | [] => [i]
  | j :: l => if (v.getD i 0).natAbs < (v.getD j 0).natAbs then i :: j :: l else j :: lrpInsert v i l

/-- The bits in the order LRP1, LRP2, … (R118). -/
def lrp (v : List Int) : List Nat := (List.range v.length).foldl (fun l i => lrpInsert v i l) []

/-- The masks a pass tests, in order (R119). -/
def passMasks : Nat → List Nat
  | 1 => List.range 8
  | 2 => List.range 32
  | 3 => List.range 64
  | 4 => (List.range 64).map (· + 64)
  | _ => []

/-- The hard word with a pattern's positions flipped (R118, R119). -/
def patterned (order : List Nat) (w : List Bool) (mask : Nat) : List Bool :=
  (List.range 7).foldl (fun x j => if mask.testBit j then flipBit x (order.getD j 0) else x) w

/-- The best candidate after a pass, from the one kept before it: replaced only by a strictly lower metric (R119). -/
def chase (bch : Bool) (pass : Nat) (v : List Int) (kept : Option (List Bool × Nat)) : Option (List Bool × Nat) :=
  let hw := hardWord v
  let order := lrp v
  (passMasks pass).foldl (fun best mask =>
    match codeDecode bch (patterned order hw mask) with
    | none => best
    | some c =>
      let m := metric v c
      match best with
      | none => some (c, m)
      | some b => if m < b.2 then some (c, m) else best) kept

/-- The reliability R: the sum of the d smallest |values| (R120). -/
def reliability (bch : Bool) (v : List Int) : Nat :=
  ((lrp v).take (if bch then 5 else 4)).foldl (fun a i => a + (v.getD i 0).natAbs) 0

/-- Refinement of an LSB codeword's values by its partner's final word (R122). -/
def refine (c : Int) (v : List Int) (partnerSoft : List Int) (partnerWord : List Bool) : List Int :=
  (v.zip (partnerWord.zip (hardWord partnerSoft))).map (fun e =>
    if e.2.1 == e.2.2 then e.1 else -(min 15 (max 1 (absI e.1 + 2 * c))))

end Sys2Proof.Machine
end

