-- ==== Sys2Proof/Machine/Irq.lean ====
section
/-! DEFINITION. Interrupt sources (R297, R298), when each is pending (R299), and what a transition of a source sends
out (R300). The controller holds no latch of its own, so pending is computed from the owners' event bits. -/

namespace Sys2Proof.Machine

/-- The event fields, with their instance, that make a device-level source pending, their owner's own enables left
to `srcPending` (R297 and the owners' chapters). -/
def devEvents (n : Nat) : List (Fld × Nat) :=
  match n with
  | 6 => [(TOP_ACCESS_INFO_UNMAP_EV, 0)]
  | 7 => [(TOP_ACCESS_INFO_OFF_EV, 0)]
  | 8 => [(SEED_STATUS_DONE, 0), (SEED_STATUS_SHADOW_UE, 0)]
  | 9 => [(SPI_OE_STATUS_GPIO_EV, 0)]
  | 10 => (List.range 8).map (fun l => (SB_LSTATUS_SAT_EV, l))
  | 11 => (List.range 8).flatMap (fun l => [(SLOE_RX_STATUS_VALID, l), (SLOE_TX_STATUS_DONE, l), (SLOE_RX_STATUS_GASP_EV, l), (SLOE_RX_STATUS_TRIG_EV, l)])
  | 12 => [(TIME_STATUS_SWITCH_EV, 0), (TIME_STATUS_SW_REJ, 0), (TIME_STATUS_SQ_OVF, 0), (TIME_STATUS_WRAP_EV, 0),
      (TIME_DSTAT_STEP_EV, 0), (TIME_DSTAT_STEP_EV, 1), (TIME_DSTAT_HOLD_EV, 0), (TIME_DSTAT_HOLD_EV, 1)]
      ++ (List.range 4).map (fun k => (TIME_TPO_CTRL_SKIP_EV, k))
  | 13 => [(CAP_STATUS_DONE_EV, 0), (CAP_STATUS_TRIG_EV, 0), (CAP_STATUS_POISON_EV, 0)]
  | 14 => [(TRG_STATUS_CAL_FAIL, 0)]
  | 15 => [(MEM_FILL_STATUS_DONE, 0), (MEM_ACC_LOG_HI_ACC_EV, 0), (ECC_UE_STATUS_CE_EV, 0), (ECC_UE_STATUS_DEMAND_EV, 0)]
  | 16 => [(THM_STATUS_WARN_EV, 0)]
  | 17 => [(THM_STATUS_THROT_EV, 0)]
  | 18 => [(THM_STATUS_STOP_EV, 0)]
  | 19 => [(THM_STATUS_EXCL_EV, 0)]
  | 20 => [(PWR_STATUS_ABORT_EV, 0), (PWR_STATUS_WAKE_EV, 0)]
  | 21 => [(PWR_STATUS_RETRY_EV, 0), (PWR_STATUS_GO_REJ, 0)]
  | 22 => [(BOOT_STATUS_ALT_EV, 0), (BOOT_STATUS_STOP_EV, 0)]
  | 23 => [(STN_STATUS_DONE_EV, 0), (STN_STATUS_IDLE_EV, 0), (STN_STATUS_UE_EV, 0), (STN_STATUS_ABANDON_EV, 0)]
  | 24 => [(SEC_STATUS_CMD_DONE, 0), (SEC_STATUS_ATT_DONE, 0)]
  | 25 => brm 0 ++ [(BRM_CLK_HOLD_EV, 0)]
  | 26 => brm 1
  | 27 => brm 2
  | 28 => [(BRM_FSTATUS_ENUM_EV, 0), (BRM_FSTATUS_DEPTH_EV, 0), (BRM_FSTATUS_OVF_EV, 0), (BRM_FSTATUS_LATE_EV, 0),
      (BRM_FSTATUS_TMO_EV, 0), (BRM_FSTATUS_LINK_ABORT_EV, 0), (BRM_FSTATUS_ENUM_REJ, 0)]
  | 29 => [(PCI_STATUS_CPL_EV, 0)]
  | 30 => [(SPI_I3C_STATUS_WR_ERR, 0)]
  | 31 => [(BRM_FIRQ_LO_DEV, 0), (BRM_FIRQ_HI_DEV, 0)]
  | _ => []
where
  /-- The event bits of Bramble port `p`. -/
  brm (p : Nat) : List (Fld × Nat) :=
    [(BRM_PSTATUS_LINK_DOWN_EV, p), (BRM_PSTATUS_ROLE_ERR_EV, p), (BRM_PSTATUS_FREQ_ERR_EV, p),
     (BRM_PSTATUS_LANE_DROP_EV, p), (BRM_PSTATUS_TRAIN_TMO_EV, p), (BRM_PSTATUS_LOOP_REJ, p)]

/-- The event fields of source `i` of bunch `b` (R298), but for its performance monitor. -/
def bunchEvents (b i : Nat) : List (Fld × Nat) :=
  if i < 4 then [(DEC_STATUS_CW_LOST, 4 * b + i), (DEC_STATUS_DL_BURST_EV, 4 * b + i)]
  else if i < 12 then
    let m := 8 * b + (i - 4)
    [(HL_STATUS_SIG_LOST, m), (HL_STATUS_LOCK_LOST, m), (HL_STATUS_TRAIN_FAIL, m)]
  else if i < 16 then
    let p := 4 * b + (i - 12)
    [(GBX_EVENTS_RX_AM_LOST, p), (GBX_EVENTS_TX_AM_LOST, p), (GBX_EVENTS_RX_SKEW_ERR, p), (GBX_EVENTS_TX_SKEW_ERR, p),
     (GBX_EVENTS_LL_STEP, p), (GBX_EVENTS_RX_FILL_EV, p), (GBX_EVENTS_TX_FILL_EV, p), (PCS_STATUS_RX_UNC_EV, p),
     (PCS_STATUS_TX_UNC_EV, p)]
  else if i < 20 then
    let p := 4 * b + (i - 16)
    [(BN_PORT_STATUS_RX_DOWN_EV, p), (BN_PORT_STATUS_TX_DOWN_EV, p)]
  else []

/-- The event fields of source `i` of line lane `l` (R298). -/
def lineEvents (l i : Nat) : List (Fld × Nat) :=
  match i with
  | 0 => [(LL_CDR_STATUS_LOCK_LOST, l)]
  | 1 => [(LL_ADC_STATUS_FG_ERR, l)]
  | 2 => [(LL_EQ_STATUS_CONV_LOST, l), (LL_EQ_STATUS_DIVERGED, l), (LL_EQ_STATUS_FALLBACK, l), (LL_EQ_STATUS_SNAP_UE, l)]
  | 3 => [(LL_TX_STATUS_HEADROOM, l)]
  | 4 => [(BN_LINK_STATUS_LOS_EV, l), (BN_LINK_STATUS_UP_LOST, l), (BN_LINK_STATUS_TMO_EV, l), (BN_LINK_STATUS_GAVE_UP_EV, l)]
  | _ => []

/-- Some counter of monitor unit `u` with IRQ_EN set has its overflow bit set (R303). -/
def Dev.prfOvf (d : Dev) (u : Nat) : Bool :=
  (List.range 8).any (fun k => (d.get PRF_OVF_OVF u).testBit k && d.on PRF_EVSEL_IRQ_EN (u * 8 + k))

/-- Source `n` is pending (R299). -/
def Dev.srcPending (d : Dev) (n : Nat) : Bool :=
  if n < 4 then (d.get IRQ_SW_PEND 0).testBit n
  else if n = 9 then
    d.get SPI_OE_STATUS_GPIO_EV 0 != 0 || (d.on SPI_OE_STATUS_ALARM_EV 0 && d.on SPI_OE_PINS_ALARM_IRQ_EN 0)
  else if 32 ≤ n ∧ n < 36 then d.prfOvf (n - 32)
  else if n = 36 then d.on PRF_SNAP_STATUS_REC_EV 0 && d.on PRF_SNAP_CTRL_IRQ_EN 0
  else if n = 40 then d.flag .scrubEv 0
  else if n < 64 then (devEvents n).any (fun e => d.get e.1 e.2 != 0)
  else if n < 128 then
    if (n - 64) % 32 = 20 then d.prfOvf (4 + (n - 64) / 32)
    else (bunchEvents ((n - 64) / 32) ((n - 64) % 32)).any (fun e => d.get e.1 e.2 != 0)
  else if n < 256 then (lineEvents ((n - 128) / 16) ((n - 128) % 16)).any (fun e => d.get e.1 e.2 != 0)
  else false

/-- The sources whose routing gives them a priority: every other source is disabled for every target (R300). -/
def Dev.routed (d : Dev) : List Nat :=
  (d.regs.filter (fun e => e.1.1 == (fkey IRQ_SRC_CFG_PRIO 0).1)).map (fun e => e.1.2)

/-- Source `n` is pending and not disabled (R300). -/
def Dev.live (d : Dev) (n : Nat) : Bool := d.get IRQ_SRC_CFG_PRIO n != 0 && d.srcPending n

/-- The messages source `n` sends when it becomes pending while enabled, or is enabled while pending (R300). -/
def Dev.deliver (d : Dev) (n : Nat) (e : Dev) : Dev :=
  let msi := fun (x : Dev) => x.live n && x.on IRQ_SRC_CFG_MSI n
  let fleet := fun (x : Dev) => x.live n && x.on IRQ_SRC_CFG_FLEET n
  let e1 := if msi e && !(msi d) then e.msixSend (e.get IRQ_SRC_CFG_VEC n) else e
  if fleet e && !(fleet d) then e1.fleetIrq n (e.get IRQ_SRC_CFG_VEC n) else e1

/-- The source of a comparator set is available (R242). -/
def Dev.trgAvail (d : Dev) (n k : Nat) : Bool :=
  d.on LL_TRG_CFG_EN (4 * n + k) && (if d.on LL_TRG_CFG_SRC (4 * n + k) then decide (3 ≤ d.get BN_LINK_STATUS_STATE n)
    else d.on LL_ADC_STATUS_READY n)

/-- A 48-bit performance counter: unit `u`, counter `k` (R302). -/
def Dev.prfCnt (d : Dev) (u k : Nat) : Nat := d.get PRF_CNT_COUNT (16 * u + 2 * k) + d.get PRF_CNT_COUNT (16 * u + 2 * k + 1) % 2 ^ 16 * 2 ^ 32

/-- Set a 48-bit performance counter. -/
def Dev.prfSet (d : Dev) (u k v : Nat) : Dev :=
  (d.set PRF_CNT_COUNT (16 * u + 2 * k) v).set PRF_CNT_COUNT (16 * u + 2 * k + 1) (v / 2 ^ 32 % 2 ^ 16)

/-- Count on a performance counter; past its largest value it wraps and sets its bit in PRF_OVF (R303). -/
def Dev.prfAdd (d : Dev) (u k n : Nat) : Dev :=
  let v := d.prfCnt u k + n
  let d1 := d.prfSet u k (v % 2 ^ 48)
  if 2 ^ 48 ≤ v then d1.setBit PRF_OVF_OVF u k true else d1

/-- The codewords of a lane whose pass has begun since `d`; `first` tells pass 1 from later passes. -/
def Dev.passesBegun (d e : Dev) (n : Nat) (first : Bool) : Nat :=
  (e.cws.filter (fun c => c.lane == n && c.run.isSome && (c.passes == 0) == first
    && !(d.cws.any (fun x => x.lane == n && x.id == c.id && x.run == c.run)))).length

/-- What an event of a bunch monitor has counted between two states, on lanes or port slots chosen by FILTER (R302,
PRF_EVSEL): a pass occupies its slot for 6 cycles (R118); the reorder stage is counted at the end of each decoder pip; 68 bits of fill
carry one 66-bit block (assumption 27). -/
def prfDelta (d e : Dev) (b ev filter : Nat) : Nat :=
  let four := if filter = 15 then [4 * b, 4 * b + 1, 4 * b + 2, 4 * b + 3] else if filter < 4 then [4 * b + filter] else []
  let diff := fun (f : Fld) => (four.map (fun n => e.get f n - d.get f n)).sum
  let grown := fun (v : Var) (n : Nat) => (e.v v n - d.v v n).toNat
  let fill := fun (i : Nat) => (four.map (fun p => (e.v .fillBits (2 * p + i) / 68 - d.v .fillBits (2 * p + i) / 68).toNat)).sum
  match ev with
  | 1 => (four.map (fun n => d.passesBegun e n true + d.passesBegun e n false)).sum
  | 2 => (four.map (fun n => d.passesBegun e n true)).sum
  | 3 => (four.map (fun n => d.passesBegun e n false)).sum
  | 4 => 6 * (four.map (fun n => d.passesBegun e n true + d.passesBegun e n false)).sum
  | 5 => ((e.out.drop d.out.length).filter (fun o => match o with | .release n _ _ _ => four.contains n | _ => false)).length
  | 6 => diff DEC_DLREL_COUNT
  | 7 => diff DEC_SPEC_COUNT
  | 8 => (four.map (fun n => grown .decPip n * (e.cws.filter (fun c => c.lane == n)).length)).sum
  | 9 => (four.map (grown .multCount)).sum
  | 10 => fill 0
  | 11 => fill 1
  | 12 => diff PCS_RX_SYM_COUNT + diff PCS_TX_SYM_COUNT
  | 13 => diff PCS_RX_UNC_COUNT + diff PCS_TX_UNC_COUNT
  | 14 => diff PCS_PTP_CNT_RX + diff PCS_PTP_CNT_TX
  | 15 => (four.map (grown .lmsCount)).sum
  | _ => 0

/-- The counters that select an event, of cores and bunches. -/
def Dev.prfEvents (d : Dev) : List Nat :=
  (d.regs.filter (fun e => e.1.1 == (fkey PRF_EVSEL_EVENT 0).1)).map (fun e => e.1.2)

/-- The bunch counters that select an event. -/
def Dev.prfSelected (d : Dev) : List Nat := d.prfEvents.filter (fun i => i / 32 != 0)

/-- `k` events `ev` of core `c` (R302); `user`: the core runs in user mode. -/
def Dev.coreEvent (d : Dev) (c ev k : Nat) (user : Bool) : Dev :=
  if d.on PRF_CTRL_FREEZE 0 || d.flag .offMgmt 0 || k == 0 then d else
  (d.prfEvents.filter (fun i => i / 8 == c && d.get PRF_EVSEL_EVENT i == ev && (user || !(d.on PRF_EVSEL_UONLY i)))).foldl
    (fun x i => x.prfAdd c (i % 8) k) d

/-- The cycle counter of a monitor unit advances (R302). -/
def Dev.cycAdd (d : Dev) (u k : Nat) : Dev :=
  let c := d.get PRF_CYC_LO_COUNT u + d.get PRF_CYC_HI_COUNT u * 2 ^ 32 + k
  (d.set PRF_CYC_LO_COUNT u c).set PRF_CYC_HI_COUNT u (c / 2 ^ 32)

/-- The bunch monitors count what the command has done while they are on and not frozen (R302). -/
def prfSettle (d e : Dev) : Dev :=
  if e.on PRF_CTRL_FREEZE 0 then e else
  e.prfSelected.foldl (fun x i =>
    let b := i / 8 - 4
    if x.flag .offBunch b then x
    else
      let n := prfDelta d e b (e.get PRF_EVSEL_EVENT i) (e.get PRF_EVSEL_FILTER i)
      if n = 0 then x else x.prfAdd (i / 8) (i % 8) n) e

/-- IRQ_N is driven low: some source that selects it is pending and enabled (R300). -/
def Dev.irqPin (d : Dev) : Bool := d.routed.any (fun n => d.live n && d.on IRQ_SRC_CFG_PIN n)

/-- The end of a command: a comparator set whose source is unavailable is cleared (R242), the monitors count (R302), and every source that has become
pending since `d` sends its messages, source 31 last, as a message at the root makes it pending (R300, R334);
an assertion of IRQ_N raises an in-band interrupt when enabled (R339). -/
def settle (d e : Dev) : Dev :=
  let e0 := prfSettle d { e with trg := e.trg.filter (fun t => e.trgAvail t.lane t.set) }
  let e1 := (e0.routed.filter (fun n => n != 31)).foldl (fun x n => d.deliver n x) e0
  let e2 := if e0.routed.contains 31 then d.deliver 31 e1 else e1
  if e2.on I3C_CFG_IBI_EN 0 && e2.irqPin && !d.irqPin then e2.emit .ibi else e2

/-- A command ends in the next state, the memories and the queue as given. -/
def ok (s t : State) : Res := .next { t with dev := settle s.dev t.dev }

/-- A command that touches no addressed memory ends in the next state. -/
def okDev (s : State) (d : Dev) : Res := .next { s with dev := settle s.dev d }

end Sys2Proof.Machine
end

