-- ==== Sys2Proof/Machine/Fabric.lean ====
section
/-! DEFINITION. What the seed in force says of ports, lanes and modes (R13 to R20, R29, R151), as queries on the
state. Port slots are numbered 4 × bunch + slot, line lanes 0 to 7, host lanes 0 to 15. -/

namespace Sys2Proof.Machine

/-- The seed in force on a bunch (R29). -/
def Dev.bunch (d : Dev) (b : Nat) : BunchDesc := if b = 0 then d.bunch0 else d.bunch1

/-- Put a seed in force on a bunch (R43). -/
def Dev.setBunch (d : Dev) (b : Nat) (x : BunchDesc) : Dev :=
  if b = 0 then { d with bunch0 := x } else { d with bunch1 := x }

/-- The slot of a port within its bunch: p = h div 2 (R151). -/
def slotIx (p : PortDesc) : Nat := p.h0 / 2

/-- The port in a slot, if the seed places one there (R151). -/
def Dev.portAt (d : Dev) (sl : Nat) : Option PortDesc :=
  (d.bunch (sl / 4)).ports.find? (fun p => slotIx p == sl % 4)

/-- The slot of the port that owns a line lane (R29). -/
def Dev.slotOfLine (d : Dev) (n : Nat) : Option Nat :=
  ((d.bunch (n / 4)).ports.find? (fun p => decide (p.l0 ≤ n % 4 ∧ n % 4 < p.l0 + p.nL))).map
    (fun p => 4 * (n / 4) + slotIx p)

/-- The slot of the port that owns a host lane (R29). -/
def Dev.slotOfHost (d : Dev) (m : Nat) : Option Nat :=
  ((d.bunch (m / 8)).ports.find? (fun p => decide (p.h0 ≤ m % 8 ∧ m % 8 < p.h0 + p.nH))).map
    (fun p => 4 * (m / 8) + slotIx p)

/-- The line lanes of the port in a slot. -/
def Dev.linesOf (d : Dev) (sl : Nat) : List Nat :=
  match d.portAt sl with
  | none => []
  | some p => (List.range p.nL).map (fun i => 4 * (sl / 4) + p.l0 + i)

/-- The host lanes of the port in a slot. -/
def Dev.hostsOf (d : Dev) (sl : Nat) : List Nat :=
  match d.portAt sl with
  | none => []
  | some p => (List.range p.nH).map (fun i => 8 * (sl / 4) + p.h0 + i)

/-- The seed's items for a line lane (R29). -/
def Dev.lane (d : Dev) (n : Nat) : LaneDesc := (d.bunch (n / 4)).lanes.getD (n % 4) LaneDesc.unused

/-- The line mode of a lane in a port (R15, R29). -/
def Dev.mode (d : Dev) (n : Nat) : Option LineMode :=
  (d.slotOfLine n).bind (fun sl => (d.portAt sl).map (·.mode))

/-- The host lanes whose streams a line lane carries (lane map of R29, R152, R153). -/
def Dev.hostsOfLine (d : Dev) (n : Nat) : List Nat :=
  if (d.slotOfLine n).isSome then (d.lane n).hosts.map (fun h => 8 * (n / 4) + h) else []

/-- The line lanes that carry a host lane's stream. -/
def Dev.linesOfHost (d : Dev) (m : Nat) : List Nat :=
  ((List.range 4).map (fun l => 4 * (m / 8) + l)).filter (fun n => (d.hostsOfLine n).contains m)

/-- The port in a slot runs terminating framing (R157, R158). -/
def Dev.term (d : Dev) (sl : Nat) : Bool := ((d.portAt sl).map (·.term)).getD false

/-- The port releases with low latency; the release mode has no effect on L100 (R125, R167). -/
def portEarly (p : PortDesc) : Bool := p.lowLat && p.mode != .l100

/-- The lane belongs to a port with low-latency release (R125). -/
def Dev.lowLat (d : Dev) (n : Nat) : Bool :=
  ((d.slotOfLine n).bind (fun sl => (d.portAt sl).map portEarly)).getD false

/-- Codewords per pip of a mode (R15). -/
def codewordsPerPip : LineMode → Nat
  | .l400e => 160
  | .l400s => 180
  | .l200 => 90
  | .l100 => 0

/-- Symbols per dpclk of a mode (R15). -/
def symbolsPerDpclk : LineMode → Nat
  | .l400e => 160
  | .l400s => 160
  | .l200 => 80
  | .l100 => 40

/-- Symbols per pip of a mode (R15, R31). -/
def symbolsPerPip (m : LineMode) : Nat := 72 * symbolsPerDpclk m

/-- Line lanes of a bunch. -/
def linesOfBunch (b : Nat) : List Nat := [4 * b, 4 * b + 1, 4 * b + 2, 4 * b + 3]

/-- Host lanes of a bunch. -/
def hostsOfBunch (b : Nat) : List Nat := (List.range 8).map (fun h => 8 * b + h)

/-- Port slots of a bunch. -/
def slotsOfBunch (b : Nat) : List Nat := [4 * b, 4 * b + 1, 4 * b + 2, 4 * b + 3]

end Sys2Proof.Machine
end

