-- ==== Sys2Proof/Machine/Link.lean ====
section
/-! DEFINITION. What follows in the same mclk when a lane's or a port's conditions change: the clock-recovery hold
(R62, R64), the port clock followers (R66 to R68), falls of the acquisition state (R169 to R171), the port directions
(R175, R176), fill (R162, R163), squelch and electrical idle of the transmitters (R105, R107, R150). -/

namespace Sys2Proof.Machine

/-- Acquisition states of R169. -/
def stDOWN : Nat := 0
/-- SIGNAL (R169). -/
def stSIGNAL : Nat := 1
/-- CDR_LOCK (R169). -/
def stCDRLOCK : Nat := 2
/-- EQ_ACQ (R169). -/
def stEQACQ : Nat := 3
/-- FRAME_LOCK (R169). -/
def stFRAME : Nat := 4
/-- UP (R169). -/
def stUP : Nat := 5

/-! ### Squelch and electrical idle of the line transmitters -/

/-- The lane is in electrical idle or its exit (R107). -/
def Dev.txIdle (d : Dev) (n : Nat) : Bool :=
  d.on LL_TX_CTRL_EIDLE n || !(d.on BN_LINK_CTRL_EN n) || !(d.on LL_TX_STATUS_READY n) || d.flag .lcIdle 0

/-- The squelch sources of a lane, coded as LL_TX_STATUS.SQ_SRC (R105): bit 0 firmware, 1 reseed, 2 optical-engine
alarm, 3 electrical idle or its exit, 4 thermal stop. -/
def Dev.sqSrc (d : Dev) (n : Nat) : Nat :=
  b2n (d.on LL_TX_CTRL_SQUELCH n) + 2 * b2n (d.flag .reseedSq (n / 4))
    + 4 * b2n (d.flag .oeSquelch 0 && (d.get SPI_OE_PINS_SQUELCH 0).testBit (n / 4))
    + 8 * b2n (d.txIdle n) + 16 * b2n (d.flag .thermSq (n / 4))

/-- Bring SQ_SRC and SQ_ACTIVE of a lane up to date: squelch starts at once, and ends only at a transmit pip boundary
(R105, R106). Electrical idle powers the DAC down; its end starts the 2 µs exit (R107). -/
def Dev.txRefresh (d : Dev) (n : Nat) : Dev :=
  let want := d.on LL_TX_CTRL_EIDLE n || !(d.on BN_LINK_CTRL_EN n) || d.flag .lcIdle 0
  let d1 := if want then (d.set LL_TX_STATUS_READY n 0).sv .txExit n 0
            else if d.on LL_TX_STATUS_READY n then d else d.sv .txExit n 1
  let d2 := d1.set LL_TX_STATUS_SQ_SRC n (d1.sqSrc n)
  if d1.sqSrc n = 0 then d2 else d2.set LL_TX_STATUS_SQ_ACTIVE n 1

/-! ### Host transmitters -/

/-- A condition of R150 keeps the host transmitter in electrical idle; the hold of R44 and R176 gives way to an
enabled pattern generator (R148). -/
def Dev.hlIdle (d : Dev) (m : Nat) : Bool :=
  let gen := d.get HL_PAT_GEN m
  d.on HL_CTRL_EIDLE m || !(d.on HL_STATUS_ENABLED m) || d.flag .lcIdle 0 || decide (2 ≤ d.v .thmSt 0)
    || ((((d.slotOfHost m).map (fun sl => d.flag .portHold sl)).getD false || d.flag .reseedSq (m / 8))
        && !(decide (1 ≤ gen ∧ gen ≤ 5)))

/-- Bring TX_EIDLE and TX_READY of a host lane up to date; leaving electrical idle starts the 1 µs settling (R150). -/
def Dev.hlRefresh (d : Dev) (m : Nat) : Dev :=
  if d.hlIdle m then
    ((d.set HL_STATUS_TX_EIDLE m 1).set HL_STATUS_TX_READY m 0).sv .hlExit m 0
  else if d.on HL_STATUS_TX_READY m then d
  else (d.set HL_STATUS_TX_EIDLE m 0).sv .hlExit m 1

/-! ### Clock recovery holds and the port clock followers -/

/-- LOCKED clears, setting LOCK_LOST if it was 1, and the count of stable intervals is zero (R62). -/
def Dev.cdrUnlock (d : Dev) (n : Nat) : Dev :=
  (((d.evIf (d.on LL_CDR_STATUS_LOCKED n) LL_CDR_STATUS_LOCK_LOST n).set LL_CDR_STATUS_LOCKED n 0)).sv .cdrStable n 0

/-- HOLDING follows loss of signal and MODE = HOLD (R64), and clears LOCKED while it, FREQ_RANGE, MISMATCH or
MODE = OPEN holds (R62). -/
def Dev.cdrRefresh (d : Dev) (n : Nat) : Dev :=
  let hold := d.on BN_LINK_STATUS_LOS n || d.get LL_CDR_CTRL_MODE n == 1
  let d1 := (d.put LL_CDR_STATUS_HOLDING n hold).when hold (fun e => e.sv .eqHoldPip n 1)
  if hold || d.get LL_CDR_CTRL_MODE n == 2 || d.on LL_CDR_STATUS_FREQ_RANGE n || d.on LL_CDR_STATUS_MISMATCH n
  then d1.cdrUnlock n else d1

/-- The lowest-numbered locked line lane of the port in a slot (R66). -/
def Dev.rxRefLane (d : Dev) (sl : Nat) : Option Nat := (d.linesOf sl).find? (fun n => d.on LL_CDR_STATUS_LOCKED n)

/-- The lowest-numbered locked host lane of the port in a slot (R67). -/
def Dev.txRefLane (d : Dev) (sl : Nat) : Option Nat := (d.hostsOf sl).find? (fun m => d.on HL_STATUS_CDR_LOCK m)

/-- Both followers of a slot take their references (R66 to R68, R178): RX_REF names the receive reference, TX_REF_HL
and TX_REF_VALID the transmit one. A follower without a reference holds its last frequency, or runs at the nominal
one if it has had none since the port's lanes were last started; the frequency in force moves there by `Dev.folStep`. -/
def Dev.followers (d : Dev) (sl : Nat) : Dev :=
  let loop := d.v .loopNow sl
  let rx := d.rxRefLane sl
  let tx := d.txRefLane sl
  let txLine := loop == 3
  let d1 := d.each (d.linesOf sl) (fun n e =>
    ((e.put LL_CDR_STATUS_RX_REF n (rx == some n && loop != 2)).put LL_CDR_STATUS_TX_REF_VALID n (tx.isSome && !txLine)).set
      LL_CDR_STATUS_TX_REF_HL n (match tx with | some m => m % 8 | none => e.get LL_CDR_STATUS_TX_REF_HL n))
  let d2 := d1.put BN_PORT_STATUS_TX_REF_LINE sl txLine
  let rxF : Option Int := rx.map (fun n => d.geti LL_CDR_FREQ_PPM n)
  let txF : Option Int := tx.map (fun m => d.v .hlEst m)
  let upd := fun (dir : Nat) (f : Option Int) (e : Dev) =>
    match f with
    | some x => (e.sv .folEver (2 * sl + dir) 1).sv .folFreq (2 * sl + dir) (10 * x)
    | none => e.sv .folFreq (2 * sl + dir) (if e.flag .folEver (2 * sl + dir) then e.v .folNow (2 * sl + dir) else 0)
  upd 1 (if txLine then rxF else txF) (upd 0 (if loop == 2 then txF else rxF) d2)

/-- One tclk, 0.8 ns, of every follower: the frequency in force slews toward the one the follower goes to at no more than 1 ppm per µs,
8 units of 0.0001 ppm (R68). -/
def Dev.folStep (d : Dev) : Dev :=
  d.each (List.range 16) (fun k e =>
    if e.v .folNow k = e.v .folFreq k then e else e.sv .folNow k (e.v .folNow k + clampI (-8) 8 (e.v .folFreq k - e.v .folNow k)))

/-! ### Acquisition states -/

/-- The DOWN exit condition (R169, R174, R46). -/
def Dev.downExit (d : Dev) (n : Nat) : Bool :=
  d.on BN_LINK_CTRL_EN n && d.on LL_ADC_STATUS_READY n && !(d.on LL_ADC_STATUS_FG_BUSY n)
    && !(d.on BN_LINK_STATUS_LOS n) && !(d.flag .lkHoldoff n) && !(d.on BN_LINK_STATUS_STOPPED n)
    && !(d.flag .lkTileHold n)

/-- Host lane `m`'s stream has receive (or transmit) marker lock: the bit of its place in the port (R154). -/
def Dev.amLock (d : Dev) (dir : Dir) (m : Nat) : Bool :=
  match (d.slotOfHost m).bind (fun sl => (d.portAt sl).map (fun p => (sl, p))) with
  | none => false
  | some (sl, p) =>
    (d.get (match dir with | .rx => GBX_PSTATUS_RX_AM_LOCK | .tx => GBX_PSTATUS_TX_AM_LOCK) sl).testBit (m % 8 - p.h0)

/-- The FRAME_LOCK exit condition (R169). From the quiesce of a reseed to its RESTART it does not hold, so that every lane leaves UP
(R171 names the quiesce as a cause for L100 lanes too; DEDUCED, assumption 72). -/
def Dev.frameExit (d : Dev) (n : Nat) : Bool :=
  !(d.flag .reseedSq (n / 4)) && (d.on DEC_STATUS_CW_LOCK n || d.mode n == some .l100) && (d.hostsOfLine n).all (fun m => d.amLock .rx m)

/-- The front-end gain is settled (R170). -/
def Dev.gainSettled (d : Dev) (n : Nat) : Bool :=
  !(d.on LL_ADC_CTRL_AFE_AUTO n) || decide ((d.get BN_LINK_TMR2_GAIN_HOLD n : Int) ≤ d.v .afeSame n)

/-- The condition under which a lane leaves a state upward (R169). -/
def Dev.upWhen (d : Dev) (n st : Nat) : Bool :=
  match st with
  | 0 => d.downExit n
  | 1 => d.on LL_CDR_STATUS_LOCKED n
  | 2 => d.gainSettled n
  | 3 => d.on LL_EQ_STATUS_CONV n
  | 4 => d.frameExit n
  | _ => false

/-- The highest state, at most the current one, whose own condition and every lower condition still hold (R171). -/
def Dev.holdState (d : Dev) (n : Nat) : Nat :=
  let st := d.get BN_LINK_STATUS_STATE n
  if 1 ≤ st ∧ d.downExit n = false then stDOWN
  else if 2 ≤ st ∧ d.on LL_CDR_STATUS_LOCKED n = false then stSIGNAL
  else if 4 ≤ st ∧ d.on LL_EQ_STATUS_CONV n = false then stEQACQ
  else if 5 ≤ st ∧ d.frameExit n = false then stFRAME
  else st

/-- The timer period of a state in µs, 0 none (R172, BN_LINK_TMR). -/
def Dev.stateTimer (d : Dev) (n st : Nat) : Nat :=
  match st with
  | 1 => 100 * d.get BN_LINK_TMR_T_CDR n
  | 2 => 1000 * d.get BN_LINK_TMR_T_GAIN n
  | 3 => 100 * d.get BN_LINK_TMR_T_EQ n
  | 4 => 100 * d.get BN_LINK_TMR_T_FRAME n
  | _ => 0

/-- Enter a state: its timer takes its period at entry (R172); a departure from UP sets UP_LOST and is counted (R171);
entry to UP starts the STABLE timer, or clears ATTEMPTS at once when STABLE is 0 (R174). Staying in the state changes
nothing. Entering EQ_ACQ begins adaptation and measurement (R86, R90). -/
def Dev.enterState (d : Dev) (n st : Nat) : Dev :=
  let old := d.get BN_LINK_STATUS_STATE n
  if st = old then d else
  let d1 := if old = stUP then
      ((d.ev BN_LINK_STATUS_UP_LOST n).count BN_LINK_CNT_UP_LOSS n 1).sv .lkStable n 0 else d
  let d2 := ((d1.set BN_LINK_STATUS_STATE n st).sv .lkTimer n (d1.stateTimer n st)).when (st == stEQACQ) (fun e => e.sv .eqAcq n 1)
  if st = stUP then
    if d2.get BN_LINK_TMR2_STABLE n = 0 then d2.set BN_LINK_STATUS_ATTEMPTS n 0 else d2.sv .lkStable n 1
  else d2

/-! ### Fill -/

/-- The largest tolerated skew in 10 ps (R155): 16 ns receive, 10 ns transmit. -/
def skewLimit : Dir → Nat
  | .rx => 1600
  | .tx => 1000

/-- The largest skew among the lanes of the flows of a slot, by the last measurement of each lane, in 10 ps (R155). -/
def Dev.skewNow (d : Dev) (dir : Dir) (sl : Nat) : Nat :=
  ((d.hostsOf sl).map (fun m => (d.v .amDelay (2 * m + dir.ix)).toNat)).foldl max 0

/-- A skew beyond the limit stands in a direction of a slot (R155). -/
def Dev.skewOver (d : Dev) (dir : Dir) (sl : Nat) : Bool := decide (skewLimit dir < d.skewNow dir sl)

/-- A cause of line fill holds for the stream of host lane `m`; none applies under LINE_FAR (R162, R178). -/
def Dev.txFillCause (d : Dev) (sl m : Nat) : Bool :=
  d.v .loopNow sl != 3
    && (d.skewOver .tx sl || !(d.amLock .tx m) || !(d.on HL_STATUS_SIG_DET m))

/-- A cause of host fill holds for the stream of host lane `m` (R162): one that affects a line lane holds for every host lane it feeds; under NEAR_PARALLEL, where the line's bits are discarded, until the
looped stream carries data (R177, R178). -/
def Dev.rxFillCause (d : Dev) (sl m : Nat) : Bool :=
  if d.v .loopNow sl = 2 then !(d.amLock .rx m) || d.txFillCause sl m else
  d.skewOver .rx sl || !(d.amLock .rx m)
    || (d.linesOfHost m).any (fun n => d.flag .decUnl n || decide (0 < d.v .stepLeft n) || !((d.hostsOfLine n).all (fun h => d.amLock .rx h)))

/-- Some cause of fill in a direction of a slot holds. -/
def Dev.fillCause (d : Dev) (dir : Dir) (sl : Nat) : Bool :=
  (d.hostsOf sl).any (fun m => match dir with | .rx => d.rxFillCause sl m | .tx => d.txFillCause sl m)

/-- Fill starts on the streams whose cause holds (all of the port's in terminating framing), and in transparent
framing ends on the streams whose causes have cleared; terminating fill ends with FILL_END (R162, R163). A frame in
progress in terminating framing ends with an error block and is counted. -/
def Dev.fillDir (d : Dev) (dir : Dir) (sl : Nat) : Dev :=
  let hosts := d.hostsOf sl
  let was := hosts.any (fun m => d.flag .fillRun (2 * m + dir.ix))
  let cause := fun m => match dir with | .rx => d.rxFillCause sl m | .tx => d.txFillCause sl m
  let any := hosts.any cause
  let d1 := d.each hosts (fun m e =>
    if d.term sl then (if any then e.sv .fillRun (2 * m + dir.ix) 1 else e)
    else e.sflag .fillRun (2 * m + dir.ix) (cause m))
  let now := hosts.any (fun m => d1.flag .fillRun (2 * m + dir.ix))
  let cut := d.term sl && any && !was && d.flag .frameOn (2 * sl + dir.ix)
  let d2 := if cut then ((d1.count GBX_LL_CNT_CUTS sl 1).sv .frameOn (2 * sl + dir.ix) 0).emit (.blocks sl dir .error 1) else d1
  match dir with
  | .rx => (d2.put GBX_PSTATUS_RX_FILL sl now).evIf (now && !was) GBX_EVENTS_RX_FILL_EV sl
  | .tx => (d2.put GBX_PSTATUS_TX_FILL sl now).evIf (now && !was) GBX_EVENTS_TX_FILL_EV sl

/-- Bring both directions' fill of a slot up to date once the port's lanes have been started (R162). -/
def Dev.fillRefresh (d : Dev) (sl : Nat) : Dev :=
  if d.flag .portStart sl && (d.portAt sl).isSome then (d.fillDir .rx sl).fillDir .tx sl else d

/-! ### Port directions -/

/-- The receive direction is UP (R175). -/
def Dev.rxUp (d : Dev) (sl : Nat) : Bool :=
  (d.portAt sl).isSome && (d.linesOf sl).all (fun n => d.get BN_LINK_STATUS_STATE n == stUP)
    && d.on GBX_PSTATUS_RX_DESKEWED sl

/-- The lane trains: C2C with TRAIN_EN = 1 (R135, R143). -/
def Dev.trains (d : Dev) (m : Nat) : Bool := !(d.on HL_CTRL_PROFILE m) && d.on HL_CTRL_TRAIN_EN m

/-- The transmit direction is UP (R175). -/
def Dev.txUp (d : Dev) (sl : Nat) : Bool :=
  (d.portAt sl).isSome
    && (d.hostsOf sl).all (fun m => d.on HL_STATUS_CDR_LOCK m && d.amLock .tx m
        && (!(d.trains m) || d.get HL_TRAIN_STATUS_STATE m == 6))
    && d.on GBX_PSTATUS_TX_DESKEWED sl

/-- Bring RX_UP and TX_UP of a slot up to date: a fall sets its event; RX_UP ends the hold of the host transmitters
(R175, R176). -/
def Dev.portRefresh (d : Dev) (sl : Nat) : Dev :=
  let rx := d.rxUp sl
  let tx := d.txUp sl
  let d1 := (d.evIf (d.on BN_PORT_STATUS_RX_UP sl && !rx) BN_PORT_STATUS_RX_DOWN_EV sl).evIf
      (d.on BN_PORT_STATUS_TX_UP sl && !tx) BN_PORT_STATUS_TX_DOWN_EV sl
  let d2 := (d1.put BN_PORT_STATUS_RX_UP sl rx).put BN_PORT_STATUS_TX_UP sl tx
  if rx && d2.flag .portHold sl then
    (d2.sv .portHold sl 0).each (d2.hostsOf sl) (fun m e => e.hlRefresh m)
  else d2

/-- Everything that follows in the mclk in which a condition of line lane `n` changes (R62, R66, R68, R171, R175,
R162). -/
def Dev.laneReact (d : Dev) (n : Nat) : Dev :=
  let d1 := d.cdrRefresh n
  let d2 := match d1.slotOfLine n with | some sl => d1.followers sl | none => d1
  let d3 := d2.enterState n (d2.holdState n)
  match d3.slotOfLine n with
  | some sl => (d3.portRefresh sl).fillRefresh sl
  | none => d3

/-- Everything that follows in the mclk in which a condition of a port changes: the lanes' falls, then the port's
directions and fill. -/
def Dev.portReact (d : Dev) (sl : Nat) : Dev :=
  let d1 := (d.followers sl).each (d.linesOf sl) (fun n e => e.enterState n (e.holdState n))
  (d1.portRefresh sl).fillRefresh sl

/-- Everything that follows in the mclk in which a condition of host lane `m` changes (R68, R175, R162). -/
def Dev.hostReact (d : Dev) (m : Nat) : Dev :=
  match d.slotOfHost m with
  | some sl => d.portReact sl
  | none => d

end Sys2Proof.Machine
end

