-- ==== Sys2Proof/Machine/SloeOps.lean ====
section
/-! DEFINITION. What the Sloe transmitter and receiver of a lane do when their lane changes (R206 to R210, R216 to R218),
shared by lane control, resets and the Sloe commands. -/

namespace Sys2Proof.Machine

/-- Receiver states of R212. -/
def slOFF : Nat := 0
/-- SEARCH (R212). -/
def slSEARCH : Nat := 1
/-- PREAMBLE (R212). -/
def slPREAMBLE : Nat := 2
/-- HEADER (R212). -/
def slHEADER : Nat := 3
/-- PAYLOAD (R212). -/
def slPAYLOAD : Nat := 4

/-- Symbol rate of a mode in thirds of a hertz (R15). -/
def symbolRate3 : LineMode → Nat
  | .l400e => 717187500000
  | .l400s => 680000000000
  | .l200 => 340000000000
  | .l100 => 159375000000

/-- Spreading factor in force, 6 to 12. -/
def Dev.slSF (d : Dev) (n : Nat) : Nat := clampN 6 12 (d.v .slSf n).toNat

/-- Bandwidth in force in Hz. -/
def Dev.slBW (d : Dev) (n : Nat) : Nat := let c := d.v .slBw n; if c = 0 then 500000 else if c = 1 then 1000000 else 2000000

/-- Centre frequency in force in Hz. -/
def Dev.slFC (d : Dev) (n : Nat) : Nat := let c := d.v .slFc n; if c = 0 then 2000000 else if c = 1 then 4000000 else 8000000

/-- The stage list meets the receiver's needs (R209): F ≥ (fc + BW/2) / 0.4, and with the DC blocker on a corner below
(fc - BW/2) / 10. -/
def Dev.slCfgOk (d : Dev) (n : Nat) : Bool :=
  match d.mode n with
  | none => false
  | some m =>
    let den := 3 * 1024 * 2 ^ d.get SB_STAGES_HB n
    let rate := symbolRate3 m
    let lo := d.slFC n - d.slBW n / 2
    decide ((d.slFC n + d.slBW n / 2) * 10 * den ≤ rate * 4)
      && (!(d.on SB_STAGES_DC_EN n)
        || decide (rate * 10000000 < lo * den * 2 ^ (clampN 4 20 (d.v .sbK n).toNat) * 6283185))

/-- One reception count (R217). -/
def Dev.slCount (d : Dev) (n status : Nat) : Dev :=
  match status with
  | 1 => d.count SLOE_RX_CNT0_OK n 1
  | 2 => d.count SLOE_RX_CNT0_DUP n 1
  | 3 => d.count SLOE_RX_CNT1_CRC_HDR n 1
  | 4 => d.count SLOE_RX_CNT0_CRC_PAY n 1
  | 5 => d.count SLOE_RX_CNT2_FOREIGN n 1
  | 6 => d.count SLOE_RX_CNT2_TOO_LONG n 1
  | 7 => d.count SLOE_RX_CNT1_PREEMPTED n 1
  | 8 => d.count SLOE_RX_CNT1_FALSE_ABORT n 1
  | 9 => d.count SLOE_RX_CNT1_FALSE_LOCK n 1
  | 10 => d.count SLOE_RX_CNT2_OVERRUN n 1
  | 11 => d.count SLOE_RX_CNT2_DROPPED n 1
  | 12 => d.count SLOE_RX_CNT2_DROPPED n 1
  | _ => d

/-- A reception ends with a status: LAST, its count, and the receiver back in SEARCH with its gain loop running (R210,
R217). -/
def Dev.slRxEnd (d : Dev) (n status : Nat) : Dev :=
  ((((d.set SLOE_RX_STATUS_LAST n status).slCount n status).set SLOE_RX_STATUS_STATE n slSEARCH).sv .slFrozen n 0).sv .slReacq n 0

/-- A reception is in progress. -/
def Dev.slReceiving (d : Dev) (n : Nat) : Bool := decide (2 ≤ d.get SLOE_RX_STATUS_STATE n)

/-- A reception in progress ends DROPPED (R218). -/
def Dev.sloeRxDrop (d : Dev) (n : Nat) : Dev := if d.slReceiving n then d.slRxEnd n 11 else d

/-- The receivers of a lane can work: its chain runs, and its stage list fits the channel (R209, R22). -/
def Dev.slHears (d : Dev) (n : Nat) : Bool := d.on SB_LSTATUS_RUNNING n && !(d.on SLOE_RX_STATUS_CFG_ERR n)

/-- The timing receivers attached to a lane that cannot be heard are OFF: they track nothing (R209). -/
def Dev.trOff (d : Dev) (n : Nat) : Dev :=
  d.each [0, 1] (fun t e => if e.get SLOE_TR_CTRL_LANE t = n then e.set SLOE_TR_STATUS_TRACKING t 0 else e)

/-- The receiver is OFF or searches as R209 and R212 state: RX_EN, a lane whose chain runs, and no CFG_ERR. A lane that
goes away in a reception drops it. -/
def Dev.sloeRefresh (d : Dev) (n : Nat) : Dev :=
  let cfg := (d.mode n).isSome && !(d.slCfgOk n)
  let d0 := d.put SLOE_RX_STATUS_CFG_ERR n cfg
  let d1 := d0.when (!(d0.slHears n)) (fun e => e.trOff n)
  if d1.on SLOE_LCFG_RX_EN n && d1.on SB_LSTATUS_RUNNING n && !cfg then
    if d1.get SLOE_RX_STATUS_STATE n = slOFF then (d1.set SLOE_RX_STATUS_STATE n slSEARCH).sv .slFrozen n 0 else d1
  else (d1.sloeRxDrop n).set SLOE_RX_STATUS_STATE n slOFF

/-- The symbols of the packet in transmission that are still to be sent. -/
def Dev.slRest (d : Dev) (n : Nat) : List (Bool × Nat) := ((d.sloeTx.find? (fun t => t.lane == n)).map (·.syms)).getD []

/-- Set them. -/
def Dev.setSlRest (d : Dev) (n : Nat) (l : List (Bool × Nat)) : Dev :=
  let others := d.sloeTx.filter (fun t => t.lane != n)
  { d with sloeTx := if l = [] then others else ⟨n, l⟩ :: others }

/-- The packet in transmission, if any, is over (R205). -/
def Dev.slIdle (d : Dev) (n : Nat) : Dev := (d.sv .slCur n 0).setSlRest n []

/-- The firmware packet of a lane ends with a result (R206). -/
def Dev.slTxEnd (d : Dev) (n result : Nat) : Dev :=
  let d1 : Dev := { d with sloeFw := d.sloeFw.filter (fun p => p.lane != n) }
  let d2 := (((d1.set SLOE_TX_STATUS_BUSY n 0).set SLOE_TX_STATUS_RESULT n result).ev SLOE_TX_STATUS_DONE n).sv .slFw n 0
  let d3 := (d2.sv .slOpen n 0).when (d2.v .slCur n == 4) (fun e => e.slIdle n)
  (d3.count SLOE_TX_CNT_NO_ACK n (b2n (result == 3))).count SLOE_TX_CNT_DROPPED n (b2n (result == 4))

/-- The lane's firmware packet ends DROPPED, if it has one (R208); a hardware packet in transmission is not interrupted (R205). -/
def Dev.sloeTxDrop (d : Dev) (n : Nat) : Dev := d.when (d.on SLOE_TX_STATUS_BUSY n) (fun e => e.slTxEnd n 4)

/-- What a reseed quiesce does to the transmitter (R208): it also removes the pending hardware packets. -/
def Dev.sloeTxQuiesce (d : Dev) (n : Nat) : Dev := (((d.sloeTxDrop n).sv .slAck n 0).sv .slTrig n 0).sv .slGasp n 0

/-- The transmitter can start a packet: it and its lane are enabled (R205). -/
def Dev.slSends (d : Dev) (n : Nat) : Bool := d.on SLOE_LCFG_TX_EN n && d.on BN_LINK_CTRL_EN n

end Sys2Proof.Machine
end

