-- ==== Sys2Proof/Machine/Feed.lean ====
section
/-! DEFINITION. The active timescale and ball times of symbols (R223, R226, R232), and what the datapath hands to the capture engine:
trigger events with their stamps (R244, R245) and the units of the streams (R248). A time is an integer count of 2^-16 ns. -/

namespace Sys2Proof.Machine

/-! ### Times -/

/-- Counter units in 2^-16 ns: 5 × 2^40 × 15625. -/
def tUnit : Int := 85899345920000000

/-- The active timescale in 2^-16 ns (R226). -/
def Dev.actTime (d : Dev) : Int := d.v .tAct 0 / tUnit

/-- The time of `k` UI of a lane in 2^-16 ns, to the nearest (R15, R224); 0 for a lane in no port. -/
def Dev.uiTime (d : Dev) (n : Nat) (k : Int) : Int :=
  match d.mode n with | some m => rdiv (k * 196608000000000) (symbolRate3 m) | none => 0

/-- The most recent pip the lane keeps. -/
def Dev.lastPip (d : Dev) (n : Nat) : Option EqPip := d.eqPips.find? (fun e => e.lane == n)

/-- The ADC ball time of symbol `s` of a lane's receive grid, reckoned from its most recent pip (R232). -/
def Dev.symTime (d : Dev) (n : Nat) (s : Int) : Int :=
  match d.lastPip n with
  | some kp => kp.start + d.uiTime n (s - (kp.pip * kp.raw.length : Nat))
  | none => d.actTime

/-! ### Trigger events -/

/-- States of CAP_STATUS.STATE. -/
def capARMED : Nat := 1
/-- After the capture trigger. -/
def capTRIGGERED : Nat := 2
/-- Ended, the ring not yet drained. -/
def capDRAINING : Nat := 3
/-- Ended. -/
def capDONE : Nat := 4

/-- The capture writes records: ARMED or TRIGGERED. -/
def Dev.capOn (d : Dev) : Bool := d.get CAP_STATUS_STATE 0 == capARMED || d.get CAP_STATUS_STATE 0 == capTRIGGERED

/-- A trigger event of an input is raised with its stamp (R244, R245). While a capture writes records it waits for the sequencer; an
event raised before the arm is stamped before the entry to state 0 and advances nothing (R246). -/
def Dev.raise (d : Dev) (input : Nat) (stamp : Int) : Dev :=
  let d1 := d.emit (.trigger input stamp)
  if d.capOn then { d1 with events := d1.events ++ [(input, stamp)] } else d1

/-! ### Units for the capture streams -/

/-- The stream records: enabled and not ended (R252). -/
def Dev.capLive (d : Dev) (st : Nat) : Bool := d.on CAP_STREAM_EN st && !(d.flag .capDead st)

/-- Units of a source of a lane, the first stamped `stamp`, `step` apart in UI, go to every stream of it (R248). -/
def Dev.feed (d : Dev) (n src : Nat) (stamp : Int) (vals : List Nat) : Dev :=
  if !d.capOn || vals.isEmpty then d else
  let l := (List.range 16).filter (fun st => d.capLive st && d.get CAP_STREAM_LANE st == n && d.get CAP_STREAM_SOURCE st == src)
  { d with capQ := d.capQ ++ l.map (fun st => { stream := st, src := src, lane := n, stamp := stamp, skip := 0, vals := vals }) }

/-- The sources 0 RAW, 1 EQ and 2 DEC of a pip (R248): its ADC codes, feed-forward outputs and decisions, EQ and DEC from EQ_ACQ up. -/
def Dev.feedPip (d : Dev) (n : Nat) (kp : EqPip) : Dev :=
  let d1 := d.feed n 0 kp.start (kp.raw.map (twos 8))
  if 3 ≤ d.get BN_LINK_STATUS_STATE n then
    (d1.feed n 1 kp.start (kp.ys.map (twos 16))).feed n 2 kp.start (kp.syms.map (fun x => ((x + 3) / 2).toNat))
  else d1

/-- Byte 0 of a CWSTAT unit and byte 90 of a SOFT unit (R248). -/
def statByte (passes status : Nat) : Nat := passes % 8 + 8 * (status % 8)

/-- A SOFT unit as a number, its first byte least significant (R248). -/
def softUnit (values : List Int) (passes status : Nat) : Nat :=
  (List.range values.length).foldl (fun a j => a + twos 5 (values.getD j 0) * 2 ^ (5 * j)) 0 + statByte passes status * 2 ^ 720

/-- A CWSTAT unit as a number, its first byte least significant (R248). -/
def statUnit (passes status flips rel best index : Nat) : Nat :=
  statByte passes status + 2 ^ 8 * min 255 flips + 2 ^ 16 * min 255 rel + 2 ^ 24 * min 255 best + 2 ^ 32 * (index % 2 ^ 16)

/-- A sideband sample as a number (R248). -/
def sbUnit (value : Int) (sat settling : Bool) : Nat := twos 24 value + 2 ^ 24 * (b2n sat + 2 * b2n settling)

end Sys2Proof.Machine
end

