-- ==== Sys2Proof/Machine/LaneOps.lean ====
section
/-! DEFINITION. What lane enable, disable and reset, retrain attempts and the bunch stop share: powering the
converters (R51, R107, R168), discarding codewords (R130), starting a port (R176, R417), the host lanes' training
(R143, R147). -/

namespace Sys2Proof.Machine

/-! ### Discarding codewords -/

/-- The decoder slots of a bunch that run a pass (R118). -/
def Dev.busySlots (d : Dev) (b : Nat) : Nat :=
  (d.cws.filter (fun c => c.lane / 4 == b && c.run.isSome)).length

/-- The peak of the slots in use over the pip, and DEC_OCC with its high-water mark (R118). -/
def Dev.decGauges (d : Dev) (n : Nat) : Dev :=
  let busy := d.busySlots (n / 4)
  let occ := (d.cws.filter (fun c => c.lane == n && c.rel.isNone)).length
  let d1 := d.sv .slotPeak (n / 4) (max (d.v .slotPeak (n / 4)) (busy : Nat))
  (d1.set DEC_OCC_NOW n (min occ 2047)).set DEC_OCC_HWM n (max (d1.get DEC_OCC_HWM n) (min occ 2047))

/-- DEC_BSTATUS.BUSY takes the peak of the pip that ends, with its high-water mark. -/
def Dev.busyReport (d : Dev) (b : Nat) : Dev :=
  let pk := min (d.v .slotPeak b).toNat 255
  ((d.set DEC_BSTATUS_BUSY b pk).set DEC_BSTATUS_BUSY_HWM b (max (d.get DEC_BSTATUS_BUSY_HWM b) pk)).sv .slotPeak b
    (d.busySlots b : Nat)

/-- Discard every codeword of a lane without release (R42, R130). -/
def Dev.discardCws (d : Dev) (n : Nat) : Dev :=
  ({ d with cws := d.cws.filter (fun c => c.lane != n) } : Dev).decGauges n

/-- Codeword lock clears at once, without CW_LOST or LOCK_LOSS, the lane's codewords are discarded, and any hunt and
pending change of lock ends (R130, R168). -/
def Dev.cwClear (d : Dev) (n : Nat) : Dev :=
  ((((((d.discardCws n).set DEC_STATUS_CW_LOCK n 0).set DEC_STATUS_HUNTING n 0).sv .cwPend n 0).sv .lockBad n 0).sv .lockArr n 0).sv .lockZero n 0

/-- The pips kept of a lane, the numbers of a grid that has ended, are forgotten (R417). -/
def Dev.dropPips (d : Dev) (n : Nat) : Dev :=
  { ((d.sv .eqDaWas n 0).sv .eqNoUpd n 0) with
    eqPips := d.eqPips.filter (fun e => e.lane != n), finals := d.finals.filter (fun e => e.lane != n) }

/-! ### The sideband chain's start and stop -/

/-- The chain of a lane starts alone at READY, not aligned (R189). -/
def Dev.sbStart (d : Dev) (n : Nat) : Dev :=
  (({ d with sb := SbLane.start n :: d.sb.filter (fun e => e.lane != n) } : Dev).set SB_LSTATUS_RUNNING n 1).setBit SB_STATUS_ALIGNED 0 n false

/-- The chain of a lane stops and is not aligned (R189). -/
def Dev.sbStop (d : Dev) (n : Nat) : Dev :=
  (({ d with sb := d.sb.filter (fun e => e.lane != n) } : Dev).set SB_LSTATUS_RUNNING n 0).setBit SB_STATUS_ALIGNED 0 n false

/-! ### Converters -/

/-- READY clears: the samples stop, the receive pip grid stops (R417), the clock recovery starts afresh at the next
READY, and codeword lock clears (R130). -/
def Dev.adcDown (d : Dev) (n : Nat) : Dev :=
  let d1 := (((((d.set LL_ADC_STATUS_READY n 0).sv .adcUp n 0).sv .rxGrid n 0).cwClear n).sv .pipRel n 0).sv .pipDl n 0
  (((d1.cdrUnlock n).sbStop n).sv .decUnl n 0).sloeRefresh n

/-- Power the ADC up: its samples become valid 20 µs later (R51). -/
def Dev.adcStart (d : Dev) (n : Nat) : Dev := d.sv .adcUp n 1

/-! ### Deadline and play-out -/

/-- The play-out target of a slot in lane dpclk: OFS limited to 4 … D × 72 (R159). -/
def Dev.ofsEff (d : Dev) (sl : Nat) : Nat :=
  let dd := match d.linesOf sl with | n :: _ => d.get DEC_STATUS_D_NOW n | [] => 0
  min (max 4 (d.get GBX_LL_OFS sl)) (dd * 72)

/-- D × 72 of a slot (R159). -/
def Dev.ofsMax (d : Dev) (sl : Nat) : Nat :=
  72 * (match d.linesOf sl with | n :: _ => d.get DEC_STATUS_D_NOW n | [] => 0)

/-- P at the start of a port: the target in low-latency mode, D × 72 in fixed-latency mode (R159). -/
def Dev.startOfs (d : Dev) (sl : Nat) : Dev :=
  match d.portAt sl with
  | none => d
  | some p => d.set GBX_LL_OFS_NOW sl (if p.mode = .l100 then 0 else if p.lowLat then d.ofsEff sl else d.ofsMax sl)

/-- The host transmitters of a port are held in electrical idle from a start of its line lanes until RX_UP is first set (R44, R176);
under NEAR_PARALLEL no hold applies (R178). -/
def Dev.startHold (d : Dev) (sl : Nat) : Dev := d.sflag .portHold sl (d.v .loopNow sl != 2)

/-- A start of a port's line lanes: the host transmitters are held in electrical idle until RX_UP is first set (R176),
both followers have had no reference (R68), the play-out offset starts (R159), the transmit pip grid starts (R417), and
fill runs on every stream without marker lock (R162). -/
def Dev.portStarts (d : Dev) (sl : Nat) : Dev :=
  let d1 := ((((d.startHold sl).sv .portStart sl 1).sv .folEver (2 * sl) 0).sv .folEver (2 * sl + 1) 0).sv .txGrid sl 1
  let d2 := ((d1.startOfs sl).each (d1.linesOf sl) (fun n e => (e.sv .stepLeft n 0).sv .insEpisode n 0)).each (d1.hostsOf sl)
    (fun m e => (e.sv .rearmDrop m 0).sv .amDelay (2 * m) 0)
  ((d2.each (d2.hostsOf sl) (fun m e => e.hlRefresh m)).followers sl).fillRefresh sl

/-- The transmit pip grid of a slot stops when no line lane of the port is enabled (R417). -/
def Dev.gridCheck (d : Dev) (sl : Nat) : Dev :=
  if (d.linesOf sl).any (fun n => d.on BN_LINK_CTRL_EN n) then d else d.sv .txGrid sl 0

/-- Measurement starts afresh at a start of a lane: no pip is measured yet, the run counts are 0, CONV falls, no error estimate (R90,
R97). -/
def Dev.eqRestart (d : Dev) (n : Nat) : Dev :=
  let d1 := (((d.sv .eqAcq n 0).sv .eqMeas n 0).sv .eqHi n 0).sv .eqLo n 0 |>.sv .eqDiv n 0 |>.sv .eqDivOn n 0
  let d2 := (d1.evIf (d1.on LL_EQ_STATUS_CONV n) LL_EQ_STATUS_CONV_LOST n).set LL_EQ_STATUS_CONV n 0
  ((d2.set LL_EQ_SNR_SNR n 0).set LL_EQ_SNR_MSE n 0).set LL_EQ_BER_VALID n 0

/-- A start of a lane: measurement starts afresh, acquisition gear, quadratic coefficients held at zero (R86, R90). -/
def Dev.eqFresh (d : Dev) (n : Nat) : Dev :=
  (((d.eqRestart n).set LL_EQ_STATUS_EVER_CONV n 0).set LL_EQ_STATUS_GEAR n 0).each (List.range 32) (fun q e => e.sv .eqQuad (32 * n + q) 0)

/-- EN is set: the ADC powers up, the DAC leaves electrical idle, the lane enters DOWN; a lane in no port is not
enabled, and a lane already enabled is not started again (R168). `start`: no lane of the port was enabled before. -/
def Dev.laneEnable (d : Dev) (n : Nat) : Dev :=
  match d.slotOfLine n with
  | none => d
  | some sl =>
    if d.on BN_LINK_CTRL_EN n then d else
    let first := !(d.flag .txGrid sl)
    let d1 := ((((d.set BN_LINK_CTRL_EN n 1).eqFresh n).adcStart n).set BN_LINK_STATUS_STATE n stDOWN).txRefresh n
    if first then d1.portStarts sl else d1

/-- EN is cleared: the ADC powers down, the DAC goes to electrical idle, the lane returns to DOWN (counted when it
was UP, R171), ATTEMPTS and STOPPED clear, codeword lock clears (R168); Sloe packets end DROPPED (R208, R218). -/
def Dev.laneDisable (d : Dev) (n : Nat) : Dev :=
  let d1 := (d.set BN_LINK_CTRL_EN n 0).enterState n stDOWN
  let d2 := ((((d1.sloeTxDrop n).sloeRxDrop n).set BN_LINK_STATUS_ATTEMPTS n 0).set BN_LINK_STATUS_STOPPED n 0).sv .lkHoldoff n 0
  let d3 := (((d2.sv .lkTimer n 0).sv .fgDisable n 0).adcDown n).txRefresh n
  match d3.slotOfLine n with
  | some sl => ((d3.gridCheck sl).laneReact n)
  | none => d3

/-! ### Foreground calibration -/

/-- The lane accepts FG_START: enabled, READY, at DOWN, no foreground calibration running (R57). -/
def Dev.fgOk (d : Dev) (n : Nat) : Bool :=
  d.on BN_LINK_CTRL_EN n && d.on LL_ADC_STATUS_READY n && d.get BN_LINK_STATUS_STATE n == stDOWN
    && !(d.on LL_ADC_STATUS_FG_BUSY n)

/-- FG_START: begin a foreground calibration, or drop the write with FG_ERR (R57). -/
def Dev.fgStart (d : Dev) (n : Nat) : Dev :=
  if d.fgOk n then (d.set LL_ADC_STATUS_FG_BUSY n 1).sv .eqHoldPip n 1 else d.ev LL_ADC_STATUS_FG_ERR n

/-! ### Retrain -/

/-- The clock-recovery integrator is cleared: LOCKED clears and lock detection restarts as at READY (R62, R174). -/
def Dev.cdrClear (d : Dev) (n : Nat) : Dev :=
  let d1 := ((((d.cdrUnlock n).sv .cdrInteg n 0).sv .cdrEst n 0).sv .cdrSum n 0).sv .cdrCnt n 0
  (d1.sv .cdrDone n 0).sv .cdrSkip n 0

/-- Retrain attempt `k` (R174): DOWN, counted, integrator cleared, equaliser set up by the attempt's number, HOLDOFF. -/
def Dev.retrain (d : Dev) (n k : Nat) : Dev :=
  let d1 := ((d.enterState n stDOWN).count BN_LINK_CNT_RETRAINS n 1).set BN_LINK_STATUS_ATTEMPTS n (min k 15)
  let d2 := (d1.sv .lkTimer n 0).cdrClear n
  let d3 := if k = 1 ∧ d2.on LL_EQ_STATUS_SNAP_VALID n then d2.sv .eqPendRestore n 1 else d2.sv .eqPendReinit n 1
  let d4 := if 3 ≤ k then d3.fgStart n else d3
  (d4.sv .lkHoldoff n 1).laneReact n

/-! ### Host lane training -/

/-- Training goes to OFF and its timers and outstanding request end (R143, R147). -/
def Dev.trainOff (d : Dev) (m : Nat) : Dev :=
  let d1 := ((d.set HL_TRAIN_STATUS_STATE m 0).set HL_TRAIN_STATUS_LOCAL_RDY m 0).set HL_TRAIN_STATUS_REMOTE_RDY m 0
  (d1.sv .hlPhase m 0).sv .hlHoldoff m 0

/-- The training of the lane is held at OFF: C2M or TRAIN_EN = 0 (R143), a generator (R148) or HOST_SERIAL (R178). -/
def Dev.trainHeld (d : Dev) (m : Nat) : Bool :=
  let gen := d.get HL_PAT_GEN m
  !(d.trains m) || decide (1 ≤ gen ∧ gen ≤ 5) || ((d.slotOfHost m).map (fun sl => d.v .loopNow sl == 1)).getD false

/-- Set the pending coefficients. -/
def Dev.hlSetPend (d : Dev) (m : Nat) (c : List Int) : Dev :=
  ((((d.seti HL_TX_COEF0_CM3 m (c.getD 0 0)).seti HL_TX_COEF0_CM2 m (c.getD 1 0)).seti HL_TX_COEF0_CM1 m (c.getD 2 0)).seti
    HL_TX_COEF0_CP1 m (c.getD 3 0)).seti HL_TX_COEF1_CP2 m (c.getD 4 0)

/-- The applied coefficients. -/
def Dev.hlApplied (d : Dev) (m : Nat) : List Int := (List.range 5).map (fun i => d.v .hlCoef (m * 5 + i))

/-- Training starts: WAIT_TX while the transmitter is in electrical idle, else SEND_TRAINING (R143); OFF while it is held there. The
CTLE may adapt again (R136), and while training runs the pending set reads back what is in force (R141). -/
def Dev.trainStart (d : Dev) (m : Nat) : Dev :=
  if d.trainHeld m then d.trainOff m else
  let d1 := ((d.trainOff m).set HL_TRAIN_STATUS_REQ_COUNT m 0).sv .hlPeakAcc m 0
  if d1.on HL_STATUS_TX_READY m then
    ((d1.hlSetPend m (d1.hlApplied m)).set HL_TRAIN_STATUS_STATE m 2).emit (.trainFrame m false)
  else d1.set HL_TRAIN_STATUS_STATE m 1

end Sys2Proof.Machine
end

