-- ==== Sys2Proof/Machine/Convert.lean ====
section
/-! DEFINITION. Line converters, clock recovery and the optical-engine port (chapter 03, R48 to R74). -/

namespace Sys2Proof.Machine

/-! ### The transfer of the ADC (R49, R50) -/

/-- `x` times the linear front-end gain of code `g` is at least `y`: the gain is 10^((3 g - 12) / 80), that is -3 dB + 0.75 dB × g with
codes above 12 as 12, so the 80th powers compare (R49, R50). -/
def gainReaches (g x y : Nat) : Bool :=
  if 4 ≤ g then decide (y ^ 80 ≤ x ^ 80 * 10 ^ (3 * min g 12 - 12)) else decide (y ^ 80 * 10 ^ (12 - 3 * g) ≤ x ^ 80)

/-- `x` times the linear front-end gain of code `g` is above `y`. -/
def gainExceeds (g x y : Nat) : Bool :=
  if 4 ≤ g then decide (y ^ 80 < x ^ 80 * 10 ^ (3 * min g 12 - 12)) else decide (y ^ 80 * 10 ^ (12 - 3 * g) < x ^ 80)

/-- The largest number below 128 that a falling test accepts, 0 if it accepts none. -/
def topOf (test : Nat → Bool) : Nat := [64, 32, 16, 8, 4, 2, 1].foldl (fun k b => if test (k + b) then k + b else k) 0

/-- The ADC's code for a differential input of `v` nanovolts at front-end gain code `g`: floor(V / LSB) limited to -128 to 127, where
one LSB is 500 mV / 256 divided by the gain (R49, R50). -/
def adcCode (g : Nat) (v : Int) : Int :=
  let x := 256 * v.natAbs
  if 0 ≤ v then (topOf (fun k => gainReaches g x (500000000 * k)) : Nat)
  else if gainExceeds g x 0 then -((1 + topOf (fun k => gainExceeds g x (500000000 * k)) : Nat) : Int) else 0

/-- The consumers of a lane's samples get them: READY, and no foreground calibration (R51, R57). -/
def Dev.calRuns (d : Dev) (n : Nat) : Bool := d.on LL_ADC_STATUS_READY n && !(d.on LL_ADC_STATUS_FG_BUSY n)

/-- The codes every consumer of a lane's samples gets for inputs in nanovolts, each as its slice presents it after its trims; code 0
before READY and during a foreground calibration (R49, R51, R57). -/
def Dev.adcCodes (d : Dev) (n : Nat) (vs : List Int) : List Int :=
  if d.calRuns n then vs.map (adcCode (d.get LL_ADC_STATUS_GAIN_NOW n)) else vs.map (fun _ => 0)

/-! ### The calibration loops' accumulations (R54 to R56) -/

/-- The three background loops of a lane. -/
inductive CalLoop where
  | ofs | gain | skew
deriving DecidableEq, Repr

/-- The sum of a loop's running accumulation. -/
def CalLoop.sum : CalLoop → Var
  | .ofs => .ofsSum
  | .gain => .gainSum
  | .skew => .skewSum

/-- The samples of a loop's running accumulation. -/
def CalLoop.cnt : CalLoop → Var
  | .ofs => .ofsCnt
  | .gain => .gainCnt
  | .skew => .skewCnt

/-- What a loop's last complete accumulation gave: the direction of the offset and skew steps' error, the gain loop's sum. -/
def CalLoop.res : CalLoop → Var
  | .ofs => .ofsRes
  | .gain => .gainRes
  | .skew => .skewRes

/-- A loop's accumulation is complete and its step has not been taken. -/
def CalLoop.done : CalLoop → Var
  | .ofs => .ofsDone
  | .gain => .gainDone
  | .skew => .skewDone

/-- The index of a slice of a lane. -/
def sliceIx (n slice : Nat) : Nat := n * 96 + slice

/-- The samples of a slice that one accumulation of a loop takes (R54). -/
def Dev.calLen (d : Dev) (n : Nat) : CalLoop → Nat
  | .skew => 2 ^ (14 + min (d.get LL_ADC_CTRL_SKEW_SHIFT n) 8)
  | _ => 2 ^ (12 + min (d.get LL_ADC_CTRL_ACC_SHIFT n) 8)

/-- What a complete accumulation of `len` samples gives: the offset loop's sum counts as zero within 1/16 LSB of zero mean (R54). -/
def CalLoop.verdict (l : CalLoop) (len : Nat) (sum : Int) : Int :=
  match l with
  | .ofs => if (len : Int) < 16 * absI sum then sum.sign else 0
  | .gain => sum
  | .skew => sum.sign

/-- One accumulation over further values: sum, samples, and the sum of the last complete one. -/
def calRun (len : Nat) (a : Int × Nat × Option Int) (x : Int) : Int × Nat × Option Int :=
  if len ≤ a.2.1 + 1 then (0, 0, some (a.1 + x)) else (a.1 + x, a.2.1 + 1, a.2.2)

/-- A slice takes further values into its accumulation of a loop (R54). -/
def Dev.calSlice (d : Dev) (n k : Nat) (l : CalLoop) (xs : List Int) : Dev :=
  let ix := sliceIx n k
  let len := d.calLen n l
  let r := xs.foldl (calRun len) (d.v l.sum ix, (d.v l.cnt ix).toNat, none)
  let d1 := (d.sv l.sum ix r.1).sv l.cnt ix (r.2.1 : Nat)
  match r.2.2 with
  | none => d1
  | some s => (d1.sv l.res ix (l.verdict len s)).sv l.done ix 1

/-- Every 96th of a pip's values from value `k` on: those of slice `k` (R48). -/
def sliceOf (k : Nat) (xs : List Int) : List Int :=
  (List.range ((xs.length + 95 - k) / 96)).map (fun j => xs.getD (96 * j + k) 0)

/-- A loop's accumulations of one slice start afresh, and the step they have made due is not taken (R55, R56). -/
def Dev.calDrop (d : Dev) (ix : Nat) (l : CalLoop) : Dev := ((d.sv l.sum ix 0).sv l.cnt ix 0).sv l.done ix 0

/-- All accumulations of a slice start afresh (R56). -/
def Dev.calRestart (d : Dev) (ix : Nat) : Dev := ((d.calDrop ix .ofs).calDrop ix .gain).calDrop ix .skew

/-- The loops of a lane start: nothing is accumulated and no slice has a statistic (R51). -/
def Dev.calFresh (d : Dev) (n : Nat) : Dev :=
  d.each (List.range 96) (fun k e => (((e.calRestart (sliceIx n k)).sv .gainRes (sliceIx n k) (-1)).sv .visGain (sliceIx n k) 0).sv
    .visSkew (sliceIx n k) 0)

/-- The skew loop steps only while the equaliser reports convergence and SKEW_EN = 1 (R55). -/
def Dev.skewRuns (d : Dev) (n : Nat) : Bool :=
  d.on LL_ADC_STATUS_READY n && d.on LL_EQ_STATUS_CONV n && d.on LL_ADC_CTRL_SKEW_EN n

/-- A loop of the lane runs (R55). The skew loop accumulates while it may step; its partial sum is kept through a fall of CONV
(DESIGN CHOICE, assumption 73). -/
def Dev.calOn (d : Dev) (n : Nat) : CalLoop → Bool
  | .ofs => d.on LL_ADC_STATUS_READY n && d.on LL_ADC_CTRL_OFS_EN n
  | .gain => d.on LL_ADC_STATUS_READY n && d.on LL_ADC_CTRL_GAIN_EN n
  | .skew => d.skewRuns n

/-- A pip of a lane's samples enters the accumulations of its slices: `codes` for the offset and gain loops, `prods` the values
e[n] × (x[n+1] - x[n-1]) for the skew loop (R54). Sample 0 of a pip is slice 0's: 96 divides the symbols of a pip in every mode. -/
def Dev.calPip (d : Dev) (n : Nat) (codes prods : List Int) : Dev :=
  let feed := fun (l : CalLoop) (xs : List Int) (e : Dev) =>
    if d.calOn n l then e.each (List.range (min 96 xs.length)) (fun k x => x.calSlice n k l (sliceOf k xs)) else e
  feed .skew prods (feed .gain (codes.map absI) (feed .ofs codes d))

/-- The enables of the loops after a write: a loop whose enable is clear holds no partial accumulation (R55). -/
def Dev.calEnables (d : Dev) (n : Nat) : Dev :=
  let drop := fun (f : Fld) (l : CalLoop) (e : Dev) =>
    if d.on f n then e else e.each (List.range 96) (fun k x => x.calDrop (sliceIx n k) l)
  drop LL_ADC_CTRL_SKEW_EN .skew (drop LL_ADC_CTRL_GAIN_EN .gain (drop LL_ADC_CTRL_OFS_EN .ofs d))

/-! ### ADC -/

/-- The thresholds a new window uses: those last written take effect at its start and both run counts start from zero (R173). -/
def Dev.losLatch (d : Dev) (n : Nat) : Dev :=
  if d.flag .losNew n then
    let d1 := ((d.sv .losOnTh n (d.get BN_LINK_LOS_ON n : Nat)).sv .losOffTh n (d.get BN_LINK_LOS_OFF n : Nat)).sv .losAs n
      (d.get BN_LINK_LOS_ASSERT n : Nat)
    ((((d1.sv .losDe n (d.get BN_LINK_LOS_DEASSERT n : Nat)).sv .losOn n 0).sv .losOff n 0).sv .losNew n 0)
  else d

/-- 20 µs after power-up the samples are valid: READY is set, the receive pip grid, the calibration loops, the clock
recovery, the gain updates and the loss-of-signal windows start (R51, R170, R173, R417); the services of R21 start. -/
def Dev.adcReady (d : Dev) (n : Nat) : Dev :=
  if !(d.flag .adcUp n) then d else
  let d1 := ((((((d.sv .adcUp n 0).set LL_ADC_STATUS_READY n 1).sv .rxGrid n 1).sv .rxPip n 0).sv .decPip n 0).sv .eqHoldPip n 0).dropPips n
  let d2 := ((d1.cdrClear n).sv .afeSame n 0).set BN_LINK_STATUS_LOS n 0
  let d4 := (((d2.calFresh n).sbStart n).sv .losNew n 1).losLatch n
  let d5 := (d4.sloeRefresh n).laneReact n
  if d5.flag .fgWant n then d5.fgStart n else d5

/-- ADC_READY (R51). -/
def execAdcReady (n : Fin 8) (s : State) : Res := okDev s (s.dev.adcReady n)

/-- One automatic gain update (R50): one code toward keeping the percentile between 96 and 120, only below EQ_ACQ; the updates in a row
that leave AFE_GAIN unchanged are counted (R170). -/
def Dev.afeUpdate (d : Dev) (n pct : Nat) : Dev :=
  if d.on LL_ADC_STATUS_READY n && !(d.on LL_ADC_STATUS_FG_BUSY n) && d.on LL_ADC_CTRL_AFE_AUTO n
      && decide (d.get BN_LINK_STATUS_STATE n < stEQACQ) then
    let g := min (d.get LL_ADC_STATUS_GAIN_NOW n) 12
    let g' := if pct < 96 then min (g + 1) 12 else if 120 < pct then g - 1 else g
    if g' = g then d.sv .afeSame n (d.v .afeSame n + 1)
    else ((d.set LL_ADC_STATUS_GAIN_NOW n g').set LL_ADC_CTRL_AFE_GAIN n g').sv .afeSame n 0
  else d

/-- AFE_GAIN_UPDATE (R50, R170). `pct` is the 99.99th percentile of |code|. -/
def execAfeGainUpdate (n : Fin 8) (pct : Nat) (s : State) : Res := okDev s (s.dev.afeUpdate n pct)

/-- After a complete round of 96 slices, a loop subtracts the rounded mean of its 96 trims from each trim (R54). -/
def Dev.recentre (d : Dev) (x vis : Var) (lo hi : Int) (n : Nat) : Dev :=
  if (List.range 96).all (fun k => d.flag vis (sliceIx n k)) then
    let sum := (List.range 96).foldl (fun a k => a + d.v x (sliceIx n k)) 0
    let m := rdiv sum 96
    d.each (List.range 96) (fun k e => (e.sv x (sliceIx n k) (clampI lo hi (e.v x (sliceIx n k) - m))).sv vis (sliceIx n k) 0)
  else d

/-- One offset step, once the slice's accumulation is complete: one trim step toward zero mean, none within 1/16 LSB of it (R54,
R55). -/
def Dev.ofsStep (d : Dev) (n slice : Nat) : Dev :=
  let ix := sliceIx n slice
  if !(d.flag .ofsDone ix) then d
  else if d.calOn n .ofs then (d.sv .sliceOfs ix (clampI (-128) 127 (d.v .sliceOfs ix - d.v .ofsRes ix))).sv .ofsDone ix 0
  else d.sv .ofsDone ix 0

/-- OFFSET_LOOP_STEP (R54). -/
def execOffsetLoopStep (n : Fin 8) (slice : Fin 96) (s : State) : Res := okDev s (s.dev.ofsStep n slice)

/-- The gain loop's statistics of the lane's slices, those that have one (R54). -/
def Dev.gainStats (d : Dev) (n : Nat) : List Int :=
  ((List.range 96).map (fun k => d.v .gainRes (sliceIx n k))).filter (fun x => decide (0 ≤ x))

/-- The direction of a statistic from the mean of all, 0 within 0.025 % of it (R54). The mean is that of the latest statistics of the
slices that have one (DESIGN CHOICE, assumption 73). -/
def gainDir (stat : Int) (all : List Int) : Int :=
  let tot := all.foldl (· + ·) 0
  let diff := (all.length : Int) * stat - tot
  if 4000 * absI diff ≤ tot then 0 else diff.sign

/-- One gain step, once the slice's accumulation is complete: one trim step toward the mean of the statistic, none within 0.025 % of it,
and the round's recentring (R54, R55). -/
def Dev.gainStep (d : Dev) (n slice : Nat) : Dev :=
  let ix := sliceIx n slice
  if !(d.flag .gainDone ix) then d
  else if d.calOn n .gain then
    let d1 := d.sv .sliceGain ix (clampI (-128) 127 (d.v .sliceGain ix - gainDir (d.v .gainRes ix) (d.gainStats n)))
    ((d1.sv .gainDone ix 0).sv .visGain ix 1).recentre .sliceGain .visGain (-128) 127 n
  else d.sv .gainDone ix 0

/-- GAIN_LOOP_STEP (R54). -/
def execGainLoopStep (n : Fin 8) (slice : Fin 96) (s : State) : Res := okDev s (s.dev.gainStep n slice)

/-- One skew step, once the slice's accumulation is complete: one trim step against the sign of the sum, and the round's recentring
(R54, R55). -/
def Dev.skewStep (d : Dev) (n slice : Nat) : Dev :=
  let ix := sliceIx n slice
  if !(d.flag .skewDone ix) then d
  else if d.calOn n .skew then
    let d1 := d.sv .sliceSkew ix (clampI (-200) 200 (d.v .sliceSkew ix - d.v .skewRes ix))
    ((d1.sv .skewDone ix 0).sv .visSkew ix 1).recentre .sliceSkew .visSkew (-200) 200 n
  else d.sv .skewDone ix 0

/-- SKEW_LOOP_STEP (R54). -/
def execSkewLoopStep (n : Fin 8) (slice : Fin 96) (s : State) : Res := okDev s (s.dev.skewStep n slice)

/-- SLICE advances after an access to LL_ADC_SLICE_TRIM when AUTO_INC is set, wrapping from 95 to 0 (LL_ADC_SLICE_SEL). From 96 to 127
the spec gives no wrap: the model advances by one, from 127 to 0 (DESIGN CHOICE, assumption 74). -/
def Dev.sliceNext (d : Dev) (n : Nat) : Dev :=
  if d.on LL_ADC_SLICE_SEL_AUTO_INC n then
    let k := d.get LL_ADC_SLICE_SEL_SLICE n
    d.set LL_ADC_SLICE_SEL_SLICE n (if k = 95 then 0 else k + 1)
  else d

/-- Set the three trims of a slice, each limited to its range (R53), and restart its accumulations (R56; for a copy of the factory trims
and a foreground calibration this is the model's choice, assumption 73). -/
def Dev.setTrims (d : Dev) (n k : Nat) (ofs gain skew : Int) : Dev :=
  (((d.calRestart (sliceIx n k)).sv .sliceOfs (sliceIx n k) (clampI (-128) 127 ofs)).sv .sliceGain (sliceIx n k) (clampI (-128) 127 gain)).sv
    .sliceSkew (sliceIx n k) (clampI (-200) 200 skew)

/-- SLICE_TRIM_WRITE (R56): set the trims of the selected slice; slice numbers 96 to 127 select none. -/
def execSliceTrimWrite (n : Fin 8) (ofs gain skew : Int) (s : State) : Res :=
  let d := s.dev
  let k := d.get LL_ADC_SLICE_SEL_SLICE n
  okDev s ((if k < 96 then d.setTrims n k ofs gain skew else d).sliceNext n)

/-- ADC_FACTORY (R57): every slice's kept factory trims become its trims in use. -/
def execAdcFactory (n : Fin 8) (s : State) : Res :=
  okDev s (s.dev.each (List.range 96) (fun k e =>
    e.setTrims n k (e.v .facOfs (sliceIx n k)) (e.v .facGain (sliceIx n k)) (e.v .facSkew (sliceIx n k))))

/-- ADC_FG_START (R57): accepted at DOWN with READY, else dropped with FG_ERR. -/
def execAdcFgStart (n : Fin 8) (s : State) : Res := okDev s ((s.dev.fgStart n).laneReact n)

/-- The end of a foreground calibration (R57): new trims, FG_BUSY clear, and a waiting clear of EN takes effect. -/
def Dev.fgDone (d : Dev) (n : Nat) (trims : List (Int × Int × Int)) : Dev :=
  if !(d.on LL_ADC_STATUS_FG_BUSY n) then d else
  let d1 := d.each ((List.range 96).zip trims) (fun kt e => e.setTrims n kt.1 kt.2.1 kt.2.2.1 kt.2.2.2)
  let d0 := (d1.set LL_ADC_STATUS_FG_BUSY n 0).sv .fgWant n 0
  let d2 := if (List.range 8).any (fun k => d0.flag .fgWant k) then d0 else d0.set BOOT_STATUS_FG_PENDING 0 0
  if d2.flag .fgDisable n then d2.laneDisable n else (d2.losLatch n).laneReact n

/-- ADC_FG_DONE (R57). `trims` are the offset, gain and skew trims measured against the ramp, slice 0 first. -/
def execAdcFgDone (n : Fin 8) (trims : List (Int × Int × Int)) (s : State) : Res := okDev s (s.dev.fgDone n trims)

/-! ### Clock recovery -/

/-- The loop is frozen: held, or in MODE = OPEN (R64). -/
def Dev.cdrFrozen (d : Dev) (n : Nat) : Bool := d.on LL_CDR_STATUS_HOLDING n || d.get LL_CDR_CTRL_MODE n == 2

/-- The detector in force is the equaliser's: PD_SEL = EQ, or AUTO (and 3) since the pip boundary at which CONV was set (R60). -/
def Dev.cdrEq (d : Dev) (n : Nat) : Bool :=
  match d.get LL_CDR_CTRL_PD_SEL n with
  | 1 => false
  | 2 => true
  | _ => d.flag .cdrAuto n

/-- The error of one dpclk that the loop uses, given what the raw detector and the equaliser's give; 0 from the equaliser's until it
has converged (R60). -/
def Dev.cdrErr (d : Dev) (n : Nat) (e : Int × Int) : Int :=
  if d.cdrEq n then (if d.on LL_EQ_STATUS_CONV n then e.2 else 0) else e.1

/-- Symbols per dpclk of a lane (R48). -/
def Dev.symsPerDpclk (d : Dev) (n : Nat) : Nat := match d.mode n with | some m => symbolsPerDpclk m | none => 160

/-- The integrator's value at 300 ppm, its limit (R63): 2^-40 UI per dpclk. -/
def Dev.cdrLimit (d : Dev) (n : Nat) : Int := (300 * d.symsPerDpclk n * 2 ^ 40 / 1000000 : Nat)

/-- What the loop of R59 carries from dpclk to dpclk: I and the phase remainder in 2^-40 UI, the phase in 1/128 UI, and the lock-check
interval: sum of I, dpclk, whether it counts, the last full interval's sum and whether it waits (R62). -/
structure CdrLoop where
  integ : Int
  rem   : Int
  phase : Int
  sum   : Int
  cnt   : Nat
  skip  : Int
  mean  : Int
  done  : Int

/-- The interpolator's advance by `adv` in 2^-40 UI: whole steps of 1/128 UI, the remainder carried (R59). -/
def CdrLoop.advance (c : CdrLoop) (adv : Int) : CdrLoop :=
  let t := c.rem + adv
  let steps := rdiv t (2 ^ 33)
  { c with rem := t - steps * 2 ^ 33, phase := (c.phase + steps) % 128 }

/-- One dpclk of the lock-check interval: it ends after 4096 (R62). -/
def CdrLoop.count (c : CdrLoop) : CdrLoop :=
  let s := c.sum + c.integ
  if 4096 ≤ c.cnt + 1 then { c with sum := 0, cnt := 0, skip := 0, mean := s, done := if c.skip = 0 then 1 else 2 }
  else { c with sum := s, cnt := c.cnt + 1 }

/-- One update of a tracking loop from an error in 2^-20 UI (R59, R63). -/
def CdrLoop.track (lim : Int) (kp ki : Nat) (c : CdrLoop) (e : Int) : CdrLoop :=
  let i := clampI (-lim) lim (c.integ + e * 2 ^ (20 - ki))
  (CdrLoop.advance { c with integ := i } (i + e * 2 ^ (20 - kp))).count

/-- One dpclk of a lane's loop (R59, R64): held, I is frozen and the phase goes on by I; in OPEN I is frozen and firmware moves the
phase; else the loop tracks. -/
def Dev.cdrTick (d : Dev) (n : Nat) (c : CdrLoop) (e : Int) : CdrLoop :=
  if d.on LL_CDR_STATUS_HOLDING n then (c.advance c.integ).count
  else if d.get LL_CDR_CTRL_MODE n = 2 then c.count
  else c.track (d.cdrLimit n) (clampN 4 10 (d.get LL_CDR_CTRL_KP_SHIFT n)) (clampN 8 20 (d.get LL_CDR_CTRL_KI_SHIFT n)) e

/-- The 72 dpclk of a pip of a lane's loop; `errs` are the errors of the two detectors in 2^-20 UI, which the spec gives by their gain
only (R59, R60). -/
def Dev.cdrPip (d : Dev) (n : Nat) (errs : List (Int × Int)) : Dev :=
  let c0 := CdrLoop.mk (d.v .cdrInteg n) (d.v .cdrRem n) (d.get LL_CDR_PHASE_PHASE n : Nat) (d.v .cdrSum n) (d.v .cdrCnt n).toNat
    (d.v .cdrSkip n) (d.v .cdrMean n) (d.v .cdrDone n)
  let c := ((List.range 72).map (fun k => d.cdrErr n (errs.getD k (0, 0)))).foldl (d.cdrTick n) c0
  let d1 := (((d.sv .cdrInteg n c.integ).sv .cdrRem n c.rem).set LL_CDR_PHASE_PHASE n c.phase.toNat).sv .cdrSum n c.sum
  (((d1.sv .cdrCnt n (c.cnt : Nat)).sv .cdrSkip n c.skip).sv .cdrMean n c.mean).sv .cdrDone n c.done

/-- The estimate of the last full interval in 0.001 ppm: the mean of I over the symbols per dpclk (R62). -/
def Dev.cdrEstimate (d : Dev) (n : Nat) : Int := rdiv (d.v .cdrMean n * 10 ^ 9) (4096 * d.symsPerDpclk n * 2 ^ 40)

/-- FREQ_RANGE by the limits of R63, given the old value: set above 200 ppm, cleared below 195 ppm. -/
def freqRange (old : Bool) (est : Int) : Bool := if 200000 < absI (est) then true else if absI (est) < 195000 then false else old

/-- The end of a lock-check interval (R62, R63, R64, R66): the estimate, its report, FREQ_RANGE, MISMATCH against the
port's reference lane, and LOCKED by the count of stable intervals; an interval in which MODE left OPEN gives an estimate only. -/
def Dev.cdrInterval (d : Dev) (n : Nat) : Dev :=
  if !(d.on LL_ADC_STATUS_READY n) || !(d.flag .cdrDone n) then d else
  let est := d.cdrEstimate n
  let diff := absI (est - d.v .cdrEst n)
  let d1 := (((d.sv .cdrDone n 0).sv .cdrEst n est).seti LL_CDR_FREQ_PPM n est).put LL_CDR_STATUS_FREQ_RANGE n
      (freqRange (d.on LL_CDR_STATUS_FREQ_RANGE n) est)
  let ref := (d1.slotOfLine n).bind (fun sl => d1.rxRefLane sl)
  let mis := match ref with
    | some r => decide (r ≠ n ∧ 20000 < absI (est - d1.v .cdrEst r))
    | none => false
  let d2 := d1.put LL_CDR_STATUS_MISMATCH n mis
  let tol : Int := 1000 * (max 1 (d2.get LL_CDR_CTRL_LOCK_TOL n) : Nat)
  let cnt : Int := (max 1 (d2.get LL_CDR_CTRL_LOCK_CNT n) : Nat)
  let d3 :=
    if d2.cdrFrozen n || d2.on LL_CDR_STATUS_FREQ_RANGE n || mis || decide (4 * tol < diff) then d2.cdrUnlock n
    else if d.v .cdrDone n = 2 then d2
    else if diff < tol then
      let e := d2.sv .cdrStable n (d2.v .cdrStable n + 1)
      if cnt ≤ e.v .cdrStable n then e.set LL_CDR_STATUS_LOCKED n 1 else e
    else d2.sv .cdrStable n 0
  d3.laneReact n

/-- CDR_LOCK_INTERVAL (R62): a full interval of 4096 dpclk has ended. -/
def execCdrLockInterval (n : Fin 8) (s : State) : Res := okDev s (s.dev.cdrInterval n)

/-- The mode of the loop has been written: in leaving OPEN the interpolator stops where it is, and lock detection counts from the next
full interval (R64). -/
def Dev.cdrMode (d : Dev) (n was : Nat) : Dev :=
  if was = 2 ∧ d.get LL_CDR_CTRL_MODE n ≠ 2 then (d.sv .cdrPhMoving n 0).sv .cdrSkip n 1 else d

/-- The interpolator moves toward a written phase by at most `k` steps (R64). -/
def Dev.phaseMove (d : Dev) (n : Nat) (k : Int) : Dev :=
  if d.flag .cdrPhMoving n then
    let p : Int := d.get LL_CDR_PHASE_PHASE n
    let t := d.v .cdrPhTarget n
    let p' := p + clampI (-k) k (t - p)
    (d.set LL_CDR_PHASE_PHASE n p'.toNat).sflag .cdrPhMoving n (decide (p' ≠ t))
  else d

/-- CDR_PHASE_WRITE (R64): acts only in MODE = OPEN; the first step is taken in the next dpclk. -/
def execCdrPhaseWrite (n : Fin 8) (phase : Fin 128) (s : State) : Res :=
  let d := s.dev
  okDev s (if d.get LL_CDR_CTRL_MODE n = 2 then
    ((d.sv .cdrPhTarget n (phase.val : Nat)).sflag .cdrPhMoving n (decide (phase.val ≠ d.get LL_CDR_PHASE_PHASE n)))
  else d)

/-! ### The optical-engine port -/

/-- Byte `i` of a buffer of 32-bit words held in a register array: byte 4 w + k is bits [8k+7:8k] of word w. -/
def Dev.bufByte (d : Dev) (f : Fld) (base i : Nat) : Byte :=
  BitVec.ofNat 8 (d.get f (base + i / 4) / 2 ^ (8 * (i % 4)))

/-- Set byte `i` of such a buffer. -/
def Dev.setBufByte (d : Dev) (f : Fld) (base i : Nat) (b : Byte) : Dev :=
  let w := d.get f (base + i / 4)
  let sh := 2 ^ (8 * (i % 4))
  d.set f (base + i / 4) (w - (w / sh % 256) * sh + b.toNat * sh)

/-- Set consecutive bytes of such a buffer from byte `i` on. -/
def Dev.setBuf (d : Dev) (f : Fld) (base : Nat) : Nat → List Byte → Dev
  | _, [] => d
  | i, b :: bs => (d.setBufByte f base i b).setBuf f base (i + 1) bs

/-- Bytes moved to the engine and from it by one transaction (R69). -/
def Dev.speLens (d : Dev) : Nat × Nat :=
  let tx := d.get SPI_OE_CTRL_TXLEN 0
  (tx, if d.on SPI_OE_CTRL_DUPLEX 0 then tx else d.get SPI_OE_CTRL_RXLEN 0)

/-- The bit order of a byte on the wire: the bits in the order sent (LSB_FIRST). -/
def Dev.speBits (d : Dev) (b : Byte) : List Bool :=
  let msb := (List.range 8).map (fun i => b.getMsbD i)
  if d.on SPI_OE_CTRL_LSB_FIRST 0 then msb.reverse else msb

/-- How the next transaction's clock runs (R69): mclk per half-period (DIV below 29 acts as 29), idle level, sampling edge. -/
def Dev.speClock (d : Dev) : SpiClock :=
  { half := max 29 (d.get SPI_OE_CTRL_DIV 0) + 1, cpol := d.on SPI_OE_CTRL_CPOL 0, cpha := d.on SPI_OE_CTRL_CPHA 0 }

/-- One transaction starts on the balls (R69). -/
def Dev.speGo (d : Dev) : Dev :=
  d.emit (.spiOe (d.get SPI_OE_CTRL_CS 0) d.speClock (d.on SPI_OE_CTRL_DUPLEX 0)
    ((List.range d.speLens.1).flatMap (fun i => d.speBits (d.bufByte SPI_OE_TXBUF_DATA 0 i))) d.speLens.2)

/-- The byte whose eight bits came in this order from the engine (LSB_FIRST). -/
def Dev.speByte (d : Dev) (b : Byte) : Byte :=
  if d.on SPI_OE_CTRL_LSB_FIRST 0 then (List.range 8).foldl (fun a i => a <<< 1 ||| (if b.getLsbD i then 1#8 else 0#8)) 0#8 else b

/-- The fields of SPI_OE_CTRL as a write sets them. -/
def Dev.speCtrl (d : Dev) (w : Nat) : Dev :=
  (((((((d.set SPI_OE_CTRL_DIV 0 w).set SPI_OE_CTRL_CPOL 0 (w / 2 ^ 6)).set SPI_OE_CTRL_CPHA 0 (w / 2 ^ 7)).set
    SPI_OE_CTRL_CS 0 (w / 2 ^ 8)).set SPI_OE_CTRL_LSB_FIRST 0 (w / 2 ^ 9)).set SPI_OE_CTRL_DUPLEX 0 (w / 2 ^ 10)).set
    SPI_OE_CTRL_TXLEN 0 (w / 2 ^ 16)).set SPI_OE_CTRL_RXLEN 0 (w / 2 ^ 24)

/-- A START with these lengths is refused (R70). -/
def Dev.speBad (d : Dev) : Bool :=
  decide (64 < d.get SPI_OE_CTRL_TXLEN 0) || decide (64 < d.get SPI_OE_CTRL_RXLEN 0)
    || (if d.on SPI_OE_CTRL_DUPLEX 0 then d.get SPI_OE_CTRL_TXLEN 0 == 0
        else d.get SPI_OE_CTRL_TXLEN 0 + d.get SPI_OE_CTRL_RXLEN 0 == 0)

/-- SPI_OE_START (R70): a write of SPI_OE_CTRL with START = 1, `ctrl` the word written. Dropped with BUSY while a
transaction runs, refused with LEN, else the transaction begins. -/
def execSpiOeStart (ctrl : Word) (s : State) : Res :=
  let d := s.dev
  okDev s (
    if d.on SPI_OE_STATUS_BUSY 0 then d.set SPI_OE_STATUS_ERR 0 1 else
    let d1 := d.speCtrl ctrl.toNat
    if d1.speBad then (d1.set SPI_OE_STATUS_ERR 0 2).ev SPI_OE_STATUS_DONE 0
    else (((d1.set SPI_OE_STATUS_BUSY 0 1).sv .speBusyPoll 0 0).sv .speFirst 0 0).speGo)

/-- The controller ends its transaction or poll. -/
def Dev.speEnd (d : Dev) : Dev :=
  (((d.set SPI_OE_STATUS_BUSY 0 0).sv .speBusyPoll 0 0).sv .speFirst 0 0).ev SPI_OE_STATUS_DONE 0

/-- SPI_OE_TRANSACTION_END (R69, R71). `rx` are the bytes received, each with its first bit as its most significant. Where BYTE lies at or
beyond the bytes received the old byte of SPI_OE_RXBUF is tested, and a poll with TIMEOUT = 0 that does not match ends with
POLL_TIMEOUT (DESIGN CHOICE, both: assumption 75). -/
def execSpiOeTransactionEnd (rx : List Byte) (s : State) : Res :=
  let d := s.dev
  okDev s (
    if !(d.on SPI_OE_STATUS_BUSY 0) || d.flag .speBusyPoll 0 then d else
    let d1 := d.setBuf SPI_OE_RXBUF_DATA 0 0 ((rx.take d.speLens.2).map d.speByte)
    let b := (d1.bufByte SPI_OE_RXBUF_DATA 0 (d1.get SPI_OE_POLL_BYTE 0)).toNat
    let hit := Nat.land b (d1.get SPI_OE_POLL_MASK 0) == d1.get SPI_OE_POLL_VALUE 0
    if !(d1.on SPI_OE_POLL_EN 0) || hit then d1.speEnd
    else if d1.get SPI_OE_POLL_TO_TIMEOUT 0 = 0 then (d1.set SPI_OE_STATUS_ERR 0 3).speEnd
    else (d1.sv .speBusyPoll 0 1).sv .speFirst 0 1)

/-- SPI_OE_POLL_GAP (R71): the gap ends and the whole transaction is repeated. -/
def execSpiOePollGap (s : State) : Res :=
  let d := s.dev
  okDev s (if d.on SPI_OE_STATUS_BUSY 0 && d.flag .speBusyPoll 0 then (d.sv .speBusyPoll 0 0).speGo else d)

/-- SPI_OE_POLL_TIMEOUT (R71): the timeout, which runs from the end of the first transaction, expires. A repeated transaction that
runs then ends unfinished: its bytes are lost (DESIGN CHOICE, assumption 75). -/
def execSpiOePollTimeout (s : State) : Res :=
  let d := s.dev
  okDev s (if d.on SPI_OE_STATUS_BUSY 0 && d.flag .speFirst 0 then (d.set SPI_OE_STATUS_ERR 0 3).speEnd else d)

/-- Every line lane's squelch sources are brought up to date (R73, R105). -/
def Dev.txRefreshAll (d : Dev) : Dev := d.each (List.range 8) (fun n e => e.txRefresh n)

/-- OE_ALARM_FALL (R73): the ball falls and the low time starts. SPI_OE_STATUS.ALARM shows the ball's level. -/
def execOeAlarmFall (s : State) : Res := okDev s ((s.dev.sv .oeLow 0 1).sv .oeTaken 0 0)

/-- OE_ALARM_ACCEPT (R73): the low time has reached `us` µs; the alarm is accepted, once per low period, when that is
at least DEBOUNCE. -/
def execOeAlarmAccept (us : Nat) (s : State) : Res :=
  let d := s.dev
  okDev s (
    if d.flag .oeLow 0 && !(d.flag .oeTaken 0) && decide (d.get SPI_OE_ALARM_DEBOUNCE 0 ≤ us) then
      (((d.sv .oeTaken 0 1).ev SPI_OE_STATUS_ALARM_EV 0).sv .oeSquelch 0 1).txRefreshAll
    else d)

/-- The alarm squelch ends in the first mclk in which ALARM_EV is clear and the ball is high (R73). -/
def Dev.oeRelease (d : Dev) : Dev :=
  if !(d.on SPI_OE_STATUS_ALARM_EV 0) && !(d.flag .oeLow 0) then (d.sv .oeSquelch 0 0).txRefreshAll else d

/-- OE_ALARM_RISE (R73). -/
def execOeAlarmRise (s : State) : Res :=
  okDev s ((s.dev.sv .oeLow 0 0).oeRelease)

/-- OE_ALARM_EV_CLEAR (R73): a write of 1 to ALARM_EV. -/
def execOeAlarmEvClear (s : State) : Res := okDev s ((s.dev.set SPI_OE_STATUS_ALARM_EV 0 0).oeRelease)

/-- Ball OE_GPIO`k` is driven by the device, and to which level: an output drives GPIO_OUT, an open-drain one only 0 (R74). -/
def Dev.oeDrive (d : Dev) (k : Nat) : Option Bool :=
  let out := (d.get SPI_OE_PINS_GPIO_OUT 0).testBit k
  if !((d.get SPI_OE_PINS_GPIO_OE 0).testBit k) || d.flag .offMgmt 0 then none
  else if (d.get SPI_OE_PINS_GPIO_OD 0).testBit k && out then none else some out

/-- The level of ball OE_GPIO`k`: what the device drives, else what stands there from outside (R74). -/
def Dev.oeBall (d : Dev) (k : Nat) : Bool := (d.oeDrive k).getD (d.flag .oePin k)

/-- The level of ball OE_RST_N: it follows RST_N, and floats (none) while the output domain of VDDIO is off (R72). -/
def Dev.oeRstN (d : Dev) : Option Bool := if d.flag .offMgmt 0 then none else some (d.on SPI_OE_PINS_RST_N 0)

/-- OE_GPIO_EDGE (R74): ball OE_GPIO`k` takes a new level from outside; an edge on an enabled input sets its GPIO_EV bit. -/
def execOeGpioEdge (k : Fin 4) (level : Bool) (s : State) : Res :=
  let d := s.dev
  let edge := d.flag .oePin k != level
  let d1 := d.sflag .oePin k level
  okDev s (if edge && !((d.get SPI_OE_PINS_GPIO_OE 0).testBit k) && (d.get SPI_OE_PINS_GPIO_IRQ_EN 0).testBit k
    then d1.setBit SPI_OE_STATUS_GPIO_EV 0 k true else d1)

end Sys2Proof.Machine
end

