-- ==== Sys2Proof/Machine/Tile.lean ====
section
/-! DEFINITION. The tile reload engine's start (R46), shared by every unit that reads configuration words. -/

namespace Sys2Proof.Machine

/-- A load that covers the bunch is in progress (R39, R46). -/
def Dev.loading (d : Dev) (b : Nat) : Bool :=
  d.on SEED_STATUS_BUSY 0 && (d.v .seedCmd 0 == 1 || d.v .seedCmd 0 == 2 + (b : Int))

/-- A reload attempt is recorded: 1 reloaded, 2 SHADOW_UE, 3 dropped for a load (SEED_RELOAD_LAST). -/
def Dev.reloadReport (d : Dev) (b tile result : Nat) : Dev :=
  ((d.set SEED_RELOAD_LAST_TILE 0 tile).set SEED_RELOAD_LAST_BUNCH 0 b).set SEED_RELOAD_LAST_RESULT 0 result

/-- The start of a tile reload, or its wait for the running one; dropped while a load of the bunch runs. A lane whose
unit has no good copy is held at DOWN (R46, R47). -/
def Dev.tileFail (d : Dev) (b tile : Nat) (hold : Option Nat) : Dev :=
  if d.loading b then d.reloadReport b tile 3 else
  let d1 : Dev := { d with reloads := d.reloads ++ [⟨b, tile, hold⟩] }
  match hold with
  | none => d1
  | some n => (d1.sv .lkTileHold n (max 1 (d1.v .lkTileHold n))).laneReact n

end Sys2Proof.Machine
end

