-- ==== Sys2Proof/Machine/EqPath.lean ====
section
/-! DEFINITION. The equaliser's arithmetic on one pip of samples (R75 to R84): restorer, feed-forward stage, decision
stages, soft values, and the signal-to-noise ratio (R90, R95). Numbers are integers in the units of R75; values at the
decision stage (z, e) are in 1/196608 = 2^-16 / 3, a unit in which every term of R82 and R83 is whole. A symbol is its
level's number 3, 1, -1 or -3 in thirds of L (R76). -/

namespace Sys2Proof.Machine

/-- Saturate to a signed format of `w` bits (R75). -/
def satW (w : Nat) (x : Int) : Int := clampI (-(2 ^ (w - 1) : Nat)) ((2 ^ (w - 1) : Nat) - 1) x

/-- Division rounded to nearest, ties away from zero, for a divisor of either sign (R75); 0 where the divisor is 0. -/
def rdivI (a b : Int) : Int := if b = 0 then 0 else if b < 0 then rdiv (-a) b.natAbs else rdiv a b.natAbs

/-- The target level L in 2^-7 (R75). -/
def Dev.eqL (d : Dev) (n : Nat) : Int := (max 0x20 (d.get LL_EQ_SHAPE_LEVEL n) : Nat)

/-! ### Restorer -/

/-- The restorer's settings: L, c0 in Q2.14, gain exponent, FAST mode, frozen. -/
structure Restorer where
  lvl    : Int
  c0     : Int
  shift  : Nat
  fast   : Bool
  frozen : Bool

/-- The level nearest to a value, both in 2^-21 × 1/3 (R76, R77); a value on a threshold goes toward zero. -/
def sliceAt (third v : Int) : Int :=
  if 2 * third < v then 3 else if v < -(2 * third) then -3
  else if 0 < v then 1 else if v < 0 then -1 else if Config.sliceZero then 1 else -1

/-- The restored sample x' = x - b, Q2.7 (R75). -/
def restored (b x : Int) : Int := satW 9 (rdiv (16 * x - b) 16)

/-- The change 2^-BLR_SHIFT × m of one block of restored samples, in 2^-11 (R77). -/
def Restorer.delta (r : Restorer) (xs : List Int) : Int :=
  let sx := xs.foldl (· + ·) 0
  if r.frozen ∨ xs.length = 0 then 0
  else if r.fast ∧ 4096 ≤ absI r.c0 then
    let sk := xs.foldl (fun a x => a + sliceAt (r.lvl * 16384) (3 * r.c0 * x)) 0
    rdivI (2048 * (3 * r.c0 * sx - 16384 * r.lvl * sk)) (384 * r.c0 * (xs.length : Int) * ((2 ^ r.shift : Nat) : Int))
  else rdiv (16 * sx) (xs.length * 2 ^ r.shift)

/-- The restorer over blocks of `w` codes: the estimates of the current dpclk and the next two, and the restored
samples; a new estimate applies two dpclk after the end of its block (R77). -/
def Restorer.run (r : Restorer) (w : Nat) : Nat → Int × Int × Int → List Int → List Int × (Int × Int × Int)
  | 0, bs, _ => ([], bs)
  | fuel + 1, (b0, b1, b2), codes =>
    match codes with
    | [] => ([], (b0, b1, b2))
    | _ =>
      let xs := (codes.take w).map (restored b0)
      let nb := clampI (-1024) 1024 (b2 + r.delta xs)
      let rest := r.run w fuel (b1, b2, nb) (codes.drop w)
      (xs ++ rest.1, rest.2)

/-! ### Feed-forward stage -/

/-- The coefficients a feed-forward output uses: PRE, linear ones by span index in Q2.14, quadratic ones with their
pairs in Q1.15 (R78, R79). -/
structure FfeTaps where
  pre  : Nat
  lin  : List Int
  quad : List (Int × Int × Int)

/-- The sample `k` places before position `i` of a window. -/
def at_ (xs : List Int) (i : Nat) (k : Int) : Int := xs.getD ((i : Int) - k).toNat 0

/-- The quadratic product of a pair at a position, Q3.9 (R75). -/
def quadProd (xs : List Int) (i : Nat) (p q : Int) : Int := satW 12 (rdiv (at_ xs i p * at_ xs i q) 32)

/-- The feed-forward output at position `i` of a window, Q4.8 (R75, R78). The sum in 2^-23 saturates at its end only, not at each term
(DESIGN CHOICE, assumption 79). -/
def FfeTaps.out (t : FfeTaps) (xs : List Int) (i : Nat) : Int :=
  let lin := t.lin.zipIdx.foldl (fun a ck => a + 4 * ck.1 * at_ xs i ((ck.2 : Int) - t.pre)) 0
  let all := t.quad.foldl (fun a w => a + rdiv (w.1 * quadProd xs i w.2.1 w.2.2) 2) lin
  satW 12 (rdiv (satW 32 all) 32768)

/-- `c` feed-forward outputs in a row, of the symbols from position 111 of the window on. -/
def FfeTaps.outs (t : FfeTaps) : Nat → List Int → List Int
  | 0, _ => []
  | c + 1, xs => t.out xs 111 :: t.outs c (xs.drop 1)

/-! ### Decision stages -/

/-- The speculative DFE over outputs `ys` after the decisions `k1`, `k2` (R82): (z, symbol) of each position. -/
def dfe (lvl b1 b2 : Int) : Int → Int → List Int → List (Int × Int)
  | _, _, [] => []
  | k1, k2, y :: ys =>
    let z := 768 * y - (b1 * k1 + b2 * k2) * lvl
    let k := sliceAt (512 * lvl) z
    (z, k) :: dfe lvl b1 b2 k k1 ys

/-- The four symbols. -/
def symLevels : List Int := [-3, -1, 1, 3]

/-- The error y - d - h1 d' of a branch (R83). -/
def branchErr (lvl h1 y k k1 : Int) : Int := 768 * y - 512 * k * lvl - h1 * k1 * lvl

/-- The smallest of a list of metrics. -/
def minOf (l : List Int) : Int := l.foldl min (l.headD 0)

/-- The squared distances of a value at the decision stage from the four levels, in 2^-32 / 9 (R84). -/
def distances (lvl z : Int) : List Int := symLevels.map (fun k => (z - 512 * k * lvl) * (z - 512 * k * lvl))

/-- One forward step of the four path metrics (R83). -/
def vitStep (lvl h1 : Int) (m : List Int) (y : Int) : List Int :=
  symLevels.map (fun k => minOf ((symLevels.zip m).map (fun e => e.2 + branchErr lvl h1 y k e.1 * branchErr lvl h1 y k e.1)))

/-- The best continuation from each state over the traceback window (R83). -/
def vitBack (lvl h1 : Int) : List Int → List Int
  | [] => [0, 0, 0, 0]
  | y :: ys =>
    let b := vitBack lvl h1 ys
    symLevels.map (fun k1 => minOf ((symLevels.zip b).map (fun e => e.2 + branchErr lvl h1 y e.1 k1 * branchErr lvl h1 y e.1 k1)))

/-- The symbol of least metric; which of several with the same metric is a free choice (assumption 22). -/
def vitBest (m : List Int) : Int :=
  let ties := (symLevels.zip m).filter (fun e => e.2 == minOf m)
  ((ties[Config.vitTie m % ties.length]?).map (·.1)).getD (-3)

/-- The MLSE over the pip's outputs, with the `24` outputs of the traceback window after each (R83): symbols, and the
path metrics at the pip's end, the smallest taken off; with each symbol the path metrics of its four values over the window. -/
def mlse (lvl h1 : Int) : Nat → List Int → List Int → List (List Int × Int) × List Int
  | 0, m, _ => ([], m.map (· - minOf m))
  | n + 1, m, ys =>
    match ys with
    | [] => ([], m.map (· - minOf m))
    | y :: rest =>
      let m1 := vitStep lvl h1 m y
      let tot := (m1.zip (vitBack lvl h1 (rest.take 24))).map (fun e => e.1 + e.2)
      let r := mlse lvl h1 n m1 rest
      ((tot, vitBest tot) :: r.1, r.2)

/-- The errors of a sequence of symbols against outputs, given the two symbols before it: R82 (DFE) or R83 (MLSE). -/
def eqErrs (ml : Bool) (lvl b1 b2 h1 : Int) : Int → Int → List (Int × Int) → List Int
  | _, _, [] => []
  | k1, k2, (y, k) :: r =>
    (if ml then branchErr lvl h1 y k k1 else 768 * y - (b1 * k1 + b2 * k2) * lvl - 512 * k * lvl)
      :: eqErrs ml lvl b1 b2 h1 k k1 r

/-! ### Soft values and signal quality -/

/-- The lane's error power in 2^-40 that R84 and R122 use: the measured one with AUTO = 1 once a pip is measured, else
MSE_FIX, and never below 2^-16 L². -/
def Dev.mseUse (d : Dev) (n : Nat) : Nat :=
  let unit := 1024 * (d.eqL n).natAbs * (d.eqL n).natAbs
  max unit (if d.on LL_EQ_LLR_AUTO n && d.flag .eqMeas n then (d.v .eqMse n).toNat else d.get LL_EQ_LLR_MSE_FIX n * unit)

/-- The soft value of a bit from the metrics of its values 0 and 1 in 2^-32 / 9, with K in 1/32 and the error power in 2^-40 (R84). -/
def llr (k : Int) (mse : Nat) (m0 m1 : Int) : Int := clampI (-15) 15 (rdiv (4 * k * (m1 - m0)) (9 * mse))

/-- The soft values of a symbol's two bits from the metrics of its four values, lowest level first, by the Gray code 00, 01, 11, 10
(R76, R84). -/
def softPair (k : Int) (mse : Nat) : List Int → List Int
  | [a, b, c, d] => [llr k mse (min a b) (min c d), llr k mse (min a d) (min b c)]
  | _ => [0, 0]

/-- The soft values of a lane's symbol (R84). -/
def Dev.soft (d : Dev) (n : Nat) (m : List Int) : List Int := softPair (d.get LL_EQ_LLR_K n : Nat) (d.mseUse n) m

/-- The number C of R122: round(4 K / (9 MSE)), MSE in units of L². -/
def Dev.refineC (d : Dev) (n : Nat) : Int :=
  rdiv (4 * (d.get LL_EQ_LLR_K n : Nat) * 2 ^ 26 * d.eqL n * d.eqL n) (288 * d.mseUse n)

/-- The linear SNR 5 L² / (9 MSE) as a fraction, for a non-zero MSE (R90). -/
def Dev.snrFrac (d : Dev) (n : Nat) : Nat × Nat :=
  (5 * 2 ^ 26 * (d.eqL n).natAbs * (d.eqL n).natAbs, 9 * (d.v .eqMse n).toNat)

/-- A ratio num/den is at least `t` tenths of a decibel: 100 log10 of it is at least t. -/
def dbGe (r : Nat × Nat) (t : Int) : Bool :=
  if 0 ≤ t then decide (10 ^ t.toNat * r.2 ^ 100 ≤ r.1 ^ 100) else decide (r.2 ^ 100 ≤ r.1 ^ 100 * 10 ^ (-t).toNat)

/-- The nearest number of tenths of a decibel, from 0 to 2^`bits` - 1, by binary search above `acc`. -/
def dbSearch (r : Nat × Nat) : Nat → Nat → Nat
  | 0, acc => acc
  | b + 1, acc =>
    let t := acc + 2 ^ b
    dbSearch r b (if 10 ^ (2 * t - 1) * r.2 ^ 200 ≤ r.1 ^ 200 then t else acc)

/-- The nearest number of tenths of a decibel of a ratio, limited to 0 to `hi` (below 2048). -/
def dbRound (r : Nat × Nat) (hi : Nat) : Nat := min hi (dbSearch r 11 0)

/-! ### Gaussian tail (R97) -/

/-- exp(-f/2^64) in 2^-64 for f below 2^64, by its series. -/
def expNeg (f : Nat) : Nat :=
  ((List.range 40).foldl (fun (a : Int × Int) k => (a.1 + a.2, -(a.2 * f) / ((2 ^ 64 * (k + 1) : Nat) : Int))) (0, (2 ^ 64 : Nat))).1.toNat

/-- Q(x) / φ-part: Q(x) = φ(x) × g(x); g by the continued fraction 1/(x + 1/(x + 2/(x + …))) in 2^-64, x in 2^-64. -/
def tailCf (x : Nat) : Nat :=
  2 ^ 128 / ((List.range 120).foldl (fun a k => x + (120 - k) * 2 ^ 128 / a) (x + 2 ^ 64))

/-- The Gaussian tail at the square root of num/den, as (numerator, denominator): 1/2 - φ(x) Σ for x below 3, where the
sum is x + x³/3 + x⁵/15 + …, the continued fraction above; below 2^-1000 no digit that is reported changes. -/
def gaussQ (num den : Nat) : Nat × Nat :=
  let s := num * 2 ^ 128 / (max 1 den)
  let x := Nat.sqrt s
  let t := s / 2 ^ 65
  let ln2 := 12786308645202655660
  let e := t / ln2
  let phi := expNeg (t - e * ln2) * 7359186143223876055 / 2 ^ 64
  if x < 3 * 2 ^ 64 then
    let sum := ((List.range 80).foldl (fun (a : Nat × Nat) k => (a.1 + a.2, a.2 * (s / 2 ^ 64) / 2 ^ 64 / (2 * k + 3))) (0, x)).1
    (2 ^ 63 - phi * sum / 2 ^ 64 / 2 ^ e, 2 ^ 64)
  else (phi * tailCf x / 2 ^ 64, 2 ^ (64 + min e 1000))

/-- Two significant digits MANT × 10^-EXP of a fraction below 1, if EXP is at most 31 (R97). -/
def twoDigits (num den : Nat) : Nat → Nat → Option (Nat × Nat)
  | 0, _ => none
  | fuel + 1, e =>
    if 995 * den ≤ 100 * num * 10 ^ e then some ((2 * num * 10 ^ e + den) / (2 * den), e) else twoDigits num den fuel (e + 1)

end Sys2Proof.Machine
end

