-- ==== Sys2Proof/Machine/HostStream.lean ====
section
/-! DEFINITION. The host-lane streams as they leave for the host: what framing and fill make of them (R157, R158, R162), and what the
transmitter makes of the symbols, with pattern, polarity, precoding and FFE (R140, R142, R148). Loopbacks feed these streams back
(R177). -/

namespace Sys2Proof.Machine

/-! ### Histories of symbols -/

/-- The level of a symbol of a history: code 0 to 3 is -3, -1, +1, +3; none before the history is filled (R98). -/
def symLevel (h : Int) : Int := if h = 0 then 0 else 2 * (h - 1) - 3

/-- The last `k` entries of a list of history entries held in a variable, oldest first. -/
def Dev.histAt (d : Dev) (x : Var) (k n : Nat) : List Int := (List.range k).map (fun i => d.v x (n * k + i))

/-- Keep the last `k` entries of a list as history. -/
def Dev.histPut (d : Dev) (x : Var) (k n : Nat) (l : List Int) : Dev :=
  d.each (List.range k) (fun i e => e.sv x (n * k + i) (l.getD (l.length - k + i) 0))

/-! ### Polarity and precoding -/

/-- The symbols a transmitter sends for a list of level codes: inverted under POL_TX, then precoded by 1/(1+D) mod 4 under TX_PRECODE
(R142); `prev` is the last symbol precoded. The order is that in which R148 names them (DEDUCED, assumption 85). -/
def hlCode (pol pre : Bool) : Nat → List Nat → List Nat × Nat
  | prev, [] => ([], prev)
  | prev, x :: l =>
    let a := if pol then 3 - x else x
    let y := if pre then (a + 4 - prev % 4) % 4 else a
    let r := hlCode pol pre y l
    (y :: r.1, r.2)

/-- The level codes a receiver takes from the symbols it slices: inverted under POL_RX, then decoded by 1 + D mod 4 under RX_PRECODE
(R139); `prev` is the last symbol sliced. -/
def hlDecode (pol pre : Bool) : Nat → List Nat → List Nat × Nat
  | prev, [] => ([], prev)
  | prev, y :: l =>
    let a := if pol then 3 - y else y
    let x := if pre then (a + prev) % 4 else a
    let r := hlDecode pol pre a l
    (x :: r.1, r.2)

/-- The two bits of a level code, by the Gray code of R76. -/
def levelBits (x : Nat) : List Bool := [decide (2 ≤ x), x == 1 || x == 2]

/-! ### The transmitter -/

/-- The transmitter's FFE on level codes plus 1, newest last (R140, R405): the differential output in nV, (1/3) Σ c(k) a[n - k] / 64 of the
full swing of ±450 mV; `h` is the five symbols before. -/
def Dev.hlFfeOut (d : Dev) (m : Nat) (h syms : List Int) : List Int :=
  let c := d.hlApplied m
  let c0 : Int := d.get HL_TX_COEF1_C0 m
  let cs := [c.getD 4 0, c.getD 3 0, c0, c.getD 2 0, c.getD 1 0, c.getD 0 0]
  let s := h ++ syms
  (List.range syms.length).map (fun i =>
    2343750 * (List.range 6).foldl (fun a k => a + cs.getD k 0 * symLevel (s.getD (i + k) 0)) 0)

/-- A host transmitter sends symbols of a kind, given as level codes; under HOST_SERIAL its output reaches its own receiver (R139, R140,
R142, R177). -/
def Dev.hlSend (d : Dev) (m : Nat) (kind : HostKind) (syms : List Nat) : Dev :=
  let w := hlCode (d.on HL_CTRL_POL_TX m) (d.on HL_CTRL_TX_PRECODE m) (d.v .hlPreTx m).toNat syms
  let h := d.histAt .hlHist 5 m
  let new := w.1.map (fun (x : Nat) => (x : Int) + 1)
  let d1 := ((d.sv .hlPreTx m (w.2 : Nat)).histPut .hlHist 5 m (h ++ new)).emit (.hostTx m kind w.1 (d.hlFfeOut m h new))
  if ((d.slotOfHost m).map (fun sl => decide (d.v .loopNow sl = 1))).getD false then
    let r := hlDecode (d.on HL_CTRL_POL_RX m) (d.on HL_CTRL_RX_PRECODE m) (d.v .hlPreRx m).toNat w.1
    ({ (d1.sv .hlPreRx m (r.2 : Nat)) with loopBits := d1.loopBits ++ [⟨m, r.1.flatMap levelBits⟩] } : Dev)
  else d1

/-- A generator is on: GEN 1 to 5 (R148). -/
def Dev.genOn (d : Dev) (m : Nat) : Bool := decide (1 ≤ d.get HL_PAT_GEN m ∧ d.get HL_PAT_GEN m ≤ 5)

/-- The transmitter sends data: settled, no generator, no training frames (R143, R148, R150). -/
def Dev.sendsData (d : Dev) (m : Nat) : Bool :=
  d.on HL_STATUS_TX_READY m && !(d.genOn m) && (d.get HL_TRAIN_STATUS_STATE m == 0 || d.get HL_TRAIN_STATUS_STATE m == 6)

/-! ### Framing and fill -/

/-- The bits of a host-lane stream of a direction as the framing stage hands them on: fill while it runs (R162); in terminating framing
decoded, its bad blocks marked, and encoded again (R158); else bit for bit (R157). What fill and the outer code put where is the
standard's (assumption 9). -/
def Dev.framed (d : Dev) (sl m : Nat) (dir : Dir) (bits : List Bool) : HostKind × List Bool :=
  if d.flag .fillRun (2 * m + dir.ix) then (.fill, (List.range bits.length).map (Config.fillBit dir.ix d.fresh))
  else if d.term sl then (.data, (List.range bits.length).map (Config.outerBit (d.flag .outerBad (2 * sl + dir.ix)) d.fresh bits))
  else (.data, bits)

/-- `k` bits of a host lane's stream have left; those of fill are counted (R162, R302). -/
def Dev.fillSent (d : Dev) (sl m : Nat) (dir : Dir) (k : Nat) : Dev :=
  if d.flag .fillRun (2 * m + dir.ix) then d.sv .fillBits (2 * sl + dir.ix) (d.v .fillBits (2 * sl + dir.ix) + (k : Nat)) else d

/-- A receive-direction stream leaves for the host: under LINE_FAR it also stands in for the host receiver's stream (R177). -/
def Dev.toHost (d : Dev) (sl m : Nat) (bits : List Bool) : Dev :=
  let r := d.framed sl m .rx bits
  let d1 : Dev := if d.v .loopNow sl = 3 then { d with loopBits := d.loopBits ++ [⟨m, r.2⟩] } else d
  (d1.when (d.sendsData m) (fun e => (e.fillSent sl m .rx bits.length).hlSend m r.1 ((bitSymbols r.2).map (·.val)))).drew

/-- Streams leave for several host lanes of a slot. -/
def Dev.toHostsOut (d : Dev) (sl : Nat) (l : List (Nat × List Bool)) : Dev := d.each l (fun x e => e.toHost sl x.1 x.2)

/-- The bits a loopback has waiting for a host lane's stream toward the line. -/
def Dev.loopQueue (d : Dev) (m : Nat) : List Bool := (d.loopBits.filter (fun c => c.host == m)).flatMap (·.bits)

/-- The bits of host lane `m` for a transmit pip: those from its receiver, or what a loopback feeds in their place (R177); then fill and
framing, but under LINE_FAR the stream is carried as it is (R178). -/
def Dev.fromHost (d : Dev) (sl m k : Nat) (bits : List Bool) : List Bool :=
  let loop := d.v .loopNow sl
  let src := if loop = 1 ∨ loop = 3 then (d.loopQueue m).take k else bits
  if loop = 3 then src ++ (List.range (k - src.length)).map (Config.fillBit 1 d.fresh) else (d.framed sl m .tx src).2

/-- The first `k` looped bits of a host lane have been taken. -/
def Dev.loopTaken (d : Dev) (m k : Nat) : Dev :=
  let rest := (d.loopQueue m).drop k
  let others := d.loopBits.filter (fun c => c.host != m)
  { d with loopBits := if rest = [] then others else others ++ [⟨m, rest⟩] }

/-- What loopbacks have fed back for these host lanes is gone: the loop changes, or the bunch is quiesced or reset. -/
def Dev.dropLoop (d : Dev) (hosts : List Nat) : Dev := { d with loopBits := d.loopBits.filter (fun c => !(hosts.contains c.host)) }

/-! ### Pattern generators -/

/-- The level code a generator sends next (R148). -/
def Dev.patSym (d : Dev) (m : Nat) : Nat :=
  let pos := (d.v .hlPatPos m).toNat
  match d.get HL_PAT_GEN m with
  | 1 => (grayLevel (Config.prbsNext false (d.v .hlPrbs m).toNat)
      (Config.prbsNext false ((d.v .hlPrbs m).toNat * 2 + b2n (Config.prbsNext false (d.v .hlPrbs m).toNat)))).val
  | 2 => (grayLevel (Config.prbsNext true (d.v .hlPrbs m).toNat)
      (Config.prbsNext true ((d.v .hlPrbs m).toNat * 2 + b2n (Config.prbsNext true (d.v .hlPrbs m).toNat)))).val
  | 3 => (Config.ssprq pos).val
  | 4 => if pos % 16 < 8 then 3 else 0
  | _ => d.get HL_PAT_USER_SYMBOLS (4 * m + pos % 64 / 16) / 4 ^ (pos % 16) % 4

/-- The generator after a symbol. -/
def Dev.patStep (d : Dev) (m : Nat) : Dev :=
  let x := d.patSym m
  let bits := levelBits x
  let reg := ((d.v .hlPrbs m).toNat * 4 + 2 * b2n (bits.getD 0 false) + b2n (bits.getD 1 false)) % 2 ^ 31
  (d.sv .hlPatPos m (d.v .hlPatPos m + 1)).when (d.get HL_PAT_GEN m ≤ 2) (fun e => e.sv .hlPrbs m (reg : Nat))

/-- The next `k` symbols of a generator, and the state after them. -/
def Dev.patRun (d : Dev) (m : Nat) : Nat → Dev × List Nat
  | 0 => (d, [])
  | k + 1 =>
    let r := (d.patStep m).patRun m k
    (r.1, d.patSym m :: r.2)

/-- The symbols of one tclk of 0.8 ns: 85 at 106.25 GBd, 42 and 43 by turns at 53.125 GBd. -/
def Dev.tickSyms (d : Dev) (m : Nat) : Nat := if d.on HL_STATUS_RATE m then 42 + (d.v .hlPatPos m % 85 / 42).toNat else 85

/-- One tclk of a host transmitter with a generator on: the pattern goes on (R148). -/
def Dev.patTick (d : Dev) : Dev :=
  d.each (List.range 16) (fun m e =>
    if e.on HL_STATUS_TX_READY m && e.genOn m then
      let r := e.patRun m (e.tickSyms m)
      r.1.hlSend m .pattern r.2
    else e)

end Sys2Proof.Machine
end

