-- ==== Sys2Proof/Machine/Equaliser.lean ====
section
/-! DEFINITION. The equaliser's adaptation, convergence, snapshots and reports (chapter 04, R75 to R97). -/

namespace Sys2Proof.Machine

/-! ### Coefficients -/

/-- The value held internally, rounded to its format of `w` bits: 8 fraction bits dropped, saturating (R75, R85). -/
def rd8 (w : Nat) (x : Int) : Int := satW w (rdiv x 256)

/-- Linear taps in force. -/
def Dev.eqNl (d : Dev) (n : Nat) : Nat := d.get LL_EQ_STATUS_LIN_NOW n

/-- Quadratic terms in force. -/
def Dev.eqNq (d : Dev) (n : Nat) : Nat := d.get LL_EQ_STATUS_QUAD_NOW n

/-- The linear coefficients in force, internal precision, by span index. -/
def Dev.eqLins (d : Dev) (n : Nat) : List Int := (List.range (d.eqNl n)).map (fun k => d.v .eqLin (112 * n + k))

/-- Set the linear coefficients; every index past the list is zero. -/
def Dev.eqSetLins (d : Dev) (n : Nat) (l : List Int) : Dev :=
  d.each (List.range 112) (fun k e => e.sv .eqLin (112 * n + k) (l.getD k 0))

/-- A pair entry; (i, j) with i > j acts as (j, i) (R79). -/
def Dev.eqPair (d : Dev) (n q : Nat) : Int × Int :=
  let i := d.v .eqPairI (32 * n + q)
  let j := d.v .eqPairJ (32 * n + q)
  if j < i then (j, i) else (i, j)

/-- The feed-forward taps as the datapath uses them. -/
def Dev.eqTaps (d : Dev) (n : Nat) : FfeTaps :=
  { pre := (d.v .eqPre n).toNat,
    lin := (d.eqLins n).map (rd8 16),
    quad := (List.range (d.eqNq n)).map (fun q => (rd8 16 (d.v .eqQuad (32 * n + q)), d.eqPair n q)) }

/-- b1, b2 and h1 as the datapath uses them, Q1.9 clamped to ±0.5 (R75). -/
def Dev.eqFbk (d : Dev) (n k : Nat) : Int := rd8 10 (d.v .eqFb (3 * n + k))

/-- PRE limited to the linear count minus 1 (R78). -/
def preLimit (p nl : Nat) : Nat := if nl = 0 then 0 else min p (nl - 1)

/-- The quadratic coefficients are in use: CONV has been set since the lane's start or its initial coefficients, or QUAD_EARLY (R86). -/
def Dev.quadsOn (d : Dev) (n : Nat) : Bool := d.on LL_EQ_STATUS_EVER_CONV n || d.on LL_EQ_CTRL_QUAD_EARLY n

/-- The quadratic coefficients are held at zero while they are not in use (R86). -/
def Dev.quadsHeld (d : Dev) (n : Nat) : Dev :=
  if d.quadsOn n then d else d.each (List.range 32) (fun q e => e.sv .eqQuad (32 * n + q) 0)

/-- The linear taps of a lane's profile 0 (R29). -/
def Dev.eqFull (d : Dev) (n : Nat) : Nat := (d.lane n).taps - (d.lane n).quads

/-- The positions the lane holds in profile 0, kept when it leaves profile 0 or takes initial coefficients outside it (R81). -/
def Dev.eqKeep0 (d : Dev) (n len pre : Nat) : Dev :=
  if d.v .eqLin0 n = 0 then (d.sv .eqLin0 n (len : Nat)).sv .eqPre0 n (pre : Nat) else d

/-- The initial coefficients (R94): c0 = MAIN_INIT, all else zero, the pair list as last written. CONV and EVER_CONV
clear, CONV_LOST is set if CONV was 1, the run counts restart, acquisition gear. -/
def Dev.eqInit (d : Dev) (n : Nat) : Dev :=
  let pre := preLimit (d.get LL_EQ_SHAPE_PRE n) (d.eqNl n)
  let d0 := d.when (d.eqNl n != d.eqFull n) (fun e => e.eqKeep0 n (e.eqFull n) (preLimit (e.get LL_EQ_SHAPE_PRE n) (e.eqFull n)))
  let d1 := (d0.sv .eqPre n (pre : Nat)).eqSetLins n ((List.replicate pre 0) ++ [sext 16 (d.get LL_EQ_SHAPE_MAIN_INIT n) * 256])
  let d2 := (d1.each (List.range 32) (fun q e => e.sv .eqQuad (32 * n + q) 0)).each (List.range 3) (fun k e =>
    (e.sv .eqFb (3 * n + k) 0).sv .eqB (3 * n + k) 0)
  let d3 := ((d2.evIf (d2.on LL_EQ_STATUS_CONV n) LL_EQ_STATUS_CONV_LOST n).set LL_EQ_STATUS_CONV n 0).set LL_EQ_STATUS_EVER_CONV n 0
  ((((d3.set LL_EQ_STATUS_GEAR n 0).sv .eqHi n 0).sv .eqLo n 0).sv .eqDiv n 0).sv .eqDivOn n 0

/-- Take a snapshot (R92). -/
def Dev.eqSnapshot (d : Dev) (n : Nat) : Dev :=
  let d1 := d.each (List.range 112) (fun k e => e.sv .snLin (112 * n + k) (d.v .eqLin (112 * n + k)))
  let d2 := d1.each (List.range 32) (fun q e => ((e.sv .snQuad (32 * n + q) (d.v .eqQuad (32 * n + q))).sv .snPairI (32 * n + q)
    (d.v .eqPairI (32 * n + q))).sv .snPairJ (32 * n + q) (d.v .eqPairJ (32 * n + q)))
  let d3 := d2.each (List.range 3) (fun k e => e.sv .snFb (3 * n + k) (d.v .eqFb (3 * n + k)))
  (((((d3.sv .snB n (d.v .eqB (3 * n + 2))).sv .snMse n (d.v .eqMse n)).sv .snPre n (d.v .eqPre n)).sv .snNlin n
    (d.eqNl n : Nat)).sv .snNquad n (d.eqNq n : Nat)).set LL_EQ_STATUS_SNAP_VALID n 1

/-- Restore the snapshot (R93): linear taps by their offset from the main cursor, quadratic entries by index; positions
the snapshot lacks start at zero; PRE becomes the snapshot's. Without a usable snapshot the initial coefficients are taken and SNAP_UE
is set. -/
def Dev.eqRestore (d : Dev) (n : Nat) (bad : Bool) : Dev :=
  if bad || !(d.on LL_EQ_STATUS_SNAP_VALID n) then
    ((d.eqInit n).ev LL_EQ_STATUS_SNAP_UE n).set LL_EQ_STATUS_SNAP_VALID n 0
  else
    let nl := d.eqNl n
    let pre := preLimit (d.v .snPre n).toNat nl
    let off : Int := d.v .snPre n - (pre : Nat)
    let old := fun (k : Nat) =>
      let j := (k : Int) + off
      if 0 ≤ j ∧ j < d.v .snNlin n then d.v .snLin (112 * n + j.toNat) else 0
    let d1 := ((d.sv .eqPre n (pre : Nat)).set LL_EQ_SHAPE_PRE n pre).eqSetLins n ((List.range nl).map old)
    let d2 := d1.each (List.range 32) (fun q e =>
      ((e.sv .eqQuad (32 * n + q) (if (q : Int) < d.v .snNquad n ∧ q < d.eqNq n then d.v .snQuad (32 * n + q) else 0)).sv .eqPairI (32 * n + q)
        (d.v .snPairI (32 * n + q))).sv .eqPairJ (32 * n + q) (d.v .snPairJ (32 * n + q)))
    let d3 := d2.each (List.range 3) (fun k e => (e.sv .eqFb (3 * n + k) (d.v .snFb (3 * n + k))).sv .eqB (3 * n + k) (d.v .snB n))
    (d3.sv .eqMse n (d.v .snMse n)).set LL_EQ_STATUS_GEAR n 0

/-! ### Throttle profiles -/

/-- The throttle profile a bunch applies: the active one, at most the number it declares (R33). -/
def Dev.profOf (d : Dev) (b : Nat) : Nat := min (d.get SEED_PROF_ACTIVE 0) (d.bunch b).profiles.length

/-- The profile entry of a line lane; none for profile 0. -/
def Dev.profLane (d : Dev) (n : Nat) : Option ProfLane :=
  if d.profOf (n / 4) = 0 then none
  else ((d.bunch (n / 4)).profiles[d.profOf (n / 4) - 1]?).bind (fun l => l[n % 4]?)

/-- The quadratic and linear counts of a lane under the active profile (R80). -/
def Dev.eqAlloc (d : Dev) (n : Nat) : Nat × Nat :=
  let l := d.lane n
  match d.profLane n with
  | none => (l.quads, l.taps - l.quads)
  | some p =>
    let q := if p.keep then min l.quads (p.taps - 16) else 0
    (q, p.taps - q)

/-- Take taps away from the ends of the span until `target` are left, the smaller end tap first, the post-cursor end on
a tie, never the main cursor (R80). -/
def trimTaps (target : Nat) : Nat → Nat → List Int → Nat × List Int
  | 0, pre, l => (pre, l)
  | fuel + 1, pre, l =>
    if l.length ≤ target then (pre, l)
    else
      let front := pre != 0 && (pre + 1 == l.length || decide (absI (l.headD 0) < absI (l.getLastD 0)))
      if front then trimTaps target fuel (pre - 1) (l.drop 1) else trimTaps target fuel pre l.dropLast

/-- The coefficient of a span at an offset from its main cursor, 0 outside it (R81). -/
def spanAt (pre : Nat) (l : List Int) (k : Int) : Int := if 0 ≤ k + pre then l.getD (k + pre).toNat 0 else 0

/-- The span of `len` taps with `pre` before the main cursor that takes its coefficients from another by their offset from the main
cursor. -/
def respan (pre : Nat) (l : List Int) (pre' len : Nat) : List Int := (List.range len).map (fun (i : Nat) => spanAt pre l ((i : Int) - (pre' : Int)))

/-- The span of a lane after a profile change, given PRE and coefficients before it (R80, R81): back in profile 0 exactly the positions
`pre0`, `len0` held there; else trimmed to `nl` taps, after a fall of the profile from a span widened by the positions of profile 0.
Where the count asks for more taps than that leaves, positions are added at the post-cursor end. Both for a fall to a profile other
than 0 and for added positions the spec gives no order: DESIGN CHOICE, assumption 78. -/
def newSpan (zero fell : Bool) (pre0 len0 nl pre : Nat) (old : List Int) : Nat × List Int :=
  if zero then (pre0, respan pre old pre0 len0) else
  let p := if fell then max pre pre0 else pre
  let post := if fell then max (old.length - pre) (len0 - pre0) else old.length - pre
  let r := trimTaps nl 256 p (respan pre old p (p + post))
  (r.1, r.2 ++ List.replicate (nl - r.2.length) 0)

/-- A profile change takes effect (R80, R81): trimmed from the ends of the span, or positions regained at zero with 1024 pips of the
acquisition step. -/
def Dev.eqProfile (d : Dev) (n : Nat) : Dev :=
  let (nq, nl) := d.eqAlloc n
  let old := d.eqLins n
  let pre := (d.v .eqPre n).toNat
  let now := d.profOf (n / 4)
  let fell := decide ((now : Int) < d.v .eqProfIn n)
  let d0 := d.eqKeep0 n old.length pre
  let r := newSpan (decide (now = 0)) fell (d0.v .eqPre0 n).toNat (if now = 0 then nl else (d0.v .eqLin0 n).toNat) nl pre old
  let d1 := ((d0.eqSetLins n r.2).sv .eqPre n (r.1 : Nat)).set LL_EQ_SHAPE_PRE n r.1
  let d2 := d1.each (List.range 32) (fun q e => if min nq (d.eqNq n) ≤ q then e.sv .eqQuad (32 * n + q) 0 else e)
  let d3 := (d2.set LL_EQ_STATUS_LIN_NOW n r.2.length).set LL_EQ_STATUS_QUAD_NOW n nq
  let d4 := d3.when (fell && decide (old.length + d.eqNq n < nl + nq)) (fun e => e.sv .eqSlow n 1024)
  ((d4.when (decide (now = 0)) (fun e => e.sv .eqLin0 n 0)).sv .eqProf n 0).sv .eqProfIn n (now : Nat)

/-! ### The pip -/

/-- A whole-lane hold (R87): ADC not READY, foreground calibration, clock recovery held. -/
def Dev.eqHeld (d : Dev) (n : Nat) : Bool :=
  !(d.on LL_ADC_STATUS_READY n) || d.on LL_ADC_STATUS_FG_BUSY n || d.on LL_CDR_STATUS_HOLDING n

/-- The lane's mode has an inner code (R89, R115). -/
def Dev.hasCode (d : Dev) (n : Nat) : Bool :=
  match d.mode n with | some .l100 => false | some _ => true | none => false

/-- DA_ACTIVE (R89). -/
def Dev.daOn (d : Dev) (n : Nat) : Bool := d.on LL_EQ_CTRL_DA_EN n && d.hasCode n && d.on DEC_STATUS_CW_LOCK n

/-- DECIM in force, with the floor of R89 while decoder-aided. -/
def Dev.decim (d : Dev) (n : Nat) : Nat :=
  let x := min 6 (d.get LL_EQ_MU_DECIM n)
  if d.daOn n then max x (if d.mode n = some .l200 then 2 else 3) else x

/-- The restorer of a lane in its current mode (R77, R87). -/
def Dev.restorer (d : Dev) (n : Nat) : Restorer :=
  { lvl := d.eqL n, c0 := rd8 16 (d.v .eqLin (112 * n + (d.v .eqPre n).toNat)),
    shift := clampN 1 8 (d.get LL_EQ_CTRL_BLR_SHIFT n),
    fast := d.on LL_EQ_STATUS_CONV n && d.on LL_EQ_CTRL_BLR_MODE n,
    frozen := d.on LL_EQ_CTRL_FRZ_BLR n }

/-- The work of one pip on its samples: what is kept of it, the errors, the path metrics and restorer estimates at its end, and the
values e[n] (x[n+1] - x[n-1]) of its positions. -/
structure PipWork where
  keep  : EqPip
  errs  : List Int
  vit   : List Int
  bs    : Int × Int × Int
  prods : List Int

/-- The sampled positions of a pip of `p` symbols (R85). -/
def samples (p pip decim : Nat) : List Nat := (List.range p).filter (fun i => i % 2 ^ decim == pip % 2 ^ decim)

/-- The samples before a pip that its feed-forward span reaches. -/
def Dev.eqTail (d : Dev) (n : Nat) : List Int :=
  match d.lastPip n with
  | none => List.replicate 111 0
  | some e => ((e.xs.drop e.ys.length).take 111)

/-- The products e[n] (x[n+1] - x[n-1]) of consecutive outputs, the first of them before position 0 (R54). -/
def skewProds : List Int → List Int → List Int
  | e :: es, x0 :: x1 :: x2 :: xs => e * (x2 - x0) :: skewProds es (x1 :: x2 :: xs)
  | _, _ => []

/-- Restored samples of codes at a frozen estimate (R87). -/
def Restorer.hold (b : Int) (codes : List Int) : List Int := codes.map (restored b)

/-- Run the datapath over a pip of `p` symbols, the first at the ball at `start`; `codes` are its ADC codes and those after it that the span and the
traceback reach (R75 to R84). In a held pip the restorer's estimate stands still (R87). -/
def Dev.eqRun (d : Dev) (n p : Nat) (held : Bool) (codes : List Int) (start : Int) : PipWork :=
  let w := d.symsPerDpclk n
  let b := (d.v .eqB (3 * n), d.v .eqB (3 * n + 1), d.v .eqB (3 * n + 2))
  let r := d.restorer n
  let own := if held then (Restorer.hold b.1 (codes.take p), b) else r.run w (codes.length + 1) b (codes.take p)
  let more := if held then Restorer.hold b.1 (codes.drop p) else (r.run w (codes.length + 1) own.2 (codes.drop p)).1
  let xs := d.eqTail n ++ own.1 ++ more
  let taps := d.eqTaps n
  let ml := d.on LL_EQ_STATUS_STAGE n
  let ys := taps.outs (p + if ml then 24 else 1) xs
  let lvl := d.eqL n
  let k1 := d.v .eqK (2 * n)
  let k2 := d.v .eqK (2 * n + 1)
  let h1 := d.eqFbk n 2
  let dec := if ml then mlse lvl h1 p ((List.range 4).map (fun i => d.v .eqVit (4 * n + i))) ys
    else ((dfe lvl (d.eqFbk n 0) (d.eqFbk n 1) k1 k2 (ys.take p)).map (fun e => (distances lvl e.1, e.2)), [0, 0, 0, 0])
  let syms := dec.1.map (·.2)
  let errs := eqErrs ml lvl (d.eqFbk n 0) (d.eqFbk n 1) h1 k1 k2 (ys.zip syms)
  let before := ((d.lastPip n).map (fun e => e.ys.getLastD 0)).getD 0
  { keep := { lane := n, pip := (d.v .rxPip n).toNat, start := start, raw := codes.take p, pre := 111, dec := d.decim n, xs := xs, ys := ys.take p, syms := syms,
              soft := if d.mode n = some .l100 then [] else dec.1.flatMap (fun e => d.soft n e.1) },
    errs := errs, vit := dec.2, bs := own.2, prods := skewProds errs (before :: ys) }

/-! ### Measurement -/

/-- The averaged error power after a measured pip of sampled errors `es` (R90). -/
def Dev.eqMeasure (d : Dev) (n : Nat) (es : List Int) : Dev :=
  let m := rdiv (256 * es.foldl (fun a e => a + e * e) 0) (9 * es.length)
  let avg := min 10 (d.get LL_EQ_QCTRL_AVG n)
  let mse := if d.flag .eqMeas n then d.v .eqMse n + rdiv (m - d.v .eqMse n) (2 ^ avg) else m
  (d.sv .eqMse n mse).sv .eqMeas n 1

/-- The SNR is at least `t` tenths of a decibel. -/
def Dev.snrGe (d : Dev) (n : Nat) (t : Int) : Bool := d.v .eqMse n == 0 || dbGe (d.snrFrac n) t

/-- LL_EQ_SNR after a measured pip (R95). -/
def Dev.eqReport (d : Dev) (n : Nat) : Dev :=
  let snr := if d.v .eqMse n = 0 then 600 else dbRound (d.snrFrac n) 600
  let rel := rdiv (d.v .eqMse n) (1024 * (d.eqL n).natAbs * (d.eqL n).natAbs)
  (d.set LL_EQ_SNR_SNR n snr).set LL_EQ_SNR_MSE n (min rel.toNat 0xFFFF)

/-- The CONV runs at the end of a measured pip (R90) and the gear (R86). -/
def Dev.eqConv (d : Dev) (n : Nat) : Dev :=
  let mn : Int := (d.get LL_EQ_CONV_SNR_MIN n : Nat)
  let cnt : Int := (max 1 (d.get LL_EQ_CONV_CNT n) : Nat)
  let hi := if d.snrGe n mn then d.v .eqHi n + 1 else 0
  let lo := if d.snrGe n (mn - (d.get LL_EQ_CONV_HYST n : Nat)) then 0 else d.v .eqLo n + 1
  let d1 := (d.sv .eqHi n hi).sv .eqLo n lo
  if !(d.on LL_EQ_STATUS_CONV n) && decide (cnt ≤ hi) then
    ((d1.set LL_EQ_STATUS_CONV n 1).set LL_EQ_STATUS_EVER_CONV n 1).sv .eqDivOn n 1
  else if d.on LL_EQ_STATUS_CONV n && decide (cnt ≤ lo) then
    (d1.set LL_EQ_STATUS_CONV n 0).ev LL_EQ_STATUS_CONV_LOST n
  else d1

/-- A measured pip below DIV_SNR: the fourth in a row after CONV has been set is a divergence (R91). -/
def Dev.eqDiverge (d : Dev) (n : Nat) : Dev × Bool :=
  if !(d.flag .eqDivOn n) then (d, false)
  else if d.snrGe n (d.get LL_EQ_CONV_DIV_SNR n : Nat) then (d.sv .eqDiv n 0, false)
  else if d.v .eqDiv n + 1 < 4 then (d.sv .eqDiv n (d.v .eqDiv n + 1), false)
  else ((d.sv .eqDiv n 0).ev LL_EQ_STATUS_DIVERGED n, true)

/-! ### Adaptation -/

/-- The exponent of mu_lin (R81, R85, R86); MU_DA_OFS is added while decoder-aided adaptation is active. -/
def Dev.muLin (d : Dev) (n : Nat) : Nat :=
  let acq := !(d.on LL_EQ_STATUS_GEAR n) || decide (0 < d.v .eqSlow n)
  max 4 (if acq then d.get LL_EQ_MU_MU_ACQ n else d.get LL_EQ_MU_MU_TRK n) + (if d.daOn n then d.get LL_EQ_MU_MU_DA_OFS n else 0)

/-- Leakage (R85). -/
def Dev.leaked (d : Dev) (n : Nat) (x : Int) : Int :=
  let l := d.get LL_EQ_MU_LEAK n
  if l = 0 then x else x - rdiv x (2 ^ (l + 8))

/-- The sum of e times a regressor over the positions used. -/
def dot (es : List (Nat × Int)) (f : Nat → Int) : Int := es.foldl (fun a e => a + e.2 * f e.1) 0

/-- One LMS update from errors `es` (position, e) on a kept pip, symbol `sym` of a position (R85 to R87). `skip k`: the
indexed coefficient was written by firmware at this boundary (R88). -/
def Dev.eqUpdate (d : Dev) (n : Nat) (kp : EqPip) (es : List (Nat × Int)) (sym : Int → Int) (skip : Nat → Bool) : Dev :=
  let cnt := es.length
  if cnt = 0 then d else
  let d := d.sv .lmsCount n (d.v .lmsCount n + 1)
  let mu := d.muLin n
  let lvl := d.eqL n
  let pre := (d.v .eqPre n).toNat
  let den := 196608 * 128 * cnt * 2 ^ mu
  let d1 := if d.on LL_EQ_CTRL_FRZ_LIN n then d else
    d.each (List.range (d.eqNl n)) (fun k e =>
      if skip k then e else
      let g := dot es (fun i => at_ kp.xs (kp.pre + i) ((k : Int) - pre))
      let c := if k = pre then d.v .eqLin (112 * n + k) else d.leaked n (d.v .eqLin (112 * n + k))
      e.sv .eqLin (112 * n + k) (satW 24 (c - rdiv (g * 2 ^ 22) den)))
  let qOk := !(d.on LL_EQ_CTRL_FRZ_QUAD n) && d.quadsOn n
  let d2 := if !qOk then d1 else
    d1.each (List.range (d.eqNq n)) (fun q e =>
      if skip (112 + q) then e else
      let pr := d.eqPair n q
      let g := dot es (fun i => quadProd kp.xs (kp.pre + i) pr.1 pr.2)
      e.sv .eqQuad (32 * n + q) (satW 24 (d.leaked n (d.v .eqQuad (32 * n + q))
        - rdiv (g * 2 ^ 23) (196608 * 512 * cnt * 2 ^ (mu + d.get LL_EQ_MU_MU_Q_OFS n)))))
  if d.on LL_EQ_CTRL_FRZ_FB n then d2 else
  let fb := fun (ix : Nat) (lag : Int) (e : Dev) =>
    if skip (176 + ix) then e else
    let g := dot es (fun i => sym ((i : Int) - lag))
    e.sv .eqFb (3 * n + ix) (clampI (-65536) 65536 (d.leaked n (d.v .eqFb (3 * n + ix))
      + rdiv (g * lvl * 2 ^ 17) (196608 * 384 * cnt * 2 ^ (mu + d.get LL_EQ_MU_MU_FB_OFS n))))
  if d.on LL_EQ_STATUS_STAGE n then fb 2 1 d2 else fb 1 2 (fb 0 1 d2)

/-- The symbol at a position of a pip, the ones before it from the state (R82). -/
def symAt (syms : List Int) (k1 k2 : Int) (i : Int) : Int :=
  if 0 ≤ i then syms.getD i.toNat 0 else if i = -1 then k1 else if i = -2 then k2 else 0

/-- The level of the symbol that two bits give, the more significant first (R76). -/
def bitsLevel (m l : Bool) : Int := if m then (if l then 1 else 3) else (if l then -1 else -3)

/-- The final decision of a symbol of the lane, by its place in the stream, where the codewords of both its bits are final and valid
(R89). -/
def Dev.finalSym (d : Dev) (n s : Nat) : Option Int :=
  let bit := fun (t : Nat) => d.finals.findSome? (fun c =>
    if c.lane = n then (c.place.findIdx? (fun x => x == t)).bind (fun j => c.word.bind (fun w => w[j]?)) else none)
  (bit (2 * s)).bind (fun m => (bit (2 * s + 1)).map (bitsLevel m))

/-- The symbol that a regressor of the decoder-aided update takes: the final decision, or the slicer's where the symbol is excluded or
its codeword has not ended (R89; the second is the model's choice, assumption 80). `i` counts from the pip's first symbol. -/
def Dev.aidedSym (d : Dev) (n p : Nat) (kp : EqPip) (i : Int) : Int :=
  let s := (kp.pip * p : Nat) + i
  if s < 0 then 0 else
  (d.finalSym n s.toNat).getD (
    if 0 ≤ i then kp.syms.getD i.toNat 0
    else (((d.eqPips.find? (fun e => e.lane == n && e.pip + 1 == kp.pip)).map (fun e => e.syms.getD (p + i).toNat 0)).getD 0))

/-- The errors of the sampled positions of a kept pip that have a final decision (R89). -/
def Dev.aidedErrs (d : Dev) (n p : Nat) (kp : EqPip) : List (Nat × Int) :=
  let lvl := d.eqL n
  (samples kp.ys.length kp.pip kp.dec).filterMap (fun i => (d.finalSym n (kp.pip * p + i)).map (fun k =>
    let k1 := d.aidedSym n p kp ((i : Int) - 1)
    (i, if d.on LL_EQ_STATUS_STAGE n then branchErr lvl (d.eqFbk n 2) (kp.ys.getD i 0) k k1
      else 768 * kp.ys.getD i 0 - (d.eqFbk n 0 * k1 + d.eqFbk n 1 * d.aidedSym n p kp ((i : Int) - 2)) * lvl - 512 * k * lvl)))

/-- The pip whose stored symbols the decoder-aided update of the boundary that ends pip `q` uses, once one is due (R89). -/
def Dev.aidedPip (d : Dev) (n q : Nat) : Option Nat :=
  let dd := d.get DEC_STATUS_D_NOW n
  if d.daOn n && d.flag .eqDaWas n && decide (d.v .eqDaFrom n + (dd : Nat) ≤ (q : Nat)) then some (q - dd) else none

/-- The update of the boundary that ends pip `q` from the slicer's decisions: none once a decoder-aided one is due, none in a pause (R85,
R87, R89). -/
def Dev.eqAdapt (d : Dev) (n q : Nat) (w : PipWork) : Dev :=
  let paused := d.daOn n && d.flag .eqDaWas n && decide (0 < d.v .eqDaPause n)
  if paused || (d.aidedPip n q).isSome then d else
  let pos := samples w.keep.ys.length q w.keep.dec
  d.eqUpdate n w.keep (pos.map (fun i => (i, w.errs.getD i 0))) (symAt w.keep.syms (d.v .eqK (2 * n)) (d.v .eqK (2 * n + 1)))
    (fun k => d.v .eqWr (180 * n + k) == 1)

/-- The decoder-aided update at the end of pip `q` (R89): from the decisions on the symbols of pip q - D, with the codewords left out of it
counted; none in a pause or where the boundary changes no coefficient (R80, R87, R93, R94). A codeword counts with the pip of its last
symbol. -/
def Dev.eqAided (d : Dev) (n p q : Nat) : Dev :=
  if d.daOn n && d.flag .eqDaWas n && decide (0 < d.v .eqDaPause n) then d.sv .eqDaPause n (d.v .eqDaPause n - 1) else
  match d.aidedPip n q with
  | none => d
  | some k =>
    let ends := fun (c : CwFinal) => c.place.foldl max 0 / (2 * max 1 p)
    let out := (d.finals.filter (fun c => c.lane == n && c.word.isNone && ends c == k)).length
    let d1 := d.count LL_EQ_EXCL_COUNT n out
    let d2 := match d.eqPips.find? (fun e => e.lane == n && e.pip == k) with
      | some kp =>
        if d.flag .eqAcq n && d.v .eqNoUpd n != (q : Nat) + 1 then
          d1.eqUpdate n kp (d.aidedErrs n p kp) (d.aidedSym n p kp) (fun i => d.v .eqWr (180 * n + i) != 0)
        else d1
      | none => d1
    { d2 with finals := d2.finals.filter (fun c => c.lane != n || decide (k ≤ ends c)) }

/-- Decoder-aided adaptation at the boundary that starts pip `q`: once active, its first update uses pip `q` (R89). -/
def Dev.daFollow (d : Dev) (n q : Nat) : Dev :=
  let now := d.daOn n
  let d1 := d.sflag .eqDaWas n now
  if now && !(d.flag .eqDaWas n) then (d1.sv .eqDaFrom n (q : Nat)).sv .eqDaPause n 0 else d1

/-- A pending firmware write of the indexed coefficient takes effect (R79, R88). -/
def Dev.eqWrite (d : Dev) (n k : Nat) (v : Int) : Dev :=
  if k < 112 then (if k < d.eqNl n then d.sv .eqLin (112 * n + k) (v * 256) else d)
  else if k < 144 then (if k - 112 < d.eqNq n then d.sv .eqQuad (32 * n + (k - 112)) (v * 256) else d)
  else if k < 176 then
    let q := 32 * n + (k - 144)
    let u := twos 16 v
    ((d.sv .eqPairI q (sext 5 (u % 32))).sv .eqPairJ q (sext 5 (u / 256 % 32))).sv .eqQuad q 0
  else if k < 179 then d.sv .eqFb (3 * n + (k - 176)) (clampI (-256) 256 (sext 10 (twos 10 v)) * 256)
  else
    let b := clampI (-1024) 1024 (sext 12 (twos 12 v))
    ((d.sv .eqB (3 * n) b).sv .eqB (3 * n + 1) b).sv .eqB (3 * n + 2) b

/-- All pending firmware writes take effect, and PRE (R78, R88). They act in the order of their index, so that a pair entry's write
zeroes a coefficient written with it (DESIGN CHOICE, assumption 81). A write that has acted stays marked, as 2, until the next
boundary. -/
def Dev.eqWrites (d : Dev) (n : Nat) : Dev :=
  let d1 := d.each (List.range 180) (fun k e =>
    let u := d.v .eqWr (180 * n + k)
    if u = 1 then (e.eqWrite n k (d.v .eqWrV (180 * n + k))).sv .eqWr (180 * n + k) 2
    else if u = 2 then e.sv .eqWr (180 * n + k) 0 else e)
  d1.sv .eqPre n (preLimit (d1.get LL_EQ_SHAPE_PRE n) (d1.eqNl n) : Nat)

/-! ### The hunter's start and stop -/

/-- A hunt starts from offset 0, on the symbols of the pip that begins (R114). -/
def Dev.huntStart (d : Dev) (n pip : Nat) : Dev :=
  let p := match d.mode n with | some m => symbolsPerPip m | none => 0
  ((((d.set DEC_STATUS_HUNTING n 1).sv .huntPos n 0).sv .huntConf n 0).sv .huntCand n 0).sv .huntSym n (pip * p : Nat)

/-- The search for lock starts at the boundary at which CONV is set, and stops when CONV clears (R114, R116). -/
def Dev.huntFollow (d : Dev) (n : Nat) (was : Bool) : Dev :=
  if !(d.hasCode n) then d
  else if d.on LL_EQ_STATUS_CONV n then
    if was || d.on DEC_STATUS_CW_LOCK n then d else d.huntStart n (d.v .rxPip n).toNat
  else ((d.set DEC_STATUS_HUNTING n 0).sv .huntConf n 0).when (d.v .cwPend n == 1) (fun e => e.sv .cwPend n 0)

/-! ### The boundary -/

/-- A histogram window counts every symbol of the pip (R96). -/
def Dev.eqCount (d : Dev) (n : Nat) (errs : List Int) : Dev :=
  if !(d.on LL_EQ_QCTRL_HIST_BUSY n) then d else
  let bins := errs.map (fun e => min 15 (48 * absI e / (1536 * d.eqL n)).toNat)
  (d.each (List.range 16) (fun k x => x.sv .eqHp (16 * n + k)
    (min (x.v .eqHp (16 * n + k) + ((bins.filter (fun b => b == k)).length : Nat)) 0xFFFFFFFF))).sv .eqHpips n (d.v .eqHpips n + 1)

/-- What a pip that is not held does before its boundary: measurement, CONV, divergence; whether the lane diverged. -/
def Dev.eqPipRun (d : Dev) (n : Nat) (w : PipWork) : Dev × Bool :=
  let es := (samples w.keep.ys.length w.keep.pip w.keep.dec).map (fun i => w.errs.getD i 0)
  if d.flag .eqAcq n && es != [] then (((d.eqMeasure n es).eqReport n).eqConv n).eqDiverge n else (d, false)

/-- What a pip leaves behind for the next, held or not: restorer estimates, regressors, last symbols, path metrics (R77, R79, R82, R83). -/
def Dev.eqLeave (d : Dev) (n : Nat) (w : PipWork) : Dev :=
  let q := w.keep.pip
  let d1 := ((d.sv .eqB (3 * n) w.bs.1).sv .eqB (3 * n + 1) w.bs.2.1).sv .eqB (3 * n + 2) w.bs.2.2
  let d2 := { d1 with eqPips := w.keep :: d1.eqPips.filter (fun e => e.lane != n || decide (q < e.pip + 8)) }
  let d3 := if w.keep.syms = [] then d2 else
    (d2.sv .eqK (2 * n) (symAt w.keep.syms (d.v .eqK (2 * n)) 0 ((w.keep.syms.length : Int) - 1))).sv .eqK (2 * n + 1)
      (symAt w.keep.syms (d.v .eqK (2 * n)) (d.v .eqK (2 * n + 1)) ((w.keep.syms.length : Int) - 2))
  d3.each (List.range 4) (fun i e => e.sv .eqVit (4 * n + i) (w.vit.getD i 0))

/-- What takes effect at the boundary: writes, profile, restores, initial coefficients, snapshots, gear (R78 to R81, R86,
R88, R91 to R94). A snapshot is taken before a restore of the same boundary, and initial coefficients win over a restore (DESIGN
CHOICE, assumption 82). -/
def Dev.eqBoundary (d : Dev) (n : Nat) (convSet diverged coefUe snapUe : Bool) : Dev :=
  let d1 := d.eqWrites n
  let d2 := if d1.flag .eqProf n then d1.eqProfile n else d1
  let restore := diverged || coefUe || d2.flag .eqPendRestore n
  let reinit := d2.flag .eqPendReinit n
  let d3 := if convSet || d2.flag .eqPendSnap n then d2.eqSnapshot n else d2
  let d4 := (d3.evIf coefUe LL_EQ_STATUS_FALLBACK n).when (restore && !reinit) (fun e => e.eqRestore n snapUe)
  let d5 := d4.when reinit (fun e => e.eqInit n)
  let d6 := d5.when (!restore && !reinit && d5.on LL_EQ_STATUS_CONV n) (fun e => e.set LL_EQ_STATUS_GEAR n 1)
  let d7 := d6.when (restore || reinit || d1.flag .eqProf n) (fun e => e.sv .eqNoUpd n (d.v .rxPip n + 1))
  ((((d7.quadsHeld n).sv .eqPendSnap n 0).sv .eqPendRestore n 0).sv .eqPendReinit n 0).sflag .eqUe n coefUe

/-- The pips since CONV was set are counted, from zero at the pip in which it is (R92). -/
def Dev.snapCount (d : Dev) (n : Nat) (convSet : Bool) : Dev :=
  d.sv .eqSnapCnt n (if convSet || !(d.on LL_EQ_STATUS_CONV n) then 0 else d.v .eqSnapCnt n + 1)

/-- An L100 lane's decisions go to its host lane unchanged, as the bits of the pip (R153); under NEAR_PARALLEL they are discarded
(R177). -/
def Dev.rawOut (d : Dev) (n : Nat) (syms : List Int) : Dev :=
  match d.slotOfLine n with
  | none => d
  | some sl =>
    if d.mode n = some .l100 ∧ d.v .loopNow sl ≠ 2 then
      d.toHostsOut sl ((d.hostsOfLine n).map (fun m => (m, syms.flatMap (fun x => levelBits ((x + 3) / 2).toNat))))
    else d

/-- The receive pip boundary (R85), with the pip's ADC codes, the ball time of its first symbol and the errors of its clock recovery. A hold that has applied at any time of
the pip makes it a held pip (R87, R90). -/
def Dev.eqPip (d : Dev) (n p : Nat) (codes : List Int) (start : Int) (errs : List (Int × Int)) (coefUe snapUe : Bool)
    (tileUe : Option (Nat × Bool)) : Dev :=
  if !(d.flag .rxGrid n) then d else
  let held := d.eqHeld n || d.flag .eqHoldPip n
  let was := d.on LL_EQ_STATUS_CONV n
  let mults := (d.eqNl n + 2 * d.eqNq n) * p / 160
  let d0 := (((d.cdrPip n errs).phaseMove n 72).count LL_ADC_CLIP_COUNT n
    ((codes.take p).filter (fun c => c == -128 || c == 127)).length).sv .multCount n (d.v .multCount n + (mults : Nat))
  let w := d0.eqRun n p held codes start
  let d1 := (d0.calPip n (codes.take p) w.prods).eqCount n w.errs
  let (d2, div) := if held then (d1, false) else d1.eqPipRun n w
  let convSet := !was && d2.on LL_EQ_STATUS_CONV n
  let d3 := if d2.flag .eqAcq n && !(d2.flag .eqProf n) && !held then d2.eqAdapt n w.keep.pip w else d2
  let d4 := ((d3.eqLeave n w).sv .eqSlow n (max 0 (d3.v .eqSlow n - 1))).when held (fun e => e.sv .eqNoUpd n (e.v .rxPip n + 1))
  let d5 := ((d4.eqBoundary n convSet div coefUe snapUe).snapCount n convSet).sflag .eqHoldPip n (d.eqHeld n)
  let d6 := ((d5.sflag .cdrAuto n (d5.on LL_EQ_STATUS_CONV n)).sv .rxPip n (d5.v .rxPip n + 1)).huntFollow n was
  let d7 := match tileUe with
    | none => d6
    | some (t, good) => d6.tileFail (n / 4) t (if good then none else some n)
  ((d7.rawOut n w.keep.syms).feedPip n w.keep).laneReact n

/-- EQ_PIP_UPDATE (R85). `sub`: how long after the active timescale's present value the boundary comes, in 2^-16 ns; the pip's first
symbol passed the ball one pip and 9 ns before it (R232). `volts`: the ball's differential input in nanovolts at each sample of the pip and of those after it that the
span and the traceback reach, as the slices present it; `errs`: the raw and the equaliser's clock-recovery errors of the pip's 72
dpclk in 2^-20 UI (R59, R60); `coefUe`, `snapUe`: the lane's reads found its coefficients, its snapshot uncorrectable (R93); `tileUe`:
a unit found this tile's configuration word uncorrectable, with or without a good copy (R46). -/
def execEqPipUpdate (n : Fin 8) (sub : Nat) (volts : List Int) (errs : List (Int × Int)) (coefUe snapUe : Bool) (tileUe : Option (Nat × Bool))
    (s : State) : Res :=
  let p := match s.dev.mode n with | some m => symbolsPerPip m | none => 0
  okDev s (s.dev.eqPip n p (s.dev.adcCodes n volts) (s.dev.actTime + (sub : Nat) - s.dev.uiTime n (p : Nat) - 589824) errs coefUe snapUe tileUe)

/-- EQ_PERIODIC_SNAPSHOT (R92): 2^SHIFT pips, SHIFT from 8 to 20, have passed since CONV was set or the last such end; taken while CONV =
1, unless SHIFT is 0, the SNR is below SNR_MIN or a coefficient error was found in the pip. -/
def execEqPeriodicSnapshot (n : Fin 8) (s : State) : Res :=
  let d := s.dev
  let k := d.get LL_EQ_SNAP_INT_SHIFT n
  let cnt := d.v .eqSnapCnt n
  okDev s (
    if k != 0 && d.on LL_EQ_STATUS_CONV n && decide (0 < cnt) && cnt % ((2 ^ clampN 8 20 k : Nat) : Int) == 0
        && d.snrGe n (d.get LL_EQ_CONV_SNR_MIN n : Nat) && !(d.flag .eqUe n) then d.eqSnapshot n else d)

/-- EQ_SNAP_NOW (R92). -/
def execEqSnapNow (n : Fin 8) (s : State) : Res := okDev s (s.dev.sv .eqPendSnap n 1)

/-- EQ_RESTORE (R93). -/
def execEqRestore (n : Fin 8) (s : State) : Res := okDev s (s.dev.sv .eqPendRestore n 1)

/-- EQ_REINIT (R94). -/
def execEqReinit (n : Fin 8) (s : State) : Res := okDev s (s.dev.sv .eqPendReinit n 1)

/-- INDEX advances after an access to LL_EQ_COEF when AUTO_INC is set, wrapping from 179 to 0. -/
def Dev.eqIndexNext (d : Dev) (n : Nat) : Dev :=
  if d.on LL_EQ_COEF_SEL_AUTO_INC n then
    let k := d.get LL_EQ_COEF_SEL_INDEX n
    d.set LL_EQ_COEF_SEL_INDEX n (if k = 179 then 0 else k + 1)
  else d

/-- The selected index is one of the lane's coefficients or entries (LL_EQ_COEF). -/
def Dev.eqIndexOk (d : Dev) (n k : Nat) : Bool :=
  if k < 112 then decide (k < d.eqNl n) else if k < 144 then decide (k - 112 < d.eqNq n) else decide (k < 180)

/-- EQ_COEF_WRITE (R88): the selected coefficient or pair entry takes the value at the next pip boundary. -/
def execEqCoefWrite (n : Fin 8) (value : BitVec 16) (s : State) : Res :=
  let d := s.dev
  let k := d.get LL_EQ_COEF_SEL_INDEX n
  okDev s ((if d.eqIndexOk n k then (d.sv .eqWr (180 * n + k) 1).sv .eqWrV (180 * n + k) value.toInt else d).eqIndexNext n)

/-- A histogram window starts afresh (R96). -/
def Dev.histStart (d : Dev) (n : Nat) : Dev :=
  ((((d.each (List.range 16) (fun k e => e.sv .eqHp (16 * n + k) 0)).sv .eqHpips n 0).sv .eqFlips n 0).sv .eqBits n 0).set
    LL_EQ_QCTRL_HIST_BUSY n 1

/-- EQ_HIST_START (R96). -/
def execEqHistStart (n : Fin 8) (s : State) : Res := okDev s (s.dev.histStart n)

/-- The estimate of R97 as a fraction; none where the spec's formula has no value. -/
def Dev.berFrac (d : Dev) (n : Nat) : Option (Nat × Nat) :=
  if d.daOn n then
    if d.v .eqBits n = 0 then none else some (max 1 (d.v .eqFlips n).toNat, (d.v .eqBits n).toNat)
  else if d.v .eqMse n = 0 then none
  else
    let f := d.snrFrac n
    let q := gaussQ f.1 (5 * f.2)
    some (3 * q.1, 4 * q.2)

/-- LL_EQ_BER at a window's end (R97); where the formula has no value, or its exponent does not fit the field, the two
digits and the exponent are free values (assumption 23). -/
def Dev.berReport (d : Dev) (n : Nat) : Dev :=
  let dec := d.daOn n
  let d1 := ((d.put LL_EQ_BER_SRC n dec).put LL_EQ_BER_BOUND n (dec && d.v .eqFlips n == 0)).set LL_EQ_BER_VALID n 1
  match (d.berFrac n).bind (fun f => twoDigits f.1 f.2 32 0) with
  | some (m, e) => (d1.set LL_EQ_BER_MANT n m).set LL_EQ_BER_EXP n e
  | none =>
    let d2 := (d1.set LL_EQ_BER_MANT n (10 + d1.freeNat 90)).drew
    (d2.set LL_EQ_BER_EXP n (d2.freeNat 32)).drew

/-- EQ_HIST_WINDOW_END (R96, R97): a window of 2^(WIN + 4) pips is complete. -/
def execEqHistWindowEnd (n : Fin 8) (s : State) : Res :=
  let d := s.dev
  okDev s (
    if d.on LL_EQ_QCTRL_HIST_BUSY n && decide (((2 ^ (d.get LL_EQ_QCTRL_WIN n + 4) : Nat) : Int) ≤ d.v .eqHpips n) then
      let d1 := d.each (List.range 16) (fun k e => e.set LL_EQ_HIST_COUNT (16 * n + k) (d.v .eqHp (16 * n + k)).toNat)
      let d2 := d1.berReport n
      if d2.on LL_EQ_QCTRL_HIST_CONT n then d2.histStart n else d2.set LL_EQ_QCTRL_HIST_BUSY n 0
    else d)

end Sys2Proof.Machine
end

