-- ==== Sys2Proof/Machine/Chirp.lean ====
section
/-! DEFINITION. The chirps of a Sloe transmitter (R196 to R198): the phase of a chirp in exact fractions of a turn, its cosine in Q1.15,
and the grid of chirp symbols that the overlay term of R98 follows. -/

namespace Sys2Proof.Machine

/-- 2π in 2^-64. -/
def twoPi64 : Nat := 115904311329233965478

/-- The cosine of an angle of the first quadrant, by its series; angle and result in 2^-64. -/
def cosSeries (y : Nat) : Int :=
  let y2 := (y * y / 2 ^ 64 : Nat)
  ((List.range 14).foldl (fun (a : Int × Int) (k : Nat) =>
    (a.1 + a.2, -(a.2 * y2 / (2 ^ 64 * ((2 * k + 1) * (2 * k + 2) : Nat))))) (0, 2 ^ 64)).1

/-- cos of the fraction `x / den` of a turn in Q1.15, saturating at +0.99997 (R196); the spec states no rounding: to nearest, ties away
from zero (DESIGN CHOICE, assumption 83). -/
def cosQ15 (x den : Nat) : Int :=
  let h := x % den
  let a := min h (den - h)
  let neg := decide (den < 4 * a)
  let q := if neg then den - 2 * a else 2 * a
  let c := rdiv (cosSeries (twoPi64 * q / (2 * den))) (2 ^ 49)
  if neg then -c else min 32767 c

/-- The phase of a chirp of shift `k` at `p` of the `T` time units of a symbol, in 1/(2 N T²) of a turn (R196): the integral of its
frequency, where `m` is fc over BW. Over a whole symbol it is a whole number of turns, so that every symbol begins at phase 0. -/
def chirpPhase (m N T k p : Nat) (up : Bool) : Nat :=
  let x := k * T + p * N
  let w := x / (N * T)
  let r := x % (N * T)
  let sweep := N * N * T * T * w + r * r - k * k * T * T
  if up then (2 * m - 1) * N * N * T * p + sweep else (2 * m + 1) * N * N * T * p - sweep

/-- The symbol grid of a transmitter: the symbol being sent (0 before the grid starts, 1 silence, 2 on direction and shift), the time
since its start in thirds of a line symbol, and the packet's symbols still to come. -/
structure ChirpGrid where
  sym  : Nat
  pos  : Nat
  rest : List (Bool × Nat)

/-- A chirp symbol as a number: 2 on, even up, odd down. -/
def chirpCode (x : Bool × Nat) : Nat := 2 + 2 * x.2 + (if x.1 then 0 else 1)

/-- The symbol of the next place of the grid: the packet's, else an idle symbol, else silence (R197, R198). -/
def ChirpGrid.load (g : ChirpGrid) (idle : Bool) : ChirpGrid :=
  match g.rest with
  | x :: l => { g with sym := chirpCode x, rest := l }
  | [] => { g with sym := if idle then chirpCode (true, 0) else 1 }

/-- The grid at the next line symbol (R196): it starts when the transmitter runs, and steps without gaps. -/
def ChirpGrid.next (g : ChirpGrid) (run idle : Bool) (T : Nat) : ChirpGrid :=
  if g.sym = 0 then (if run then { g with pos := 0 }.load idle else g)
  else if g.pos < T then g
  else if run then { g with pos := g.pos - T }.load idle
  else { g with sym := 0, pos := 0 }

/-- The overlay sample of the grid's place (R196, R98): 0 while nothing is sent. -/
def ChirpGrid.sample (g : ChirpGrid) (m N T : Nat) : Int :=
  if g.sym < 2 then 0
  else cosQ15 (chirpPhase m N T ((g.sym - 2) / 2) g.pos (g.sym % 2 == 0)) (2 * N * T * T)

/-- The overlay samples of `count` line symbols, newest first, and the grid after them. -/
def ChirpGrid.run (m N T : Nat) (on idle : Bool) : Nat → ChirpGrid → List Int → ChirpGrid × List Int
  | 0, g, acc => (g, acc)
  | c + 1, g, acc =>
    let h := g.next on idle T
    ChirpGrid.run m N T on idle c { h with pos := h.pos + (if h.sym = 0 then 0 else 3) } (h.sample m N T :: acc)

/-- The transmitter's symbol grid runs: TX_EN, or a packet in transmission, which is never cut (R196, R205). -/
def Dev.slRuns (d : Dev) (n : Nat) : Bool := d.on SLOE_LCFG_TX_EN n || d.v .slCur n != 0

/-- The overlay samples of the next `count` line symbols of a lane (R98, R196 to R198). -/
def Dev.overlay (d : Dev) (n count : Nat) : Dev × List Int :=
  match d.mode n with
  | none => (d, List.replicate count 0)
  | some md =>
    let N := 2 ^ d.slSF n
    let T := N * symbolRate3 md / d.slBW n
    let g : ChirpGrid := { sym := (d.v .slSym n).toNat, pos := (d.v .slPos n).toNat, rest := d.slRest n }
    let r := ChirpGrid.run (d.slFC n / d.slBW n) N T (d.slRuns n) (d.on SLOE_LCFG_IDLE n && d.on SLOE_LCFG_TX_EN n) count g []
    (((d.sv .slSym n (r.1.sym : Nat)).sv .slPos n (r.1.pos : Nat)).setSlRest n r.1.rest, r.2.reverse)

end Sys2Proof.Machine
end

