-- ==== Sys2Proof/Machine/Shaping.lean ====
section
/-! DEFINITION. Transmit shaping and predistortion (chapter 05, R98 to R107). -/

namespace Sys2Proof.Machine

/-- The applied coefficients g(-2) to g(4) of a lane, Q2.8 (R98). -/
def Dev.fir (d : Dev) (n : Nat) : List Int := (List.range 7).map (fun k => d.v .txFir (n * 7 + k))

/-- A for a DEPTH code and Σ g in Q2.8, in 2^-16 (R100): depth × 2 |Σ g|, rounded to nearest, ties away from zero. -/
def overlayAmp (code : Nat) (sum : Int) : Int :=
  let c := if code = 0 then 0 else clampN 4 32 code
  rdiv ((c : Int) * absI (sum) * 32) 25

/-- The worst-case peak of the applied values in 2^-16 (R101). -/
def Dev.peak (d : Dev) (n : Nat) : Int :=
  let g := (d.fir n).foldl (fun a x => a + absI (x)) 0
  let p := if d.flag .txPdEn n then (List.range 64).foldl (fun a k => max a (absI (d.v .txPd (n * 64 + k)))) 0 else 0
  256 * g + 128 * p + d.v .txA n

/-- Report the peak in 1/256 full scale, rounded down; a peak above 1.0 sets HEADROOM (R101). -/
def Dev.peakReport (d : Dev) (n : Nat) : Dev :=
  (d.set LL_TX_PEAK_PEAK n (min (d.peak n / 256).toNat 0xFFF)).evIf (decide (65536 < d.peak n)) LL_TX_STATUS_HEADROOM n

/-- The pending coefficient g of index k + 2 (LL_TX_FIR0 to LL_TX_FIR3). -/
def Dev.firPend (d : Dev) (n k : Nat) : Int :=
  d.geti (if k % 2 = 0 then LL_TX_FIR_G_LO else LL_TX_FIR_G_HI) (n * 4 + k / 2)

/-- The pending predistortion entry `i` (LL_TX_PD0 to LL_TX_PD15). -/
def Dev.pdPend (d : Dev) (n i : Nat) : Int := sext 8 (d.bufByte LL_TX_PD_ENTRY (n * 16) i).toNat

/-- Take every pending shaping value at once, and recompute A and the peak (R102). -/
def Dev.txTake (d : Dev) (n : Nat) : Dev :=
  let d1 := d.each (List.range 7) (fun k e => e.sv .txFir (n * 7 + k) (e.firPend n k))
  let d2 := d1.each (List.range 64) (fun i e => e.sv .txPd (n * 64 + i) (e.pdPend n i))
  let d3 := d2.sv .txDepth n (d2.get LL_TX_OVL_DEPTH n : Nat)
  let a := overlayAmp (d3.get LL_TX_OVL_DEPTH n) ((d3.fir n).foldl (· + ·) 0)
  ((d3.sv .txA n a).set LL_TX_STATUS_APPLY_PEND n 0).peakReport n

/-- One sample before clipping, over 3 × 2^31 (R98): `w` is a[n-4] … a[n+2] as history entries, `o` the chirp sample. -/
def Dev.shapeNum (d : Dev) (n : Nat) (w : List Int) (o : Int) : Int :=
  let a := fun (i : Nat) => symLevel (w.getD i 0)
  let lv := fun (i : Nat) => (max 0 (w.getD i 0 - 1)).toNat
  let mute := d.flag .txMute n
  let fir := if mute then 0 else
    (List.range 7).foldl (fun acc k => acc + d.v .txFir (n * 7 + k) * a (6 - k)) 0
  let pd := if mute || !(d.flag .txPdEn n) then 0 else d.v .txPd (n * 64 + 16 * lv 3 + 4 * lv 4 + lv 5)
  128 * fir * 2 ^ 23 + 3 * (128 * pd * 2 ^ 22) + 3 * (128 * d.v .txA n * o)

/-- The DAC code of a sample and whether it clips (R98, R101). -/
def dacCode (num : Int) : Int × Bool :=
  let c := num / (3 * 2 ^ 31)
  (clampI (-128) 127 c, decide (c < -128 ∨ 127 < c))

/-- Shape the symbols of a pip: codes and the number clamped; a squelched lane drives code 0 and counts none (R101, R105). -/
def Dev.shape (d : Dev) (n : Nat) (hist syms chirp : List Int) : List Int × Nat :=
  let s := hist ++ syms
  let sq := d.on LL_TX_STATUS_SQ_ACTIVE n
  let r := (List.range syms.length).map (fun i => dacCode (d.shapeNum n ((s.drop i).take 7) (chirp.getD i 0)))
  if sq then (r.map (fun _ => 0), 0) else (r.map (·.1), (r.filter (·.2)).length)

/-- The differential output of a DAC code in nV: (c + 0.5) × 600/256 mV (R58). -/
def dacVolts (c : Int) : Int := (2 * c + 1) * 1171875

/-- The coarse delay line (R103): the symbols of a pip after `DELAY` UI, as level codes plus 1, given the last 63 symbols before them;
a change of DELAY so repeats or omits symbols once. -/
def delayed (delay : Nat) (line syms : List Int) : List Int :=
  let all := line ++ syms
  (List.range syms.length).map (fun i => all.getD (63 + i - delay) 0)

/-- A transmit pip boundary: PD_EN, a pending APPLY, DATA_MUTE, DELAY and a release of squelch take effect, the fine phase moves on (R101
to R106); the peak is evaluated once, with the values that are then applied. -/
def Dev.txSettings (d : Dev) (n : Nat) : Dev :=
  let pdOld := d.flag .txPdEn n
  let d2 := d.sflag .txPdEn n (d.on LL_TX_CTRL_PD_EN n)
  let d3 := if d2.on LL_TX_STATUS_APPLY_PEND n then d2.txTake n
    else if pdOld != d2.on LL_TX_CTRL_PD_EN n then d2.peakReport n else d2
  let d4 := (d3.sflag .txMute n (d3.on LL_TX_CTRL_DATA_MUTE n || d3.flag .thermMute (n / 4))).sv .txDelay n
      (d3.get LL_TX_SKEW_DELAY n : Nat)
  let d5 := (d4.sv .txFine n (d4.get LL_TX_SKEW_FINE n : Nat)).set LL_TX_STATUS_FINE_BUSY n 0
  if d5.sqSrc n = 0 then d5.set LL_TX_STATUS_SQ_ACTIVE n 0 else d5

/-- The pip's symbols are delayed, shaped with the lane's overlay and sent (R98 to R103); a disabled lane's pipeline stands still
(R105). -/
def Dev.txSend (d : Dev) (n : Nat) (syms : List (Fin 4)) : Dev :=
  let new := syms.map (fun x => (x.val : Int) + 1)
  let line := d.histAt .txLine 63 n
  let input := delayed (min 63 (d.v .txDelay n).toNat) line new
  let hist := d.histAt .txHist 6 n
  let o := d.overlay n syms.length
  let r := d.shape n hist input o.2
  let d1 := (o.1.histPut .txLine 63 n (line ++ new)).histPut .txHist 6 n (hist ++ input)
  (d1.count LL_TX_CLIP_COUNT n r.2).emit (.dac n r.1 (r.1.map dacVolts))

/-- A transmit pip of a lane: its boundary, then its symbols. -/
def Dev.txBoundary (d : Dev) (n : Nat) (syms : List (Fin 4)) : Dev :=
  let d1 := d.txSettings n
  d1.when (d1.on BN_LINK_CTRL_EN n) (fun e => e.txSend n syms)

/-- TX_APPLY (R102): APPLY_PEND is set; an APPLY while it is set merges with the pending one. -/
def execTxApply (n : Fin 8) (s : State) : Res := okDev s (s.dev.set LL_TX_STATUS_APPLY_PEND n 1)

/-- The symbols of a transmit pip of a line lane, from the bits of its host lanes (R76, R108 to R111, R152, R153). -/
def Dev.lineSymbols (d : Dev) (n : Nat) (h0 h1 : List Bool) : List (Fin 4) :=
  match d.mode n with
  | none => []
  | some .l400e => codedSymbols true 160 64 (max 1 (d.lane n).depth) h0 h1
  | some .l400s => codedSymbols false 180 60 (max 1 (d.lane n).depth) h0 h1
  | some .l200 => (List.range 5760).map (Config.l200Symbol d.fresh ((bitPieces 120 90 h0).flatMap h128Encode))
  | some .l100 => bitSymbols ((bitPieces 5760 1 h0).flatten)

/-- Bits of a host lane's stream per pip of a mode (R152, R153). -/
def hostBitsPerPip : LineMode → Nat
  | .l400e => 10240
  | .l400s => 10800
  | .l200 => 10800
  | .l100 => 5760

/-- A transmit pip of a line lane of the port in slot `sl` (R102, R177): its host lanes' streams come from their receivers or a loopback;
under NEAR_PARALLEL they also go to the host transmitters in place of the hold buffer's output. -/
def Dev.txPip (d : Dev) (n sl : Nat) (h0 h1 : List Bool) : Dev :=
  let k := ((d.mode n).map hostBitsPerPip).getD 0
  let streams := ((d.hostsOfLine n).zip [h0, h1]).map (fun x => (x.1, d.fromHost sl x.1 k x.2))
  let bits := streams.map (·.2)
  let d0 := d.each (d.hostsOfLine n) (fun m e => e.fillSent sl m .tx k)
  let d1 := (d0.txBoundary n (d.lineSymbols n (bits.getD 0 []) (bits.getD 1 []))).drew
  let d2 := d1.when (decide (d.v .loopNow sl = 1 ∨ d.v .loopNow sl = 3)) (fun e => e.each (d.hostsOfLine n) (fun m x => x.loopTaken m k))
  d2.when (decide (d.v .loopNow sl = 2)) (fun e => e.toHostsOut sl streams)

/-- TX_PIP_BOUNDARY (R102, R417). `h0` and `h1` are the bits of the streams that the lane's first and second host receiver have for the
pip; the boundary happens while the port's transmit grid runs. -/
def execTxPipBoundary (n : Fin 8) (h0 h1 : List Bool) (s : State) : Res :=
  let d := s.dev
  okDev s (match d.slotOfLine n with
    | some sl => if d.flag .txGrid sl then d.txPip n sl h0 h1 else d
    | none => d)

/-- TX_FINE_WRITE (R104): FINE is written; FINE_BUSY reads 1 until the phase has moved there. -/
def execTxFineWrite (n : Fin 8) (fine : Fin 64) (s : State) : Res :=
  let d := s.dev.set LL_TX_SKEW_FINE n fine
  okDev s (d.put LL_TX_STATUS_FINE_BUSY n (decide (d.v .txFine n ≠ (fine.val : Nat))))

/-- TX_EIDLE_SET (R107): the lane squelches at once and the DAC powers down; an exit in progress ends. -/
def execTxEidleSet (n : Fin 8) (s : State) : Res := okDev s ((s.dev.set LL_TX_CTRL_EIDLE n 1).txRefresh n)

/-- TX_DAC_READY (R107): the DAC is settled 2 µs after electrical idle ended. -/
def execTxDacReady (n : Fin 8) (s : State) : Res :=
  let d := s.dev
  okDev s (if d.flag .txExit n then ((d.sv .txExit n 0).set LL_TX_STATUS_READY n 1).txRefresh n else d)

end Sys2Proof.Machine
end

