-- ==== Sys2Proof/Machine/HostLane.lean ====
section
/-! DEFINITION. Host electrical lanes (chapter 07, R134 to R150). -/

namespace Sys2Proof.Machine

/-! ### Receiver -/

/-- A write of the selected receiver tap: FFE taps in Q2.10, h1 in Q1.9 clamped to ±0.5, other indices dropped (R136). -/
def Dev.hlTapWrite (d : Dev) (m value : Nat) : Dev :=
  let i := d.get HL_RX_TAP_SEL_INDEX m
  if i < 16 then d.sv .hlFfe (m * 16 + i) (sext 12 (value % 2 ^ 12))
  else if i = 16 then d.sv .hlH1 m (clampI (-256) 256 (sext 10 (value % 2 ^ 10)))
  else d

/-- HL_RX_CONTROL_WRITE (R136): `tap` false writes the word of HL_RX_CTLE, true the selected tap; the value replaces
the adapted one. -/
def execHlRxControlWrite (m : Fin 16) (tap : Bool) (value : Nat) (s : State) : Res :=
  let d := s.dev
  okDev s (if tap then d.hlTapWrite m value
    else ((d.set HL_RX_CTLE_PEAK m value).set HL_RX_CTLE_POLE m (value / 2 ^ 5)).set HL_RX_CTLE_AUTO m (value / 2 ^ 7))

/-- CDR_LOCK falls: LOCK_LOST is set if it was 1 (R138). -/
def Dev.hlUnlock (d : Dev) (m : Nat) : Dev :=
  ((d.evIf (d.on HL_STATUS_CDR_LOCK m) HL_STATUS_LOCK_LOST m).set HL_STATUS_CDR_LOCK m 0).sv .hlStable m 0

/-- HL_SIG_DET_CHANGE (R137): a clearing sets SIG_LOST and clears CDR_LOCK (R138); the port reacts (R68, R162, R175). -/
def execHlSigDetChange (m : Fin 16) (up : Bool) (s : State) : Res :=
  let d := s.dev
  okDev s (
    if !(d.on HL_STATUS_ENABLED m) then d
    else if up then (d.set HL_STATUS_SIG_DET m 1).hostReact m
    else (((d.evIf (d.on HL_STATUS_SIG_DET m) HL_STATUS_SIG_LOST m).set HL_STATUS_SIG_DET m 0).hlUnlock m).hostReact m)

/-- The LMS step of a control over an interval: 2^-MU of what has accumulated (R136); a control is held in its own unit (DESIGN CHOICE,
assumption 86). -/
def Dev.lmsStep (d : Dev) (m : Nat) (g : Int) : Int := rdiv g (2 ^ max 4 (d.get HL_RX_ADAPT_MU m))

/-- The receiver's adapted controls over an interval: each adapts by LMS while AUTO = 1 and its freeze bit is clear; the CTLE
only while SIG_DET = 1 and before the clock recovery has first locked (R136). -/
def Dev.hlAdapt (d : Dev) (m : Nat) (g : HostRx) : Dev :=
  if !(d.on HL_RX_CTLE_AUTO m) then d else
  let d1 := if !(d.on HL_RX_ADAPT_FRZ_CTLE m) && d.on HL_STATUS_SIG_DET m && !(d.flag .hlPeakAcc m) then
      (d.set HL_RX_CTLE_PEAK m (clampI 0 31 ((d.get HL_RX_CTLE_PEAK m : Nat) + d.lmsStep m g.peak)).toNat).set HL_RX_CTLE_POLE m
        (clampI 0 3 ((d.get HL_RX_CTLE_POLE m : Nat) + d.lmsStep m g.pole)).toNat else d
  let d2 := if d1.on HL_RX_ADAPT_FRZ_FFE m then d1 else
      d1.each ((List.range 16).zip g.ffe) (fun kv e =>
        e.sv .hlFfe (m * 16 + kv.1) (clampI (-2048) 2047 (e.v .hlFfe (m * 16 + kv.1) + e.lmsStep m kv.2)))
  if d2.on HL_RX_ADAPT_FRZ_DFE m then d2 else d2.sv .hlH1 m (clampI (-256) 256 (d2.v .hlH1 m + d2.lmsStep m g.h1))

/-- The largest number `t` of hundredths of a decibel below 2^bits that a ratio reaches when rounded. -/
def snrSearch (r : Nat × Nat) : Nat → Nat → Nat
  | 0, acc => acc
  | b + 1, acc =>
    let t := acc + 2 ^ b
    snrSearch r b (if 10 ^ (2 * t - 1) * r.2 ^ 2000 ≤ r.1 ^ 2000 then t else acc)

/-- The SNR of R136 in 0.01 dB, 0 to 60 dB: 10 log10(5 / (9 MSE)), the MSE in 2^-40 of the squared outer level. -/
def hostSnr (mse : Nat) : Nat := if mse = 0 then 6000 else min 6000 (snrSearch (5 * 2 ^ 40, 9 * mse) 13 0)

/-- The same in 0.1 dB, as HL_RX_SNR reports it. -/
def hostSnr10 (mse : Nat) : Nat := if mse = 0 then 600 else dbRound (5 * 2 ^ 40, 9 * mse) 600

/-- The local receiver is declared ready (R145): the requester's loop has ended and HL_RX_SNR ≥ RX_SNR_MIN. -/
def Dev.hlReadyCheck (d : Dev) (m : Nat) : Dev :=
  if d.v .hlPhase m = 7 ∧ d.get HL_TRAIN_STATUS_STATE m = 3 ∧ d.get HL_TRAIN_TH_RX_SNR_MIN m ≤ d.get HL_RX_SNR_SNR m then
    let d1 := d.set HL_TRAIN_STATUS_LOCAL_RDY m 1
    (if d1.on HL_TRAIN_STATUS_REMOTE_RDY m then d1.set HL_TRAIN_STATUS_STATE m 5
    else d1.set HL_TRAIN_STATUS_STATE m 4).emit (.trainFrame m true)
  else d

/-- HL_CDR_INTERVAL (R138): `est` is the interval's frequency estimate in 0.001 ppm, `mse` the mean squared slicer error of its 2^16
symbols in 2^-40 of the squared outer level, `g` what the LMS loops have accumulated (R136). -/
def execHlCdrInterval (m : Fin 16) (est : Int) (mse : Nat) (g : HostRx) (s : State) : Res :=
  let d := s.dev
  okDev s (
    if !(d.on HL_STATUS_ENABLED m) then d else
    let e := if d.on HL_STATUS_SIG_DET m then clampI (-300000) 300000 est else d.v .hlEst m
    let diff := absI (e - d.v .hlEst m)
    let d1 := ((d.hlAdapt m g).set HL_RX_SNR_SNR m (hostSnr10 mse)).sv .hlEst m e
    let d2 := d1.put HL_STATUS_FREQ_RANGE m (freqRange (d1.on HL_STATUS_FREQ_RANGE m) e)
    let d3 :=
      if d2.on HL_STATUS_FREQ_RANGE m || !(d2.on HL_STATUS_SIG_DET m) || decide (8000 < diff) then d2.hlUnlock m
      else if diff < 2000 then
        let x := d2.sv .hlStable m (d2.v .hlStable m + 1)
        if 4 ≤ x.v .hlStable m then (x.set HL_STATUS_CDR_LOCK m 1).sv .hlPeakAcc m 1 else x
      else d2.sv .hlStable m 0
    (d3.hlReadyCheck m).hostReact m)

/-! ### Transmitter -/

/-- c(0) of a set c(-3), c(-2), c(-1), c(1), c(2) (R140). -/
def mainCursor (c : List Int) : Int := 64 - c.foldl (fun a x => a + absI x) 0

/-- The ranges of R140, in the order of the applied set. -/
def coefRange : List (Int × Int) := [(-8, 8), (-12, 12), (-24, 0), (-24, 0), (-8, 8)]

/-- One unit toward zero. -/
def towardZero (x : Int) : Int := if 0 < x then x - 1 else if x < 0 then x + 1 else 0

/-- Move the first non-zero coefficient in the order c(1), c(2), c(-1), c(-2), c(-3) one unit toward zero (R140). -/
def shrinkOnce (c : List Int) : List Int :=
  match [3, 4, 2, 1, 0].find? (fun i => c.getD i 0 != 0) with
  | some i => c.set i (towardZero (c.getD i 0))
  | none => c

/-- Shrink until c(0) ≥ 32 (R140); `fuel` bounds the moves. -/
def shrinkTo : Nat → List Int → List Int
  | 0, c => c
  | k + 1, c => if mainCursor c < 32 then shrinkTo k (shrinkOnce c) else c

/-- The nearest set in range by the procedure of R140. -/
def limitSet (c : List Int) : List Int :=
  shrinkTo 80 ((c.zip coefRange).map (fun x => clampI x.2.1 x.2.2 x.1))

/-- The pending coefficients. -/
def Dev.hlPend (d : Dev) (m : Nat) : List Int :=
  [d.geti HL_TX_COEF0_CM3 m, d.geti HL_TX_COEF0_CM2 m, d.geti HL_TX_COEF0_CM1 m, d.geti HL_TX_COEF0_CP1 m, d.geti HL_TX_COEF1_CP2 m]

/-- Put a set of coefficients in force. -/
def Dev.hlForce (d : Dev) (m : Nat) (c : List Int) : Dev :=
  (d.each (List.range 5) (fun i e => e.sv .hlCoef (m * 5 + i) (c.getD i 0))).set HL_TX_COEF1_C0 m (mainCursor c).toNat

/-- Apply the pending set at one symbol boundary, limited as R140 states, TX_LIMIT when it was limited (R140, R141). -/
def Dev.hlApply (d : Dev) (m : Nat) : Dev :=
  let p := d.hlPend m
  ((d.hlForce m (limitSet p)).evIf (limitSet p != p) HL_STATUS_TX_LIMIT m).set HL_STATUS_APPLY_PEND m 0

/-- Training runs: state SEND_TRAINING to SEND_DATA (R139, R141). -/
def Dev.training (d : Dev) (m : Nat) : Bool :=
  let st := d.get HL_TRAIN_STATUS_STATE m
  decide (2 ≤ st ∧ st ≤ 6)

/-- HL_TX_APPLY (R141): dropped while training runs. -/
def execHlTxApply (m : Fin 16) (s : State) : Res :=
  okDev s (if s.dev.training m then s.dev else s.dev.hlApply m)

/-- The coefficients of a preset for the lane's rate; an undefined preset number loads preset 1 (R141). -/
def Dev.hlPreset (d : Dev) (m p : Nat) : List Int :=
  match Config.presetCoefs (d.on HL_STATUS_RATE m) p with
  | some c => c
  | none => (Config.presetCoefs (d.on HL_STATUS_RATE m) 1).getD []

/-- HL_PRESET_LOAD (R141): the write names the preset; the pending set takes it and it is applied. -/
def execHlPresetLoad (m : Fin 16) (preset : Fin 8) (s : State) : Res :=
  let d := s.dev.set HL_TX_CTRL_PRESET m preset
  okDev s (if d.training m then d else (d.hlSetPend m (d.hlPreset m preset)).hlApply m)

/-! ### Training -/

/-- HL_TRAIN_RESTART (R143): SEND_TRAINING, or WAIT_TX in electrical idle. -/
def execHlTrainRestart (m : Fin 16) (s : State) : Res := okDev s ((s.dev.trainStart m).hostReact m)

/-- HL_TRAIN_ABORT (R143): OFF, coefficients kept. -/
def execHlTrainAbort (m : Fin 16) (s : State) : Res := okDev s ((s.dev.trainOff m).hostReact m)

/-- Send a request to the partner and count it (R145). -/
def Dev.hlAsk (d : Dev) (m : Nat) (r : TrainReq) (phase : Int) : Dev :=
  ((d.count HL_TRAIN_STATUS_REQ_COUNT m 1).sv .hlPhase m phase).emit (.trainReq m r)

/-- The taps of the requester's loop in order (R145). -/
def loopTap (i : Int) : TapName := if i = 0 then .c1 else if i = 1 then .cm1 else if i = 2 then .cm2 else .cm3

/-- Request the current step of the requester's current tap (R145). -/
def Dev.hlAskStep (d : Dev) (m : Nat) : Dev :=
  let t := d.v .hlTap m
  d.hlAsk m (.step (loopTap t) (d.flag .hlDir (m * 4 + t.toNat))) 3

/-- Reverse the direction of the current tap (R145). -/
def Dev.hlReverse (d : Dev) (m : Nat) : Dev :=
  let i := m * 4 + (d.v .hlTap m).toNat
  d.sflag .hlDir i (!(d.flag .hlDir i))

/-- The requester's loop has ended: decide on precoding, then on readiness (R145). -/
def Dev.hlLoopEnd (d : Dev) (m : Nat) : Dev :=
  let pr := d.get HL_TRAIN_CFG_PRECODE_REQ m
  let want := pr == 1 || (decide (2 ≤ pr) && decide ((d.get HL_TRAIN_TH_PRE_TH m : Int) ≤ absI (d.v .hlH1 m)))
  let d1 := d.sv .hlPhase m 7
  let d2 := if want then (d1.hlAsk m (.precode true) 7).set HL_CTRL_RX_PRECODE m 1 else d1
  d2.hlReadyCheck m

/-- Go on to the next tap, the next round, or the end of the loop (R145). -/
def Dev.hlNextTap (d : Dev) (m : Nat) : Dev :=
  if d.v .hlTap m < 3 then (d.sv .hlTap m (d.v .hlTap m + 1)).hlAskStep m
  else if !(d.flag .hlKept m) || decide (max 1 (d.get HL_TRAIN_CFG_MAX_REQ m) ≤ d.get HL_TRAIN_STATUS_REQ_COUNT m) then d.hlLoopEnd m
  else ((d.sv .hlTap m 0).sv .hlKept m 0).hlAskStep m

/-- HL_PARTNER_FRAME_LOCK (R143): lock in SEND_TRAINING enters TRAIN_LOCAL and the requester asks for its first
preset (R145); a loss of frame lock leaves SEND_DATA for SEND_TRAINING. -/
def execHlPartnerFrameLock (m : Fin 16) (locked : Bool) (s : State) : Res :=
  let d := s.dev
  let st := d.get HL_TRAIN_STATUS_STATE m
  okDev s (
    if locked && st == 2 then
      let d1 := (d.set HL_TRAIN_STATUS_STATE m 3).each (List.range 4) (fun i e => e.sv .hlDir (m * 4 + i) 0)
      (((d1.sv .hlTap m 0).sv .hlKept m 0).hlAsk m (.preset (d1.get HL_TRAIN_CFG_INIT_PRESET m)) 1)
    else if !locked && st == 6 then (d.trainStart m).hostReact m
    else d)

/-- The index of a coefficient in the applied set. -/
def tapIx : TapName → Option Nat
  | .cm3 => some 0
  | .cm2 => some 1
  | .cm1 => some 2
  | .c1 => some 3
  | .c2 => some 4
  | .other => none

/-- The responder's answer to a request, and the state after it (R144). -/
def Dev.hlAnswer (d : Dev) (m : Nat) (r : TrainReq) : Dev × TrainResp :=
  match r with
  | .preset p =>
    match Config.presetCoefs (d.on HL_STATUS_RATE m) p with
    | none => (d, .notSupported)
    | some c => ((d.hlSetPend m c).hlForce m c, .updated)
  | .precode on => (d.put HL_CTRL_TX_PRECODE m on, .updated)
  | .step t up =>
    match tapIx t with
    | none => (d, .notSupported)
    | some i =>
      let c := d.hlApplied m
      let c' := c.set i (c.getD i 0 + (if up then 1 else -1))
      let rg := coefRange.getD i (0, 0)
      if c'.getD i 0 < rg.1 ∨ rg.2 < c'.getD i 0 ∨ mainCursor c' < 32 then (d, if up then .atMax else .atMin)
      else ((d.hlSetPend m c').hlForce m c', .updated)

/-- HL_PARTNER_REQUEST (R144): counted, and answered in the states TRAIN_LOCAL to LINK_READY (R143). -/
def execHlPartnerRequest (m : Fin 16) (req : TrainReq) (s : State) : Res :=
  let d := s.dev.count HL_TRAIN_CNT_PARTNER_REQ m 1
  let st := d.get HL_TRAIN_STATUS_STATE m
  okDev s (if 3 ≤ st ∧ st ≤ 5 then (d.hlAnswer m req).1.emit (.trainResp m (d.hlAnswer m req).2) else d)

/-- HL_PARTNER_RESPONSE (R145): the answer to the outstanding request. -/
def execHlPartnerResponse (m : Fin 16) (resp : TrainResp) (s : State) : Res :=
  let d := s.dev
  let ph := d.v .hlPhase m
  okDev s (
    if d.get HL_TRAIN_STATUS_STATE m ≠ 3 then d
    else if ph = 1 then
      if resp = .notSupported then d.hlAsk m (.preset 1) 8 else d.sv .hlPhase m 2
    else if ph = 8 then d.sv .hlPhase m 2
    else if ph = 3 then
      if resp = .updated then d.sv .hlPhase m 4 else (d.hlReverse m).hlNextTap m
    else if ph = 5 then d.sv .hlPhase m 6
    else d)

/-- HL_MEAS_WINDOW (R145): a settling or measurement window ends; `mse` is the mean squared error over its W symbols in 2^-40 of the
squared outer level, which gives the reading in 0.01 dB. -/
def execHlMeasWindow (m : Fin 16) (mse : Nat) (s : State) : Res :=
  let d := s.dev
  let snr : Int := hostSnr mse
  let ph := d.v .hlPhase m
  okDev s (
    if d.get HL_TRAIN_STATUS_STATE m ≠ 3 then d
    else if ph = 2 then (d.sv .hlBest m snr).hlAskStep m
    else if ph = 4 then
      if d.v .hlBest m + 5 * (d.get HL_TRAIN_CFG_THRESH m : Int) < snr then
        (((d.sv .hlBest m snr).sv .hlKept m 1)).hlNextTap m
      else
        let t := d.v .hlTap m
        d.hlAsk m (.step (loopTap t) (!(d.flag .hlDir (m * 4 + t.toNat)))) 5
    else if ph = 6 then (d.hlReverse m).hlNextTap m
    else (d.hlReadyCheck m).hostReact m)

/-- HL_PARTNER_READY (R143): the partner reports receiver ready. -/
def execHlPartnerReady (m : Fin 16) (s : State) : Res :=
  let d := s.dev
  let st := d.get HL_TRAIN_STATUS_STATE m
  okDev s (
    if st = 3 then d.set HL_TRAIN_STATUS_REMOTE_RDY m 1
    else if st = 4 then (d.set HL_TRAIN_STATUS_REMOTE_RDY m 1).set HL_TRAIN_STATUS_STATE m 5
    else d)

/-- HL_WAIT_TIMER (R143): the standard's wait timer expires in LINK_READY and the lane sends data. -/
def execHlWaitTimer (m : Fin 16) (s : State) : Res :=
  let d := s.dev
  okDev s (if d.get HL_TRAIN_STATUS_STATE m = 5 then (d.set HL_TRAIN_STATUS_STATE m 6).hostReact m else d)

/-- HL_TRAIN_TIMEOUT (R146): before LINK_READY the lane enters FAIL and its training frames report not ready; the host retrain wait of
R174 starts. TMO = 0 disables the timeout. -/
def execHlTrainTimeout (m : Fin 16) (s : State) : Res :=
  let d := s.dev
  let st := d.get HL_TRAIN_STATUS_STATE m
  okDev s (
    if d.get HL_TRAIN_TMO_MS m != 0 && decide (2 ≤ st ∧ st ≤ 4) then
      let d1 := ((((d.trainOff m).set HL_TRAIN_STATUS_STATE m 7).ev HL_STATUS_TRAIN_FAIL m).count HL_TRAIN_CNT_FAILS m 1)
      ((d1.sflag .hlHoldoff m (((d1.slotOfHost m).map (fun sl => d1.on BN_PORT_CTRL_HRETRAIN sl)).getD false)).emit
        (.trainFrame m false)).hostReact m
    else d)

/-- HL_HRETRAIN_HOLDOFF (R174): HHOLDOFF after a FAIL expires and the device restarts the lane's training. -/
def execHlHretrainHoldoff (m : Fin 16) (s : State) : Res :=
  let d := s.dev
  okDev s (if d.flag .hlHoldoff m && d.get HL_TRAIN_STATUS_STATE m == 7 then
      ((d.sv .hlHoldoff m 0).trainStart m).hostReact m else d)

/-! ### Test patterns and electrical idle -/

/-- A generator starts: at the beginning of its pattern; where a PRBS begins is left open, a free value (assumption 9). -/
def Dev.patStart (d : Dev) (m : Nat) : Dev := ((d.sv .hlPatPos m 0).sv .hlPrbs m (d.freeNat (2 ^ 31) : Nat)).drew

/-- HL_PAT_GEN_WRITE (R148): the pattern replaces the symbols sent, training goes to OFF, and a hold of R44 gives way
while a generator is enabled. -/
def execHlPatGenWrite (m : Fin 16) (gen : Fin 8) (s : State) : Res :=
  let d := s.dev.set HL_PAT_GEN m gen
  let d1 := if d.genOn m then (d.trainOff m).when (s.dev.get HL_PAT_GEN m != gen.val) (fun e => e.patStart m) else d
  okDev s ((d1.hlRefresh m).hostReact m)

/-- The checker is on: CHK 1 to 3 (R149). -/
def Dev.chkOn (d : Dev) (m : Nat) : Bool :=
  let c := d.get HL_PAT_CHK m
  decide (1 ≤ c ∧ c ≤ 3)

/-- The checker begins anew: no lock, nothing received (R149). -/
def Dev.chkReset (d : Dev) (m : Nat) : Dev :=
  [Var.hlChkHist, .hlChkRun, .hlChkReg, .hlChkWin, .hlChkErr].foldl (fun e x => e.sv x m 0) (d.set HL_PAT_CHK_LOCK m 0)

/-- Symbol `i` of the user pattern (R148). -/
def Dev.userSym (d : Dev) (m i : Nat) : Nat := d.get HL_PAT_USER_SYMBOLS (4 * m + i % 64 / 16) / 4 ^ (i % 16) % 4

/-- The level code that follows a PRBS's bits, and the bits after it (R149). -/
def prbsSym (p13 : Bool) (reg : Nat) : Nat × Nat :=
  let b1 := Config.prbsNext p13 reg
  let b0 := Config.prbsNext p13 (reg * 2 + b2n b1)
  ((grayLevel b1 b0).val, (reg * 4 + 2 * b2n b1 + b2n b0) % 2 ^ 31)

/-- Bits of a symbol appended to PRBS bits. -/
def prbsPush (reg x : Nat) : Nat := (reg * 4 + (levelBits x).foldl (fun a b => 2 * a + b2n b) 0) % 2 ^ 31

/-- The bits in which two level codes differ (R76). -/
def levelErrs (x y : Nat) : Nat := (((levelBits x).zip (levelBits y)).filter (fun p => p.1 != p.2)).length

/-- The alignment at which the last 64 symbols are the user pattern, the place of the next symbol (R149). -/
def Dev.userAlign (d : Dev) (m : Nat) (hist : Nat) : Option Nat :=
  (List.range 64).find? (fun a => (List.range 64).all (fun i => hist / 4 ^ (63 - i) % 4 == d.userSym m (a + i)))

/-- A symbol reaches the unlocked checker (R149): a PRBS checker, once symbols have filled its register, predicts it from them; the user checker tries the 64
alignments; 64 agreeing in a row lock it. -/
def Dev.chkSeek (d : Dev) (m x : Nat) : Dev :=
  let c := d.get HL_PAT_CHK m
  if c = 3 then
    let hist := ((d.v .hlChkHist m).toNat * 4 + x) % 4 ^ 64
    let run := min 64 (d.v .hlChkRun m + 1)
    let d1 := (d.sv .hlChkHist m (hist : Nat)).sv .hlChkRun m run
    match d.userAlign m hist with
    | some a => if run = 64 then ((((d1.set HL_PAT_CHK_LOCK m 1).sv .hlChkReg m (a : Nat)).sv .hlChkWin m 0).sv .hlChkErr m 0) else d1
    | none => d1
  else
    let reg := (d.v .hlChkReg m).toNat
    let seen := d.v .hlChkHist m
    let seeded := decide ((if c = 2 then 7 else 16) ≤ seen)
    let run := if seeded && (prbsSym (c == 2) reg).1 == x then min 64 (d.v .hlChkRun m + 1) else 0
    let d1 := ((d.sv .hlChkReg m (prbsPush reg x : Nat)).sv .hlChkRun m run).sv .hlChkHist m (min 16 (seen + 1))
    if run = 64 then ((d1.set HL_PAT_CHK_LOCK m 1).sv .hlChkWin m 0).sv .hlChkErr m 0 else d1

/-- A symbol reaches the locked checker (R149): its bit errors count; a window of 1024 symbols with more than 128 symbol errors ends the
lock. -/
def Dev.chkCount (d : Dev) (m x : Nat) : Dev :=
  let c := d.get HL_PAT_CHK m
  let reg := (d.v .hlChkReg m).toNat
  let p : Nat × Nat := if c = 3 then (d.userSym m reg, (reg + 1) % 64) else prbsSym (c == 2) reg
  let d1 := (d.sv .hlChkReg m (p.2 : Nat)).count HL_PAT_ERR_COUNT m (levelErrs x p.1)
  let d2 := (d1.sv .hlChkErr m (d1.v .hlChkErr m + b2n (x != p.1))).sv .hlChkWin m (d1.v .hlChkWin m + 1)
  if d2.v .hlChkWin m < 1024 then d2
  else if 128 < d2.v .hlChkErr m then d2.chkReset m
  else (d2.sv .hlChkWin m 0).sv .hlChkErr m 0

/-- HL_PAT_CHECK_WINDOW (R149): the symbols that the lane has sliced since the last such command, as level codes, reach the checker after
POL_RX and RX_PRECODE (R139). -/
def execHlPatCheckWindow (m : Fin 16) (syms : List (Fin 4)) (s : State) : Res :=
  let d := s.dev
  let r := hlDecode (d.on HL_CTRL_POL_RX m) (d.on HL_CTRL_RX_PRECODE m) (d.v .hlPreRx m).toNat (syms.map (·.val))
  okDev s (
    if !(d.chkOn m) then d
    else (d.sv .hlPreRx m (r.2 : Nat)).each r.1 (fun x e => if e.on HL_PAT_CHK_LOCK m then e.chkCount m x else e.chkSeek m x))

/-- HL_CHK_RESTART (R149): clears the checker's lock and count. -/
def execHlChkRestart (m : Fin 16) (s : State) : Res :=
  okDev s ((s.dev.chkReset m).set HL_PAT_ERR_COUNT m 0)

/-- HL_TX_READY (R150): the driver is settled, TX_READY is set and sending begins, with training from SEND_TRAINING
where the lane trains (R143, R147). -/
def execHlTxReady (m : Fin 16) (s : State) : Res :=
  let d := s.dev
  okDev s (
    if d.flag .hlExit m then
      let d1 := (d.sv .hlExit m 0).set HL_STATUS_TX_READY m 1
      (if d1.trainHeld m then d1 else d1.trainStart m).hostReact m
    else d)

end Sys2Proof.Machine
end

