-- ==== Sys2Proof/Machine/Framing.lean ====
section
/-! DEFINITION. Ports, gearbox, alignment and the outer code (chapter 08, R151 to R163). -/

namespace Sys2Proof.Machine

/-- DESKEWED in a direction: every lane of the port locked, a marker measured on each, and the skew within the limit
(R155). -/
def Dev.deskewed (d : Dev) (dir : Dir) (sl : Nat) : Bool :=
  !(d.hostsOf sl).isEmpty && (d.hostsOf sl).all (fun m => d.amLock dir m) && !(d.skewOver dir sl)

/-- A marker passes host lane `m`'s stream (R154, R155): the passage, marker lock by 802.3's rules, and the delay that brings the lane to
its flow's latest lane, from which the skew follows. -/
def Dev.marker (d : Dev) (m : Nat) (dir : Dir) (sym : Nat) (locked : Bool) (lead : Nat) : Dev :=
  match (d.slotOfHost m).bind (fun sl => (d.portAt sl).map (fun p => (sl, p))) with
  | none => d
  | some (sl, p) =>
    let was := d.amLock dir m
    let d1 := ((d.sv .markSym (2 * m + dir.ix) sym).sflag .markSeen (2 * m + dir.ix) locked).sv .amDelay (2 * m + dir.ix) lead
    let skew := min (d1.skewNow dir sl) 0xFFF
    let bad := d1.skewOver dir sl
    let d2 := match dir with
      | .rx => ((((d1.setBit GBX_PSTATUS_RX_AM_LOCK sl (m % 8 - p.h0) locked).evIf (was && !locked) GBX_EVENTS_RX_AM_LOST sl).set
          GBX_SKEW_RX sl skew).evIf bad GBX_EVENTS_RX_SKEW_ERR sl)
      | .tx => ((((d1.setBit GBX_PSTATUS_TX_AM_LOCK sl (m % 8 - p.h0) locked).evIf (was && !locked) GBX_EVENTS_TX_AM_LOST sl).set
          GBX_SKEW_TX sl skew).evIf bad GBX_EVENTS_TX_SKEW_ERR sl)
    let d3 := match dir with
      | .rx => d2.put GBX_PSTATUS_RX_DESKEWED sl (d2.deskewed .rx sl)
      | .tx => d2.put GBX_PSTATUS_TX_DESKEWED sl (d2.deskewed .tx sl)
    d3.portReact sl

/-- MARKER_PASSAGE (R154). `sym` is the symbol count at which the marker's first bit passed the ball, `locked` whether
every FEC lane of the stream is locked by the rules of 802.3, `lead` how long before the marker of its flow's latest lane it arrived,
in 10 ps. -/
def execMarkerPassage (m : Fin 16) (dir : Dir) (sym : Nat) (locked : Bool) (lead : Nat) (s : State) : Res :=
  okDev s (s.dev.marker m dir sym locked lead)

/-! ### Release into the outer code -/

/-- The bits of codeword `id` of lane `n` are available at the play-out point (R159): released, and in terminating framing it and every
other inner codeword that carries bits of the RS codeword final. -/
def Dev.playable (d : Dev) (n id : Nat) (term : Bool) (others : List (Nat × Nat)) : Bool :=
  d.cws.any (fun c => c.lane == n && c.id == id && c.rel.isSome && !c.played && (!term || c.fin))
    && (!term || others.all (fun o => d.cws.all (fun c => !(c.lane == o.1 && c.id == o.2) || c.fin)))

/-- Where the gearbox returns a codeword's payload: each half to its host lane in the local lane map (R152), in L200 all of it to the one
host lane (R153); under NEAR_PARALLEL the bits are discarded before the gearbox (R177). -/
def Dev.toHosts (d : Dev) (n : Nat) (word : List Bool) : List (Nat × List Bool) :=
  let k := if d.mode n = some .l400e then 64 else if d.mode n = some .l400s then 60 else 120
  let looped := ((d.slotOfLine n).map (fun sl => decide (d.v .loopNow sl = 2))).getD false
  if looped then [] else
  (d.hostsOfLine n).zipIdx.map (fun p => (p.1, (word.drop (k * p.2)).take k))

/-- Bits of a host lane's stream that a REARM drops are taken from its front (R160). -/
def Dev.rearmCut (d : Dev) (x : Nat × List Bool) : Nat × List Bool := (x.1, x.2.drop (d.v .rearmDrop x.1).toNat)

/-- The codeword's bits leave the hold buffer (R159) and go to the host lanes' framing; a codeword whose decoding has ended is kept no
longer than its partner may still need it. -/
def Dev.playOut (d : Dev) (n sl id : Nat) : Dev :=
  match d.cws.find? (fun c => c.lane == n && c.id == id) with
  | none => d
  | some c =>
    let l := d.cws.map (fun x => if x.lane == n && x.id == id then { x with played := true } else x)
    let kept := l.filter (fun x => !(x.lane == n && x.played && x.fin)
      || l.any (fun y => y.lane == n && y.partner == some x.id && y.lsb && !y.fin))
    let hosts := d.toHosts n c.word
    let d1 := ({ d with cws := kept } : Dev).emit (.playOut n id c.word hosts)
    let d2 := d1.each hosts (fun x e => e.sv .rearmDrop x.1 (max 0 (e.v .rearmDrop x.1 - x.2.length)))
    d2.toHostsOut sl (hosts.map d.rearmCut)

/-- A latency step of transparent framing (R160): P rises to D × 72 and the host lanes of the late codeword's line lane carry fill for the
missing dpclk. -/
def Dev.llStep (d : Dev) (n sl : Nat) : Dev :=
  let miss := d.ofsMax sl - d.get GBX_LL_OFS_NOW sl
  if miss = 0 then d else
  ((((d.sv .stepLeft n miss).set GBX_LL_OFS_NOW sl (d.ofsMax sl)).ev GBX_EVENTS_LL_STEP sl).count GBX_LL_CNT_STALLS sl 1).fillRefresh sl

/-- Idle blocks are inserted while the RS codeword is not available (R161): `ins` blocks that take `grow` lane dpclk, as many as keep P
within D × 72; a frame in progress is ended with an error block. The episode lasts until every line lane that waits plays out. -/
def Dev.insIdle (d : Dev) (n sl ins grow : Nat) : Dev :=
  let room := d.ofsMax sl - d.get GBX_LL_OFS_NOW sl
  let k := if grow = 0 then ins else min ins (room * ins / grow)
  if k = 0 then d else
  let episode := (d.linesOf sl).any (fun x => d.flag .insEpisode x)
  let d1 := (d.count GBX_LL_CNT_STALLS sl (b2n (!episode))).sv .insEpisode n 1
  let d2 := if d1.flag .frameOn (2 * sl) then
      ((d1.count GBX_LL_CNT_CUTS sl 1).sv .frameOn (2 * sl) 0).emit (.blocks sl .rx .error 1) else d1
  ((d2.count GBX_LL_BLK_INS sl k).set GBX_LL_OFS_NOW sl (d2.get GBX_LL_OFS_NOW sl + k * grow / ins)).emit (.blocks sl .rx .idle k)

/-- Idle blocks are deleted from inter-frame gaps while P exceeds OFS (R161): `del` blocks that give back `shrink` lane dpclk, as many as
leave P at OFS or above. -/
def Dev.delIdle (d : Dev) (sl del shrink : Nat) : Dev :=
  let excess := d.get GBX_LL_OFS_NOW sl - d.ofsEff sl
  if excess = 0 then d else
  let k := if shrink = 0 then del else min del (excess * del / shrink)
  if k = 0 then d
  else (d.count GBX_LL_BLK_DEL sl k).set GBX_LL_OFS_NOW sl (d.get GBX_LL_OFS_NOW sl - k * shrink / del)

/-- The play-out point of a codeword (R159 to R161); an L100 lane has none (R167). -/
def Dev.playout (d : Dev) (n id : Nat) (others : List (Nat × Nat)) (ins grow del shrink : Nat) (frame : Bool) : Dev :=
  match (d.slotOfLine n).bind (fun sl => (d.portAt sl).map (fun p => (sl, p))) with
  | none => d
  | some (sl, p) =>
    if d.playable n id p.term others then
      let d1 := ((d.sflag .frameOn (2 * sl) frame).sv .insEpisode n 0).playOut n sl id
      if p.term && portEarly p then d1.delIdle sl del shrink else d1
    else if !portEarly p then d
    else if p.term then d.insIdle n sl ins grow
    else d.llStep n sl

/-- PLAYOUT_DUE (R159). `id` is the lane's codeword whose play-out point arrives, `others` the inner codewords, by lane and number, that
carry further bits of the RS codeword it completes; where that is not available in terminating framing, `ins` idle blocks of `grow`
lane dpclk are due; where it is, `del` blocks of `shrink` dpclk stand in gaps that may give up one each; `frame`: a frame is in
progress there. -/
def execPlayoutDue (n : Fin 8) (id : Nat) (others : List (Nat × Nat)) (ins grow del shrink : Nat) (frame : Bool) (s : State) : Res :=
  okDev s (s.dev.playout n id others ins grow del shrink frame)

/-- Bits of a host lane's stream in `k` lane dpclk of a mode, in whole symbols (R152). -/
def dpclkBits (md : LineMode) (k : Nat) : Nat := k * hostBitsPerPip md / 144 * 2

/-- GBX_REARM (R160): P returns to OFS and the bits of the next P - OFS lane dpclk are dropped, in transparent low-latency framing with
the port UP and P other than OFS. -/
def execGbxRearm (sl : Fin 8) (s : State) : Res :=
  let d := s.dev
  okDev s (match d.portAt sl with
    | none => d
    | some p =>
      let gap := d.get GBX_LL_OFS_NOW sl - d.ofsEff sl
      if portEarly p && !p.term && d.on BN_PORT_STATUS_RX_UP sl && d.get GBX_LL_OFS_NOW sl != d.ofsEff sl
      then (d.set GBX_LL_OFS_NOW sl (d.ofsEff sl)).each (d.hostsOf sl) (fun m e => e.sv .rearmDrop m (dpclkBits p.mode gap))
      else d)

/-- An RS(544,514) codeword of a direction is decoded (R157, R158): counted in terminating framing, or by the monitor
in transparent framing; an uncorrectable one sets its event, and in terminating framing its blocks are marked in error. -/
def Dev.rsCodeword (d : Dev) (sl : Nat) (dir : Dir) (corrected : Nat) (bad frame : Bool) : Dev :=
  match d.portAt sl with
  | none => d
  | some p =>
    if p.term || d.on PCS_CTRL_MON_EN sl then
      let d1 := if p.term then (d.sflag .frameOn (2 * sl + dir.ix) frame).sflag .outerBad (2 * sl + dir.ix) bad else d
      match dir with
      | .rx => (((d1.count PCS_RX_CW_COUNT sl 1).count PCS_RX_SYM_COUNT sl (if bad then 0 else corrected)).count
          PCS_RX_UNC_COUNT sl (b2n bad)).evIf bad PCS_STATUS_RX_UNC_EV sl
      | .tx => (((d1.count PCS_TX_CW_COUNT sl 1).count PCS_TX_SYM_COUNT sl (if bad then 0 else corrected)).count
          PCS_TX_UNC_COUNT sl (b2n bad)).evIf bad PCS_STATUS_TX_UNC_EV sl
    else d

/-- RS_CODEWORD_DECODE (R157, R158): an uncorrectable codeword also raises the OUTER_UNC trigger event of the port (R245).
`frame`: a frame is in progress behind it in terminating framing; `ago`: how long before the active timescale's present value its first
bit passed the ingress ball, in 2^-16 ns. -/
def execRsCodewordDecode (sl : Fin 8) (dir : Dir) (corrected ago : Nat) (bad frame : Bool) (s : State) : Res :=
  let d := s.dev.rsCodeword sl dir corrected bad frame
  let mon := (s.dev.portAt sl).isSome && (s.dev.term sl || s.dev.on PCS_CTRL_MON_EN sl)
  okDev s (d.when (bad && mon) (fun e => e.raise (40 + ((s.dev.portAt sl).map (·.num)).getD 0) (e.actTime - (ago : Nat))))

/-- FILL_END (R163): every cause has cleared (a latency step's fill ends here) and fill ends at the next symbol, or in
terminating framing at the next frame start once the lanes are deskewed. -/
def execFillEnd (sl : Fin 8) (dir : Dir) (s : State) : Res :=
  let d := s.dev
  let d1 := match dir with | .rx => d.each (d.linesOf sl) (fun n e => e.sv .stepLeft n 0) | .tx => d
  let desk := match dir with
    | .rx => d1.on GBX_PSTATUS_RX_DESKEWED sl
    | .tx => d1.on GBX_PSTATUS_TX_DESKEWED sl
  okDev s (
    if d1.fillCause dir sl || (d1.term sl && !desk) then d1.fillRefresh sl
    else (d1.each (d1.hostsOf sl) (fun m e => e.sv .fillRun (2 * m + dir.ix) 0)).put
      (match dir with | .rx => GBX_PSTATUS_RX_FILL | .tx => GBX_PSTATUS_TX_FILL) sl false)

end Sys2Proof.Machine
end

