-- ==== Sys2Proof/Machine/LinkCtl.lean ====
section
/-! DEFINITION. Link acquisition, monitoring and loopbacks (chapter 09, R168 to R178). -/

namespace Sys2Proof.Machine

/-- LANE_ENABLE (R168): a write of 1 to EN; dropped for a lane in no port. -/
def execLaneEnable (n : Fin 8) (s : State) : Res := okDev s ((s.dev.laneEnable n).laneReact n)

/-- LANE_DISABLE (R168): a write of 0 to EN; during a foreground calibration it waits (R57). -/
def execLaneDisable (n : Fin 8) (s : State) : Res :=
  let d := s.dev
  okDev s (if d.on LL_ADC_STATUS_FG_BUSY n then d.sv .fgDisable n 1 else d.laneDisable n)

/-- LINK_STATE_UP (R169): the lane moves up by one state when its exit condition holds. -/
def execLinkStateUp (n : Fin 8) (s : State) : Res :=
  let d := s.dev
  let st := d.get BN_LINK_STATUS_STATE n
  okDev s (if d.upWhen n st then (d.enterState n (st + 1)).laneReact n else d)

/-- A timeout's retrain policy (R174): a further attempt, giving up, or with RETRAIN = OFF nothing. -/
def Dev.onTimeout (d : Dev) (n : Nat) : Dev :=
  if !(d.on BN_LINK_CTRL_RETRAIN n) then d.sv .lkTimer n 0
  else if max 1 (d.get BN_LINK_CTRL_RETRY_MAX n) ≤ d.get BN_LINK_STATUS_ATTEMPTS n then
    ((((d.enterState n stDOWN).sv .lkTimer n 0).set BN_LINK_STATUS_STOPPED n 1).ev BN_LINK_STATUS_GAVE_UP_EV n).laneReact n
  else d.retrain n (d.get BN_LINK_STATUS_ATTEMPTS n + 1)

/-- LINK_STATE_TIMEOUT (R172): the timer of SIGNAL, EQ_ACQ or FRAME_LOCK expires; a state whose exit condition holds is
left upward instead (R23). -/
def execLinkStateTimeout (n : Fin 8) (s : State) : Res :=
  let d := s.dev
  let st := d.get BN_LINK_STATUS_STATE n
  okDev s (
    if !(d.flag .lkTimer n) || !(st == 1 || st == 3 || st == 4) then d
    else if d.upWhen n st then (d.enterState n (st + 1)).laneReact n
    else ((d.ev BN_LINK_STATUS_TMO_EV n).set BN_LINK_STATUS_TMO_STATE n st).onTimeout n)

/-- GAIN_TIMEOUT (R170): T_GAIN expires in CDR_LOCK and the lane enters EQ_ACQ, with GAIN_TMO unless the gain has just
settled (R23). -/
def execGainTimeout (n : Fin 8) (s : State) : Res :=
  let d := s.dev
  okDev s (
    if d.flag .lkTimer n && d.get BN_LINK_STATUS_STATE n == stCDRLOCK then
      ((d.evIf (!(d.gainSettled n)) BN_LINK_STATUS_GAIN_TMO n).enterState n stEQACQ).laneReact n
    else d)

/-- RETRAIN_HOLDOFF_END (R174): the wait at DOWN ends and the lane may climb. -/
def execRetrainHoldoffEnd (n : Fin 8) (s : State) : Res := okDev s (s.dev.sv .lkHoldoff n 0)

/-- RETRAIN_NOW (R174): clears ATTEMPTS and STOPPED and starts attempt 1; dropped while EN = 0. -/
def execRetrainNow (n : Fin 8) (s : State) : Res :=
  let d := s.dev
  okDev s (if d.on BN_LINK_CTRL_EN n then ((d.set BN_LINK_STATUS_ATTEMPTS n 0).set BN_LINK_STATUS_STOPPED n 0).retrain n 1 else d)

/-- LINK_STABLE_TIMER (R174): the lane has held UP for STABLE and ATTEMPTS clears. -/
def execLinkStableTimer (n : Fin 8) (s : State) : Res :=
  let d := s.dev
  okDev s (if d.flag .lkStable n then (d.set BN_LINK_STATUS_ATTEMPTS n 0).sv .lkStable n 0 else d)

/-- A loss-of-signal window ends (R173): the runs of windows whose mean, referred to 0 dB gain, is below OFF and at or above ON. LOS setting is a trigger
event (R245). -/
def Dev.losWindow (d : Dev) (n mean : Nat) : Dev :=
  let on := (d.v .losOnTh n).toNat * 256
  let off := min (d.v .losOffTh n).toNat (d.v .losOnTh n).toNat * 256
  let g := d.get LL_ADC_STATUS_GAIN_NOW n
  let below := gainExceeds g off mean
  let above := !(gainExceeds g on mean)
  let d1 := (d.sv .losOn n (if below then d.v .losOn n + 1 else 0)).sv .losOff n (if above then d.v .losOff n + 1 else 0)
  let set := below && decide (max 1 (d1.v .losAs n) ≤ d1.v .losOn n)
  let clr := above && decide (max 1 (d1.v .losDe n) ≤ d1.v .losOff n)
  let d2 := if set then ((d1.evIf (!(d1.on BN_LINK_STATUS_LOS n)) BN_LINK_STATUS_LOS_EV n).when (!(d1.on BN_LINK_STATUS_LOS n))
      (fun e => e.raise (48 + n) e.actTime)).set BN_LINK_STATUS_LOS n 1
            else if clr then d1.set BN_LINK_STATUS_LOS n 0 else d1
  (d2.losLatch n).laneReact n

/-- LOS_WINDOW_END (R173). `mean` is the window's mean of |code| in 1/256 code. The detector holds during a foreground calibration and
before READY. -/
def execLosWindowEnd (n : Fin 8) (mean : Nat) (s : State) : Res :=
  let d := s.dev
  okDev s (if d.on LL_ADC_STATUS_READY n && !(d.on LL_ADC_STATUS_FG_BUSY n) then d.losWindow n mean else d)

/-- PORT_LOOP_WRITE (R177): HRETRAIN and HHOLDOFF are stored; LOOP too, except that an empty slot keeps NONE and
rejects any other. -/
def execPortLoopWrite (sl : Fin 8) (loop : Fin 4) (hretrain : Bool) (hholdoff : Byte) (s : State) : Res :=
  let d := (s.dev.put BN_PORT_CTRL_HRETRAIN sl hretrain).set BN_PORT_CTRL_HHOLDOFF sl hholdoff.toNat
  okDev s (
    if (d.portAt sl).isSome then (d.set BN_PORT_CTRL_LOOP sl loop).sflag .loopPend sl (decide (d.v .loopNow sl ≠ (loop.val : Nat)))
    else d.evIf (decide (loop.val ≠ 0)) BN_PORT_STATUS_LOOP_REJ sl)

/-- The direction whose streams change source under a loopback (R177, R178). -/
def loopDir (l : Int) : Option Dir := if l = 1 then some .tx else if l = 2 then some .rx else if l = 3 then some .tx else none

/-- Every stream of a direction loses marker lock (R177). -/
def Dev.dropMarkers (d : Dev) (sl : Nat) : Dir → Dev
  | .rx => ((d.evIf (d.get GBX_PSTATUS_RX_AM_LOCK sl != 0) GBX_EVENTS_RX_AM_LOST sl).set GBX_PSTATUS_RX_AM_LOCK sl 0).set
      GBX_PSTATUS_RX_DESKEWED sl 0
  | .tx => ((d.evIf (d.get GBX_PSTATUS_TX_AM_LOCK sl != 0) GBX_EVENTS_TX_AM_LOST sl).set GBX_PSTATUS_TX_AM_LOCK sl 0).set
      GBX_PSTATUS_TX_DESKEWED sl 0

/-- A loopback takes effect (R177, R178): streams whose source changes lose marker lock; HOST_SERIAL holds training at
OFF; NEAR_PARALLEL ends the hold of R176. -/
def Dev.loopTake (d : Dev) (sl : Nat) : Dev :=
  let old := d.v .loopNow sl
  let new : Int := d.get BN_PORT_CTRL_LOOP sl
  let d1 := ((((d.dropLoop (d.hostsOf sl)).sv .loopPend sl 0).sv .loopNow sl new).put BN_PORT_STATUS_LOOP_ACTIVE sl (decide (new ≠ 0)))
  let d2 := match loopDir old with | some x => d1.dropMarkers sl x | none => d1
  let d3 := match loopDir new with | some x => d2.dropMarkers sl x | none => d2
  let d4 := if new = 1 then d3.each (d3.hostsOf sl) (fun m e => e.trainOff m) else d3
  let d5 := if new = 2 then (d4.sv .portHold sl 0).each (d4.hostsOf sl) (fun m e => e.hlRefresh m) else d4
  d5.portReact sl

/-- PORT_LOOP_TAKE (R177): the next receive pip boundary of the port's reference lane after a change of LOOP. -/
def execPortLoopTake (sl : Fin 8) (s : State) : Res :=
  let d := s.dev
  okDev s (if d.flag .loopPend sl then d.loopTake sl else d)

end Sys2Proof.Machine
end

