-- ==== Sys2Proof/Machine/Decoder.lean ====
section
/-! DEFINITION. The decoder pool, the reorder stage and codeword synchronisation (chapter 06, R111 to R133). -/

namespace Sys2Proof.Machine

/-! ### Arrival -/

/-- The bits of a codeword of a mode (R108, R110). -/
def codeLen : LineMode → Nat
  | .l400e => 144
  | _ => 128

/-- The interleave depth that groups a lane's arrivals: δ, and 1 in L200 (R111, R117). -/
def Dev.blockOf (d : Dev) (n : Nat) : Nat := if d.mode n = some .l200 then 1 else max 1 (d.lane n).depth

/-- Lock-loss evaluation is suspended (R115). -/
def Dev.lossHeld (d : Dev) (n : Nat) : Bool := d.on LL_CDR_STATUS_HOLDING n || d.on LL_ADC_STATUS_FG_BUSY n

/-- The soft values of pip `q` of a lane as far as the equaliser keeps them, two to a symbol of its `p` symbols (R84). -/
def Dev.pipSoft (d : Dev) (n p q : Nat) : List (Option Int) :=
  match d.eqPips.find? (fun e => e.lane == n && e.pip == q) with
  | some e => (e.soft.map some).take (2 * p) ++ List.replicate (2 * p - e.soft.length) none
  | none => List.replicate (2 * p) none

/-- `len` soft values of the lane's stream from number `t` on (R111, R117). -/
def Dev.softFrom (d : Dev) (n p t len : Nat) : List (Option Int) :=
  (((List.range (len / (2 * p) + 2)).flatMap (fun i => d.pipSoft n p (t / (2 * p) + i))).drop (t % (2 * p))).take len

/-- One soft value of the lane's stream. -/
def Dev.softAt (d : Dev) (n p t : Nat) : Int := ((d.softFrom n p t 1).headD none).getD 0

/-- Symbols in a pip of a lane. -/
def Dev.pipSyms (d : Dev) (n : Nat) : Nat := match d.mode n with | some m => symbolsPerPip m | none => 0

/-- Symbols in a block of a lane (R111). -/
def Dev.blockSyms (d : Dev) (n : Nat) : Nat :=
  d.blockOf n * (match d.mode n with | some m => codeLen m | none => 0) / 2

/-- A codeword as it arrives: its values, and the place of each in the lane's stream (R117). -/
def newWord (n id cyc maxp : Nat) (bch lsb : Bool) (partner : Option Nat) (place : List Nat) (soft : List Int) : Codeword :=
  { lane := n, id := id, arrive := cyc, bch := bch, lsb := lsb, partner := partner, soft := soft, work := soft, best := none,
    passes := 0, run := none, place := place, maxp := maxp, verify := false, fin := false, failed := false, rel := none, spec := false,
    word := [], played := false }

/-- The codewords of a block whose soft values in send order are `soft`, the first of them number `t` of the stream (R111, R112,
R117). -/
def blockWords (n base cyc t delta maxp : Nat) (bch : Bool) (soft : List Int) : List Codeword :=
  (List.range delta).map (fun w =>
    let js := (List.range (soft.length / delta)).map (fun j => j * delta + w)
    newWord n (base + w) cyc maxp bch (decide (delta ≠ 1 ∧ w % 2 = 1))
      (if delta = 1 then none else some (if w % 2 = 0 then base + w + 1 else base + w - 1))
      (js.map (fun j => t + j)) (js.map (fun j => soft.getD j 0)))

/-- The codewords of the next block of a lane that has arrived whole, none if its last soft value has not (R117); an L200 codeword is a
block of its own. -/
def Dev.nextBlock (d : Dev) (n cyc : Nat) (m : LineMode) : List Codeword :=
  let base := (d.v .cwNext n).toNat
  let maxp := d.get DEC_STATUS_MAXP_NOW n
  let t := 2 * (d.v .cwSym n).toNat
  let p := symbolsPerPip m
  if m = .l200 then
    let place := (List.range 128).map (fun j => t + Config.l200Bit (d.v .huntCand n).toNat base j)
    [newWord n base cyc maxp false false none place (place.map (d.softAt n p))]
  else
    let soft := d.softFrom n p t (2 * d.blockSyms n)
    if soft.all (fun x => x.isSome) then
      blockWords n base cyc t (d.blockOf n) maxp (decide (m = .l400e)) (soft.map (fun x => x.getD 0))
    else []

/-- A block arrives (R115, R117): its codewords enter the reorder stage, and count in the lane's window unless lock-loss
evaluation is suspended, when the window is discarded. -/
def Dev.cwArrive (d : Dev) (n cyc : Nat) : Dev :=
  match d.mode n with
  | none => d
  | some m =>
    if !(d.on DEC_STATUS_CW_LOCK n) || decide (m = .l100) then d else
    let new := d.nextBlock n cyc m
    if new = [] then d else
    let zeros := (new.filter (fun c => zeroSyndrome c.bch (hardWord c.soft))).length
    let d0 := ({ d with cws := d.cws ++ new } : Dev).sv .cwNext n (d.v .cwNext n + (new.length : Nat))
    let d1 := if m = .l200 then d0 else d0.sv .cwSym n (d0.v .cwSym n + (d.blockSyms n : Nat))
    let d2 := if d.lossHeld n then (d1.sv .lockArr n 0).sv .lockZero n 0
      else (d1.sv .lockArr n (d1.v .lockArr n + (new.length : Nat))).sv .lockZero n (d1.v .lockZero n + (zeros : Nat))
    d2.decGauges n

/-- CW_ARRIVAL (R117): the next block of the lane's soft values is complete in lane cycle `cyc` of its receive dpclk. -/
def execCwArrival (n : Fin 8) (cyc : Nat) (s : State) : Res := okDev s (s.dev.cwArrive n cyc)

/-! ### Passes -/

/-- The partner of a codeword, while the reorder stage keeps it. -/
def Dev.partnerOf (d : Dev) (c : Codeword) : Option Codeword :=
  c.partner.bind (fun p => d.cws.find? (fun x => x.lane == c.lane && x.id == p))

/-- The cycle of a codeword's deadline (R117, R129). -/
def Dev.deadline (d : Dev) (c : Codeword) : Nat := c.arrive + 72 * d.get DEC_STATUS_D_NOW c.lane

/-- A codeword may begin its next pass in a cycle (R118, R127). -/
def Dev.canPass (d : Dev) (c : Codeword) (cyc : Nat) : Bool :=
  !c.fin && c.run.isNone && decide (c.arrive < cyc)
    && !(c.verify && c.lsb && decide (cyc + 72 < d.deadline c)
      && ((d.partnerOf c).map (fun p => !p.fin)).getD false)

/-- The codeword whose pass starts next: pass 1 in arrival order first, then every later pass, oldest first (R118). -/
def Dev.nextPass (d : Dev) (n cyc : Nat) : Option Codeword :=
  let l := d.cws.filter (fun c => c.lane == n && d.canPass c cyc)
  match l.find? (fun c => c.passes == 0) with
  | some c => some c
  | none => l.head?

/-- The slots of a lane that run a pass. -/
def Dev.laneSlots (d : Dev) (n : Nat) : Nat := (d.cws.filter (fun c => c.lane == n && c.run.isSome)).length

/-- The values the next pass of a codeword uses, and its kept candidate's metric against them (R122). -/
def Dev.passValues (d : Dev) (c : Codeword) : List Int × Option (List Bool × Nat) :=
  if c.passes = 0 ∨ c.lsb = false then (c.soft, c.best) else
  match d.partnerOf c with
  | some p =>
    if p.fin then
      let v := refine (d.refineC c.lane) c.soft p.soft p.word
      (v, c.best.map (fun b => (b.1, metric v b.1)))
    else (c.soft, c.best)
  | none => (c.soft, c.best)

/-- Replace a codeword. -/
def Dev.setCw (d : Dev) (c : Codeword) : Dev :=
  { d with cws := d.cws.map (fun x => if x.lane == c.lane && x.id == c.id then c else x) }

/-- A free slot of the lane takes the next pass (R118, R122, R123). -/
def Dev.passStart (d : Dev) (n cyc : Nat) : Dev :=
  if (d.lane n).slots ≤ d.laneSlots n then d else
  match d.nextPass n cyc with
  | none => d
  | some c =>
    let v := d.passValues c
    (d.setCw { c with work := v.1, best := v.2, run := some (c.passes + 1, cyc) }).decGauges n

/-- DEC_PASS_START (R118). -/
def execDecPassStart (n : Fin 8) (cyc : Nat) (s : State) : Res := okDev s (s.dev.passStart n cyc)

/-! ### Counting -/

/-- A codeword's index within its pip: of the blocks whose first symbol lies in the pip, in order, δ to a block (R117, R248). -/
def Dev.cwIndex (d : Dev) (c : Codeword) : Nat :=
  let n := c.lane
  let s := c.place.foldl min (c.place.headD 0) / 2
  s % max 1 (d.pipSyms n) / max 1 (d.blockSyms n) * d.blockOf n + c.id % d.blockOf n

/-- The SOFT and CWSTAT units of a codeword, stamped with the ball time of its block's first symbol (R248). They are written when its
decoding has ended, which for a codeword released speculatively is its verification: before it the status is not known (DESIGN
CHOICE, assumption 90). -/
def Dev.feedCw (d : Dev) (c : Codeword) (status f : Nat) : Dev :=
  let n := c.lane
  let t := d.symTime n (c.place.foldl min (c.place.headD 0) / 2 : Nat)
  (d.feed n 3 t [softUnit c.soft c.passes status]).feed n 4 t
    [statUnit c.passes status f (reliability c.bch c.soft) ((c.best.map (·.2)).getD 255) (d.cwIndex c)]

/-- The end of a released codeword's decoding is counted: the pass counter, DEC_FAIL or DEC_DLREL, its flips and the
histogram, its status, the flips of the equaliser's estimate, and the decisions that the equaliser takes from it (R89, R97, R131,
R133). `word` is the final word. -/
def Dev.cwCount (d : Dev) (c : Codeword) (status : Nat) (word : List Bool) : Dev :=
  let n := c.lane
  let f := flips word (hardWord c.soft)
  let d1 := if status = 2 then d.count DEC_DLREL_COUNT n 1
    else if status = 1 then d.count DEC_FAIL_COUNT n 1
    else d.count DEC_PASS_COUNT (4 * n + (clampN 1 4 c.passes - 1)) 1
  let d2 := (d1.count DEC_FLIPS_COUNT n f).count DEC_FHIST_COUNT (8 * n + min 7 f) 1
  let d3 := (d2.feedCw c status f).when (d2.on LL_EQ_QCTRL_HIST_BUSY n) (fun e => (e.sv .eqFlips n (e.v .eqFlips n + (f : Nat))).sv .eqBits n
    (e.v .eqBits n + (word.length : Nat)))
  ({ d3 with finals := d3.finals ++ [{ lane := n, place := c.place, word := if status = 1 ∨ status = 2 then none else some word }] } : Dev).emit
    (.cwStatus n c.id status c.passes f)

/-- DEC_CW counts a released codeword in 64 bits, saturating (R131). -/
def Dev.cwTally (d : Dev) (n : Nat) : Dev :=
  let t := min (d.v .cwHigh n * 2 ^ 32 + (d.get DEC_CW_LO_COUNT_LO n : Nat) + 1) (2 ^ 64 - 1)
  (d.set DEC_CW_LO_COUNT_LO n (t.toNat % 2 ^ 32)).sv .cwHigh n (t / 2 ^ 32)

/-- A codeword leaves the reorder stage toward the hold buffer (R125, R131). -/
def Dev.release (d : Dev) (c : Codeword) (cyc : Nat) (word : List Bool) (final : Bool) : Dev :=
  let n := c.lane
  let d1 := (d.setCw { c with rel := some cyc, word := word, spec := !final }).cwTally n
  let same := d1.v .relCyc n == (cyc : Nat)
  let d2 := ((d1.sv .relNum n (if same then d1.v .relNum n + 1 else 1)).sv .relCyc n (cyc : Nat)).sv .pipRel n (d1.v .pipRel n + 1)
  (d2.emit (.release n c.id word final)).decGauges n

/-- The reorder stage may release one more codeword of the lane in the cycle (R125). -/
def Dev.relOk (d : Dev) (n cyc : Nat) : Bool := d.v .relCyc n != (cyc : Nat) || decide (d.v .relNum n < 16)

/-! ### Results -/

/-- How a pass ends a codeword's decoding, if it does: some true failed, some false valid (R120, R121, R123). -/
def Dev.passEnds (d : Dev) (c : Codeword) (pass : Nat) (best : Option (List Bool × Nat)) : Option Bool :=
  let n := c.lane
  if c.maxp = 0 then some best.isNone
  else if pass = 1 then
    if zeroSyndrome c.bch (hardWord c.work) then
      if d.get DEC_CTRL_REL_MIN n ≤ reliability c.bch c.work ∨ c.maxp = 1 then some false else none
    else match best with
      | some b => if b.2 ≤ d.get DEC_CTRL_ACC n ∨ c.maxp = 1 then some false else none
      | none => if c.maxp = 1 then some true else none
  else if c.verify then some best.isNone
  else match best with
    | some b => if b.2 ≤ d.get DEC_CTRL_ACC n ∨ c.maxp ≤ pass then some false else none
    | none => if c.maxp ≤ pass then some true else none

/-- The word a codeword ends with: its best candidate, or the hard word of its last pass (R121). -/
def cwWord (c : Codeword) : List Bool := match c.best with | some b => b.1 | none => hardWord c.work

/-- A verification result meets a speculatively released codeword (R127): confirmed, patched within 72 cycles of the
release, or late. -/
def Dev.verified (d : Dev) (c : Codeword) (cyc : Nat) : Dev :=
  let n := c.lane
  let w := cwWord c
  let d1 := d.setCw { c with fin := true }
  if w = c.word then d1.cwCount c 3 w
  else if cyc ≤ c.rel.getD 0 + 72 then
    (((d1.setCw { c with fin := true, word := w }).count DEC_SPEC_RES_PATCH n 1).emit (.patch n c.id w)).cwCount c 4 w
  else (d1.count DEC_SPEC_RES_LATE n 1).cwCount c 5 w

/-- A pass result reaches the reorder stage (R119 to R123, R127); after the codeword's deadline it is discarded (R23, R124). -/
def Dev.passResult (d : Dev) (n cyc id : Nat) : Dev :=
  match d.cws.find? (fun c => c.lane == n && c.id == id) with
  | none => d
  | some c =>
    match c.run with
    | none => d
    | some (pass, start) =>
      if cyc ≠ start + 6 then d
      else if d.deadline c < cyc then (d.setCw { c with run := none }).decGauges n else
      let best := if c.maxp = 0 then (codeDecode c.bch (hardWord c.work)).map (fun w => (w, metric c.work w))
        else chase c.bch pass c.work c.best
      let c1 := { c with run := none, passes := pass, best := best }
      let d1 := match d.passEnds c pass best with
        | some failed =>
          if c.rel.isSome then d.verified c1 cyc
          else d.setCw { c1 with fin := true, failed := failed, word := cwWord c1 }
        | none => d.setCw { c1 with verify := decide (pass = 1) && zeroSyndrome c.bch (hardWord c.work) }
      d1.decGauges n

/-- DEC_PASS_RESULT (R121): the result of codeword `id`, six lane cycles after the pass started. -/
def execDecPassResult (n : Fin 8) (cyc id : Nat) (s : State) : Res := okDev s (s.dev.passResult n cyc id)

/-! ### Release -/

/-- The first codeword of the lane not yet released. -/
def Dev.headCw (d : Dev) (n : Nat) : Option Codeword := d.cws.find? (fun c => c.lane == n && c.rel.isNone)

/-- Low-latency release of the lane's oldest codeword (R125, R126): final, or speculative with its zero-syndrome word. -/
def Dev.lowLatRelease (d : Dev) (n cyc : Nat) : Dev :=
  match d.headCw n with
  | none => d
  | some c =>
    if !(d.lowLat n) || !(d.relOk n cyc) then d
    else if c.fin then (d.release c cyc c.word true).cwCount c (b2n c.failed) c.word
    else if c.verify && d.on DEC_CTRL_SPEC_EN n then
      (d.release c cyc (hardWord c.soft) false).count DEC_SPEC_COUNT n 1
    else d

/-- CW_LOW_LATENCY_RELEASE (R125). -/
def execCwLowLatencyRelease (n : Fin 8) (cyc : Nat) (s : State) : Res := okDev s (s.dev.lowLatRelease n cyc)

/-- The pass results of a lane that reach the reorder stage by their codeword's deadline count before it (R23, R124). -/
def Dev.dueResults (d : Dev) (n cyc : Nat) : Dev :=
  d.each (d.cws.filter (fun c => c.lane == n)) (fun c e =>
    match c.run with
    | some (_, start) => if start + 6 ≤ d.deadline c ∧ d.deadline c ≤ cyc then e.passResult n (start + 6) c.id else e
    | none => e)

/-- A codeword's deadline has come (R124, R125, R127): released as final, or as a deadline release; a speculative one
not verified by then is final on the bits as released. -/
def Dev.cwDeadline (d : Dev) (n cyc : Nat) : Dev :=
  let dr := d.dueResults n cyc
  let d0 := match dr.cws.find? (fun c => c.lane == n && c.rel.isSome && !c.fin && decide (dr.deadline c ≤ cyc)) with
    | none => dr
    | some c => (((dr.setCw { c with fin := true, run := none }).count DEC_MISC_UNVER n 1).cwCount { c with passes := 1 } 6 c.word).decGauges n
  match d0.headCw n with
  | none => d0
  | some c =>
    if cyc < d0.deadline c || !(d0.relOk n cyc) then d0
    else if c.fin then (d0.release c cyc c.word true).cwCount c (b2n c.failed) c.word
    else
      let c1 := { c with run := none, fin := true }
      ((d0.release c1 cyc (cwWord c) true).cwCount c 2 (cwWord c)).sv .pipDl n (d0.v .pipDl n + 1)

/-- CW_DEADLINE (R124): one codeword of the lane whose deadline is cycle `cyc` or earlier. -/
def execCwDeadline (n : Fin 8) (cyc : Nat) (s : State) : Res := okDev s (s.dev.cwDeadline n cyc)

/-! ### Codeword synchronisation -/

/-- Consecutive pieces of `k` items, as many as are whole. -/
def chunks {α : Type} (k : Nat) : Nat → List α → List (List α)
  | 0, _ => []
  | c + 1, l => if l.length < k ∨ k = 0 then [] else l.take k :: chunks k c (l.drop k)

/-- How many codewords of a block in send order have zero syndrome by their hard decisions; none of a block that is not kept whole. -/
def zeroWords (bch : Bool) (delta : Nat) (block : List (Option Int)) : Nat :=
  if block.all (fun x => x.isSome) then
    ((blockWords 0 0 0 0 delta 0 bch (block.map (fun x => x.getD 0))).filter (fun c => zeroSyndrome bch (hardWord c.soft))).length
  else 0

/-- Symbols in a window of 128 codeword arrivals: the 128 / δ blocks of it (R114). -/
def Dev.windowSyms (d : Dev) (n : Nat) : Nat := 128 / d.blockOf n * d.blockSyms n

/-- What the hunter's current window shows at a candidate offset: the codewords with zero syndrome (R114). -/
def Dev.huntCount (d : Dev) (n cand : Nat) : Nat :=
  let k := d.blockSyms n
  let s := (d.v .huntSym n).toNat
  let first := s + (cand + k - s % k) % k
  let stream := d.softFrom n (d.pipSyms n) (2 * first) (2 * d.windowSyms n)
  ((chunks (2 * k) (128 / d.blockOf n) stream).map (zeroWords (decide (d.mode n = some .l400e)) (d.blockOf n))).sum

/-- The hunter's current window is complete: the soft values of every candidate have come (R114). -/
def Dev.huntReady (d : Dev) (n : Nat) : Bool :=
  let last := (d.v .huntSym n).toNat + d.windowSyms n + d.blockSyms n
  d.eqPips.any (fun e => e.lane == n && decide (last ≤ (e.pip + 1) * d.pipSyms n))

/-- A hunter window ends (R114): the first passing candidate of the group is confirmed alone, a failed group or
confirmation goes on to the next group. -/
def Dev.huntWindow (d0 : Dev) (n : Nat) : Dev :=
  let need := clampN 1 128 (d0.get DEC_LOCK_LOCK_MIN n)
  let conf := d0.get DEC_LOCK_CONFIRM n
  let total := d0.blockSyms n
  let d := d0.sv .huntSym n (d0.v .huntSym n + (d0.windowSyms n : Nat))
  let next := fun (e : Dev) =>
    let p := e.v .huntPos n + 8
    (e.sv .huntConf n 0).sv .huntPos n (if p < (total : Nat) then p else 0)
  if d.v .huntConf n = 0 then
    let pos := (d.v .huntPos n).toNat
    match (List.range (min 8 (total - pos))).find? (fun i => decide (need ≤ d0.huntCount n (pos + i))) with
    | none => next d
    | some i =>
      let d1 := d.sv .huntCand n (pos + i : Nat)
      if conf = 0 then d1.sv .cwPend n 1 else d1.sv .huntConf n 1
  else if need ≤ d0.huntCount n (d.v .huntCand n).toNat then
    if (conf : Int) ≤ d.v .huntConf n then d.sv .cwPend n 1 else d.sv .huntConf n (d.v .huntConf n + 1)
  else next d

/-- HUNT_WINDOW_END (R114, R116): a window of the hunter is complete; on an L200 lane `verdict` says that the standard's criteria
find lock. -/
def execHuntWindowEnd (n : Fin 8) (verdict : Bool) (s : State) : Res :=
  let d := s.dev
  okDev s (
    if !(d.on DEC_STATUS_HUNTING n) || d.v .cwPend n != 0 then d
    else if d.mode n = some .l200 then (if verdict then d.sv .cwPend n 1 else d)
    else if d.huntReady n then d.huntWindow n else d)

/-- LOCK_WINDOW_END (R115, R116): a window of 128 arrivals is complete; `verdict`: on an L200 lane the standard's criteria
find lock lost. -/
def execLockWindowEnd (n : Fin 8) (verdict : Bool) (s : State) : Res :=
  let d := s.dev
  okDev s (
    if !(d.on DEC_STATUS_CW_LOCK n) || d.lossHeld n then d
    else if d.mode n = some .l200 then (if verdict then d.sv .cwPend n 2 else d)
    else if d.v .lockArr n < 128 then d
    else
      let bad := decide (d.v .lockZero n < (min 128 (d.get DEC_LOCK_LOSS_MIN n) : Nat))
      let runs := if bad then d.v .lockBad n + 1 else 0
      let d1 := ((d.sv .lockArr n 0).sv .lockZero n 0).sv .lockBad n runs
      if ((max 1 (d.get DEC_LOCK_LOSS_WIN n) : Nat) : Int) ≤ runs then d1.sv .cwPend n 2 else d1)

/-- DEC_REHUNT (R115, R116): no effect on L200 and L100 lanes; a lane still hunting starts again from offset 0, and a loss of lock that
waits for the boundary stays a loss. -/
def execDecRehunt (n : Fin 8) (s : State) : Res :=
  let d := s.dev
  okDev s (if (d.mode n = some .l400e ∨ d.mode n = some .l400s) ∧ d.v .cwPend n ≠ 2 then d.sv .cwPend n 3 else d)

/-- The first symbol of the first block at the confirmed offset whose last symbol lies in pip `q` or later (R114). -/
def Dev.firstBlock (d : Dev) (n q : Nat) : Nat :=
  let c := (d.v .huntCand n).toNat
  if c = 0 then q * d.pipSyms n else q * d.pipSyms n + c - d.blockSyms n

/-- A pending change of codeword lock takes effect at the boundary that starts pip `q` (R114, R115). The blocks of an L200 lane are counted
from there, under a new number of its framing (assumption 9). -/
def Dev.lockTake (d : Dev) (n q : Nat) : Dev :=
  let p := d.v .cwPend n
  let d1 := ((d.sv .cwPend n 0).sv .lockBad n 0).sv .lockArr n 0 |>.sv .lockZero n 0
  if p = 1 then
    let d2 := (d1.set DEC_STATUS_CW_LOCK n 1).set DEC_STATUS_HUNTING n 0
    if d.mode n = some .l200 then ((d2.sv .cwSym n (q * d.pipSyms n : Nat)).sv .huntCand n (d2.freeNat (2 ^ 32) : Nat)).drew
    else d2.sv .cwSym n (d.firstBlock n q : Nat)
  else if p = 2 ∨ p = 3 then
    let lost := p == 2 && d.on DEC_STATUS_CW_LOCK n
    let d2 := ((d1.set DEC_STATUS_CW_LOCK n 0).evIf lost DEC_STATUS_CW_LOST n).count DEC_MISC_LOCK_LOSS n (b2n lost)
    if d.on LL_EQ_STATUS_CONV n then d2.huntStart n q else d2
  else d

/-- The play-out offset of a slot follows its deadline: D × 72 in fixed-latency mode, never above it in low-latency mode (R159). -/
def Dev.ofsFollow (d : Dev) (sl : Nat) : Dev :=
  match d.portAt sl with
  | none => d
  | some p => if p.mode = .l100 then d
    else d.set GBX_LL_OFS_NOW sl (if p.lowLat then min (d.get GBX_LL_OFS_NOW sl) (d.ofsMax sl) else d.ofsMax sl)

/-- D changes for the lane at the boundary, the play-out offset follows (R159), and decoder-aided updates pause for the new D + 1 pips
(R89, R129). -/
def Dev.dTake (d : Dev) (n : Nat) : Dev :=
  let v := d.v .dNext n
  if v = 0 then d else
  let d0 := ((d.sv .dNext n 0).set DEC_STATUS_D_NOW n v.toNat).set DEC_CTRL_DEADLINE n v.toNat
  let d1 := match d0.slotOfLine n with | some sl => d0.ofsFollow sl | none => d0
  if d.get DEC_STATUS_D_NOW n = v.toNat then d1
  else (d1.sv .eqDaPause n (v + 1)).sv .eqDaFrom n (max (d1.v .eqDaFrom n) (d1.v .decPip n))

/-- A codeword under a new maximum of passes `mp` after `old`; a change to or from 0 affects later arrivals only (R130). -/
def cwNewMax (c : Codeword) (n old mp : Nat) : Codeword :=
  if c.lane ≠ n ∨ c.maxp = 0 ∨ old = 0 ∨ mp = 0 then c
  else
    let c1 := { c with maxp := mp }
    if !c.fin && c.run.isNone && decide (1 ≤ c.passes ∧ mp ≤ c.passes) then
      { c1 with fin := true, failed := c.best.isNone, word := if c.rel.isSome then c.word else cwWord c }
    else c1

/-- The maximum of passes changes for the lane at the boundary (R130); a cancelled verification of a speculatively
released codeword counts as unverified. -/
def Dev.mpTake (d : Dev) (n : Nat) : Dev :=
  let v := d.v .mpNext n
  if v = 0 then d else
  let mp := (v - 1).toNat
  let old := d.get DEC_STATUS_MAXP_NOW n
  let ended := d.cws.filter (fun c => c.lane == n && c.rel.isSome && !c.fin && (cwNewMax c n old mp).fin)
  let d1 : Dev := { ((d.sv .mpNext n 0).set DEC_STATUS_MAXP_NOW n mp) with cws := d.cws.map (fun c => cwNewMax c n old mp) }
  d1.each ended (fun c e => (e.count DEC_MISC_UNVER n 1).cwCount { c with passes := 1 } 6 c.word)

/-- The end of a lane pip (R115, R118, R128 to R132): the equaliser's decoder-aided update too, from the decisions that the pip's end
completes (R89). -/
def Dev.decPipEnd (d : Dev) (n : Nat) : Dev :=
  if !(d.flag .rxGrid n) then d else
  let q := (d.v .decPip n).toNat
  let burst := d.get DEC_CTRL_DL_BURST n != 0 && decide ((d.get DEC_CTRL_DL_BURST n : Int) ≤ d.v .pipDl n)
  let unl := d.hasCode n && d.on LL_ADC_STATUS_READY n && !(d.on DEC_STATUS_CW_LOCK n) && d.v .pipRel n == 0
  let d1 := ((d.eqAided n (d.pipSyms n) q).evIf burst DEC_STATUS_DL_BURST_EV n).when burst (fun e => e.raise (32 + n) e.actTime)
  let d2 := ((d1.count DEC_UNLOCKED_COUNT n (b2n unl)).sflag .decUnl n unl).when unl (fun e => e.emit (.unlocked n))
  let d3 := (((((d2.sv .pipDl n 0).sv .pipRel n 0).sv .decPip n (q + 1 : Nat)).busyReport (n / 4)).lockTake n (q + 1))
  (((d3.dTake n).mpTake n).daFollow n (q + 1)).laneReact n

/-- DEC_PIP_END (R132). -/
def execDecPipEnd (n : Fin 8) (s : State) : Res := okDev s (s.dev.decPipEnd n)

/-! ### Limits -/

/-- DEC_DEADLINE_WRITE (R128, R129): the written D, limited to 2 to 6 and to the seed's, for every lane of the port. -/
def execDecDeadlineWrite (n : Fin 8) (v : BitVec 3) (s : State) : Res :=
  let d := s.dev
  let lim := min (clampN 2 6 v.toNat) (d.get DEC_STATUS_SEED_D n)
  let lanes := match d.slotOfLine n with | some sl => d.linesOf sl | none => []
  okDev s (
    if !(d.hasCode n) then d
    else (d.evIf (lim != v.toNat) DEC_STATUS_DL_CLAMP n).each lanes (fun k e => e.sv .dNext k (lim : Nat)))

/-- A maximum of passes reduced to the active throttle profile's (R33, R128). -/
def Dev.profMaxp (d : Dev) (n v : Nat) : Nat := match d.profLane n with | some p => min v p.maxp | none => v

/-- DEC_MAXPASS_WRITE (R128, R130): the written maximum, limited to 4 and to the seed's, and reduced by the profile. -/
def execDecMaxpassWrite (n : Fin 8) (v : BitVec 3) (s : State) : Res :=
  let d := s.dev
  let lim := min (min 4 v.toNat) (d.get DEC_STATUS_SEED_MAXP n)
  okDev s (
    if !(d.hasCode n) then d
    else ((d.evIf (lim != v.toNat) DEC_STATUS_MP_CLAMP n).set DEC_CTRL_MAXPASS n lim).sv .mpNext n ((d.profMaxp n lim : Nat) + 1))

end Sys2Proof.Machine
end

