-- ==== Sys2Proof/Machine/Sideband.lean ====
section
/-! DEFINITION. The sideband chain (chapter 10, R180 to R195). Samples are integers in Q1.23. A first-stage output
carries the ball time of its last symbol, from which the stamps follow by the group delays of R187 and R192, whole numbers of UI. -/

namespace Sys2Proof.Machine

/-! ### The first stage -/

/-- Number of ways to choose 3 of m. -/
def choose3 (m : Nat) : Nat := m * (m - 1) * (m - 2) / 6

/-- Weight of the sample `i` places back in the response of four boxcars of 1024 (R180). -/
def cicWeight (i : Nat) : Int :=
  let c := fun (j : Nat) => if j * 1024 ≤ i then (choose3 (i - j * 1024 + 3) : Int) else 0
  c 0 - 4 * c 1 + 6 * c 2 - 4 * c 3 + c 4

/-- The first-stage output over the newest 4093 codes, newest first (R180, R181). -/
def cicOut (codes : List Int) : Int :=
  satW 24 (rdiv ((codes.take 4093).zipIdx.foldl (fun a c => a + c.1 * cicWeight c.2) 0) (2 ^ 24))

/-- The chain state of a lane. -/
def Dev.sbOf (d : Dev) (n : Nat) : Option SbLane := d.sb.find? (fun e => e.lane == n)

/-- Replace the chain state of a lane. -/
def Dev.setSb (d : Dev) (e : SbLane) : Dev := { d with sb := d.sb.map (fun x => if x.lane == e.lane then e else x) }

/-- The first stage takes 1024 codes, oldest first, and gives an output (R180, R190). -/
def sbFirst (e : SbLane) (codes : List Int) (ball : Int) : SbLane :=
  let old := if e.cicFill then List.replicate 3069 (codes.headD 0) else e.cic
  let all := codes.reverse ++ old
  { e with cic := all.take 3069, cicFill := false, sync := false, change := false,
           wait := e.wait ++ [{ value := cicOut all, ball := ball, sync := e.sync, change := e.change }] }

/-- SB_FIRST_STAGE_OUTPUT (R180): the ball's differential input in nanovolts at the lane's next 1024 symbols, oldest first, as the slices
present them; the last of them passed the ball `ago` 2^-16 ns before the active timescale's present value. Before 1024 symbols there is no
output. -/
def execSbFirstStageOutput (n : Fin 8) (ago : Nat) (volts : List Int) (s : State) : Res :=
  let d := s.dev
  okDev s (match d.sbOf n with
    | none => d
    | some e => if volts.length = 1024 then d.setSb (sbFirst e (d.adcCodes n volts) (d.actTime - (ago : Nat))) else d)

/-! ### The engine -/

/-- Length K of the rank filter of a code of SB_STAGES.RANK, 0 for off. -/
def rankLen (c : Nat) : Nat := if c = 0 then 0 else 2 * c + 1

/-- Insert in ascending order. -/
def ordInsert (x : Int) : List Int → List Int
  | [] => [x]
  | y :: l => if x ≤ y then x :: y :: l else y :: ordInsert x l

/-- The median of an odd number of values. -/
def median (l : List Int) : Int := (l.foldl (fun a x => ordInsert x a) []).getD (l.length / 2) 0

/-- A stage's output: num / den × 2^(8 - SHIFT), rounded and saturated to Q1.23, and whether it saturated (R181). -/
def sbShiftOut (shift : Nat) (num : Int) (den : Nat) : Int × Bool :=
  let r := rdiv (num * 256) (den * 2 ^ shift)
  (satW 24 r, satW 24 r != r)

/-- The tainted-output count S of a stage list (R193). -/
def settleCount (rank hb : Nat) (fir : Bool) : Nat :=
  let t0 := 3 + (rankLen rank - 1)
  let t1 := (List.range hb).foldl (fun t _ => (t + 46) / 2) t0
  t1 + if fir then 63 else 0

/-- Group delay of the fine output in UI (R192). -/
def fineDelay (rank hb : Nat) (fir : Bool) : Nat :=
  2046 + (rankLen rank - 1) * 512 + 23 * (2 ^ hb - 1) * 1024 + if fir then 32256 * 2 ^ hb else 0

/-- Group delay of the fast output in UI, for blocks of `b` (R187). -/
def fastDelay (b : Nat) : Nat := 2046 + (b - 1) * 512

/-- A running pass of one sample through the stages: lane state, value, saturations, whether a value goes on. -/
structure SbRun where
  st   : SbLane
  x    : Int
  sats : Nat
  live : Bool

/-- Record a stage's output. -/
def SbRun.put (r : SbRun) (st : SbLane) (o : Int × Bool) : SbRun :=
  { st := st, x := o.1, sats := r.sats + b2n o.2, live := true }

/-- The history of a stage with a new input, filled with it at a hold-fill (R190). -/
def pushHist (fill : Bool) (len : Nat) (x : Int) (h : List Int) : List Int :=
  if fill then List.replicate len x else (x :: h).take len

/-- The stage `i` is still to be filled by its next input. -/
def sbFills (e : SbLane) (i : Nat) : Bool := e.hold.getD i false

/-- The stage `i` has had an input. -/
def sbFilled (e : SbLane) (i : Nat) : SbLane := { e with hold := e.hold.set i false }

/-- Stage 1: the rank filter (R183). -/
def Dev.sbRank (d : Dev) (n : Nat) (r : SbRun) : SbRun :=
  let k := rankLen (d.get SB_STAGES_RANK n)
  if k = 0 then r else
  let h := pushHist (sbFills r.st 0) k r.x r.st.rank
  r.put { sbFilled r.st 0 with rank := h } (sbShiftOut (d.v .sbShift (7 * n)).toNat (median h) 1)

/-- Tap `i` of the 47 of the half-band filter, in 2^-32 (R184): one half at the centre, 0 at every other even distance from it, the same
at equal distances, and a sum of one. The taps at odd distances from 3 on are left to `Config.halfBand`; passband and stopband do
not follow from this form (assumption 9). -/
def halfTap (i : Nat) : Int :=
  let o := ((i : Int) - 23).natAbs
  if o = 0 then 2 ^ 31
  else if o % 2 = 0 then 0
  else if o = 1 then 2 ^ 30 - ((List.range 11).map (fun j => Config.halfBand (j + 1))).sum
  else Config.halfBand (o / 2)

/-- Stages 2 to 5: the half-band decimator `i` (R184). Its output comes with the second of each two inputs. -/
def Dev.sbHalf (d : Dev) (n : Nat) (r : SbRun) (i : Nat) : SbRun :=
  if r.live = false ∨ d.get SB_STAGES_HB n ≤ i then r else
  let fill := sbFills r.st (1 + i)
  let h := pushHist fill 47 r.x (r.st.hb.getD i [])
  let ph := if fill then 0 else r.st.phase.getD i 0
  let st := { sbFilled r.st (1 + i) with hb := r.st.hb.set i h, phase := r.st.phase.set i (1 - ph) }
  if ph = 0 then { r with st := st, live := false }
  else r.put st (sbShiftOut (d.v .sbShift (7 * n + 1 + i)).toNat
    (h.zipIdx.foldl (fun a e => a + e.1 * halfTap e.2) 0) (2 ^ 32))

/-- Stage 6: the FIR (R183). -/
def Dev.sbFir (d : Dev) (n : Nat) (r : SbRun) : SbRun :=
  if r.live = false ∨ d.on SB_STAGES_FIR_EN n = false then r else
  let h := pushHist (sbFills r.st 5) 64 r.x r.st.fir
  r.put { sbFilled r.st 5 with fir := h } (sbShiftOut (d.v .sbShift (7 * n + 5)).toNat
    (h.zipIdx.foldl (fun a e => a + e.1 * d.v .sbCoef (64 * n + e.2)) 0) (2 ^ 14))

/-- Stage 7: the DC blocker (R186, R190). -/
def Dev.sbDc (d : Dev) (n : Nat) (r : SbRun) : SbRun :=
  if r.live = false ∨ d.on SB_STAGES_DC_EN n = false then r else
  let e := if sbFills r.st 6 then r.x * 2 ^ 24 else r.st.dc
  let diff := r.x * 2 ^ 24 - e
  let k := clampN 4 20 (d.v .sbK n).toNat
  let e' := if d.on SB_DC_FRZ n then e else e + rdiv diff (2 ^ k)
  r.put { sbFilled r.st 6 with dc := e' } (sbShiftOut (d.v .sbShift (7 * n + 6)).toNat diff (2 ^ 24))

/-- The pending values of a lane are taken (R185); a new DC blocker corner is held against the Sloe receiver's needs (R209). -/
def Dev.sbTake (d : Dev) (n : Nat) : Dev :=
  if d.on SB_LSTATUS_APPLY_PEND n then
    let d1 := d.each (List.range 64) (fun k e => e.sv .sbCoef (64 * n + k) (d.v .sbCoefP (64 * n + k)))
    let d2 := d1.each [(SB_SHIFT_RANK, 0), (SB_SHIFT_HB1, 1), (SB_SHIFT_HB2, 2), (SB_SHIFT_HB3, 3), (SB_SHIFT_HB4, 4), (SB_SHIFT_FIR, 5), (SB_SHIFT_DC, 6)]
      (fun f e => e.sv .sbShift (7 * n + f.2) (d.get f.1 n : Nat))
    let d3 := (d2.sv .sbK n (d.get SB_DC_K n : Nat)).set SB_LSTATUS_APPLY_PEND n 0
    d3.when (d.v .sbK n != (d.get SB_DC_K n : Nat)) (fun e => e.sloeRefresh n)
  else d

/-- The next input of the engine gives a fine output: every half-band stage of the lane stands at its second input. -/
def Dev.sbGives (d : Dev) (n : Nat) (e : SbLane) : Bool :=
  (List.range (d.get SB_STAGES_HB n)).all (fun i => e.phase.getD i 0 == 1 && !(sbFills e (1 + i)))

/-- The noise-floor monitor takes a fine output (R195): sub-blocks of 2^NF_SUB, those with a SETTLING output not counted, the lowest
mean of each 16. Means are in 2^-58, over 2^12 outputs. -/
def sbNoise (e : SbLane) (sub : Nat) (x : Int) (settling : Bool) : SbLane :=
  let sum := e.nfSum + (x * x).toNat
  let bad := e.nfBad || settling
  if e.nfCnt + 1 < 2 ^ sub then { e with nfSum := sum, nfCnt := e.nfCnt + 1, nfBad := bad }
  else if bad then { e with nfSum := 0, nfCnt := 0, nfBad := false }
  else
    let m := sum * 2 ^ (12 - sub)
    let low := match e.nfMin with | none => m | some o => min o m
    if e.nfBlks + 1 < 16 then { e with nfSum := 0, nfCnt := 0, nfBad := false, nfMin := some low, nfBlks := e.nfBlks + 1 }
    else { e with nfSum := 0, nfCnt := 0, nfBad := false, nfMin := none, nfBlks := 0, nfDone := some low }

/-- The power monitor takes a fast output (R194): windows of 2^PWR_WIN outputs. -/
def sbPower (e : SbLane) (win : Nat) (y : Int) : SbLane :=
  let sum := e.pwrSum + (y * y).toNat
  if e.pwrCnt + 1 < 2 ^ win then { e with pwrSum := sum, pwrCnt := e.pwrCnt + 1 }
  else { e with pwrSum := 0, pwrCnt := 0, pwrDone := some (sum, e.pwrCnt + 1) }

/-- A fine output goes to its consumers with its stamp (R188, R190, R195). -/
def Dev.sbFine (d : Dev) (n : Nat) (e : SbLane) (x : Int) (ball : Int) : Dev :=
  let left := d.get SB_LSTATUS_SETTLE_LEFT n
  let settling := left != 0
  let stamp := ball - d.uiTime n (fineDelay (d.get SB_STAGES_RANK n) (d.get SB_STAGES_HB n) (d.on SB_STAGES_FIR_EN n) : Nat)
  let e1 := sbNoise e (clampN 4 12 (d.get SB_MON_NF_SUB n)) x settling
  (((d.setSb { e1 with sat := false }).set SB_LSTATUS_SETTLE_LEFT n (left - 1)).emit (.fine n x e.sat settling stamp)).feed n 5 stamp
    [sbUnit x e.sat settling]

/-- The fast path takes a first-stage output (R187, R194). -/
def Dev.sbFast (d : Dev) (n : Nat) (w : SbIn) : Dev :=
  match d.sbOf n with
  | none => d
  | some e0 =>
    let e := if w.sync then { e0 with fastCnt := 0, fastSum := 0 } else e0
    let len := if e.fastCnt = 0 then 2 ^ min 10 (d.get SB_FAST_LOG2 n) else e.fastLen
    let sum := e.fastSum + w.value
    if e.fastCnt + 1 < len then d.setSb { e with fastLen := len, fastSum := sum, fastCnt := e.fastCnt + 1 }
    else
      let y := rdiv sum len
      let stamp := w.ball - d.uiTime n (fastDelay len : Nat)
      let e1 := { e with fastLen := len, fastSum := 0, fastCnt := 0 }
      ((d.setSb (sbPower e1 (clampN 4 16 (d.get SB_MON_PWR_WIN n)) y)).emit (.fast n y stamp)).feed n 6 stamp [sbUnit y false false]

/-- The stages before a first-stage output (R185, R190, R191): with a SYNC, a start or a changed stage list every stage is to be filled
and the settling run begins; the pending values are taken at an input that gives a fine output, and at a changed list's. -/
def Dev.sbReady (d : Dev) (n : Nat) (e : SbLane) (w : SbIn) : Dev × SbLane :=
  let fill := w.sync || w.change
  let e1 := if fill then { e with hold := List.replicate 7 true } else e
  let d1 := if fill then d.set SB_LSTATUS_SETTLE_LEFT n
      (settleCount (d.get SB_STAGES_RANK n) (d.get SB_STAGES_HB n) (d.on SB_STAGES_FIR_EN n)) else d
  (if w.change || d.sbGives n e1 then d1.sbTake n else d1, e1)

/-- The engine processes one first-stage output of a lane (R182, R183, R190). -/
def Dev.sbSample (d : Dev) (n : Nat) (w : SbIn) : Dev :=
  match d.sbOf n with
  | none => d
  | some e0 =>
    let (d0, e1) := d.sbReady n e0 w
    let r0 : SbRun := { st := e1, x := w.value, sats := 0, live := true }
    let r := d0.sbDc n (d0.sbFir n ((List.range 4).foldl (fun r i => d0.sbHalf n r i) (d0.sbRank n r0)))
    let e := { r.st with sat := r.st.sat || decide (0 < r.sats) }
    let d1 := ((d0.setSb e).count SB_SAT_COUNT n r.sats).evIf (decide (0 < r.sats)) SB_LSTATUS_SAT_EV n
    (if r.live then d1.sbFine n e r.x w.ball else d1).sbFast n w

/-- SB_ENGINE_VISIT (R182): every first-stage output of the lane that waits, at most 8. -/
def execSbEngineVisit (n : Fin 8) (s : State) : Res :=
  let d := s.dev
  okDev s (match d.sbOf n with
    | none => d
    | some e => (d.setSb { e with wait := e.wait.drop 8 }).each (e.wait.take 8) (fun w x => x.sbSample n w))

/-! ### SYNC -/

/-- A SYNC of every READY lane (R189, R190): decimation phase and histories restart, ALIGNED is set. -/
def Dev.sbSync (d : Dev) : Dev :=
  let ready := (List.range 8).filter (fun n => d.on LL_ADC_STATUS_READY n)
  let d1 : Dev := { d with sb := d.sb.map (fun e => { e with cicFill := true, sync := true }) }
  ((d1.set SB_STATUS_ALIGNED 0 0).each ready (fun n e => e.setBit SB_STATUS_ALIGNED 0 n true)).ev SB_STATUS_SYNC_EV 0

/-- SB_SYNC_WRITE (R189). -/
def execSbSyncWrite (s : State) : Res := okDev s s.dev.sbSync

/-- SB_FIR_APPLY (R185): the pending values wait for the lane's next fine output. -/
def execSbFirApply (n : Fin 8) (s : State) : Res := okDev s (s.dev.set SB_LSTATUS_APPLY_PEND n 1)

/-- A write of the selected pending coefficient, and INDEX's advance (R185, SB_FIR_SEL). -/
def Dev.sbCoefNext (d : Dev) (n : Nat) : Dev :=
  if d.on SB_FIR_SEL_AUTO_INC n then d.set SB_FIR_SEL_INDEX n (d.get SB_FIR_SEL_INDEX n + 1) else d

/-! ### Monitors -/

/-- 10 log10(mean / 0.5) in 0.1 dB of a mean square num / den in full-scale units; -200.0 for zero (R194). -/
def dbfs (num den : Nat) : Int :=
  if num = 0 then -2000 else (dbRound (2 * num * 10 ^ 20, den) 2030 : Int) - 2000

/-- SB_POWER_WINDOW (R194): the window of 2^PWR_WIN fast outputs that was completed is reported. -/
def execSbPowerWindow (n : Fin 8) (s : State) : Res :=
  let d := s.dev
  okDev s (match d.sbOf n with
    | none => d
    | some e =>
      match e.pwrDone with
      | none => d
      | some (sum, cnt) => (d.setSb { e with pwrDone := none }).seti SB_PWR_DBFS n (dbfs sum (cnt * 2 ^ 46)))

/-- SB_NF_REPORT (R195): the lowest mean of the 16 sub-blocks that have been counted is reported. -/
def execSbNfReport (n : Fin 8) (s : State) : Res :=
  let d := s.dev
  okDev s (match d.sbOf n with
    | none => d
    | some e =>
      match e.nfDone with
      | none => d
      | some m => (d.setSb { e with nfDone := none }).seti SB_NF_DBFS n (dbfs m (2 ^ 58)))

end Sys2Proof.Machine
end

