-- ==== Sys2Proof/Machine/Time.lean ====
section
/-! DEFINITION. Time domains, the servo, stamps, the stamp queue and the time-pulse outputs (chapter 12, R223 to R241), and
the PTP rewriter (R164 to R166, R235 to R237). A time is an integer count of 2^-16 ns; the counters are held in 1/tUnit of
that, a unit in which a tclk's advance and the slew are whole. -/

namespace Sys2Proof.Machine

/-- 2^-16 ns in a second. -/
def tSec : Int := 65536000000000

/-- The wrap of S in 2^-16 ns (R223). -/
def tWrapAt : Int := tSec * 2 ^ 48

/-- A domain's time in 2^-16 ns (R223). -/
def Dev.time (d : Dev) (k : Nat) : Int := d.v .tDom k / tUnit

/-- The layout of R223 of a time in 2^-16 ns: S, NS and FRAC in 94 bits; a time before 0 or past the wrap is one of the other round. -/
def timeBits (t : Int) : Nat :=
  let u := (t % tWrapAt).toNat
  let s := u / tSec.toNat
  let r := u % tSec.toNat
  (s % 2 ^ 48) * 2 ^ 46 + (r / 65536) * 2 ^ 16 + r % 65536

/-- The time a 94-bit layout gives; an NS above 999,999,999 acts as 999,999,999 (R223). -/
def bitsTime (w : Nat) : Int :=
  let ns := min (w / 2 ^ 16 % 2 ^ 30) 999999999
  (w / 2 ^ 46 % 2 ^ 48 : Nat) * tSec + (ns * 65536 + w % 65536 : Nat)

/-- The 96 bits held in three registers of 32. -/
def Dev.wide (d : Dev) (f : Fld) (base : Nat) : Nat := d.get f base + d.get f (base + 1) * 2 ^ 32 + d.get f (base + 2) * 2 ^ 64

/-- Put 96 bits into three registers of 32. -/
def Dev.setWide (d : Dev) (f : Fld) (base w : Nat) : Dev :=
  ((d.set f base w).set f (base + 1) (w / 2 ^ 32)).set f (base + 2) (w / 2 ^ 64)

/-- The signed 64-bit value of a low and a high register. -/
def Dev.wide64 (d : Dev) (lo hi : Fld) (n : Nat) : Int := sext 64 (d.get lo n + d.get hi n * 2 ^ 32)

/-- The time of a timescale code of TIME_PCFG.DOM (R235): 1 domain 0, 2 domain 1, else active. -/
def Dev.scale (d : Dev) (c : Nat) : Int := if c = 1 then d.time 0 else if c = 2 then d.time 1 else d.actTime

/-- The timescale of a code is valid; the active one is as valid as its target (R225). -/
def Dev.scaleOk (d : Dev) (c : Nat) : Bool :=
  d.on TIME_DSTAT_VALID (if c = 1 then 0 else if c = 2 then 1 else d.get TIME_CTRL_ACTIVE 0)

/-! ### The active timescale -/

/-- Target minus active timescale, in counter units (R226). -/
def Dev.actRem (d : Dev) : Int := d.v .tDom (d.get TIME_CTRL_ACTIVE 0) - d.v .tAct 0

/-- 0.8 ns in counter units. -/
def tTick : Int := 262144 * 15625 * 2 ^ 40

/-- The active timescale takes its target's value (R226). -/
def Dev.actJoin (d : Dev) : Dev :=
  ((d.sv .tAct 0 (d.v .tDom (d.get TIME_CTRL_ACTIVE 0))).set TIME_STATUS_SLEWING 0 0).ev TIME_STATUS_SWITCH_EV 0

/-! ### Pulse outputs -/

/-- The timescale code of an output: 0 domain 0, 1 domain 1, else active (R240). -/
def Dev.tpoTime (d : Dev) (k : Nat) : Int :=
  let c := d.get TIME_TPO_CTRL_DOM k
  if c = 0 then d.time 0 else if c = 1 then d.time 1 else d.actTime

/-- PERIOD of an output in 2^-16 ns; 0 acts as 1 ns. -/
def Dev.tpoPeriod (d : Dev) (k : Nat) : Int := (max 1 (d.get TIME_TPO_PERIOD_NS k) : Nat) * 65536

/-- START of an output. -/
def Dev.tpoStart (d : Dev) (k : Nat) : Int := bitsTime (d.wide TIME_TPO_START_TIME (3 * k))

/-- WIDTH of an output in 2^-16 ns: 0 and anything from PERIOD up act as PERIOD / 2, whole ns (R240). -/
def Dev.tpoWidth (d : Dev) (k : Nat) : Int :=
  let w := d.get TIME_TPO_CTRL_WIDTH k
  let p := max 1 (d.get TIME_TPO_PERIOD_NS k)
  ((if w = 0 ∨ p ≤ w then p / 2 else w : Nat) : Int) * 65536

/-- An edge due at time `t` of an output's timescale is launched in the tclk that begins now: 3 ns early (R232). -/
def Dev.tpoDue (d : Dev) (k : Nat) (t : Int) : Bool := decide (t ≤ d.tpoTime k + 52429 + 196608)

/-- The first scheduled time of an output at or after `t` (R240, R241). -/
def Dev.tpoAfter (d : Dev) (k : Nat) (t : Int) : Int :=
  let s := d.tpoStart k
  if t ≤ s ∨ d.on TIME_TPO_CTRL_MODE k = false then s
  else s + ((t - s + d.tpoPeriod k - 1) / d.tpoPeriod k) * d.tpoPeriod k

/-- An output is armed: its next pulse is at START, or for a periodic one whose START has passed, at the first scheduled
time not yet passed (R240). -/
def Dev.tpoArm (d : Dev) (k : Nat) : Dev := (d.sv .tpoNext k (d.tpoAfter k (d.tpoTime k))).sv .tpoDone k 0

/-- EN is cleared: a pulse in progress ends at once (R240, R241). -/
def Dev.tpoStop (d : Dev) (k : Nat) : Dev :=
  let d1 := (d.set TIME_TPO_CTRL_EN k 0).sv .tpoOn k 0
  if d.flag .tpoOn k then d1.emit (.tpo k (!(d.on TIME_TPO_CTRL_POL k))) else d1

/-- A forward step of an output's timescale past scheduled times (R241): those pulses are skipped. -/
def Dev.tpoStep (d : Dev) (k : Nat) : Dev :=
  if d.on TIME_TPO_CTRL_EN k && !(d.flag .tpoDone k) && decide (d.v .tpoNext k < d.tpoTime k) then
    let d1 := d.ev TIME_TPO_CTRL_SKIP_EV k
    if d.on TIME_TPO_CTRL_MODE k then d1.sv .tpoNext k (d.tpoAfter k (d.tpoTime k)) else d1.tpoStop k
  else d

/-- A write of START or PERIOD acts at the next pulse not yet begun (R240): the schedule of an armed output is taken anew. -/
def Dev.tpoRetime (d : Dev) (k : Nat) : Dev :=
  if d.on TIME_TPO_CTRL_EN k && !(d.flag .tpoDone k) then d.sv .tpoNext k (d.tpoAfter k (d.tpoTime k)) else d

/-- TPO_PULSE (R240): output `k`'s timescale reaches the next scheduled time. -/
def execTpoPulse (k : Fin 4) (s : State) : Res :=
  let d := s.dev
  okDev s (
    if d.on TIME_TPO_CTRL_EN k && !(d.flag .tpoDone k) && d.tpoDue k (d.v .tpoNext k) then
      let d1 := (((d.sv .tpoOn k 1).sv .tpoEnd k (d.v .tpoNext k + d.tpoWidth k)).count TIME_TPO_CNT_COUNT k 1).emit
        (.tpo k (d.on TIME_TPO_CTRL_POL k))
      if d.on TIME_TPO_CTRL_MODE k then d1.sv .tpoNext k (d.v .tpoNext k + d.tpoPeriod k) else d1.sv .tpoDone k 1
    else d)

/-- TPO_PULSE_END (R240): WIDTH after its leading edge. -/
def execTpoPulseEnd (k : Fin 4) (s : State) : Res :=
  let d := s.dev
  okDev s (if d.flag .tpoOn k && d.tpoDue k (d.v .tpoEnd k) then (d.sv .tpoOn k 0).emit (.tpo k (!(d.on TIME_TPO_CTRL_POL k))) else d)

/-! ### Steps and the servo -/

/-- A domain's counter takes a value; past S = 2^48 - 1 it wraps to 0, with WRAP_EV (R223). A value below 0 is one of the round before
(DESIGN CHOICE, assumption 91). -/
def Dev.setDom (d : Dev) (k : Nat) (t : Int) : Dev :=
  (d.sv .tDom k (t % (tWrapAt * tUnit))).evIf (decide (tWrapAt * tUnit ≤ t)) TIME_STATUS_WRAP_EV 0

/-- Output `j` follows a timescale that a step of domain `k` moves, given whether the active timescale steps with it (R240, R241). -/
def Dev.tpoMoved (d : Dev) (k : Nat) (act : Bool) (j : Nat) : Bool :=
  let c := d.get TIME_TPO_CTRL_DOM j
  if c < 2 then c == k else act

/-- The outputs see a step of their timescale (R241): a pulse in progress keeps its length, and a forward step skips pulses. -/
def Dev.tpoShift (d : Dev) (k : Nat) (act : Bool) (delta : Int) : Dev :=
  ((List.range 4).filter (d.tpoMoved k act)).foldl (fun e j =>
    let e1 := e.sv .tpoEnd j (e.v .tpoEnd j + delta)
    if 0 < delta then e1.tpoStep j else e1) d

/-- A domain steps by `delta` in 2^-16 ns (R227, R241): it becomes valid, and the active timescale, when it follows or
slews toward the domain, steps with it or takes the step as remainder. -/
def Dev.domStep (d : Dev) (k : Nat) (delta : Int) : Dev :=
  let d1 := (d.setDom k (d.v .tDom k + delta * tUnit)).set TIME_DSTAT_VALID k 1
  let act := d.get TIME_CTRL_ACTIVE 0 == k && !(d.on TIME_DCFG_ACT_STEP k)
  let d2 := if act then d1.sv .tAct 0 ((d.v .tAct 0 + delta * tUnit) % (tWrapAt * tUnit))
    else if d.get TIME_CTRL_ACTIVE 0 = k then d1.put TIME_STATUS_SLEWING 0 (d.on TIME_STATUS_SLEWING 0 || decide (tTick < absI d1.actRem))
    else d1
  d2.tpoShift k act delta

/-- The step threshold of a domain in 2^-16 ns (R228). -/
def Dev.stepTh (d : Dev) (k : Nat) : Int :=
  let u := d.get TIME_DCFG_STEP_TH k
  (if u = 0 then 65536 else u * 65536000 : Nat)

/-- A measurement drives a domain's servo (R228, R230): theta in 2^-16 ns, tau in ns. -/
def Dev.measure (d : Dev) (k : Nat) (theta : Int) (tau : Nat) : Dev :=
  let d1 := (((d.set TIME_DSTAT_HOLDOVER k 0).set TIME_HOLD_T k 0).set TIME_BOUND_NS k 0).sv .tHold k 0
  let d2 := (d1.sv .tTau k (tau : Nat)).sv .tSince k 0
  if d.stepTh k < absI theta then (d2.domStep k (-theta)).ev TIME_DSTAT_STEP_EV k
  else
    let fr := fun (sh : Nat) => rdiv (theta * 2 ^ 24) (max 1 tau * 2 ^ sh)
    let f := satW 32 (d.geti TIME_RATE_F k - fr (d.get TIME_DCFG_KI_SHIFT k))
    ((d2.seti TIME_RATE_F k f).sv .tSp k (-(fr (d.get TIME_DCFG_KP_SHIFT k)))).sv .tSpLeft k ((tau * 5 / 4 : Nat) : Int)

/-! ### The clock -/

/-- The rate adjustment of a domain in 2^-40, limited to ±1000 ppm (R224). -/
def Dev.rateAdj (d : Dev) (k : Nat) : Int := clampI (-1099511627) 1099511627 (d.geti TIME_RATE_F k + d.v .tSp k)

/-- A tclk of a domain: 0.8 ns scaled by 1 + F + S_p, the wrap, and the holdover figures (R223, R224, R228, R231). -/
def Dev.tclkDom (d : Dev) (k : Nat) : Dev :=
  let t := d.v .tDom k + 262144 * 15625 * (2 ^ 40 + d.rateAdj k)
  let d1 := ((d.setDom k t).sv .tSince k (d.v .tSince k + 1)).sv .busAge k (d.v .busAge k + 1)
  let d2 := if d.v .tSpLeft k ≤ 1 then (d1.sv .tSp k 0).sv .tSpLeft k 0 else d1.sv .tSpLeft k (d.v .tSpLeft k - 1)
  if d.on TIME_DSTAT_HOLDOVER k then
    let h := d2.v .tHold k + 1
    ((d2.sv .tHold k h).set TIME_HOLD_T k (min 0xFFFF (h / 1250000000).toNat)).set TIME_BOUND_NS k
      (min 0xFFFFFFFF (((100 * d2.get TIME_HOLD_DRIFT k + 1 : Nat) : Int) * h / 1250000000000).toNat)
  else d2

/-- A tclk of both domains and of the active timescale (R224, R226). -/
def Dev.tclk (d : Dev) : Dev :=
  let k := d.get TIME_CTRL_ACTIVE 0
  let d1 := (d.tclkDom 0).tclkDom 1
  if d.on TIME_STATUS_SLEWING 0 then
    if absI d.actRem ≤ tTick then d1.actJoin
    else
      let slew : Int := ((2 ^ 52 * max 1 (d.get TIME_CTRL_SLEW 0) : Nat) : Int)
      d1.sv .tAct 0 ((d.v .tAct 0 + 262144 * 15625 * (2 ^ 40 + d.rateAdj k) + (if 0 < d.actRem then slew else -slew)) % (tWrapAt * tUnit))
  else d1.sv .tAct 0 (d1.v .tDom k)

/-- Every domain becomes invalid and tclk's held terms end; pulse outputs are disabled (R225, R241). -/
def Dev.timeInvalid (d : Dev) : Dev :=
  let d1 := d.each [0, 1] (fun k e => (((e.set TIME_DSTAT_VALID k 0).sv .tSp k 0).sv .tSpLeft k 0).sv .busTimeOn k 0)
  d1.each (List.range 4) (fun k e => e.tpoStop k)

/-! ### Commands -/

/-- TIME_ACTIVE_WRITE (R226): a write of TIME_CTRL; ACTIVE is retargeted, or dropped for an invalid domain. -/
def execTimeActiveWrite (k : Fin 2) (slew : Byte) (s : State) : Res :=
  let d := s.dev.set TIME_CTRL_SLEW 0 slew.toNat
  okDev s (
    if d.get TIME_CTRL_ACTIVE 0 = k then d
    else if !(d.on TIME_DSTAT_VALID k) then d.ev TIME_STATUS_SW_REJ 0
    else
      let d1 := d.set TIME_CTRL_ACTIVE 0 k
      if absI d1.actRem ≤ tTick then d1.actJoin else d1.set TIME_STATUS_SLEWING 0 1)

/-- TIME_SLEW_END (R226): the remainder has fallen to 0.8 ns. -/
def execTimeSlewEnd (s : State) : Res :=
  let d := s.dev
  okDev s (if d.on TIME_STATUS_SLEWING 0 && decide (absI d.actRem ≤ tTick) then d.actJoin else d)

/-- TIME_SET (R225): the domain loads TIME_SET and becomes valid; the change acts on the active timescale as a step of that
size does (assumption 24). -/
def execTimeSet (k : Fin 2) (s : State) : Res :=
  let d := s.dev
  let t := bitsTime (d.wide TIME_SET_TIME (3 * k))
  okDev s ((d.domStep k (t - d.time k)).sv .tDom k (t * tUnit))

/-- TIME_STEP (R227): the domain steps by TIME_STEP. -/
def execTimeStep (k : Fin 2) (s : State) : Res :=
  let d := s.dev
  okDev s (d.domStep k (d.wide64 TIME_STEP_LO_VALUE TIME_STEP_HI_VALUE k))

/-- TIME_MEAS_SUBMIT (R229): a write of TIME_MEAS_HI submits theta when SRC = MEAS. -/
def execTimeMeasSubmit (k : Fin 2) (hi : Word) (s : State) : Res :=
  let d := s.dev.set TIME_MEAS_HI_THETA k hi.toNat
  okDev s (
    if d.get TIME_DCFG_SRC k = 3 then
      d.measure k (d.wide64 TIME_MEAS_LO_THETA TIME_MEAS_HI_THETA k) (max 1 (d.get TIME_MEAS_INT_MS k) * 1000000)
    else d)

/-- CABLE in 2^-16 ns (R229). -/
def Dev.ppsCable (d : Dev) : Int := ((d.get TIME_PPS_CABLE 0 * 65536 / 10 : Nat) : Int)

/-- The ball time of an event `sub` 2^-16 ns after the last tclk, a fixed path of `path` 2^-16 ns before it. -/
def Dev.ballTime (d : Dev) (c : Nat) (sub path : Nat) : Int := d.scale c + (sub : Nat) - (path : Nat)

/-- A fraction of a second reduced to (-0.5 s, +0.5 s] (R229). -/
def secFrac (t : Int) : Int :=
  let r := t % tSec
  if 2 * r ≤ tSec then r else r - tSec

/-- PPS_EDGE (R229, R232): an edge of PPS_IN; the selected one is stamped and drives every domain whose source it is. -/
def execPpsEdge (falling : Bool) (sub : Nat) (s : State) : Res :=
  let d := s.dev
  let stamp := fun (k : Nat) => d.ballTime (k + 1) sub 163840 - d.ppsCable
  okDev s (
    if d.on TIME_PPS_EDGE 0 != falling then d
    else
      (d.setWide TIME_PPS_TS_TIME 0 (timeBits (stamp (d.get TIME_PPS_DOM 0)))).each [0, 1] (fun k e =>
        if d.get TIME_DCFG_SRC k = 1 then e.measure k (secFrac (stamp k)) 1000000000 else e))

/-- The interval at which a domain's source is expected to measure, in ns: 1 s for PPS, the last one for BRAMBLE, TIME_MEAS_INT for
MEAS (R230); 0 where there is none, for NONE and for BRAMBLE before its first (DEDUCED, assumption 91). -/
def Dev.expected (d : Dev) (k : Nat) : Nat :=
  match d.get TIME_DCFG_SRC k with
  | 0 => 0
  | 1 => 1000000000
  | 2 => (d.v .tTau k).toNat
  | _ => max 1 (d.get TIME_MEAS_INT_MS k) * 1000000

/-- HOLD_N expected intervals have passed in tclk of 0.8 ns without an applied measurement (R230); a HOLD_N of 0 acts as 1. -/
def Dev.holdDue (d : Dev) (k : Nat) : Bool :=
  d.expected k != 0 && decide ((max 1 (d.get TIME_DCFG_HOLD_N k) * d.expected k : Nat) * 5 ≤ d.v .tSince k * 4)

/-- HOLDOVER_ENTRY (R230): HOLD_N expected intervals have passed without a measurement. -/
def execHoldoverEntry (k : Fin 2) (s : State) : Res :=
  let d := s.dev
  okDev s (
    if !(d.holdDue k) || d.on TIME_DSTAT_HOLDOVER k then d
    else ((((d.set TIME_DSTAT_HOLDOVER k 1).ev TIME_DSTAT_HOLD_EV k).sv .tSp k 0).sv .tSpLeft k 0).sv .tHold k 0)

/-- TIME_WRAP (R223): a domain in its last second wraps to 0. -/
def execTimeWrap (k : Fin 2) (s : State) : Res :=
  let d := s.dev
  okDev s (
    if tWrapAt - tSec ≤ d.time k then (d.sv .tDom k 0).ev TIME_STATUS_WRAP_EV 0 else d)

/-- STAMP_QUEUE_POP (R237): a read of TIME_SQ3 removes the head entry. -/
def execStampQueuePop (s : State) : Res :=
  let d := s.dev
  let q := d.sq.drop 1
  okDev s (({ d with sq := q } : Dev).set TIME_SQ_STAT_COUNT 0 q.length)

/-- An entry enters the stamp queue, or is dropped when 64 are held (R237). -/
def Dev.sqPush (d : Dev) (e : List Nat) : Dev :=
  if 64 ≤ d.sq.length then (d.ev TIME_STATUS_SQ_OVF 0).count TIME_SQ_STAT_DROPS 0 1
  else ({ d with sq := d.sq ++ [e] } : Dev).set TIME_SQ_STAT_COUNT 0 (d.sq.length + 1)

/-! ### PTP event frames -/

/-- Byte `i` of a frame as a number. -/
def fb (f : List Byte) (i : Nat) : Nat := (f.getD i 0).toNat

/-- The big-endian number in `n` bytes from `i`. -/
def fbe (f : List Byte) (i n : Nat) : Nat := (List.range n).foldl (fun a k => a * 256 + fb f (i + k)) 0

/-- Put a big-endian number of `n` bytes at `i`. -/
def fput (f : List Byte) (i n v : Nat) : List Byte :=
  (List.range n).foldl (fun g k => g.set (i + k) (BitVec.ofNat 8 (v / 2 ^ (8 * (n - 1 - k))))) f

/-- The offset of the EtherType after zero, one or two VLAN tags (R164). -/
def etherAt (f : List Byte) : Nat :=
  let tag := fun i => fbe f i 2 == 0x8100 || fbe f i 2 == 0x88A8
  if !(tag 12) then 12 else if !(tag 16) then 16 else 20

/-- Where the PTP header of a matching frame lies, and where its UDP checksum does with the IP version (R164). -/
def Dev.ptpAt (d : Dev) (sl : Nat) (f : List Byte) : Option (Nat × Option (Nat × Bool)) :=
  let e := etherAt f
  let et := fbe f e 2
  let ip := e + 2
  if et = 0x88F7 ∧ d.on PCS_CTRL_MATCH_L2 sl then some (e + 2, none)
  else if et = 0x0800 ∧ d.on PCS_CTRL_MATCH_UDP4 sl ∧ fb f (ip + 9) = 17 ∧ fbe f (ip + 6) 2 % 0x4000 = 0
      ∧ fbe f (ip + 4 * (fb f ip % 16) + 2) 2 = 319 then
    some (ip + 4 * (fb f ip % 16) + 8, some (ip + 4 * (fb f ip % 16) + 6, false))
  else if et = 0x86DD ∧ d.on PCS_CTRL_MATCH_UDP6 sl ∧ fb f (ip + 6) = 17 ∧ fbe f (ip + 42) 2 = 319 then
    some (ip + 48, some (ip + 46, true))
  else none

/-- The PTP header is of version 2 and a selected event type (R164). -/
def Dev.ptpSel (d : Dev) (sl : Nat) (f : List Byte) (p : Nat) : Bool :=
  fb f (p + 1) % 16 == 2 && decide (fb f p % 16 < 4) && (d.get PCS_CTRL_MSG_MASK sl).testBit (fb f p % 16)
    && decide (p + 34 ≤ f.length)

/-- One's-complement sum of two 16-bit numbers (RFC 1071). -/
def ones16 (a b : Nat) : Nat := let s := a + b; s % 65536 + s / 65536

/-- The checksum after the 16-bit words from `lo` to `hi` have changed (R166). -/
def udpFix (f g : List Byte) (sum lo hi : Nat) : Nat :=
  let acc := (List.range ((hi - lo) / 2)).foldl (fun a i =>
    ones16 (ones16 a (65535 - fbe f (lo + 2 * i) 2)) (fbe g (lo + 2 * i) 2)) (65535 - sum)
  let r := 65535 - acc
  if r = 0 then 65535 else r

/-- The frame with its UDP checksum and FCS brought in line with the change from `f` to `g` (R166). -/
def ptpFix (f g : List Byte) (p : Nat) (udp : Option (Nat × Bool)) : List Byte :=
  let g1 := match udp with
    | none => g
    | some (c, v6) =>
      if v6 = false ∧ fbe f c 2 = 0 then g else fput g c 2 (udpFix f g (fbe f c 2) p (p + 44))
  let n := f.length - 4
  let delta := (List.range n).foldl (fun c i => crc32Byte c (Nat.xor (fb f i) (fb g1 i))) 0
  (List.range 4).foldl (fun h k => h.set (n + k) (BitVec.ofNat 8 (Nat.xor (fb f (n + k)) (delta / 2 ^ (8 * k))))) g1

/-- correctionField with `v` 2^-16 ns added; an overflow reads as too large (R165). -/
def cfAdd (f : List Byte) (p : Nat) (v : Int) : List Byte :=
  let s := sext 64 (fbe f (p + 8) 8) + v
  fput f (p + 8) 8 (if s < -(2 ^ 63) ∨ 2 ^ 63 ≤ s then 2 ^ 63 - 1 else twos 64 s)

/-- A PTP event frame passes the rewriter of a port direction (R164 to R166, R235 to R237). -/
def Dev.ptpFrame (d : Dev) (sl : Nat) (dir : Dir) (f : List Byte) (arr dep : Int) : Dev :=
  match d.portAt sl with
  | none => d
  | some pd =>
    let act := match dir with | .rx => d.get PCS_CTRL_PTP_RX sl | .tx => d.get PCS_CTRL_PTP_TX sl
    let fill := match dir with | .rx => d.on GBX_PSTATUS_RX_FILL sl | .tx => d.on GBX_PSTATUS_TX_FILL sl
    let pass := d.emit (.frame sl dir f)
    let n := 4 * (sl / 4) + pd.l0
    let inCf := d.on TIME_PCFG_OPT_IN_CF pd.num
    let optTx : Int := ((d.get TIME_LOPT_OPT_TX n * 256 : Nat) : Int)
    let optRx : Int := ((d.get TIME_LOPT_OPT_RX n * 256 : Nat) : Int)
    if !pd.term || act = 0 || act = 3 || fill || !(d.scaleOk (d.get TIME_PCFG_DOM pd.num)) then pass else
    match d.ptpAt sl f with
    | none => pass
    | some (p, udp) =>
      if !(d.ptpSel sl f p) then pass else
      let isTx := match dir with | .rx => false | .tx => true
      let stamp := if isTx && inCf then dep + optTx else dep
      let t := timeBits stamp
      let oneStep := decide (fb f p % 16 = 0 ∧ fb f (p + 6) / 2 % 2 = 0)
      let skip := match dir with | .rx => pass.count PCS_PTP_SKIP_RX sl 1 | .tx => pass.count PCS_PTP_SKIP_TX sl 1
      let cnt := fun (e : Dev) => match dir with | .rx => e.count PCS_PTP_CNT_RX sl 1 | .tx => e.count PCS_PTP_CNT_TX sl 1
      if act = 1 ∧ oneStep = false then
        pass.sqPush [pd.num + 8 * dir.ix + 16 * (fb f p % 16) + 256 * fb f (p + 4) + 65536 * fbe f (p + 30) 2,
          t % 2 ^ 32, t / 2 ^ 32 % 2 ^ 32, t / 2 ^ 64]
      else if act = 1 then
        if 256 < p + 44 then skip else
        let g := fput (fput (cfAdd f p ((t % 65536 : Nat) : Int)) (p + 34) 6 (t / 2 ^ 46)) (p + 40) 4 (t / 65536 % 2 ^ 30)
        cnt (d.emit (.frame sl dir (ptpFix f g p udp)))
      else
        if 256 < p + 16 then skip else
        let v := stamp - arr + (if inCf then (if isTx then 0 else optRx) else 0)
        cnt (d.emit (.frame sl dir (ptpFix f (cfAdd f p v) p udp)))

/-- PTP_EVENT_FRAME (R164). `arr` and `dep` are the ball times of the frame's message timestamp point in the port's
timescale, 2^-16 ns; the frame ends with its FCS. -/
def execPtpEventFrame (sl : Fin 8) (dir : Dir) (frame : List Byte) (arr dep : Int) (s : State) : Res :=
  okDev s (s.dev.ptpFrame sl dir frame arr dep)

end Sys2Proof.Machine
end

