-- ==== Sys2Proof/Machine/Sloe.lean ====
section
/-! DEFINITION. The Sloe channel (chapter 11, R196 to R222) and the marker latches of its time packets (R234, R238). -/

namespace Sys2Proof.Machine

/-! ### Transmitter -/

/-- Byte `i` of a buffer of 64 words held as variables. -/
def Dev.slByte (d : Dev) (x : Var) (n i : Nat) : Byte := BitVec.ofNat 8 ((d.v x (64 * n + i / 4)).toNat / 2 ^ (8 * (i % 4)))

/-- Put bytes into the receive buffer from byte 0 on. -/
def Dev.slFill (d : Dev) (n : Nat) (p : List Byte) : Dev :=
  d.each (List.range ((p.length + 3) / 4)) (fun w e =>
    e.sv .slRxBuf (64 * n + w) (((List.range 4).foldl (fun a k => a + (if 4 * w + k < p.length then (p.getD (4 * w + k) 0).toNat
      else (e.slByte .slRxBuf n (4 * w + k)).toNat) * 2 ^ (8 * k)) 0 : Nat) : Int))

/-- The fields of a word written to SLOE_TX_CTRL, but SEND. -/
def Dev.slCtrl (d : Dev) (n w : Nat) : Dev :=
  ((((d.set SLOE_TX_CTRL_LEN n w).set SLOE_TX_CTRL_TYPE n (w / 2 ^ 8)).set SLOE_TX_CTRL_ACK_REQ n (w / 2 ^ 14)).set
    SLOE_TX_CTRL_RETRIES n (w / 2 ^ 16)).set SLOE_TX_CTRL_WIN n (w / 2 ^ 20)

/-- SLOE_SEND (R205): a write of SLOE_TX_CTRL with SEND = 1, `ctrl` the word. While BUSY only the SEND is dropped; REFUSED with the
transmitter or lane off, or for a TIME type shorter than 16 bytes. -/
def execSloeSend (n : Fin 8) (ctrl : Word) (s : State) : Res :=
  let d1 := s.dev.slCtrl n ctrl.toNat
  okDev s (
    if d1.on SLOE_TX_STATUS_BUSY n then d1.ev SLOE_TX_STATUS_BUSY_REJ n else
    let len := d1.get SLOE_TX_CTRL_LEN n
    let typ := d1.get SLOE_TX_CTRL_TYPE n
    if !(d1.slSends n) || (decide (typ = 4 ∨ typ = 5) && decide (len < 16)) then
      (d1.set SLOE_TX_STATUS_RESULT n 5).ev SLOE_TX_STATUS_DONE n
    else
      let seq := (d1.v .slNextSeq n).toNat
      let p : SloePkt :=
        { lane := n, typ := typ, ackReq := d1.on SLOE_TX_CTRL_ACK_REQ n, retx := false, seq := seq,
          payload := (List.range len).map (fun i => d1.slByte .slTxBuf n i) }
      let d2 : Dev := { d1 with sloeFw := p :: d1.sloeFw.filter (fun x => x.lane != n) }
      (((((d2.set SLOE_TX_STATUS_BUSY n 1).set SLOE_TX_STATUS_RESULT n 0).set SLOE_TX_STATUS_TRY n 0).set SLOE_TX_STATUS_SEQ n seq).sv
        .slNextSeq n ((seq + 1) % 256 : Nat)).sv .slFw n 1)

/-- The lane's stream whose markers its latches record: its lowest host lane. -/
def Dev.slHost (d : Dev) (n : Nat) : Nat := (d.hostsOfLine n).headD 0

/-- A marker has passed and marker lock has held since (R234). -/
def Dev.markOk (d : Dev) (n : Nat) (dir : Dir) : Bool :=
  !(d.hostsOfLine n).isEmpty && d.flag .markSeen (2 * d.slHost n + dir.ix) && d.amLock dir (d.slHost n)

/-- The timescale code of a TIME packet by its byte 0: 0 and 1 domains, above that the active timescale (R238). -/
def byte0Scale (b : Nat) : Nat := if b = 0 then 1 else if b = 1 then 2 else 0

/-- The payload a TIME packet is sent with: its reference instant over bytes 4 to 15, and from 28 bytes on the last
transmit marker over bytes 16 to 27 and its flags in byte 3 (R220, R238). -/
def stampPayload (p : List Byte) (ref mark : Nat) (valid : Bool) : List Byte :=
  let put := fun (q : List Byte) (at0 w : Nat) => (List.range 12).foldl (fun g k => g.set (at0 + k) (BitVec.ofNat 8 (w / 2 ^ (8 * k)))) q
  let q := put p 4 ref
  if p.length < 28 then q
  else (put q 16 mark).set 3 (BitVec.ofNat 8 ((fb q 3) / 4 * 4 + b2n valid))

/-- The packet that starts next, in priority order, where the transmitter can send (R205); a gasp interrupts any packet (R207). -/
def Dev.slNext (d : Dev) (n : Nat) : Nat :=
  if !(d.slSends n) then 0
  else if d.v .slGasp n != 0 then 1
  else if d.v .slCur n != 0 then 0
  else if d.v .slAck n != 0 then 2
  else if d.v .slTrig n != 0 then 3
  else if d.flag .slFw n then 4
  else 0

/-- A packet's transmission begins: its symbols follow on the grid (R199). -/
def Dev.slOut (d : Dev) (n kind pairs typ : Nat) (ackReq retx : Bool) (seq : Nat) (pay : List Byte) : Dev :=
  let hdr := sloeHeader pay.length typ ackReq retx (d.get SLOE_ID_TX_ID n) seq
  let body := sloePayload pay
  let syms := sloeSymbols (d.slSF n) pairs (d.v .slSync n).toNat hdr body
  ((d.sv .slCur n (kind : Nat)).setSlRest n syms).emit (.sloe n (hdr ++ body) syms)

/-- The transmitter starts a packet (R205, R207, R220, R234); a retransmission counts in TRY when it starts (R206). -/
def Dev.slStart (d : Dev) (n lead markAge : Nat) : Dev :=
  let pairs := clampN 4 32 (d.get SLOE_DET_PRE_PAIRS n)
  match d.slNext n with
  | 1 =>
    let d1 := if d.v .slCur n = 4 then d.slTxEnd n 4 else d
    (d1.sv .slGasp n 0).slOut n 1 4 2 false false 0 [BitVec.ofInt 8 (d.v .slGasp n)]
  | 2 => (d.sv .slAck n 0).slOut n 2 pairs 6 false false (d.v .slAck n - 1).toNat []
  | 3 => (d.sv .slTrig n 0).slOut n 3 pairs 3 false false 0 [BitVec.ofInt 8 (d.v .slTrig n - 1), 0]
  | 4 =>
    match d.sloeFw.find? (fun p => p.lane == n) with
    | none => d
    | some p =>
      let d := d.set SLOE_TX_STATUS_TRY n (d.get SLOE_TX_STATUS_TRY n + b2n p.retx)
      if p.typ = 4 ∨ p.typ = 5 then
        let sc := byte0Scale (fb p.payload 0)
        let mark := timeBits (d.scale sc - (markAge : Nat))
        let ok := d.markOk n .tx
        let d1 := d.setWide TIME_MTX_TIME (3 * n) (mark % 2 ^ 94 + (if ok then 2 ^ 95 else 0))
        (d1.sv .slFw n 0).slOut n 4 pairs p.typ p.ackReq p.retx p.seq
          (stampPayload p.payload (timeBits (d.scale sc + (lead : Nat))) mark ok)
      else (d.sv .slFw n 0).slOut n 4 pairs p.typ p.ackReq p.retx p.seq p.payload
  | _ => d

/-- SLOE_PACKET_START (R205): a symbol boundary with a packet waiting. `lead` is the time to the packet's reference
instant, `markAge` the time since the stream's last transmit marker, both in 2^-16 ns at the DAC ball. -/
def execSloePacketStart (n : Fin 8) (lead markAge : Nat) (s : State) : Res := okDev s (s.dev.slStart n lead markAge)

/-- SLOE_PACKET_END (R206): the packet's last symbol is sent. -/
def execSloePacketEnd (n : Fin 8) (s : State) : Res :=
  let d := s.dev
  okDev s (
    if d.v .slCur n = 0 then d else
    let d1 := (d.count SLOE_TX_CNT_SENT n 1).slIdle n
    if d.v .slCur n = 4 then
      (if ((d.sloeFw.find? (fun p => p.lane == n.val)).map (·.ackReq)).getD false then d1.sv .slOpen n 1 else d1.slTxEnd n 1)
    else d1)

/-- SLOE_ACK_WINDOW_EXPIRY (R206): while fewer than RETRIES retransmissions have been sent, a resend at the next symbol boundary with
RETX, else the end NO_ACK. -/
def execSloeAckWindowExpiry (n : Fin 8) (s : State) : Res :=
  let d := s.dev
  okDev s (
    if !(d.flag .slOpen n) then d
    else if d.get SLOE_TX_STATUS_TRY n < d.get SLOE_TX_CTRL_RETRIES n then
      let d1 : Dev := { d with sloeFw := d.sloeFw.map (fun p => if p.lane = n.val then { p with retx := true } else p) }
      (d1.sv .slOpen n 0).sv .slFw n 1
    else d.slTxEnd n 3)

/-- A dying gasp waits on every lane with TX_EN = 1 (R207); a disabled lane's pipeline stands still (R105) and sends none (DEDUCED,
assumption 84). -/
def Dev.gaspAll (d : Dev) (reason : Nat) : Dev :=
  d.each (List.range 8) (fun n e => if e.slSends n then e.sv .slGasp n (reason : Nat) else e)

/-- SLOE_GASP_SEND (R207): reason 2, firmware. -/
def execSloeGaspSend (s : State) : Res := okDev s (s.dev.gaspAll 2)

/-- The values of SLOE_LCFG and SLOE_DET that take effect at a symbol boundary. -/
def Dev.slTake (d : Dev) (n : Nat) : Dev :=
  (((((d.sv .slSf n (d.get SLOE_LCFG_SF n : Nat)).sv .slBw n (d.get SLOE_LCFG_BW n : Nat)).sv .slFc n (d.get SLOE_LCFG_CENTRE n : Nat)).sv
    .slSync n (d.get SLOE_LCFG_SYNC n : Nat)).sv .slOfs n (d.geti SLOE_DET_DET_OFS n)).sv .slPairs n (d.get SLOE_DET_DET_PAIRS n : Nat)

/-- SLOE_CONFIG_CHANGE (R208, R218): changed values of SF, BW, fc, SYNC, DET_OFS or DET_PAIRS take effect: a reception ends
ABORTED, and the first four drop the firmware packet; the symbols that follow have the new duration. -/
def execSloeConfigChange (n : Fin 8) (s : State) : Res :=
  let d := s.dev
  let wave := decide (d.v .slSf n ≠ (d.get SLOE_LCFG_SF n : Nat) ∨ d.v .slBw n ≠ (d.get SLOE_LCFG_BW n : Nat)
    ∨ d.v .slFc n ≠ (d.get SLOE_LCFG_CENTRE n : Nat) ∨ d.v .slSync n ≠ (d.get SLOE_LCFG_SYNC n : Nat))
  let det := decide (d.v .slOfs n ≠ d.geti SLOE_DET_DET_OFS n ∨ d.v .slPairs n ≠ (d.get SLOE_DET_DET_PAIRS n : Nat))
  okDev s (
    if !wave && !det then d else
    let d1 := d.slTake n
    let d2 := d1.when wave (fun e => ((e.sloeTxDrop n).sv .slSym n 0).sv .slPos n 0)
    (d2.when (d.slReceiving n) (fun e => e.slRxEnd n 12)).sloeRefresh n)

/-! ### Receiver -/

/-- The threshold T(SF) of R203 in 0.1 dB. -/
def slThreshold (sf : Nat) : Int := ([-40, -75, -100, -125, -150, -175, -200] : List Int).getD (sf - 6) 0

/-- The detection threshold T(SF) + DET_OFS in 0.1 dB (R211). -/
def Dev.slDetect (d : Dev) (n : Nat) : Int := slThreshold (d.slSF n) + 5 * d.v .slOfs n

/-- The gain loop freezes: `p` is the mean power of the complex samples in 0.1 dBFS, which the gain brings to -12 dBFS (R210). -/
def Dev.slFreeze (d : Dev) (n : Nat) (p : Int) : Dev := ((d.sv .slFrozen n 1).sv .slGain n (-120 - p)).sv .slReacq n 0

/-- The receiver locks onto a detected preamble (R212); its gain loop then runs on (R210, where a reception was given up) or freezes. -/
def Dev.slLock (d : Dev) (n : Nat) (m : Int) : Dev := (d.set SLOE_RX_STATUS_STATE n slPREAMBLE).sv .slMetric n m

/-- The receiver gives a reception up for a new preamble: its gain loop runs to that preamble's first sync symbol (R210, R213, R215). -/
def Dev.slRelock (d : Dev) (n status : Nat) (m : Int) : Dev := ((d.slRxEnd n status).slLock n m).sv .slReacq n 1

/-- SLOE_PREAMBLE_DETECT (R211, R213, R215). `m` is the mean metric of the agreeing pairs in 0.1 dB, `p` the mean power of the complex
samples in 0.1 dBFS. -/
def execSloePreambleDetect (n : Fin 8) (m p : Int) (s : State) : Res :=
  let d := s.dev
  let st := d.get SLOE_RX_STATUS_STATE n
  okDev s (
    if m < d.slDetect n then d
    else if st = slSEARCH then (d.slLock n m).slFreeze n p
    else if st = slPREAMBLE ∨ st = slHEADER then d.slRelock n 8 m
    else if st = slPAYLOAD ∧ d.on SLOE_CAPTURE_EN 0 ∧ d.v .slMetric n + 10 * (d.get SLOE_CAPTURE_MARGIN 0 : Nat) ≤ m then
      d.slRelock n 7 m
    else d)

/-- SLOE_SYNC_FOUND (R212). A gain loop that still ran froze at the first of the two sync symbols, which is known to be one only now;
`p` is the mean power then, in 0.1 dBFS (R210). -/
def execSloeSyncFound (n : Fin 8) (p : Int) (s : State) : Res :=
  let d := s.dev
  okDev s (
    if d.get SLOE_RX_STATUS_STATE n = slPREAMBLE then
      (d.set SLOE_RX_STATUS_STATE n slHEADER).when (d.flag .slReacq n) (fun e => e.slFreeze n p)
    else d)

/-- SLOE_FALSE_LOCK (R212). -/
def execSloeFalseLock (n : Fin 8) (s : State) : Res :=
  let d := s.dev
  okDev s (if d.get SLOE_RX_STATUS_STATE n = slPREAMBLE then d.slRxEnd n 9 else d)

/-- The Sloe-packet event of an OK or DUP reception, when it is one that CAP_EVF selects (R219, R245). -/
def Dev.slEvent (d : Dev) (n typ tag : Nat) : Dev :=
  let sel := (d.on CAP_EVF_SLOE_ANY 0 || d.get CAP_EVF_SLOE_TYPE 0 == typ)
    && (typ != 3 || d.on CAP_EVF_TAG_ANY 0 || d.get CAP_EVF_TAG 0 == tag)
  d.when sel (fun e => e.raise (56 + n) e.actTime)

/-- A timing receiver tracks its lane's symbol grid; one that is OFF tracks nothing (R22, R209, R222). -/
def Dev.trTracks (d : Dev) (t : Nat) : Bool :=
  d.on SLOE_TR_CTRL_EN t && d.slHears (d.get SLOE_TR_CTRL_LANE t) && d.on SLOE_TR_STATUS_TRACKING t

/-- A packet is stored (R216, R219, R220, R222, R234): payload, header, metric, reference instant and its source, the
receive marker latch of a TIME packet, VALID. -/
def Dev.slStore (d : Dev) (n typ : Nat) (pay : List Byte) (age markAge : Nat) : Dev :=
  let time := decide (typ = 4 ∨ typ = 5)
  let sc := if time then byte0Scale (fb pay 0) else 0
  let tr := (List.range 2).find? (fun t => d.get SLOE_TR_CTRL_LANE t == n && d.trTracks t)
  let d1 := ((((d.slFill n pay).set SLOE_RX_HDR_LEN n (d.v .slHLen n).toNat).set SLOE_RX_HDR_TYPE n typ).set SLOE_RX_HDR_ACK_REQ n
    ((d.v .slHType n).toNat / 64)).set SLOE_RX_HDR_RETX n ((d.v .slHType n).toNat / 128)
  let d2 := (((d1.set SLOE_RX_HDR_SRC_ID n (d.v .slHSrc n).toNat).set SLOE_RX_STATUS_SEQ n (d.v .slHSeq n).toNat).seti
    SLOE_RX_STATUS_METRIC n (d.v .slMetric n)).set SLOE_RX_STATUS_TS_SRC n (match tr with | some t => t + 1 | none => 0)
  let d3 := (d2.setWide SLOE_RX_TS_TIME (3 * n) (timeBits (d.scale sc - (age : Nat)))).set SLOE_RX_STATUS_VALID n 1
  d3.when time (fun e => e.setWide TIME_MRX_TIME (3 * n) (timeBits (d.scale sc - (markAge : Nat)) % 2 ^ 94
    + (if d.lowLat n then 2 ^ 94 else 0) + (if d.markOk n .rx then 2 ^ 95 else 0)))

/-- An ACK that carries the SEQ of the packet whose window is open ends it ACKED (R206). -/
def Dev.slAcked (d : Dev) (n seq : Nat) : Dev :=
  if d.flag .slOpen n && d.get SLOE_TX_STATUS_SEQ n == seq then d.slTxEnd n 2 else d

/-- The events of a reception by TYPE (R219). -/
def Dev.slTypeEv (d : Dev) (n typ : Nat) : Dev :=
  (d.evIf (typ == 2) SLOE_RX_STATUS_GASP_EV n).evIf (typ == 3) SLOE_RX_STATUS_TRIG_EV n

/-- A reception ends after its payload, or its header when LEN = 0 (R206, R216, R219); an ACK later than its window is not counted. -/
def Dev.slFinish (d : Dev) (n : Nat) (crcOk : Bool) (pay : List Byte) (age markAge : Nat) : Dev :=
  let b1 := (d.v .slHType n).toNat
  let typ := b1 % 64
  let ackReq := decide (b1 / 64 % 2 = 1)
  let retx := decide (b1 / 128 % 2 = 1)
  let seq := (d.v .slHSeq n).toNat
  let ack := fun (e : Dev) => e.when (ackReq && e.on SLOE_RX_ACK_AUTO n) (fun x => x.sv .slAck n ((seq : Int) + 1))
  let dup := retx && d.flag .slLastOn n && d.v .slLastSrc n == d.v .slHSrc n && d.v .slLastSeq n == (seq : Nat)
    && d.v .slLastType n == (typ : Nat)
  let time := decide (typ = 4 ∨ typ = 5)
  let note := fun (e : Dev) => (((e.sv .slLastOn n 1).sv .slLastSrc n (d.v .slHSrc n)).sv .slLastSeq n (seq : Nat)).sv .slLastType n (typ : Nat)
  if !crcOk then d.slRxEnd n 4
  else if typ = 6 then
    let d1 := ((note d).slEvent n 6 0).slRxEnd n 1
    d1.when (d.flag .slAckLate n) (fun e => e.set SLOE_RX_CNT0_OK n (d.get SLOE_RX_CNT0_OK n))
  else if dup && !time then ack (((d.slTypeEv n typ).slEvent n typ (fb pay 0)).slRxEnd n 2)
  else if d.on SLOE_RX_STATUS_VALID n then d.slRxEnd n 10
  else
    let d1 := ((d.slStore n typ pay age markAge).slTypeEv n typ).slEvent n typ (fb pay 0)
    if dup then ack (d1.slRxEnd n 2) else ack ((note d1).slRxEnd n 1)

/-- SLOE_HEADER_DONE (R214, R216). `shifts` are the 16 header symbols' shifts; `age` the time since the packet's reference
instant, `markAge` since the stream's last receive marker before it, 2^-16 ns at the ADC ball. -/
def execSloeHeaderDone (n : Fin 8) (shifts : List Nat) (age markAge : Nat) (s : State) : Res :=
  let d := s.dev
  let h := readHeader (d.slSF n) shifts
  let src := fb h 2 + 256 * fb h 3
  okDev s (
    if d.get SLOE_RX_STATUS_STATE n ≠ slHEADER then d
    else if crc8 (h.take 5) ≠ fb h 5 then d.slRxEnd n 3
    else if d.on SLOE_RX_MATCH n ∧ src ≠ d.get SLOE_ID_EXPECT n then d.slRxEnd n 5
    else if d.get SLOE_RX_MAXLEN n < fb h 0 then d.slRxEnd n 6
    else
      let d1 := (((((d.set SLOE_RX_STATUS_STATE n slPAYLOAD).sv .slHLen n (fb h 0 : Nat)).sv .slHType n (fb h 1 : Nat)).sv
        .slHSrc n (src : Nat)).sv .slHSeq n (fb h 4 : Nat))
      let d2 := (if fb h 1 % 64 = 6 then d1.slAcked n (fb h 4) else d1).sflag .slAckLate n (!(d.flag .slOpen n))
      if fb h 0 = 0 then d2.slFinish n true [] age markAge else d2)

/-- SLOE_RECEPTION_END (R216). `syms` are the payload symbols, direction and shift. -/
def execSloeReceptionEnd (n : Fin 8) (syms : List (Bool × Nat)) (age markAge : Nat) (s : State) : Res :=
  let d := s.dev
  let len := (d.v .slHLen n).toNat
  let b := readPayload (d.slSF n) syms
  okDev s (
    if d.get SLOE_RX_STATUS_STATE n ≠ slPAYLOAD then d
    else d.slFinish n (crc16 (b.take len) == fb b len + 256 * fb b (len + 1)) (b.take len) age markAge)

/-- SLOE_RX_VALID_CLEAR (R216): the buffer is free. -/
def execSloeRxValidClear (n : Fin 8) (s : State) : Res := okDev s (s.dev.set SLOE_RX_STATUS_VALID n 0)

/-- SLOE_NF_REPORT (R221). `p` is the mean noise power within fc ± BW/2 over 16 counted windows, in 2^-46 of full scale
squared. -/
def execSloeNfReport (n : Fin 8) (p : Nat) (s : State) : Res :=
  let d := s.dev
  okDev s (if d.get SLOE_RX_STATUS_STATE n = slSEARCH then d.seti SLOE_NF_DBFS n (dbfs p (2 ^ 46)) else d)

/-- SLOE_TR_WINDOW (R222). `ppb` is the far end's rate in 0.1 ppb over the window, `cover` the sixteenths of it in which
chirps were tracked, `tracking` whether the grid is tracked at its end. An OFF timing receiver has no window (R22, R209). -/
def execSloeTrWindow (t : Fin 2) (ppb : Int) (cover : Fin 17) (tracking : Bool) (s : State) : Res :=
  let d := s.dev
  okDev s (
    if !(d.on SLOE_TR_CTRL_EN t) || !(d.slHears (d.get SLOE_TR_CTRL_LANE t)) then d else
    let d1 := (d.set SLOE_TR_STATUS_COVER t (min 15 cover.val)).put SLOE_TR_STATUS_TRACKING t tracking
    if cover.val < 8 then d1.set SLOE_TR_STATUS_VALID t 0
    else (d1.seti SLOE_TR_FREQ_PPB10 t (satW 32 ppb)).set SLOE_TR_STATUS_VALID t 1)

/-- A timing receiver's window restarts and VALID clears (R222). -/
def Dev.trRestart (d : Dev) (n : Nat) : Dev :=
  d.each [0, 1] (fun t e => if e.get SLOE_TR_CTRL_LANE t = n then e.set SLOE_TR_STATUS_VALID t 0 else e)

end Sys2Proof.Machine
end

