-- ==== Sys2Proof/Machine/Mem.lean ====
section
/-! DEFINITION. The local address map and what is off (R288 to R293), the memories' codes, errors and logs (R261 to R273),
spares and remap (R274, R275), merge buffers (R276, R277), LPDDR6 and the FILL engine (R278 to R284). -/

namespace Sys2Proof.Machine

/-! ### The address map -/

/-- What lies at a local address (R288). -/
inductive Region where
  | regs | unmapped | sram | cap | stone | rom | lp
deriving DecidableEq, Repr

/-- The region of a local address (R288). -/
def region (a : Nat) : Region :=
  if a < 0x11_0000 then .regs
  else if a < 0x100_0000 then .unmapped
  else if a < 0x300_0000 then
    let o := a % 0x100_0000
    if o < 0x50_0000 ∨ (0x80_0000 ≤ o ∧ o < 0x90_0000) then .regs else .unmapped
  else if a < sramBase then .unmapped
  else if a < sramBase + 0x80_0000 then .sram
  else if a < capBase then .unmapped
  else if a < capBase + 0x300_0000 then .cap
  else if a < stoneBase then .unmapped
  else if a < stoneBase + 0x200_0000 then .stone
  else if a < 0x6000_0000 then .unmapped
  else if a < 0x6004_0000 then .rom
  else if a < lpBase then .unmapped
  else if a < 0xA0_0000_0000 then .lp
  else .unmapped

/-- The datapath domains of both bunches are off. -/
def Dev.bothOff (d : Dev) : Bool := d.flag .offBunch 0 && d.flag .offBunch 1

/-- The block at a mapped address is off (R292). -/
def Dev.isOff (d : Dev) (a : Nat) : Bool :=
  if 0x10_0000 ≤ a ∧ a < 0x11_0000 then false
  else if d.flag .offMgmt 0 then true
  else match region a with
    | .regs =>
      if a < 0x11_0000 then
        (a / 0x1_0000 == 4 || a / 0x1_0000 == 5 || a / 0x1_0000 == 6 || a / 0x1_0000 == 15) && d.bothOff
      else d.flag .offBunch (a / 0x100_0000 - 1)
    | .cap => d.bothOff
    | .lp => d.flag .lpSelf 0
    | _ => false

/-- An OFFLINE or UNMAPPED access (R290, R293): the first since both event bits were clear is recorded, all are counted;
a core takes an access fault. -/
def Dev.refused (d : Dev) (init a : Nat) (write unmapped : Bool) : Dev :=
  let d1 := (if init < 4 then d.emit (.coreFault init a write) else d).count TOP_ACCESS_CNT_COUNT 0 1
  if d.on TOP_ACCESS_INFO_OFF_EV 0 || d.on TOP_ACCESS_INFO_UNMAP_EV 0 then d1
  else
    let d2 := (((d1.set TOP_ACCESS_ADDR_LO_ADDR 0 a).set TOP_ACCESS_ADDR_HI_ADDR 0 (a / 2 ^ 32 % 256)).put TOP_ACCESS_INFO_WRITE 0
      write).set TOP_ACCESS_INFO_INIT 0 init
    if unmapped then d2.ev TOP_ACCESS_INFO_UNMAP_EV 0 else d2.ev TOP_ACCESS_INFO_OFF_EV 0

/-! ### LPDDR6 geometry -/

/-- Fitted channels C (R278). -/
def Dev.chans (d : Dev) : Nat := ((List.range 4).filter (fun c => (d.get MEM_STATUS_FITTED 0).testBit c)).length

/-- Bytes per channel (R278). -/
def Dev.chanBytes (d : Dev) : Nat := 2 ^ 32 * 2 ^ d.get MEM_STATUS_CAP 0

/-- Every fitted channel is trained, and there is one (R280). -/
def Dev.lpTrained (d : Dev) : Bool := d.chans != 0 && d.get MEM_STATUS_FITTED 0 == d.get MEM_STATUS_TRAINED 0

/-- The channel of an offset (R279). -/
def Dev.chanOf (d : Dev) (o : Nat) : Nat := o / 4096 % max 1 d.chans

/-- The channel address of an offset (R279). -/
def Dev.chanAddr (d : Dev) (o : Nat) : Nat := o / (4096 * max 1 d.chans) * 4096 + o % 4096

/-- The offset of a channel address (R279). -/
def Dev.chanOfs (d : Dev) (c x : Nat) : Nat := (x / 4096 * max 1 d.chans + c) * 4096 + x % 4096

/-- Channel address of spare line `i` (R275). -/
def Dev.spareAddr (d : Dev) (i : Nat) : Nat := d.chanBytes - 0x1_0000 + 64 * i

/-- The remap entry that diverts a line of a channel (R275). -/
def Dev.remapOf (d : Dev) (c line : Nat) : Option Nat :=
  (List.range 32).find? (fun i => d.v .remap (32 * c + i) == ((line + 1 : Nat) : Int))

/-- The spare entry that diverts a word of a management SRAM bank (R274). -/
def Dev.mspareOf (d : Dev) (bank word : Nat) : Option Nat :=
  (List.range 8).find? (fun i => d.v .mspare (8 * bank + i) == ((word + 1 : Nat) : Int))

/-- Where the byte of a local address is kept: a spare word or line where one diverts it (R274, R275). -/
def Dev.phys (d : Dev) (a : Nat) : Nat :=
  match region a with
  | .sram =>
    let o := a - sramBase
    match d.mspareOf (o / 0x10_0000) (o % 0x10_0000 / 8) with
    | some i => spareBase + 8 * (8 * (o / 0x10_0000) + i) + o % 8
    | none => a
  | .lp =>
    let o := a - lpBase
    match d.remapOf (d.chanOf o) (d.chanAddr o / 64) with
    | some i => lpBase + d.chanOfs (d.chanOf o) (d.spareAddr i) + o % 64
    | none => a
  | _ => a

/-- Bytes of a protected unit of a region: a 64-byte line of LPDDR6, a 32-bit word of the boot ROM, a 64-bit word elsewhere (R261). -/
def unitSize (a : Nat) : Nat := if region a = .lp then 64 else if region a = .rom then 4 else 8

/-- First local address of the unit of an address. -/
def unitOf (a : Nat) : Nat := a / unitSize a * unitSize a

/-- An LPDDR6 address that reads RSVD (R267, R279): beyond the fitted range, in the spare granule, or on an untrained channel. -/
def Dev.isRsvd (d : Dev) (a : Nat) : Bool :=
  let o := a - lpBase
  let size := d.chans * d.chanBytes
  decide (d.chans = 0) || decide (size ≤ o) || decide (size - 0x10_0000 ≤ o) || !((d.get MEM_STATUS_TRAINED 0).testBit (d.chanOf o))

/-! ### Counts and logs -/

/-- A NOTINIT or RSVD access is logged (R282, R264). -/
def Dev.accLog (d : Dev) (a : Nat) (rsvd write : Bool) : Dev :=
  let d1 := d.count MEM_ACC_CNT_COUNT 0 1
  if d.on MEM_ACC_LOG_HI_ACC_EV 0 then d1
  else ((((d1.set MEM_ACC_LOG_LO_ADDR_LO 0 a).set MEM_ACC_LOG_HI_ADDR_HI 0 (a / 2 ^ 32)).put MEM_ACC_LOG_HI_KIND 0 rsvd).put
    MEM_ACC_LOG_HI_WRITE 0 write).ev MEM_ACC_LOG_HI_ACC_EV 0

/-- The corrected-error counter of a memory, by ECC_UE_INFO.MEM. -/
def ceField (m : Nat) : Fld :=
  if m = 0 then ECC_CE_CNT0_MSRAM else if m = 1 then ECC_CE_CNT0_CAP else if m < 5 then ECC_CE_CNT1_TILE
  else if m = 5 then ECC_CE_CNT2_RET else if m = 6 then ECC_CE_CNT1_LPDDR6 else if m = 7 then ECC_CE_CNT2_BMAP else ECC_CE_CNT2_ROM

/-- A corrected error is counted and its location kept; CE_EV at CE_TH within the memory's scrub period (R268). -/
def Dev.ceSeen (d : Dev) (m lo hi : Nat) : Dev :=
  let g := if m = 3 ∨ m = 4 then 2 else m
  let n := d.v .ceWin g + 1
  let d1 := ((((d.count (ceField m) 0 1).set ECC_CE_LAST_LO_VALUE 0 lo).set ECC_CE_LAST_HI_VALUE 0 (hi % 256 + m * 2 ^ 28)).sv .ceWin g n)
  d1.evIf (d.get ECC_CTRL_CE_TH 0 != 0 && n == (d.get ECC_CTRL_CE_TH 0 : Nat)) ECC_UE_STATUS_CE_EV 0

/-- The log's head entry in its registers (R273). -/
def Dev.ueShow (d : Dev) : Dev :=
  let d1 := d.set ECC_UE_STATUS_COUNT 0 d.ueLog.length
  match d.ueLog with
  | [] => (((((d1.set ECC_UE_ADDR_LO_VALUE 0 0).set ECC_UE_ADDR_HI_VALUE 0 0).set ECC_UE_INFO_MEM 0 0).set ECC_UE_INFO_FINDER 0 0).set
      ECC_UE_INFO_ACTION 0 0).set ECC_UE_INFO_VALID 0 0
  | e :: _ => (((((d1.set ECC_UE_ADDR_LO_VALUE 0 e.lo).set ECC_UE_ADDR_HI_VALUE 0 e.hi).set ECC_UE_INFO_MEM 0 e.mem).put
      ECC_UE_INFO_FINDER 0 e.demand).set ECC_UE_INFO_ACTION 0 e.action).set ECC_UE_INFO_VALID 0 1

/-- An entry of the uncorrectable-error log; one that finds the log full is counted lost (R273). -/
def Dev.uePush (d : Dev) (e : UeEnt) : Dev :=
  if 16 ≤ d.ueLog.length then d.count ECC_UE_STATUS_LOST 0 1
  else ({ d with ueLog := d.ueLog ++ [e] } : Dev).ueShow

/-- ECC_UE_INFO.MEM of a memory address. -/
def memCode (a : Nat) : Nat :=
  match region a with
  | .sram => 0
  | .cap => 1
  | .lp => 6
  | _ => 8

/-- A demand access found an uncorrectable error at a memory address (R269): the log entry, with the code of the action that
followed, and the memory interrupt. -/
def Dev.ueDemand (d : Dev) (a action : Nat) : Dev :=
  (d.uePush ⟨unitOf a % 2 ^ 32, unitOf a / 2 ^ 32, memCode a, true, action⟩).ev ECC_UE_STATUS_DEMAND_EV 0

/-! ### Spares, watch lists and remaps -/

/-- Granules `b` to `b + n - 1` overlap the drain region of the capture in force or last completed. -/
def Dev.hitsRegion (d : Dev) (b n : Nat) : Bool :=
  d.flag .capDrain 0 && decide ((b : Int) < d.v .capRegBase 0 + d.v .capRegSize 0) && decide (d.v .capRegBase 0 < ((b + n : Nat) : Int))

/-- A word of management SRAM is entered in a free spare of its bank (R274): the spare takes the corrected word, or the poison
pattern. -/
def State.mspareEnter (s : State) (a : Nat) (poisoned : Bool) : State :=
  let o := unitOf a - sramBase
  let bank := o / 0x10_0000
  let word := o % 0x10_0000 / 8
  if (s.dev.mspareOf bank word).isSome then s else
  match (List.range 8).find? (fun i => s.dev.v .mspare (8 * bank + i) == 0) with
  | none => s
  | some i =>
    let k := spareBase + 8 * (8 * bank + i)
    let m := s.mem.writeBytes k (s.mem.readBytes (unitOf a) 8)
    { s with mem := if poisoned then m.setPoison k else m.clearPoison k,
             dev := s.dev.sv .mspare (8 * bank + i) ((word + 1 : Nat) : Int) }

/-- An uncorrectable error of an LPDDR6 line outside the drain region (R272, R275): the line is watched at its first error and
remapped at its second. The action code comes with the state. -/
def State.watchLine (s : State) (a : Nat) : State × Nat :=
  let o := unitOf a - lpBase
  let c := s.dev.chanOf o
  let line := s.dev.chanAddr o / 64
  if s.dev.watch.contains (c, line) then
    match (List.range 32).find? (fun i => s.dev.v .remap (32 * c + i) == 0) with
    | none => (s, 5)
    | some i =>
      let k := lpBase + s.dev.chanOfs c (s.dev.spareAddr i)
      let data := s.mem.readBytes (s.dev.phys (unitOf a)) 64
      let d0 := match s.dev.remapOf c line with
        | some j => s.dev.sv .remap (32 * c + j) 0
        | none => s.dev
      let d1 : Dev := { d0 with watch := d0.watch.filter (fun w => w != (c, line)) }
      ({ s with mem := (s.mem.writeBytes k data).setPoison k, dev := d1.sv .remap (32 * c + i) ((line + 1 : Nat) : Int) }, 4)
  else
    let mine := s.dev.watch.filter (fun w => w.1 == c)
    let kept := if 32 ≤ mine.length then s.dev.watch.erase (mine.headD (c, line)) else s.dev.watch
    ({ s with dev := { s.dev with watch := kept ++ [(c, line)] } }, 6)

/-- An uncorrectable error of a management SRAM word: the second since reset enters the word in a spare with the poison pattern (R274). -/
def State.ueWord (s : State) (a : Nat) : State :=
  let u := unitOf a
  if s.dev.ueSeen.contains u then s.mspareEnter u true
  else { s with dev := { s.dev with ueSeen := u :: s.dev.ueSeen } }

/-- A demand access found an uncorrectable error in a unit that now holds the poison pattern (R269): what R274 and R275 do with
the word or line, and the log entry. -/
def State.ueFound (s : State) (a : Nat) : State :=
  match region a with
  | .sram => let t := s.ueWord a; { t with dev := t.dev.ueDemand a 0 }
  | .lp =>
    if s.dev.hitsRegion (granuleOf a) 1 then { s with dev := s.dev.ueDemand a 0 }
    else let r := s.watchLine a; { r.1 with dev := r.1.dev.ueDemand a r.2 }
  | _ => { s with dev := s.dev.ueDemand a 0 }

/-- The bytes of a unit's data as decoded. -/
def decodedUnit (a x : Nat) : List Byte := (List.range (unitSize a)).map (fun i => BitVec.ofNat 8 (x / 2 ^ (8 * i)))

/-- The bytes of an access within a unit's data as decoded. -/
def decodedPart (a n x : Nat) : Nat := x / 2 ^ (8 * (a % unitSize a)) % 2 ^ (8 * n)

/-! ### Units, merge buffers, reads and writes -/

/-- The memory is being zero-filled or wiped (R264). -/
def Dev.filling (d : Dev) (a : Nat) : Bool :=
  match region a with
  | .sram | .cap => d.on MEM_STATUS_ZFILL 0
  | .lp => d.on MEM_STATUS_WIPE 0
  | _ => false

/-- Write a unit, its bytes all or in part. A part is merged with the old data: over an uncorrectable error or the poison
pattern the unit stays poisoned, and the error, not the pattern (R269), is logged; in an unmarked LPDDR6 granule the old data
counts as zero (R276, R277). -/
def State.unitWrite (s : State) (u : Nat) (bytes : List (Option Byte)) (f : EccFind) : State :=
  let k := s.dev.phys u
  let put := fun (m : Memory) (old : Nat → Byte) =>
    m.writeBytes k ((List.range bytes.length).map (fun i => ((bytes.getD i none).getD (old i))))
  if bytes.all (·.isSome) then { s with mem := (put s.mem (fun _ => 0)).clearPoison k }
  else if region u = .lp ∧ !(s.mem.marked.contains (granuleOf u)) then { s with mem := (put s.mem (fun _ => 0)).clearPoison k }
  else
    let m := put s.mem (fun i => s.mem.read (k + i))
    let whole := fun (x : Nat) => (put s.mem (fun i => (decodedUnit u x).getD i 0)).setPoison k
    if s.mem.poison.contains k then { s with mem := m }
    else match f with
      | .clean => { s with mem := m }
      | .ce => { s with mem := m, dev := s.dev.ceSeen (memCode u) (u % 2 ^ 32) (u / 2 ^ 32) }
      | .ue x => ({ s with mem := whole x } : State).ueFound u
      | .aliased x => { s with mem := whole x }

/-- The pending entry of a unit is flushed, if there is one (R276). -/
def State.flush (s : State) (u : Nat) (f : EccFind) : State :=
  match s.dev.merge.find? (fun e => e.unit == u) with
  | none => s
  | some e => ({ s with dev := { s.dev with merge := s.dev.merge.filter (fun x => x.unit != u) } } : State).unitWrite u e.bytes f

/-- The bytes of an entry with later ones over them. -/
def overlay (old new : List (Option Byte)) : List (Option Byte) := List.zipWith (fun a b => b.orElse (fun _ => a)) old new

/-- Narrow bytes gather in a merge buffer of 4 or 16 entries; a word or line too many flushes the oldest, whose read of the old
data finds `f` (R276). -/
def State.gather (s : State) (u : Nat) (bytes : List (Option Byte)) (f : EccFind) : State :=
  let lp := decide (region u = .lp)
  let cap := if lp then 16 else 4
  match s.dev.merge.find? (fun e => e.unit == u) with
  | some e =>
    let b := overlay e.bytes bytes
    let s1 : State := { s with dev := { s.dev with merge := s.dev.merge.map (fun x => if x.unit = u then { x with bytes := b } else x) } }
    if b.all (·.isSome) then s1.flush u .clean else s1
  | none =>
    let mine := s.dev.merge.filter (fun e => e.lp == lp)
    let s1 := match mine with
      | [] => s
      | e :: _ => if cap ≤ mine.length then s.flush e.unit f else s
    { s1 with dev := { s1.dev with merge := s1.dev.merge ++ [⟨u, lp, bytes⟩] } }

/-- What a write at `a` leaves in the unit `u`: the bytes that fall into it. -/
def unitPart (a : Nat) (data : List Byte) (u size : Nat) : List (Option Byte) :=
  (List.range size).map (fun i => if a ≤ u + i then data[u + i - a]? else none)

/-- A write of one unit's bytes to management SRAM, the capture store or LPDDR6; `f` is what a merge that it forces finds in
the old data (R264, R267, R276). -/
def State.writeUnit (s : State) (u : Nat) (bytes : List (Option Byte)) (f : EccFind) : State :=
  if s.dev.filling u then { s with dev := s.dev.accLog u false true }
  else if region u = .lp ∧ s.dev.isRsvd u then { s with dev := s.dev.accLog u true true }
  else if bytes.all (·.isSome) then
    ({ s with dev := { s.dev with merge := s.dev.merge.filter (fun x => x.unit != u) } } : State).unitWrite u bytes .clean
  else if region u = .cap then s.unitWrite u bytes f
  else s.gather u bytes f

/-- The units a write covers. -/
def unitsOf (a n : Nat) : List Nat :=
  let z := unitSize a
  (List.range ((a % z + n + z - 1) / z)).map (fun i => unitOf a + z * i)

/-- First address of the configuration shadow (R288). -/
def shadowBase : Nat := 0x107C_0000

/-- A write to the address space outside registers (R276, R288, R290, R293): by initiator `init`. Writes to the boot ROM and
the Stone window are dropped, the latter counted (R347); the shadow is written by the seed loader alone. -/
def State.store (s : State) (init a : Nat) (data : List Byte) (f : EccFind) : State :=
  match region a with
  | .unmapped => { s with dev := s.dev.refused init a true true }
  | r =>
    if s.dev.isOff a then { s with dev := s.dev.refused init a true false }
    else match r with
      | .sram => if shadowBase ≤ a ∧ init ≠ 8 then s else (unitsOf a data.length).foldl (fun t u => t.writeUnit u (unitPart a data u 8) f) s
      | .cap => (unitsOf a data.length).foldl (fun t u => t.writeUnit u (unitPart a data u 8) f) s
      | .lp => (unitsOf a data.length).foldl (fun t u => t.writeUnit u (unitPart a data u 64) f) s
      | .stone => { s with dev := s.dev.count STN_STATUS_WIN_WR 0 1 }
      | _ => s

/-- A read of up to one unit of a memory (R264, R267 to R269, R276, R282): the state after it, the status, the data. Where it
waits for the flush of a merge entry, `f` is what the flush finds in the old data. -/
def State.load (s : State) (a n : Nat) (f : EccFind) : State × RdStatus × Nat :=
  if s.dev.filling a then ({ s with dev := s.dev.accLog a false false }, .notInit, 0)
  else if region a = .lp ∧ s.dev.isRsvd a then ({ s with dev := s.dev.accLog a true false }, .rsvd, 0)
  else
    let merging := s.dev.merge.any (fun e => e.unit == unitOf a)
    let s1 := if merging then s.flush (unitOf a) f else s
    if region a = .lp ∧ !(s1.mem.marked.contains (granuleOf a)) then ({ s1 with dev := s1.dev.accLog a false false }, .notInit, 0)
    else
      let k := s1.dev.phys (unitOf a)
      let v := leNat (s1.mem.readBytes (s1.dev.phys a) n)
      if s1.mem.poison.contains k then (s1, .poison, v)
      else match (if merging then EccFind.clean else f) with
        | .clean => (s1, .ok, v)
        | .ce => ({ s1 with dev := s1.dev.ceSeen (memCode a) (unitOf a % 2 ^ 32) (unitOf a / 2 ^ 32) }, .ok, v)
        | .ue x =>
          (({ s1 with mem := (s1.mem.writeBytes k (decodedUnit a x)).setPoison k } : State).ueFound a, .poison, decodedPart a n x)
        | .aliased x => ({ s1 with mem := s1.mem.writeBytes k (decodedUnit a x) |>.setPoison k }, .poison, decodedPart a n x)

/-- MEMORY_WRITE (R276): `find` is what a merge that the write forces finds in the old data. -/
def execMemoryWrite (init : Fin 16) (a : Nat) (data : List Byte) (find : EccFind) (s : State) : Res :=
  ok s (if region a = .regs then s else s.store init a data find)

/-- MERGE_FLUSH (R276): the entry of the unit at `a` is flushed; `f` is what its read of the old data finds. -/
def execMergeFlush (a : Nat) (f : EccFind) (s : State) : Res := ok s (s.flush (unitOf a) f)

/-! ### Whole lines written by the engines -/

/-- Write bytes of whole units with valid check bits at a local address of the capture store or LPDDR6. -/
def State.putUnits (s : State) (a : Nat) (data : List Byte) : State :=
  (unitsOf a data.length).foldl (fun t u => t.unitWrite u (unitPart a data u (unitSize a)) .clean) s

/-! ### Zero-fill, wipe, FILL -/

/-- ZERO_FILL_DONE (R262): every word of management SRAM, its spares and the capture store holds zero, and ZFILL clears. -/
def execZeroFillDone (s : State) : Res :=
  ok s (if s.dev.on MEM_STATUS_ZFILL 0 then
    { s with
      dev := s.dev.set MEM_STATUS_ZFILL 0 0,
      mem := ((s.mem.clear sramBase (sramBase + 0x80_0000)).zeroCap).clear spareBase (spareBase + 0x1000) } else s)

/-- LPDDR6_WIPE_DONE (R263): LPDDR6 holds zero and the init bitmap is cleared. -/
def execLpddr6WipeDone (s : State) : Res :=
  ok s (if s.dev.on MEM_STATUS_WIPE 0 then
    { s with dev := s.dev.set MEM_STATUS_WIPE 0 0, mem := { s.mem.wipeLp with marked := [] } } else s)

/-- DQS_TRACK (R280): drift is tracked; a pause of the channel is all that a user sees. -/
def execDqsTrack (s : State) : Res := okDev s s.dev

/-- LPDDR6_TEMP_READ (R280): the refresh rate follows the devices' report. -/
def execLpddr6TempRead (code : Nat) (s : State) : Res := okDev s (s.dev.sv .lpTemp 0 (code : Nat))

/-- Usable granules (R279). -/
def Dev.granules (d : Dev) : Nat := d.get MEM_GRANULES_COUNT 0

/-- A capture is ARMED, TRIGGERED or DRAINING. -/
def Dev.capBusy (d : Dev) : Bool := let st := d.get CAP_STATUS_STATE 0; st == 1 || st == 2 || st == 3

/-- The refusal of a FILL, 0 for none (R283). -/
def Dev.fillErr (d : Dev) : Nat :=
  let b := d.get MEM_FILL_BASE_GRANULE 0
  let n := d.get MEM_FILL_COUNT_GRANULE 0
  if d.on MEM_FILL_STATUS_BUSY 0 then 4
  else if n = 0 then 1
  else if !d.lpTrained then 3
  else if d.granules < b + n then 2
  else if d.capBusy && d.hitsRegion b n then 5
  else 0

/-- MEM_FILL_START (R283): a write of MEM_FILL_CTRL with START, `mode` its MODE bit. -/
def execMemFillStart (mode : Bool) (s : State) : Res :=
  let d := s.dev.put MEM_FILL_CTRL_MODE 0 mode
  let e := d.fillErr
  okDev s (
    if e ≠ 0 then (d.set MEM_FILL_STATUS_ERR 0 e).ev MEM_FILL_STATUS_DONE 0
    else
      let b := d.get MEM_FILL_BASE_GRANULE 0
      (((((((d.set MEM_FILL_STATUS_BUSY 0 1).set MEM_FILL_STATUS_ERR 0 0).set MEM_FILL_STATUS_NEXT 0 b).sv .fillEnd 0
        ((b + d.get MEM_FILL_COUNT_GRANULE 0 : Nat) : Int)).sv .fillPat 0
        ((d.get MEM_FILL_PAT_LO_PAT 0 + d.get MEM_FILL_PAT_HI_PAT 0 * 2 ^ 32 : Nat) : Int)).sflag .fillMode 0 mode).sv .fillPre 0 0))

/-- The FILL ends (R283). -/
def Dev.fillStop (d : Dev) (err : Nat) : Dev :=
  (((d.set MEM_FILL_STATUS_BUSY 0 0).set MEM_FILL_STATUS_ERR 0 err).ev MEM_FILL_STATUS_DONE 0).sv .fillPre 0 0

/-- The lines of a granule that a remap entry diverts: local address and the entry's spare key (R275). -/
def Dev.divertedIn (d : Dev) (g : Nat) : List (Nat × Nat) :=
  (List.range 128).filterMap (fun i =>
    if d.v .remap i = 0 then none else
    let c := i / 32
    let o := d.chanOfs c ((d.v .remap i - 1).toNat * 64)
    if o / 0x10_0000 = g then some (lpBase + o, lpBase + d.chanOfs c (d.spareAddr (i % 32))) else none)

/-- A granule is filled: every word, the spare in place of a remapped line (R275, R283). -/
def State.fillOne (s : State) (g pat : Nat) (addr : Bool) : State :=
  let ds := s.dev.divertedIn g
  let m1 := s.mem.fillGranule g pat addr
  let m2 := ds.foldl (fun m l =>
    let word := fun (i : Nat) => byteOf64 (if addr then Nat.xor ((l.1 + i) / 8 * 8) pat else pat) (i % 8)
    let old := s.mem.readBytes l.1 64
    let m := ((m.writeBytes l.2 ((List.range 64).map word)).clearPoison l.2).writeBytes l.1 old
    if s.mem.poison.contains l.1 then m.setPoison l.1 else m) m1
  { s with mem := m2.mark g }

/-- The bytes that a FILL writes to the line at `a` (R283). -/
def Dev.fillLine (d : Dev) (a : Nat) : List Byte :=
  let pat := (d.v .fillPat 0).toNat
  (List.range 64).map (fun i => byteOf64 (if d.flag .fillMode 0 then Nat.xor ((a + i) / 8 * 8) pat else pat) (i % 8))

/-- FILL_ABORT (R283): the engine stops at the next line, `lines` lines of the granule in progress being written; the granule
is not marked. -/
def execFillAbort (lines : Nat) (s : State) : Res :=
  ok s (if s.dev.on MEM_FILL_STATUS_BUSY 0 then
    let t := s.putUnits (granBase (s.dev.get MEM_FILL_STATUS_NEXT 0))
      ((List.range (min lines 16384)).flatMap (fun i => s.dev.fillLine (granBase (s.dev.get MEM_FILL_STATUS_NEXT 0) + 64 * i)))
    { t with dev := t.dev.fillStop 0 } else s)

/-- FILL_GRANULE_DONE (R283): the granule's last line is written and the granule is marked; the FILL ends after its last one,
or PREEMPTED (R284). The lines of `late` were written after the FILL had passed them and keep what they hold. -/
def execFillGranuleDone (late : List (Fin 16384)) (s : State) : Res :=
  ok s (if s.dev.on MEM_FILL_STATUS_BUSY 0 then
    let g := s.dev.get MEM_FILL_STATUS_NEXT 0
    let t0 := s.fillOne g (s.dev.v .fillPat 0).toNat (s.dev.flag .fillMode 0)
    let t := late.foldl (fun (x : State) l =>
      let k := s.dev.phys (granBase g + 64 * l.val)
      let m := x.mem.writeBytes k (s.mem.readBytes k 64)
      { x with mem := if s.mem.poison.contains k then m.setPoison k else m }) t0
    let d := t.dev.set MEM_FILL_STATUS_NEXT 0 (g + 1)
    { t with dev :=
        if s.dev.v .fillEnd 0 ≤ ((g + 1 : Nat) : Int) then d.fillStop 0
        else if s.dev.flag .fillPre 0 then d.fillStop 6
        else d }
    else s)

/-- BMAP_UNMARK (R282): a write of `w` to MEM_BMAP unmarks granules of the selected word. -/
def execBmapUnmark (w : Word) (s : State) : Res :=
  let base := 32 * s.dev.get MEM_BMAP_SEL_WORD 0
  ok s { s with mem := (List.range 32).foldl (fun m k => if w.toNat.testBit k then m.unmark (base + k) else m) s.mem }

/-! ### Replies -/

/-- The generation of a reset domain: 0 device, 1 and 2 bunches, 3 to 6 cores, 7 to 14 line lanes, 15 to 30 host lanes (R294). -/
def Dev.genOf (d : Dev) (x : Nat) : Nat :=
  if x < 3 then d.get TOP_GEN_GEN 0 / 2 ^ (8 * x) % 256
  else if x < 7 then d.get TOP_GEN_GEN 1 / 2 ^ (8 * (x - 3)) % 256
  else if x < 15 then d.get TOP_GEN_LL_GEN ((x - 7) / 4) / 2 ^ (8 * ((x - 7) % 4)) % 256
  else d.get TOP_GEN_HL_GEN ((x - 15) / 4) / 2 ^ (8 * ((x - 15) % 4)) % 256

/-- The generation of a reset domain is incremented; `aborted` reads it had accepted complete ABORTED (R294, R295). -/
def Dev.genStep (d : Dev) (x : Nat) : Dev :=
  if x < 3 then d.genUp TOP_GEN_GEN 0 x
  else if x < 7 then d.genUp TOP_GEN_GEN 1 (x - 3)
  else if x < 15 then d.genUp TOP_GEN_LL_GEN ((x - 7) / 4) ((x - 7) % 4)
  else d.genUp TOP_GEN_HL_GEN ((x - 15) / 4) ((x - 15) % 4)

/-- Reads that a domain had accepted and not answered complete ABORTED, with the data 0xDEAD_AB0D; a core takes a load access fault
(R295). -/
def Dev.aborted (d : Dev) (l : List AbRead) : Dev :=
  (l.foldl (fun e r =>
    let x := e.emit (.readData r.init r.addr .aborted 0xDEAD_AB0D)
    if r.init.val < 4 then x.emit (.coreFault r.init r.addr false) else x) d).count TOP_DISC_ABORT 0 l.length

/-- STALE_REPLY_DISCARD (R295): a reply stamped with generations `tg` of its target domain and `ig` of its initiator domain
is discarded when one is no longer current. -/
def execStaleReplyDiscard (target : Fin 31) (tg : Byte) (initiator : Fin 31) (ig : Byte) (s : State) : Res :=
  let d := s.dev
  okDev s (if d.genOf target = tg.toNat ∧ d.genOf initiator = ig.toNat then d else d.count TOP_DISC_REPLY 0 1)

end Sys2Proof.Machine
end

