-- ==== Sys2Proof/Machine/Capture.lean ====
section
/-! DEFINITION. Lane trigger units, the sequencer, the capture ring and drain, and the trigger bus (chapter 13, R242 to R260). -/

namespace Sys2Proof.Machine

/-! ### Lane trigger units -/

/-- The running evaluation of a set, cleared when none is listed (R242). -/
def Dev.trgOf (d : Dev) (n k : Nat) : TrgSet :=
  (d.trg.find? (fun t => t.lane == n && t.set == k)).getD ⟨n, k, 0, none, 0, false, [], 0⟩

/-- Clear a set's run count, pending runt and timeout count (R242): as a write of its registers does. -/
def Dev.trgClear (d : Dev) (n k : Nat) : Dev := { d with trg := d.trg.filter (fun t => t.lane != n || t.set != k) }

/-- PULSE at one symbol (R243). -/
def trgPulse (q longer : Bool) (len : Nat) (t : TrgSet) : TrgSet × Bool :=
  let r := if q then t.run + 1 else 0
  ({ t with run := r }, if longer then r == len + 1 else !q && decide (1 ≤ t.run ∧ t.run < len))

/-- RUNT at one symbol (R243); `up`, `down` say which crossings MODE takes. -/
def trgRunt (th0 th1 : Int) (up down : Bool) (w : Nat) (v : Int) (t : TrgSet) : TrgSet × Bool :=
  let past := fun (u : Bool) => if u then decide (th1 < v) else decide (v < th0)
  if ¬ th0 < th1 then ({ t with runt := none }, false) else
  match t.runt with
  | some (a, u) =>
    if past u then ({ t with runt := none }, false)
    else if a + 1 = w then ({ t with runt := none }, true)
    else ({ t with runt := some (a + 1, u) }, false)
  | none =>
    match t.hist with
    | [] => (t, false)
    | p :: _ =>
      if up ∧ p ≤ th0 ∧ th0 < v ∧ past true = false then ({ t with runt := some (0, true) }, false)
      else if down ∧ th1 ≤ p ∧ v < th1 ∧ past false = false then ({ t with runt := some (0, false) }, false)
      else (t, false)

/-- TIMEOUT at one symbol (R243). -/
def trgTimeout (th0 : Int) (up down : Bool) (limit : Nat) (v : Int) (t : TrgSet) : TrgSet × Bool :=
  match t.hist with
  | [] => ({ t with tmo := 0 }, false)
  | p :: _ =>
    if (up ∧ p ≤ th0 ∧ th0 < v) ∨ (down ∧ th0 ≤ p ∧ v < th0) then ({ t with tmo := 0, done := false }, false)
    else
      let fire := !t.done && t.tmo + 1 == limit
      ({ t with tmo := t.tmo + 1, done := t.done || fire }, fire)

/-- SLEW at one symbol (R243). -/
def trgSlew (th0 k : Nat) (v : Int) (t : TrgSet) : TrgSet × Bool :=
  match t.hist[k - 1]? with
  | none => (t, false)
  | some p => (t, decide ((th0 : Int) < absI (v - p)))

/-- One symbol of set `k` of lane `n`: its value and its decision's level (R243). -/
def Dev.trgStep (d : Dev) (n k : Nat) (v : Int) (lv : Nat) (t : TrgSet) : TrgSet × Bool :=
  let i := 4 * n + k
  let th0 := d.geti LL_TRG_TH_TH0 i
  let th1 := d.geti LL_TRG_TH_TH1 i
  let mode := d.get LL_TRG_CFG_MODE i
  let len := max 1 (d.get LL_TRG_N_N i)
  let inside := decide (th0 < v ∧ v ≤ th1)
  let q := if mode = 0 then decide (th0 < v) else if mode = 1 then decide (v < th0)
    else if mode = 3 ∧ d.on LL_TRG_CFG_SRC i then lv == d.get LL_TRG_CFG_LVL i else inside
  let up := mode != 1
  let down := mode != 0
  let pip := match d.mode n with | some m => symbolsPerPip m | none => 1
  let r := match d.get LL_TRG_CFG_TYPE i with
    | 0 => trgPulse q (d.on LL_TRG_CFG_LONGER i) len t
    | 1 => trgRunt th0 th1 up down (max 1 (d.get LL_TRG_N_W i)) v t
    | 2 => trgTimeout th0 up down (if d.on LL_TRG_CFG_UNIT i then len * pip else len) v t
    | _ => trgSlew (d.get LL_TRG_TH_TH0 i) (d.get LL_TRG_CFG_K i + 1) v t
  ({ r.1 with hist := v :: t.hist.take 15 }, r.2)

/-- A set evaluates a run of symbols; how often it fired, and at which place of the run first (R243, R244). -/
def Dev.trgRun (d : Dev) (n k : Nat) (vals : List Int) (levels : List Nat) (t : TrgSet) : TrgSet × Nat × Option Nat :=
  (List.range vals.length).foldl (fun (a : TrgSet × Nat × Option Nat) i =>
    let x := d.trgStep n k (vals.getD i 0) (levels.getD i 0) a.1
    (x.1, a.2.1 + b2n x.2, if x.2 then some (a.2.2.getD i) else a.2.2)) (t, 0, none)

/-- TRIG_SET_FIRE (R243, R244): set `k` of a lane evaluates the symbols of lane dpclk `c` of the most recent pip, once. Every firing is
counted; the earliest raises the set's event, stamped with its symbol's ball time. -/
def execTrigSetFire (n : Fin 8) (k : Fin 4) (c : Fin 72) (s : State) : Res :=
  let d := s.dev
  okDev s (
    if !(d.trgAvail n k) then d.trgClear n k else
    match d.lastPip n with
    | none => d
    | some kp =>
      let t := d.trgOf n k
      let at0 := 72 * kp.pip + c
      if at0 < t.next then d else
      let w := d.symsPerDpclk n
      let vals := ((if d.on LL_TRG_CFG_SRC (4 * n + k) then kp.ys else kp.raw).drop (c * w)).take w
      let r := d.trgRun n k vals (((kp.syms.drop (c * w)).take w).map (fun x => ((x + 3) / 2).toNat)) t
      let d1 : Dev := { d with trg := { r.1 with next := at0 + 1 } :: (d.trgClear n k).trg }
      let d2 := d1.count LL_TRG_CNT_COUNT (4 * n + k) r.2.1
      match r.2.2 with
      | none => d2
      | some i => d2.raise (4 * n + k) (kp.start + d.uiTime n ((c * w + i : Nat) : Int)))

/-! ### The ring -/

/-- Ring capacity in 64-byte units: 48 MiB less the poison tail (R249). -/
def capUnits : Nat := 786368

/-- A record's 32-byte header (R251). -/
def capHdr (b0 b1 b2 b3 w4 q8 : Nat) (stamp : Int) (w28 : Nat) : List Byte :=
  leBytes 1 b0 ++ leBytes 1 b1 ++ leBytes 1 b2 ++ leBytes 1 b3 ++ leBytes 4 w4 ++ leBytes 8 q8 ++ leBytes 12 (timeBits stamp)
    ++ leBytes 4 w28

/-- Units a record of `n` bytes takes (R251). -/
def recUnits (n : Nat) : Nat := (n + 63) / 64

/-- Bytes padded with zeros to whole units (R251). -/
def padUnits (b : List Byte) : List Byte := b ++ List.replicate (64 * recUnits b.length - b.length) 0

/-- The ring has room for `n` units without losing a kept or undrained record (R250, R255). -/
def Dev.capRoom (d : Dev) (n : Nat) : Bool :=
  if d.get CAP_STATUS_STATE 0 = capARMED then true
  else
    let lo := if d.flag .capDrain 0 then d.v .capDrained 0 else d.v .capBase 0
    decide (d.v .capPos 0 + (n : Nat) - lo ≤ (capUnits : Nat))

/-- Write a record at the ring's position (R250, R251). -/
def State.capWrite (s : State) (rec : List Byte) : State :=
  let b := padUnits rec
  let pos := (s.dev.v .capPos 0).toNat
  let n := b.length / 64
  let t := (List.range n).foldl (fun (t : State) i =>
    t.putUnits (capBase + (pos + i) % capUnits * 64) ((b.drop (64 * i)).take 64)) s
  let d : Dev := { t.dev with capRecs := t.dev.capRecs.filter (fun r => decide (pos + n ≤ r + capUnits)) ++ [pos] }
  { t with dev := d.sv .capPos 0 ((pos + n : Nat) : Int) }

/-- A stream's lane and source byte (R251). -/
def Dev.capSrcByte (d : Dev) (st : Nat) : Nat := d.get CAP_STREAM_LANE st + 8 * d.get CAP_STREAM_SOURCE st

/-- Write a GAP record (R251, R252); where the ring has no room it is lost. -/
def State.gapRec (s : State) (g : CapGap) : State :=
  if !(s.dev.capRoom 1) then s else
  let t := s.capWrite (capHdr 2 g.stream (s.dev.capSrcByte g.stream) g.reason 0 g.first g.stamp g.count)
  { t with dev := (t.dev.count CAP_GAPS_COUNT 0 1).ev CAP_STATUS_GAP_EV 0 }

/-- The gap in progress of a stream is written (R252). -/
def State.capClose (s : State) (st : Nat) : State :=
  match s.dev.capGaps.find? (fun g => g.stream == st) with
  | none => s
  | some g =>
    let t : State := { s with dev := { s.dev with capGaps := s.dev.capGaps.filter (fun x => x.stream != st) } }
    if g.count = 0 then t else t.gapRec g

/-- The gap in progress of a stream grows. -/
def Dev.gapGrow (d : Dev) (st n : Nat) : Dev :=
  { d with
    capGaps := d.capGaps.map (fun (x : CapGap) => if x.stream = st then { x with count := x.count + n } else x) }

/-- Units of a stream go unstored (R252): the gap in progress grows, or a new one begins after the last is written, as it also
does beyond 0xFFFF_FFFE units. A gap that a reset began keeps its reason. -/
def State.capMiss (s : State) (st reason n : Nat) (stamp : Int) : State :=
  if n = 0 then s else
  let first := (s.dev.v .capIdx st).toNat
  let fresh : State → State := fun t => { t with dev := { t.dev with capGaps := t.dev.capGaps ++ [⟨st, reason, first, stamp, n⟩] } }
  let t := match s.dev.capGaps.find? (fun g => g.stream == st) with
    | none => fresh s
    | some g =>
      if (g.reason = reason ∨ g.reason = 5) ∧ g.count + n ≤ 0xFFFFFFFE then
        { s with dev := s.dev.gapGrow st n }
      else fresh (s.capClose st)
  { t with dev := t.dev.sv .capIdx st ((first + n : Nat) : Int) }

/-- A byte of the four decisions from place `i` on, earliest in bits [1:0] (R248). -/
def decByte (l : List Nat) (i : Nat) : Nat :=
  (List.range 4).foldl (fun a k => a + l.getD (4 * i + k) 0 % 4 * 4 ^ k) 0

/-- Bytes of a unit of a source (R248); a decision takes a quarter. -/
def unitBytes (src : Nat) : Nat :=
  match src with
  | 0 => 1
  | 1 => 2
  | 3 => 96
  | 4 => 8
  | _ => 4

/-- The units of a source that a DATA record of at most 4064 payload bytes holds (R251). -/
def recMax (src : Nat) : Nat := if src = 2 then 16256 else 4064 / unitBytes src

/-- The payload of units of a source (R248). -/
def capEncode (src : Nat) (vals : List Nat) : List Byte :=
  if src = 2 then (List.range ((vals.length + 3) / 4)).flatMap (fun i => leBytes 1 (decByte vals i))
  else vals.flatMap (leBytes (unitBytes src))

/-- The kept units have reached CAP_LEN (R250, R255). -/
def Dev.capFull (d : Dev) : Bool :=
  d.get CAP_STATUS_STATE 0 == capTRIGGERED && d.get CAP_LEN_UNITS 0 != 0
    && decide ((d.get CAP_LEN_UNITS 0 : Int) ≤ d.v .capPos 0 - d.v .capBase 0)

/-- The first batch of units of a stream that waits. -/
def Dev.capNext (d : Dev) (st : Nat) : Option CapWait := d.capQ.find? (fun w => w.stream == st)

/-- The units of a stream that wait. -/
def Dev.capUnitsOf (d : Dev) (st : Nat) : List Nat := (d.capQ.filter (fun w => w.stream == st)).flatMap (·.vals)

/-- The stamp of the next unit of a batch. -/
def Dev.capStamp (d : Dev) (w : CapWait) : Int := w.stamp + d.uiTime w.lane w.skip

/-- Take `n` units of a stream off the units that wait. -/
def capTake (st : Nat) : Nat → List CapWait → List CapWait
  | _, [] => []
  | n, w :: l =>
    if w.stream ≠ st then w :: capTake st n l
    else if w.vals.length ≤ n then capTake st (n - w.vals.length) l
    else { w with skip := w.skip + n, vals := w.vals.drop n } :: l

/-- The units that wait go down by `n` of a stream. -/
def State.capDrop (s : State) (st n : Nat) : State := { s with dev := { s.dev with capQ := capTake st n s.dev.capQ } }

/-- The units of a stream before its gap in progress, if it has one, at most `n`. -/
def Dev.capBefore (d : Dev) (st n : Nat) : Nat :=
  match d.capGaps.find? (fun g => g.stream == st) with
  | none => n
  | some g => if d.v .capIdx st < (g.first : Nat) then min n (g.first - (d.v .capIdx st).toNat) else n

/-- A DATA record takes the next units of a stream, at most `n` (R251): those up to a gap in progress go alone, the gap's record comes
before later ones. Units that find the ring full of undrained records go into an OVERFLOW gap (R252, R255); units past the capture's
length are not written. -/
def State.capRecord (s : State) (st n : Nat) : State :=
  match s.dev.capNext st with
  | none => s
  | some w =>
    let m := s.dev.capBefore st (min (min n (recMax w.src)) (s.dev.capUnitsOf st).length)
    let pay := capEncode w.src ((s.dev.capUnitsOf st).take m)
    let stamp := s.dev.capStamp w
    let gapFirst := s.dev.capGaps.any (fun g => g.stream == st && decide ((g.first : Int) ≤ s.dev.v .capIdx st))
    let t := (if gapFirst then s.capClose st else s).capDrop st m
    if m = 0 ∨ s.dev.capFull then t
    else if !(s.dev.capRoom (recUnits (32 + pay.length) + 1)) then (s.capDrop st m).capMiss st 1 m stamp
    else
      let i := (t.dev.v .capIdx st).toNat
      let t1 := t.capWrite (capHdr 1 st (w.lane + 8 * w.src) 0 pay.length i stamp m ++ pay)
      { t1 with dev := t1.dev.sv .capIdx st ((i + m : Nat) : Int) }

/-- A stream's units that wait are written in full records and a partial one (R251). -/
def State.capFlush (s : State) (st : Nat) : State :=
  (List.range ((s.dev.capQ.filter (fun w => w.stream == st)).length + (s.dev.capUnitsOf st).length / 42 + 2)).foldl
    (fun t _ => if (t.dev.capNext st).isSome then t.capRecord st 16256 else t) s

/-- The source of a stream is available (R248). -/
def Dev.capAvail (d : Dev) (st : Nat) : Bool :=
  let n := d.get CAP_STREAM_LANE st
  match d.get CAP_STREAM_SOURCE st with
  | 0 => d.on LL_ADC_STATUS_READY n
  | 1 => decide (3 ≤ d.get BN_LINK_STATUS_STATE n)
  | 2 => decide (3 ≤ d.get BN_LINK_STATUS_STATE n)
  | 3 => d.hasCode n && d.on DEC_STATUS_CW_LOCK n
  | 4 => d.hasCode n && d.on DEC_STATUS_CW_LOCK n
  | _ => d.on SB_LSTATUS_RUNNING n

/-- Units of a stream that will not be stored (R252, R253): while its source is unavailable, `missing` units from the stamp `mstamp` on;
else the next `missing` of its units that wait, for which the store had no bandwidth. A partial record goes before. -/
def State.capLose (s : State) (st missing : Nat) (absent : Bool) (mstamp : Int) : State :=
  if absent then (if s.dev.capAvail st then s else (s.capFlush st).capMiss st 3 missing mstamp)
  else
    let m := min missing (s.dev.capUnitsOf st).length
    match s.dev.capNext st with
    | none => s
    | some w => (s.capDrop st m).capMiss st 2 m (s.dev.capStamp w)

/-- CAP_STREAM_RECORD (R251, R252): stream `st` loses `missing` units, absent ones or ones the store had no bandwidth for, and then writes
the next of its units that wait, at most `units` and at most a record's, as one DATA record. -/
def execCapStreamRecord (st : Fin 16) (missing : Nat) (absent : Bool) (mstamp : Int) (units : Nat) (s : State) : Res :=
  ok s (if !s.dev.capOn || !(s.dev.capLive st) || s.dev.capFull then s else (s.capLose st missing absent mstamp).capRecord st units)

/-! ### The end of a capture and the drain -/

/-- First address of the poison tail: the last 4 KiB of the store, or of the drain region (R254). -/
def Dev.capTailBase (d : Dev) : Nat :=
  if d.flag .capDrain 0 then lpBase + (d.v .capRegBase 0 + d.v .capRegSize 0).toNat * 0x10_0000 - 4096
  else capBase + capUnits * 64

/-- The capture ends (R250, R251, R255, R256): partial records and gaps in progress are written but for a TRUNC, the END record follows, the result
stands, DONE_EV is set. -/
def State.capEnd (s : State) (reason : Nat) : State :=
  if !s.dev.capOn then s else
  let armed := s.dev.get CAP_STATUS_STATE 0 == capARMED
  let s1 := if reason = 2 then s else (List.range 16).foldl (fun t st => (t.capFlush st).capClose st) s
  let base := if armed then (s1.dev.capRecs.headD (s1.dev.v .capPos 0).toNat) else (s1.dev.v .capBase 0).toNat
  let kept := (s1.dev.v .capPos 0).toNat - base
  let rec_ := capHdr 5 0 0 reason 0 kept s1.dev.actTime 0
  let drain := s1.dev.flag .capDrain 0
  let s2 : State := { s1 with dev := { s1.dev with capGaps := [], capQ := [], events := [] } }
  let s3 := if drain then s2.putUnits s2.dev.capTailBase (padUnits rec_)
    else if kept < capUnits then s2.capWrite rec_ else s2
  let d := s3.dev
  let d1 := ((d.sv .capBase 0 (base : Nat)).sv .capTail 0 (if drain then 1 else 0)).set CAP_STATUS_END_REASON 0 reason
  let d2 := (d1.set CAP_RESULT_START_VALUE 0 (if drain then 0 else base % capUnits * 64)).set CAP_RESULT_UNITS_VALUE 0
    ((d1.v .capPos 0).toNat - base)
  { s3 with dev := (d2.set CAP_STATUS_STATE 0 (if drain && !armed then capDRAINING else capDONE)).ev CAP_STATUS_DONE_EV 0 }

/-- The drain writes the next `n` units into the region; a poisoned word of the ring poisons its line there (R255). -/
def State.drainUnits (s : State) (n : Nat) : State :=
  let from_ := (s.dev.v .capDrained 0).toNat
  let ofs := from_ - (s.dev.v .capBase 0).toNat
  let t := (List.range n).foldl (fun (t : State) i =>
    let src := capBase + (from_ + i) % capUnits * 64
    let dst := lpBase + (s.dev.v .capRegBase 0).toNat * 0x10_0000 + (ofs + i) * 64
    let bad := (List.range 8).any (fun w => s.mem.poison.contains (src + 8 * w))
    let u := t.putUnits dst (s.mem.readBytes src 64)
    if bad then { u with mem := u.mem.setPoison (u.dev.phys dst) } else u) s
  { t with dev := t.dev.sv .capDrained 0 ((from_ + n : Nat) : Int) }

/-- Units of the region that records may take: all but the last 4 KiB (R254, R255). -/
def Dev.capLimit (d : Dev) : Nat := (d.v .capRegSize 0).toNat * 16384 - 64

/-- DRAIN_GRANULE_DONE (R255): the drain has written its granule completely and marks it; in the region's last granule the
capture ends TRUNC when the next record would enter the last 4 KiB. -/
def execDrainGranuleDone (s : State) : Res :=
  let d := s.dev
  let st := d.get CAP_STATUS_STATE 0
  let pos := (d.v .capPos 0).toNat
  let base := (d.v .capBase 0).toNat
  let ofs := (d.v .capDrained 0).toNat - base
  let g := ofs / 16384
  ok s (
    if (st ≠ capTRIGGERED ∧ st ≠ capDRAINING) ∨ !(d.flag .capDrain 0) then s
    else if g + 1 < (d.v .capRegSize 0).toNat then
      let n := (g + 1) * 16384 - ofs
      if base + ofs + n ≤ pos then
        let t := s.drainUnits n
        { t with mem := t.mem.mark ((d.v .capRegBase 0).toNat + g) }
      else s
    else if base + d.capLimit < pos then
      let last := ((d.capRecs.filter (fun r => decide (r ≤ base + d.capLimit))).getLast?).getD base
      let t := s.drainUnits (last - (base + ofs))
      let u : State := { t with dev := t.dev.sv .capPos 0 (last : Nat) }
      u.capEnd 2
    else s)

/-- DRAIN_FINISHED (R255): the rest of the ring is in the region and the state moves from DRAINING to DONE. -/
def execDrainFinished (s : State) : Res :=
  let d := s.dev
  let base := (d.v .capBase 0).toNat
  let top := min (d.v .capPos 0).toNat (base + d.capLimit)
  ok s (
    if d.get CAP_STATUS_STATE 0 ≠ capDRAINING then s
    else
      let t := s.drainUnits (top - (d.v .capDrained 0).toNat)
      { t with dev := t.dev.set CAP_STATUS_STATE 0 capDONE })

/-- CAP_COMPLETE (R250, R255): the kept units have reached CAP_LEN. -/
def execCapComplete (s : State) : Res := ok s (if s.dev.capFull then s.capEnd 1 else s)

/-- CAP_STOP (R256). -/
def execCapStop (s : State) : Res := ok s (s.capEnd 3)

/-- A POISON record for the 64-byte line at `a` (R254): into the record stream while records are written, else into the
poison tail. -/
def State.poisonRec (s : State) (a : Nat) : State :=
  let rec_ := capHdr 3 (if region a = .lp then 1 else 0) 0 0 0 (a / 64 * 64) s.dev.actTime 0
  let note := fun (t : State) => { t with dev := t.dev.ev CAP_STATUS_POISON_EV 0 }
  if s.dev.capOn then (if s.dev.capRoom 1 then note (s.capWrite rec_) else s)
  else if 64 ≤ s.dev.v .capTail 0 then { s with dev := s.dev.set CAP_STATUS_POISON_LOST 0 1 }
  else
    let t := s.putUnits (s.dev.capTailBase + 64 * (s.dev.v .capTail 0).toNat) (padUnits rec_)
    note { t with dev := t.dev.sv .capTail 0 (t.dev.v .capTail 0 + 1) }

/-- A stream ends with a GAP of `reason` after which no units follow (R252). -/
def State.capStreamEnd (s : State) (st reason : Nat) : State :=
  let u := (s.capFlush st).capClose st
  let t := u.gapRec ⟨st, reason, (u.dev.v .capIdx st).toNat, u.dev.actTime, 0xFFFFFFFF⟩
  { t with dev := t.dev.sv .capDead st 1 }

/-- The streams that record, of the given lanes. -/
def Dev.capStreams (d : Dev) (lanes : List Nat) : List Nat :=
  (List.range 16).filter (fun st => d.on CAP_STREAM_EN st && !(d.flag .capDead st) && lanes.contains (d.get CAP_STREAM_LANE st))

/-- All line lanes. -/
def allLines : List Nat := List.range 8

/-- The reseed of a bunch ends its streams, and the capture when no stream is left (R42, R252, R256). -/
def State.capReseed (s : State) (b : Nat) : State :=
  let l := s.dev.capStreams (linesOfBunch b)
  if !s.dev.capOn || l.isEmpty then s else
  let t := l.foldl (fun t st => t.capStreamEnd st 4) s
  if (t.dev.capStreams allLines).isEmpty then t.capEnd 4 else t

/-- Every stream receives a gap and the capture ends: orderly thermal stop (6, 5), life-cycle transition (7, 6) (R252, R256). -/
def State.capAbort (s : State) (gap reason : Nat) : State :=
  if !s.dev.capOn then s
  else ((s.dev.capStreams allLines).foldl (fun t st => t.capStreamEnd st gap) s).capEnd reason

/-- A LANE or BUNCH reset begins a RESET gap of the lanes' streams, which continue when their sources return (R252). -/
def Dev.capReset (d : Dev) (lanes : List Nat) : Dev :=
  if !d.capOn then d else
  let l := (d.capStreams lanes).filter (fun st => !(d.capGaps.any (fun g => g.stream == st)))
  { d with capGaps := d.capGaps ++ l.map (fun st => ⟨st, 5, (d.v .capIdx st).toNat + (d.capUnitsOf st).length, d.actTime, 0⟩) }

/-! ### The trigger bus, sending side -/

/-- The bits of a frame: start, TYPE, TAG, even parity, stop (R257). -/
def trigbBits (typ tag : Nat) : List Bool :=
  let f := [typ.testBit 1, typ.testBit 0, tag.testBit 5, tag.testBit 4, tag.testBit 3, tag.testBit 2, tag.testBit 1, tag.testBit 0]
  [true] ++ f ++ [f.foldl (fun a b => a != b) false, false]

/-- A frame is queued at the driver, or dropped with SEND_REJ (R258). -/
def Dev.trigPush (d : Dev) (typ tag : Nat) : Dev :=
  if !(d.on TRG_CTRL_ROLE 0) ∨ 4 ≤ d.trigbQ.length then d.ev TRG_STATUS_SEND_REJ 0
  else { d with trigbQ := d.trigbQ ++ [(typ, tag)] }

/-- A bus TRIGGER event is issued: at the driver on the bus, elsewhere by a message to the driver (R247, R258, R334). -/
def Dev.busTrigger (d : Dev) (tag : Nat) : Dev :=
  if d.on TRG_CTRL_ROLE 0 ∨ d.get BRM_FCTRL_DRIVER 0 = d.devNum then d.trigPush 0 tag
  else d.sendTo (d.get BRM_FCTRL_DRIVER 0) (d.message 3 (d.get BRM_FCTRL_DRIVER 0) tag)

/-! ### Capture trigger and sequencer -/

/-- The capture triggers (R247, R250, R251): the streams flush their partial records, the newest CAP_PRE units written before it are kept, and its TRIGGER record follows with
bit 0 of byte 3 set. The record itself takes one unit of the ring. -/
def State.capTrigger (s0 : State) (origin tag : Nat) (stamp : Int) : State :=
  let s := (List.range 16).foldl (fun t st => t.capFlush st) s0
  let d := s.dev
  let pos := (d.v .capPos 0).toNat
  let pre := min (d.get CAP_PRE_UNITS 0) (capUnits - 1)
  let base := (d.capRecs.find? (fun r => decide (pos ≤ r + pre))).getD pos
  let d1 := (((d.put CAP_STATUS_PRE_SHORT 0 (decide (pos < d.get CAP_PRE_UNITS 0))).sv .capBase 0 (base : Nat)).sv .capDrained 0
    (base : Nat)).set CAP_STATUS_STATE 0 capTRIGGERED
  ({ s with dev := d1.setWide CAP_TSTAMP_TIME 0 (timeBits stamp) } : State).capWrite (capHdr 4 origin tag 1 0 0 stamp 0)

/-- A TRIGGER record: the capture trigger itself when `trig` holds and the capture is ARMED (R247). -/
def State.trigRec (s : State) (trig : Bool) (origin tag : Nat) (stamp : Int) : State :=
  if trig && s.dev.get CAP_STATUS_STATE 0 == capARMED then s.capTrigger origin tag stamp
  else if s.dev.capOn && s.dev.capRoom 1 then s.capWrite (capHdr 4 origin tag 0 0 0 stamp 0)
  else s

/-- The sequencer fires (R247). It returns to state 0 (assumption 25). -/
def State.seqFire (s : State) (stamp : Int) : State :=
  let d := s.dev
  let t := s.trigRec (!(d.on CAP_CTRL_MODE 0)) 0 0 stamp
  let out := d.get CAP_CTRL_OUT_TAG 0
  let d1 := t.dev.each (List.range 8) (fun n e =>
    if (d.get CAP_CTRL_SLOE_OUT 0).testBit n then e.sv .slTrig n ((out + 1 : Nat) : Int) else e)
  let d2 := if d.on CAP_CTRL_FLEET_OUT 0 then d1.busTrigger out else d1
  { t with dev := ((d2.ev CAP_STATUS_TRIG_EV 0).sv .capSt 0 0).sv .capEntry 0 stamp }

/-- The input is selected in the masks of sequencer state `st` (R246). -/
def Dev.seqSel (d : Dev) (st input : Nat) : Bool := (d.get CAP_SEQ_M_MASK (3 * st + input / 32)).testBit (input % 32)

/-- A stamp lies within the window of the sequencer's state (R246). -/
def Dev.seqIn (d : Dev) (st : Nat) (stamp : Int) : Bool :=
  let w := d.get CAP_SEQ_CTRL_WINDOW st
  decide (d.v .capEntry 0 ≤ stamp) && (st == 0 || w == 0 || decide (stamp ≤ d.v .capEntry 0 + (w * 65536 : Nat)))

/-- An event reaches the sequencer (R246). -/
def State.seqEvent (s : State) (input : Nat) (stamp : Int) : State :=
  let d := s.dev
  let st := (d.v .capSt 0).toNat
  if !d.capOn || !(d.seqSel st input) || !(d.seqIn st stamp) then s
  else if st = 3 ∨ d.on CAP_SEQ_CTRL_NEXT st then s.seqFire stamp
  else { s with dev := (d.sv .capSt 0 ((st + 1 : Nat) : Int)).sv .capEntry 0 stamp }

/-- The timescale code of CAP_EVF.TM_DOM as `Dev.scale` takes it (R245). -/
def tmScale (c : Nat) : Nat := if c = 0 then 1 else if c = 1 then 2 else 0

/-- CAP_EVENT_INPUT (R245, R246): the oldest event of an input that was raised reaches the sequencer with its stamp. TMATCH is raised when
its timescale has reached the match time, once per arm, in a valid timescale; in the active timescale its stamp is the match time. -/
def execCapEventInput (input : Fin 67) (s : State) : Res :=
  let d := s.dev
  let c := tmScale (d.get CAP_EVF_TM_DOM 0)
  let m := bitsTime (d.wide CAP_TMATCH_TIME 0)
  ok s (
    if input.val = 64 then
      if d.flag .capTm 0 || !(d.scaleOk c) || decide (d.scale c < m) then s
      else ({ s with dev := d.sv .capTm 0 1 } : State).seqEvent 64 (if c = 0 then m else d.actTime)
    else match d.events.find? (fun e => e.1 == input.val) with
      | none => s
      | some e => ({ s with dev := { d with events := d.events.erase e } } : State).seqEvent input e.2)

/-- SEQ_WINDOW_EXPIRY (R246): the active timescale has passed the window and 1 µs. -/
def execSeqWindowExpiry (s : State) : Res :=
  let d := s.dev
  let w := d.get CAP_SEQ_CTRL_WINDOW (d.v .capSt 0).toNat
  okDev s (
    if d.capOn && d.v .capSt 0 != 0 && w != 0 && decide (d.v .capEntry 0 + ((w + 1000) * 65536 : Nat) ≤ d.actTime) then
      (d.sv .capSt 0 0).sv .capEntry 0 d.actTime
    else d)

/-! ### Arming -/

/-- The enabled streams. -/
def Dev.capEnabled (d : Dev) : List Nat := (List.range 16).filter (fun st => d.on CAP_STREAM_EN st)

/-- A stream names a source its lane's mode lacks (R249). -/
def Dev.capBadSource (d : Dev) (st : Nat) : Bool :=
  let src := d.get CAP_STREAM_SOURCE st
  let m := d.mode (d.get CAP_STREAM_LANE st)
  src == 7 || ((src == 3 || src == 4) && (m == none || m == some .l100))

/-- The refusal of an arm, 0 for none (R249). -/
def Dev.armErr (d : Dev) : Nat :=
  let en := d.capEnabled
  let drain := d.on CAP_CTRL_DRAIN 0
  let len := d.get CAP_LEN_UNITS 0
  let pre := d.get CAP_PRE_UNITS 0
  let size := d.get CAP_DRAIN_SIZE_GRANULE 0
  if d.capBusy then 1
  else if en.isEmpty then 2
  else if en.any (fun st => d.capBadSource st) || en.any (fun a => en.any (fun b => a != b && d.capSrcByte a == d.capSrcByte b)) then 3
  else if drain = false ∧ (len = 0 ∨ capUnits < len) then 4
  else if (drain = false ∧ len < pre) ∨ capUnits < pre then 5
  else if drain ∧ (size = 0 ∨ d.granules < d.get CAP_DRAIN_BASE_GRANULE 0 + size ∨ d.lpTrained = false) then 6
  else 0

/-- CAP_ARM (R249): the previous result is discarded and the capture is ARMED, or ARM_ERR says why not. A FILL whose remaining
range the drain region overlaps will stop PREEMPTED (R284). -/
def execCapArm (s : State) : Res :=
  let d := s.dev
  let e := d.armErr
  okDev s (
    if e ≠ 0 then d.set CAP_STATUS_ARM_ERR 0 e else
    let d0 : Dev := { d with capRecs := [], capGaps := [], capQ := [], events := [] }
    let d1 := d0.each [.capSt, .capTm, .capPos, .capBase, .capDrained, .capTail] (fun x y => y.sv x 0 0)
    let d2 := d1.each (List.range 16) (fun st y => (y.sv .capIdx st 0).sv .capDead st 0)
    let d3 := (((d2.sv .capEntry 0 d.actTime).sflag .capDrain 0 (d.on CAP_CTRL_DRAIN 0)).sv .capRegBase 0
      (d.get CAP_DRAIN_BASE_GRANULE 0 : Nat)).sv .capRegSize 0 (d.get CAP_DRAIN_SIZE_GRANULE 0 : Nat)
    let d4 := d3.each [CAP_STATUS_ARM_ERR, CAP_STATUS_PRE_SHORT, CAP_STATUS_END_REASON, CAP_STATUS_POISON_LOST,
      CAP_RESULT_START_VALUE, CAP_RESULT_UNITS_VALUE] (fun f y => y.set f 0 0)
    let d5 := (d4.setWide CAP_TSTAMP_TIME 0 0).set CAP_STATUS_STATE 0 capARMED
    let next := d.get MEM_FILL_STATUS_NEXT 0
    if d.on MEM_FILL_STATUS_BUSY 0 && d5.hitsRegion next ((d.v .fillEnd 0).toNat - next) then d5.sv .fillPre 0 1 else d5)

/-- CAP_FORCE (R247): the capture triggers at once, in either mode. -/
def execCapForce (s : State) : Res := ok s (s.trigRec true 2 0 s.dev.actTime)

/-- CAP_SW_EV (R245): the SW input is raised. -/
def execCapSwEv (s : State) : Res := okDev s (s.dev.raise 66 s.dev.actTime)

/-! ### The trigger bus -/

/-- TRG_SEND_WRITE (R258): a write of TRG_SEND. A CAL is sent only through TRG_CAL; SYNC carries tag 0 and TIME bit 0 of the
domain alone (R257). -/
def execTrgSendWrite (w : Word) (s : State) : Res :=
  let d := (s.dev.set TRG_SEND_TYPE 0 w.toNat).set TRG_SEND_TAG 0 (w.toNat / 4)
  let typ := d.get TRG_SEND_TYPE 0
  let tag := d.get TRG_SEND_TAG 0
  okDev s (
    if !(w.toNat.testBit 8) then d
    else if typ = 3 then d.ev TRG_STATUS_SEND_REJ 0
    else d.trigPush typ (if typ = 1 then 0 else if typ = 2 then tag % 2 else tag))

/-- The device acts late on bus events by its own delay (R259, R260); never the driver. -/
def Dev.busUncal (d : Dev) : Bool := d.on TRG_STATUS_UNCAL 0 && !(d.on TRG_CTRL_ROLE 0)

/-- TRIGB_FRAME_LAUNCH (R258, R259): the frame at the head of the queue is sent; the driver acts on it at launch + DMAX. -/
def execTrigbFrameLaunch (s : State) : Res :=
  let d := s.dev
  okDev s (
    match d.trigbQ with
    | [] => d
    | (typ, tag) :: rest =>
      let d1 := ({ d with trigbQ := rest } : Dev).emit (.trigb (trigbBits typ tag))
      if typ = 3 then d1 else { d1 with busEvs := d1.busEvs ++ [(typ, tag, false)] })

/-- TRIGB_FRAME_RECEIVED (R257, R259, R260): the 11 bits of a frame. A bad one is ignored and counted; a CAL of this device's
number makes a listener's probe due; a CAL of the device under calibration is its probe at the driver; other events wait for
their fleet instant. -/
def execTrigbFrameReceived (bits : BitVec 11) (s : State) : Res :=
  let d := s.dev
  let b := fun (i : Nat) => bits.getMsbD i
  let num := fun (i n : Nat) => (List.range n).foldl (fun a k => 2 * a + b2n (b (i + k))) 0
  let typ := num 1 2
  let tag := num 3 6
  let parity := (List.range 9).foldl (fun a k => a != b (1 + k)) false
  okDev s (
    if !(d.on TRG_CTRL_EN 0) then d
    else if parity || b 10 then d.count TRG_CNT_ERR 0 1
    else
      let d1 := d.count TRG_CNT_FRAMES 0 1
      if typ ≠ 3 then { d1 with busEvs := d1.busEvs ++ [(typ, tag, d.busUncal)] }
      else if d.on TRG_CTRL_ROLE 0 then
        (if d.v .trgCal 0 = 3 ∧ d.v .trgCalDev 0 = (tag : Nat) then d1.sv .trgCal 0 4 else d1)
      else if tag = d.devNum ∧ d.v .trgCal 0 = 0 then (d1.sv .trgCal 0 1).set TRG_STATUS_CAL_BUSY 0 1
      else d1)

/-- A trigger-bus TIME event of a domain is stamped at the fleet instant (R229); at the root it is kept for the broadcast
(R335). -/
def Dev.busTimeEvent (d : Dev) (k : Nat) (un : Bool) : Dev :=
  (((((d.sflag .busTimeUn k un).sv .busTau k (d.v .busAge k)).sv .busAge k 0).sv .busTime k (d.time k)).sv .busTimeOn k (min 2 (d.v .busTimeOn k + 1))).sv .tmsgPend 0
    ((k + 1 : Nat) : Int)

/-- A bus TRIGGER of the accepted tag acts (R245, R247): in FLEET mode the first one after arm is the capture trigger; it is
also the sequencer's BUS input. -/
def State.busTrig (s : State) (tag : Nat) : State :=
  if tag ≠ s.dev.get CAP_CTRL_BUS_TAG 0 then s else
  let now := s.dev.actTime
  let t := if s.dev.on CAP_CTRL_MODE 0 && s.dev.get CAP_STATUS_STATE 0 == capARMED then s.trigRec true 1 tag now else s
  { t with dev := t.dev.raise 65 now }

/-- BUS_EVENT_ACT (R259): the fleet instant of the oldest waiting bus event arrives. -/
def execBusEventAct (s : State) : Res :=
  ok s (
    match s.dev.busEvs with
    | [] => s
    | (typ, tag, un) :: rest =>
      let t : State := { s with dev := { s.dev with busEvs := rest } }
      if typ = 0 then t.busTrig tag
      else if typ = 1 then
        { t with dev := if t.dev.on SB_CTRL_TRG_SYNC 0 then (t.dev.sbSync).put SB_STATUS_SYNC_UNCAL 0 un else t.dev }
      else { t with dev := t.dev.busTimeEvent (tag % 2) un })

/-- TRG_CAL_START (R260): a write of TRG_CAL with START, `dev` its DEV; dropped at a listener or while CAL_BUSY. -/
def execTrgCalStart (dev : Fin 64) (s : State) : Res :=
  let d := s.dev.set TRG_CAL_DEV 0 dev
  okDev s (
    if !(d.on TRG_CTRL_ROLE 0) || d.on TRG_STATUS_CAL_BUSY 0 then d
    else if 4 ≤ d.trigbQ.length then d.ev TRG_STATUS_SEND_REJ 0
    else ((d.trigPush 3 dev).set TRG_STATUS_CAL_BUSY 0 1).sv .trgCal 0 3 |>.sv .trgCalDev 0 (dev.val : Nat))

/-- CAL_PROBE_LAUNCH (R260): the listener drives its probe. -/
def execCalProbeLaunch (s : State) : Res :=
  let d := s.dev
  okDev s (if d.v .trgCal 0 = 1 then (d.sv .trgCal 0 2).emit (.trigb (trigbBits 3 d.devNum)) else d)

/-- CAL_ANSWER_LAUNCH (R260): the driver answers. -/
def execCalAnswerLaunch (s : State) : Res :=
  let d := s.dev
  okDev s (
    if d.v .trgCal 0 = 4 then
      ((d.sv .trgCal 0 0).set TRG_STATUS_CAL_BUSY 0 0).emit (.trigb (trigbBits 3 (d.v .trgCalDev 0).toNat))
    else d)

/-- DMAX in 10 ps, at most 4000 (R259). -/
def Dev.dmax (d : Dev) : Nat := min 4000 (d.get TRG_ALIGN_DMAX 0)

/-- A listener's calibration fails (R260): UNCAL, CAL_FAIL, d = 0. -/
def Dev.calFail (d : Dev) : Dev :=
  ((((d.set TRG_STATUS_UNCAL 0 1).ev TRG_STATUS_CAL_FAIL 0).set TRG_ALIGN_D 0 0).set TRG_STATUS_CAL_BUSY 0 0).sv .trgCal 0 0

/-- CAL_ANSWER_RECEIVED (R260): the answer arrives `r` ps after the probe's launch; d = (r - 256 ns) / 2. -/
def execCalAnswerReceived (r : Nat) (s : State) : Res :=
  let d := s.dev
  let x := rdiv ((r : Int) - 256000) 20
  okDev s (
    if d.v .trgCal 0 ≠ 2 then d
    else
      let d1 := d.count TRG_CNT_FRAMES 0 1
      if x < 0 ∨ (d.dmax : Int) < x then d1.calFail
      else (((((d1.set TRG_ALIGN_D 0 x.toNat).set TRG_STATUS_UNCAL 0 0).ev TRG_STATUS_CAL_OK 0).set TRG_STATUS_CAL_BUSY 0 0).sv .trgCal 0 0))

/-- CAL_TIMEOUT (R260): no answer at the listener, or no probe at the driver, within 2 µs. -/
def execCalTimeout (s : State) : Res :=
  let d := s.dev
  okDev s (
    if d.v .trgCal 0 = 2 then d.calFail
    else if d.v .trgCal 0 = 3 then ((d.ev TRG_STATUS_NO_PROBE 0).set TRG_STATUS_CAL_BUSY 0 0).sv .trgCal 0 0
    else d)

/-- A write of TRG_ALIGN.DMAX below d sets UNCAL (R260). -/
def Dev.dmaxWritten (d : Dev) : Dev := if d.dmax < d.get TRG_ALIGN_D 0 then (d.set TRG_STATUS_UNCAL 0 1) else d

end Sys2Proof.Machine
end

