-- ==== Sys2Proof/Machine/Scrub.lean ====
section
/-! DEFINITION. The scrubber: what it corrects, and the action it takes on an uncorrectable error (R270 to R275, R284). -/

namespace Sys2Proof.Machine

/-- The scrubber does not visit the location (R264, R270): an unmarked granule, the spare granule, a memory under fill or wipe,
the boot ROM, a memory whose period is 0. -/
def State.scrubSkips (s : State) (m loc : Nat) : Bool :=
  let d := s.dev
  match m with
  | 0 => d.on MEM_STATUS_ZFILL 0 || d.get ECC_SCRUB0_MSRAM 0 == 0
  | 5 => d.on MEM_STATUS_ZFILL 0 || d.get ECC_SCRUB0_MSRAM 0 == 0
  | 1 => d.on MEM_STATUS_ZFILL 0 || d.bothOff || d.get ECC_SCRUB0_CAP 0 == 0
  | 6 => d.on MEM_STATUS_WIPE 0 || d.flag .lpSelf 0 || d.isRsvd loc || d.get ECC_SCRUB1_HOURS 0 == 0
      || !(s.mem.marked.contains (granuleOf loc))
  | 8 => true
  | _ => d.on MEM_STATUS_ZFILL 0 || d.get ECC_SCRUB0_TILE 0 == 0

/-- The word's run of scrub passes with a corrected error; the third one enters it in a spare (R274). -/
def State.ceRun (s : State) (a : Nat) (seen : Bool) : State :=
  let u := unitOf a
  let n := ((s.dev.ceStreak.find? (fun e => e.1 == u)).map (·.2)).getD 0 + 1
  let rest := s.dev.ceStreak.filter (fun e => e.1 != u)
  if !seen then { s with dev := { s.dev with ceStreak := rest } }
  else if n < 3 then { s with dev := { s.dev with ceStreak := (u, n) :: rest } }
  else ({ s with dev := { s.dev with ceStreak := rest } } : State).mspareEnter u false

/-- The action on an uncorrectable error the scrubber finds, with its code (R272). -/
def State.scrubAct (s : State) (m loc : Nat) (lane : Nat) (good : Bool) : State × Nat :=
  match m with
  | 0 => (s.ueWord loc, 0)
  | 1 => (s.poisonRec loc, 3)
  | 2 => ({ s with dev := s.dev.tileFail (loc / 4096 % 2) (loc % 4096) (if good then none else some lane) }, 1)
  | 3 => ({ s with dev := ((s.dev.ev LL_EQ_STATUS_FALLBACK lane).sv .eqPendRestore lane 1).sv .eqUe lane 1 }, 2)
  | 6 => if s.dev.hitsRegion (granuleOf loc) 1 then (s.poisonRec loc, 3) else s.watchLine loc
  | 7 => ({ s with mem := (List.range 32).foldl (fun mm k => mm.unmark (32 * loc + k)) s.mem }, 7)
  | _ => (s, 0)

/-- SCRUB_VISIT (R270): a visit to a location of memory `m`, coded as ECC_UE_INFO.MEM, `loc` in the form of ECC_UE_ADDR; `f`
is what the code shows, `race` that an initiator has written the location before the write-back (R271), `wrap` that a new
scrub period of the memory begins. For tile coefficients `lane` is the lane they belong to; for tile configuration it is the
lane that owns the unit and `good` says that the unit has a good copy (R46). -/
def execScrubVisit (m : Fin 9) (loc : Nat) (f : EccFind) (race wrap : Bool) (lane : Fin 8) (good : Bool) (s : State) : Res :=
  let g := if m.val = 3 ∨ m.val = 4 then 2 else m.val
  let s0 : State := if wrap then { s with dev := s.dev.sv .ceWin g 0 } else s
  let mem := decide (m.val = 0 ∨ m.val = 1 ∨ m.val = 6)
  let k := s.dev.phys (unitOf loc)
  ok s (
    if s.scrubSkips m loc then s0
    else if mem && s.mem.poison.contains k then (if m.val = 0 then s0.ceRun loc false else s0)
    else match f with
      | .clean => if m.val = 0 then s0.ceRun loc false else s0
      | .ce =>
        let s1 : State := { s0 with dev := s0.dev.ceSeen m (loc % 2 ^ 32) (loc / 2 ^ 32) }
        if m.val = 0 then s1.ceRun loc true else s1
      | .aliased x => if mem && !race then { s0 with mem := (s0.mem.writeBytes k (decodedUnit loc x)).setPoison k } else s0
      | .ue x =>
        let s1 : State := if mem && !race then { s0 with mem := (s0.mem.writeBytes k (decodedUnit loc x)).setPoison k } else s0
        let s2 := if m.val = 0 then s1.ceRun loc false else s1
        let r := s2.scrubAct m loc lane good
        { r.1 with dev := (r.1.dev.uePush ⟨loc % 2 ^ 32, loc / 2 ^ 32, m, false, r.2⟩).sv .scrubEv 0 1 })

/-- A read of ECC_UE_INFO removes the head entry (R273); source 40 stays pending while an entry the scrubber made is held
(assumption 26). -/
def Dev.uePop (d : Dev) : Dev :=
  let l := d.ueLog.drop 1
  (({ d with ueLog := l } : Dev).ueShow).sflag .scrubEv 0 (l.any (fun e => !e.demand))

end Sys2Proof.Machine
end

