-- ==== Sys2Proof/Machine/Manage.lean ====
section
/-! DEFINITION. The interrupt controller's claims (R301), software interrupts (R297), performance counters and their snapshots
(R302 to R306). -/

namespace Sys2Proof.Machine

/-! ### Claims -/

/-- Source `n` qualifies for core `c` (R301). -/
def Dev.qualifies (d : Dev) (c n : Nat) : Bool :=
  d.srcPending n && !(d.flag .irqClaimed n) && decide (d.get IRQ_THR_THR c < d.get IRQ_SRC_CFG_PRIO n)
    && (d.get IRQ_SRC_CFG_CORES n).testBit c

/-- The source a claim by core `c` returns, or 0x1FF: highest priority, lowest number among equals (R301). -/
def Dev.claimOf (d : Dev) (c : Nat) : Nat :=
  let l := (List.range 256).filter (fun n => d.qualifies c n)
  let best := l.foldl (fun a n => max a (d.get IRQ_SRC_CFG_PRIO n)) 0
  (l.find? (fun n => d.get IRQ_SRC_CFG_PRIO n == best)).getD 0x1FF

/-- The external interrupt of core `c` (R300). -/
def Dev.coreIrq (d : Dev) (c : Nat) : Bool := d.claimOf c != 0x1FF

/-- IRQ_CLAIM_READ (R301): core `c` reads its IRQ_CLAIM. -/
def execIrqClaimRead (c : Fin 4) (s : State) : Res :=
  let d := s.dev
  let n := d.claimOf c
  okDev s ((if n = 0x1FF then d else d.sv .irqClaimed n 1).emit (.readData c (0x30504 + 16 * c) .ok n))

/-- IRQ_COMPLETE_WRITE (R301): the claim of source `n` ends, if it is claimed. -/
def execIrqCompleteWrite (n : Fin 256) (s : State) : Res := okDev s (s.dev.sv .irqClaimed n 0)

/-- IRQ_SW_SET (R297): software interrupt sources become pending. -/
def execIrqSwSet (bits : BitVec 4) (s : State) : Res :=
  okDev s (s.dev.set IRQ_SW_PEND 0 (Nat.lor (s.dev.get IRQ_SW_PEND 0) bits.toNat))

/-! ### Counters -/

/-- The domain of monitor unit `u` is off (R302). -/
def Dev.prfOff (d : Dev) (u : Nat) : Bool := d.flag .offMgmt 0 || (decide (4 ≤ u) && d.flag .offBunch (u - 4))

/-- PRF_OVERFLOW (R303): counter `k` of unit `u` passes its largest value; `pc` is the address of R303 for a core. -/
def execPrfOverflow (u : Fin 6) (k : Fin 8) (pc : BitVec 64) (s : State) : Res :=
  let d := s.dev
  okDev s (
    if d.prfOff u || d.on PRF_CTRL_FREEZE 0 then d else
    let d1 := (d.prfSet u k 0).setBit PRF_OVF_OVF u k true
    if u.val < 4 then (d1.set PRF_OVF_PC_LO_PC u pc.toNat).set PRF_OVF_PC_HI_PC u (pc.toNat / 2 ^ 32) else d1)

/-- Pool clock cycles of a bunch in one tclk, in units of 1 / (3 × 10^14): 1.0003 times the nominal dpclk, for 0.8 ns (R15 to R17); 0
without a seed. -/
def Dev.poolRate (d : Dev) (b : Nat) : Nat :=
  match (d.bunch b).ports with
  | [] => 0
  | p :: _ => symbolRate3 p.mode / symbolsPerDpclk p.mode * 80024

/-- One tclk of the monitors' cycle counters: 1.2 mclk for a core, whose WFI cycles are counted with them, and the pool clock for a
bunch (R302). -/
def Dev.prfTick (d : Dev) : Dev :=
  if d.on PRF_CTRL_FREEZE 0 then d else
  d.each (List.range 6) (fun u e =>
    if e.prfOff u then e else
    let x := (e.v .prfFrac u).toNat + (if u < 4 then 360000000000000 else d.poolRate (u - 4))
    let e1 := (e.cycAdd u (x / 300000000000000)).sv .prfFrac u (x % 300000000000000 : Nat)
    if u < 4 && d.flag .coreWfi u then e1.coreEvent u 11 (x / 300000000000000) false else e1)

/-- PRF_CLEAR (R302): every counter and PRF_OVF. -/
def execPrfClear (s : State) : Res :=
  okDev s (s.dev.each (List.range 6) (fun u e =>
    (((e.each (List.range 8) (fun k x => x.prfSet u k 0)).set PRF_CYC_LO_COUNT u 0).set PRF_CYC_HI_COUNT u 0).set PRF_OVF_OVF u 0))

/-! ### Snapshots -/

/-- Base of the snapshot ring. -/
def Dev.snapBase (d : Dev) : Nat := d.get PRF_SNAP_BASE_LO_VALUE 0 + d.get PRF_SNAP_BASE_HI_VALUE 0 % 256 * 2 ^ 32

/-- The refusal of an EN write, 0 for none (R304). -/
def State.snapErr (s : State) : Nat :=
  let b := s.dev.snapBase
  let n := s.dev.get PRF_SNAP_SIZE_VALUE 0
  let inSram := decide (sramBase ≤ b ∧ b + n ≤ shadowBase)
  let inLp := decide (lpBase ≤ b ∧ b + n ≤ 0xA0_0000_0000)
  if b % 512 ≠ 0 ∨ n % 512 ≠ 0 ∨ n = 0 then 1
  else if !inSram && !inLp then 2
  else if inLp && !((List.range (granuleOf (b + n - 1) + 1 - granuleOf b)).all (fun i => s.mem.marked.contains (granuleOf b + i))) then 3
  else 0

/-- PRF_SNAP_ENABLE (R304, R306): EN is written 1; both pointers are zeroed, or ERR says why not. -/
def execPrfSnapEnable (s : State) : Res :=
  let d := s.dev
  let e := s.snapErr
  okDev s (
    if d.on PRF_SNAP_CTRL_EN 0 then d
    else if e ≠ 0 then d.set PRF_SNAP_STATUS_ERR 0 e
    else (((((d.set PRF_SNAP_STATUS_ERR 0 0).set PRF_SNAP_CTRL_EN 0 1).set PRF_SNAP_WP_OFS 0 0).set PRF_SNAP_RP_OFS 0 0).sv .prfSeq 0 0).sv
      .prfLost 0 0)

/-- The period is counted in mclk: the bunch is off or has no seed (R304). -/
def Dev.snapMclk (d : Dev) : Bool :=
  let b := d.get PRF_SNAP_CTRL_BUNCH 0
  d.flag .offBunch b || (d.bunch b).ports.isEmpty

/-- The counters of a unit in a snapshot record: cycle counter, then the eight counters; zeros for a unit that is off (R305). -/
def Dev.snapUnit (d : Dev) (u : Nat) : List Byte :=
  if d.prfOff u then leBytes 72 0
  else leBytes 4 (d.get PRF_CYC_LO_COUNT u) ++ leBytes 4 (d.get PRF_CYC_HI_COUNT u)
    ++ (List.range 8).flatMap (fun k => leBytes 8 (d.prfCnt u k))

/-- A snapshot record (R305). -/
def Dev.snapRecord (d : Dev) : List Byte :=
  let flags := b2n (d.flag .offBunch 0) + 2 * b2n (d.flag .offBunch 1) + 4 * b2n (!(d.scaleOk 0)) + 8 * b2n d.snapMclk
  leBytes 1 0x50 ++ leBytes 1 1 ++ leBytes 2 8 ++ leBytes 4 (d.v .prfSeq 0).toNat ++ leBytes 12 (timeBits d.actTime)
    ++ leBytes 1 flags ++ leBytes 1 (min 255 (d.v .prfLost 0).toNat) ++ leBytes 2 0
    ++ leBytes 3 (d.get TOP_GEN_GEN 0) ++ leBytes 4 (d.get TOP_GEN_GEN 1) ++ leBytes 1 0
    ++ (List.range 6).flatMap (fun u => d.snapUnit u)
    ++ (List.range 6).flatMap (fun u => leBytes 1 (if d.prfOff u then 0 else d.get PRF_OVF_OVF u)) ++ leBytes 42 0

/-- A record is lost (R306). -/
def Dev.snapLost (d : Dev) : Dev :=
  ((d.count PRF_SNAP_STATUS_LOST 0 1).ev PRF_SNAP_STATUS_LOST_EV 0).sv .prfLost 0 (d.v .prfLost 0 + 1)

/-- PRF_SNAPSHOT_RECORD (R304 to R306): N periods have passed. -/
def execPrfSnapshotRecord (s : State) : Res :=
  let d := s.dev
  let size := max 512 (d.get PRF_SNAP_SIZE_VALUE 0)
  let wp := (d.get PRF_SNAP_WP_OFS 0 + 512) % size
  let full := wp == d.get PRF_SNAP_RP_OFS 0
  ok s (
    if !(d.on PRF_SNAP_CTRL_EN 0) then s
    else if full && !(d.on PRF_SNAP_CTRL_MODE 0) then { s with dev := d.snapLost }
    else
      let t := s.putUnits (d.snapBase + d.get PRF_SNAP_WP_OFS 0) d.snapRecord
      let d1 := (((t.dev.set PRF_SNAP_WP_OFS 0 wp).ev PRF_SNAP_STATUS_REC_EV 0).sv .prfSeq 0 (d.v .prfSeq 0 + 1)).sv .prfLost 0 0
      { t with dev := if full then (d1.set PRF_SNAP_RP_OFS 0 ((d.get PRF_SNAP_RP_OFS 0 + 512) % size)).snapLost else d1 })

/-- PRF_SNAP_RP_WRITE (R306): firmware consumes records. -/
def execPrfSnapRpWrite (v : Word) (s : State) : Res := okDev s (s.dev.set PRF_SNAP_RP_OFS 0 (v.toNat / 512 * 512))

end Sys2Proof.Machine
end

