-- ==== Sys2Proof/Machine/Fleet.lean ====
section
/-! DEFINITION. The link layer's receive side and retry, completions to the device's own units, enumeration and messages
(R320 to R335), and what a port that leaves ACTIVE does to them (R316, R330). -/

namespace Sys2Proof.Machine

/-! ### Completions at the device's own units -/

/-- Host reads outstanding, in PCI_STATUS (R336). -/
def Dev.pcieTags (d : Dev) : Dev :=
  let n := (d.ownReqs.filter (fun r => r.unit == 0)).length
  (d.set PCI_STATUS_TAGS 0 (min 1023 n)).put PCI_STATUS_TAGS_FULL 0 (decide (1024 ≤ n))

/-- The PCIe completion of a STATUS (R327, R336). -/
def pcieKind (status : Nat) : PcieCpl :=
  if status = 6 then .poisoned else if status = 1 then .unsupported else if status = 5 ∨ status = 9 then .abort else .success

/-- A host read is answered; a STATUS other than OK is logged (R336). -/
def Dev.pcieDone (d : Dev) (tag dev status : Nat) (data : List Nat) : Dev :=
  let d1 := d.emit (.pcieCpl tag (pcieKind status) data)
  if status = 0 then d1
  else (((d1.set PCI_CPL_LOG_STATUS 0 status).set PCI_CPL_LOG_DEV 0 dev).set PCI_CPL_LOG_TAG 0 tag).ev PCI_STATUS_CPL_EV 0

/-- A completion without data (R320, R321) of request `k` with a STATUS. -/
def Dev.cplFor (d : Dev) (k : Pkt) (status : Nat) : Pkt :=
  { typ := 5, be := 0, len := 0, req := k.req, unit := k.unit, tag := k.tag, gen := k.gen, code := d.devNum, addr := 0,
    status := status, data := [] }

/-- A completion with data of request `k` (R321). -/
def Dev.cpldFor (d : Dev) (k : Pkt) (status : Nat) (data : List Nat) : Pkt :=
  { d.cplFor k status with typ := 6, len := data.length, data := data }

/-- The request of the parent that this device's enumeration answers (R332). -/
def Dev.enReq (d : Dev) : Pkt :=
  { typ := 4, be := 0xF, len := 1, req := (d.v .enParReq 0).toNat, unit := (d.v .enParUnit 0).toNat, tag := (d.v .enParTag 0).toNat,
    gen := (d.v .enParGen 0).toNat, code := 1, addr := 0, status := 0, data := [] }

/-- Enumeration of the subtree is complete (R332): the size is reported; the root sets ENUM_EV. -/
def Dev.enumEnd (d : Dev) : Dev :=
  let size := 1 + d.get BRM_ROUTE_S0 0 + d.get BRM_ROUTE_S1 0
  let d1 := ((d.sv .enStep 0 0).set BRM_FSTATUS_ENUM_BUSY 0 0).set BRM_FSTATUS_FLEET 0 size
  if d.on BRM_FCTRL_ROOT 0 then d1.ev BRM_FSTATUS_ENUM_EV 0
  else if d.flag .enPar 0 then (d1.sv .enPar 0 0).sendPort 0 none (d1.cpldFor d1.enReq 0 [size])
  else d1

/-- Serve downstream port `q` (R332): an ACTIVE port is offered the next number and its answer awaited; at depth 6 it is left
unserved. -/
def Dev.enumOffer (d : Dev) (q : Nat) : Dev :=
  let next := d.devNum + 1 + (if q = 2 then d.get BRM_ROUTE_S0 0 else 0)
  let depth := d.get BRM_FSTATUS_DEPTH 0
  if !(d.brmActive q) then d
  else if 6 ≤ depth then d.ev BRM_FSTATUS_DEPTH_EV 0
  else
    let k : Pkt :=
      { typ := 4, be := 0xF, len := 1, req := d.devNum, unit := 2, tag := q - 1, gen := d.devGen, code := 1,
        addr := next % 64 * 2 ^ 40, status := 0, data := [next % 128 + 2 ^ 8 * (depth + 1)] }
    ({ d with ownReqs := d.ownReqs ++ [⟨2, q - 1, next % 64⟩] } : Dev).sv .enStep 0 (q : Nat) |>.sendPort q none k

/-- Go on with port 2, then end, while no answer is awaited. -/
def Dev.enumSecond (d : Dev) : Dev :=
  let d1 := d.enumOffer 2
  if d1.v .enStep 0 = 2 then d1 else d1.enumEnd

/-- A device numbered `base` at a depth enumerates its subtree (R332). -/
def Dev.enumStart (d : Dev) (base depth : Nat) : Dev :=
  let d1 := (((d.set BRM_FSTATUS_DEVNUM 0 base).set BRM_FSTATUS_NUMBERED 0 1).set BRM_FSTATUS_DEPTH 0 depth).set BRM_FSTATUS_ENUM_BUSY 0 1
  let d2 := (((d1.set BRM_ROUTE_S0 0 0).set BRM_ROUTE_S1 0 0).sv .enStep 0 0).enumOffer 1
  if d2.v .enStep 0 = 1 then d2 else d2.enumSecond

/-- The child of the awaited port has answered with its size, or with none (R332). -/
def Dev.enumAnswer (d : Dev) (q status : Nat) (data : List Nat) : Dev :=
  if d.v .enStep 0 ≠ (q : Nat) then d else
  let size := if status = 0 then data.headD 0 % 128 else 0
  let d1 := (d.evIf (status == 1) BRM_FSTATUS_OVF_EV 0).sv .enStep 0 0
  if q = 1 then (d1.set BRM_ROUTE_S0 0 size).enumSecond else (d1.set BRM_ROUTE_S1 0 size).enumEnd

/-- A completion reaches one of the device's own units (R329); one without an outstanding request is late. -/
def Dev.ownDone (d : Dev) (unit tag status : Nat) (data : List Nat) : Dev :=
  match d.ownReqs.find? (fun r => r.unit == unit && r.tag == tag) with
  | none => (d.count BRM_FCNT_LATE_CPL 0 1).ev BRM_FSTATUS_LATE_EV 0
  | some r =>
    let d1 : Dev := { d with ownReqs := d.ownReqs.erase r }
    if unit = 0 then (d1.pcieDone tag r.dev status data).pcieTags
    else if unit = 1 then { d1 with brRes := some (status, data) }
    else if unit = 2 then d1.enumAnswer (tag + 1) status data
    else d1

/-! ### A port leaves ACTIVE -/

/-- What becomes of the packets of a port that leaves ACTIVE (R330): tracked requests complete ABORTED_LINK, the replay buffer
is discarded and its posted packets counted, completions that wait to go upstream are discarded. -/
def Dev.linkAbort (d : Dev) (p : Nat) : Dev :=
  let mine := d.tracked.filter (fun t => t.1 == p)
  let lost := (d.replay.filter (fun r => r.1 == p && pktCls r.2.2 == 0)).length
  let d1 : Dev := { d with
    tracked := d.tracked.filter (fun t => t.1 != p),
    replay := d.replay.filter (fun r => r.1 != p),
    brmFifo := d.brmFifo.filter (fun b => b.port != p),
    txWait := d.txWait.filter (fun e => !(p == 0 && e.port == 0 && pktIsCpl e.pkt)) }
  let d2 := d1.count BRM_FCNT2_P_LOST 0 lost
  if p = 0 ∨ mine.isEmpty then d2 else
  let d3 := (d2.count BRM_FCNT2_ABORT_LINK 0 mine.length).ev BRM_FSTATUS_LINK_ABORT_EV 0
  d3.each mine (fun t e =>
    if t.2.req = e.devNum then e.ownDone t.2.unit t.2.tag 5 [] else e.sendTo t.2.req (e.cplFor t.2 5))

/-- A port goes to a state other than ACTIVE; leaving ACTIVE is counted (R316). -/
def Dev.brmTo (d : Dev) (p st : Nat) : Dev :=
  let d1 := (d.set BRM_PSTATUS_STATE p st).set BRM_PSTATUS_LANE_SET p 0
  let d2 := (d1.sv .capSame p 0).sv .capAck p 0
  if d.brmActive p then ((d2.ev BRM_PSTATUS_LINK_DOWN_EV p).count BRM_PCNT_DOWNS p 1).linkAbort p else d2

/-- The mode a port starts with: COMPAT when MODE says so, else NATIVE (R315). -/
def Dev.brmMode (d : Dev) (p : Nat) : Dev := d.put BRM_PSTATUS_COMPAT p (d.get BRM_PCTRL_MODE p == 2)

/-- RESTART of a port (R316): it retrains from TRAIN, CAP_EXCH or ACTIVE; in DETECT it begins with its first mode again (R315). -/
def Dev.brmRestart (d : Dev) (p : Nat) : Dev :=
  let st := d.get BRM_PSTATUS_STATE p
  if st = 2 ∨ st = 3 ∨ st = 4 then (d.brmTo p 2).brmMode p else if st = 1 then d.brmMode p else d

/-! ### Link-layer receive -/

/-- An ACK or NAK block of a port: the SEQ of the last packet received in order (R322, R323). -/
def Dev.sendAck (d : Dev) (p typ : Nat) : Dev :=
  (d.sv .llAcc p 0).linkOut p false (linkBytes typ 0 ((d.v .llRxSeq p - 1) % 4096).toNat 0)

/-- A packet arrives on a port with its SEQ, `good` when its CRC, TYPE and blocks are (R323): whether it is accepted. -/
def Dev.linkAccept (d : Dev) (p seq : Nat) (good : Bool) : Dev × Bool :=
  let ahead := ((seq : Int) - d.v .llRxSeq p) % 4096
  if !(d.brmActive p) then (d, false)
  else if !good then ((d.count BRM_LLCNT_RX_ERR p 1).sendAck p 0x11, false)
  else if ahead = 0 then
    let d1 := (d.sv .llRxSeq p ((d.v .llRxSeq p + 1) % 4096)).sv .llAcc p (d.v .llAcc p + 1)
    (if 16 ≤ d1.v .llAcc p then d1.sendAck p 0x10 else d1, true)
  else if 2048 ≤ ahead then (d.sendAck p 0x10, false)
  else ((d.count BRM_LLCNT_RX_ERR p 1).sendAck p 0x11, false)

/-- A packet is forwarded from port `i` toward device `v`; a request without a route is refused UR, a posted one counted
(R326, R333). -/
def Dev.forward (d : Dev) (i v : Nat) (k : Pkt) : Dev :=
  match d.route v with
  | .port q => d.sendPort q (some i) k
  | _ =>
    let d1 := d.giveBack i k
    if pktCls k = 1 then d1.sendPort i none (d1.cplFor k 1)
    else if pktCls k = 0 then d1.count BRM_FCNT2_P_REFUSED 0 1 else d1

/-- The device field of a fleet address. -/
def fleetDev (a : Nat) : Nat := a / 2 ^ 40 % 64

/-- ACK_RECEIVED (R323): packets up to SEQ are acknowledged; a block whose CRC fails is discarded (R322). -/
def Dev.ackTo (d : Dev) (p seq : Nat) : Dev :=
  let keep := d.replay.filter (fun r => !(r.1 == p && decide (((seq : Int) - (r.2.1 : Nat)) % 4096 < 2048)))
  let d1 : Dev := { d with replay := keep }
  (if keep.length < d.replay.length then d1.sv .llRepl p 0 else d1).pump p

/-- ACK_RECEIVED (R323). -/
def execAckReceived (p : Fin 3) (seq : Fin 4096) (crcOk : Bool) (s : State) : Res :=
  okDev s (if crcOk && s.dev.brmActive p then s.dev.ackTo p seq else s.dev)

/-- After an IDLE block every unacknowledged packet is sent again, in order; a fourth replay of the same oldest packet restarts the port (R323). -/
def Dev.replayAll (d : Dev) (p : Nat) : Dev :=
  let mine := d.replay.filter (fun r => r.1 == p)
  if mine.isEmpty then d
  else if 3 ≤ d.v .llRepl p then (d.sv .llRepl p 0).brmRestart p
  else
    let d1 := (d.count BRM_LLCNT_REPLAYS p 1).sv .llRepl p (d.v .llRepl p + 1)
    let d2 : Dev := { d1 with brmFifo := d1.brmFifo.filter (fun b => !(b.port == p && b.pkt)) ++ [⟨p, true, []⟩] }
    d2.each mine (fun r e => e.linkOut p true (pktBytes r.2.2 r.2.1))

/-- NAK_RECEIVED (R323). -/
def execNakReceived (p : Fin 3) (seq : Fin 4096) (crcOk : Bool) (s : State) : Res :=
  okDev s (if crcOk && s.dev.brmActive p then (s.dev.ackTo p seq).replayAll p else s.dev)

/-- REPLAY_TIMEOUT (R323): 10 µs without ACK progress. -/
def execReplayTimeout (p : Fin 3) (s : State) : Res := okDev s (if s.dev.brmActive p then s.dev.replayAll p else s.dev)

/-- CREDIT_RECEIVED (R322, R324): the totals granted for a class. -/
def execCreditReceived (p : Fin 3) (c : Fin 3) (h u : Fin 65536) (crcOk : Bool) (s : State) : Res :=
  let d := s.dev
  okDev s (
    if crcOk && d.brmActive p then
      (((d.sv .crOn (3 * p + c) 1).sv .crGotH (3 * p + c) (h.val : Nat)).sv .crGotD (3 * p + c) (u.val : Nat)).pump p
    else d)

/-- BRM_ACK_TIMER (R323): 1 µs after a packet was accepted without an ACK. -/
def execBrmAckTimer (p : Fin 3) (s : State) : Res :=
  okDev s (if s.dev.brmActive p && decide (0 < s.dev.v .llAcc p) then s.dev.sendAck p 0x10 else s.dev)

/-- A completion has come up port `p`: its request is tracked no more (R330). -/
def Dev.untrack (d : Dev) (p : Nat) (k : Pkt) : Dev :=
  match d.tracked.find? (fun t => t.1 == p && t.2.req == k.req && t.2.unit == k.unit && t.2.tag == k.tag) with
  | none => d
  | some t => { d with tracked := d.tracked.erase t }

/-- CPL_RECEIVED (R329, R331, R333): a completion is routed to its requester or matched to an outstanding TAG. -/
def execCplReceived (p : Fin 3) (seq : Fin 4096) (good : Bool) (k : Pkt) (s : State) : Res :=
  let r := s.dev.linkAccept p seq good
  okDev s (
    if !r.2 || !(pktIsCpl k) then r.1 else
    let d := r.1.untrack p k
    if k.req = d.devNum then
      let d1 := d.giveBack p k
      if k.gen ≠ d.devGen then d1.count TOP_DISC_REPLY 0 1 else d1.ownDone k.unit k.tag k.status k.data
    else d.forward p k.req k)

/-- COMPLETION_TIMEOUT (R329): the timer of an outstanding request expires. -/
def execCompletionTimeout (unit : Fin 4) (tag : Fin 1024) (s : State) : Res :=
  let d := s.dev
  okDev s (
    if d.ownReqs.any (fun r => r.unit == unit.val && r.tag == tag.val) then
      ((d.count BRM_FCNT_TIMEOUT 0 1).ev BRM_FSTATUS_TMO_EV 0).ownDone unit tag 9 []
    else d)

/-! ### Enumeration -/

/-- The root begins enumeration, or refuses while a request is outstanding (R332). -/
def Dev.enumWrite (d : Dev) : Dev :=
  if !(d.on BRM_FCTRL_ROOT 0) then d
  else if !d.ownReqs.isEmpty || !d.tracked.isEmpty || d.txWait.any (fun e => pktCls e.pkt == 1) then d.ev BRM_FSTATUS_ENUM_REJ 0
  else d.enumStart 0 0

/-- ENUM_START (R332): a write of BRM_FCTRL.ENUM_START. -/
def execEnumStart (s : State) : Res := okDev s s.dev.enumWrite

/-- ENUM_OFFER_RECEIVED (R332): an enumeration message numbers the device, or is refused for a base of 64 or more. -/
def execEnumOfferReceived (p : Fin 3) (seq : Fin 4096) (good : Bool) (k : Pkt) (s : State) : Res :=
  let r := s.dev.linkAccept p seq good
  okDev s (
    if !r.2 || k.typ != 4 then r.1 else
    let d := r.1.giveBack p k
    let w := k.data.headD 0
    if k.code ≠ 1 ∨ p.val ≠ 0 ∨ d.on BRM_FCTRL_ROOT 0 then d.sendPort p none (d.cplFor k 1)
    else if 64 ≤ w % 128 then (d.set BRM_FSTATUS_NUMBERED 0 0).sendPort p none (d.cplFor k 1)
    else
      let d1 := ((((d.sv .enPar 0 1).sv .enParReq 0 (k.req : Nat)).sv .enParTag 0 (k.tag : Nat)).sv .enParUnit 0 (k.unit : Nat)).sv .enParGen 0
        (k.gen : Nat)
      d1.enumStart (w % 128) (w / 2 ^ 8 % 8))

/-! ### Messages -/

/-- IRQ_MESSAGE (R334): an interrupt message reaches the root, or is forwarded toward it. -/
def execIrqMessage (p : Fin 3) (seq : Fin 4096) (good : Bool) (k : Pkt) (s : State) : Res :=
  let r := s.dev.linkAccept p seq good
  okDev s (
    if !r.2 || k.typ != 3 then r.1
    else if k.code ≠ 2 then r.1.giveBack p k
    else match r.1.route (fleetDev k.addr) with
      | .here =>
        let w := k.data.headD 0
        let d := r.1.giveBack p k
        if d.on BRM_FCTRL_ROOT 0 then d.rootIrq (w % 64) (w / 2 ^ 16 % 64) else d
      | _ => r.1.forward p (fleetDev k.addr) k)

/-- TRIG_MESSAGE (R334, R258): a trigger message reaches the driver, or is forwarded; at a listener it is dropped with
SEND_REJ. -/
def execTrigMessage (p : Fin 3) (seq : Fin 4096) (good : Bool) (k : Pkt) (s : State) : Res :=
  let r := s.dev.linkAccept p seq good
  okDev s (
    if !r.2 || k.typ != 3 then r.1
    else if k.code ≠ 3 then r.1.giveBack p k
    else match r.1.route (fleetDev k.addr) with
      | .here => (r.1.giveBack p k).trigPush 0 (k.data.headD 0 % 64)
      | _ => r.1.forward p (fleetDev k.addr) k)

/-- A time message carrying time `t` of domain `j` acts on domain `k` (R229): with SRC = BRAMBLE it drives the servo with the
stamp of the last TIME event, or is discarded and counted. The first event alone gives no interval (assumption 28). -/
def Dev.brambleTime (d : Dev) (k j : Nat) (t : Int) : Dev :=
  if d.get TIME_DCFG_SRC k ≠ 2 then d
  else if j ≠ k ∨ d.v .busTimeOn k < 2 ∨ 2500000000 < d.v .busAge k then d.count TIME_DSTAT_MISS k 1
  else
    let d1 := d.put TIME_DSTAT_BRM_UNCAL k (d.flag .busTimeUn k)
    d1.measure k (d.v .busTime k - t) (d.v .busTau k * 4 / 5).toNat

/-- A posted packet is sent down every ACTIVE downstream port (R328, R334). -/
def Dev.sendDown (d : Dev) (k : Pkt) : Dev := d.each [1, 2] (fun q e => if e.brmActive q then e.sendPort q none k else e)

/-- TIME_MESSAGE (R229, R333, R334): a broadcast time message is forwarded and drives a BRAMBLE-sourced domain. -/
def execTimeMessage (p : Fin 3) (seq : Fin 4096) (good : Bool) (k : Pkt) (s : State) : Res :=
  let r := s.dev.linkAccept p seq good
  okDev s (
    if !r.2 || k.typ != 3 then r.1
    else if k.code ≠ 4 then r.1.giveBack p k
    else if !(r.1.on BRM_FSTATUS_NUMBERED 0) then (r.1.giveBack p k).count BRM_FCNT2_P_REFUSED 0 1
    else
      let d := (r.1.giveBack p k).sendDown k
      let w := fun (i : Nat) => k.data.getD i 0
      let t := bitsTime (w 1 + w 2 * 2 ^ 32 + w 3 * 2 ^ 64)
      d.each [0, 1] (fun x e => e.brambleTime x (w 0 % 2) t))

/-- TIME_MSG_BROADCAST (R335): the root sends the time of the last TIME event's domain as it was at the fleet instant. -/
def execTimeMsgBroadcast (s : State) : Res :=
  let d := s.dev
  let k := (d.v .tmsgPend 0 - 1).toNat
  let t := timeBits (d.v .busTime k)
  okDev s (
    if !(d.on BRM_FCTRL_ROOT 0) || !(d.on BRM_FCTRL_TMSG_AUTO 0) || d.v .tmsgPend 0 == 0 then d
    else (d.sv .tmsgPend 0 0).sendDown
      { d.message 4 0 0 with addr := 2 ^ 46, len := 4, be := 0xFF, data := [k, t % 2 ^ 32, t / 2 ^ 32 % 2 ^ 32, t / 2 ^ 64] })

end Sys2Proof.Machine
end

