-- ==== Sys2Proof/Machine/Bramble.lean ====
section
/-! DEFINITION. Bring-up, locks and loopbacks of the Bramble ports, and the clock cleaner (chapter 16, R307 to R319). Lane l of
port p is instance 2p + l. -/

namespace Sys2Proof.Machine

/-- States of BRM_PSTATUS.STATE (R313). -/
def brmDISABLED : Nat := 0
/-- Probing for a termination. -/
def brmDETECT : Nat := 1
/-- Acquiring locks. -/
def brmTRAIN : Nat := 2
/-- Exchanging capabilities. -/
def brmCAP : Nat := 3
/-- Carrying link-layer blocks. -/
def brmACTIVE : Nat := 4
/-- Looped back. -/
def brmLOOP : Nat := 5

/-- Lanes a port offers (R313): lane 0 alone in COMPAT. -/
def Dev.brmOffered (d : Dev) (p : Nat) : List Nat :=
  if d.on BRM_PCTRL_LANES p && !(d.on BRM_PSTATUS_COMPAT p) then [0, 1] else [0]

/-- The port's own lock mask: offered lanes at marker lock (R312). -/
def Dev.brmMask (d : Dev) (p : Nat) : Nat :=
  ((d.brmOffered p).filter (fun l => d.on BRM_LSTATUS_MARKER_LOCK (2 * p + l))).foldl (fun a l => a + 2 ^ l) 0

/-- A lane has no lock. -/
def Dev.laneUnlock (d : Dev) (i : Nat) : Dev :=
  (((((d.set BRM_LSTATUS_CDR_LOCK i 0).set BRM_LSTATUS_BLOCK_LOCK i 0).set BRM_LSTATUS_MARKER_LOCK i 0).set BRM_LSTATUS_DESKEWED i 0).sv
    .mkRun i 0).sv .mkSeen i 0

/-- Both lanes of a port lose their locks: the transmitters of a disabled or detecting port are idle. -/
def Dev.portUnlock (d : Dev) (p : Nat) : Dev := (d.laneUnlock (2 * p)).laneUnlock (2 * p + 1)

/-- BRM_PORT_ENABLE (R313, R315); a port whose LOOP was set while it was disabled goes to LOOP (R319). -/
def Dev.brmEnable (d : Dev) (p : Nat) : Dev :=
  let d1 := d.set BRM_PCTRL_EN p 1
  if d.get BRM_PSTATUS_STATE p = brmDISABLED then
    (d1.set BRM_PSTATUS_STATE p (if d.get BRM_PCTRL_LOOP p = 0 then brmDETECT else brmLOOP)).brmMode p
  else d1

/-- BRM_PORT_ENABLE (R313): EN is set. -/
def execBrmPortEnable (p : Fin 3) (s : State) : Res := okDev s (s.dev.brmEnable p)

/-- BRM_PORT_DISABLE (R316): EN is cleared. -/
def execBrmPortDisable (p : Fin 3) (s : State) : Res :=
  okDev s (((s.dev.set BRM_PCTRL_EN p 0).brmTo p brmDISABLED).portUnlock p)

/-- BRM_DETECT_PROBE (R313): a probe has looked for a far-end termination on the two lanes; the transmitter begins with a MARKER. -/
def execBrmDetectProbe (p : Fin 3) (t0 t1 : Bool) (s : State) : Res :=
  let d := s.dev
  okDev s (
    if d.get BRM_PSTATUS_STATE p ≠ brmDETECT then d
    else
      let d1 := (d.put BRM_LSTATUS_RX_DETECTED (2 * p) t0).put BRM_LSTATUS_RX_DETECTED (2 * p + 1) t1
      if t0 || t1 then ((d1.set BRM_PSTATUS_STATE p brmTRAIN).sv .brmSlot p 0).sv .brmUi p 0 else d1)

/-- In TRAIN: every offered lane has marker lock (R313). -/
def Dev.brmAllLocked (d : Dev) (p : Nat) : Dev :=
  if d.get BRM_PSTATUS_STATE p = brmTRAIN ∧ (d.brmOffered p).all (fun l => d.on BRM_LSTATUS_MARKER_LOCK (2 * p + l)) then
    d.set BRM_PSTATUS_STATE p brmCAP
  else d

/-- A lane falls out of marker lock (R314, R316): an ACTIVE port that uses the lane returns to TRAIN, as does one in
CAP_EXCH. -/
def Dev.markerLost (d : Dev) (p l : Nat) : Dev :=
  let was := d.on BRM_LSTATUS_MARKER_LOCK (2 * p + l)
  let d1 := ((d.set BRM_LSTATUS_MARKER_LOCK (2 * p + l) 0).set BRM_LSTATUS_DESKEWED (2 * p + l) 0).sv .mkRun (2 * p + l) 0
  if d.brmActive p ∧ (d.get BRM_PSTATUS_LANE_SET p).testBit l then d1.brmTo p brmTRAIN
  else if was ∧ d.get BRM_PSTATUS_STATE p = brmCAP then d1.brmTo p brmTRAIN
  else d1

/-- The fixed bytes of a MARKER (R309). -/
def markerFixed : List Nat := [0x5A, 0xA5, 0x3C, 0xC3, 0x96]

/-- Bits in which two bytes differ. -/
def bitDiff (a b : Nat) : Nat := ((List.range 8).filter (fun k => a.testBit k != b.testBit k)).length

/-- A MARKER's bytes pass R309 but for its count: at most 4 bits of the fixed bytes differ. -/
def markerOk (two : Bool) (l : Nat) (b : List Byte) : Bool :=
  let want := [0x4B, l + 2 * b2n two, fb b 2] ++ markerFixed
  decide (((List.range 8).map (fun i => bitDiff (fb b i) (want.getD i 0))).sum ≤ 4)

/-- BRM_MARKER_RECEIVED (R309, R311, R313): the 8 payload bytes of a MARKER on a lane, `spaced` when it came 16384 blocks after
the one before, `skewed` when the pair is more than 100 ns apart and this lane is the later one. `hdr`, `ctrl`, `stuff` are the
header, control-block and stuffing errors counted since the last MARKER (R308, R310). A MARKER shows clock recovery and block
lock. -/
def execBrmMarkerReceived (p : Fin 3) (l : Fin 2) (b : List Byte) (spaced skewed : Bool) (hdr ctrl stuff : Nat) (s : State) : Res :=
  let i := 2 * p.val + l.val
  let d := ((s.dev.count BRM_LCNT0_HDR_ERR i hdr).count BRM_LCNT0_BAD_CTRL i ctrl).count BRM_LCNT1_STUFF_ERR i stuff
  let two := decide ((d.brmOffered p).length = 2)
  let pass := markerOk two l b && (!(d.flag .mkSeen i) || d.v .mkCount i == (((fb b 2 + 255) % 256 : Nat) : Int))
  let st := d.get BRM_PSTATUS_STATE p
  okDev s (
    if st = brmDISABLED ∨ st = brmDETECT then d
    else
      let d1 := (((d.set BRM_LSTATUS_CDR_LOCK i 1).set BRM_LSTATUS_BLOCK_LOCK i 1).sv .mkSeen i 1).sv .mkCount i (fb b 2 : Nat)
      if skewed then d1.markerLost p l
      else if !pass then
        let d2 := (d1.count BRM_LCNT1_MRK_ERR i 1).sv .mkBad i (d1.v .mkBad i + 1)
        if 3 ≤ d2.v .mkBad i then d2.markerLost p l else d2.sv .mkRun i 0
      else
        let d2 := (d1.sv .mkBad i 0).sv .mkRun i 1
        if d1.flag .mkRun i && spaced && !(d1.flag .lfHold i) then
          let d3 := (d2.set BRM_LSTATUS_MARKER_LOCK i 1).set BRM_LSTATUS_DESKEWED i 1
          d3.brmAllLocked p
        else d2)

/-- BRM_LOCK_LOSS (R313, R316): a lane loses marker lock, block lock (`block`) or clock-recovery lock (`cdr`). -/
def execBrmLockLoss (p : Fin 3) (l : Fin 2) (block cdr : Bool) (s : State) : Res :=
  let i := 2 * p.val + l.val
  let d1 := s.dev.markerLost p l
  let d2 := if block || cdr then (d1.set BRM_LSTATUS_BLOCK_LOCK i 0).sv .mkSeen i 0 else d1
  okDev s (if cdr then d2.set BRM_LSTATUS_CDR_LOCK i 0 else d2)

/-- BRM_LANE_WAIT_EXPIRY (R313): LANE_WAIT has passed since the first lane's lock. -/
def execBrmLaneWaitExpiry (p : Fin 3) (s : State) : Res :=
  let d := s.dev
  okDev s (if d.get BRM_PSTATUS_STATE p = brmTRAIN ∧ d.brmMask p ≠ 0 then d.set BRM_PSTATUS_STATE p brmCAP else d)

/-- The initial grants on entry to ACTIVE (R324). -/
def Dev.linkStart (d : Dev) (p : Nat) : Dev :=
  let d1 := d.each [.llTxSeq, .llRxSeq, .llAcc, .llRepl] (fun x e => e.sv x p 0)
  let d2 := d1.each [0, 1, 2] (fun c e =>
    e.each [.crOn, .crGotH, .crGotD, .crUseH, .crUseD, .crGivH, .crGivD] (fun x y => y.sv x (3 * p + c) 0))
  ((d2.grant p 0 32 256).grant p 1 64 0).grant p 2 64 512

/-- A CAP that the port can serve (R314, R318): version, part and mode. -/
def Dev.capServes (d : Dev) (p : Nat) (b : List Byte) : Bool :=
  let compat := d.on BRM_PSTATUS_COMPAT p
  let part := fb b 3 + 256 * fb b 4
  decide (fb b 1 % 16 = 1) && (part == 0x3208 || (part == 0x1608 && compat)) && (fb b 1).testBit (if compat then 5 else 4)

/-- The payload of a CAP block with its ACK bit 0: identical blocks have the same (R312). -/
def capKey (b : List Byte) : Nat := (List.range 8).foldl (fun a i => a + (if i = 2 then fb b i / 2 * 2 else fb b i) * 256 ^ i) 0

/-- BRM_CAP_RECEIVED (R312, R314): the 8 payload bytes of a CAP block. The port may enter ACTIVE or return to TRAIN. -/
def execBrmCapReceived (p : Fin 3) (b : List Byte) (s : State) : Res :=
  let d := s.dev
  let role := fb b 2 / 4 % 4
  let own := if p.val = 0 then 0 else 1
  okDev s (
    if d.get BRM_PSTATUS_STATE p ≠ brmCAP then d
    else
      let d1 := ((((((d.set BRM_PARTNER_PART p (fb b 3 + 256 * fb b 4)).set BRM_PARTNER_SREV p (fb b 5)).set BRM_PARTNER_VERSION p
        (fb b 1 % 16)).set BRM_PARTNER_CLK_LINK p (fb b 2 / 2)).set BRM_PARTNER_LOCK_MASK p (fb b 1 / 64)).set BRM_PARTNER_ROLE p role)
      if role = own ∨ !(d.capServes p b) then (d1.brmTo p brmTRAIN).ev BRM_PSTATUS_ROLE_ERR_EV p
      else
        let n := if d.v .capLast p = (capKey b : Nat) then d.v .capSame p + 1 else 1
        let d2 := ((d1.sv .capSame p n).sv .capLast p (capKey b : Nat)).sflag .capAck p (decide (8 ≤ n))
        let set_ := Nat.land (d.brmMask p) (fb b 1 / 64)
        if n < 8 then d2
        else if set_ = 0 then (d2.brmTo p brmTRAIN).ev BRM_PSTATUS_LANE_DROP_EV p
        else if fb b 2 % 2 = 0 then d2
        else
          let d3 := ((d2.set BRM_PSTATUS_STATE p brmACTIVE).set BRM_PSTATUS_LANE_SET p set_).linkStart p
          (d3.evIf (decide (set_ ≠ ((d.brmOffered p).foldl (fun a l => a + 2 ^ l) 0))) BRM_PSTATUS_LANE_DROP_EV p))

/-- BRM_TRAIN_TIMEOUT (R315): T_TRAIN expires before ACTIVE; AUTO alternates between NATIVE and COMPAT. -/
def execBrmTrainTimeout (p : Fin 3) (s : State) : Res :=
  let d := s.dev
  let st := d.get BRM_PSTATUS_STATE p
  okDev s (
    if st ≠ brmTRAIN ∧ st ≠ brmCAP then d
    else
      let d1 := (((d.brmTo p brmDETECT).portUnlock p).ev BRM_PSTATUS_TRAIN_TMO_EV p).count BRM_PCNT_TRAIN_TMO p 1
      let m := d.get BRM_PCTRL_MODE p
      if m = 0 ∨ m = 3 then d1.put BRM_PSTATUS_COMPAT p (!(d.on BRM_PSTATUS_COMPAT p)) else d1)

/-- BRM_RESTART (R316). -/
def execBrmRestart (p : Fin 3) (s : State) : Res := okDev s (s.dev.brmRestart p)

/-- A write of LOOP (R319): `up` when it arrives over the upstream port. -/
def Dev.brmLoop (d : Dev) (p loop : Nat) (up : Bool) : Dev :=
  let st := d.get BRM_PSTATUS_STATE p
  if p = 0 ∧ up then d.ev BRM_PSTATUS_LOOP_REJ p
  else
    let d1 := d.set BRM_PCTRL_LOOP p loop
    if loop = d.get BRM_PCTRL_LOOP p ∨ st = brmDISABLED then d1
    else if loop ≠ 0 then d1.brmTo p brmLOOP
    else d1.brmTo p brmTRAIN

/-- BRM_LOOP_WRITE (R319). -/
def execBrmLoopWrite (p : Fin 3) (loop : Fin 4) (up : Bool) (s : State) : Res := okDev s (s.dev.brmLoop p loop up)

/-- BRM_CLEANER_HOLDOVER (R317): upstream lane 0 has lost lock and the cleaner holds its last frequency. -/
def execBrmCleanerHoldover (s : State) : Res :=
  let d := s.dev
  okDev s (
    if d.on BRM_CLK_SRC_NOW 0 && d.on BRM_CLK_LOCKED 0 && !(d.on BRM_CLK_HOLD 0) then (d.set BRM_CLK_HOLD 0 1).ev BRM_CLK_HOLD_EV 0
    else d)

/-- BRM_CLEANER_LOCK (R317): the cleaner tracks the upstream lane; never with the upstream port in COMPAT. -/
def execBrmCleanerLock (s : State) : Res :=
  let d := s.dev
  okDev s (
    if d.on BRM_CLK_SRC_NOW 0 && !(d.on BRM_PSTATUS_COMPAT 0) then (d.set BRM_CLK_LOCKED 0 1).set BRM_CLK_HOLD 0 0 else d)

/-- BRM_LFREQ_UPDATE (R315): a lane's frequency estimate in 0.01 ppm; in NATIVE one beyond ±0.5 ppm sets FREQ_ERR_EV and holds
the lane short of marker lock. `prbs` are the bit errors of the last ms while LOOP = PRBS (R319). -/
def execBrmLfreqUpdate (p : Fin 3) (l : Fin 2) (ppm : Int) (prbs : Nat) (s : State) : Res :=
  let i := 2 * p.val + l.val
  let d := s.dev.seti BRM_LFREQ_PPM i ppm
  let d1 := if d.get BRM_PCTRL_LOOP p = 3 ∧ d.get BRM_PSTATUS_STATE p = brmLOOP then d.count BRM_LPRBS_COUNT i prbs else d
  okDev s (
    if d1.on BRM_PSTATUS_COMPAT p then d1.sv .lfHold i 0
    else if 50 < absI ppm then ((d1.ev BRM_PSTATUS_FREQ_ERR_EV p).sv .lfHold i 1).markerLost p l
    else d1.sv .lfHold i 0)

end Sys2Proof.Machine
end

