-- ==== Sys2Proof/Machine/Stone.lean ====
section
/-! DEFINITION. The Stone: its pages, the write queue, journaled writes and their rollback, abandonment, the journal header
and the boot log (R346 to R352). -/

namespace Sys2Proof.Machine

/-- First address of a page of the Stone. -/
def pageAddr (p : Nat) : Nat := stoneBase + 256 * p

/-- The Stone words of a page, by address. -/
def pageWords (p : Nat) : List Nat := (List.range 32).map (fun i => pageAddr p + 8 * i)

/-- Page writes are counted per 64 KiB region, saturating (R352). -/
def Dev.worn (d : Dev) (page n : Nat) : Dev := d.sv .wear (page / 256) (min (2 ^ 32 - 1) (d.v .wear (page / 256) + (n : Nat)))

/-- Write bytes of a page, every word with a valid code but the ones listed, which hold the poison pattern (R346). -/
def Memory.putPage (m : Memory) (p : Nat) (data : List Byte) (bad : List Nat) : Memory :=
  let m1 := (pageWords p).foldl (fun x a => x.clearPoison a) (m.writeBytes (pageAddr p) data)
  bad.foldl (fun x i => x.setPoison (pageAddr p + 8 * i)) m1

/-- The words of a page that hold the poison pattern, by number. -/
def Memory.pagePoison (m : Memory) (p : Nat) : List Nat := (List.range 32).filter (fun i => m.poison.contains (pageAddr p + 8 * i))

/-- Copy a page (R348). -/
def Memory.copyPage (m : Memory) (src dst : Nat) : Memory := m.putPage dst (m.readBytes (pageAddr src) 256) (m.pagePoison src)

/-! ### Journaled writes -/

/-- The undo page of a slot (R349). -/
def undoPage (u : Nat) : Nat := 10 + u

/-- Steps 1 to 3 of a journaled write of page `p`, as many as `k` says (R348): the copy in the undo slot, its descriptor, ARMED. -/
def State.undoSteps (s : State) (p k : Nat) : State :=
  let u := (s.dev.v .undoNext 0).toNat
  let old := s.mem.readBytes (pageAddr p) 256
  let mem1 := if 1 ≤ k then s.mem.copyPage p (undoPage u) else s.mem
  let desc : UndoDesc := ⟨u, p, (s.dev.v .undoSeq 0).toNat, crc32 old, decide (3 ≤ k)⟩
  let d1 : Dev := { s.dev with undo := if 2 ≤ k then s.dev.undo.filter (fun x => x.slot != u) ++ [desc] else s.dev.undo }
  let d2 := if 1 ≤ k then d1.worn (undoPage u) 1 else d1
  { s with mem := mem1, dev := d2.worn 2 (min k 3 - 1) }

/-- The descriptor in use is DONE and its slot is free again: the next journaled write takes the next slot (R348). -/
def Dev.undoNext (d : Dev) : Dev :=
  let u := d.v .undoNext 0
  (({ d with undo := d.undo.map (fun x => if (x.slot : Int) = u then { x with armed := false } else x) } : Dev).sv .undoNext 0
    ((u + 1) % 64)).sv .undoSeq 0 (d.v .undoSeq 0 + 1)

/-- The journal header is written with one journaled write (R349, R351). -/
def State.headerJournaled (s : State) : State :=
  let p := ((s.dev.v .jSeq 0 + 1) % 2).toNat
  let t := s.undoSteps p 3
  { t with dev := (((t.dev.worn p 1).worn 2 1).sv .jSeq 0 (t.dev.v .jSeq 0 + 1)).undoNext }

/-- The ROM writes the journal header, in alternate pages (R349). -/
def Dev.headerWrite (d : Dev) : Dev := (d.worn 0 1).sv .jSeq 0 (d.v .jSeq 0 + 1)

/-! ### Boot log -/

/-- Append a record to the boot log: kind, step, level, result, attempt (R349). -/
def State.log (s : State) (kind step level result : Nat) : State :=
  let at_ := (s.dev.v .logPos 0).toNat
  let a := pageAddr 74 + 8 * at_
  let rec8 := leBytes 1 kind ++ leBytes 1 step ++ leBytes 1 level ++ leBytes 1 result ++ leBytes 4 (s.dev.v .jAttempt 0).toNat
  { s with
    mem := (s.mem.writeBytes a rec8).clearPoison a,
    dev := (s.dev.worn (74 + at_ / 32) 1).sv .logPos 0 (((at_ + 1) % 5824 : Nat) : Int) }

/-- The last 25 records of the boot log, all that one attempt can have written, oldest first: kind, step, attempt (R349, R352). -/
def State.logRecords (s : State) : List (Nat × Nat × Nat) :=
  let at_ := (s.dev.v .logPos 0).toNat
  (List.range 25).map (fun i =>
    let b := s.mem.readBytes (pageAddr 74 + 8 * ((at_ + 5799 + i) % 5824)) 8
    ((b.getD 0 0).toNat, (b.getD 1 0).toNat, leNat (b.drop 4)))

/-- The steps of attempt `n` recorded started and not ended (R344, R349). -/
def interruptedSteps (l : List (Nat × Nat × Nat)) (n : Nat) : List Nat :=
  (List.range 12).filter (fun st =>
    let kinds := (l.filter (fun r => r.2.1 == st && r.2.2 == n && (r.1 == 2 || r.1 == 3))).map (fun r => r.1)
    kinds.getLast? == some 2)

/-! ### The queue -/

/-- Pages the command queue may not write (R346, R350): the journal, the reserved regions, and the factory record and its
mirror outside BLANK. -/
def Dev.stnProt (d : Dev) (p : Nat) : Bool :=
  decide (p < 0x100) || (decide (d.fuse.lc ≠ 0) && (decide (0x100 ≤ p ∧ p < 0x200) || decide (0x10000 ≤ p ∧ p < 0x10100)))
    || decide (0x400 ≤ p ∧ p < 0x1000) || decide (0x10100 ≤ p ∧ p < 0x11000)

/-- The source of a push. -/
def Dev.stnSrc (d : Dev) : Nat := d.get STN_SRC_LO_ADDR 0 + d.get STN_SRC_HI_ADDR 0 % 256 * 2 ^ 32

/-- The refusal of a push, 0 for none (R350). -/
def Dev.stnErr (d : Dev) (page : Nat) : Nat :=
  if 8 ≤ d.stnQ.length then 1
  else if d.stnProt page then 2
  else if d.stnSrc % 256 ≠ 0 ∨ region d.stnSrc ≠ .sram then 3
  else 0

/-- Show the queue in STN_STATUS. -/
def Dev.stnShow (d : Dev) : Dev :=
  (d.put STN_STATUS_BUSY 0 d.stnCur.isSome).set STN_STATUS_QCOUNT 0 d.stnQ.length

/-- The next entry starts: the controller reads its source (R350); bytes still in a merge buffer are written first (R276). -/
def State.stnStart (s : State) : State :=
  match s.dev.stnCur, s.dev.stnQ with
  | none, e :: rest =>
    let units := (List.range 32).map (fun i => e.src + 8 * i)
    let t := units.foldl (fun x u => x.flush u .clean) s
    let run : StnRun :=
      { ent := e, data := units.flatMap (fun u => t.mem.readBytes (t.dev.phys u) 8),
        poison := (List.range 32).filter (fun i => t.mem.poison.contains (t.dev.phys (e.src + 8 * i))) }
    { t with dev := ({ t.dev with stnCur := some run, stnQ := rest } : Dev).stnShow }
  | _, _ => { s with dev := s.dev.stnShow }

/-- A push of a page write (R350). -/
def State.stnPush (s : State) (page : Nat) (journal : Bool) : State :=
  let d := (s.dev.set STN_CMD_PAGE 0 page).put STN_CMD_JOURNAL 0 journal
  let e := d.stnErr page
  if e ≠ 0 then { s with dev := d.set STN_STATUS_ERR 0 e }
  else ({ s with dev := { d with stnQ := d.stnQ ++ [⟨d.stnSrc, page, journal⟩] } } : State).stnStart

/-- STN_PUSH (R350): a write of STN_CMD with PUSH. -/
def execStnPush (page : Fin 131072) (journal : Bool) (s : State) : Res := ok s (s.stnPush page journal)

/-- The writes of the entry in execution up to the `k`-th (R348); a plain write is its only one. -/
def State.stnWrites (s : State) (r : StnRun) (k : Nat) : State :=
  let put := fun (t : State) =>
    ({ t with mem := t.mem.putPage r.ent.page r.data r.poison, dev := t.dev.worn r.ent.page 1 } : State)
  if r.ent.journal then
    let t := s.undoSteps r.ent.page k
    let t := if 4 ≤ k then put t else t
    if 5 ≤ k then { t with dev := (t.dev.worn 2 1).undoNext } else t
  else if 1 ≤ k then put s else s

/-- The entry in execution has ended. -/
def Dev.stnEnded (d : Dev) : Dev :=
  let d1 : Dev := { d with stnCur := none }
  (d1.ev STN_STATUS_DONE_EV 0).evIf d.stnQ.isEmpty STN_STATUS_IDLE_EV 0

/-- STN_ENTRY_DONE (R348, R350, R352): the entry's last word is written, and the next entry starts. -/
def execStnEntryDone (s : State) : Res :=
  ok s (match s.dev.stnCur with
    | none => s
    | some r => let t := s.stnWrites r 5; ({ t with dev := t.dev.stnEnded } : State).stnStart)

/-- STN_WINDOW_WRITE (R347): a write to the read window. -/
def execStnWindowWrite (init : Fin 16) (ofs : Fin 33554432) (s : State) : Res := ok s (s.store init (stoneBase + ofs.val) [] .clean)

/-! ### Abandonment and loss of power -/

/-- The page write in progress finishes, later writes are abandoned, and the abandonment is recorded (R351). `k` is how many
writes of a journaled entry are then finished, less one; a plain entry's only write is the one in progress. -/
def State.stnAbandon (s : State) (k : Nat) : State :=
  let (t, mine) := match s.dev.stnCur with
    | none => (s, ([] : List Nat))
    | some r =>
      let n := if r.ent.journal then min 5 (k + 1) else 5
      let t := s.stnWrites r n
      if 5 ≤ n then (({ t with dev := t.dev.stnEnded } : State), []) else (t, [r.ent.page])
  let left := mine ++ t.dev.stnQ.map (·.page)
  let d1 := ({ t.dev with stnCur := none, stnQ := [] } : Dev).stnShow
  -- a slot whose descriptor stays ARMED is not taken again before the next B0 rolls it back
  let d2 := if mine.isEmpty then d1 else (d1.sv .undoNext 0 ((d1.v .undoNext 0 + 1) % 64)).sv .undoSeq 0 (d1.v .undoSeq 0 + 1)
  if left.isEmpty then { t with dev := d2 }
  else
    let d3 := (((d2.sv .jAbCount 0 (left.length : Nat)).sv .jAbFirst 0 ((left.headD 0 : Nat) : Int)).sv .jAbLast 0
      ((left.getLastD 0 : Nat) : Int)).sv .jAbNew 0 1
    ({ t with dev := d3 } : State).headerJournaled

/-- The words of a page that a power loss left written (R348). -/
def Memory.mixPage (m : Memory) (p : Nat) (data : List Byte) (bad : List Nat) (mask : List Bool) : Memory :=
  (List.range 32).foldl (fun x i =>
    if mask.getD i false then
      let a := pageAddr p + 8 * i
      let y := (x.writeBytes a ((data.drop (8 * i)).take 8)).clearPoison a
      if bad.contains i then y.setPoison a else y
    else x) m

/-- Power is lost while the controller writes (R348): of the entry in execution `k` writes are finished and of the next one the
words `mask` names. -/
def State.stnPowerLoss (s : State) (k : Nat) (mask : List Bool) : State :=
  let t := match s.dev.stnCur with
    | none => s
    | some r =>
      if r.ent.journal then
        let u := (s.dev.v .undoNext 0).toNat
        let first := mask.headD false
        match k with
        | 0 => { s with mem := s.mem.mixPage (undoPage u) (s.mem.readBytes (pageAddr r.ent.page) 256) (s.mem.pagePoison r.ent.page) mask }
        | 1 => s.stnWrites r 1
        | 2 => s.stnWrites r (if first then 3 else 2)
        | 3 => let t := s.stnWrites r 3; { t with mem := t.mem.mixPage r.ent.page r.data r.poison mask }
        | 4 => s.stnWrites r (if first then 5 else 4)
        | _ => s.stnWrites r 5
      else if k = 0 then { s with mem := s.mem.mixPage r.ent.page r.data r.poison mask }
      else s.stnWrites r 5
  { t with dev := { t.dev with stnCur := none, stnQ := [] } }

/-- At B0 every ARMED descriptor whose CRC matches its undo slot is rolled back (R348). -/
def State.rollback (s : State) : State :=
  (s.dev.undo.filter (fun x => x.armed)).foldl (fun t x =>
    if crc32 (t.mem.readBytes (pageAddr (undoPage x.slot)) 256) = x.crc then
      { t with
        mem := t.mem.copyPage (undoPage x.slot) x.page,
        dev := ((({ t.dev with undo := t.dev.undo.map (fun y => if y.slot = x.slot then { y with armed := false } else y) } : Dev).worn
          x.page 1).worn 2 1).count STN_STATUS_ROLLBACK 0 1 }
    else t) s

end Sys2Proof.Machine
end

