-- ==== Sys2Proof/Machine/Reset.lean ====
section
/-! DEFINITION. The resets of R10: what each returns to its reset value, the generations (R294), and the seed-defined state
that a LANE or BUNCH reset takes back from the shadow (R43, R45). -/

namespace Sys2Proof.Machine

/-! ### Which state a reset covers -/

/-- The register of a number. -/
def regAt (i : Nat) : Reg := allRegs.getD i .SEED_CTRL

/-- The variable of a number. -/
def varAt (i : Nat) : Var := allVars.getD i .rxGrid

/-- The reset domain of a register field's key. -/
def keyPlace (k : Key) : Place := placeOf (regAt (k.1 / 32))

/-- A register of line lane `n`'s block. -/
def regOfLine (n : Nat) (k : Key) : Bool := match keyPlace k with | .line per => k.2 / per == n | _ => false

/-- A register of host lane `m`'s block. -/
def regOfHost (m : Nat) (k : Key) : Bool := match keyPlace k with | .host per => k.2 / per == m | _ => false

/-- A count of a bunch's performance monitor, which a BUNCH reset keeps (R10). -/
def prfCount (r : Reg) : Bool := match r with | .PRF_CNT | .PRF_CYC_LO | .PRF_CYC_HI => true | _ => false

/-- A register of bunch `b`, its lanes' among them, that a BUNCH reset covers (R10). -/
def regOfBunch (b : Nat) (k : Key) : Bool :=
  match keyPlace k with
  | .bunch per => k.2 / per == b
  | .line per => k.2 / per / 4 == b
  | .host per => k.2 / per / 8 == b
  | .prf per => k.2 / per == 4 + b && !(prfCount (regAt (k.1 / 32)))
  | _ => false

/-- A hidden variable of line lane `n`. -/
def varOfLine (n : Nat) (k : Key) : Bool := match varPlace (varAt k.1) with | .line per => k.2 / per == n | _ => false

/-- A hidden variable of host lane `m`. -/
def varOfHost (m : Nat) (k : Key) : Bool := match varPlace (varAt k.1) with | .host per => k.2 / per == m | _ => false

/-- A hidden variable of bunch `b`, its lanes and its port slots. -/
def varOfBunch (b : Nat) (k : Key) : Bool :=
  match varPlace (varAt k.1) with
  | .bunch per => k.2 / per == b
  | .line per => k.2 / per / 4 == b
  | .host per => k.2 / per / 8 == b
  | .slot per => k.2 / per / 4 == b
  | _ => false

/-- Return register fields and hidden variables to their reset values. -/
def Dev.drop (d : Dev) (r v : Key → Bool) : Dev :=
  { d with regs := d.regs.filter (fun e => !(r e.1)), vars := d.vars.filter (fun e => !(v e.1)) }

/-! ### Seed-defined state -/

/-- The seed's decoder items of a line lane in its status fields, DEADLINE and MAXPASS at the seed's values (R43, R128). -/
def Dev.seedDec (d : Dev) (n : Nat) : Dev :=
  let l := d.lane n
  let code := match d.mode n with | some .l400e => 1 | some .l400s => 2 | some .l200 => 2 | _ => 0
  if d.mode n = some .l100 then
    let d1 := [DEC_STATUS_CODE, DEC_STATUS_DEPTH, DEC_STATUS_RELMODE, DEC_STATUS_SEED_D, DEC_STATUS_D_NOW, DEC_STATUS_SEED_MAXP,
      DEC_STATUS_MAXP_NOW, DEC_CTRL_DEADLINE, DEC_CTRL_MAXPASS].foldl (fun e f => e.set f n (rstAt f.rst n)) d
    (d1.sv .dNext n 0).sv .mpNext n 0
  else
  let d1 := ((d.set DEC_STATUS_CODE n code).set DEC_STATUS_DEPTH n l.depth).put DEC_STATUS_RELMODE n (d.lowLat n)
  let d2 := ((d1.set DEC_STATUS_SEED_D n l.dl).set DEC_STATUS_D_NOW n l.dl).sv .dNext n 0
  let d3 := ((d2.set DEC_STATUS_SEED_MAXP n l.maxp).set DEC_STATUS_MAXP_NOW n (d2.profMaxp n l.maxp)).sv .mpNext n 0
  (d3.set DEC_CTRL_DEADLINE n l.dl).set DEC_CTRL_MAXPASS n l.maxp

/-- The seed's equaliser items of a line lane: decision stage, and the tap counts under the active profile (R43, R80). -/
def Dev.seedEq (d : Dev) (n : Nat) : Dev :=
  let (nq, nl) := d.eqAlloc n
  ((((d.put LL_EQ_STATUS_STAGE n (d.lane n).mlse).set LL_EQ_STATUS_LIN_NOW n nl).set LL_EQ_STATUS_QUAD_NOW n nq).sv .eqLin0 n 0).sv
    .eqProfIn n (d.profOf (n / 4) : Nat)

/-- The transmitter coefficients of a host lane at their reset values, pending and applied (R140, R147). -/
def Dev.hlCoefReset (d : Dev) (m : Nat) : Dev := (d.hlSetPend m []).hlForce m []

/-- The seed's items of a host lane: whether a port holds it, and its rate (R20, R29); a disabled lane's coefficients take their reset
values (R147). -/
def Dev.seedHost (d : Dev) (m : Nat) : Dev :=
  let p := (d.slotOfHost m).bind (fun sl => d.portAt sl)
  ((d.put HL_STATUS_ENABLED m p.isSome).put HL_STATUS_RATE m ((p.map (fun x => x.mode == .l100)).getD false)).when p.isNone
    (fun e => e.hlCoefReset m)

/-- The code of a port type. -/
def portCode : PortType → Nat
  | .g400 => 0
  | .g800 => 1
  | .g1600 => 2

/-- A slot without a port: its LOOP reads NONE (R177), nothing of the port it held goes on, and no fill runs there (R162). -/
def Dev.slotEmpty (d : Dev) (sl : Nat) : Dev :=
  let d1 := [GBX_PSTATUS_VALID, GBX_PSTATUS_PORT, GBX_PSTATUS_TYPE, GBX_PSTATUS_FRAMING, GBX_PSTATUS_RELMODE, GBX_PSTATUS_RX_FILL,
    GBX_PSTATUS_TX_FILL, BN_PORT_CTRL_LOOP, BN_PORT_STATUS_LOOP_ACTIVE, BN_PORT_STATUS_TX_REF_LINE].foldl (fun e f => e.set f sl 0) d
  [Var.loopNow, .loopPend, .portHold, .portStart].foldl (fun e x => e.sv x sl 0) d1

/-- The seed's items of a port slot (R151). -/
def Dev.seedSlot (d : Dev) (sl : Nat) : Dev :=
  match d.portAt sl with
  | none => d.slotEmpty sl
  | some p => ((((d.set GBX_PSTATUS_VALID sl 1).set GBX_PSTATUS_PORT sl p.num).set GBX_PSTATUS_TYPE sl (portCode p.ptype)).put
      GBX_PSTATUS_FRAMING sl p.term).put GBX_PSTATUS_RELMODE sl p.lowLat

/-- Everything the seed defines in a bunch's own blocks. -/
def Dev.seedBunch (d : Dev) (b : Nat) : Dev :=
  (((d.each (slotsOfBunch b) (fun sl e => e.seedSlot sl)).each (linesOfBunch b) (fun n e => (e.seedDec n).seedEq n)).each (hostsOfBunch b)
    (fun m e => e.seedHost m))

/-- The profile a seed's stage list gives the sideband engine (R29, R43): fields, shifts and coefficients of lane `n`, taken at
once, whatever firmware had put there; a changed list hold-fills the engine at its next input (R191). -/
def Dev.seedSb (d : Dev) (n : Nat) (old : LaneDesc) : Dev :=
  let l := d.lane n
  let same := decide (old.rank = l.rank ∧ old.hb = l.hb ∧ old.firEn = l.firEn ∧ old.dcEn = l.dcEn ∧ old.shifts = l.shifts
    ∧ old.firSet = l.firSet)
  let sh := fun (i : Nat) => l.shifts.getD i 8
  let d1 := (((d.set SB_STAGES_RANK n (if l.rank = 0 then 0 else (l.rank - 1) / 2)).set SB_STAGES_HB n l.hb).put SB_STAGES_FIR_EN n
    l.firEn).put SB_STAGES_DC_EN n l.dcEn
  let d2 := d1.each [(SB_SHIFT_RANK, 0), (SB_SHIFT_HB1, 1), (SB_SHIFT_HB2, 2), (SB_SHIFT_HB3, 3), (SB_SHIFT_HB4, 4), (SB_SHIFT_FIR, 5),
    (SB_SHIFT_DC, 6)] (fun f e => (e.set f.1 n (sh f.2)).sv .sbShift (7 * n + f.2) (sh f.2 : Nat))
  let d3 := if l.firEn then d2.each (List.range 64) (fun k e =>
    (e.sv .sbCoef (64 * n + k) (l.firSet.getD k 0)).sv .sbCoefP (64 * n + k) (l.firSet.getD k 0)) else d2
  (if same then d3 else { d3 with sb := d3.sb.map (fun x => if x.lane = n then { x with change := true } else x) }).sloeRefresh n

/-! ### LANE and BUNCH resets -/

/-- Packets, streams and device-level engines of a line lane end as the lane is reset (R189, R208, R218, R222, R252). -/
def Dev.lineEnds (d : Dev) (n : Nat) : Dev :=
  let d1 := ((((d.sloeTxDrop n).sloeRxDrop n).adcDown n).trRestart n).dropPips n
  { d1 with trg := d1.trg.filter (fun t => t.lane != n) }

/-- The acquisition fields of a lane return to their reset values but EN (R168). -/
def regOfLink (n : Nat) (k : Key) : Bool :=
  k.2 == n && (match regAt (k.1 / 32) with
    | .BN_LINK_CTRL => k != fkey BN_LINK_CTRL_EN n
    | .BN_LINK_STATUS | .BN_LINK_LOS | .BN_LINK_TMR | .BN_LINK_TMR2 | .BN_LINK_CNT => true
    | _ => false)

/-- LANE_RESET_LL (R10, R94, R168, R294): `ab` reads that the lane had accepted complete ABORTED (R295). -/
def execLaneResetLl (n : Fin 8) (ab : List AbRead) (s : State) : Res :=
  let d := (s.dev.capReset [n.val]).lineEnds n
  let d1 := d.drop (fun k => regOfLine n k || regOfLink n k) (varOfLine n)
  let d2 := ((((d1.seedEq n).eqInit n).evIf (s.dev.on LL_EQ_STATUS_CONV n) LL_EQ_STATUS_CONV_LOST n).genStep (7 + n)).aborted ab
  let d3 := (if d2.on BN_LINK_CTRL_EN n then d2.adcStart n else d2).txRefresh n
  okDev s (d3.laneReact n)

/-- LANE_RESET_HL (R10, R147, R150, R294): the transmitter idles and settles again; training is OFF and starts anew when it has
settled (HL_TX_READY). -/
def execLaneResetHl (m : Fin 16) (ab : List AbRead) (s : State) : Res :=
  let d := s.dev.drop (regOfHost m) (varOfHost m)
  let d1 := (((d.seedHost m).genStep (15 + m)).aborted ab).hlRefresh m
  okDev s ((d1.trainOff m).hostReact m)

/-- A BUNCH reset acts (R10, R45, R294): registers and datapath of the bunch, all generations of the bunch and its lanes; the
shadow reload begins. -/
def Dev.bunchReset (d : Dev) (b : Nat) (ab : List AbRead) : Dev :=
  let d1 := (d.capReset (linesOfBunch b)).each (linesOfBunch b) (fun n e => e.lineEnds n)
  let d2 := (d1.dropLoop (hostsOfBunch b)).drop (regOfBunch b) (varOfBunch b)
  let d3 : Dev := { d2 with cws := d2.cws.filter (fun c => c.lane / 4 != b), reloads := d2.reloads.filter (fun r => r.bunch != b) }
  let d4 := ((d3.genStep (1 + b)).each (linesOfBunch b) (fun n e => e.genStep (7 + n))).each (hostsOfBunch b) (fun m e => e.genStep (15 + m))
  (((d4.aborted ab).sv .bnHeld b 0).sv .bnReload b 1).each (linesOfBunch b) (fun n e => e.txRefresh n)

/-- A load of the bunch stands between QUIESCE and the end of RESTART (R45). -/
def Dev.reseeding (d : Dev) (b : Nat) : Bool := d.loading b && decide (5 ≤ d.get SEED_STATUS_PHASE 0)

/-- BUNCH_RESET (R45): a write of BN_RESET acts, or is held during a load. -/
def execBunchReset (b : Fin 2) (ab : List AbRead) (s : State) : Res :=
  okDev s (if s.dev.reseeding b then s.dev.sv .bnHeld b 1 else s.dev.bunchReset b ab)

/-- BN_RESET_HELD_ACT (R45): the held reset acts once RESTART has ended. -/
def execBnResetHeldAct (b : Fin 2) (ab : List AbRead) (s : State) : Res :=
  okDev s (if s.dev.flag .bnHeld b && !(s.dev.reseeding b) then s.dev.bunchReset b ab else s.dev)

/-- The bunch's lanes in ports are enabled unless lanes are held, and its host lanes begin, their training OFF until a transmitter has
left electrical idle (R44, R143, R168). -/
def Dev.bunchStart (d : Dev) (b : Nat) (hold : Bool) : Dev :=
  let d1 := if hold then d.each (linesOfBunch b) (fun n e => if e.on BN_LINK_CTRL_EN n then e.laneDisable n else e)
    else d.each (linesOfBunch b) (fun n e => e.laneEnable n)
  (d1.each (slotsOfBunch b) (fun sl e => if (e.portAt sl).isSome then e.startHold sl else e)).each (hostsOfBunch b) (fun m e =>
    (e.hlRefresh m).trainOff m)

/-! ### CORE reset -/

/-- A CORE reset of core `c` (R286, R294, R342): it restarts at BOOT_VEC. -/
def Dev.coreReset (d : Dev) (c : Nat) : Dev :=
  (((d.genStep (3 + c)).sv .corePc c ((d.get BOOT_VEC_LO_ADDR 0 + d.get BOOT_VEC_HI_ADDR 0 % 256 * 2 ^ 32 : Nat) : Int)).sv .coreWfi c 0)

/-- TOP_RESET_CORE (R286): the selected cores are reset; `ab` of their outstanding reads complete ABORTED. -/
def execTopResetCore (mask : BitVec 4) (ab : List AbRead) (s : State) : Res :=
  okDev s ((s.dev.each ((List.range 4).filter (fun c => mask.toNat.testBit c)) (fun c e => e.coreReset c)).aborted
    (if mask = 0 then [] else ab))

/-- TOP_LOCK_SET (R8): every RWL field is locked until the next POR or WARM reset. -/
def execTopLockSet (s : State) : Res := okDev s (s.dev.set TOP_LOCK_LOCK 0 1)

/-! ### Device resets -/

/-- The access type of a register field's key. -/
def keyAcc (k : Key) : Option Acc := ((fieldsOf (regAt (k.1 / 32))).find? (fun f => f.lo == k.1 % 32)).map (·.acc)

/-- A register field that POR, WARM and WAKE keep: the Rind domain's, but BOOT_VEC; WARM also keeps RWS fields (R10). -/
def devKeepsReg (warm : Bool) (k : Key) : Bool :=
  match regAt (k.1 / 32) with
  | .BOOT_VEC_LO | .BOOT_VEC_HI => false
  | r => (match placeOf r with | .rind => true | _ => false) || (warm && keyAcc k == some .rws)

/-- A hidden variable that POR, WARM and WAKE keep: the Rind domain's, the Stone's and the balls', and under KEEP_WARM the
remap tables (R285); WARM keeps the BAR2 size the endpoint has taken (R336). -/
def devKeepsVar (warm keepLp : Bool) (k : Key) : Bool :=
  match varPlace (varAt k.1) with
  | .rind | .ext => true
  | _ => match varAt k.1 with
    | .remap => keepLp
    | .winLog2 => warm
    | _ => false

/-- The causes of RIND_REC.CAUSE: POR. -/
def causePOR : Nat := 1
/-- RESET_N. -/
def causeRESETN : Nat := 2
/-- TOP_RESET.WARM. -/
def causeWARM : Nat := 3
/-- A boot step watchdog. -/
def causeWATCHDOG : Nat := 4
/-- The restart after thermal shutdown. -/
def causeTHERMAL : Nat := 5
/-- A wake from DEEP or OFF. -/
def causeWAKE : Nat := 6

/-- The retention SRAM is zero-filled or powered down: no image (R373, R375). -/
def Dev.retClear (d : Dev) : Dev :=
  (({ d with retVars := [], retRegs := [] } : Dev).set RIND_PWR_RET_VALID 0 0).set RIND_PWR_RET_LANES 0 0

/-- POR, WARM (`warm`) or WAKE reset of everything but the Rind domain, the Stone and the fuses (R10, R262, R285, R294): all
domains powered, ZFILL begins, core 0 at the boot ROM. -/
def State.deviceReset (s : State) (cause : Nat) (warm : Bool) : State :=
  let d := s.dev
  let keep := warm && d.on MEM_CTRL_KEEP_WARM 0
  let s1 := if keep then (d.merge.filter (fun e => e.lp)).foldl (fun t e => t.flush e.unit .clean) s else s
  let e : Dev := { Dev.reset with
    regs := s1.dev.regs.filter (fun x => devKeepsReg warm x.1),
    vars := s1.dev.vars.filter (fun x => devKeepsVar warm keep x.1),
    out := d.out, fresh := d.fresh, watch := if keep then d.watch else [], undo := d.undo, fuse := d.fuse,
    retVars := d.retVars, retRegs := d.retRegs }
  let e0 := ((((e.sv .offBunch 0 0).sv .offBunch 1 0).sv .offClk 0 0).sv .offMgmt 0 0).sv .pwrState 0 0 |>.sv .wakeStep 0 0 |>.sv .wakeHeld 0 0
  let e1 := if warm then e0.retClear else e0
  let e2 := (((e1.evIf (cause == causePOR) RIND_PWR_VDD_GOOD 0).sflag .lpSelf 0 keep).set RIND_REC_CAUSE 0 cause).set TOP_GEN_GEN 0 (if warm then (d.devGen + 1) % 256 else 0)
  { s1 with dev := e2, mem := { s1.mem with marked := if keep then s1.mem.marked else [] } }

/-- A WARM reset: the page write in progress of the Stone finishes, later ones are abandoned (R351), then the device resets and
FAULT_N is released (R345). -/
def State.warm (s : State) (cause k : Nat) : State :=
  let t := (s.stnAbandon k).deviceReset cause true
  { t with dev := t.dev.sv .faultN 0 0 }

/-- POWER_ON (R10): VDD comes up and the device takes a POR. -/
def execPowerOn (s : State) : Res :=
  let t := s.deviceReset causePOR false
  ok s { t with dev := t.dev.sv .faultN 0 0 }

/-- RIND_RESET (R10): VDD_RIND is applied; the Rind domain and the retention SRAM take their reset values. -/
def execRindReset (s : State) : Res :=
  let d := s.dev.drop (fun k => match keyPlace k with | .rind => true | _ => false) (fun k => match varPlace (varAt k.1) with | .rind => true | _ => false)
  okDev s { d with retVars := [], retRegs := [] }

/-- RESET_N_PULSE (R400, R10): RESET_N is low for 1 µs or longer. `k`: see `State.stnAbandon`. -/
def execResetNPulse (k : Fin 5) (s : State) : Res := ok s (s.warm causeRESETN k)

/-- TOP_RESET_WARM (R10): a write of TOP_RESET.WARM. -/
def execTopResetWarm (k : Fin 5) (s : State) : Res := ok s (s.warm causeWARM k)

end Sys2Proof.Machine
end

