-- ==== Sys2Proof/Machine/Retain.lean ====
section
/-! DEFINITION. The retention image (R375): what it keeps of a lane, and how a lane takes it back. -/

namespace Sys2Proof.Machine

/-- The hidden variables of a line lane's snapshot (R92). -/
def snapVar (k : Key) : Bool :=
  match varAt k.1 with
  | .snLin | .snQuad | .snPairI | .snPairJ | .snFb | .snB | .snMse | .snPre | .snNlin | .snNquad => true
  | _ => false

/-- The hidden variables of a line lane's trims in use (R53). -/
def trimVar (k : Key) : Bool := match varAt k.1 with | .sliceOfs | .sliceGain | .sliceSkew => true | _ => false

/-- The hidden variables of a host lane's entry: receiver controls and applied transmitter coefficients (R375). -/
def hostVar (k : Key) : Bool := match varAt k.1 with | .hlFfe | .hlH1 | .hlCoef => true | _ => false

/-- A register field of a host lane's entry: the CTLE codes of R136. -/
def hostReg (k : Key) : Bool := k == fkey HL_RX_CTLE_PEAK k.2 || k == fkey HL_RX_CTLE_POLE k.2

/-- The number of a line mode, from 1. -/
def modeIx : LineMode → Nat
  | .l400e => 1
  | .l400s => 2
  | .l200 => 3
  | .l100 => 4

/-- A line lane's mode as the image keeps it, 0 for a lane in no port. -/
def Dev.modeNum (d : Dev) (n : Nat) : Nat := ((d.mode n).map modeIx).getD 0

/-- The seed VERSION of a bunch. -/
def Dev.seedVer (d : Dev) (b : Nat) : Nat := if b = 0 then d.get SEED_VER_B0_VERSION 0 else d.get SEED_VER_B1_VERSION 0

/-- Step 2 of R373: the image of every line lane with a snapshot and of every host lane in a port is written, VALID last. -/
def Dev.retSave (d : Dev) : Dev :=
  let lanes := (List.range 8).filter (fun n => d.on LL_EQ_STATUS_SNAP_VALID n)
  let hosts := (List.range 16).filter (fun m => d.on HL_STATUS_ENABLED m)
  let keep := fun (k : Key) => ((snapVar k || trimVar k) && lanes.any (fun n => varOfLine n k)) || (hostVar k && hosts.any (fun m => varOfHost m k))
  let tab := d.vars.filter (fun e => keep e.1)
  let tab := lanes.foldl (fun t n => tabSet (tabSet t (vkey .retMode n) (d.modeNum n : Int) 0) (vkey .retVer n) (d.seedVer (n / 4) : Int) 0) tab
  let d1 : Dev := { d with retVars := tab, retRegs := d.regs.filter (fun e => hostReg e.1 && hosts.any (fun m => regOfHost m e.1)) }
  (d1.set RIND_PWR_RET_LANES 0 (lanes.foldl (fun a n => a + 2 ^ n) 0)).set RIND_PWR_RET_VALID 0 1

/-- The valid image has an entry for line lane `n`. -/
def Dev.retHas (d : Dev) (n : Nat) : Bool := d.on RIND_PWR_RET_VALID 0 && (d.get RIND_PWR_RET_LANES 0).testBit n

/-- A value of the image's. -/
def Dev.retV (d : Dev) (x : Var) (n : Nat) : Int := tabGet d.retVars (vkey x n) (varRst x n)

/-- The variables that `p` selects take their values from the image. -/
def Dev.retTake (d : Dev) (p : Key → Bool) : Dev :=
  let d1 := d.drop (fun _ => false) p
  (d.retVars.filter (fun e => p e.1)).foldl (fun e x => e.sv (varAt x.1.1) x.1.2 x.2) d1

/-- Line lane `n` takes its retained trims in use. -/
def Dev.retTrims (d : Dev) (n : Nat) : Dev := d.retTake (fun k => trimVar k && varOfLine n k)

/-- The lane's mode and tap counts are those of its entry. -/
def Dev.retFits (d : Dev) (n : Nat) : Bool :=
  decide (d.retV .retMode n = (d.modeNum n : Nat) ∧ d.retV .snNlin n = (d.eqNl n : Nat) ∧ d.retV .snNquad n = (d.eqNq n : Nat))

/-- Line lane `n` gets its snapshot back and restores it as R93 says. -/
def Dev.retSnap (d : Dev) (n : Nat) : Dev :=
  ((d.retTake (fun k => snapVar k && varOfLine n k)).set LL_EQ_STATUS_SNAP_VALID n 1).eqRestore n false

/-- Host lane `m` gets its entry back, if the valid image has one (R375). -/
def Dev.retHost (d : Dev) (m : Nat) : Dev :=
  let d1 := d.retTake (fun k => hostVar k && varOfHost m k)
  (d1.set HL_RX_CTLE_PEAK m (tabGet d.retRegs (fkey HL_RX_CTLE_PEAK m) (rstAt HL_RX_CTLE_PEAK.rst m))).set HL_RX_CTLE_POLE m
    (tabGet d.retRegs (fkey HL_RX_CTLE_POLE m) (rstAt HL_RX_CTLE_POLE.rst m))

/-- At APPLY after a wake from DEEP: the lanes of bunch `b` whose entry has the new seed's VERSION, mode and tap counts restore
their snapshots, and the host lanes are restored with them (R375). -/
def Dev.retApply (d : Dev) (b : Nat) : Dev :=
  let ls := (linesOfBunch b).filter (fun n => d.retHas n && decide (d.retV .retVer n = (d.seedVer b : Nat)) && d.retFits n)
  let d1 := d.each ls (fun n e => e.retSnap n)
  d1.each ((hostsOfBunch b).filter (fun m => (d.linesOfHost m).any (fun n => ls.contains n))) (fun m e => e.retHost m)

/-- At a bunch restart after SLEEP: each lane whose mode and tap counts match restores its entry and takes its trims (R375). -/
def Dev.retWake (d : Dev) (b : Nat) : Dev :=
  let ls := (linesOfBunch b).filter (fun n => d.retHas n && d.retFits n)
  let d1 := d.each ls (fun n e => (e.retSnap n).retTrims n)
  d1.each ((hostsOfBunch b).filter (fun m => (d.linesOfHost m).any (fun n => ls.contains n))) (fun m e => e.retHost m)

/-- The restart of a bunch as its shadow reload ends (R45, R168); after SLEEP every line lane is left disabled and the lanes take
back their retention entries, and the image is given up once both bunches have restarted (R375, R381). -/
def Dev.bunchReloaded (d : Dev) (b : Nat) : Dev :=
  let wake := d.v .bnReload b == 2
  let d1 := ((d.sv .bnReload b 0).seedBunch b).each (linesOfBunch b) (fun n e => e.eqInit n)
  let d2 := d1.bunchStart b (wake || d1.on SEED_CTRL_HOLD_LANES 0)
  if wake then
    let d3 := d2.retWake b
    if d3.v .bnReload (1 - b) = 2 then d3 else d3.set RIND_PWR_RET_VALID 0 0
  else d2

end Sys2Proof.Machine
end

