-- ==== Sys2Proof/Machine/Sign.lean ====
section
/-! DEFINITION. What the seed loader, boot and the SEC command unit share: reading an image, signature blocks and keys (R356,
R357, R359), digests and the measurement registers (R361). -/

namespace Sys2Proof.Machine

/-- Bytes read from a memory: the state after it, the bytes, and whether some word read POISON; the Stone notes that
(STN_STATUS.UE_EV). -/
def State.fetch (s : State) (a n : Nat) : State × List Byte × Bool :=
  let (t, bytes, bad) := (unitsOf a n).foldl (fun (acc : State × List Byte × Bool) u =>
    let from_ := max a u
    let len := min (a + n) (u + unitSize a) - from_
    let (t, st, v) := acc.1.load from_ len .clean
    (t, acc.2.1 ++ leBytes len v, acc.2.2 || st == .poison)) (s, [], false)
  (if bad && decide (region a = .stone) then { t with dev := t.dev.ev STN_STATUS_UE_EV 0 } else t, bytes, bad)

/-- The bytes at an offset of an image. -/
def slice (m : List Byte) (ofs n : Nat) : List Byte := (m.drop ofs).take n

/-- A little-endian field of an image. -/
def field (m : List Byte) (ofs n : Nat) : Nat := leNat (slice m ofs n)

/-- Bytes are all zero. -/
def zeros (m : List Byte) : Bool := m.all (fun b => b == 0)

/-- Length of a signature block (R357). -/
def sigLen : Nat := 29872

/-- The ASCII bytes of a context string. -/
def ascii (s : String) : List Byte := s.toList.map (fun c => BitVec.ofNat 8 c.toNat)

/-- The signature block at `ofs` is of the format of R357 and its signature verifies over the bytes before it. -/
def sigVerifies (ctx : String) (m : List Byte) (ofs : Nat) : Bool :=
  let b := m.drop ofs
  decide (field b 0 4 = 0x4753_4E4C ∧ field b 4 1 = 1) && zeros (slice b 7 9)
    && Config.slhDsaVerify (ascii ctx) (m.take ofs) (slice b 0x10 64) (slice b 0x50 29792)

/-- CLASS of a signature block. -/
def sigClass (m : List Byte) (ofs : Nat) : Nat := field m (ofs + 5) 1

/-- INDEX of a signature block. -/
def sigIndex (m : List Byte) (ofs : Nat) : Nat := field m (ofs + 6) 1

/-- Hash of the signer's public key (R355). -/
def sigKeyHash (m : List Byte) (ofs : Nat) : List Byte := shake256 (slice m (ofs + 0x10) 64) 32

/-- The hash fused in an owner slot. -/
def Dev.ownerHash (d : Dev) (i : Nat) : Option (List Byte) :=
  if i = 0 then d.fuse.owner0 else if i = 1 then d.fuse.owner1 else none

/-- An owner slot is fused and not revoked (R356). -/
def Dev.ownerUsable (d : Dev) (i : Nat) : Bool :=
  (d.ownerHash i).isSome && !(if i = 0 then d.fuse.rev0 else d.fuse.rev1)

/-- The life-cycle state: 0 BLANK, 1 PROVISIONED, 2 OWNED, 3 RETURNED, 4 SCRAPPED (R355). -/
def Dev.lc (d : Dev) : Nat := d.fuse.lc

/-- The state accepts the vendor's signature block of a firmware image (R356, R359 step 5). -/
def Dev.vendorOk (d : Dev) (m : List Byte) (ofs : Nat) : Bool :=
  decide (d.lc ≠ 4 ∧ sigClass m ofs = 0 ∧ sigIndex m ofs = 0) && sigKeyHash m ofs == d.fuse.vendor

/-- The state accepts the owner key `key` of a seed or an applet (R356, R359 step 5). -/
def Dev.ownerOk (d : Dev) (key : Nat) (m : List Byte) (ofs : Nat) : Bool :=
  decide (d.lc = 2 ∧ sigClass m ofs = 1 ∧ sigIndex m ofs = key) && d.ownerUsable key && d.ownerHash key == some (sigKeyHash m ofs)

/-- The TARGET word serves this part (R34). -/
def Dev.targetOk (d : Dev) (t : Nat) : Bool :=
  decide (t % 2 ^ 16 = 0x3208 ∧ t / 2 ^ 16 % 2 ^ 8 ≤ d.get TOP_ID_SREV 0 ∧ t / 2 ^ 24 = 0)

/-! ### Measurement -/

/-- The digest of an image: kind 1 firmware, 2 seed, 3 applet (R361). -/
def imageBytes (kind : Nat) (m : List Byte) (ofs : Nat) : List Byte :=
  leBytes 1 kind ++ leBytes 1 (sigClass m ofs) ++ leBytes 1 (sigIndex m ofs) ++ m.take ofs

/-- Extend a measurement register with the digest of `event` (R361). -/
def Dev.mrExtend (d : Dev) (k : Nat) (digest : List Byte) : Dev :=
  ({ d with mrs := d.mrs.set k (shake256 (d.mrs.getD k [] ++ digest) 64) } : Dev).count SEC_MR_CNT_COUNT k 1

/-- Extend a measurement register with data: its event digest is the first 64 bytes of SHAKE256 of the data (R361). -/
def Dev.mrMeasure (d : Dev) (k : Nat) (data : List Byte) : Dev := d.mrExtend k (shake256 data 64)

end Sys2Proof.Machine
end

