-- ==== Sys2Proof/Machine/Seed.lean ====
section
/-! DEFINITION. The seed loader (R29 to R47, R418): commands, phases, checks, quiesce, apply and restart, and the tile reload
engine. -/

namespace Sys2Proof.Machine

/-! ### Checks of a bunch description (R29, R16, R20) -/

/-- Host and line lanes of a port by type and mode, none where the mode is not allowed (R20). -/
def portShape : PortType → LineMode → Option (Nat × Nat)
  | .g1600, .l400e => some (8, 4)
  | .g1600, .l400s => some (8, 4)
  | .g800, .l400e => some (4, 2)
  | .g800, .l400s => some (4, 2)
  | .g800, .l200 => some (4, 4)
  | .g400, .l400e => some (2, 1)
  | .g400, .l400s => some (2, 1)
  | .g400, .l200 => some (2, 2)
  | .g400, .l100 => some (4, 4)
  | _, _ => none

/-- The modes that share a dpclk (R16). -/
def dpclkClass : LineMode → Nat
  | .l400e => 0
  | .l400s => 1
  | .l200 => 1
  | .l100 => 2

/-- MODE_MIX (R16, R20). -/
def modeMixOk (x : BunchDesc) : Bool :=
  x.ports.all (fun p => (portShape p.ptype p.mode).isSome)
    && x.ports.all (fun p => x.ports.all (fun q => dpclkClass p.mode == dpclkClass q.mode))

/-- The port of a description that holds a line lane. -/
def portOfLine (x : BunchDesc) (l : Nat) : Option PortDesc := x.ports.find? (fun p => decide (p.l0 ≤ l ∧ l < p.l0 + p.nL))

/-- Every element stands once. -/
def allDistinct : List Nat → Bool
  | [] => true
  | a :: l => !(l.contains a) && allDistinct l

/-- ROUTING within a bunch: port numbers that differ, lane groups contiguous, aligned and apart, and the lane map (R29). -/
def routingOk (x : BunchDesc) : Bool :=
  let hosts := x.ports.flatMap (fun p => (List.range p.nH).map (fun i => p.h0 + i))
  let lines := x.ports.flatMap (fun p => (List.range p.nL).map (fun i => p.l0 + i))
  allDistinct (x.ports.map (fun p => p.num)) && x.ports.all (fun p => decide (p.num < 8) && portShape p.ptype p.mode == some (p.nH, p.nL)
      && decide (p.h0 % p.nH = 0 ∧ p.h0 + p.nH ≤ 8 ∧ p.l0 % p.nL = 0 ∧ p.l0 + p.nL ≤ 4))
    && allDistinct hosts && allDistinct lines && decide (x.lanes.length = 4)
    && (List.range 4).all (fun l =>
        let h := (x.lanes.getD l LaneDesc.unused).hosts
        match portOfLine x l with
        | none => h.isEmpty
        | some p => decide (h.length = (match p.mode with | .l400e | .l400s => 2 | _ => 1))
            && h.all (fun m => decide (p.h0 ≤ m ∧ m < p.h0 + p.nH)))
    && allDistinct (x.lanes.flatMap (fun l => l.hosts))

/-- Do it for each line lane with its port. -/
def lanesAll (x : BunchDesc) (f : LaneDesc → Option PortDesc → Bool) : Bool :=
  (List.range 4).all (fun l => f (x.lanes.getD l LaneDesc.unused) (portOfLine x l))

/-- TAPS (R29). -/
def tapsOk (x : BunchDesc) : Bool :=
  lanesAll x (fun l p => match p with
    | none => decide (l.taps = 0 ∧ l.quads = 0)
    | some _ => decide (16 ≤ l.taps ∧ l.taps ≤ 112 ∧ l.quads ≤ 32 ∧ l.quads ≤ l.taps))

/-- SLOTS (R29). -/
def slotsOk (x : BunchDesc) : Bool :=
  lanesAll x (fun l p => match p with
    | none => decide (l.slots = 0 ∧ l.maxp = 0 ∧ l.p2 = 0 ∧ l.p3 = 0 ∧ l.p4 = 0)
    | some q =>
      decide (l.slots ≤ 192 ∧ l.maxp ≤ 4 ∧ l.p3 ≤ l.p2 ∧ l.p4 ≤ l.p3 ∧ l.p2 ≤ codewordsPerPip q.mode)
        && ((l.slots == 0) == (q.mode == .l100))
        && decide ((2 ≤ l.maxp ∨ l.p2 = 0) ∧ (3 ≤ l.maxp ∨ l.p3 = 0) ∧ (4 ≤ l.maxp ∨ l.p4 = 0)))

/-- DEADLINE: deadlines and release modes (R29). -/
def deadlineOk (x : BunchDesc) : Bool :=
  lanesAll x (fun l p => match p with
    | none => true
    | some q => decide (2 ≤ l.dl ∧ l.dl ≤ 6 ∧ l.dl = (x.lanes.getD q.l0 LaneDesc.unused).dl) && l.lowLat == q.lowLat)

/-- INTERLEAVE (R29). -/
def interleaveOk (x : BunchDesc) : Bool :=
  lanesAll x (fun l p => match p with
    | none => true
    | some q => match q.mode with
      | .l400e | .l400s => l.depth == 1 || l.depth == 2 || l.depth == 4
      | _ => l.depth == 0)

/-- SIDEBAND (R29). -/
def sidebandOk (x : BunchDesc) : Bool :=
  lanesAll x (fun l _ => [0, 3, 5, 7, 9].contains l.rank && decide (l.hb ≤ 4) && (!l.firEn || decide (l.firSet.length = 64))
    && l.firSet.all (fun c => decide (-32768 ≤ c ∧ c ≤ 32767)) && decide (l.shifts.length = 7) && l.shifts.all (fun v => decide (v ≤ 15)))

/-- PROFILE: one to three profiles, each lane monotone (R33). -/
def profileOk (x : BunchDesc) : Bool :=
  let p0 := x.lanes.map (fun l => (⟨l.maxp, true, l.taps⟩ : ProfLane))
  let seq := p0 :: x.profiles
  decide (1 ≤ x.profiles.length ∧ x.profiles.length ≤ 3) && x.profiles.all (fun p => decide (p.length = 4))
    && (List.range x.profiles.length).all (fun k => (List.range 4).all (fun l =>
      let a := (seq.getD k []).getD l ⟨0, false, 0⟩
      let b := (seq.getD (k + 1) []).getD l ⟨0, false, 0⟩
      decide (b.maxp ≤ a.maxp ∧ b.taps ≤ a.taps) && (!b.keep || a.keep)
        && (match portOfLine x l with | none => decide (b.taps = 0 ∧ b.maxp = 0) | some _ => decide (16 ≤ b.taps))))

/-- The first of the R29 and R33 codes that a set of descriptions fails; `nums` are the port numbers that must differ (R39, R41). -/
def itemErr (xs : List BunchDesc) (nums : List Nat) : Nat :=
  if !(xs.all modeMixOk) then 0x08
  else if !(xs.all routingOk) || !(allDistinct nums) then 0x09
  else if !(xs.all tapsOk) then 0x0A
  else if !(xs.all slotsOk) then 0x0B
  else if !(xs.all deadlineOk) then 0x0C
  else if !(xs.all interleaveOk) then 0x0D
  else if !(xs.all sidebandOk) then 0x0E
  else if !(xs.all profileOk) then 0x0F
  else 0

/-! ### The budget (R31, R32) -/

/-- Taps, quadratic taps and maximum passes of a lane under a profile (R33, R80). -/
def laneUnder (x : BunchDesc) (prof l : Nat) : Nat × Nat × Nat :=
  let d := x.lanes.getD l LaneDesc.unused
  if prof = 0 then (d.taps, d.quads, d.maxp)
  else
    let p := (x.profiles.getD (prof - 1) []).getD l ⟨0, false, 0⟩
    (p.taps, if p.keep then min d.quads (p.taps - 16) else 0, p.maxp)

/-- The rows of a bunch and profile, in the order of R32. -/
def budgetRows (b : Nat) (x : BunchDesc) (prof : Nat) : List BudgetRow :=
  let u := (List.range 4).map (fun l => (laneUnder x prof l, x.lanes.getD l LaneDesc.unused, portOfLine x l))
  let row := fun (res lane dem cap : Nat) => (⟨b, prof, res, lane, dem, cap⟩ : BudgetRow)
  let per := fun (res : Nat) (f : (Nat × Nat × Nat) × LaneDesc × Option PortDesc → Nat × Nat) =>
    (List.range 4).map (fun l => let v := f (u.getD l ((0, 0, 0), LaneDesc.unused, none)); row res l v.1 v.2)
  let num := fun (m : LineMode → Nat) (p : Option PortDesc) => (p.map (fun q => m q.mode)).getD 0
  per 1 (fun v => (v.1.1, 112)) ++ [row 1 0xFF ((u.map (fun v => v.1.1)).sum) 192]
    ++ per 2 (fun v => (v.1.2.1, 32))
    ++ [row 3 0xFF ((u.map (fun v => (v.1.1 - v.1.2.1 + 2 * v.1.2.1) * num symbolsPerPip v.2.2)).sum) 2949120]
    ++ [row 4 0xFF ((u.map (fun v => v.2.1.slots)).sum) 192]
    ++ per 5 (fun v =>
      let k := fun (i p : Nat) => if i ≤ v.1.2.2 then p else 0
      (num codewordsPerPip v.2.2 + k 2 v.2.1.p2 + k 3 v.2.1.p3 + k 4 v.2.1.p4, 12 * v.2.1.slots))
    ++ [row 6 0xFF ((u.map (fun v => if v.2.2.isSome then v.2.1.dl * num codewordsPerPip v.2.2 else 0)).sum) 3200]

/-- Every row of the described bunches. -/
def allRows (xs : List (Nat × BunchDesc)) : List BudgetRow :=
  xs.flatMap (fun x => (List.range (x.2.profiles.length + 1)).flatMap (fun k => budgetRows x.1 x.2 k))

/-- The rows of a budget table in an image (R31, "Budget table format"). -/
def tableRows (m : List Byte) (ofs count : Nat) : List BudgetRow :=
  (List.range count).map (fun i =>
    let a := ofs + 4 + 16 * i
    ⟨field m a 1, field m (a + 1) 1, field m (a + 2) 1, field m (a + 3) 1, field m (a + 4) 4, field m (a + 8) 4⟩)

/-- Index of the first failing row, none if the table is accepted (R32). -/
def budgetErr : Nat → List BudgetRow → List BudgetRow → Option Nat
  | _, [], [] => none
  | i, [], _ :: _ => some i
  | i, _ :: _, [] => some i
  | i, w :: want, g :: got => if w = g ∧ g.demand ≤ g.capacity then budgetErr (i + 1) want got else some i

/-! ### Structure (R35) -/

/-- Two byte ranges overlap. -/
def overlaps (a n b k : Nat) : Bool := decide (0 < n ∧ 0 < k ∧ a < b + k ∧ b < a + n)

/-- Directory entry `i` of an image: TYPE, BUNCH, offset, length, reserved bytes zero. -/
def dirEntry (m : List Byte) (i : Nat) : Nat × Nat × Nat × Nat × Bool :=
  let a := 0x40 + 16 * i
  (field m a 1, field m (a + 1) 1, field m (a + 4) 4, field m (a + 8) 4, zeros (slice m (a + 12) 4))

/-- The header's own faults (R35): reserved bytes, the directory and the budget table overlapping each other or reaching SIG_OFF,
a budget table that is not 4 + 16 × its rows long or has a reserved byte set. BUDGET_OFF is to be a multiple of 16 (R34), but no rule
refuses another: it is used as it stands (DESIGN CHOICE, assumption 71). -/
def headerFault (m : List Byte) : Bool :=
  let sig := field m 0x1C 4
  let bo := field m 0x10 4
  let bl := field m 0x14 4
  let n := field m 0x18 2
  let rows := field m bo 4
  !(zeros (slice m 0x1A 2)) || !(zeros (slice m 0x28 24)) || decide (sig < 0x40 + 16 * n) || decide (sig < bo + bl)
    || overlaps 0x40 (16 * n) bo bl || decide (bl ≠ 4 + 16 * rows) || !((List.range rows).all (fun i => zeros (slice m (bo + 4 + 16 * i + 12) 4)))

/-- Directory entry `i` offends: an unknown type, a bunch the image does not describe, a repeated section, a reserved byte, or a
section that overlaps the directory, the budget table or an earlier section, or reaches SIG_OFF (R35). That a type outside 0x10 to
0x16, or a BUNCH the image does not describe, is an offence of its entry is the model's reading (DESIGN CHOICE, assumption 71). -/
def entryFault (m : List Byte) (bs : List Nat) (i : Nat) : Bool :=
  let (ty, b, o, n, z) := dirEntry m i
  let sig := field m 0x1C 4
  decide (ty < 0x10 ∨ 0x16 < ty) || !(bs.contains b) || !z || decide (sig < o + n)
    || overlaps o n 0x40 (16 * field m 0x18 2) || overlaps o n (field m 0x10 4) (field m 0x14 4)
    || (List.range i).any (fun j => let (ty2, b2, o2, n2, _) := dirEntry m j; (ty2 == ty && b2 == b) || overlaps o n o2 n2)

/-- ERR_ROW of a STRUCTURE refusal, none if the structure stands (R35); `bs` are the bunches the image describes. -/
def structureErr (m : List Byte) (bs : List Nat) : Option Nat :=
  let n := field m 0x18 2
  if headerFault m then some 0xFF
  else match (List.range n).find? (fun i => entryFault m bs i) with
    | some i => some (min i 0xFE)
    | none =>
      let has := fun (b ty : Nat) => (List.range n).any (fun i => (dirEntry m i).1 == ty && (dirEntry m i).2.1 == b)
      if bs.all (fun b => (List.range 7).all (fun k => has b (0x10 + k))) then none else some (min n 0xFE)

/-! ### Commands -/

/-- The load ends: RESULT 1 ACCEPTED, 2 REFUSED, 3 ABANDONED, with its code (SEED_STATUS). -/
def Dev.seedEnd (d : Dev) (result err : Nat) : Dev :=
  let d1 := ((((d.set SEED_STATUS_BUSY 0 0).set SEED_STATUS_PHASE 0 0).set SEED_STATUS_RESULT 0 result).set SEED_STATUS_ERR 0 err).ev
    SEED_STATUS_DONE 0
  { (d1.sv .seedCmd 0 0) with seedBuf := [], seedNew := [] }

/-- A range lies in management SRAM or in marked LPDDR6 granules (R38). -/
def State.seedMem (s : State) (a n : Nat) : Bool :=
  decide (sramBase ≤ a ∧ a + n ≤ sramBase + 0x80_0000)
    || (decide (lpBase ≤ a ∧ a + n ≤ 0xA0_0000_0000)
      && (List.range (granuleOf (a + n - 1) + 1 - granuleOf a)).all (fun i => s.mem.marked.contains (granuleOf a + i)))

/-- First address of a Stone seed slot (R346). -/
def seedSlotAddr (k : Nat) : Nat := stoneBase + (if k = 0 then 0x50_0000 else 0x150_0000)

/-- The check of phase 1 after the source, in the order of R37: the refusal code, 0 for none. -/
def Dev.headerErr (d : Dev) (cmd : Nat) (h : List Byte) : Nat :=
  let scope := field h 6 1
  let len := field h 8 4
  let sig := field h 0x1C 4
  if field h 0 4 ≠ 0x4445_4553 then 0x01
  else if field h 4 2 ≠ 1 ∨ 2 < scope then 0x02
  else if (cmd = 1 ∧ scope ≠ 0) ∨ (cmd = 2 ∧ scope = 2) ∨ (cmd = 3 ∧ scope = 1) then 0x12
  else if len < 0x50 + sigLen ∨ 524288 < len ∨ sig % 16 ≠ 0 ∨ sig + sigLen ≠ len then 0x03
  else if !(d.targetOk (field h 0x20 4)) then 0x04
  else 0

/-- What phase 1 reads of the source at `a` (R37, R38): the header, and, where nothing refuses it, the rest of LENGTH bytes. The private
buffer, the refusal code and whether a word read was uncorrectable are kept; no later change of the source counts. -/
def State.seedCopy (s : State) (cmd src a : Nat) : State :=
  let (s1, h, bad1) := s.fetch a 64
  let len := clampN 64 524288 (field h 8 4)
  let err := if src = 0 ∧ s.seedMem a len = false then 0x13 else s1.dev.headerErr cmd h
  let (s2, m, bad2) := if err = 0 then s1.fetch a len else (s1, h, false)
  { s2 with dev := { (s2.dev.sflag .seedBad 0 (bad1 || bad2)).sv .seedHdr 0 (err : Nat) with seedBuf := m } }

/-- A command of the loader: 1 LOAD_FULL, 2 LOAD_BUNCH0, 3 LOAD_BUNCH1, 4 CHECK (R37 to R40). While a load runs it is dropped with
BUSY, but the fields the write carries are stored. Phase 1 reads the source as it stands at the command. -/
def State.seedCommand (s : State) (cmd src : Nat) (warm hold : Bool) : State :=
  let d := ((s.dev.set SEED_CTRL_SRC 0 src).put SEED_CTRL_WARM_EQ 0 warm).put SEED_CTRL_HOLD_LANES 0 hold
  if d.on SEED_STATUS_BUSY 0 then { s with dev := d.set SEED_STATUS_ERR 0 0x11 }
  else
    let addr := d.get SEED_SRC_LO_ADDR_LO 0 * 8 + d.get SEED_SRC_HI_ADDR_HI 0 * 2 ^ 32
    let ok := src == 1 || src == 2 || (src == 0 && decide (addr % 8 = 0) && s.seedMem addr 64)
    let d1 := ((d.set SEED_STATUS_BUSY 0 1).set SEED_STATUS_PHASE 0 1).sv .seedCmd 0 (cmd : Nat)
    let d2 := (((d1.sv .seedSrc 0 (src : Nat)).sv .seedAddr 0 ((if src = 0 then addr else seedSlotAddr (src - 1) : Nat) : Int)).sflag .seedWarm 0
      warm).sflag .seedHold 0 hold
    if ok then ({ s with dev := d2 } : State).seedCopy cmd src (d2.v .seedAddr 0).toNat else { s with dev := d2.seedEnd 2 0x13 }

/-- SEED_LOAD_FULL (R39). -/
def execSeedLoadFull (src : BitVec 2) (warm hold : Bool) (s : State) : Res := ok s (s.seedCommand 1 src.toNat warm hold)

/-- SEED_LOAD_BUNCH0 (R39). -/
def execSeedLoadBunch0 (src : BitVec 2) (warm hold : Bool) (s : State) : Res := ok s (s.seedCommand 2 src.toNat warm hold)

/-- SEED_LOAD_BUNCH1 (R39). -/
def execSeedLoadBunch1 (src : BitVec 2) (warm hold : Bool) (s : State) : Res := ok s (s.seedCommand 3 src.toNat warm hold)

/-- SEED_CHECK (R39). -/
def execSeedCheck (src : BitVec 2) (warm hold : Bool) (s : State) : Res := ok s (s.seedCommand 4 src.toNat warm hold)

/-- A load in phases 1 to 4 ends ABANDONED (R40). -/
def Dev.seedAbandon (d : Dev) : Dev :=
  if d.on SEED_STATUS_BUSY 0 && decide (d.get SEED_STATUS_PHASE 0 ≤ 4) then d.seedEnd 3 0 else d

/-- SEED_ABORT (R40). -/
def execSeedAbort (s : State) : Res := okDev s s.dev.seedAbandon

/-- SEED_HEADER_DONE (R37, R38): phase 1 ends with the refusal its checks gave, or VERIFY begins over the buffered copy. -/
def execSeedHeaderDone (s : State) : Res :=
  let d := s.dev
  okDev s (
    if !(d.on SEED_STATUS_BUSY 0) || d.get SEED_STATUS_PHASE 0 != 1 then d
    else if d.flag .seedHdr 0 then d.seedEnd 2 (d.v .seedHdr 0).toNat
    else d.set SEED_STATUS_PHASE 0 2)

/-- The bunches an image of a SCOPE describes. -/
def scopeBunches (scope : Nat) : List Nat := if scope = 0 then [0, 1] else [scope - 1]

/-- The bunches a command loads; CHECK loads none. -/
def cmdBunches (cmd : Nat) : List Nat := if cmd = 1 then [0, 1] else if cmd = 2 then [0] else if cmd = 3 then [1] else []

/-- The port numbers that must differ (R39). -/
def Dev.portNums (d : Dev) (cmd scope : Nat) (ds : List BunchDesc) : List Nat :=
  let nums := fun (x : BunchDesc) => x.ports.map (fun p => p.num)
  let new := fun (b : Nat) => nums (ds.getD b BunchDesc.none)
  if cmd = 1 ∨ (cmd = 4 ∧ scope = 0) then new 0 ++ new 1
  else
    let b := if cmd = 2 then 0 else if cmd = 3 then 1 else scope - 1
    new b ++ nums (d.bunch (1 - b))

/-- QUIESCE of a bunch (R42, R46, R147, R294): the generations, the codewords, both sets of transmitters, captures, Sloe packets. -/
def State.quiesce (s : State) (b : Nat) (ab : List AbRead) : State :=
  let s0 := s.capReseed b
  let d1 := (((s0.dev.genStep (1 + b)).each (linesOfBunch b) (fun n e => e.genStep (7 + n))).each (hostsOfBunch b) (fun m e => e.genStep
    (15 + m))).aborted ab
  let d2 := ((d1.dropLoop (hostsOfBunch b)).each (linesOfBunch b) (fun n e => ((e.sloeTxQuiesce n).sloeRxDrop n).cwClear n)).sv .reseedSq b 1
  let d3 := d2.each (d2.reloads.filter (fun r => r.bunch == b)) (fun r e => e.reloadReport b r.tile 3)
  let d4 : Dev := { d3 with reloads := d3.reloads.filter (fun r => r.bunch != b) }
  let d5 := (d4.each (linesOfBunch b) (fun n e => ((e.sv .lkTileHold n 0).txRefresh n).laneReact n)).each (hostsOfBunch b)
    (fun m e => (e.trainOff m).hlRefresh m)
  { s0 with dev := d5.each (slotsOfBunch b) (fun sl e => e.portReact sl) }

/-- SEED_VERIFY_DONE (R37, R41): signature, structure, items and budget in this order; an image that stands is measured when its
signature verifies (R361), and a load goes on to QUIESCE. `d0` and `d1` are what the sections of the image say, bunch 0 first, in
Swilarid's layout, which the spec does not give; `ab0` and `ab1` requests outstanding to bunch 0 and bunch 1 complete ABORTED when
the bunch is quiesced (R42). -/
def execSeedVerifyDone (d0 d1 : BunchDesc) (ab0 ab1 : List AbRead) (s : State) : Res :=
  ok s (
    if !(s.dev.on SEED_STATUS_BUSY 0) || s.dev.get SEED_STATUS_PHASE 0 != 2 then s else
    let d := s.dev
    let m := d.seedBuf
    let sig := field m 0x1C 4
    let cmd := (d.v .seedCmd 0).toNat
    let scope := field m 6 1
    let bs := scopeBunches scope
    let refuse := fun (e : Dev) (code : Nat) => ({ s with dev := e.seedEnd 2 code } : State)
    if !(d.ownerOk (field m 7 1) m sig) then refuse d 0x05
    else if d.flag .seedBad 0 || !(sigVerifies "LNI-SEED" m sig) then refuse d 0x06
    else
      let d2 := d.mrMeasure 3 (imageBytes 2 m sig ++ leBytes 1 (if cmd = 4 then scope else cmd - 1))
      match structureErr m bs with
      | some row => refuse (d2.set SEED_STATUS_ERR_ROW 0 row) 0x07
      | none =>
        let ds := bs.map (fun b => (b, if b = 0 then d0 else d1))
        let e := itemErr (ds.map (·.2)) (d2.portNums cmd scope [d0, d1])
        if e ≠ 0 then refuse d2 e
        else match budgetErr 0 (allRows ds) (tableRows m (field m 0x10 4) (field m (field m 0x10 4) 4)) with
          | some row => refuse (d2.set SEED_STATUS_ERR_ROW 0 row) 0x10
          | none =>
            if cmd = 4 then { s with dev := d2.seedEnd 1 0 }
            else
              let t := (cmdBunches cmd).foldl (fun t b => t.quiesce b (if b = 0 then ab0 else ab1)) ({ s with dev := d2 } : State)
              { t with dev := { (t.dev.set SEED_STATUS_PHASE 0 6) with seedNew := [d0, d1] } })

/-- The budget and profile reports of a bunch (SEED_BUD, SEED_PROF). -/
def Dev.seedReport (d : Dev) (b version : Nat) : Dev :=
  let x := d.bunch b
  let sum := fun (f : LaneDesc → Nat) => (x.lanes.map f).sum
  let reo := ((List.range 4).map (fun l => match portOfLine x l with
    | none => 0
    | some p => (x.lanes.getD l LaneDesc.unused).dl * codewordsPerPip p.mode)).sum
  if b = 0 then
    ((((d.set SEED_VER_B0_VERSION 0 version).set SEED_BUD_B0_TAPS 0 (sum (·.taps))).set SEED_BUD_B0_SLOTS 0 (sum (·.slots))).set
      SEED_BUD_B0_REORDER 0 reo).set SEED_PROF_COUNT_B0 0 x.profiles.length
  else
    ((((d.set SEED_VER_B1_VERSION 0 version).set SEED_BUD_B1_TAPS 0 (sum (·.taps))).set SEED_BUD_B1_SLOTS 0 (sum (·.slots))).set
      SEED_BUD_B1_REORDER 0 reo).set SEED_PROF_COUNT_B1 0 x.profiles.length

/-- A line lane as a load of its bunch applies (R43, R418): lanes whose mode or membership changes lose EN, the equaliser keeps its
coefficients when WARM_EQ, mode and tap counts allow, the sideband engine takes its stage list. `old` is the seed before. -/
def Dev.applyLine (d : Dev) (n : Nat) (old : BunchDesc) (warm : Bool) : Dev :=
  let l0 := old.lanes.getD (n % 4) LaneDesc.unused
  let m0 := (portOfLine old (n % 4)).map (·.mode)
  let l1 := d.lane n
  let m1 := d.mode n
  let d1 := d.seedDec n
  let keep := warm && m0.isSome && m0 == m1 && decide (l0.taps - l0.quads = l1.taps - l1.quads ∧ l0.quads = l1.quads)
  let d2 := if keep then (d1.put LL_EQ_STATUS_STAGE n l1.mlse).sv .eqProf n 1 else ((d1.seedEq n).eqInit n).set LL_EQ_STATUS_SNAP_VALID n 0
  d2.seedSb n l0

/-- APPLY of a bunch (R43, R418): the lanes that change power down under the old seed, then the new one is in force; the transmit pip
grid goes on in a port all of whose lanes keep EN; in B7 lanes take back what the retention image holds of them (R375). What the new values change of the lanes' states follows (R171). -/
def Dev.applyBunch (d : Dev) (b : Nat) (x : BunchDesc) (warm : Bool) (version : Nat) : Dev :=
  let old := d.bunch b
  let changes := fun (n : Nat) => (portOfLine old (n % 4)).map (·.mode) != (portOfLine x (n % 4)).map (·.mode)
  let d1 := d.each (linesOfBunch b) (fun n e =>
    let e1 := e.sflag .seedDiff n (changes n)
    if changes n && e1.on BN_LINK_CTRL_EN n then e1.laneDisable n else e1)
  let moved := fun (sl : Nat) => (old.ports.find? (fun p => slotIx p == sl % 4)) != (x.ports.find? (fun p => slotIx p == sl % 4))
  let d2 := d1.each ((slotsOfBunch b).filter moved) (fun sl e => (e.dropMarkers sl .rx).dropMarkers sl .tx)
  let d3 := (d2.setBunch b x).seedReport b version
  let d4 := (d3.each (slotsOfBunch b) (fun sl e => (e.seedSlot sl).sflag .txGrid sl
      (!(e.linesOf sl).isEmpty && (e.linesOf sl).all (fun n => !(changes n) && d.on BN_LINK_CTRL_EN n)))).each (hostsOfBunch b)
    (fun m e => e.seedHost m)
  let d5 := (d4.each (linesOfBunch b) (fun n e => e.applyLine n old warm)).when
    (decide (d.get BOOT_STATUS_STEP 0 = 7 ∧ d.get RIND_REC_CAUSE 0 = 6)) (fun e => e.retApply b)
  (d5.each (linesOfBunch b) (fun n e => e.laneReact n)).each (slotsOfBunch b) (fun sl e => e.portReact sl)

/-- First address of a bunch's configuration shadow (R288). -/
def shadowOf (b : Nat) : Nat := shadowBase + 0x2_0000 * b

/-- SEED_APPLY_DONE (R43): the configuration words `cfg0` and `cfg1` of the bunches are written to their tiles and to the shadow,
and the seed is in force; RESTART begins. -/
def execSeedApplyDone (cfg0 cfg1 : List Byte) (s : State) : Res :=
  ok s (
    if !(s.dev.on SEED_STATUS_BUSY 0) || s.dev.get SEED_STATUS_PHASE 0 != 6 then s else
    let bs := cmdBunches (s.dev.v .seedCmd 0).toNat
    let t := bs.foldl (fun t b => t.store 8 (shadowOf b) (((if b = 0 then cfg0 else cfg1)).take 0x2_0000) .clean) s
    let ver := field t.dev.seedBuf 0x0C 4
    let d := t.dev.each bs (fun b e => e.applyBunch b (t.dev.seedNew.getD b BunchDesc.none) (t.dev.flag .seedWarm 0) ver)
    { t with dev := d.set SEED_STATUS_PHASE 0 7 })

/-- RESTART of a bunch (R44, R418): the squelch ends, changed lanes are enabled, kept ones begin at DOWN; under HOLD_LANES every
lane is left disabled. The host transmitters of every port stay in electrical idle until its receive path reaches UP (R176). -/
def Dev.restartBunch (d : Dev) (b : Nat) (hold : Bool) : Dev :=
  let d0 := d.sv .reseedSq b 0
  let kept := (linesOfBunch b).filter (fun n => d0.on BN_LINK_CTRL_EN n && !(d0.flag .seedDiff n))
  let d1 := if hold then d0 else
    (d0.each (slotsOfBunch b) (fun sl e => if e.flag .txGrid sl then (e.sv .portStart sl 1).startOfs sl else e)).each kept
      (fun n e => (((e.sv .lkHoldoff n 0).eqRestart n).enterState n stDOWN).txRefresh n)
  let d2 := d1.bunchStart b hold
  d2.each (linesOfBunch b) (fun n e => ((e.sv .seedDiff n 0).txRefresh n).laneReact n)

/-- SEED_RESTART (R44): the load ends ACCEPTED. -/
def execSeedRestart (s : State) : Res :=
  let d := s.dev
  okDev s (
    if !(d.on SEED_STATUS_BUSY 0) || d.get SEED_STATUS_PHASE 0 != 7 then d
    else (d.each (cmdBunches (d.v .seedCmd 0).toNat) (fun b e => e.restartBunch b (d.flag .seedHold 0))).seedEnd 1 0)

/-- TILE_RELOAD_DONE (R46, R47): the running reload ends, its tile rewritten, or not done for an uncorrectable shadow word; the
waiting one starts. A lane stays at DOWN while another reload waits for a unit of it, and, after a reload that was not done, until the
bunch is loaded. -/
def execTileReloadDone (shadowUe : Bool) (s : State) : Res :=
  let d := s.dev
  okDev s (match d.reloads with
    | [] => d
    | r :: rest =>
      let d1 : Dev := { d with reloads := rest }
      if shadowUe then
        let d2 := (d1.reloadReport r.bunch r.tile 2).ev SEED_STATUS_SHADOW_UE 0
        match r.hold with
        | none => d2
        | some n => d2.sv .lkTileHold n 2
      else
        let d2 := (d1.reloadReport r.bunch r.tile 1).count (if r.bunch = 0 then SEED_RELOAD_CNT_B0 else SEED_RELOAD_CNT_B1) 0 1
        match r.hold with
        | none => d2
        | some n => if d2.v .lkTileHold n = 2 ∨ rest.any (fun q => q.hold == some n) then d2 else (d2.sv .lkTileHold n 0).laneReact n)

end Sys2Proof.Machine
end

