-- ==== Sys2Proof/Machine/Sec.lean ====
section
/-! DEFINITION. The SEC command unit, attestation and the life-cycle commands (R355 to R367). -/

namespace Sys2Proof.Machine

/-! ### Checks -/

/-- The codes of SEC_STATUS.CMD_ERR: STATE. -/
def secSTATE : Nat := 10
/-- SOURCE. -/
def secSOURCE : Nat := 8
/-- BUSY. -/
def secBUSY : Nat := 9

/-- Verification of a firmware image (`fw`) or an applet by the steps of R359: the first code that fails, 0 for none. `room` is how
many bytes hold the image. -/
def Dev.imageErr (d : Dev) (fw : Bool) (m : List Byte) (room : Nat) : Nat :=
  let svn := field m 6 1
  let key := field m 7 1
  let len := field m 8 4
  let entry := field m 0x10 4
  let sig := field m 0x14 4
  if field m 0 4 ≠ (if fw then 0x5746_4E4C else 0x5041_4E4C) then 1
  else if field m 4 2 ≠ 1 ∨ !(zeros (slice m 0x1C 36)) ∨ entry % 4 ≠ 0 ∨ sig ≤ entry ∨ (if fw then 32 else 0) < svn then 2
  else if (if fw then 0x40_0000 else 0x20_0000) < len ∨ room < len ∨ sig % 16 ≠ 0 ∨ sig + sigLen ≠ len then 3
  else if !(d.targetOk (field m 0x18 4)) then 4
  else if !(if fw then decide (key = 0) && d.vendorOk m sig else d.ownerOk key m sig) then 5
  else if fw ∧ svn < d.fuse.svn then 7
  else if !(sigVerifies (if fw then "LNI-FW" else "LNI-APP") m sig) then 6
  else 0

/-- The source of a SEC command. -/
def Dev.secSrc (d : Dev) : Nat := d.get SEC_SRC_LO_ADDR 0 + d.get SEC_SRC_HI_ADDR 0 % 256 * 2 ^ 32

/-- `n` bytes from the source lie in management SRAM, 16-byte aligned (SEC_SRC). -/
def Dev.secSrcOk (d : Dev) (n : Nat) : Bool := decide (d.secSrc % 16 = 0 ∧ sramBase ≤ d.secSrc ∧ d.secSrc + n ≤ sramBase + 0x80_0000)

/-- A SEC command begins and will end with a code; a GO while one runs is refused with BUSY (SEC_STATUS). -/
def Dev.secBegin (d : Dev) (op res : Nat) : Dev :=
  ((d.set SEC_STATUS_CMD_BUSY 0 1).sv .secOp 0 (op : Nat)).sv .secRes 0 (res : Nat)

/-- A SEC command is refused at once. -/
def Dev.secRefuse (d : Dev) (err : Nat) : Dev := (d.set SEC_STATUS_CMD_ERR 0 err).ev SEC_STATUS_CMD_DONE 0

/-- A write of SEC_CMD with GO: OP and MR are stored, and the command begins unless one runs. -/
def State.secGo (s : State) (op mr : Nat) (run : State → State) : State :=
  let d := (s.dev.set SEC_CMD_OP 0 op).set SEC_CMD_MR 0 mr
  if d.on SEC_STATUS_CMD_BUSY 0 then { s with dev := d.secRefuse secBUSY } else run { s with dev := d }

/-- The image at the source, as many bytes as its LENGTH says within SRAM. -/
def State.secImage (s : State) : State × List Byte × Nat :=
  let a := s.dev.secSrc
  let room := sramBase + 0x80_0000 - a
  let (s1, h, _) := s.fetch a 0x40
  let (s2, m, _) := s1.fetch a (clampN 0x40 (min room 0x40_0000) (field h 8 4))
  (s2, m, room)

/-- SEC_VERIFY_FW (R359). -/
def execSecVerifyFw (mr : BitVec 3) (s : State) : Res :=
  ok s (s.secGo 1 mr.toNat (fun t =>
    if !(t.dev.secSrcOk 0x40) then { t with dev := t.dev.secRefuse secSOURCE }
    else let (u, m, room) := t.secImage; { u with dev := u.dev.secBegin 1 (u.dev.imageErr true m room) }))

/-- SEC_VERIFY_APP (R359, R361). -/
def execSecVerifyApp (mr : BitVec 3) (s : State) : Res :=
  ok s (s.secGo 2 mr.toNat (fun t =>
    if !(t.dev.secSrcOk 0x40) then { t with dev := t.dev.secRefuse secSOURCE }
    else
      let (u, m, room) := t.secImage
      { u with dev := { (u.dev.secBegin 2 (u.dev.imageErr false m room)) with secDig := shake256 (imageBytes 3 m (field m 0x14 4)) 64 } }))

/-- SEC_EXTEND (R361): MR0 to MR4 are refused with STATE. -/
def execSecExtend (mr : BitVec 3) (s : State) : Res :=
  ok s (s.secGo 3 mr.toNat (fun t =>
    if mr.toNat < 5 then { t with dev := t.dev.secRefuse secSTATE }
    else if !(t.dev.secSrcOk 64) then { t with dev := t.dev.secRefuse secSOURCE }
    else
      let (u, m, _) := t.fetch t.dev.secSrc 64
      { u with dev := { ((u.dev.secBegin 3 0).sv .secMr 0 (mr.toNat : Nat)) with secDig := m } }))

/-- SEC_CHALLENGE (R365). -/
def execSecChallenge (mr : BitVec 3) (s : State) : Res := ok s (s.secGo 4 mr.toNat (fun t => { t with dev := t.dev.secBegin 4 0 }))

/-- SEC_SVN_BUMP (R355, SEC_CMD). -/
def execSecSvnBump (mr : BitVec 3) (s : State) : Res := ok s (s.secGo 6 mr.toNat (fun t => { t with dev := t.dev.secBegin 6 0 }))

/-! ### Life-cycle tokens (R365, R366) -/

/-- The commands of a token: 1 PROVISION to 6 SCRAP. -/
def lcADDKEY1 : Nat := 3
/-- REVOKE. -/
def lcREVOKE : Nat := 4

/-- The state accepts the command (R356). -/
def lcAllowed (state cmd : Nat) : Bool :=
  match state with
  | 0 => cmd == 1
  | 1 => cmd == 2 || cmd == 6
  | 2 => cmd == 3 || cmd == 4 || cmd == 5 || cmd == 6
  | 3 => cmd == 6
  | _ => false

/-- The challenge in force, none when its words are all zero. -/
def Dev.challenge (d : Dev) : List Byte := (List.range 8).flatMap (fun w => leBytes 4 (d.get SEC_CHAL_CHAL w))

/-- The signer of a token is one its command takes (R356, R365). -/
def Dev.tokenKeyOk (d : Dev) (cmd slot : Nat) (t : List Byte) : Bool :=
  let cls := sigClass t 128
  let ix := sigIndex t 128
  if cmd = 1 ∨ (cmd = 6 ∧ d.lc ≠ 2) then d.vendorOk t 128
  else if cmd = 2 then decide (cls = 1 ∧ ix = 0 ∧ slice t (128 + 0x10) 64 = slice t 0x30 64)
  else d.ownerOk ix t 128 && (cmd != lcREVOKE || ix != slot)

/-- Verification of a token: the first code that fails, 0 for none (R359, R365, R366). -/
def Dev.tokenErr (d : Dev) (t : List Byte) : Nat :=
  let cmd := field t 6 1
  let slot := field t 7 1
  if field t 0 4 ≠ 0x434C_4E4C then 1
  else if field t 4 2 ≠ 1 ∨ cmd = 0 ∨ 6 < cmd ∨ (cmd ≠ lcREVOKE ∧ slot ≠ 0) ∨ 1 < slot ∨ !(zeros (slice t 0x70 16))
      ∨ (cmd ≠ 2 ∧ cmd ≠ lcADDKEY1 ∧ !(zeros (slice t 0x30 64))) then 2
  else if field t 8 8 ≠ d.fuse.serial then 4
  else if zeros d.challenge ∨ slice t 0x10 32 ≠ d.challenge then 11
  else if !(lcAllowed d.lc cmd) then secSTATE
  else if cmd = lcADDKEY1 ∧ d.fuse.owner1.isSome then 13
  else if cmd = lcREVOKE ∧ !(d.ownerUsable (1 - slot)) then 12
  else if !(d.tokenKeyOk cmd slot t) then 5
  else if !(sigVerifies "LNI-LC" t 128) then 6
  else 0

/-- The state a transition leads to. -/
def lcTarget (cmd : Nat) : Nat := if cmd = 1 then 1 else if cmd = 2 then 2 else if cmd = 5 then 3 else 4

/-- The next free bytes, `n` of them (R355, R365: the device's random source). -/
def Dev.freeBytes (d : Dev) (n : Nat) : List Byte := (List.range n).map (fun i => BitVec.ofNat 8 (Config.freeValue (d.fresh + i)))

/-- `n` free values have been drawn. -/
def Dev.drewN (d : Dev) (n : Nat) : Dev := { d with fresh := d.fresh + n }

/-- Step 3 of R366: LC_STATE and the command's key fields are programmed. -/
def Dev.lcProgram (d : Dev) (cmd : Nat) (key : List Byte) : Dev :=
  let f := { d.fuse with lc := lcTarget cmd }
  if cmd = 1 then ({ d with fuse := { f with uds := some (d.freeBytes 32) } } : Dev).drewN 32
  else if cmd = 2 then { d with fuse := { f with owner0 := some (shake256 key 32) } }
  else { d with fuse := f }

/-- Steps 2 to 5 of R366 begin: captures end, transmitters idle, the Stone queue is abandoned, cores are held, fuses are programmed,
the memories are being zero-filled and wiped. -/
def State.lcStart (s : State) (cmd k : Nat) (key : List Byte) : State :=
  let was := s.dev.capOn
  let t := (s.capAbort 7 6).stnAbandon k
  let d1 := ((t.dev.sv .lcCmd 0 (cmd : Nat)).sv .lcIdle 0 1).sflag .lcCap 0 was
  let d2 := (d1.each (List.range 8) (fun n e => e.txRefresh n)).each (List.range 16) (fun m e => e.hlRefresh m)
  let d3 := (d2.each (List.range 4) (fun c e => e.sv .coreHeld c 1)).lcProgram cmd key
  let d4 := (d3.set MEM_STATUS_ZFILL 0 1).put MEM_STATUS_WIPE 0 (d3.get MEM_STATUS_TRAINED 0 != 0)
  { t with
    dev := { d4.retClear with merge := [] },
    mem := { t.mem with marked := [] } }

/-- A report in preparation ends ABANDONED (R364). -/
def Dev.attAbandon (d : Dev) : Dev :=
  if d.on SEC_STATUS_ATT_BUSY 0 then
    { (((d.set SEC_STATUS_ATT_BUSY 0 0).set SEC_STATUS_ATT_RESULT 0 3).ev SEC_STATUS_ATT_DONE 0) with attRep := [] }
  else d

/-- SEC_LC_GO (R365, R366): the token is verified; a refusal waits to be reported, a key command to be fused, a transition begins.
The challenge is consumed. `k`: see `State.stnAbandon`. -/
def execSecLcGo (mr : BitVec 3) (k : Fin 5) (s : State) : Res :=
  let d0 := (s.dev.set SEC_CMD_OP 0 5).set SEC_CMD_MR 0 mr.toNat
  let used := fun (d : Dev) => d.each (List.range 8) (fun w e => e.set SEC_CHAL_CHAL w 0)
  ok s (
    if d0.on SEC_STATUS_CMD_BUSY 0 || d0.on SEED_STATUS_BUSY 0 then { s with dev := ((used d0).secRefuse secBUSY).set SEC_LC_STATUS_LAST 0 secBUSY }
    else if !(d0.secSrcOk (128 + sigLen)) then { s with dev := ((used d0).secRefuse secSOURCE).set SEC_LC_STATUS_LAST 0 secSOURCE }
    else
      let (t, m, _) := ({ s with dev := d0 } : State).fetch d0.secSrc (128 + sigLen)
      let e := t.dev.tokenErr m
      let cmd := field m 6 1
      let d1 := (used t.dev).set SEC_LC_STATUS_CMD 0 cmd
      let d2 := d1.secBegin 5 e
      if e ≠ 0 then { t with dev := d2.set SEC_LC_STATUS_LAST 0 e }
      else
        let d3 : Dev := { d2.attAbandon with secDig := slice m 0x30 64 }
        if cmd = lcADDKEY1 ∨ cmd = lcREVOKE then { t with dev := d3.sv .secMr 0 (field m 7 1 : Nat) }
        else ({ t with dev := d3 } : State).lcStart cmd k (slice m 0x30 64))

/-- What a SEC command that succeeds leaves (R355, R361, R365). -/
def Dev.secEffect (d : Dev) : Dev :=
  let op := d.v .secOp 0
  if op = 2 then d.mrExtend 4 d.secDig
  else if op = 3 then d.mrExtend (d.v .secMr 0).toNat d.secDig
  else if op = 4 then
    (d.each (List.range 8) (fun w e => e.set SEC_CHAL_CHAL w (leNat (slice (d.freeBytes 32) (4 * w) 4)))).drewN 32
  else if op = 5 then
    let d1 := d.set SEC_LC_STATUS_LAST 0 0
    if d.get SEC_LC_STATUS_CMD 0 = lcADDKEY1 then { d1 with fuse := { d1.fuse with owner1 := some (shake256 d.secDig 32) } }
    else if d.v .secMr 0 = 0 then { d1 with fuse := { d1.fuse with rev0 := true } }
    else { d1 with fuse := { d1.fuse with rev1 := true } }
  else if op = 6 then { d with fuse := { d.fuse with svn := max d.fuse.svn (d.v .fwSvn 0).toNat } }
  else d

/-- SEC_COMMAND_DONE (R359): the running command ends; a life-cycle transition ends otherwise. -/
def execSecCommandDone (s : State) : Res :=
  let d := s.dev
  okDev s (
    if !(d.on SEC_STATUS_CMD_BUSY 0) || d.v .lcCmd 0 != 0 then d else
    let e := (d.v .secRes 0).toNat
    let d1 := if e = 0 then d.secEffect else d
    { (((d1.set SEC_STATUS_CMD_BUSY 0 0).sv .secOp 0 0).secRefuse e) with secDig := [] })

/-! ### The wipes (R366, R367) -/

/-- The Stone's page ranges a transition zeroes, but the boot configuration record: first page and count, to SCRAPPED or not (R367). -/
def lcRegions (scrap : Bool) : List (Nat × Nat) :=
  [(0x301, 255), (0x5000, 2048), (0x5800, 0xA800), (0x15000, 2048), (0x15800, 0xA800)]
    ++ (if scrap then [(0x100, 256), (0x200, 256), (0x1000, 16384), (0x10000, 256), (0x11000, 16384)] else [])

/-- Zero a range of pages of the Stone. -/
def State.stnZero (s : State) (r : Nat × Nat) : State :=
  let first := r.1 / 256
  let last := (r.1 + r.2 - 1) / 256
  { s with
    mem := s.mem.clear (pageAddr r.1) (pageAddr (r.1 + r.2)),
    dev := s.dev.each ((List.range (last + 1 - first)).map (fun i => first + i)) (fun g e =>
      let lo := max r.1 (256 * g)
      let hi := min (r.1 + r.2) (256 * (g + 1))
      e.worn lo (hi - lo)) }

/-- The journal's F and LEVEL of every step are cleared (R367). -/
def Dev.journalClear (d : Dev) : Dev := (d.each (List.range 12) (fun i e => (e.sv .jFail i 0).sv .jLevel i 0)).headerWrite

/-- Steps 4 and 6 of R366: on-chip memories, retention SRAM and init bitmap hold zero, and the Stone's regions but the boot
configuration record. -/
def State.lcWipeChip (s : State) : State :=
  let s1 := (lcRegions (decide (s.dev.lc = 4))).foldl (fun t r => t.stnZero r) s
  let m := ((s1.mem.clear sramBase (sramBase + 0x80_0000)).zeroCap).clear spareBase (spareBase + 0x1000)
  { s1 with
    mem := { m with marked := [] },
    dev := { (s1.dev.set MEM_STATUS_ZFILL 0 0).journalClear.retClear with merge := [] } }

/-- The end of step 6 and step 7 of R366: the boot configuration record is zeroed and the LC_WIPED bits are programmed. -/
def State.lcWipeEnd (s : State) : State :=
  let t := s.stnZero (0x300, 1)
  { t with dev := { t.dev with fuse := { t.dev.fuse with wiped := t.dev.fuse.lc } } }

/-- LC_TRANSITION_WIPE_DONE (R366): the wipes end, LC_WIPED is programmed, and a WARM reset follows, with SEC_LC_STATUS kept and, if
the transition ended a capture, CAP_STATUS at DONE with LIFECYCLE. RIND_REC.CAUSE has no code for it: a free value (assumption 32). -/
def execLcTransitionWipeDone (s : State) : Res :=
  ok s (
    if s.dev.v .lcCmd 0 = 0 then s else
    let s1 := s.lcWipeChip
    let s2 : State := { s1 with mem := if s.dev.get MEM_STATUS_TRAINED 0 != 0 then s1.mem.wipeLp else s1.mem }
    let s3 := s2.lcWipeEnd
    let cause := s3.dev.freeNat 8
    let t := ({ s3 with dev := (s3.dev.drew.set SEC_LC_STATUS_LAST 0 0).set MEM_STATUS_WIPE 0 0 } : State).warm cause 0
    if s.dev.flag .lcCap 0 then { t with dev := (t.dev.set CAP_STATUS_STATE 0 capDONE).set CAP_STATUS_END_REASON 0 6 } else t)

/-! ### Attestation (R362 to R364) -/

/-- The 96 bytes the identity key pair is made from (R362). -/
def Dev.identityBytes (d : Dev) : List Byte := shake256 (ascii "LNI-ID" ++ d.fuse.uds.getD []) 96

/-- A list as exactly `n` bytes. -/
def exactly (n : Nat) (l : List Byte) : List Byte := (l ++ List.replicate n 0).take n

/-- Bytes 0x000 to 0x30F of the report (R363). -/
def Dev.attHead (d : Dev) : List Byte :=
  let hash := fun (h : Option (List Byte)) => exactly 32 (h.getD [])
  leBytes 4 0x5241_4E4C ++ leBytes 2 1 ++ leBytes 1 d.lc
    ++ leBytes 1 (b2n (d.scaleOk 0) + 2 * d.get SEC_LC_BOOT_CLOSED 0)
    ++ leBytes 4 (0x3208 + d.get TOP_ID_SREV 0 * 2 ^ 16) ++ leBytes 4 50640
    ++ (List.range 8).flatMap (fun w => leBytes 4 (d.get SEC_NONCE_NONCE w))
    ++ exactly 32 d.fuse.vendor ++ hash d.fuse.owner0 ++ hash d.fuse.owner1
    ++ leBytes 1 (b2n d.fuse.owner0.isSome + 2 * b2n d.fuse.rev0 + 4 * b2n d.fuse.owner1.isSome + 8 * b2n d.fuse.rev1)
    ++ leBytes 1 d.fuse.svn ++ leBytes 2 0 ++ leBytes 4 (d.devNum + 64 * d.get BRM_FSTATUS_NUMBERED 0)
    ++ leBytes 4 (d.get SEED_VER_B0_VERSION 0) ++ leBytes 4 (d.get SEED_VER_B1_VERSION 0)
    ++ leBytes 12 (timeBits d.actTime) ++ leBytes 4 0 ++ exactly 64 (Config.identityKey d.identityBytes)
    ++ d.mrs.flatMap (fun m => m) ++ (List.range 8).flatMap (fun k => leBytes 4 (d.get SEC_MR_CNT_COUNT k))

/-- The refusal of START, 0 for none (R362, R364). -/
def Dev.attErr (d : Dev) : Nat :=
  let dst := d.get SEC_ATT_DST_LO_ADDR 0 + d.get SEC_ATT_DST_HI_ADDR 0 % 256 * 2 ^ 32
  if d.on SEC_STATUS_ATT_BUSY 0 then secBUSY
  else if d.lc = 0 ∨ d.lc = 4 then secSTATE
  else if dst % 64 ≠ 0 ∨ dst < sramBase ∨ shadowBase < dst + 50640 then secSOURCE
  else 0

/-- ATT_START (R364): the nonce and the values of the report are copied and signing begins, or START is refused. -/
def execAttStart (s : State) : Res :=
  let d := s.dev
  okDev s (
    if d.attErr ≠ 0 then (d.set SEC_STATUS_ATT_RESULT 0 2).set SEC_STATUS_ATT_ERR 0 d.attErr
    else
      { ((d.set SEC_STATUS_ATT_BUSY 0 1).sv .attDst 0 ((d.get SEC_ATT_DST_LO_ADDR 0 + d.get SEC_ATT_DST_HI_ADDR 0 % 256 * 2 ^ 32 : Nat) : Int)) with
        attRep := d.attHead })

/-- ATT_DONE (R363, R364): signing ends and the report is written in one burst. -/
def execAttDone (s : State) : Res :=
  ok s (
    if !(s.dev.on SEC_STATUS_ATT_BUSY 0) then s else
    let rep := s.dev.attRep
    let sig := exactly 49856 (Config.identitySign s.dev.identityBytes rep (Config.freeValue s.dev.fresh))
    let t := s.putUnits (s.dev.v .attDst 0).toNat (rep ++ sig)
    { t with dev := { (((((t.dev.drew.set SEC_STATUS_ATT_BUSY 0 0).set SEC_STATUS_ATT_RESULT 0 1).set SEC_STATUS_ATT_ERR 0 0).ev
        SEC_STATUS_ATT_DONE 0)) with attRep := [] } })

end Sys2Proof.Machine
end

