-- ==== Sys2Proof/Machine/Boot.lean ====
section
/-! DEFINITION. The boot steps B0 to B11, their journal, alternative levels and stops (R341 to R345, R353, R368). -/

namespace Sys2Proof.Machine

/-- A register read as its fields stand, reserved bits zero. -/
def Dev.regWord (d : Dev) (r : Reg) (n : Nat) : Nat := (fieldsOf r).foldl (fun a f => a + d.get f n * 2 ^ f.lo) 0

/-! ### The journal -/

/-- Highest alternative level of a boot step (R343). -/
def bootTop (i : Nat) : Nat := if i = 7 then 2 else if i = 2 ∨ i = 4 ∨ i = 5 ∨ i = 6 ∨ i = 9 then 1 else 0

/-- The step keeps its level (R343). -/
def bootKeeps (i : Nat) : Bool := i == 2 || i == 4 || i == 5 || i == 6 || i == 7

/-- The codes of BOOT_STATUS.RESULT: LENGTH. -/
def bootLENGTH : Nat := 1
/-- SIGNATURE. -/
def bootSIGNATURE : Nat := 2
/-- POISON. -/
def bootPOISON : Nat := 3
/-- REFUSED. -/
def bootREFUSED : Nat := 4
/-- TRAINING. -/
def bootTRAINING : Nat := 5
/-- NO_LOCK. -/
def bootNOLOCK : Nat := 6
/-- RECORD. -/
def bootRECORD : Nat := 7

/-- F of a step goes to a value; the header is written when it changes. -/
def Dev.setF (d : Dev) (i v : Nat) : Dev := if d.v .jFail i = (v : Nat) then d else (d.sv .jFail i (v : Nat)).headerWrite

/-- LEVEL of a step goes to a value. -/
def Dev.setLevel (d : Dev) (i v : Nat) : Dev := if d.v .jLevel i = (v : Nat) then d else (d.sv .jLevel i (v : Nat)).headerWrite

/-- Boot stops: FAULT_N is driven low (R345). -/
def Dev.bootStop (d : Dev) : Dev := ((d.set BOOT_STATUS_STOPPED 0 1).ev BOOT_STATUS_STOP_EV 0).sv .faultN 0 1

/-- The ROM works at step `i`: it has come to it, boot is not stopped, and neither the wait for a cool sample, a thermal stop nor
a life-cycle transition holds core 0 (R345, R366, R392, R394). -/
def Dev.bootAt (d : Dev) (i : Nat) : Bool :=
  d.v .bootNext 0 == (i : Nat) && !(d.on BOOT_STATUS_STOPPED 0) && d.v .thmSt 0 == 1 && d.v .lcCmd 0 == 0 && !(d.flag .offMgmt 0)

/-- The primary seed slot, or at level 1 the other one. -/
def Dev.bootSlot (d : Dev) (lvl : Nat) : Nat := (d.v .cfgFlags 0 / 2 + (lvl : Nat)).toNat % 2

/-- B7 at a level that reads a slot begins: the loader is commanded (R343). -/
def State.bootSeed (s : State) (lvl : Nat) : State :=
  let t : State := { s with dev := s.dev.sv .bootLevel 0 (lvl : Nat) }
  if s.dev.lc = 2 ∧ lvl < 2 then t.seedCommand 1 (1 + s.dev.bootSlot lvl) false false else t

/-- The Bramble ports of a role (R341). -/
def rolePorts (mode : Nat) : List Nat := if mode = 0 then [1, 2] else if mode = 3 then [] else [0, 1, 2]

/-- What a step's work begins with at its level: B7 commands the loader, B9 enables ports (R343). -/
def State.bootEnter (s : State) (i lvl : Nat) : State :=
  if i = 7 then s.bootSeed lvl
  else if i = 9 ∧ lvl = 0 then { s with dev := s.dev.each (rolePorts (s.dev.get BOOT_STATUS_MODE 0)) (fun p e => e.brmEnable p) }
  else s

/-- The start of step `i` (R344): a step with F = 3 stops boot. -/
def State.bootStart (s : State) (i : Nat) : State :=
  let d := s.dev
  if d.v .jFail i = 3 then { s with dev := d.bootStop }
  else
    let lvl := min (max (d.v .jFail i) (d.v .jLevel i)).toNat (bootTop i)
    let t := s.log 2 i lvl 0
    let d1 := ((t.dev.set BOOT_STATUS_STEP 0 i).set RIND_REC_LAST_STEP 0 i).sv .bootNext 0 (i : Nat)
    ({ t with dev := d1.sv .bootLevel 0 (lvl : Nat) } : State).bootEnter i lvl

/-- A step has ended OK at a level, which it keeps or not (R344). -/
def State.bootEnded (s : State) (i lvl : Nat) (keep : Bool) : State :=
  let t := s.log 3 i lvl 0
  let d := t.dev.setF i 0
  let d1 := if keep then d.setLevel i lvl else d
  { t with dev := d1.evIf (decide (0 < lvl)) BOOT_STATUS_ALT_EV 0 }

/-- A step ends OK at a level and the next one starts (R344). -/
def State.bootOk (s : State) (i lvl : Nat) : State := (s.bootEnded i lvl (bootKeeps i)).bootStart (i + 1)

/-- A step has failed cleanly at its highest level: END FAIL, and a new attempt begins at B0 (R344). -/
def State.bootFail (s : State) (i lvl : Nat) : State :=
  let t := s.log 3 i lvl 1
  let d := t.dev.setF i (min 3 ((t.dev.v .jFail i).toNat + 1))
  { t with dev := (d.count RIND_REC_FAILS 0 1).sv .bootNext 0 0 }

/-- Run a step from a level up until a level ends well; `run` answers the code of a clean failure (R344). -/
def State.bootTry (run : Nat → State → State × Option Nat) (i : Nat) : Nat → Nat → State → State
  | 0, lvl, s => s.bootFail i lvl
  | fuel + 1, lvl, s =>
    match run lvl s with
    | (t, none) => t.bootOk i lvl
    | (t, some code) =>
      let u : State := { t with dev := t.dev.set BOOT_STATUS_RESULT 0 code }
      if lvl < bootTop i then u.bootTry run i fuel (lvl + 1) else u.bootFail i lvl

/-- A command that ends step `i`: its work from the level at which it started. -/
def State.bootStep (s : State) (i : Nat) (run : Nat → State → State × Option Nat) : State :=
  if s.dev.bootAt i then s.bootTry run i 3 (s.dev.v .bootLevel 0).toNat else s

/-! ### B0 -/

/-- Straps are sampled once for each POR, WARM and WAKE reset (R341). -/
def Dev.bootStraps (d : Dev) (straps : Nat) : Dev :=
  if d.flag .strapsTaken 0 then d
  else
    let d1 := ((d.sv .strapsTaken 0 1).set BOOT_STATUS_MODE 0 straps).put BRM_FCTRL_ROOT 0 (straps == 0)
    if d.get RIND_REC_CAUSE 0 = causePOR ∨ d.get RIND_REC_CAUSE 0 = causeWAKE then d1.put BRM_CLK_SRC 0 (straps == 1) else d1

/-- The steps that the previous attempt left interrupted are counted (R344). -/
def State.bootInterrupted (s : State) : State :=
  let l := interruptedSteps s.logRecords (s.dev.v .jAttempt 0).toNat
  if l.isEmpty then s
  else { s with dev := (s.dev.each l (fun i e => e.setF i (min 3 ((e.v .jFail i).toNat + 1)))).count RIND_REC_FAILS 0 1 }

/-- The abandonment record is shown once after it was written (R351). -/
def Dev.bootAbandon (d : Dev) : Dev :=
  if d.flag .jAbNew 0 then
    ((((d.set STN_ABANDON_COUNT 0 (min 15 (d.v .jAbCount 0).toNat)).set STN_ABANDON_FIRST 0 (d.v .jAbFirst 0).toNat).set
      STN_ABANDON_LAST_HI 0 ((d.v .jAbLast 0).toNat / 64)).ev STN_STATUS_ABANDON_EV 0).sv .jAbNew 0 0
  else d

/-- Fields that tell of one boot are cleared as it begins. -/
def Dev.bootFresh (d : Dev) : Dev :=
  d.each [BOOT_STATUS_DONE, BOOT_STATUS_FW_B, BOOT_STATUS_SEED_SLOT, BOOT_STATUS_SAFE_SEED, BOOT_STATUS_NO_LPDDR6, BOOT_STATUS_FG_PENDING,
    BOOT_STATUS_STANDALONE, BOOT_STATUS_CFG_DEFAULT] (fun f e => e.set f 0 0)

/-- B0's work up to its START record: straps, rollback, interrupted steps, a new attempt (R344, R348, R349, R351, R380). -/
def State.bootBegin (s : State) (straps : Nat) : State :=
  let d := ((s.dev.bootFresh.bootStraps straps).set STN_STATUS_ROLLBACK 0 0)
  let d1 := (d.evIf (d.flag .retryPend 0) PWR_STATUS_RETRY_EV 0).sv .retryPend 0 0
  let t := ({ s with dev := d1 } : State).rollback.bootInterrupted
  let d2 := (t.dev.bootAbandon.sv .jAttempt 0 ((t.dev.v .jAttempt 0 + 1) % 2 ^ 32)).headerWrite
  let u := ({ t with dev := d2.set BOOT_STATUS_ATTEMPT 0 (d2.v .jAttempt 0).toNat } : State).log 1 0 0 0
  u.bootStart 0

/-- BOOT_B0 (R343, R344, R348, R351): the step ends once ZFILL is 0. -/
def execBootB0 (straps : BitVec 2) (s : State) : Res :=
  ok s (
    if !(s.dev.bootAt 0) || s.dev.on MEM_STATUS_ZFILL 0 then s
    else
      let t := s.bootBegin straps.toNat
      if t.dev.on BOOT_STATUS_STOPPED 0 then t else t.bootOk 0 0)

/-! ### B1 to B11 -/

/-- First address of the boot configuration record. -/
def cfgAddr : Nat := pageAddr 0x300

/-- The record is replaced by its defaults: all zero, or a wrong CRC (R353). -/
def cfgBad (r : List Byte) : Bool := zeros r || crc32 (r.take 252) != field r 252 4

/-- What B1 measures of the fuses (R361, assumption 31). -/
def Dev.fuseNumbers (d : Dev) : List Nat :=
  let h := fun (x : Option (List Byte)) => match x with | some b => leNat b + 1 | none => 0
  [leNat d.fuse.vendor, d.fuse.serial, d.fuse.lc, d.fuse.wiped, h d.fuse.owner0, h d.fuse.owner1, b2n d.fuse.rev0 + 2 * b2n d.fuse.rev1, d.fuse.svn]

/-- A transition whose LC_WIPED bit is missing is finished but for the LPDDR6 wipe, which B5 does unless the record reads as
defaults (R368). -/
def State.bootResume (s : State) : State :=
  if s.dev.fuse.lc = s.dev.fuse.wiped then s
  else
    let t := s.lcWipeChip
    if cfgBad (t.mem.readBytes cfgAddr 256) then t.lcWipeEnd else t

/-- BOOT_B1 (R343, R356, R361, R368). -/
def execBootB1 (s : State) : Res :=
  ok s (
    if !(s.dev.bootAt 1) then s
    else
      let t := s.bootResume
      let u := ({ t with dev := t.dev.mrMeasure 0 (Config.fuseBytes t.dev.fuseNumbers) } : State)
      if u.dev.lc = 4 then let e := u.bootEnded 1 0 false; { e with dev := e.dev.bootStop } else u.bootOk 1 0)

/-- BOOT_B2 (R317, R343): `ref` and `up` tell whether the PLLs lock on REFCLK and on the Bramble-recovered clock. -/
def execBootB2 (ref up : Bool) (s : State) : Res :=
  ok s (s.bootStep 2 (fun lvl t =>
    let src := t.dev.on BRM_CLK_SRC 0 != decide (lvl = 1)
    if if src then up else ref then
      ({ t with dev := ((t.dev.put BRM_CLK_SRC_NOW 0 src).put BRM_CLK_LOCKED 0 src).set PWR_STATUS_PLL_CLK 0 1 }, none)
    else (t, some bootNOLOCK)))

/-- The boot configuration record in use (R353). -/
def Dev.bootConfig (d : Dev) (r : List Byte) : Dev :=
  let bad := cfgBad r
  let lp := if bad then 0 else field r 5 1
  let d1 := ((d.put BOOT_STATUS_CFG_DEFAULT 0 bad).sv .cfgFlags 0 ((if bad then 0 else field r 4 1 : Nat) : Int)).sv .cfgWait 0
    ((if bad then 500 else field r 6 2 : Nat) : Int)
  ((d1.set MEM_STATUS_FITTED 0 lp).set MEM_STATUS_CAP 0 (lp / 16)).set MEM_STATUS_RATE 0 (lp / 64)

/-- Management SRAM spares of the factory record (R274). -/
def Dev.bootSpares (d : Dev) (l : List (Nat × Nat)) : Dev :=
  let e := d.each (List.range 64) (fun i x => x.sv .mspare i 0)
  l.foldl (fun x bw =>
    match (List.range 8).find? (fun i => x.v .mspare (8 * bw.1 + i) == 0) with
    | some i => x.sv .mspare (8 * bw.1 + i) ((bw.2 + 1 : Nat) : Int)
    | none => x) e

/-- First address of a copy of the factory record. -/
def factoryAddr (mirror : Bool) : Nat := pageAddr (if mirror then 0x1_0000 else 0x100)

/-- BOOT_B3 (R343, R353, R361): `fac0` and `fac1` are the factory record of bank 0 and its mirror, none where the CRC fails; the
record's layout is not given. -/
def execBootB3 (fac0 fac1 : Option FactoryRec) (s : State) : Res :=
  ok s (s.bootStep 3 (fun _ t =>
    let (t1, _, bad0) := t.fetch (factoryAddr false) 0x1_0000
    let (t2, _, bad1) := t1.fetch (factoryAddr true) 0x1_0000
    let (t3, r, bad2) := t2.fetch cfgAddr 256
    let u := { t3 with dev := t3.dev.bootConfig r }
    if bad0 || bad1 || bad2 then (u, some bootPOISON)
    else match (if fac0.isSome then fac0 else fac1) with
      | none => (u, some bootRECORD)
      | some f =>
        let d := ((u.dev.bootSpares f.spares).set I3C_PID_MFR 0 f.mfr).set I3C_PID_INST 0 f.inst
        let used := (if cfgBad r then Config.defaultRecord else r) ++ u.mem.readBytes (factoryAddr (!fac0.isSome)) (min 0x1_0000 f.len)
        ({ u with dev := d.mrMeasure 2 used }, none)))

/-- The failure of a firmware image as BOOT_STATUS.RESULT names it: LENGTH, else SIGNATURE (R359). -/
def bootImageCode (e : Nat) : Nat := if e = 3 then bootLENGTH else bootSIGNATURE

/-- B4 at a level: the primary image or the other one (R343, R358, R359, R361). -/
def State.bootImage (s : State) (lvl : Nat) : State × Option Nat :=
  let slot := (s.dev.v .cfgFlags 0 + (lvl : Nat)).toNat % 2
  let a := stoneBase + (if slot = 0 then 0x10_0000 else 0x110_0000)
  let (t1, h, bad1) := s.fetch a 0x40
  let (t2, m, bad2) := t1.fetch a (clampN 0x40 0x40_0000 (field h 8 4))
  let e := t2.dev.imageErr true m 0x40_0000
  if bad1 then (t2, some bootPOISON)
  else if e = 1 ∨ e = 2 ∨ e = 3 then (t2, some (bootImageCode e))
  else if bad2 then (t2, some bootPOISON)
  else if e ≠ 0 then (t2, some (bootImageCode e))
  else
    let sig := field m 0x14 4
    let t := t2.putUnits sramBase (m.take sig)
    let d := (t.dev.mrExtend 1 (shake256 (imageBytes 1 m sig) 64)).put BOOT_STATUS_FW_B 0 (slot == 1)
    ({ t with dev := ((d.sv .fwEntry 0 (field m 0x10 4 : Nat)).sv .fwSvn 0 (field m 6 1 : Nat)).sv .jFwLast 0 (slot : Nat) }, none)

/-- BOOT_B4. -/
def execBootB4 (s : State) : Res := ok s (s.bootStep 4 (fun lvl t => t.bootImage lvl))

/-- The LPDDR6 wipe of an unfinished transition, and the end of that transition (R368). -/
def State.bootWipe (s : State) : State :=
  if s.dev.fuse.lc = s.dev.fuse.wiped then s else ({ s with mem := { s.mem.wipeLp with marked := [] } } : State).lcWipeEnd

/-- BOOT_B5 (R280, R343, R368): `trained` tells which channels train. -/
def execBootB5 (trained : BitVec 4) (s : State) : Res :=
  ok s (s.bootStep 5 (fun lvl t =>
    let fit := t.dev.get MEM_STATUS_FITTED 0
    if lvl = 1 then ({ t with dev := ((t.dev.set MEM_STATUS_TRAINED 0 0).set MEM_GRANULES_COUNT 0 0).set BOOT_STATUS_NO_LPDDR6 0 1 }, none)
    else if (List.range 4).all (fun c => !(fit.testBit c) || trained.toNat.testBit c) then
      let d := (t.dev.set MEM_STATUS_TRAINED 0 fit).sv .lpSelf 0 0
      (({ t with dev := d.set MEM_GRANULES_COUNT 0 (d.chans * d.chanBytes / 0x10_0000 - 1) } : State).bootWipe, none)
    else (t, some bootTRAINING)))

/-- B6's trims of lane `n` (R57, R343, R375): the factory copy, and in use the factory trims with the lane's corrections added, or
after a wake from DEEP the retained trims; at level 1 the factory trims alone. -/
def Dev.bootTrims (d : Dev) (n lvl : Nat) (fac : List (Int × Int × Int)) (cal : Option (List (Int × Int × Int))) : Dev :=
  let at_ := fun (l : List (Int × Int × Int)) (k : Nat) => l.getD k (0, 0, 0)
  let d1 := d.each (List.range 96) (fun k e =>
    let f := at_ fac (96 * n + k)
    let c := if lvl = 0 then (cal.map (fun l => at_ l k)).getD (0, 0, 0) else (0, 0, 0)
    let e1 := ((e.sv .facOfs (sliceIx n k) (clampI (-128) 127 f.1)).sv .facGain (sliceIx n k) (clampI (-128) 127 f.2.1)).sv .facSkew
      (sliceIx n k) (clampI (-200) 200 f.2.2)
    e1.setTrims n k (f.1 + c.1) (f.2.1 + c.2.1) (f.2.2 + c.2.2))
  let d2 := if lvl = 0 ∧ d.get RIND_REC_CAUSE 0 = causeWAKE ∧ d.retHas n then d1.retTrims n else d1
  let d3 := (d2.set LL_ADC_CTRL_ACC_SHIFT n 4).set LL_ADC_CTRL_SKEW_SHIFT n 4
  if lvl = 0 then d3 else d3.sv .fgWant n 1

/-- BOOT_B6 (R57, R343, R353): `fac` the factory trims of the 768 slices, LL0's first; `cal` the corrections of each lane's
calibration record, none where its CRC fails. The records' layouts are not given. -/
def execBootB6 (fac : List (Int × Int × Int)) (cal : List (Option (List (Int × Int × Int)))) (s : State) : Res :=
  ok s (s.bootStep 6 (fun lvl t =>
    let (t1, _, bad1) := t.fetch (factoryAddr false) 0x1_0000
    let (t2, _, bad2) := if lvl = 0 then t1.fetch (pageAddr 0x200) 0x1_0000 else (t1, [], false)
    if bad1 || bad2 then (t2, some bootPOISON)
    else
      let d := t2.dev.each (List.range 8) (fun n e => e.bootTrims n lvl fac ((cal.getD n none)))
      ({ t2 with dev := if lvl = 0 then d else d.set BOOT_STATUS_FG_PENDING 0 1 }, none)))

/-- The ROM safe seed brings up management only: no port in either bunch (R343). -/
def State.safeSeed (s : State) : State :=
  let t := [0, 1].foldl (fun t b => t.quiesce b []) s
  let d := [0, 1].foldl (fun e b => (e.applyBunch b BunchDesc.none false 0).restartBunch b false) t.dev
  { t with dev := d.set BOOT_STATUS_SAFE_SEED 0 1 }

/-- B7 has ended: the retention image is of no more use (R375). -/
def State.bootSeedEnd (s : State) (lvl : Nat) (keep : Bool) : State :=
  let t := s.bootEnded 7 lvl keep
  ({ t with dev := t.dev.set RIND_PWR_RET_VALID 0 0 } : State).bootStart 8

/-- BOOT_B7 (R343, R356): the load that the step commanded has ended; a refused one leads to the other slot, then to the safe seed.
A state that accepts no seed takes the safe seed at level 0 and keeps no level. -/
def execBootB7 (s : State) : Res :=
  let lvl := (s.dev.v .bootLevel 0).toNat
  ok s (
    if !(s.dev.bootAt 7) then s
    else if s.dev.lc ≠ 2 then s.safeSeed.bootSeedEnd 0 false
    else if 2 ≤ lvl then s.safeSeed.bootSeedEnd 2 true
    else if s.dev.on SEED_STATUS_BUSY 0 then s
    else if s.dev.get SEED_STATUS_RESULT 0 = 1 then
      let slot := s.dev.bootSlot lvl
      ({ s with dev := (s.dev.set BOOT_STATUS_SEED_SLOT 0 slot).sv .jSeedLast 0 (slot : Nat) } : State).bootSeedEnd lvl true
    else
      let code := if s.dev.get SEED_STATUS_ERR 0 = 6 ∧ s.dev.flag .seedBad 0 then bootPOISON else bootREFUSED
      let t : State := { s with dev := s.dev.set BOOT_STATUS_RESULT 0 code }
      if lvl = 0 then t.bootSeed 1 else ({ t with dev := t.dev.sv .bootLevel 0 2 } : State).safeSeed.bootSeedEnd 2 true)

/-- BOOT_B8 (R341, R343). -/
def execBootB8 (s : State) : Res :=
  ok s (s.bootStep 8 (fun _ t => ({ t with dev := t.dev.sflag .pcieOn 0 (t.dev.get BOOT_STATUS_MODE 0 == 0) }, none)))

/-- B9 at level 1: the ports are left disabled and the device stands alone (R343). -/
def Dev.standAlone (d : Dev) : Dev :=
  (d.each [0, 1, 2] (fun p e => if e.on BRM_PCTRL_EN p then ((e.set BRM_PCTRL_EN p 0).brmTo p brmDISABLED).portUnlock p else e)).set
    BOOT_STATUS_STANDALONE 0 1

/-- BOOT_B9 (R341, R343, R332): the root begins enumeration; a member's upstream port is ACTIVE, or BRM_WAIT has passed. No code of
RESULT names that failure: a free value (assumption 33). -/
def execBootB9 (s : State) : Res :=
  ok s (s.bootStep 9 (fun lvl t =>
    let mode := t.dev.get BOOT_STATUS_MODE 0
    if lvl = 1 then ({ t with dev := t.dev.standAlone }, none)
    else if mode = 0 then ({ t with dev := t.dev.enumWrite }, none)
    else if mode = 3 ∨ t.dev.brmActive 0 then (t, none)
    else ({ t with dev := t.dev.drew }, some (t.dev.freeNat 8))))

/-- What B10 measures: the journal's F and LEVEL bytes and BOOT_STATUS (R361). -/
def Dev.closeBytes (d : Dev) : List Byte :=
  (List.range 12).flatMap (fun i => leBytes 1 (d.v .jFail i + 4 * d.v .jLevel i).toNat) ++ leBytes 4 (d.regWord .BOOT_STATUS 0)

/-- BOOT_B10 (R343, R361). -/
def execBootB10 (s : State) : Res :=
  ok s (s.bootStep 10 (fun _ t => ({ t with dev := (t.dev.mrMeasure 0 t.dev.closeBytes).set SEC_LC_BOOT_CLOSED 0 1 }, none)))

/-- BOOT_B11 (R342, R343): BOOT_VEC, the lock if asked for, the cores released at the entry point, DONE. -/
def execBootB11 (s : State) : Res :=
  ok s (
    if !(s.dev.bootAt 11) then s
    else
      let entry := sramBase + (s.dev.v .fwEntry 0).toNat
      let d := (s.dev.set BOOT_VEC_LO_ADDR 0 entry).set BOOT_VEC_HI_ADDR 0 0
      let d1 := if (s.dev.v .cfgFlags 0).toNat.testBit 2 then d.set TOP_LOCK_LOCK 0 1 else d
      let d2 := d1.each (List.range 4) (fun c e => (e.sv .coreHeld c 0).sv .corePc c (entry : Nat))
      let t := ({ s with dev := d2 } : State).bootEnded 11 0 false
      let d3 := (t.dev.set BOOT_STATUS_DONE 0 1).set BOOT_STATUS_STEP 0 12
      { t with dev := (d3.set RIND_REC_LAST_STEP 0 12).sv .bootNext 0 12 })

/-! ### Watchdog, RETRY, clears -/

/-- BOOT_WATCHDOG (R345): the step that runs is left started and not ended, and a WARM reset follows. `k`: see `State.stnAbandon`. -/
def execBootWatchdog (k : Fin 5) (s : State) : Res :=
  let d := s.dev
  ok s (
    if !((List.range 12).any (fun i => d.bootAt i)) then s
    else (if d.v .bootNext 0 = 0 then s.bootBegin (d.get BOOT_STATUS_MODE 0) else s).warm causeWATCHDOG k)

/-- BOOT_RETRY (R345): FAULT_N is released and a new attempt begins at B0, only while stopped. -/
def execBootRetry (s : State) : Res :=
  let d := s.dev
  okDev s (if d.on BOOT_STATUS_STOPPED 0 then ((d.set BOOT_STATUS_STOPPED 0 0).sv .faultN 0 0).sv .bootNext 0 0 else d)

/-- Writing 1s to BOOT_FAIL0 or BOOT_FAIL1 clears those bits of F and LEVEL, with a journaled write of the header (R344, R348). -/
def State.failClear (s : State) (second : Bool) (w : Nat) : State :=
  let steps := if second then [8, 9, 10, 11] else [0, 1, 2, 3, 4, 5, 6, 7]
  let d := s.dev.each steps (fun i e =>
    let bits := w / 2 ^ (4 * (i % 8)) % 16
    let f := (e.v .jFail i).toNat
    let l := (e.v .jLevel i).toNat
    (e.sv .jFail i (Nat.land f (3 - bits % 4) : Nat)).sv .jLevel i (Nat.land l (3 - bits / 4) : Nat))
  ({ s with dev := d } : State).headerJournaled

/-- BOOT_FAIL_CLEAR (R344): a write of BOOT_FAIL0, or with `second` of BOOT_FAIL1. -/
def execBootFailClear (second : Bool) (w : Word) (s : State) : Res := ok s (s.failClear second w.toNat)

end Sys2Proof.Machine
end

