-- ==== Sys2Proof/Machine/Power.lean ====
section
/-! DEFINITION. Power domains and power states: entry to SLEEP, DEEP and OFF, loss of VDD, wake (R369 to R381). -/

namespace Sys2Proof.Machine

/-! ### Domains that switch off -/

/-- The base address of a register's first instance. -/
def regBase (r : Reg) : Nat := ((layout.find? (fun x => x.reg == r)).map (·.base)).getD 0

/-- A register of the TIME, CAP, TRG, SB and SLOE common blocks (R369). -/
def regShared (k : Key) : Bool :=
  let b := regBase (regAt (k.1 / 32)) / 0x1_0000
  b == 4 || b == 5 || b == 6 || b == 15

/-- A hidden variable of those blocks. -/
def varShared (k : Key) : Bool :=
  match varAt k.1 with
  | .sbCoef | .sbCoefP | .sbShift | .sbK | .tDom | .tAct | .tSp | .tSpLeft | .tTau | .tHold | .tpoNext | .tpoEnd | .tpoOn | .tpoDone | .tLat
  | .busTime | .busTau | .busAge | .tSince | .busTimeOn | .busTimeUn | .slSf | .slBw | .slFc | .slSync | .slOfs | .slPairs | .slGasp | .slAck
  | .slTrig | .slFw | .slCur | .slOpen | .slNextSeq | .slTxBuf | .slRxBuf | .slMetric | .slHLen | .slHType | .slHSrc | .slHSeq
  | .slLastOn | .slLastSrc | .slLastSeq | .slLastType | .slFrozen | .slGain | .slReacq | .slAckLate | .slSym | .slPos | .capSt | .capEntry | .capTm | .capPos | .capBase | .capDrained
  | .capDrain | .capRegBase | .capRegSize | .capTail | .capIdx | .capDead | .trgCal | .trgCalDev => true
  | _ => false

/-- Bunch `b` is switched off and loses its state (R369). -/
def Dev.bunchOff (d : Dev) (b : Nat) : Dev :=
  let d1 := (d.dropLoop (hostsOfBunch b)).each (linesOfBunch b) (fun n e => e.lineEnds n)
  let prf := fun (k : Key) => match keyPlace k with | .prf per => k.2 / per == 4 + b | _ => false
  let d2 := d1.drop (fun k => regOfBunch b k || prf k) (varOfBunch b)
  let d3 := { d2 with
    cws := d2.cws.filter (fun c => c.lane / 4 != b), finals := d2.finals.filter (fun f => f.lane / 4 != b),
    eqPips := d2.eqPips.filter (fun p => p.lane / 4 != b), reloads := d2.reloads.filter (fun r => r.bunch != b) }
  d3.sv .offBunch b 1

/-- The clocking and shared datapath domain is switched off and loses its state, the capture store's contents with it; the time
domains are invalid and the pulse outputs disabled (R225, R241, R369). -/
def State.sharedOff (s : State) : State :=
  let d := s.dev.drop regShared varShared
  let e := { d with
    sb := [], sloeFw := [], sloeTx := [], sq := [], trg := [], events := [], capQ := [], capGaps := [], capRecs := [], trigbQ := [],
    busEvs := [] }
  { s with
    dev := (e.sv .offClk 0 1).drew,
    mem := s.mem.loseCap s.dev.fresh }

/-! ### Entry -/

/-- RIND_PWR.LAST_STATE: SLEEP. -/
def psSLEEP : Nat := 1
/-- DEEP. -/
def psDEEP : Nat := 2
/-- OFF by command. -/
def psOFF : Nat := 3
/-- OFF after a loss of VDD. -/
def psLOST : Nat := 4
/-- OFF after a wake failure. -/
def psFAIL : Nat := 5

/-- The conditions of R372; `quiet`: no Bramble port has carried a link-layer packet for PWR_SLEEP_T. -/
def Dev.sleepOk (d : Dev) (quiet : Bool) : Bool :=
  quiet && (List.range 8).all (fun n => !(d.on BN_LINK_CTRL_EN n) && !(d.on LL_ADC_STATUS_FG_BUSY n))
    && !(d.ownReqs.any (fun r => r.unit == 0)) && !(d.on PCI_STATUS_LINK_UP 0)
    && !d.capBusy && !(d.on MEM_FILL_STATUS_BUSY 0) && !(d.on SEED_STATUS_BUSY 0)
    && !(d.on SEC_STATUS_ATT_BUSY 0) && !(d.on SEC_STATUS_CMD_BUSY 0)

/-- An entry may begin: none runs, no wake runs, the device is in RUN, IDLE or SLEEP and under no thermal stop. -/
def Dev.entryFree (d : Dev) : Bool :=
  d.v .pwrTarget 0 == 0 && d.v .wakeStep 0 == 0 && decide (d.v .pwrState 0 ≤ 1) && decide (d.v .thmSt 0 ≤ 1)

/-- Entry begins (R373). -/
def Dev.entryStart (d : Dev) (target : Nat) : Dev :=
  ((d.set PWR_STATUS_ENTERING 0 1).sv .pwrTarget 0 (target : Nat)).sv .pwrFrom 0 (d.get PWR_STATUS_STATE 0 : Nat)

/-- A request for a state: accepted under the conditions of R372, dropped with GO_REJ otherwise (R370). From SLEEP the datapath is
off already. -/
def Dev.goRequest (d : Dev) (target : Nat) (en quiet : Bool) : Dev :=
  let d1 := d.put PWR_CTRL_SLEEP_EN 0 en
  let asleep := d1.v .pwrState 0 == 1
  if d1.entryFree && (if asleep then target != psSLEEP else d1.sleepOk quiet) then d1.entryStart target else d1.ev PWR_STATUS_GO_REJ 0

/-- PWR_GO_SLEEP (R370): a write of PWR_CTRL with GO = SLEEP; `en` its SLEEP_EN. -/
def execPwrGoSleep (en quiet : Bool) (s : State) : Res := okDev s (s.dev.goRequest psSLEEP en quiet)

/-- PWR_GO_DEEP (R370). -/
def execPwrGoDeep (en quiet : Bool) (s : State) : Res := okDev s (s.dev.goRequest psDEEP en quiet)

/-- PWR_GO_OFF (R370). -/
def execPwrGoOff (en quiet : Bool) (s : State) : Res := okDev s (s.dev.goRequest psOFF en quiet)

/-- SLEEP_AUTO_ENTRY (R370): the conditions have held for PWR_SLEEP_T. -/
def execSleepAutoEntry (s : State) : Res :=
  let d := s.dev
  okDev s (if d.on PWR_CTRL_SLEEP_EN 0 && d.entryFree && d.v .pwrState 0 == 0 && d.sleepOk true then d.entryStart psSLEEP else d)

/-- DEEP_TIMER (R370): the device has been in SLEEP for PWR_DEEP_T. -/
def execDeepTimer (s : State) : Res :=
  let d := s.dev
  okDev s (if d.v .pwrState 0 == 1 && d.entryFree && d.get PWR_DEEP_T_S 0 != 0 then d.entryStart psDEEP else d)

/-- IDLE_ENTRY (R371): every core has waited in WFI for PWR_IDLE_T. -/
def execIdleEntry (s : State) : Res :=
  let d := s.dev
  okDev s (
    if d.get PWR_STATUS_STATE 0 = 0 ∧ d.get PWR_IDLE_T_US 0 ≠ 0 ∧ (List.range 4).all (fun c => !(d.flag .coreHeld c)) then
      (d.each (List.range 4) (fun c e => e.sv .coreWfi c 1)).set PWR_STATUS_STATE 0 1
    else d)

/-- IDLE_EXIT (R371): core `c` leaves WFI. -/
def execIdleExit (c : Fin 4) (s : State) : Res :=
  let d := s.dev.sv .coreWfi c 0
  okDev s (if d.get PWR_STATUS_STATE 0 = 1 then d.set PWR_STATUS_STATE 0 0 else d)

/-- A Bramble port goes into beacon mode: one that was ACTIVE leaves ACTIVE (R373, R378). -/
def Dev.beaconMode (d : Dev) : Dev :=
  d.each [0, 1, 2] (fun p e => if e.on BRM_PCTRL_EN p then (e.brmTo p brmDETECT).portUnlock p else e)

/-- Steps 2 to 6 of R373: the retention image, idle transmitters, self-refresh, bunches and clocking off, wake oscillator. -/
def State.sleepSteps (s : State) : State :=
  let d := ((s.dev.retSave.bunchOff 0).bunchOff 1).sv .lpSelf 0 1
  let t := ({ s with dev := d } : State).sharedOff
  { t with dev := (t.dev.set PWR_STATUS_PLL_CLK 0 0).beaconMode }

/-- The entry ends in a state (R373). -/
def Dev.entryEnd (d : Dev) (st : Nat) : Dev :=
  (((d.set PWR_STATUS_ENTERING 0 0).sv .pwrTarget 0 0).sv .pwrState 0 (st : Nat)).set RIND_PWR_LAST_STATE 0 st

/-- DEEP or OFF: the init bitmap is cleared and management is switched off; OFF powers the retention SRAM down (R373). -/
def State.deepSteps (s : State) (st : Nat) : State :=
  let d := (s.dev.entryEnd st).sv .offMgmt 0 1
  { s with dev := if st = psDEEP then d else d.retClear, mem := { s.mem with marked := [] } }

/-- LOW_POWER_ENTRY_DONE (R373, R351): the Stone queue is empty and the last step of the entry is done. -/
def execLowPowerEntryDone (s : State) : Res :=
  let target := (s.dev.v .pwrTarget 0).toNat
  ok s (
    if target = 0 ∨ s.dev.stnCur.isSome ∨ !s.dev.stnQ.isEmpty then s
    else
      let t := if s.dev.v .pwrState 0 = 1 then s else s.sleepSteps
      if target = psSLEEP then { t with dev := ((t.dev.entryEnd psSLEEP).set PWR_STATUS_STATE 0 2).count PWR_CNT_SLEEPS 0 1 }
      else t.deepSteps target)

/-! ### Wake -/

/-- A bunch restarts after SLEEP: a BUNCH reset whose reload leaves its lanes disabled (R381). -/
def Dev.bunchWake (d : Dev) (b : Nat) : Dev := ((d.bunchReset b []).sv .offBunch b 0).sv .bnReload b 2

/-- An entry is aborted with `k` of its steps done: they are undone and the device returns to the state it came from; from step 5
of R373 on the bunches and the clocking domain have lost their state and restart (R374). -/
def State.entryAbort (s : State) (k : Nat) : State :=
  let from_ := (s.dev.v .pwrFrom 0).toNat
  let t := if from_ = 2 then s
    else if k < 5 then { s with dev := s.dev.retClear }
    else
      let u := ({ s with dev := (s.dev.retSave.bunchOff 0).bunchOff 1 } : State).sharedOff
      { u with dev := ((u.dev.sv .offClk 0 0).bunchWake 0).bunchWake 1 }
  let d := (((t.dev.set PWR_STATUS_ENTERING 0 0).sv .pwrTarget 0 0).set PWR_STATUS_STATE 0 from_).ev PWR_STATUS_ABORT_EV 0
  { t with dev := d.count PWR_CNT_ABORTS 0 1 }

/-- Wake step `w` starts, in its alternative form if WAKE_FAIL records a failure (R380). -/
def Dev.wakeStepStart (d : Dev) (w : Nat) : Dev :=
  ((d.sv .wakeStep 0 ((w + 1 : Nat) : Int)).sflag .wakeAlt 0 ((d.get RIND_REC_WAKE_FAIL 0).testBit w)).sv .wakeRetry 0 0

/-- A wake begins: FAULT_N is released, the source is recorded, and from SLEEP every enabled port sends a wake beacon (R377 to
R379). -/
def Dev.wakeStart (d : Dev) (src : Nat) : Dev :=
  let d1 := (((d.set RIND_PWR_LAST_SRC 0 src).set RIND_PWR_FAULT 0 0).sv .faultN 0 0).sv .wakeHeld 0 0
  if d1.v .pwrState 0 = 1 then
    let d2 := d1.set PWR_STATUS_WAKE_SRC 0 src
    (d2.each [0, 1, 2] (fun p e => if e.on BRM_PCTRL_EN p then e.emit (.beacon p true) else e)).wakeStepStart 3
  else d1.wakeStepStart 0

/-- A wake source (R374, R377): it aborts an entry, wakes the device, or waits for VDD. `k`: see `State.entryAbort`. -/
def State.wakeSource (s : State) (src k : Nat) : State :=
  let d := s.dev
  let st := d.v .pwrState 0
  if d.v .pwrTarget 0 ≠ 0 then s.entryAbort k
  else if d.v .wakeStep 0 ≠ 0 then s
  else if st = 1 then { s with dev := d.wakeStart src }
  else if (st = 2 ∨ st = 3 ∨ st = 5) ∧ (src = 1 ∨ src = 2) then
    { s with dev := if d.on RIND_PWR_VDD_GOOD 0 then d.wakeStart src else d.sv .wakeHeld 0 (src : Nat) }
  else s

/-- WAKE_PIN (R377): WAKE has been high for 10 µs. -/
def execWakePin (k : Fin 8) (s : State) : Res := ok s (if s.dev.on RIND_WAKE_WAKE_EN 0 then s.wakeSource 1 k else s)

/-- RIND_WAKE_TIMER (R377). -/
def execRindWakeTimer (k : Fin 8) (s : State) : Res := ok s (if s.dev.get RIND_WAKE_WAKE_T 0 ≠ 0 then s.wakeSource 2 k else s)

/-- BRAMBLE_WAKE_BEACON (R377, R378): a signal of more than 4 µs on an enabled port. -/
def execBrambleWakeBeacon (p : Fin 3) (k : Fin 8) (s : State) : Res := ok s (if s.dev.on BRM_PCTRL_EN p then s.wakeSource 3 k else s)

/-- PCIE_DETECT_WAKE (R377): the host's receiver detection, at the root. -/
def execPcieDetectWake (k : Fin 8) (s : State) : Res := ok s (if s.dev.on BRM_FCTRL_ROOT 0 then s.wakeSource 4 k else s)

/-- PWR_GO_WAKE (R377). -/
def execPwrGoWake (en : Bool) (k : Fin 8) (s : State) : Res :=
  ok s (({ s with dev := s.dev.put PWR_CTRL_SLEEP_EN 0 en } : State).wakeSource 5 k)

/-- SLEEP_BEACON_TIMER (R378): every 1 ms in SLEEP each enabled port sends a sleep beacon. -/
def execSleepBeaconTimer (s : State) : Res :=
  okDev s (if s.dev.v .pwrState 0 = 1 ∧ s.dev.v .wakeStep 0 = 0 then
      s.dev.each [0, 1, 2] (fun p e => if e.on BRM_PCTRL_EN p then e.emit (.beacon p false) else e)
    else s.dev)

/-- The wake from SLEEP ends (R381). -/
def Dev.wokeUp (d : Dev) : Dev :=
  let d1 := (((d.sv .offClk 0 0).sv .lpSelf 0 0).sv .pwrState 0 0).set PWR_STATUS_STATE 0 0
  ((d1.bunchWake 0).bunchWake 1).ev PWR_STATUS_WAKE_EV 0

/-- WAKE_STEP_READY (R379, R381): the step's unit is ready; after the last one management is released or the bunches restart. -/
def execWakeStepReady (s : State) : Res :=
  let w := s.dev.v .wakeStep 0
  ok s (
    if w = 0 then s
    else if w < 7 then { s with dev := s.dev.wakeStepStart w.toNat }
    else
      let d := s.dev.sv .wakeStep 0 0
      if d.v .pwrState 0 = 1 then { s with dev := d.wokeUp }
      else ({ s with dev := d } : State).deviceReset causeWAKE false)

/-- WAKE_STEP_TIMEOUT (R380): a failure of the normal form is recorded; the step is tried once more in its other form; if that
fails too, the device goes to OFF with FAULT_N low. -/
def execWakeStepTimeout (s : State) : Res :=
  let d := s.dev
  let w := d.v .wakeStep 0
  ok s (
    if w = 0 then s
    else
      let d1 := if d.flag .wakeAlt 0 then d else d.setBit RIND_REC_WAKE_FAIL 0 (w - 1).toNat true
      if d.flag .wakeRetry 0 then
        let e := ((((d1.sv .wakeStep 0 0).sv .pwrState 0 (psFAIL : Nat)).set RIND_PWR_LAST_STATE 0 psFAIL).set RIND_PWR_FAULT 0 1).sv .faultN 0 1
        { s with dev := (e.sv .offMgmt 0 1).retClear, mem := { s.mem with marked := [] } }
      else
        let d2 := (d1.sv .wakeRetry 0 1).sflag .wakeAlt 0 (!(d.flag .wakeAlt 0))
        { s with dev := if d.v .pwrState 0 = 1 then d2.ev PWR_STATUS_RETRY_EV 0 else d2.sv .retryPend 0 1 })

/-- PWR_GO_RUN_CLK (R381): the PLLs relock. -/
def execPwrGoRunClk (en : Bool) (s : State) : Res :=
  let d := s.dev.put PWR_CTRL_SLEEP_EN 0 en
  okDev s (if d.on PWR_STATUS_PLL_CLK 0 || d.v .pwrState 0 != 0 then d else d.sv .runClk 0 1)

/-- RUN_CLK_SWITCH_DONE (R381): mclk is the PLL clock. -/
def execRunClkSwitchDone (s : State) : Res :=
  okDev s (if s.dev.flag .runClk 0 then (s.dev.sv .runClk 0 0).set PWR_STATUS_PLL_CLK 0 1 else s.dev)

/-! ### VDD -/

/-- VDD_LOSS (R376, R348): outside DEEP and OFF the device goes to OFF_LOST. `k` and `mask`: see `State.stnPowerLoss`. -/
def execVddLoss (k : Fin 6) (mask : List Bool) (s : State) : Res :=
  ok s (
    if 2 ≤ s.dev.v .pwrState 0 then { s with dev := s.dev.set RIND_PWR_VDD_GOOD 0 0 }
    else
      let t := s.stnPowerLoss k mask
      let d := ((t.dev.set RIND_PWR_VDD_GOOD 0 0).sv .pwrTarget 0 0).sv .wakeStep 0 0
      { t with
        dev := (((d.sv .pwrState 0 (psLOST : Nat)).set RIND_PWR_LAST_STATE 0 psLOST).sv .offMgmt 0 1),
        mem := { t.mem with marked := [] } })

/-- VDD_RETURN (R376, R377): from OFF_LOST the device starts as at POR; a held wake starts. -/
def execVddReturn (s : State) : Res :=
  let d := s.dev.set RIND_PWR_VDD_GOOD 0 1
  ok s (
    if d.v .pwrState 0 = 4 then
      let t := ({ s with dev := d } : State).deviceReset causePOR false
      { t with dev := t.dev.sv .faultN 0 0 }
    else if d.v .wakeHeld 0 ≠ 0 then { s with dev := d.wakeStart (d.v .wakeHeld 0).toNat }
    else { s with dev := d })

end Sys2Proof.Machine
end

