-- ==== Sys2Proof/Machine/Thermal.lean ====
section
/-! DEFINITION. Temperature sensing and thermal protection (R384 to R395). Readings are in 0.125 °C; medians, which may be half a
code, are held doubled. -/

namespace Sys2Proof.Machine

/-! ### The sensors -/

/-- The neighbours of a sensor (R385). -/
def tsNeighbours (i : Nat) : List Nat :=
  match i with
  | 0 => [1, 2, 8]
  | 1 => [0, 2, 10]
  | 2 => [1, 3, 10]
  | 3 => [1, 2, 8]
  | 4 => [5, 6, 9]
  | 5 => [4, 6, 11]
  | 6 => [5, 7, 11]
  | 7 => [5, 6, 9]
  | 8 => [0, 3, 10]
  | 9 => [4, 7, 11]
  | 10 => [1, 2, 8]
  | _ => [5, 6, 9]

/-- Twice the median of up to three readings; two give their mean, none gives none (R386). -/
def median2 (l : List Int) : Option Int :=
  match l with
  | [] => none
  | [a] => some (2 * a)
  | [a, b] => some (a + b)
  | [a, b, c] => some (2 * max (min a b) (min (max a b) c))
  | _ => none

/-- What a sample finds of a sensor: its doubled neighbour median, and whether it fails the range, the stuck and the cross-check
test (R386). -/
structure TsTest where
  med   : Option Int
  range : Bool
  stuck : Bool
  cross : Bool

/-- DIFF in codes (THM_XCHK). -/
def Dev.thmDiff (d : Dev) : Int := 8 * (max 2 (d.get THM_XCHK_DIFF 0) : Nat)

/-- Steps 1 and 2 of R386 for sensor `i`; `d` is the state before the sample. -/
def Dev.tsTest (d : Dev) (r : List Int) (i : Nat) : TsTest :=
  let v := r.getD i 0
  let med := median2 (((tsNeighbours i).filter (fun j => !((d.get THM_EXCL_EXCL 0).testBit j))).map (fun j => r.getD j 0))
  { med := med, range := decide (v < -320 ∨ 1200 < v),
    stuck := d.flag .tsSeen 0 && d.v .tsCode i == v && decide (4096 ≤ d.v .tsSame i + 1),
    cross := match med with | none => false | some m => decide (2 * d.thmDiff < absI (2 * v - m)) }

/-- A sensor's counts after a sample (R386). -/
def Dev.tsCount (d : Dev) (r : List Int) (i : Nat) (t : TsTest) : Dev :=
  let v := r.getD i 0
  let same := d.flag .tsSeen 0 && d.v .tsCode i == v
  let d1 := (d.sv .tsSame i (if same then min 4096 (d.v .tsSame i + 1) else 0)).sv .tsCode i v
  let d2 := d1.sv .tsXf i (if t.cross then d.v .tsXf i + 1 else 0)
  (d2.sv .tsGood i (if t.range || t.stuck || t.cross then 0 else d.v .tsGood i + 1)).seti THM_TS_READING i v

/-- Step 3 of R386 for sensor `i`: exclusion and return to trust; CAUSE 1 cross-check, 2 range, 3 stuck. -/
def Dev.tsTrust (d : Dev) (i : Nat) (t : TsTest) : Dev :=
  if (d.get THM_EXCL_EXCL 0).testBit i then
    if 64 ≤ d.v .tsGood i then ((d.setBit THM_EXCL_EXCL 0 i false).set THM_TS_CAUSE i 0).setBit THM_EXCL_SUSPECT 0 i false
    else d.setBit THM_EXCL_SUSPECT 0 i false
  else if t.range || t.stuck || decide (3 ≤ d.v .tsXf i) then
    ((((d.setBit THM_EXCL_EXCL 0 i true).setBit THM_EXCL_SUSPECT 0 i false).set THM_TS_CAUSE i
      (if t.range then 2 else if t.stuck then 3 else 1)).ev THM_STATUS_EXCL_EV 0).sv .tsGood i 0
  else d.setBit THM_EXCL_SUSPECT 0 i t.cross

/-- Twice a sensor's contribution, none if it gives nothing (R387). -/
def Dev.tsGives (d : Dev) (r : List Int) (i : Nat) (t : TsTest) : Option Int :=
  if (d.get THM_EXCL_EXCL 0).testBit i || t.range then none
  else if t.cross then some (min (2 * r.getD i 0) (t.med.getD 0 + 2 * d.thmDiff))
  else some (2 * r.getD i 0)

/-- Put an integer in its place in a rising list. -/
def insertI (x : Int) : List Int → List Int
  | [] => [x]
  | y :: l => if x ≤ y then x :: y :: l else y :: insertI x l

/-- Twice the median of twelve readings: the mean of the middle two (R387). -/
def medianAll (r : List Int) : Int :=
  let l := r.foldl (fun a x => insertI x a) []
  l.getD 5 0 + l.getD 6 0

/-- Step 4 of R386: THM_MAX. How half a code is reported, and which of several sensors with the same contribution SRC names, is left
open: free values (assumption 35). -/
def Dev.thmReport (d : Dev) (r : List Int) (tests : List TsTest) : Dev :=
  let gives := (List.range 12).filterMap (fun i => (d.tsGives r i (tests.getD i ⟨none, false, false, false⟩)).map (fun v => (i, v)))
  let m := match gives with | [] => medianAll r | (_, v) :: l => l.foldl (fun a x => max a x.2) v
  let srcs := (gives.filter (fun x => x.2 == m)).map (·.1)
  let d1 := d.put THM_STATUS_NONE_TRUSTED 0 gives.isEmpty
  let half := decide (m % 2 ≠ 0)
  let d2 := d1.seti THM_MAX_TEMP 0 (m / 2 + if half then (d1.freeNat 2 : Nat) else 0)
  let d3 := if half then d2.drew else d2
  let d4 := d3.set THM_MAX_SRC 0 (match srcs with
    | [] => 15
    | [i] => i
    | l => l.getD (d3.freeNat l.length) 0)
  if 2 ≤ srcs.length then d4.drew else d4

/-! ### Thresholds (R389) -/

/-- The warning, throttle and shutdown thresholds as they act, in codes. -/
def Dev.thmTh (d : Dev) (i : Nat) : Int :=
  8 * ((if i = 0 then d.get THM_TH_WARN 0 else if i = 1 then d.get THM_TH_THROT 0 else clampN 110 125 (d.get THM_TH_SHUT 0) : Nat) : Int)

/-- HYST as it acts, in codes. -/
def Dev.thmHyst (d : Dev) : Int := 8 * (max 1 (d.get THM_TH_HYST 0) : Nat)

/-- The reported maximum in codes. -/
def Dev.thmMax (d : Dev) : Int := d.geti THM_MAX_TEMP 0

/-- The hard-stop threshold in codes (R393). -/
def Dev.thmHard (d : Dev) : Int := min (d.thmTh 2 + 8 * (max 1 (d.get THM_XCHK_HARD_OFS 0) : Nat)) 1040

/-- THERM_N is driven low (R389, R395). -/
def Dev.thermN (d : Dev) : Bool :=
  decide (2 ≤ d.v .thmSt 0) || d.flag .thmLvl (if d.on THM_CTRL_THERM_SEL 0 then 1 else 0) || (d.v .pwrState 0 == 1 && d.flag .thmLvl 2)

/-- Level `i` is entered or left (R389). -/
def Dev.thmLevel (d : Dev) (i : Nat) : Dev :=
  if d.thmTh i ≤ d.thmMax then
    if d.flag .thmLvl i then d
    else
      let e := d.sv .thmLvl i 1
      if i = 0 then e.ev THM_STATUS_WARN_EV 0
      else if i = 1 then (e.ev THM_STATUS_THROT_EV 0).count THM_CNT_THROTTLES 0 1 else e
  else if d.thmMax < d.thmTh i - d.thmHyst then d.sv .thmLvl i 0
  else d

/-! ### Profiles (R390) -/

/-- Sensors excluded. -/
def Dev.thmExcluded (d : Dev) : Nat := ((List.range 12).filter (fun i => (d.get THM_EXCL_EXCL 0).testBit i)).length

/-- The profile never falls below this (R390). -/
def Dev.thmFloor (d : Dev) : Nat := max (d.get THM_CTRL_PROF_MIN 0) (if 3 < d.thmExcluded then 1 else 0)

/-- The active profile goes to `p`; each lane applies it at its next pip boundary (R33, R80, R130, R390). -/
def Dev.thmProfile (d : Dev) (p : Nat) : Dev :=
  if d.get SEED_PROF_ACTIVE 0 = p then d.set THM_STATUS_PROFILE 0 p
  else
    let d1 := ((d.set SEED_PROF_ACTIVE 0 p).set THM_STATUS_PROFILE 0 p).ev THM_STATUS_THROT_EV 0
    d1.each ((List.range 8).filter (fun n => (d.mode n).isSome && !(d.flag .offBunch (n / 4)))) (fun n e =>
      (e.sv .eqProf n 1).sv .mpNext n ((e.profMaxp n (e.get DEC_CTRL_MAXPASS n) + 1 : Nat) : Int))

/-! ### The stop (R391 to R393) -/

/-- The orderly stop begins (R391): Stone queue, captures, host transmitters, seed load, gasp or squelch. `k`: see
`State.stnAbandon`. -/
def State.thmBegin (s : State) (k : Nat) : State :=
  let d := (((s.dev.ev THM_STATUS_STOP_EV 0).set THM_STATUS_STOPPING 0 1).count THM_CNT_STOPS 0 1).set THM_STATUS_HARD 0 0
  let t := (({ s with dev := d.sv .thmSt 0 2 } : State).stnAbandon k).capAbort 6 5
  let d1 := (t.dev.each (List.range 16) (fun m e => e.hlRefresh m)).seedAbandon
  let d2 := if d1.on SLOE_GASP_EN_THERM 0 then (d1.gaspAll 1).each [0, 1] (fun b e => e.sv .thermMute b 1)
    else d1.each [0, 1] (fun b e => e.sv .thermSq b 1)
  { t with dev := d2.each (List.range 8) (fun n e => e.txRefresh n) }

/-- The stop completes and the device holds in thermal shutdown (R392): squelch, self-refresh, bunches, converters and clocking off,
cores held, mclk on the wake oscillator. -/
def State.thmComplete (s : State) : State :=
  let d := ((s.dev.bunchOff 0).bunchOff 1).sv .lpSelf 0 1
  let t := ({ s with dev := d } : State).sharedOff
  let d1 := (t.dev.each (List.range 4) (fun c e => e.sv .coreHeld c 1)).set PWR_STATUS_PLL_CLK 0 0
  { t with dev := (((d1.set THM_STATUS_STOPPING 0 0).sv .thmSt 0 3).sv .thmCool 0 0).set THM_STATUS_LEVEL 0 3 }

/-- What the stop waits for is done: the gasp sent on every lane, no drain, no load (R392). -/
def Dev.thmIdle (d : Dev) : Bool :=
  (List.range 8).all (fun n => !(d.slSends n) || (d.v .slGasp n == 0 && d.v .slCur n != 1)) && d.get CAP_STATUS_STATE 0 != capDRAINING
    && !(d.on SEED_STATUS_BUSY 0)

/-- THM_STOP_COMPLETE (R392): the gasp, the drain and any load have ended, or STOP_T has passed (`late`). -/
def execThmStopComplete (late : Bool) (s : State) : Res :=
  ok s (if s.dev.v .thmSt 0 = 2 ∧ (late || s.dev.thmIdle) then s.thmComplete else s)

/-! ### A sample -/

/-- THM_STATUS.LEVEL (R389, R392). -/
def Dev.thmShow (d : Dev) : Dev :=
  d.set THM_STATUS_LEVEL 0
    (if d.v .thmSt 0 = 3 ∨ d.v .thmSt 0 = 4 ∨ d.flag .thmLvl 2 then 3 else if d.flag .thmLvl 1 then 2 else if d.flag .thmLvl 0 then 1 else 0)

/-- The next interval (R388); the thresholds rise in order. -/
def Dev.thmFast (d : Dev) : Dev :=
  let m := d.thmMax
  d.put THM_STATUS_FAST 0 (match (List.range 3).filter (fun i => decide (m < d.thmTh i)) with
    | [] => true
    | i :: _ => decide (d.thmTh i - m ≤ 40) || decide (d.thmTh 2 ≤ m))

/-- The bunches and the clocking domain while the device waits, too hot for B0 (R394). -/
def Dev.thmWait (d : Dev) (on : Bool) : Dev :=
  let d1 := ((d.sflag .offBunch 0 on).sflag .offBunch 1 on).sflag .offClk 0 on
  (d1.sflag .coreHeld 0 on).sv .thmSt 0 (if on then 4 else 1)

/-- What the thresholds decide after the levels: in SLEEP only STOP_EV (R395); before B0 the wait for a cool sample (R394); at work
the stop, at once if hard (R391, R393); in thermal shutdown the restart (R394). -/
def State.thmDecide (s : State) (k : Nat) : State :=
  let d := s.dev
  let m := d.thmMax
  let hot := decide (d.thmTh 2 ≤ m)
  let st := d.v .thmSt 0
  if d.v .pwrState 0 = 1 then { s with dev := d.evIf hot THM_STATUS_STOP_EV 0 }
  else if st = 0 ∨ st = 4 then
    if m < d.thmTh 2 - d.thmHyst then { s with dev := if st = 4 then d.thmWait false else d.sv .thmSt 0 1 }
    else
      let e := if hot then d.ev THM_STATUS_STOP_EV 0 else d
      { s with dev := e.thmWait true }
  else if st = 1 ∨ st = 2 then
    let t := if st = 1 ∧ hot then s.thmBegin k else s
    if t.dev.v .thmSt 0 = 2 ∧ t.dev.thmHard ≤ m then ({ t with dev := t.dev.set THM_STATUS_HARD 0 1 } : State).thmComplete else t
  else
    let n := if m < d.thmTh 0 - d.thmHyst ∧ d.on THM_CTRL_AUTO_RESTART 0 then d.v .thmCool 0 + 1 else 0
    let t : State := { s with dev := d.sv .thmCool 0 n }
    if 64 ≤ n then t.warm causeTHERMAL k else t

/-- Steps 1 to 6 of R386. -/
def State.thmSample (s : State) (r : List Int) (k : Nat) : State :=
  let tests := (List.range 12).map (fun i => s.dev.tsTest r i)
  let at_ := fun (i : Nat) => tests.getD i ⟨none, false, false, false⟩
  let d1 := (s.dev.each (List.range 12) (fun i e => e.tsCount r i (at_ i))).sv .tsSeen 0 1
  let d2 := (d1.each (List.range 12) (fun i e => e.tsTrust i (at_ i))).thmReport r tests
  let was := d2.flag .thmLvl 1
  let d3 := d2.each [0, 1, 2] (fun i e => e.thmLevel i)
  let p := d3.get SEED_PROF_ACTIVE 0
  let d4 := d3.thmProfile (max (if d3.flag .thmLvl 1 && !was then max p 1 else p) d3.thmFloor)
  let t := ({ s with dev := d4.thmFast } : State).thmDecide k
  { t with dev := t.dev.thmShow }

/-- THM_SAMPLE (R386): `r` are the twelve readings, TS0 first; no sensor samples in DEEP and OFF (R395). -/
def execThmSample (r : List Int) (k : Fin 5) (s : State) : Res := ok s (if s.dev.flag .offMgmt 0 then s else s.thmSample r k)

/-- THM_PROFILE_STEP (R390): at a sample STEP_T after the last change the profile rises by one while the throttle level holds, or
falls by one while THM_MAX stays below the throttle threshold less HYST. -/
def execThmProfileStep (s : State) : Res :=
  let d := s.dev
  let p := d.get SEED_PROF_ACTIVE 0
  okDev s (
    if d.flag .thmLvl 1 then d.thmProfile (max (min 3 (p + 1)) d.thmFloor)
    else if d.thmMax < d.thmTh 1 - d.thmHyst then d.thmProfile (max (p - 1) d.thmFloor)
    else d)

/-- THM_TH_WRITE (R389): SHUT only while it is not locked; a write that would leave the thresholds out of order is dropped. -/
def Dev.thmThWrite (d : Dev) (w : Nat) : Dev :=
  let d1 := (d.set THM_TH_WARN 0 w).set THM_TH_THROT 0 (w / 2 ^ 8)
  let d2 := (if d.rwlLocked THM_TH_SHUT then d1 else d1.set THM_TH_SHUT 0 (w / 2 ^ 16)).set THM_TH_HYST 0 (w / 2 ^ 24)
  if d2.thmTh 1 ≤ d2.thmTh 0 ∨ d2.thmTh 2 ≤ d2.thmTh 1 then d.ev THM_STATUS_TH_REJ 0 else d2

/-- THM_TH_WRITE (R389). -/
def execThmThWrite (w : Word) (s : State) : Res := okDev s (s.dev.thmThWrite w.toNat)

end Sys2Proof.Machine
end

