-- ==== Sys2Proof/Machine/Access.lean ====
section
/-! DEFINITION. Register accesses (R6 to R9, R286 to R296): where a register lies, what a read returns and clears, and what a
write of each register does. -/

namespace Sys2Proof.Machine

/-! ### Parts of a command -/

/-- A part of a command has its effect and ends as a command does: monitors count, interrupts go out. -/
def State.commit (s t : State) : State := { t with dev := settle s.dev t.dev }

/-- A part of a command that touches the registers and hidden state alone. -/
def State.put (s : State) (d : Dev) : State := s.commit { s with dev := d }

/-- The state a meaning leaves. -/
def after (r : Res) (s : State) : State :=
  match r with
  | .next t => t
  | _ => s

/-- Do a meaning when a condition holds. -/
def State.go (s : State) (c : Bool) (f : State → Res) : State := if c then after (f s) s else s

/-! ### Where a register lies -/

/-- The instances a list of dimensions numbers. -/
def dimCount (ds : List (Nat × Nat)) : Nat := ds.foldl (fun a d => a * d.1) 1

/-- The instance at an offset from the first one, if one lies there. -/
def dimIx : List (Nat × Nat) → Nat → Option Nat
  | [], o => if o = 0 then some 0 else none
  | (c, st) :: ds, o =>
    if o / st < c then (dimIx ds (o % st)).map (fun j => o / st * dimCount ds + j) else none

/-- The register at a local address, and its instance (R5, R289). -/
def regFind (a : Nat) : Option (Reg × Nat) :=
  layout.findSome? (fun r => if r.base ≤ a then (dimIx r.dims (a - r.base)).map (fun i => (r.reg, r.inst + i)) else none)

/-- Line lane `n` modulo 8. -/
def line (n : Nat) : Fin 8 := Fin.ofNat 8 n

/-- Host lane `m` modulo 16. -/
def host (m : Nat) : Fin 16 := Fin.ofNat 16 m

/-! ### Reads -/

/-- The value of a coefficient that LL_EQ_COEF shows: the one in force since the last pip boundary, rounded to its format (R85, R88). -/
def Dev.eqShown (d : Dev) (n k : Nat) : Nat :=
  if k < 112 then (if d.eqIndexOk n k then twos 16 (rd8 16 (d.v .eqLin (112 * n + k))) else 0)
  else if k < 144 then (if d.eqIndexOk n k then twos 16 (rd8 16 (d.v .eqQuad (32 * n + (k - 112)))) else 0)
  else if k < 176 then twos 5 (d.v .eqPairI (32 * n + (k - 144))) + 256 * twos 5 (d.v .eqPairJ (32 * n + (k - 144)))
  else if k < 179 then twos 10 (rd8 10 (d.v .eqFb (3 * n + (k - 176))))
  else if k = 179 then twos 12 (d.v .eqB (3 * n))
  else 0

/-- TIME_OFS01: domain 1 less domain 0 in 2^-16 ns, saturating in 64 bits (R227). -/
def Dev.ofs01 (d : Dev) : Nat := twos 64 (clampI (-(2 ^ 63)) (2 ^ 63 - 1) (d.time 1 - d.time 0))

/-- TIME_ACT_REM: target less active timescale in 2^-16 ns (R226). -/
def Dev.actLeft (d : Dev) : Nat := twos 64 (d.actRem / tUnit)

/-- A bank of eight words of key hashes (SEC_KHASH): zero for a slot that is not fused. -/
def Dev.keyHash (d : Dev) (i : Nat) : List Byte :=
  if i = 0 then d.fuse.vendor else ((if i = 1 then d.fuse.owner0 else d.fuse.owner1).getD [])

/-- Word `w` of a list of bytes. -/
def wordOf (b : List Byte) (w : Nat) : Nat := leNat ((b.drop (4 * w)).take 4)

/-- The fields of SEC_LC, from the fuses (R355, R368). -/
def Dev.lcWord (d : Dev) : Nat :=
  d.fuse.lc + 8 * b2n (d.fuse.lc != d.fuse.wiped) + 2 ^ 4 * b2n d.fuse.owner0.isSome + 2 ^ 5 * b2n d.fuse.rev0
    + 2 ^ 6 * b2n d.fuse.owner1.isSome + 2 ^ 7 * b2n d.fuse.rev1 + 2 ^ 8 * d.fuse.svn + 2 ^ 14 * d.get SEC_LC_BOOT_CLOSED 0

/-- The steps of BOOT_FAIL0 or BOOT_FAIL1: F and LEVEL of each (R344). -/
def Dev.failWord (d : Dev) (steps : List Nat) : Nat :=
  steps.foldl (fun a i => a + ((d.v .jFail i).toNat + 4 * (d.v .jLevel i).toNat) * 2 ^ (4 * (i % 8))) 0

/-- The selected entry of a table of spares as its register shows it: index and VALID. -/
def entryWord (v : Int) : Nat := if v = 0 then 0 else (v - 1).toNat + 2 ^ 31

/-- The selected remap entry (R275). -/
def Dev.remapSel (d : Dev) : Nat := 32 * d.get MEM_REMAP_SEL_CHANNEL 0 + d.get MEM_REMAP_SEL_ENTRY 0

/-- The selected spare of management SRAM (R274). -/
def Dev.mspareSel (d : Dev) : Nat := 8 * d.get ECC_MSPARE_SEL_BANK 0 + d.get ECC_MSPARE_SEL_ENTRY 0

/-- What a full read of a register returns; fields that live elsewhere in the device are shown from there. SKEW_HOLD reads 1 whenever the
skew loop does not step (R55), before READY and after reset too, where the register table gives 0; FROZEN reads 1 while a whole-lane
hold applies (R87), before READY too, where the table gives 0 (DEDUCED, both: assumption 77). -/
def State.regView (s : State) (r : Reg) (n : Nat) : Nat :=
  let d := s.dev
  match r with
  | .IRQ_PEND => (List.range 32).foldl (fun a k => a + b2n (d.srcPending (32 * n + k)) * 2 ^ k) 0
  | .IRQ_PIN => b2n d.irqPin
  | .IRQ_CLAIM => d.claimOf n
  | .LL_ADC_STATUS => d.regWord r n + 8 * b2n (!(d.skewRuns n))
  | .LL_EQ_STATUS => d.regWord r n + 8 * b2n (d.daOn n) + 16 * b2n (d.eqHeld n)
  | .SPI_OE_STATUS => d.regWord r n + 16 * b2n (d.flag .oeLow 0)
  | .SPI_OE_PINS => d.regWord r n + (List.range 4).foldl (fun a k => a + b2n (d.oeBall k) * 2 ^ (16 + k)) 0
  | .PCS_STATUS => d.regWord r n + b2n (d.term n)
  | .LL_ADC_SLICE_TRIM =>
    let k := d.get LL_ADC_SLICE_SEL_SLICE n
    if k < 96 then
      twos 8 (d.v .sliceOfs (sliceIx n k)) + 2 ^ 8 * twos 8 (d.v .sliceGain (sliceIx n k)) + 2 ^ 16 * twos 9 (d.v .sliceSkew (sliceIx n k))
    else 0
  | .LL_EQ_COEF => d.eqShown n (d.get LL_EQ_COEF_SEL_INDEX n)
  | .SLOE_TR_STATUS => d.regWord r n - (if d.trTracks n then 0 else 2 * d.get SLOE_TR_STATUS_TRACKING n)
  | .SB_FIR_COEF => twos 16 (d.v .sbCoefP (64 * n + d.get SB_FIR_SEL_INDEX n))
  | .HL_RX_TAP =>
    let i := d.get HL_RX_TAP_SEL_INDEX n
    if i < 16 then twos 12 (d.v .hlFfe (16 * n + i)) else if i = 16 then twos 10 (d.v .hlH1 n) else 0
  | .TIME_T => if n % 3 = 0 then timeBits (d.time (n / 3)) % 2 ^ 32 else (d.v .tLat (2 * (n / 3) + n % 3 - 1)).toNat
  | .TIME_OFS01_LO => d.ofs01 % 2 ^ 32
  | .TIME_OFS01_HI => (d.v .tLat 4).toNat
  | .TIME_ACT_REM_LO => d.actLeft % 2 ^ 32
  | .TIME_ACT_REM_HI => (d.v .tLat 5).toNat
  | .TIME_PPS_TS => if n = 0 then d.get TIME_PPS_TS_TIME 0 else (d.v .tLat (5 + n)).toNat
  | .TIME_SQ => (d.sq.headD []).getD n 0
  | .PRF_CNT => if n % 2 = 0 then d.get PRF_CNT_COUNT n else (d.v .prfLat (9 * (n / 16) + n % 16 / 2)).toNat
  | .PRF_CYC_HI => (d.v .prfLat (9 * n + 8)).toNat
  | .PRF_OVF_PC_HI => if n < 4 then (d.v .prfLat (54 + n)).toNat else 0
  | .MEM_BMAP =>
    (List.range 32).foldl (fun a k => a + b2n (s.mem.marked.contains (32 * d.get MEM_BMAP_SEL_WORD 0 + k)) * 2 ^ k) 0
  | .MEM_REMAP => entryWord (d.v .remap d.remapSel)
  | .ECC_MSPARE => entryWord (d.v .mspare d.mspareSel)
  | .STN_WEAR => (d.v .wear (d.get STN_WEAR_SEL_REGION 0)).toNat
  | .BOOT_FAIL0 => d.failWord [0, 1, 2, 3, 4, 5, 6, 7]
  | .BOOT_FAIL1 => d.failWord [8, 9, 10, 11]
  | .SEC_LC => d.lcWord
  | .SEC_SERIAL_LO => d.fuse.serial % 2 ^ 32
  | .SEC_SERIAL_HI => d.fuse.serial / 2 ^ 32 % 2 ^ 32
  | .SEC_KHASH => wordOf (d.keyHash (n / 8)) (n % 8)
  | .SEC_MR => wordOf (d.mrs.getD (d.get SEC_MR_SEL_MR 0) []) (d.get SEC_MR_SEL_WORD 0)
  | r => d.regWord r n

/-- A field that a read clears (R8). -/
def Dev.rcClear (d : Dev) (r : Reg) (n : Nat) : Dev :=
  d.each ((fieldsOf r).filter (fun f => f.acc == .rc)) (fun f e => e.set f n 0)

/-- Put the words a read of a low word latches. -/
def Dev.latch2 (d : Dev) (i v : Nat) : Dev := (d.sv .tLat i (v / 2 ^ 32 % 2 ^ 32 : Nat)).sv .tLat (i + 1) (v / 2 ^ 64 : Nat)

/-- What a read of a register does: RC fields clear (R8), high words are latched (R227, R302), indexes advance, queues move on,
IRQ_CLAIM claims (R301). -/
def Dev.readEffect (d : Dev) (r : Reg) (n : Nat) : Dev :=
  match r with
  | .IRQ_CLAIM => if d.claimOf n = 0x1FF then d else d.sv .irqClaimed (d.claimOf n) 1
  | .LL_ADC_SLICE_TRIM => d.sliceNext n
  | .LL_EQ_COEF => d.eqIndexNext n
  | .SB_FIR_COEF => d.sbCoefNext n
  | .TIME_T => if n % 3 = 0 then d.latch2 (2 * (n / 3)) (timeBits (d.time (n / 3))) else d
  | .TIME_OFS01_LO => d.sv .tLat 4 (d.ofs01 / 2 ^ 32 : Nat)
  | .TIME_ACT_REM_LO => d.sv .tLat 5 (d.actLeft / 2 ^ 32 : Nat)
  | .TIME_PPS_TS => if n = 0 then d.latch2 6 (d.wide TIME_PPS_TS_TIME 0) else d
  | .TIME_SQ => if n = 3 then ({ d with sq := d.sq.drop 1 } : Dev).set TIME_SQ_STAT_COUNT 0 (d.sq.length - 1) else d
  | .PRF_CNT => if n % 2 = 0 then d.sv .prfLat (9 * (n / 16) + n % 16 / 2) (d.get PRF_CNT_COUNT (n + 1) : Nat) else d
  | .PRF_CYC_LO => d.sv .prfLat (9 * n + 8) (d.get PRF_CYC_HI_COUNT n : Nat)
  | .PRF_OVF_PC_LO => if n < 4 then d.sv .prfLat (54 + n) (d.get PRF_OVF_PC_HI_PC n : Nat) else d
  | .DEC_CW_LO => ((d.set DEC_CW_HI_COUNT_HI n (d.v .cwHigh n).toNat).sv .cwHigh n 0).set DEC_CW_LO_COUNT_LO n 0
  | .ECC_UE_INFO => d.uePop
  | .SEC_MR => if d.on SEC_MR_SEL_AUTO_INC 0 then d.set SEC_MR_SEL_WORD 0 (d.get SEC_MR_SEL_WORD 0 + 1) else d
  | r => d.rcClear r n

/-! ### Places that are no registers -/

/-- The MSI-X table, its pending bits, and the Sloe buffers, which lie among the registers (R336, chapter 11). -/
inductive Window where
  | msixTab (w : Nat)
  | msixPba (w : Nat)
  | sloeTx (w : Nat)
  | sloeRx (w : Nat)
deriving DecidableEq, Repr

/-- The window at an aligned local address. -/
def windowAt (a : Nat) : Option Window :=
  if 0x8_4000 ≤ a ∧ a < 0x8_4400 then some (.msixTab ((a - 0x8_4000) / 4))
  else if 0x8_5000 ≤ a ∧ a < 0x8_5008 then some (.msixPba ((a - 0x8_5000) / 4))
  else if 0xF_2000 ≤ a ∧ a < 0xF_3000 then
    let w := (a - 0xF_2000) / 4
    if w % 128 < 64 then some (.sloeTx (64 * (w / 128) + w % 128)) else some (.sloeRx (64 * (w / 128) + (w % 128 - 64)))
  else none

/-- A word of a window. -/
def Dev.winView (d : Dev) : Window → Nat
  | .msixTab w => (d.v .msixTab w).toNat
  | .msixPba w => (List.range 32).foldl (fun a k => a + b2n (d.flag .msixPba (32 * w + k)) * 2 ^ k) 0
  | .sloeTx w => (d.v .slTxBuf w).toNat
  | .sloeRx w => (d.v .slRxBuf w).toNat

/-- A vector whose mask has cleared sends the message it holds pending (R337). -/
def Dev.msixUnmask (d : Dev) (v : Nat) : Dev :=
  if d.v .msixTab (4 * v + 3) % 2 = 0 ∧ d.flag .msixPba v then (d.sv .msixPba v 0).msixSend v else d

/-- A write of a window word; the pending bits and a receive buffer are read only, the reserved bits of the table read zero. -/
def Dev.winWrite (d : Dev) (x : Nat) : Window → Dev
  | .msixTab w =>
    let v := if w % 4 = 0 then x / 4 * 4 else if w % 4 = 3 then x % 2 else x
    (d.sv .msixTab w (v : Nat)).msixUnmask (w / 4)
  | .sloeTx w => d.sv .slTxBuf w (x : Nat)
  | _ => d

/-! ### Writes -/

/-- Fields a write does not set as R8 says: what a write of them does stands in `State.regAct`. -/
def ownWrite (f : Fld) : Bool :=
  match f.reg with
  | .LL_CDR_PHASE | .LL_ADC_SLICE_TRIM | .LL_EQ_COEF | .HL_RX_CTLE | .HL_RX_TAP | .BN_PORT_CTRL | .TIME_CTRL
  | .TIME_MEAS_HI | .THM_TH | .BOOT_FAIL0 | .BOOT_FAIL1 | .PRF_SNAP_RP | .MEM_BMAP | .MEM_REMAP | .ECC_MSPARE | .SPI_OE_CTRL
  | .SPI_OE_TXBUF | .TRG_SEND | .SLOE_TX_CTRL | .STN_CMD | .SB_FIR_COEF | .PRF_CNT | .PRF_CYC_HI | .PRF_SNAP_BASE_LO
  | .PRF_SNAP_BASE_HI | .PRF_SNAP_SIZE => true
  | .DEC_CTRL => f == DEC_CTRL_DEADLINE || f == DEC_CTRL_MAXPASS
  | .HL_PAT => f == HL_PAT_GEN
  | .BN_LINK_CTRL => f == BN_LINK_CTRL_EN
  | .LL_TX_SKEW => f == LL_TX_SKEW_FINE
  | .BRM_PCTRL => f == BRM_PCTRL_EN || f == BRM_PCTRL_LOOP
  | .SPI_OE_STATUS => f == SPI_OE_STATUS_ALARM_EV
  | .SLOE_RX_STATUS => f == SLOE_RX_STATUS_VALID
  | .PRF_SNAP_CTRL => f == PRF_SNAP_CTRL_EN
  | .HL_TX_COEF0 | .HL_TX_COEF1 => true
  | .HL_CTRL => f == HL_CTRL_TX_PRECODE || f == HL_CTRL_RX_PRECODE
  | .TIME_TPO_CTRL => f == TIME_TPO_CTRL_EN
  | _ => false

/-- Writing `x` to a field by its access type (R7, R8): W1C bits written 1 clear, RWL fields are dropped while locked, reserved
bits are not stored. -/
def Dev.fieldPut (d : Dev) (n x : Nat) (f : Fld) : Dev :=
  let v := x / 2 ^ f.lo % 2 ^ fldBits f n
  match f.acc with
  | .rw | .rws => d.set f n v
  | .rwl => if d.rwlLocked f then d else d.set f n v
  | .w1c => d.set f n (d.get f n - Nat.land (d.get f n) v)
  | _ => d

/-- A field of a read-only meaning inside a register is left alone; every other field of the word is written (R8). -/
def Dev.fieldsPut (d : Dev) (r : Reg) (n x : Nat) : Dev :=
  d.each ((fieldsOf r).filter (fun f => !(ownWrite f))) (fun f e => e.fieldPut n x f)

/-- All fields of a register by their access types. -/
def Dev.fieldsAll (d : Dev) (r : Reg) (n x : Nat) : Dev := d.each (fieldsOf r) (fun f e => e.fieldPut n x f)

/-- A write of HL_CTRL (R135, R143, R150): its precoding bits belong to training while it runs (R141); electrical idle and the
hold of training at OFF follow. -/
def Dev.hlCtrl (d : Dev) (m x : Nat) : Dev :=
  let d1 := if d.training m then d
    else (d.fieldPut m x HL_CTRL_TX_PRECODE).fieldPut m x HL_CTRL_RX_PRECODE
  let d2 := d1.hlRefresh m
  (if d2.trainHeld m then d2.trainOff m else d2).hostReact m

/-- A write of LL_ADC_CTRL: AFE_GAIN is the gain in force at once, whatever the state (R50); a loop whose enable is clear drops its
partial accumulations (R55). -/
def Dev.adcCtrl (d : Dev) (n : Nat) : Dev :=
  (d.set LL_ADC_STATUS_GAIN_NOW n (min 12 (d.get LL_ADC_CTRL_AFE_GAIN n))).calEnables n

/-- A write of TIME_TPO_CTRL: EN arms the output or stops it (R240, R241). -/
def Dev.tpoCtrl (d : Dev) (k x : Nat) : Dev :=
  let was := d.on TIME_TPO_CTRL_EN k
  if x % 2 = 1 then (if was then d else (d.set TIME_TPO_CTRL_EN k 1).tpoArm k)
  else if was then d.tpoStop k else d

/-- A write of a register of lane `n`'s comparator sets clears them (R242). -/
def Dev.trgWritten (d : Dev) (n : Nat) : Dev := d.trgClear (n / 4) (n % 4)

/-- A 48-bit or 64-bit counter's high word is written: a read shows it at once (assumption 36). -/
def Dev.prfHigh (d : Dev) (f : Fld) (n i x : Nat) : Dev := (d.set f n x).sv .prfLat i (x % 2 ^ 32 : Nat)

/-- Entries of the spare tables are written unless locked (R8, R274, R275). -/
def Dev.entryPut (d : Dev) (f : Fld) (v : Var) (i w x : Nat) : Dev :=
  if d.rwlLocked f then d else d.sv v i (if x / 2 ^ 31 % 2 = 1 then (x % 2 ^ w + 1 : Nat) else (0 : Nat))

/-- What a write of a register does beyond its plain fields, in the order of its bits: the commands that a write starts, fields
with rules of their own, and what follows in the same mclk. `old`: what stood before
the write; `up`: the write arrives over the upstream Bramble port. -/
def State.regAct (s : State) (old : Dev) (r : Reg) (n x : Nat) (up : Bool) (e : WrEnv) : State :=
  let on := fun (k : Nat) => x.testBit k
  let fld := fun (lo w : Nat) => x / 2 ^ lo % 2 ^ w
  let d := s.dev
  let w : Word := BitVec.ofNat 32 x
  match r with
  | .SEED_CTRL =>
    let src := BitVec.ofNat 2 (fld 4 2)
    match fld 0 4 with
    | 1 => s.go true (execSeedLoadFull src (on 6) (on 7))
    | 2 => s.go true (execSeedLoadBunch0 src (on 6) (on 7))
    | 3 => s.go true (execSeedLoadBunch1 src (on 6) (on 7))
    | 4 => s.go true (execSeedCheck src (on 6) (on 7))
    | 5 => s.go true execSeedAbort
    | _ => s
  | .LL_CDR_CTRL => s.put ((d.cdrMode n (old.get LL_CDR_CTRL_MODE n)).laneReact n)
  | .LL_CDR_PHASE => s.go true (execCdrPhaseWrite (line n) (Fin.ofNat 128 x))
  | .LL_ADC_CTRL => s.put ((d.adcCtrl n).laneReact n)
  | .BN_LINK_LOS => s.put (d.sv .losNew n 1)
  | .LL_ADC_CAL => (s.go (on 0) (execAdcFgStart (line n))).go (on 1) (execAdcFactory (line n))
  | .LL_ADC_SLICE_TRIM => s.go true (execSliceTrimWrite (line n) (sext 8 (fld 0 8)) (sext 8 (fld 8 8)) (sext 9 (fld 16 9)))
  | .SPI_OE_CTRL =>
    if on 31 then s.go true (execSpiOeStart w)
    else s.put (if d.on SPI_OE_STATUS_BUSY 0 then d.set SPI_OE_STATUS_ERR 0 1 else d.fieldsAll r n x)
  | .SPI_OE_TXBUF => s.put (if d.on SPI_OE_STATUS_BUSY 0 then d.set SPI_OE_STATUS_ERR 0 1 else d.fieldsAll r n x)
  | .SPI_OE_STATUS => s.go (on 5) execOeAlarmEvClear
  | .SPI_OE_PINS => s.put d.txRefreshAll
  | .LL_EQ_CTRL => ((s.go (on 16) (execEqSnapNow (line n))).go (on 17) (execEqRestore (line n))).go (on 18) (execEqReinit (line n))
  | .LL_EQ_QCTRL => s.go (on 16) (execEqHistStart (line n))
  | .LL_EQ_COEF => s.go true (execEqCoefWrite (line n) (BitVec.ofNat 16 x))
  | .LL_TX_CTRL =>
    let t := if d.on LL_TX_CTRL_EIDLE n then s.go true (execTxEidleSet (line n)) else s.put (d.txRefresh n)
    t.go (on 8) (execTxApply (line n))
  | .LL_TX_SKEW => s.go true (execTxFineWrite (line n) (Fin.ofNat 64 (fld LL_TX_SKEW_FINE.lo 6)))
  | .DEC_CTRL =>
    (s.go true (execDecDeadlineWrite (line n) (BitVec.ofNat 3 (fld DEC_CTRL_DEADLINE.lo 3)))).go true
      (execDecMaxpassWrite (line n) (BitVec.ofNat 3 (fld DEC_CTRL_MAXPASS.lo 3)))
  | .DEC_LOCK => s.go (on 28) (execDecRehunt (line n))
  | .HL_CTRL => s.put (d.hlCtrl n x)
  | .HL_RESET => s.go (on 0) (execLaneResetHl (host n) e.ab)
  | .HL_RX_CTLE => s.go true (execHlRxControlWrite (host n) false x)
  | .HL_RX_TAP => s.go true (execHlRxControlWrite (host n) true x)
  | .HL_TX_COEF0 | .HL_TX_COEF1 => s.put (if d.training n then d else d.fieldsAll r n x)
  | .HL_TX_CTRL =>
    (s.go (on 0 && !(on 1)) (execHlTxApply (host n))).go (on 1) (execHlPresetLoad (host n) (Fin.ofNat 8 (fld HL_TX_CTRL_PRESET.lo 3)))
  | .HL_TRAIN_CTRL => (s.go (on 0) (execHlTrainRestart (host n))).go (on 1) (execHlTrainAbort (host n))
  | .HL_PAT =>
    ((s.put (if old.get HL_PAT_CHK n = d.get HL_PAT_CHK n then d else d.chkReset n)).go true
      (execHlPatGenWrite (host n) (Fin.ofNat 8 (fld HL_PAT_GEN.lo HL_PAT_GEN.w)))).go (on 9) (execHlChkRestart (host n))
  | .GBX_LL => s.go (on 9) (execGbxRearm (line n))
  | .BN_LINK_CTRL =>
    let t := if on BN_LINK_CTRL_EN.lo then (if d.on BN_LINK_CTRL_EN n then s else s.go true (execLaneEnable (line n)))
      else if d.on BN_LINK_CTRL_EN n then s.go true (execLaneDisable (line n)) else s
    t.go (on 2) (execRetrainNow (line n))
  | .BN_PORT_CTRL =>
    s.go true (execPortLoopWrite (line n) (Fin.ofNat 4 (fld BN_PORT_CTRL_LOOP.lo 2)) (on BN_PORT_CTRL_HRETRAIN.lo)
      (BitVec.ofNat 8 (fld BN_PORT_CTRL_HHOLDOFF.lo 8)))
  | .SB_CTRL => s.go (on 0) execSbSyncWrite
  | .SB_FIR_CTRL => s.go (on 0) (execSbFirApply (line n))
  | .SB_FIR_COEF => s.put ((d.sv .sbCoefP (64 * n + d.get SB_FIR_SEL_INDEX n) (sext 16 (fld 0 16))).sbCoefNext n)
  | .SLOE_LCFG => s.put (d.sloeRefresh n)
  | .SLOE_GASP => s.go (on 1) execSloeGaspSend
  | .SLOE_TX_CTRL => if on 31 then s.go true (execSloeSend (line n) w) else s.put (d.slCtrl n x)
  | .SLOE_RX_STATUS => s.go (on 3) (execSloeRxValidClear (line n))
  | .SLOE_TR_CTRL => s.put (if old.get SLOE_TR_CTRL_LANE n = d.get SLOE_TR_CTRL_LANE n then d
      else (d.set SLOE_TR_STATUS_VALID n 0).set SLOE_TR_STATUS_TRACKING n 0)
  | .TIME_CTRL => s.go true (execTimeActiveWrite (Fin.ofNat 2 (fld TIME_CTRL_ACTIVE.lo 1)) (BitVec.ofNat 8 (fld TIME_CTRL_SLEW.lo 8)))
  | .TIME_CMD => (s.go (on 0) (execTimeSet (Fin.ofNat 2 n))).go (on 1) (execTimeStep (Fin.ofNat 2 n))
  | .TIME_MEAS_HI => s.go true (execTimeMeasSubmit (Fin.ofNat 2 n) w)
  | .TIME_TPO_CTRL => s.put (d.tpoCtrl n (fld TIME_TPO_CTRL_EN.lo 1))
  | .TIME_TPO_START => s.put (d.tpoRetime (n / 3))
  | .TIME_TPO_PERIOD => s.put (d.tpoRetime n)
  | .TIME_DCFG => s.put (if old.get TIME_DCFG_SRC n = d.get TIME_DCFG_SRC n then d else d.sv .tSince n 0)
  | .CAP_CTRL => (((s.go (on 0) execCapArm).go (on 2) execCapForce).go (on 3) execCapSwEv).go (on 1) execCapStop
  | .TRG_SEND => s.go true (execTrgSendWrite w)
  | .TRG_CAL => s.go (on 6) (execTrgCalStart (Fin.ofNat 64 (fld 0 6)))
  | .TRG_ALIGN => s.put d.dmaxWritten
  | .LL_TRG_CFG | .LL_TRG_TH | .LL_TRG_N | .LL_TRG_CNT => s.put (d.trgWritten n)
  | .MEM_FILL_CTRL => (s.go (on 0) (execMemFillStart (on MEM_FILL_CTRL_MODE.lo))).go (on 1) (execFillAbort e.lines)
  | .MEM_BMAP => s.go true (execBmapUnmark w)
  | .MEM_ACC_LOG_HI =>
    s.put (if on 31 then (((d.set MEM_ACC_LOG_LO_ADDR_LO 0 0).set MEM_ACC_LOG_HI_ADDR_HI 0 0).set MEM_ACC_LOG_HI_KIND 0 0).set
      MEM_ACC_LOG_HI_WRITE 0 0 else d)
  | .MEM_REMAP => s.put (d.entryPut MEM_REMAP_LINE .remap d.remapSel 29 x)
  | .ECC_MSPARE => s.put (d.entryPut ECC_MSPARE_WORD .mspare d.mspareSel 17 x)
  | .TOP_RESET => (s.go (fld 4 4 != 0) (execTopResetCore (BitVec.ofNat 4 (fld 4 4)) e.ab)).go (on 0) (execTopResetWarm e.k)
  | .TOP_LOCK => s.go (on 0) execTopLockSet
  | .BN_RESET => s.go (on 0) (execBunchReset (Fin.ofNat 2 n) e.ab)
  | .LL_RESET => s.go (on 0) (execLaneResetLl (line n) e.ab)
  | .IRQ_COMPLETE => s.go true (execIrqCompleteWrite (Fin.ofNat 256 x))
  | .IRQ_SW_SET => s.go true (execIrqSwSet (BitVec.ofNat 4 x))
  | .PRF_CTRL => s.go (on 2) execPrfClear
  | .PRF_SNAP_CTRL => if on 0 then s.go true execPrfSnapEnable else s.put (d.set PRF_SNAP_CTRL_EN 0 0)
  | .PRF_SNAP_BASE_LO | .PRF_SNAP_BASE_HI | .PRF_SNAP_SIZE => s.put (if d.on PRF_SNAP_CTRL_EN 0 then d else d.fieldsAll r n x)
  | .PRF_SNAP_RP => s.go true (execPrfSnapRpWrite w)
  | .PRF_CNT => s.put (if n % 2 = 0 then d.fieldsAll r n x else d.prfHigh PRF_CNT_COUNT n (9 * (n / 16) + n % 16 / 2) (x % 2 ^ 16))
  | .PRF_CYC_HI => s.put (d.prfHigh PRF_CYC_HI_COUNT n (9 * n + 8) x)
  | .BRM_PCTRL =>
    let p : Fin 3 := Fin.ofNat 3 n
    let t := if on BRM_PCTRL_EN.lo then (if d.on BRM_PCTRL_EN n then s else s.go true (execBrmPortEnable p))
      else if d.on BRM_PCTRL_EN n then s.go true (execBrmPortDisable p) else s
    let l := fld BRM_PCTRL_LOOP.lo BRM_PCTRL_LOOP.w
    (t.go (l != d.get BRM_PCTRL_LOOP n) (execBrmLoopWrite p (Fin.ofNat 4 l) up)).go (on 6) (execBrmRestart p)
  | .BRM_FCTRL => s.go (on 0) execEnumStart
  | .BOOT_CTRL => s.go (on BOOT_CTRL_RETRY.lo) execBootRetry
  | .BOOT_FAIL0 => s.go true (execBootFailClear false w)
  | .BOOT_FAIL1 => s.go true (execBootFailClear true w)
  | .STN_CMD => if on 31 then s.go true (execStnPush (Fin.ofNat 131072 (fld STN_CMD_PAGE.lo 17)) (on STN_CMD_JOURNAL.lo)) else s.put (d.fieldsAll r n x)
  | .SEC_CMD =>
    let mr := BitVec.ofNat 3 (fld 3 3)
    if !(on 31) then s else
    match fld 0 3 with
    | 1 => s.go true (execSecVerifyFw mr)
    | 2 => s.go true (execSecVerifyApp mr)
    | 3 => s.go true (execSecExtend mr)
    | 4 => s.go true (execSecChallenge mr)
    | 5 => s.go true (execSecLcGo mr e.k)
    | 6 => s.go true (execSecSvnBump mr)
    | _ => s
  | .SEC_ATT_CTRL => s.go (on 0) execAttStart
  | .PWR_CTRL =>
    let en := d.on PWR_CTRL_SLEEP_EN 0
    match fld PWR_CTRL_GO.lo 3 with
    | 1 => s.go true (execPwrGoSleep en e.quiet)
    | 2 => s.go true (execPwrGoDeep en e.quiet)
    | 3 => s.go true (execPwrGoOff en e.quiet)
    | 4 => s.go true (execPwrGoWake en e.wake)
    | 5 => s.go true (execPwrGoRunClk en)
    | _ => s
  | .THM_TH => s.go true (execThmThWrite w)
  | _ => s

/-- A full write of the word at an aligned address of a block that is on; undefined offsets drop it (R8, R289). -/
def State.word32 (s : State) (a x : Nat) (up : Bool) (e : WrEnv) : State :=
  match regFind a with
  | some (r, n) => (s.put (s.dev.fieldsPut r n x)).regAct s.dev r n x up e
  | none =>
    match windowAt a with
    | some w => s.put (s.dev.winWrite x w)
    | none => s

/-! ### Initiators' accesses -/

/-- A core's user-mode access below 0x00_1000_0000 faults, but for a read of the counters while UEN = 1 (R287). -/
def Dev.userFault (d : Dev) (init a : Nat) (write : Bool) (e : WrEnv) : Bool :=
  decide (init < 4) && e.user && decide (a < sramBase)
    && !(!write && d.on PRF_CTRL_UEN 0
      && (match regFind (a / 4 * 4) with
        | some (.PRF_CYC_LO, _) | some (.PRF_CYC_HI, _) | some (.PRF_CNT, _) => true
        | _ => false))

/-- The bunch whose registers lie at an address, when it is held in reset (R296). -/
def Dev.heldAt (d : Dev) (a : Nat) : Option Nat :=
  if 0x100_0000 ≤ a ∧ a < 0x300_0000 ∧ d.flag .bnReload (a / 0x100_0000 - 1) = true then some (a / 0x100_0000 - 1) else none

/-- A 32-bit or narrower register access (R6): `len` bytes at `a`. Narrow or misaligned writes are dropped and have no effect; any
write to a block that is off (R293) or an unmapped range (R290) is dropped and recorded. -/
def State.regWrite (s : State) (init a len x : Nat) (up : Bool) (e : WrEnv) : State :=
  if len = 4 ∧ a % 4 = 0 then
    match region a with
    | .unmapped => s.put (s.dev.refused init a true true)
    | _ => if s.dev.isOff a then s.put (s.dev.refused init a true false) else s.word32 a (x % 2 ^ 32) up e
  else s

/-- A register read of `len` bytes at `a`, up to four (R6, R8, R290, R293): the state after it, the status, the data. A misaligned
read returns zero and reads nothing. -/
def State.regRead (s : State) (init a len : Nat) : State × RdStatus × Nat :=
  let cut := fun (v : Nat) => v / 2 ^ (8 * (a % 4)) % 2 ^ (8 * len)
  if 4 < a % 4 + len then (s, .ok, 0)
  else match region a with
  | .unmapped => (s.put (s.dev.refused init a false true), .unmapped, 0)
  | _ =>
    if s.dev.isOff a then (s.put (s.dev.refused init a false false), .offline, cut 0xDEAD_0FF0)
    else
      match regFind (a / 4 * 4) with
      | some (r, n) => (s.put (s.dev.readEffect r n), .ok, cut (s.regView r n))
      | none =>
        match windowAt (a / 4 * 4) with
        | some w => (s, .ok, cut (s.dev.winView w))
        | none => (s, .ok, 0)

/-! ### Reads of memory -/

/-- The order of R327 in which a status of several accesses stands for all. -/
def statusRank : RdStatus → Nat
  | .aborted => 0
  | .offline => 1
  | .poison => 2
  | .notInit => 3
  | .rsvd => 4
  | .unmapped => 5
  | .ok => 6

/-- The status that stands for two (R327). -/
def worse (a b : RdStatus) : RdStatus := if statusRank b < statusRank a then b else a

/-- Stone pages whose bytes the spec does not give: the journal's header copies and descriptors, and undo slots that hold a copy of
one of them (R349). -/
def Dev.stoneFree (d : Dev) (page : Nat) : Bool :=
  decide (page < 10) || (d.undo.any (fun u => decide (undoPage u.slot = page ∧ u.page < 10)))

/-- A read of the Stone window (R347): a correctable error is corrected and not written back; POISON sets UE_EV. -/
def State.stoneRead (s : State) (a n : Nat) (f : EccFind) : State × RdStatus × Nat :=
  let page := (a - stoneBase) / 256
  let v := leNat (s.mem.readBytes a n)
  if s.dev.stoneFree page then
    (s.put s.dev.drew, .ok, s.dev.freeNat (2 ^ (8 * n)))
  else if s.mem.poison.contains (a / 8 * 8) then (s.put (s.dev.ev STN_STATUS_UE_EV 0), .poison, v)
  else match f with
    | .ue x => (s.put (s.dev.ev STN_STATUS_UE_EV 0), .poison, decodedPart a n x)
    | .aliased x => (s.put (s.dev.ev STN_STATUS_UE_EV 0), .poison, decodedPart a n x)
    | .clean => (s, .ok, v)
    | .ce => (s, .ok, v)

/-- A read of the boot ROM: its words are protected as the others are (R261, R268, R269). -/
def State.romRead (s : State) (a n : Nat) (f : EccFind) : State × RdStatus × Nat :=
  let v := leNat ((List.range n).map (fun i => Config.romByte (a + i - 0x6000_0000)))
  match f with
  | .clean => (s, .ok, v)
  | .ce => (s.put (s.dev.ceSeen 8 (unitOf a % 2 ^ 32) 0), .ok, v)
  | .ue x => (s.put (s.dev.ueDemand a 0), .poison, decodedPart a n x)
  | .aliased x => (s, .poison, decodedPart a n x)

/-- A read that stays within one protected unit (R264 to R269, R290, R293). -/
def State.unitRead (s : State) (init a n : Nat) (f : EccFind) : State × RdStatus × Nat :=
  match region a with
  | .unmapped => (s.put (s.dev.refused init a false true), .unmapped, 0)
  | r =>
    if s.dev.isOff a then (s.put (s.dev.refused init a false false), .offline, 0xDEAD_0FF0 % 2 ^ (8 * n))
    else match r with
      | .stone => s.stoneRead a n f
      | .rom => s.romRead a n f
      | _ => let t := s.load a n f; (s.commit t.1, t.2)

/-- A read of memory, unit by unit; `f` is what the first unit's code shows. -/
def State.memRead (s : State) (init a n : Nat) (f : EccFind) : State × RdStatus × Nat :=
  let parts := (unitsOf a n).map (fun u => (max a u, min (a + n) (u + unitSize a) - max a u))
  let r := parts.foldl (fun (acc : State × RdStatus × Nat × EccFind) p =>
    let t := acc.1.unitRead init p.1 p.2 acc.2.2.2
    (t.1, worse acc.2.1 t.2.1, acc.2.2.1 + t.2.2 * 2 ^ (8 * (p.1 - a)), EccFind.clean)) (s, RdStatus.ok, 0, f)
  (r.1, r.2.1, r.2.2.1)

/-- A local read of up to four bytes, register or memory (R288). -/
def State.localRead (s : State) (init a n : Nat) (f : EccFind) : State × RdStatus × Nat :=
  if a < sramBase then s.regRead init a n else s.memRead init a n f

/-- A core takes a load access fault on these statuses (R267, R290, R293, R295); the refusals of R290 and R293 have already faulted. -/
def Dev.loadFault (d : Dev) (init a : Nat) (st : RdStatus) : Dev :=
  if init < 4 && (st == .poison || st == .aborted) then d.emit (.coreFault init a false) else d

/-- An initiator's read of one access, with the data it gets; a read of a bunch held in reset waits (R296). -/
def State.readOne (s : State) (init a n : Nat) (f : EccFind) (e : WrEnv) : State :=
  if s.dev.userFault init a false e then s.put (s.dev.emit (.coreFault init a false))
  else
    match (if s.dev.isOff a then none else s.dev.heldAt a) with
    | some b => s.put { s.dev with portWait := s.dev.portWait ++ [.access b init a n 0 false e] }
    | none =>
      let r := s.localRead init a n f
      r.1.put ((r.1.dev.emit (.readData init a r.2.1 r.2.2)).loadFault init a r.2.1)

/-- A write to a register by an initiator; a write to a bunch held in reset waits (R296). -/
def State.writeOne (s : State) (init a n x : Nat) (e : WrEnv) : State :=
  if s.dev.userFault init a true e then s.put (s.dev.emit (.coreFault init a true))
  else
    match (if s.dev.isOff a then none else s.dev.heldAt a) with
    | some b => s.put { s.dev with portWait := s.dev.portWait ++ [.access b init a n x true e] }
    | none => s.regWrite init a n x false e

/-- The monitor of a core counts its accesses to register space and the access faults they raise (R302). -/
def State.corePrf (s t : State) (init a n : Nat) (user : Bool) : State :=
  if 4 ≤ init then t else
  let faults := ((t.dev.out.drop s.dev.out.length).filter (fun o => match o with | .coreFault i _ _ => i == init | _ => false)).length
  t.put ((t.dev.coreEvent init 9 (if a < sramBase then (if n = 8 then 2 else 1) else 0) user).coreEvent init 10 faults user)

/-- An access to register space; one of 64 bits is two of 32, the lower address first (R6). -/
def State.halves (s : State) (a n : Nat) (f : State → Nat → Nat → Nat → State) : State :=
  if n = 8 ∧ a < sramBase then f (f s a 4 0) (a + 4) 4 32 else f s a n 0

/-- REGISTER_WRITE (R6, R8): initiator `init` writes `size` bytes at local address `addr`; `env` is what a write that resets
or moves the device takes with it. -/
def execRegisterWrite (addr size value init : Nat) (env : WrEnv) (s : State) : Res :=
  .next (if addr < sramBase then
    s.corePrf (s.halves addr size (fun t a n sh => t.writeOne init a n (value / 2 ^ sh) env)) init addr size env.user else s)

/-- READ_CLEAR (R8, R9): an initiator reads a register; fields that clear on a read do so. -/
def execReadClear (addr size init : Nat) (env : WrEnv) (s : State) : Res :=
  .next (if addr < sramBase then
    s.corePrf (s.halves addr size (fun t a n _ => t.readOne init a n .clean env)) init addr size env.user else s)

/-- FABRIC_READ (R267, R288 to R293): an initiator reads `size` bytes; `find` is what the code of the unit read shows. -/
def execFabricRead (init addr size : Nat) (find : EccFind) (env : WrEnv) (s : State) : Res :=
  .next (s.corePrf (s.halves addr size (fun t a n _ => t.readOne init a n find env)) init addr size env.user)

end Sys2Proof.Machine
end

