-- ==== Sys2Proof/Machine/FleetAccess.lean ====
section
/-! DEFINITION. Requests of other devices, of the host and of the bridge (R296, R326 to R333, R336 to R340, R407): their checks,
their routing, their local accesses and their completions. -/

namespace Sys2Proof.Machine

/-! ### Checks -/

/-- The lowest enabled byte of a dword. -/
def beLow (be : Nat) : Nat := if be.testBit 0 then 0 else if be.testBit 1 then 1 else if be.testBit 2 then 2 else 3

/-- One more than the highest enabled byte of a dword; 0 for none. -/
def beEnd (be : Nat) : Nat := if be.testBit 3 then 4 else if be.testBit 2 then 3 else if be.testBit 1 then 2 else if be.testBit 0 then 1 else 0

/-- LENGTH of a request in dwords: 0 means 1024 (R321). -/
def pktLen (k : Pkt) : Nat := if k.len = 0 then 1024 else k.len

/-- The byte enables of dword `i` of a request (R321). -/
def pktBe (k : Pkt) (i : Nat) : Nat := if i = 0 then k.be % 16 else if i + 1 = pktLen k then k.be / 16 % 16 else 15

/-- The request is a broadcast write (R328). -/
def pktBroadcast (k : Pkt) : Bool := k.typ == 2 && k.addr / 2 ^ 46 % 4 == 1

/-- The request is refused whole (R326), but for the presence of its device. -/
def pktBad (k : Pkt) : Bool :=
  let hi := k.addr / 2 ^ 46 % 4
  let first := k.addr + beLow (k.be % 16)
  let last := k.addr + 4 * (pktLen k - 1) + beEnd (pktBe k (pktLen k - 1)) - 1
  decide (2 ≤ hi) || (hi == 1 && k.typ != 2) || decide (first / 4096 ≠ last / 4096) || k.be % 16 == 0
    || (pktLen k == 1 && k.be / 16 % 16 != 0)

/-! ### Local accesses of a request -/

/-- The STATUS code of a read (R327). -/
def statusCode : RdStatus → Nat
  | .ok => 0
  | .offline => 2
  | .unmapped => 3
  | .aborted => 4
  | .poison => 6
  | .notInit => 7
  | .rsvd => 8

/-- The bytes of a dword that are enabled; the others read zero (assumption 37). -/
def beMask (be v : Nat) : Nat := (List.range 4).foldl (fun a k => a + (if be.testBit k then v / 2 ^ (8 * k) % 256 * 2 ^ (8 * k) else 0)) 0

/-- The initiator of an access, as TOP_ACCESS_INFO.INIT codes it. -/
def Dev.originInit (d : Dev) : Origin → Nat
  | .init i => i
  | .port _ => 7
  | .host _ => 4
  | .bridge => match d.brCur with
    | some r => (match r.src with | .spi => 5 | .i3c => 6)
    | none => 5

/-- The reads of a request, dword by dword in ascending order (R326, R327): the state, the status that stands for all, the data. -/
def State.pktRead (s : State) (init : Nat) (k : Pkt) (f : EccFind) : State × RdStatus × List Nat :=
  let a := k.addr % 2 ^ 40
  let r := (List.range (pktLen k)).foldl (fun (acc : State × RdStatus × List Nat × EccFind) i =>
    if pktBe k i = 0 then (acc.1, acc.2.1, acc.2.2.1 ++ [0], acc.2.2.2)
    else
      let t := acc.1.localRead init (a + 4 * i) 4 acc.2.2.2
      (t.1, worse acc.2.1 t.2.1, acc.2.2.1 ++ [beMask (pktBe k i) t.2.2], EccFind.clean)) (s, RdStatus.ok, [], f)
  (r.1, r.2.1, r.2.2.1)

/-- The enabled bytes of a write, with their addresses. -/
def pktBytesOf (k : Pkt) : List (Nat × Byte) :=
  let a := k.addr % 2 ^ 40
  (List.range (pktLen k)).flatMap (fun i =>
    ((List.range 4).filter (fun j => (pktBe k i).testBit j)).map (fun j => (a + 4 * i + j, BitVec.ofNat 8 (k.data.getD i 0 / 2 ^ (8 * j)))))

/-- Bytes in runs of adjacent addresses. -/
def byteRuns : List (Nat × Byte) → List (Nat × List Byte)
  | [] => []
  | (a, b) :: l =>
    match byteRuns l with
    | (c, bs) :: rs => if c = a + 1 then (a, b :: bs) :: rs else (a, [b]) :: (c, bs) :: rs
    | [] => [(a, [b])]

/-- The writes of a request (R326): in register space each dword is an access under R6, a partial one is dropped; in memory its
enabled bytes are written. -/
def State.pktWrite (s : State) (init : Nat) (k : Pkt) (up : Bool) (e : WrEnv) : State :=
  let a := k.addr % 2 ^ 40
  if a < sramBase then
    (List.range (pktLen k)).foldl (fun t i =>
      if pktBe k i = 0 then t
      else t.regWrite init (a + 4 * i) (if pktBe k i = 15 then 4 else 1) (k.data.getD i 0) up e) s
  else s.commit ((byteRuns (pktBytesOf k)).foldl (fun t r => t.store init r.1 r.2 e.find) s)

/-! ### Serving a request -/

/-- A read request is answered (R321, R327, R336, R338). -/
def Dev.reply (d : Dev) (o : Origin) (k : Pkt) (status : Nat) (data : List Nat) : Dev :=
  match o with
  | .port _ => d.sendTo k.req (d.cpldFor k status data)
  | .host tag => d.ownDone 0 tag status data
  | .bridge => { d with brRes := some (status, data) }
  | .init _ => d

/-- A request that this device serves itself (R326, R328); one for a bunch held in reset waits at its port (R296). The credits of one
that came in on a Bramble port go back when it is consumed (R324). -/
def State.serve (s : State) (o : Origin) (k : Pkt) (f : EccFind) (e : WrEnv) : State :=
  let a := k.addr % 2 ^ 40
  let init := s.dev.originInit o
  match (if s.dev.isOff a then none else s.dev.heldAt a) with
  | some b => s.put { s.dev with portWait := s.dev.portWait ++ [.packet b o k e] }
  | none =>
    let s := match o with
      | .port p => s.put (s.dev.giveBack p k)
      | _ => s
    if k.typ = 1 then
      let r := s.pktRead init k f
      r.1.put (r.1.dev.reply o k (statusCode r.2.1) r.2.2)
    else
      let t := s.pktWrite init k (o == .port 0) e
      match o with
      | .bridge => t.put { t.dev with brRes := some (0, []) }
      | _ => t

/-- The requests that waited at the port of bunch `b` are served, oldest first, under the new generation (R296). -/
def State.serveWaiting (s : State) (b : Nat) : State :=
  let ours := fun (r : WaitReq) => match r with
    | .access c _ _ _ _ _ _ => c == b
    | .packet c _ _ _ => c == b
  let mine := s.dev.portWait.filter ours
  let s1 : State := { s with dev := { s.dev with portWait := s.dev.portWait.filter (fun r => !(ours r)) } }
  mine.foldl (fun t r => match r with
    | .access _ init a n x true e => t.writeOne init a n x e
    | .access _ init a n _ false e => t.readOne init a n .clean e
    | .packet _ o k e => t.serve o k .clean e) s1

/-- BUNCH_SHADOW_RELOAD_DONE (R45, R168, R296): the configuration words and the seed-defined fields stand again, the reset ends, and
the requests that waited are served. -/
def execBunchShadowReloadDone (b : Fin 2) (s : State) : Res :=
  .next (if s.dev.flag .bnReload b then (s.put (s.dev.bunchReloaded b)).serveWaiting b else s)

/-! ### Requests over Bramble -/

/-- A request refused UR at port `p`; a posted one is counted (R326). -/
def Dev.refuseUr (d : Dev) (p : Nat) (k : Pkt) : Dev :=
  if pktCls k = 0 then d.count BRM_FCNT2_P_REFUSED 0 1 else d.sendPort p none (d.cplFor k 1)

/-- MRD_RECEIVED (R326, R327, R333): a read request is checked, forwarded, or carried out and completed. -/
def execMrdReceived (p : Fin 3) (seq : Fin 4096) (good : Bool) (k : Pkt) (find : EccFind) (env : WrEnv) (s : State) : Res :=
  let r := s.dev.linkAccept p seq good
  .next (
    if !r.2 || k.typ != 1 then s.put r.1
    else if !(r.1.on BRM_FSTATUS_NUMBERED 0) || pktBad k then s.put ((r.1.giveBack p k).refuseUr p k)
    else match r.1.route (fleetDev k.addr) with
      | .here => (s.put r.1).serve (.port p) k find env
      | _ => s.put (r.1.forward p (fleetDev k.addr) k))

/-- MWR_RECEIVED (R326, R328, R333): a write request is checked, forwarded or applied; a broadcast goes to the root, and from there
down every ACTIVE port (assumption 38). -/
def execMwrReceived (p : Fin 3) (seq : Fin 4096) (good : Bool) (k : Pkt) (env : WrEnv) (s : State) : Res :=
  let r := s.dev.linkAccept p seq good
  .next (
    if !r.2 || k.typ != 2 then s.put r.1
    else if !(r.1.on BRM_FSTATUS_NUMBERED 0) || pktBad k then s.put ((r.1.giveBack p k).refuseUr p k)
    else if pktBroadcast k then
      if p.val ≠ 0 ∧ r.1.on BRM_FCTRL_ROOT 0 = false then s.put (r.1.sendPort 0 (some p.val) k)
      else (s.put (r.1.sendDown k)).serve (.port p) k .clean env
    else match r.1.route (fleetDev k.addr) with
      | .here => (s.put r.1).serve (.port p) k .clean env
      | _ => s.put (r.1.forward p (fleetDev k.addr) k))

/-! ### PCIe at the root -/

/-- A request of one of the device's own units. -/
def Dev.ownPkt (d : Dev) (typ unit tag addr be len : Nat) (data : List Nat) : Pkt :=
  { typ := typ, be := be, len := len, req := d.devNum, unit := unit, tag := tag, gen := d.devGen, code := 0, addr := addr, status := 0,
    data := data }

/-- Base of BAR2 in the fleet address space: bits below WIN_LOG2 are ignored (R336). -/
def Dev.winBase (d : Dev) : Nat :=
  let w := 2 ^ (d.v .winLog2 0).toNat
  d.get PCI_WIN_BASE 0 * 2 ^ 32 / w * w

/-- The endpoint answers the host: it is enabled at the root and its link is up (R336, R343). -/
def Dev.pcieUp (d : Dev) : Bool := d.flag .pcieOn 0 && d.on PCI_STATUS_LINK_UP 0

/-- The fleet address of an offset in a BAR: BAR0 is the device's own local space. -/
def Dev.barAddr (d : Dev) (bar2 : Bool) (ofs : Nat) : Nat :=
  if bar2 then d.winBase + ofs % 2 ^ (d.v .winLog2 0).toNat else d.devNum * 2 ^ 40 + ofs % 2 ^ 26

/-- PCIE_READ (R336): a host read with a tag, at an offset in BAR0 or BAR2; `be` its byte enables, `len` its dwords. -/
def execPcieRead (tag : Fin 1024) (bar2 : Bool) (ofs be len : Nat) (find : EccFind) (env : WrEnv) (s : State) : Res :=
  let d := s.dev
  let addr := d.barAddr bar2 ofs
  let k := d.ownPkt 1 0 tag addr be (len % 1024) []
  .next (
    if !d.pcieUp || d.ownReqs.any (fun r => r.unit == 0 && r.tag == tag.val) then s
    else
      let d1 := ({ d with ownReqs := d.ownReqs ++ [⟨0, tag, fleetDev addr⟩] } : Dev).pcieTags
      if pktBad k then s.put (d1.ownDone 0 tag 1 [])
      else if !bar2 then (s.put d1).serve (.host tag) k find env
      else match d1.route (fleetDev addr) with
        | .here => (s.put d1).serve (.host tag) k find env
        | .port q => s.put (d1.sendPort q none k)
        | .none => s.put (d1.ownDone 0 tag 1 []))

/-- PCIE_WRITE (R336): a host write is forwarded as posted, or applied; a poisoned one is dropped. -/
def execPcieWrite (bar2 : Bool) (ofs be : Nat) (data : List Nat) (poisoned : Bool) (env : WrEnv) (s : State) : Res :=
  let d := s.dev
  let addr := d.barAddr bar2 ofs
  let k := d.ownPkt 2 0 0 addr be (data.length % 1024) data
  .next (
    if !d.pcieUp || poisoned || data.isEmpty then s
    else if pktBad k then s.put (d.count BRM_FCNT2_P_REFUSED 0 1)
    else if !bar2 then s.serve (.host 0) k .clean env
    else if pktBroadcast k then (s.put (d.sendDown k)).serve (.host 0) k .clean env
    else match d.route (fleetDev addr) with
      | .here => s.serve (.host 0) k .clean env
      | .port q => s.put (d.sendPort q none k)
      | .none => s.put (d.count BRM_FCNT2_P_REFUSED 0 1))

/-- PERST_N_RESET (R336, R407): the PCIe fundamental reset, which only the root samples: the BAR2 size is taken, the link is down, the
MSI-X table is masked and empty, and host reads are forgotten. -/
def execPerstNReset (s : State) : Res :=
  let d := s.dev
  okDev s (
    if d.on BRM_FCTRL_ROOT 0 then
      let d1 : Dev := { d with
        ownReqs := d.ownReqs.filter (fun r => r.unit != 0),
        vars := d.vars.filter (fun x => match varAt x.1.1 with | .msixTab | .msixPba => false | _ => true) }
      ((d1.sv .winLog2 0 (clampN 32 48 (d.get PCI_CTRL_WIN_LOG2 0) : Nat)).set PCI_STATUS_LINK_UP 0 0).pcieTags
    else d)

/-- PCIE_LINK_CHANGE (R336): the link at the root comes up or goes down. -/
def execPcieLinkChange (up : Bool) (s : State) : Res :=
  okDev s (if s.dev.on BRM_FCTRL_ROOT 0 && (s.dev.flag .pcieOn 0 || !up) then s.dev.put PCI_STATUS_LINK_UP 0 up else s.dev)

/-! ### The bridge -/

/-- The request packet of a bridge request: unit 1, tag 0. -/
def Dev.bridgePkt (d : Dev) (r : BrReq) : Pkt :=
  d.ownPkt (if r.write then 2 else 1) 1 0 r.addr (if r.n = 1 then 0xF else 0xFF) r.n r.data

/-- The bridge's request has a result that carries no data. -/
def Dev.bridgeEnd (d : Dev) (status : Nat) : Dev := { d with brRes := some (status, []) }

/-- A bridge request is carried out: locally for the device's own number, or 0 on an unnumbered device, else over Bramble; an
unnumbered device and R326 refuse it (R326, R328, R340). -/
def State.bridgeRun (s : State) (r : BrReq) (f : EccFind) (e : WrEnv) : State :=
  let d := ({ s.dev with brCur := some r, brRes := none } : Dev).set SPI_I3C_STATUS_BUSY 0 1
  let k := d.bridgePkt r
  let dev := fleetDev r.addr
  let numbered := d.on BRM_FSTATUS_NUMBERED 0
  let refuse := if r.write then (d.count BRM_FCNT2_P_REFUSED 0 1).bridgeEnd 0 else d.bridgeEnd 1
  if pktBad k then s.put refuse
  else if pktBroadcast k then
    if d.on BRM_FCTRL_ROOT 0 then (s.put (d.sendDown k)).serve .bridge k f e
    else if numbered then s.put ((d.sendPort 0 none k).bridgeEnd 0)
    else s.put refuse
  else if (if numbered then dev = d.devNum else dev = 0) then (s.put d).serve .bridge k f e
  else match (if numbered then d.route dev else .none) with
    | .port q =>
      if r.write then s.put ((d.sendPort q none k).bridgeEnd 0)
      else s.put (({ d with ownReqs := d.ownReqs ++ [⟨1, 0, dev⟩] } : Dev).sendPort q none k)
    | _ => s.put refuse

/-- A request reaches the bridge: it is taken, it waits, or as a second waiting write it is dropped with WR_ERR (R338). -/
def State.bridgeAsk (s : State) (r : BrReq) (f : EccFind) (e : WrEnv) : State :=
  let d := s.dev
  if d.brCur.isNone then s.bridgeRun r f e
  else if r.write && d.brWait.any (fun x => x.write) then s.put (d.ev SPI_I3C_STATUS_WR_ERR 0)
  else s.put { d with brWait := d.brWait ++ [r] }

/-- SPI_WRITE (R338): `addr` and the N + 1 dwords sent; `whole` tells that the chip select rose only after the last byte. -/
def execSpiWrite (addr : BitVec 48) (data : List Nat) (whole : Bool) (find : EccFind) (env : WrEnv) (s : State) : Res :=
  .next (
    if !whole || data.isEmpty then s.put (s.dev.ev SPI_I3C_STATUS_WR_ERR 0)
    else s.bridgeAsk ⟨.spi, true, addr.toNat / 4 * 4, data.length, data, false⟩ find env)

/-- SPI_READ (R338): N + 1 dwords from `addr`; a transaction abandoned before 0xA5 has its result discarded. -/
def execSpiRead (addr : BitVec 48) (n : Byte) (abandoned : Bool) (find : EccFind) (env : WrEnv) (s : State) : Res :=
  .next (s.bridgeAsk ⟨.spi, false, addr.toNat / 4 * 4, n.toNat + 1, [], abandoned⟩ find env)

/-- SPI_STATUS (R338): BUSY and WR_ERR are returned, and WR_ERR clears. -/
def execSpiStatus (s : State) : Res :=
  let d := s.dev
  okDev s ((d.emit (.spiStatus (d.on SPI_CFG_QUAD 0) (d.get SPI_I3C_STATUS_BUSY 0 + 2 * d.get SPI_I3C_STATUS_WR_ERR 0))).set SPI_I3C_STATUS_WR_ERR 0 0)

/-- The I3C target has a dynamic address (R339). -/
def Dev.i3cUp (d : Dev) : Bool := d.get I3C_CFG_DYN_ADDR 0 != 0

/-- I3C_PRIVATE_WRITE (R339): address, N and data are a WRITE. -/
def execI3cPrivateWrite (addr : BitVec 48) (data : List Nat) (find : EccFind) (env : WrEnv) (s : State) : Res :=
  .next (
    if !s.dev.i3cUp || data.isEmpty then s
    else s.bridgeAsk ⟨.i3c, true, addr.toNat / 4 * 4, data.length, data, false⟩ find env)

/-- I3C_READ_SETUP (R339): address and N alone set up a READ; an earlier result not read is gone. -/
def execI3cReadSetup (addr : BitVec 48) (n : Byte) (find : EccFind) (env : WrEnv) (s : State) : Res :=
  .next (
    if !s.dev.i3cUp then s
    else ({ s with dev := { s.dev with i3cRes := none } } : State).bridgeAsk ⟨.i3c, false, addr.toNat / 4 * 4, n.toNat + 1, [], false⟩ find env)

/-- I3C_PRIVATE_READ (R339): the result once, or a NACK. -/
def execI3cPrivateRead (s : State) : Res :=
  let d := s.dev
  okDev s (if !d.i3cUp then d else { d.emit (.i3cRead d.i3cRes) with i3cRes := none })

/-- The provisional ID (R339). -/
def Dev.i3cPid (d : Dev) : Nat := d.get I3C_PID_MFR 0 * 2 ^ 33 + 0x3208 * 2 ^ 16 + d.get I3C_PID_INST 0

/-- I3C_ENTDAA (R339): the target without a dynamic address gives its provisional ID and takes `addr`. -/
def execI3cEntdaa (addr : Fin 128) (s : State) : Res :=
  let d := s.dev
  okDev s (if d.i3cUp then d else (d.emit (.i3cPid d.i3cPid)).set I3C_CFG_DYN_ADDR 0 addr)

/-- What a bridge request returns to its target: STATUS and N + 1 dwords, zero where the status carries none (R338, R339). -/
def Dev.bridgeGive (d : Dev) (r : BrReq) (status : Nat) (data : List Nat) : Dev :=
  if r.write then d
  else
    let d1 := d.set SPI_I3C_STATUS_LAST 0 status
    let out := (List.range r.n).map (fun i => data.getD i 0)
    match r.src with
    | .spi => if r.drop then d1 else d1.emit (.spiRead (d.on SPI_CFG_QUAD 0) (leBytes 1 0xA5 ++ leBytes 1 status ++ out.flatMap (leBytes 4)))
    | .i3c => { d1 with i3cRes := some (status, out) }

/-- BRIDGE_REQUEST_DONE (R338 to R340): the request whose result is known ends, and a waiting request is taken; `find` and `env`
are those of the request taken. -/
def execBridgeRequestDone (find : EccFind) (env : WrEnv) (s : State) : Res :=
  let d := s.dev
  .next (
    match d.brCur, d.brRes with
    | some r, some (status, data) =>
      let d1 := (({ d with brCur := none, brRes := none } : Dev).set SPI_I3C_STATUS_BUSY 0 0).bridgeGive r status data
      match d1.brWait with
      | [] => s.put d1
      | q :: rest => (s.put { d1 with brWait := rest }).bridgeRun q find env
    | _, _ => s)

end Sys2Proof.Machine
end

