-- ==== Sys2Proof/Machine/Dispatch.lean ====
section
/-! DEFINITION. Which meaning each command has: one arm per constructor. -/

namespace Sys2Proof.Machine

/-- The effect of a command on everything but the queue. -/
def exec (i : Instr) (s : State) : Host.Outcome State Fault Refusal :=
  match i with
  | .registerWrite addr size value init env => Sys2Proof.Machine.execRegisterWrite addr size value init env s
  | .readClear addr size init env => Sys2Proof.Machine.execReadClear addr size init env s
  | .powerOn => Sys2Proof.Machine.execPowerOn s
  | .rindReset => Sys2Proof.Machine.execRindReset s
  | .resetNPulse k => Sys2Proof.Machine.execResetNPulse k s
  | .topResetWarm k => Sys2Proof.Machine.execTopResetWarm k s
  | .topResetCore mask ab => Sys2Proof.Machine.execTopResetCore mask ab s
  | .topLockSet => Sys2Proof.Machine.execTopLockSet s
  | .seedLoadFull src warm hold => Sys2Proof.Machine.execSeedLoadFull src warm hold s
  | .seedLoadBunch0 src warm hold => Sys2Proof.Machine.execSeedLoadBunch0 src warm hold s
  | .seedLoadBunch1 src warm hold => Sys2Proof.Machine.execSeedLoadBunch1 src warm hold s
  | .seedCheck src warm hold => Sys2Proof.Machine.execSeedCheck src warm hold s
  | .seedAbort => Sys2Proof.Machine.execSeedAbort s
  | .seedHeaderDone => Sys2Proof.Machine.execSeedHeaderDone s
  | .seedVerifyDone d0 d1 ab0 ab1 => Sys2Proof.Machine.execSeedVerifyDone d0 d1 ab0 ab1 s
  | .seedApplyDone cfg0 cfg1 => Sys2Proof.Machine.execSeedApplyDone cfg0 cfg1 s
  | .seedRestart => Sys2Proof.Machine.execSeedRestart s
  | .bunchReset b ab => Sys2Proof.Machine.execBunchReset b ab s
  | .bnResetHeldAct b ab => Sys2Proof.Machine.execBnResetHeldAct b ab s
  | .bunchShadowReloadDone b => Sys2Proof.Machine.execBunchShadowReloadDone b s
  | .tileReloadDone shadowUe => Sys2Proof.Machine.execTileReloadDone shadowUe s
  | .laneEnable n => Sys2Proof.Machine.execLaneEnable n s
  | .laneDisable n => Sys2Proof.Machine.execLaneDisable n s
  | .laneResetLl n ab => Sys2Proof.Machine.execLaneResetLl n ab s
  | .laneResetHl m ab => Sys2Proof.Machine.execLaneResetHl m ab s
  | .adcReady n => Sys2Proof.Machine.execAdcReady n s
  | .afeGainUpdate n pct => Sys2Proof.Machine.execAfeGainUpdate n pct s
  | .offsetLoopStep n slice => Sys2Proof.Machine.execOffsetLoopStep n slice s
  | .gainLoopStep n slice => Sys2Proof.Machine.execGainLoopStep n slice s
  | .skewLoopStep n slice => Sys2Proof.Machine.execSkewLoopStep n slice s
  | .sliceTrimWrite n ofs gain skew => Sys2Proof.Machine.execSliceTrimWrite n ofs gain skew s
  | .adcFactory n => Sys2Proof.Machine.execAdcFactory n s
  | .adcFgStart n => Sys2Proof.Machine.execAdcFgStart n s
  | .adcFgDone n trims => Sys2Proof.Machine.execAdcFgDone n trims s
  | .cdrLockInterval n => Sys2Proof.Machine.execCdrLockInterval n s
  | .cdrPhaseWrite n phase => Sys2Proof.Machine.execCdrPhaseWrite n phase s
  | .spiOeStart ctrl => Sys2Proof.Machine.execSpiOeStart ctrl s
  | .spiOeTransactionEnd rx => Sys2Proof.Machine.execSpiOeTransactionEnd rx s
  | .spiOePollGap => Sys2Proof.Machine.execSpiOePollGap s
  | .spiOePollTimeout => Sys2Proof.Machine.execSpiOePollTimeout s
  | .oeAlarmFall => Sys2Proof.Machine.execOeAlarmFall s
  | .oeAlarmAccept us => Sys2Proof.Machine.execOeAlarmAccept us s
  | .oeAlarmRise => Sys2Proof.Machine.execOeAlarmRise s
  | .oeAlarmEvClear => Sys2Proof.Machine.execOeAlarmEvClear s
  | .oeGpioEdge k level => Sys2Proof.Machine.execOeGpioEdge k level s
  | .eqPipUpdate n sub volts errs coefUe snapUe tileUe => Sys2Proof.Machine.execEqPipUpdate n sub volts errs coefUe snapUe tileUe s
  | .eqPeriodicSnapshot n => Sys2Proof.Machine.execEqPeriodicSnapshot n s
  | .eqSnapNow n => Sys2Proof.Machine.execEqSnapNow n s
  | .eqRestore n => Sys2Proof.Machine.execEqRestore n s
  | .eqReinit n => Sys2Proof.Machine.execEqReinit n s
  | .eqCoefWrite n value => Sys2Proof.Machine.execEqCoefWrite n value s
  | .eqHistStart n => Sys2Proof.Machine.execEqHistStart n s
  | .eqHistWindowEnd n => Sys2Proof.Machine.execEqHistWindowEnd n s
  | .txApply n => Sys2Proof.Machine.execTxApply n s
  | .txPipBoundary n h0 h1 => Sys2Proof.Machine.execTxPipBoundary n h0 h1 s
  | .txFineWrite n fine => Sys2Proof.Machine.execTxFineWrite n fine s
  | .txEidleSet n => Sys2Proof.Machine.execTxEidleSet n s
  | .txDacReady n => Sys2Proof.Machine.execTxDacReady n s
  | .cwArrival n cyc => Sys2Proof.Machine.execCwArrival n cyc s
  | .decPassStart n cyc => Sys2Proof.Machine.execDecPassStart n cyc s
  | .decPassResult n cyc id => Sys2Proof.Machine.execDecPassResult n cyc id s
  | .cwLowLatencyRelease n cyc => Sys2Proof.Machine.execCwLowLatencyRelease n cyc s
  | .cwDeadline n cyc => Sys2Proof.Machine.execCwDeadline n cyc s
  | .huntWindowEnd n verdict => Sys2Proof.Machine.execHuntWindowEnd n verdict s
  | .lockWindowEnd n verdict => Sys2Proof.Machine.execLockWindowEnd n verdict s
  | .decRehunt n => Sys2Proof.Machine.execDecRehunt n s
  | .decPipEnd n => Sys2Proof.Machine.execDecPipEnd n s
  | .decDeadlineWrite n v => Sys2Proof.Machine.execDecDeadlineWrite n v s
  | .decMaxpassWrite n v => Sys2Proof.Machine.execDecMaxpassWrite n v s
  | .hlRxControlWrite m tap value => Sys2Proof.Machine.execHlRxControlWrite m tap value s
  | .hlSigDetChange m up => Sys2Proof.Machine.execHlSigDetChange m up s
  | .hlCdrInterval m est mse g => Sys2Proof.Machine.execHlCdrInterval m est mse g s
  | .hlTxApply m => Sys2Proof.Machine.execHlTxApply m s
  | .hlPresetLoad m preset => Sys2Proof.Machine.execHlPresetLoad m preset s
  | .hlTrainRestart m => Sys2Proof.Machine.execHlTrainRestart m s
  | .hlTrainAbort m => Sys2Proof.Machine.execHlTrainAbort m s
  | .hlPartnerFrameLock m locked => Sys2Proof.Machine.execHlPartnerFrameLock m locked s
  | .hlPartnerRequest m req => Sys2Proof.Machine.execHlPartnerRequest m req s
  | .hlPartnerResponse m resp => Sys2Proof.Machine.execHlPartnerResponse m resp s
  | .hlMeasWindow m mse => Sys2Proof.Machine.execHlMeasWindow m mse s
  | .hlPartnerReady m => Sys2Proof.Machine.execHlPartnerReady m s
  | .hlWaitTimer m => Sys2Proof.Machine.execHlWaitTimer m s
  | .hlTrainTimeout m => Sys2Proof.Machine.execHlTrainTimeout m s
  | .hlHretrainHoldoff m => Sys2Proof.Machine.execHlHretrainHoldoff m s
  | .hlPatGenWrite m gen => Sys2Proof.Machine.execHlPatGenWrite m gen s
  | .hlPatCheckWindow m syms => Sys2Proof.Machine.execHlPatCheckWindow m syms s
  | .hlChkRestart m => Sys2Proof.Machine.execHlChkRestart m s
  | .hlTxReady m => Sys2Proof.Machine.execHlTxReady m s
  | .markerPassage m dir sym locked lead => Sys2Proof.Machine.execMarkerPassage m dir sym locked lead s
  | .playoutDue n id others ins grow del shrink frame => Sys2Proof.Machine.execPlayoutDue n id others ins grow del shrink frame s
  | .gbxRearm sl => Sys2Proof.Machine.execGbxRearm sl s
  | .rsCodewordDecode sl dir corrected ago bad frame => Sys2Proof.Machine.execRsCodewordDecode sl dir corrected ago bad frame s
  | .fillEnd sl dir => Sys2Proof.Machine.execFillEnd sl dir s
  | .ptpEventFrame sl dir frame arr dep => Sys2Proof.Machine.execPtpEventFrame sl dir frame arr dep s
  | .linkStateUp n => Sys2Proof.Machine.execLinkStateUp n s
  | .linkStateTimeout n => Sys2Proof.Machine.execLinkStateTimeout n s
  | .gainTimeout n => Sys2Proof.Machine.execGainTimeout n s
  | .retrainHoldoffEnd n => Sys2Proof.Machine.execRetrainHoldoffEnd n s
  | .retrainNow n => Sys2Proof.Machine.execRetrainNow n s
  | .linkStableTimer n => Sys2Proof.Machine.execLinkStableTimer n s
  | .losWindowEnd n mean => Sys2Proof.Machine.execLosWindowEnd n mean s
  | .portLoopWrite sl loop hretrain hholdoff => Sys2Proof.Machine.execPortLoopWrite sl loop hretrain hholdoff s
  | .portLoopTake sl => Sys2Proof.Machine.execPortLoopTake sl s
  | .sbFirstStageOutput n ago volts => Sys2Proof.Machine.execSbFirstStageOutput n ago volts s
  | .sbEngineVisit n => Sys2Proof.Machine.execSbEngineVisit n s
  | .sbSyncWrite => Sys2Proof.Machine.execSbSyncWrite s
  | .sbFirApply n => Sys2Proof.Machine.execSbFirApply n s
  | .sbPowerWindow n => Sys2Proof.Machine.execSbPowerWindow n s
  | .sbNfReport n => Sys2Proof.Machine.execSbNfReport n s
  | .sloeSend n ctrl => Sys2Proof.Machine.execSloeSend n ctrl s
  | .sloePacketStart n lead markAge => Sys2Proof.Machine.execSloePacketStart n lead markAge s
  | .sloePacketEnd n => Sys2Proof.Machine.execSloePacketEnd n s
  | .sloeAckWindowExpiry n => Sys2Proof.Machine.execSloeAckWindowExpiry n s
  | .sloeGaspSend => Sys2Proof.Machine.execSloeGaspSend s
  | .sloeConfigChange n => Sys2Proof.Machine.execSloeConfigChange n s
  | .sloePreambleDetect n m p => Sys2Proof.Machine.execSloePreambleDetect n m p s
  | .sloeSyncFound n p => Sys2Proof.Machine.execSloeSyncFound n p s
  | .sloeFalseLock n => Sys2Proof.Machine.execSloeFalseLock n s
  | .sloeHeaderDone n shifts age markAge => Sys2Proof.Machine.execSloeHeaderDone n shifts age markAge s
  | .sloeReceptionEnd n syms age markAge => Sys2Proof.Machine.execSloeReceptionEnd n syms age markAge s
  | .sloeRxValidClear n => Sys2Proof.Machine.execSloeRxValidClear n s
  | .sloeNfReport n p => Sys2Proof.Machine.execSloeNfReport n p s
  | .sloeTrWindow t ppb cover tracking => Sys2Proof.Machine.execSloeTrWindow t ppb cover tracking s
  | .timeActiveWrite k slew => Sys2Proof.Machine.execTimeActiveWrite k slew s
  | .timeSlewEnd => Sys2Proof.Machine.execTimeSlewEnd s
  | .timeSet k => Sys2Proof.Machine.execTimeSet k s
  | .timeStep k => Sys2Proof.Machine.execTimeStep k s
  | .timeMeasSubmit k hi => Sys2Proof.Machine.execTimeMeasSubmit k hi s
  | .ppsEdge falling sub => Sys2Proof.Machine.execPpsEdge falling sub s
  | .holdoverEntry k => Sys2Proof.Machine.execHoldoverEntry k s
  | .timeWrap k => Sys2Proof.Machine.execTimeWrap k s
  | .stampQueuePop => Sys2Proof.Machine.execStampQueuePop s
  | .tpoPulse k => Sys2Proof.Machine.execTpoPulse k s
  | .tpoPulseEnd k => Sys2Proof.Machine.execTpoPulseEnd k s
  | .trigSetFire n k c => Sys2Proof.Machine.execTrigSetFire n k c s
  | .capEventInput input => Sys2Proof.Machine.execCapEventInput input s
  | .seqWindowExpiry => Sys2Proof.Machine.execSeqWindowExpiry s
  | .capArm => Sys2Proof.Machine.execCapArm s
  | .capStop => Sys2Proof.Machine.execCapStop s
  | .capForce => Sys2Proof.Machine.execCapForce s
  | .capSwEv => Sys2Proof.Machine.execCapSwEv s
  | .capStreamRecord st missing absent mstamp units => Sys2Proof.Machine.execCapStreamRecord st missing absent mstamp units s
  | .capComplete => Sys2Proof.Machine.execCapComplete s
  | .drainGranuleDone => Sys2Proof.Machine.execDrainGranuleDone s
  | .drainFinished => Sys2Proof.Machine.execDrainFinished s
  | .trigbFrameReceived bits => Sys2Proof.Machine.execTrigbFrameReceived bits s
  | .trgSendWrite w => Sys2Proof.Machine.execTrgSendWrite w s
  | .trigbFrameLaunch => Sys2Proof.Machine.execTrigbFrameLaunch s
  | .busEventAct => Sys2Proof.Machine.execBusEventAct s
  | .trgCalStart dev => Sys2Proof.Machine.execTrgCalStart dev s
  | .calProbeLaunch => Sys2Proof.Machine.execCalProbeLaunch s
  | .calAnswerLaunch => Sys2Proof.Machine.execCalAnswerLaunch s
  | .calAnswerReceived r => Sys2Proof.Machine.execCalAnswerReceived r s
  | .calTimeout => Sys2Proof.Machine.execCalTimeout s
  | .zeroFillDone => Sys2Proof.Machine.execZeroFillDone s
  | .lpddr6WipeDone => Sys2Proof.Machine.execLpddr6WipeDone s
  | .fabricRead init addr size find env => Sys2Proof.Machine.execFabricRead init addr size find env s
  | .memoryWrite init addr data find => Sys2Proof.Machine.execMemoryWrite init addr data find s
  | .mergeFlush addr find => Sys2Proof.Machine.execMergeFlush addr find s
  | .staleReplyDiscard target tg initiator ig => Sys2Proof.Machine.execStaleReplyDiscard target tg initiator ig s
  | .scrubVisit m loc find race wrap lane good => Sys2Proof.Machine.execScrubVisit m loc find race wrap lane good s
  | .dqsTrack => Sys2Proof.Machine.execDqsTrack s
  | .fillAbort lines => Sys2Proof.Machine.execFillAbort lines s
  | .fillGranuleDone late => Sys2Proof.Machine.execFillGranuleDone late s
  | .bmapUnmark w => Sys2Proof.Machine.execBmapUnmark w s
  | .irqClaimRead c => Sys2Proof.Machine.execIrqClaimRead c s
  | .irqCompleteWrite n => Sys2Proof.Machine.execIrqCompleteWrite n s
  | .irqSwSet bits => Sys2Proof.Machine.execIrqSwSet bits s
  | .prfOverflow u k pc => Sys2Proof.Machine.execPrfOverflow u k pc s
  | .prfClear => Sys2Proof.Machine.execPrfClear s
  | .prfSnapEnable => Sys2Proof.Machine.execPrfSnapEnable s
  | .prfSnapshotRecord => Sys2Proof.Machine.execPrfSnapshotRecord s
  | .prfSnapRpWrite v => Sys2Proof.Machine.execPrfSnapRpWrite v s
  | .brmPortEnable p => Sys2Proof.Machine.execBrmPortEnable p s
  | .brmPortDisable p => Sys2Proof.Machine.execBrmPortDisable p s
  | .brmDetectProbe p t0 t1 => Sys2Proof.Machine.execBrmDetectProbe p t0 t1 s
  | .brmMarkerReceived p l b spaced skewed hdr ctrl stuff => Sys2Proof.Machine.execBrmMarkerReceived p l b spaced skewed hdr ctrl stuff s
  | .brmLockLoss p l block cdr => Sys2Proof.Machine.execBrmLockLoss p l block cdr s
  | .brmLaneWaitExpiry p => Sys2Proof.Machine.execBrmLaneWaitExpiry p s
  | .brmCapReceived p b => Sys2Proof.Machine.execBrmCapReceived p b s
  | .brmTrainTimeout p => Sys2Proof.Machine.execBrmTrainTimeout p s
  | .brmRestart p => Sys2Proof.Machine.execBrmRestart p s
  | .brmLoopWrite p loop up => Sys2Proof.Machine.execBrmLoopWrite p loop up s
  | .brmCleanerHoldover => Sys2Proof.Machine.execBrmCleanerHoldover s
  | .brmCleanerLock => Sys2Proof.Machine.execBrmCleanerLock s
  | .mrdReceived p seq good k find env => Sys2Proof.Machine.execMrdReceived p seq good k find env s
  | .mwrReceived p seq good k env => Sys2Proof.Machine.execMwrReceived p seq good k env s
  | .cplReceived p seq good k => Sys2Proof.Machine.execCplReceived p seq good k s
  | .ackReceived p seq crcOk => Sys2Proof.Machine.execAckReceived p seq crcOk s
  | .nakReceived p seq crcOk => Sys2Proof.Machine.execNakReceived p seq crcOk s
  | .creditReceived p c h u crcOk => Sys2Proof.Machine.execCreditReceived p c h u crcOk s
  | .replayTimeout p => Sys2Proof.Machine.execReplayTimeout p s
  | .completionTimeout unit tag => Sys2Proof.Machine.execCompletionTimeout unit tag s
  | .enumStart => Sys2Proof.Machine.execEnumStart s
  | .enumOfferReceived p seq good k => Sys2Proof.Machine.execEnumOfferReceived p seq good k s
  | .irqMessage p seq good k => Sys2Proof.Machine.execIrqMessage p seq good k s
  | .trigMessage p seq good k => Sys2Proof.Machine.execTrigMessage p seq good k s
  | .timeMessage p seq good k => Sys2Proof.Machine.execTimeMessage p seq good k s
  | .timeMsgBroadcast => Sys2Proof.Machine.execTimeMsgBroadcast s
  | .pcieRead tag bar2 ofs be len find env => Sys2Proof.Machine.execPcieRead tag bar2 ofs be len find env s
  | .pcieWrite bar2 ofs be data poisoned env => Sys2Proof.Machine.execPcieWrite bar2 ofs be data poisoned env s
  | .perstNReset => Sys2Proof.Machine.execPerstNReset s
  | .spiWrite addr data whole find env => Sys2Proof.Machine.execSpiWrite addr data whole find env s
  | .spiRead addr n abandoned find env => Sys2Proof.Machine.execSpiRead addr n abandoned find env s
  | .spiStatus => Sys2Proof.Machine.execSpiStatus s
  | .i3cPrivateWrite addr data find env => Sys2Proof.Machine.execI3cPrivateWrite addr data find env s
  | .i3cReadSetup addr n find env => Sys2Proof.Machine.execI3cReadSetup addr n find env s
  | .i3cPrivateRead => Sys2Proof.Machine.execI3cPrivateRead s
  | .i3cEntdaa addr => Sys2Proof.Machine.execI3cEntdaa addr s
  | .bridgeRequestDone find env => Sys2Proof.Machine.execBridgeRequestDone find env s
  | .bootB0 straps => Sys2Proof.Machine.execBootB0 straps s
  | .bootB1 => Sys2Proof.Machine.execBootB1 s
  | .bootB2 ref up => Sys2Proof.Machine.execBootB2 ref up s
  | .bootB3 fac0 fac1 => Sys2Proof.Machine.execBootB3 fac0 fac1 s
  | .bootB4 => Sys2Proof.Machine.execBootB4 s
  | .bootB5 trained => Sys2Proof.Machine.execBootB5 trained s
  | .bootB6 fac cal => Sys2Proof.Machine.execBootB6 fac cal s
  | .bootB7 => Sys2Proof.Machine.execBootB7 s
  | .bootB8 => Sys2Proof.Machine.execBootB8 s
  | .bootB9 => Sys2Proof.Machine.execBootB9 s
  | .bootB10 => Sys2Proof.Machine.execBootB10 s
  | .bootB11 => Sys2Proof.Machine.execBootB11 s
  | .bootWatchdog k => Sys2Proof.Machine.execBootWatchdog k s
  | .bootRetry => Sys2Proof.Machine.execBootRetry s
  | .bootFailClear second w => Sys2Proof.Machine.execBootFailClear second w s
  | .stnPush page journal => Sys2Proof.Machine.execStnPush page journal s
  | .stnEntryDone => Sys2Proof.Machine.execStnEntryDone s
  | .stnWindowWrite init ofs => Sys2Proof.Machine.execStnWindowWrite init ofs s
  | .secVerifyFw mr => Sys2Proof.Machine.execSecVerifyFw mr s
  | .secVerifyApp mr => Sys2Proof.Machine.execSecVerifyApp mr s
  | .secExtend mr => Sys2Proof.Machine.execSecExtend mr s
  | .secChallenge mr => Sys2Proof.Machine.execSecChallenge mr s
  | .secLcGo mr k => Sys2Proof.Machine.execSecLcGo mr k s
  | .secSvnBump mr => Sys2Proof.Machine.execSecSvnBump mr s
  | .secCommandDone => Sys2Proof.Machine.execSecCommandDone s
  | .lcTransitionWipeDone => Sys2Proof.Machine.execLcTransitionWipeDone s
  | .attStart => Sys2Proof.Machine.execAttStart s
  | .attDone => Sys2Proof.Machine.execAttDone s
  | .idleEntry => Sys2Proof.Machine.execIdleEntry s
  | .idleExit c => Sys2Proof.Machine.execIdleExit c s
  | .sleepAutoEntry => Sys2Proof.Machine.execSleepAutoEntry s
  | .pwrGoSleep en quiet => Sys2Proof.Machine.execPwrGoSleep en quiet s
  | .pwrGoDeep en quiet => Sys2Proof.Machine.execPwrGoDeep en quiet s
  | .pwrGoOff en quiet => Sys2Proof.Machine.execPwrGoOff en quiet s
  | .pwrGoWake en k => Sys2Proof.Machine.execPwrGoWake en k s
  | .pwrGoRunClk en => Sys2Proof.Machine.execPwrGoRunClk en s
  | .runClkSwitchDone => Sys2Proof.Machine.execRunClkSwitchDone s
  | .lowPowerEntryDone => Sys2Proof.Machine.execLowPowerEntryDone s
  | .deepTimer => Sys2Proof.Machine.execDeepTimer s
  | .vddLoss k mask => Sys2Proof.Machine.execVddLoss k mask s
  | .vddReturn => Sys2Proof.Machine.execVddReturn s
  | .wakePin k => Sys2Proof.Machine.execWakePin k s
  | .rindWakeTimer k => Sys2Proof.Machine.execRindWakeTimer k s
  | .brambleWakeBeacon p k => Sys2Proof.Machine.execBrambleWakeBeacon p k s
  | .pcieDetectWake k => Sys2Proof.Machine.execPcieDetectWake k s
  | .sleepBeaconTimer => Sys2Proof.Machine.execSleepBeaconTimer s
  | .wakeStepReady => Sys2Proof.Machine.execWakeStepReady s
  | .wakeStepTimeout => Sys2Proof.Machine.execWakeStepTimeout s
  | .thmSample r k => Sys2Proof.Machine.execThmSample r k s
  | .thmProfileStep => Sys2Proof.Machine.execThmProfileStep s
  | .thmStopComplete late => Sys2Proof.Machine.execThmStopComplete late s
  | .thmThWrite w => Sys2Proof.Machine.execThmThWrite w s
  | .memFillStart mode => Sys2Proof.Machine.execMemFillStart mode s
  | .lpddr6TempRead code => Sys2Proof.Machine.execLpddr6TempRead code s
  | .brmLfreqUpdate p l ppm prbs => Sys2Proof.Machine.execBrmLfreqUpdate p l ppm prbs s
  | .brmAckTimer p => Sys2Proof.Machine.execBrmAckTimer p s
  | .pcieLinkChange up => Sys2Proof.Machine.execPcieLinkChange up s

end Sys2Proof.Machine
end

