-- ==== Sys2Proof/Machine/BrmTx.lean ====
section
/-! DEFINITION. What the Bramble transmitters put on their lanes: 66-bit blocks, scrambling, markers, stuffing and fill, and how the
link layer's blocks are spread over two lanes (R307 to R313, R318, R319). A port's lanes take one block slot every 66 UI. -/

namespace Sys2Proof.Machine

/-- Bits of a block before scrambling and stuffing: the sync header, control or data, and the payload, least significant bit first
(R308). -/
def payloadBits (b : List Byte) : List Bool := b.flatMap (fun x => (List.range 8).map x.toNat.testBit)

/-- The sync header of a block (R308). -/
def syncHeader (ctl : Bool) : List Bool := [ctl, !ctl]

/-- Seed of a lane's scrambler: s[n-1] is bit 0, s[n-58] bit 57 (R309). -/
def scrSeed (l : Nat) : Nat := if l = 0 then 2 ^ 58 - 1 else 2 ^ 57 - 1

/-- Scramble payload bits: s[n] = s[n-39] XOR s[n-58] (R309). -/
def scramble : Nat → List Bool → Nat × List Bool
  | st, [] => (st, [])
  | st, b :: bs =>
    let s := st.testBit 38 != st.testBit 57
    let r := scramble ((2 * st + b2n s) % 2 ^ 58) bs
    (r.1, (b != s) :: r.2)

/-- Send bits over a lane whose last bit is `last` after `run` identical ones: after any 31 identical bits one of the opposite value is
inserted (R310). -/
def stuff : Nat → Bool → List Bool → (Nat × Bool) × List Bool
  | run, last, [] => ((run, last), [])
  | run, last, b :: bs =>
    let n := if b == last then run + 1 else 1
    if n = 31 then
      let r := stuff 1 (!b) bs
      (r.1, b :: (!b) :: r.2)
    else
      let r := stuff n b bs
      (r.1, b :: r.2)

/-- The TRAIN block of a lane (R308). -/
def trainBlock (p l : Nat) : List Byte := [0x2D, BitVec.ofNat 8 l, BitVec.ofNat 8 (if p = 0 then 0 else 1), 0, 0, 0, 0, 0]

/-- The MARKER of a lane (R309). -/
def markerBlock (l count : Nat) (two : Bool) : List Byte :=
  [0x4B, BitVec.ofNat 8 (l + 2 * b2n two), BitVec.ofNat 8 count] ++ markerFixed.map (BitVec.ofNat 8)

/-- The CAP block of a port (R312): version 1, both modes, its lock mask, ACK, reference, role, part and SREV. -/
def Dev.capBlock (d : Dev) (p : Nat) : List Byte :=
  [0x33, BitVec.ofNat 8 (1 + 0x10 + 0x20 + 0x40 * d.brmMask p),
    BitVec.ofNat 8 (b2n (d.flag .capAck p) + 2 * b2n (p == 0 && d.on BRM_CLK_SRC_NOW 0) + 4 * b2n (p != 0)),
    BitVec.ofNat 8 (d.get TOP_ID_PART 0), BitVec.ofNat 8 (d.get TOP_ID_PART 0 / 256), BitVec.ofNat 8 (d.get TOP_ID_SREV 0), 0, 0]

/-- The lanes a port sends on: the agreed set in ACTIVE, those offered before (R313, R314); none in electrical idle, and none while the
upstream reference is not locked (R317). -/
def Dev.brmSends (d : Dev) (p : Nat) : List Nat :=
  let st := d.get BRM_PSTATUS_STATE p
  if d.on BRM_CLK_SRC_NOW 0 && !(d.on BRM_CLK_LOCKED 0) then []
  else if st = brmACTIVE then (List.range 2).filter (fun l => (d.get BRM_PSTATUS_LANE_SET p).testBit l)
  else if brmTRAIN ≤ st then d.brmOffered p else []

/-- Bits go out on a lane; `stuffed` ones add to its debt (R310). -/
def Dev.brmPut (d : Dev) (p l : Nat) (bits : List Bool) : Dev :=
  let i := 2 * p + l
  let r := stuff (d.v .brmRun i).toNat (d.flag .brmLast i) bits
  ((((d.sv .brmRun i (r.1.1 : Nat)).sflag .brmLast i r.1.2).sv .brmDebt i (d.v .brmDebt i + ((r.2.length - bits.length : Nat) : Int))).emit
    (.brmLine p l r.2))

/-- A scrambled block goes out on a lane (R308, R309). -/
def Dev.brmBlock (d : Dev) (p l : Nat) (ctl : Bool) (b : List Byte) : Dev :=
  let r := scramble (d.v .brmScr (2 * p + l)).toNat (payloadBits b)
  (d.sv .brmScr (2 * p + l) (r.1 : Nat)).brmPut p l (syncHeader ctl ++ r.2)

/-- A fill slot of a lane: with a debt of a block nothing is sent, else the mode's fill block (R310, R318). -/
def Dev.brmFill (d : Dev) (p l : Nat) : Dev :=
  let i := 2 * p + l
  let d1 := d.sv .brmWin i 0
  if 66 ≤ d.v .brmDebt i then d1.sv .brmDebt i (d.v .brmDebt i - 66)
  else d1.brmBlock p l true [if d.on BRM_PSTATUS_COMPAT p then 0x55 else 0x1E, 0, 0, 0, 0, 0, 0, 0]

/-- The next of the link layer's blocks for a port, or fill (R310, R311, R320). -/
def Dev.brmNext (d : Dev) (p l : Nat) : Dev :=
  match d.brmFifo.find? (fun b => b.port == p) with
  | none => d.brmFill p l
  | some b =>
    let d1 : Dev := { d with brmFifo := d.brmFifo.erase b }
    match b.bytes with
    | [] => d1.brmFill p l
    | x => (d1.sv .brmWin (2 * p + l) (d.v .brmWin (2 * p + l) + 1)).brmBlock p l false x

/-- One block slot of a lane (R309 to R313): every 16384th is a MARKER, 32 in a row hold a fill slot, a MARKER never being one. -/
def Dev.brmLaneSlot (d : Dev) (p l : Nat) : Dev :=
  let i := 2 * p + l
  let k := (d.v .brmSlot p).toNat
  let st := d.get BRM_PSTATUS_STATE p
  let win := d.sv .brmWin i (d.v .brmWin i + 1)
  if k = 0 then
    (win.sv .brmScr i (scrSeed l : Nat)).brmPut p l (syncHeader true ++ payloadBits (markerBlock l (d.v .brmMark p).toNat
      (decide ((d.brmSends p).length = 2))))
  else if 31 ≤ d.v .brmWin i + b2n (k == 16383) then d.brmFill p l
  else if st = brmACTIVE then d.brmNext p l
  else if st = brmCAP ∧ k % 256 = 255 ∧ d.on BRM_LSTATUS_MARKER_LOCK i then win.brmBlock p l true (d.capBlock p)
  else win.brmBlock p l true (trainBlock p l)

/-- One block slot of a port: its lanes in order, so that block k of the link layer goes to lane k mod 2 (R311). -/
def Dev.brmPortSlot (d : Dev) (p : Nat) : Dev :=
  let d1 := d.each (d.brmSends p) (fun l e => e.brmLaneSlot p l)
  let k := (d.v .brmSlot p).toNat
  (d1.sv .brmSlot p ((k + 1) % 16384 : Nat)).when (decide (k = 0)) (fun e => e.sv .brmMark p ((d.v .brmMark p + 1) % 256))

/-- `k` bits of PRBS31 on a lane, without headers, scrambling or stuffing (R319). -/
def Dev.brmPrbsRun (d : Dev) (p l k : Nat) : Dev :=
  let r := (List.range k).foldl (fun (acc : Nat × List Bool) _ =>
    let b := Config.prbsNext false acc.1
    ((2 * acc.1 + b2n b) % 2 ^ 31, acc.2 ++ [b])) ((d.v .brmPrbs (2 * p + l)).toNat, [])
  (d.sv .brmPrbs (2 * p + l) (r.1 : Nat)).emit (.brmLine p l r.2)

/-- One tclk of 0.8 ns of the Bramble transmitters: 21.25 UI in NATIVE, 8.25 in COMPAT (R307). A FAR loop sends what its receivers hand
it, which no command tells (assumption 44). -/
def Dev.brmTick (d : Dev) : Dev :=
  d.each [0, 1, 2] (fun p e =>
    if e.brmSends p = [] then e else
    let q := (e.v .brmUi p).toNat + (if e.on BRM_PSTATUS_COMPAT p then 33 else 85)
    let loop := if e.get BRM_PSTATUS_STATE p = brmLOOP then e.get BRM_PCTRL_LOOP p else 0
    if loop = 3 then
      (e.sv .brmUi p (q % 4 : Nat)).each (e.brmSends p) (fun l x => x.brmPrbsRun p l (q / 4))
    else if loop = 2 then e
    else if q < 264 then e.sv .brmUi p (q : Nat)
    else (e.sv .brmUi p (q - 264 : Nat)).brmPortSlot p)

end Sys2Proof.Machine
end

