-- ==== Sys2Proof/Machine/Idle.lean ====
section
/-! DEFINITION. What the block does by itself when no command waits: one tclk passes (R224, R226; assumption 2). -/

namespace Sys2Proof.Machine

/-- One tclk of 0.8 ns: both time domains and the active timescale advance while tclk runs (R224, R226), the port clock
followers slew (R68), pattern generators and Bramble transmitters send (R148, R310) and the monitors' cycle counters count (R302). -/
def State.idle (s : State) : State := if s.dev.flag .offClk 0 then s else s.put s.dev.tclk.folStep.patTick.prfTick.brmTick

end Sys2Proof.Machine
end

