-- ==== Sys2Proof/WellFormed.lean ====
section
/-! DEFINITION. Which operands the commands carry: lengths, ranges and sizes the spec gives (R3, R6, R320, R338 and the rules of
each command). -/

namespace Sys2Proof

/-- An access is of 8, 16, 32 or 64 bits (R6). -/
def accessSize (n : Nat) : Bool := n == 1 || n == 2 || n == 4 || n == 8

/-- A signed number of `w` bits (R4). -/
def inSigned (w : Nat) (x : Int) : Bool := decide (-(2 ^ (w - 1) : Nat) ≤ x ∧ x < (2 ^ (w - 1) : Nat))

/-- The fields of a packet fit the places R321 gives them, and its payload has LENGTH dwords. -/
def Pkt.wf (k : Pkt) : Bool :=
  decide (k.typ < 256) && decide (k.be < 256) && decide (1 ≤ k.len ∧ k.len ≤ 1024) && decide (k.req < 64) && decide (k.unit < 4)
    && decide (k.tag < 1024) && decide (k.gen < 256) && decide (k.code < 256) && decide (k.addr < 2 ^ 48) && k.addr % 4 == 0
    && decide (k.status < 256) && k.data.all (fun x => decide (x < 2 ^ 32))
    && (k.typ == 1 || k.typ == 5 || k.data.length == k.len)

/-- The command's operands are ones the spec gives it. -/
def Instr.wf : Instr → Bool
  | .registerWrite addr size value init _ => decide (addr < 2 ^ 40) && accessSize size && decide (value < 2 ^ (8 * size)) && decide (init < 12)
  | .readClear addr size init _ => decide (addr < 2 ^ 40) && accessSize size && decide (init < 12)
  | .seedApplyDone cfg0 cfg1 => decide (cfg0.length ≤ 65536) && decide (cfg1.length ≤ 65536)
  | .afeGainUpdate _ pct => decide (pct ≤ 128)
  | .sliceTrimWrite _ ofs gain skew => inSigned 8 ofs && inSigned 8 gain && inSigned 9 skew
  | .adcFgDone _ trims => trims.length == 96
  | .spiOeTransactionEnd rx => decide (rx.length ≤ 64)
  | .eqPipUpdate _ _ volts errs _ _ _ => volts.all (inSigned 36) && decide (errs.length = 72)
  | .txPipBoundary _ h0 h1 => decide (h0.length ≤ 10800) && decide (h1.length ≤ 10800)
  | .hlRxControlWrite _ _ value => decide (value < 2 ^ 32)
  | .hlPatCheckWindow _ syms => decide (syms.length ≤ 1024)
  | .ptpEventFrame _ _ frame _ _ => decide (frame.length ≤ 16384)
  | .losWindowEnd _ mean => decide (mean ≤ 128 * 256)
  | .sbFirstStageOutput _ _ volts => volts.all (inSigned 36) && decide (volts.length = 1024)
  | .sloeReceptionEnd _ syms _ _ => syms.all (fun x => decide (x.2 < 4096))
  | .calAnswerReceived r => decide (r < 65536)
  | .fabricRead init addr size _ _ => decide (init < 12) && decide (addr < 2 ^ 40) && accessSize size
  | .memoryWrite _ addr data _ => !data.isEmpty && decide (addr + data.length ≤ 2 ^ 40)
  | .fillAbort lines => decide (lines ≤ 16384)
  | .mergeFlush addr _ => decide (addr < 2 ^ 40)
  | .brmMarkerReceived _ _ b _ _ _ _ _ => b.length == 8
  | .brmCapReceived _ b => b.length == 8
  | .mrdReceived _ _ _ k _ _ => k.wf
  | .mwrReceived _ _ _ k _ => k.wf
  | .cplReceived _ _ _ k => k.wf
  | .enumOfferReceived _ _ _ k => k.wf
  | .irqMessage _ _ _ k => k.wf
  | .trigMessage _ _ _ k => k.wf
  | .timeMessage _ _ _ k => k.wf
  | .pcieRead _ _ ofs be len _ _ => decide (ofs < 2 ^ 48) && decide (be < 256) && decide (1 ≤ len ∧ len ≤ 1024)
  | .pcieWrite _ ofs be data _ _ => decide (ofs < 2 ^ 48) && decide (be < 256) && !data.isEmpty && decide (data.length ≤ 128)
  | .spiWrite _ data _ _ _ => !data.isEmpty && decide (data.length ≤ 256)
  | .i3cPrivateWrite _ data _ _ => !data.isEmpty && decide (data.length ≤ 256)
  | .thmSample r _ => r.length == 12
  | .powerOn | .rindReset | .resetNPulse _ | .topResetWarm _ | .topResetCore _ _ | .topLockSet | .seedLoadFull _ _ _
  | .seedLoadBunch0 _ _ _ | .seedLoadBunch1 _ _ _ | .seedCheck _ _ _ | .seedAbort | .seedHeaderDone | .seedVerifyDone _ _ _ _
  | .seedRestart | .bunchReset _ _ | .bnResetHeldAct _ _ | .bunchShadowReloadDone _ | .tileReloadDone _ | .laneEnable _
  | .laneDisable _ | .laneResetLl _ _ | .laneResetHl _ _ | .adcReady _ | .offsetLoopStep _ _ | .gainLoopStep _ _
  | .skewLoopStep _ _ | .cwArrival _ _ | .huntWindowEnd _ _ | .adcFactory _ | .adcFgStart _ | .cdrLockInterval _ | .cdrPhaseWrite _ _ | .spiOeStart _
  | .spiOePollGap | .spiOePollTimeout | .oeAlarmFall | .oeAlarmAccept _ | .oeAlarmRise | .oeAlarmEvClear | .oeGpioEdge _ _
  | .eqPeriodicSnapshot _ | .eqSnapNow _ | .eqRestore _ | .eqReinit _ | .eqCoefWrite _ _ | .eqHistStart _
  | .eqHistWindowEnd _ | .txApply _ | .txFineWrite _ _ | .txEidleSet _ | .txDacReady _ | .decPassStart _ _
  | .decPassResult _ _ _ | .cwLowLatencyRelease _ _ | .cwDeadline _ _ | .lockWindowEnd _ _ | .decRehunt _ | .decPipEnd _
  | .decDeadlineWrite _ _ | .decMaxpassWrite _ _ | .hlSigDetChange _ _ | .hlCdrInterval _ _ _ _ | .hlTxApply _
  | .hlPresetLoad _ _ | .hlTrainRestart _ | .hlTrainAbort _ | .hlPartnerFrameLock _ _ | .hlPartnerRequest _ _
  | .hlPartnerResponse _ _ | .hlMeasWindow _ _ | .hlPartnerReady _ | .hlWaitTimer _ | .hlTrainTimeout _
  | .hlHretrainHoldoff _ | .hlPatGenWrite _ _ | .hlChkRestart _ | .hlTxReady _ | .markerPassage _ _ _ _ _
  | .playoutDue _ _ _ _ _ _ _ _ | .gbxRearm _ | .rsCodewordDecode _ _ _ _ _ _ | .fillEnd _ _ | .linkStateUp _
  | .linkStateTimeout _ | .gainTimeout _ | .retrainHoldoffEnd _ | .retrainNow _ | .linkStableTimer _
  | .portLoopWrite _ _ _ _ | .portLoopTake _ | .sbEngineVisit _ | .sbSyncWrite | .sbFirApply _ | .sbPowerWindow _
  | .sbNfReport _ | .sloeSend _ _ | .sloePacketStart _ _ _ | .sloePacketEnd _ | .sloeAckWindowExpiry _ | .sloeGaspSend
  | .sloeConfigChange _ | .sloePreambleDetect _ _ _ | .sloeSyncFound _ _ | .sloeFalseLock _ | .sloeHeaderDone _ _ _ _
  | .sloeRxValidClear _ | .sloeNfReport _ _ | .sloeTrWindow _ _ _ _ | .timeActiveWrite _ _ | .timeSlewEnd | .timeSet _
  | .timeStep _ | .timeMeasSubmit _ _ | .ppsEdge _ _ | .holdoverEntry _ | .timeWrap _ | .stampQueuePop | .tpoPulse _
  | .tpoPulseEnd _ | .trigSetFire _ _ _ | .capEventInput _ | .seqWindowExpiry | .capArm | .capStop | .capForce
  | .capSwEv | .capStreamRecord _ _ _ _ _ | .capComplete | .drainGranuleDone | .drainFinished | .trigbFrameReceived _
  | .trgSendWrite _ | .trigbFrameLaunch | .busEventAct | .trgCalStart _ | .calProbeLaunch | .calAnswerLaunch | .calTimeout
  | .zeroFillDone | .lpddr6WipeDone | .staleReplyDiscard _ _ _ _ | .scrubVisit _ _ _ _ _ _ _ | .dqsTrack | .fillGranuleDone _
  | .bmapUnmark _ | .irqClaimRead _ | .irqCompleteWrite _ | .irqSwSet _ | .prfOverflow _ _ _ | .prfClear
  | .prfSnapEnable | .prfSnapshotRecord | .prfSnapRpWrite _ | .brmPortEnable _ | .brmPortDisable _ | .brmDetectProbe _ _ _
  | .brmLockLoss _ _ _ _ | .brmLaneWaitExpiry _ | .brmTrainTimeout _ | .brmRestart _ | .brmLoopWrite _ _ _
  | .brmCleanerHoldover | .brmCleanerLock | .ackReceived _ _ _ | .nakReceived _ _ _ | .creditReceived _ _ _ _ _
  | .replayTimeout _ | .completionTimeout _ _ | .enumStart | .timeMsgBroadcast | .perstNReset | .spiRead _ _ _ _ _
  | .spiStatus | .i3cReadSetup _ _ _ _ | .i3cPrivateRead | .i3cEntdaa _ | .bridgeRequestDone _ _ | .bootB0 _ | .bootB1
  | .bootB2 _ _ | .bootB3 _ _ | .bootB4 | .bootB5 _ | .bootB6 _ _ | .bootB7 | .bootB8 | .bootB9 | .bootB10 | .bootB11
  | .bootWatchdog _ | .bootRetry | .bootFailClear _ _ | .stnPush _ _ | .stnEntryDone | .stnWindowWrite _ _ | .secVerifyFw _
  | .secVerifyApp _ | .secExtend _ | .secChallenge _ | .secLcGo _ _ | .secSvnBump _ | .secCommandDone
  | .lcTransitionWipeDone | .attStart | .attDone | .idleEntry | .idleExit _ | .sleepAutoEntry | .pwrGoSleep _ _
  | .pwrGoDeep _ _ | .pwrGoOff _ _ | .pwrGoWake _ _ | .pwrGoRunClk _ | .runClkSwitchDone | .lowPowerEntryDone | .deepTimer
  | .vddLoss _ _ | .vddReturn | .wakePin _ | .rindWakeTimer _ | .brambleWakeBeacon _ _ | .pcieDetectWake _
  | .sleepBeaconTimer | .wakeStepReady | .wakeStepTimeout | .thmProfileStep | .thmStopComplete _ | .thmThWrite _
  | .memFillStart _ | .lpddr6TempRead _ | .brmLfreqUpdate _ _ _ _ | .brmAckTimer _ | .pcieLinkChange _ => true

end Sys2Proof
end

