-- ==== Sys2Proof/Safety.lean ====
section
/-! DEFINITION. What counts as a safe run: every step answers a next state, and the memories keep their canonical form. What a
command leaves alone is said here once, as a frame, in the terms the statements use. -/

namespace Sys2Proof

open Sys2Proof.Machine

/-- A step from the state answers a next state. -/
def Runs (s : State) : Prop := ∃ t, step s = .next t

/-- The state's memories are in canonical form and its commands well-formed. -/
def Sound (s : State) : Prop := s.mem.wf = true ∧ s.pending.all Instr.wf = true

namespace Machine

/-- A register field that the end of a command leaves alone: not a monitor's count or overflow bit, not BRM_FIRQ (R300, R302, R334). -/
def calmField (f : Fld) : Prop :=
  f.reg.ctorIdx ≠ Reg.PRF_CNT.ctorIdx ∧ f.reg.ctorIdx ≠ Reg.PRF_OVF.ctorIdx ∧ f.reg.ctorIdx ≠ Reg.BRM_FIRQ_LO.ctorIdx
    ∧ f.reg.ctorIdx ≠ Reg.BRM_FIRQ_HI.ctorIdx ∧ f.lo < 32

/-- A hidden variable that the end of a command leaves alone: not a pending bit of MSI-X, not the link layer's numbers and credits
(R323, R324, R337). -/
def calmVar (x : Var) : Prop :=
  x.ctorIdx ≠ Var.msixPba.ctorIdx ∧ x.ctorIdx ≠ Var.llTxSeq.ctorIdx ∧ x.ctorIdx ≠ Var.crUseH.ctorIdx ∧ x.ctorIdx ≠ Var.crUseD.ctorIdx
    ∧ x.ctorIdx ≠ Var.crGivH.ctorIdx ∧ x.ctorIdx ≠ Var.crGivD.ctorIdx

/-- The parts of the state beside fields, variables and what is sent that only their own commands change: not the comparator sets, whose
source may be gone at the end of any command (R242), nor the message queues (R323, R329, R330). -/
inductive Part where
  | fresh | bunch0 | bunch1 | cws | eqPips | finals | sb | loopBits | sloeFw | sloeTx | sq | reloads
  | events | capQ | capGaps | capRecs | trigbQ | busEvs | merge | ueLog | ceStreak | ueSeen | watch
  | ownReqs | brCur | brRes | brWait | i3cRes | portWait | undo | stnCur | stnQ
  | fuse | mrs | seedBuf | seedNew | secDig | attRep | retVars | retRegs
deriving DecidableEq, Repr

/-- A part is the same in two states. -/
def Part.same (p : Part) (d e : Dev) : Prop :=
  match p with
  | .fresh => e.fresh = d.fresh
  | .bunch0 => e.bunch0 = d.bunch0
  | .bunch1 => e.bunch1 = d.bunch1
  | .cws => e.cws = d.cws
  | .eqPips => e.eqPips = d.eqPips
  | .finals => e.finals = d.finals
  | .sb => e.sb = d.sb
  | .loopBits => e.loopBits = d.loopBits
  | .sloeFw => e.sloeFw = d.sloeFw
  | .sloeTx => e.sloeTx = d.sloeTx
  | .sq => e.sq = d.sq
  | .reloads => e.reloads = d.reloads
  | .events => e.events = d.events
  | .capQ => e.capQ = d.capQ
  | .capGaps => e.capGaps = d.capGaps
  | .capRecs => e.capRecs = d.capRecs
  | .trigbQ => e.trigbQ = d.trigbQ
  | .busEvs => e.busEvs = d.busEvs
  | .merge => e.merge = d.merge
  | .ueLog => e.ueLog = d.ueLog
  | .ceStreak => e.ceStreak = d.ceStreak
  | .ueSeen => e.ueSeen = d.ueSeen
  | .watch => e.watch = d.watch
  | .ownReqs => e.ownReqs = d.ownReqs
  | .brCur => e.brCur = d.brCur
  | .brRes => e.brRes = d.brRes
  | .brWait => e.brWait = d.brWait
  | .i3cRes => e.i3cRes = d.i3cRes
  | .portWait => e.portWait = d.portWait
  | .undo => e.undo = d.undo
  | .stnCur => e.stnCur = d.stnCur
  | .stnQ => e.stnQ = d.stnQ
  | .fuse => e.fuse = d.fuse
  | .mrs => e.mrs = d.mrs
  | .seedBuf => e.seedBuf = d.seedBuf
  | .seedNew => e.seedNew = d.seedNew
  | .secDig => e.secDig = d.secDig
  | .attRep => e.attRep = d.attRep
  | .retVars => e.retVars = d.retVars
  | .retRegs => e.retRegs = d.retRegs

/-- The fields named, each with its instance, as a set of keys. -/
def fieldsAt (fs : List (Fld × Nat)) (k : Key) : Prop := k ∈ fs.map (fun g => fkey g.1 g.2)

/-- The fields named, in every instance. -/
def fieldsIn (fs : List Fld) (k : Key) : Prop := k.1 ∈ fs.map (fun f => f.reg.ctorIdx * 32 + f.lo)

/-- Every field of the registers named, in every instance. -/
def regsIn (rs : List Reg) (k : Key) : Prop := k.1 / 32 ∈ rs.map Reg.ctorIdx

/-- Every field of the registers named, each in its instance. -/
def regsAt (rs : List (Reg × Nat)) (k : Key) : Prop := (k.1 / 32, k.2) ∈ rs.map (fun r => (r.1.ctorIdx, r.2))

/-- The variables named, each with its instance. -/
def varsAt (xs : List (Var × Nat)) (k : Key) : Prop := k ∈ xs.map (fun y => vkey y.1 y.2)

/-- The variables named, in every instance. -/
def varsIn (xs : List Var) (k : Key) : Prop := k.1 ∈ xs.map Var.ctorIdx

/-- One set of keys or another. -/
def orKey (a b : Key → Prop) (k : Key) : Prop := a k ∨ b k

/-- `e` is `d` but for fields whose key `r` allows, variables whose key `x` allows, the parts named, and what the end of a command may
change; what was sent stays sent. -/
structure Keeps (r x : Key → Prop) (ps : List Part) (d e : Dev) : Prop where
  regs : ∀ f n, calmField f → ¬r (fkey f n) → e.get f n = d.get f n
  vars : ∀ v n, calmVar v → ¬x (vkey v n) → e.v v n = d.v v n
  rest : ∀ p, p ∉ ps → p.same d e
  sent : d.out <+: e.out

/-- No key. -/
def noKey (_ : Key) : Prop := False

/-- What a command that touches no addressed memory leaves alone: all memory, the queue, and everything `Keeps` says. -/
def Frame (r x : Key → Prop) (ps : List Part) (s t : State) : Prop :=
  t.mem = s.mem ∧ t.pending = s.pending ∧ Keeps r x ps s.dev t.dev

/-- Every byte outside the `n` bytes from `lo` on reads as before. -/
def Elsewhere (lo n : Nat) (s t : State) : Prop := ∀ a, a < lo ∨ lo + n ≤ a → t.mem.read a = s.mem.read a

/-- Nothing changes but what the end of a command may change. -/
def Still (s t : State) : Prop := Frame noKey noKey [] s t

/-- The fields that follow in the same mclk when a condition of a lane or a port changes (R62, R66, R68, R150, R162, R171, R175). -/
def linkFields : List Fld :=
  [LL_CDR_STATUS_LOCKED, LL_CDR_STATUS_HOLDING, LL_CDR_STATUS_LOCK_LOST, LL_CDR_STATUS_RX_REF, LL_CDR_STATUS_TX_REF_VALID,
   LL_CDR_STATUS_TX_REF_HL, BN_LINK_STATUS_STATE, BN_LINK_STATUS_UP_LOST, BN_LINK_STATUS_ATTEMPTS, BN_LINK_CNT_UP_LOSS,
   BN_PORT_STATUS_TX_REF_LINE, BN_PORT_STATUS_RX_UP, BN_PORT_STATUS_TX_UP, BN_PORT_STATUS_RX_DOWN_EV, BN_PORT_STATUS_TX_DOWN_EV,
   HL_STATUS_TX_EIDLE, HL_STATUS_TX_READY, GBX_PSTATUS_RX_FILL, GBX_PSTATUS_TX_FILL, GBX_EVENTS_RX_FILL_EV, GBX_EVENTS_TX_FILL_EV,
   GBX_LL_CNT_CUTS]

/-- Their keys. -/
def linked (k : Key) : Prop := fieldsIn linkFields k

/-- The hidden variables that follow with them. -/
def linkVars : List Var :=
  [.cdrStable, .folEver, .folFreq, .lkStable, .lkTimer, .eqAcq, .fillRun, .frameOn, .portHold, .hlExit, .eqHoldPip]

/-- The requester's loop leaves its tap (R145): the next tap's step is asked for, or a new round begins if a step was `kept` and requests
are left, or the loop ends, with precoding asked for where wanted, and readiness is judged. -/
def loopGoesOn (d : Dev) (m : Nat) (kept : Bool) (e : Dev) : Prop :=
  let tap := d.v .hlTap m
  let more := kept && decide (d.get HL_TRAIN_STATUS_REQ_COUNT m < max 1 (d.get HL_TRAIN_CFG_MAX_REQ m))
  let want := d.get HL_TRAIN_CFG_PRECODE_REQ m == 1
    || decide (2 ≤ d.get HL_TRAIN_CFG_PRECODE_REQ m) && decide ((d.get HL_TRAIN_TH_PRE_TH m : Int) ≤ absI (d.v .hlH1 m))
  (tap < 3 → e.v .hlTap m = tap + 1 ∧ e.v .hlPhase m = 3
    ∧ Out.trainReq m (.step (loopTap (tap + 1)) (d.flag .hlDir (m * 4 + (tap + 1).toNat))) ∈ e.out)
  ∧ (3 ≤ tap → more = true → e.v .hlTap m = 0 ∧ e.v .hlKept m = 0 ∧ e.v .hlPhase m = 3
    ∧ Out.trainReq m (.step (loopTap 0) (d.flag .hlDir (m * 4))) ∈ e.out)
  ∧ (3 ≤ tap → more = false → e.v .hlPhase m = 7
    ∧ (want = true → Out.trainReq m (.precode true) ∈ e.out ∧ e.get HL_CTRL_RX_PRECODE m = 1)
    ∧ e.get HL_TRAIN_STATUS_STATE m = (if d.get HL_RX_SNR_SNR m < d.get HL_TRAIN_TH_RX_SNR_MIN m then 3
        else if d.on HL_TRAIN_STATUS_REMOTE_RDY m then 5 else 4))

/-- A Bramble port has left ACTIVE (R316, R330): the fall is counted, and nothing sent over the port waits for an answer any more. -/
def portLeft (d : Dev) (p : Nat) (e : Dev) : Prop :=
  e.get BRM_PSTATUS_LINK_DOWN_EV p = 1 ∧ e.get BRM_PCNT_DOWNS p = min (d.get BRM_PCNT_DOWNS p + 1) (2 ^ BRM_PCNT_DOWNS.w - 1)
  ∧ e.get BRM_PSTATUS_LANE_SET p = 0 ∧ (∀ r ∈ e.replay, r.1 ≠ p) ∧ (∀ r ∈ e.tracked, r.1 ≠ p)

/-- A lane of a Bramble port is out of marker lock (R314, R316): a port in ACTIVE that uses it, or in CAP_EXCH if it was locked,
is in TRAIN. -/
def lockLost (d : Dev) (p l : Nat) (e : Dev) : Prop :=
  let used := d.brmActive p && (d.get BRM_PSTATUS_LANE_SET p).testBit l
  e.get BRM_LSTATUS_MARKER_LOCK (2 * p + l) = 0 ∧ e.get BRM_LSTATUS_DESKEWED (2 * p + l) = 0
  ∧ e.get BRM_PSTATUS_STATE p = (if used || (d.get BRM_PSTATUS_STATE p == 3 && d.on BRM_LSTATUS_MARKER_LOCK (2 * p + l)) then 2
      else d.get BRM_PSTATUS_STATE p)
  ∧ (used = true → portLeft d p e)

/-- The fields that may change when Bramble port `p` changes its state: its own, and the fleet's when requests end with the link. -/
def portKeys (p : Nat) : Key → Prop :=
  orKey (regsAt [(.BRM_LSTATUS, 2 * p), (.BRM_LSTATUS, 2 * p + 1), (.BRM_PSTATUS, p), (.BRM_PCNT, p)])
    (regsIn [.BRM_FCNT, .BRM_FCNT2, .BRM_FSTATUS, .BRM_ROUTE, .PCI_STATUS, .PCI_CPL_LOG])

/-- What the link layer's receive side of port `p` does with a packet (R323): one in order is taken, the sixteenth unacknowledged one is
answered by ACK; a repeated one is answered by ACK; a bad one, or one after a gap, is counted and answered by NAK; a port that is not in ACTIVE
hears nothing. -/
def heard (d : Dev) (p seq : Nat) (good : Bool) (e : Dev) : Prop :=
  let ahead := ((seq : Int) - d.v .llRxSeq p) % 4096
  let block := fun (typ : Nat) (n : Int) => Out.linkBlock p (linkBytes typ 0 ((n - 1) % 4096).toNat 0) ∈ e.out
  if d.brmActive p = false then e.v .llRxSeq p = d.v .llRxSeq p ∧ e.v .llAcc p = d.v .llAcc p
  else if good = false ∨ (0 < ahead ∧ ahead < 2048) then
    e.get BRM_LLCNT_RX_ERR p = min (d.get BRM_LLCNT_RX_ERR p + 1) (2 ^ BRM_LLCNT_RX_ERR.w - 1) ∧ block 0x11 (d.v .llRxSeq p)
      ∧ e.v .llRxSeq p = d.v .llRxSeq p ∧ e.v .llAcc p = 0
  else if ahead = 0 then e.v .llRxSeq p = (d.v .llRxSeq p + 1) % 4096
    ∧ (if 15 ≤ d.v .llAcc p then block 0x10 ((d.v .llRxSeq p + 1) % 4096) ∧ e.v .llAcc p = 0 else e.v .llAcc p = d.v .llAcc p + 1)
  else block 0x10 (d.v .llRxSeq p) ∧ e.v .llRxSeq p = d.v .llRxSeq p ∧ e.v .llAcc p = 0

/-- The packet is one the link layer takes: in order and good, in ACTIVE (R323). -/
def taken (d : Dev) (p seq : Nat) (good : Bool) : Bool := d.brmActive p && good && (((seq : Int) - d.v .llRxSeq p) % 4096 == 0)

/-- A packet has left on port `q`, or waits to (R323 to R325). -/
def sends (e : Dev) (q : Nat) (k : Pkt) : Prop :=
  (e.txWait.any (fun x => x.port == q && x.pkt == k) || e.replay.any (fun r => r.1 == q && r.2.2 == k)) = true

/-- The credits of a packet that came in on port `p` have been granted again (R324). -/
def credited (d : Dev) (p : Nat) (k : Pkt) (e : Dev) : Prop :=
  Out.linkBlock p (linkBytes 0x12 (pktCls k) ((d.v .crGivH (3 * p + pktCls k) + 1) % 65536).toNat
    ((d.v .crGivD (3 * p + pktCls k) + (pktDataUnits k : Nat)) % 65536).toNat) ∈ e.out

/-- The packets kept, tracked and waiting are those of `x`, and what it sent was sent. -/
def queuesOf (x e : Dev) : Prop := e.replay = x.replay ∧ e.tracked = x.tracked ∧ e.txWait = x.txWait ∧ e.brmFifo = x.brmFifo ∧ x.out <+: e.out

/-- The device numbered `base` at a depth, whose children so far have sizes `s0` and `s1`, goes on enumerating over the ports `l` that are in ACTIVE
(R332): the first is offered the next number, or, at depth 6, none is, with DEPTH_EV; with none left, the size is shown, and told to the parent that
asked (`par`); the root sets ENUM_EV. -/
def enumGoes (d : Dev) (base depth s0 s1 : Nat) (l : List Nat) (par : Bool) (e : Dev) : Prop :=
  (match (if 6 ≤ depth then none else l.find? (fun q => d.brmActive q)) with
  | some q => e.get BRM_FSTATUS_ENUM_BUSY 0 = 1 ∧ e.v .enStep 0 = (q : Nat)
    ∧ (⟨2, q - 1, (base + 1 + (if q = 2 then s0 else 0)) % 64⟩ : OwnReq) ∈ e.ownReqs
  | none => e.get BRM_FSTATUS_ENUM_BUSY 0 = 0 ∧ e.v .enStep 0 = 0 ∧ e.get BRM_FSTATUS_FLEET 0 = (1 + s0 + s1) % 2 ^ BRM_FSTATUS_FLEET.w
    ∧ (d.on BRM_FCTRL_ROOT 0 = true → e.get BRM_FSTATUS_ENUM_EV 0 = 1)
    ∧ (d.on BRM_FCTRL_ROOT 0 = false → par = true → e.flag .enPar 0 = false ∧ sends e 0 (e.cpldFor e.enReq 0 [1 + s0 + s1])))
  ∧ (6 ≤ depth → l.any (fun q => d.brmActive q) = true → e.get BRM_FSTATUS_DEPTH_EV 0 = 1)

/-- An outstanding request of one of the device's own units, TAG `tag` to device `dev`, has been answered (R329, R332, R336): the endpoint passes the
completion on and logs a STATUS other than OK, the bridge holds it, an enumeration that awaits it takes the child's size and goes on. -/
def ownAnswered (d : Dev) (unit tag dev status : Nat) (data : List Nat) (e : Dev) : Prop :=
  (unit ≠ 2 → e.ownReqs = d.ownReqs.erase ⟨unit, tag, dev⟩)
  ∧ (unit = 0 → Out.pcieCpl tag (pcieKind status) data ∈ e.out
    ∧ (status ≠ 0 → e.get PCI_CPL_LOG_STATUS 0 = status % 2 ^ PCI_CPL_LOG_STATUS.w ∧ e.get PCI_CPL_LOG_DEV 0 = dev % 2 ^ PCI_CPL_LOG_DEV.w
      ∧ e.get PCI_CPL_LOG_TAG 0 = tag % 2 ^ PCI_CPL_LOG_TAG.w ∧ e.get PCI_STATUS_CPL_EV 0 = 1)
    ∧ e.get PCI_STATUS_TAGS 0 = min 1023 (e.ownReqs.filter (fun r => r.unit == 0)).length
    ∧ e.on PCI_STATUS_TAGS_FULL 0 = decide (1024 ≤ (e.ownReqs.filter (fun r => r.unit == 0)).length))
  ∧ (unit = 1 → e.brRes = some (status, data))
  ∧ (unit = 2 → d.v .enStep 0 = (tag + 1 : Nat) →
    let size := if status = 0 then data.headD 0 % 128 else 0
    (status = 1 → e.get BRM_FSTATUS_OVF_EV 0 = 1)
    ∧ (tag = 0 → e.get BRM_ROUTE_S0 0 = size % 2 ^ BRM_ROUTE_S0.w
      ∧ enumGoes d d.devNum (d.get BRM_FSTATUS_DEPTH 0) (size % 2 ^ BRM_ROUTE_S0.w) (d.get BRM_ROUTE_S1 0) [2] (d.flag .enPar 0) e)
    ∧ (tag ≠ 0 → e.get BRM_ROUTE_S1 0 = size % 2 ^ BRM_ROUTE_S1.w
      ∧ enumGoes d d.devNum (d.get BRM_FSTATUS_DEPTH 0) (d.get BRM_ROUTE_S0 0) (size % 2 ^ BRM_ROUTE_S1.w) [] (d.flag .enPar 0) e))

/-- A Bramble time message with time `x` of domain `j` has met domain `k` whose source is Bramble (R229): without two recent bus events of its own domain it is
discarded and counted; else the domain's servo is driven by the last event's stamp less that time. -/
def bramServed (d : Dev) (k j : Nat) (x : Int) (e : Dev) : Prop :=
  let th := d.v .busTime k - x
  let tau := (d.v .busTau k * 4 / 5).toNat
  if j ≠ k ∨ d.v .busTimeOn k < 2 ∨ 2500000000 < d.v .busAge k then
    e.get TIME_DSTAT_MISS k = min (d.get TIME_DSTAT_MISS k + 1) (2 ^ TIME_DSTAT_MISS.w - 1) ∧ e.v .tDom k = d.v .tDom k
      ∧ e.get TIME_RATE_F k = d.get TIME_RATE_F k
  else
    e.on TIME_DSTAT_BRM_UNCAL k = d.flag .busTimeUn k ∧ e.get TIME_DSTAT_HOLDOVER k = 0 ∧ e.get TIME_HOLD_T k = 0 ∧ e.get TIME_BOUND_NS k = 0
    ∧ e.v .tSince k = 0
    ∧ (d.stepTh k < absI th → e.v .tDom k = (d.v .tDom k - th * tUnit) % (tWrapAt * tUnit) ∧ e.get TIME_DSTAT_STEP_EV k = 1
      ∧ e.get TIME_DSTAT_VALID k = 1)
    ∧ (absI th ≤ d.stepTh k → e.v .tDom k = d.v .tDom k
      ∧ e.geti TIME_RATE_F k = satW 32 (d.geti TIME_RATE_F k - rdiv (th * 2 ^ 24) (max 1 tau * 2 ^ d.get TIME_DCFG_KI_SHIFT k))
      ∧ e.v .tSp k = -(rdiv (th * 2 ^ 24) (max 1 tau * 2 ^ d.get TIME_DCFG_KP_SHIFT k)) ∧ e.v .tSpLeft k = (tau * 5 / 4 : Nat))

/-- The registers of which a write does more than R8 says: it starts a command, or a field has rules of its own. -/
def writeActs : List Reg :=
  [.BN_LINK_CTRL, .BN_LINK_LOS, .BN_PORT_CTRL, .BN_RESET, .BOOT_CTRL, .BOOT_FAIL0, .BOOT_FAIL1, .BRM_FCTRL, .BRM_PCTRL, .CAP_CTRL,
    .DEC_CTRL, .DEC_LOCK, .ECC_MSPARE, .GBX_LL, .HL_CTRL, .HL_PAT, .HL_RESET, .HL_RX_CTLE, .HL_RX_TAP, .HL_TRAIN_CTRL, .HL_TX_COEF0,
    .HL_TX_COEF1, .HL_TX_CTRL, .IRQ_COMPLETE, .IRQ_SW_SET, .LL_ADC_CAL, .LL_ADC_CTRL, .LL_ADC_SLICE_TRIM, .LL_CDR_CTRL, .LL_CDR_PHASE,
    .LL_EQ_COEF, .LL_EQ_CTRL, .LL_EQ_QCTRL, .LL_RESET, .LL_TRG_CFG, .LL_TRG_CNT, .LL_TRG_N, .LL_TRG_TH, .LL_TX_CTRL, .LL_TX_SKEW,
    .MEM_ACC_LOG_HI, .MEM_BMAP, .MEM_FILL_CTRL, .MEM_REMAP, .PRF_CNT, .PRF_CTRL, .PRF_CYC_HI, .PRF_SNAP_BASE_HI, .PRF_SNAP_BASE_LO,
    .PRF_SNAP_CTRL, .PRF_SNAP_RP, .PRF_SNAP_SIZE, .PWR_CTRL, .SB_CTRL, .SB_FIR_COEF, .SB_FIR_CTRL, .SEC_ATT_CTRL, .SEC_CMD, .SEED_CTRL,
    .SLOE_GASP, .SLOE_LCFG, .SLOE_RX_STATUS, .SLOE_TR_CTRL, .SLOE_TX_CTRL, .SPI_OE_CTRL, .SPI_OE_PINS, .SPI_OE_STATUS, .SPI_OE_TXBUF,
    .STN_CMD, .THM_TH, .TIME_CMD, .TIME_CTRL, .TIME_DCFG, .TIME_MEAS_HI, .TIME_TPO_CTRL, .TIME_TPO_PERIOD, .TIME_TPO_START, .TOP_LOCK,
    .TOP_RESET, .TRG_ALIGN, .TRG_CAL, .TRG_SEND]

/-- The registers of which a read does more than clear fields (R8). -/
def readActs : List Reg :=
  [.DEC_CW_LO, .ECC_UE_INFO, .IRQ_CLAIM, .LL_ADC_SLICE_TRIM, .LL_EQ_COEF, .PRF_CNT, .PRF_CYC_LO, .PRF_OVF_PC_LO, .SB_FIR_COEF, .SEC_MR,
    .TIME_ACT_REM_LO, .TIME_OFS01_LO, .TIME_PPS_TS, .TIME_SQ, .TIME_T]

/-- What a whole write of `x` to its register leaves in a field, by its access type (R7, R8): an RW or RWS field takes its bits, an RWL field
unless it is locked, a W1C bit written 1 clears, other fields stay; reserved bits are not stored. -/
def written (d : Dev) (f : Fld) (n x : Nat) : Nat :=
  let v := x / 2 ^ f.lo % 2 ^ fldBits f n
  match f.acc with
  | .rw | .rws => v
  | .rwl => if d.rwlLocked f then d.get f n else v
  | .w1c => d.get f n - Nat.land (d.get f n) v
  | _ => d.get f n

/-- An access to an unmapped range or a block that is off has been refused (R290, R293): it is counted; the first since the event bits were clear is
recorded and sets the bit of its kind; a core takes an access fault. -/
def refusedAs (d : Dev) (init a : Nat) (write unmapped : Bool) (e : Dev) : Prop :=
  e.get TOP_ACCESS_CNT_COUNT 0 = min (d.get TOP_ACCESS_CNT_COUNT 0 + 1) (2 ^ TOP_ACCESS_CNT_COUNT.w - 1)
  ∧ (init < 4 → Out.coreFault init a write ∈ e.out)
  ∧ (if d.on TOP_ACCESS_INFO_OFF_EV 0 || d.on TOP_ACCESS_INFO_UNMAP_EV 0 then
      e.get TOP_ACCESS_ADDR_LO_ADDR 0 = d.get TOP_ACCESS_ADDR_LO_ADDR 0 ∧ e.get TOP_ACCESS_INFO_INIT 0 = d.get TOP_ACCESS_INFO_INIT 0
      ∧ e.on TOP_ACCESS_INFO_UNMAP_EV 0 = d.on TOP_ACCESS_INFO_UNMAP_EV 0 ∧ e.on TOP_ACCESS_INFO_OFF_EV 0 = d.on TOP_ACCESS_INFO_OFF_EV 0
    else e.get TOP_ACCESS_ADDR_LO_ADDR 0 = a % 2 ^ 32 ∧ e.get TOP_ACCESS_ADDR_HI_ADDR 0 = a / 2 ^ 32 % 256
      ∧ e.get TOP_ACCESS_INFO_INIT 0 = init % 16 ∧ e.on TOP_ACCESS_INFO_WRITE 0 = write
      ∧ e.on TOP_ACCESS_INFO_UNMAP_EV 0 = unmapped ∧ e.on TOP_ACCESS_INFO_OFF_EV 0 = !unmapped)

/-- The registers a refusal writes. -/
def refusalRegs : List Reg := [.TOP_ACCESS_ADDR_LO, .TOP_ACCESS_ADDR_HI, .TOP_ACCESS_INFO, .TOP_ACCESS_CNT]

/-- The bridge has taken a request that it does not carry out at the device itself, and has sent it on or refused it (R326, R328, R338 to R340): a refused write is counted
and ends OK, a refused read ends UR; what goes over Bramble leaves as the unit's packet, a read being then outstanding. -/
def bridgeSent (d : Dev) (r : BrReq) (e : Dev) : Prop :=
  let k := d.bridgePkt r
  let numbered := d.on BRM_FSTATUS_NUMBERED 0
  let refused := e.brRes = some (if r.write then 0 else 1, [])
    ∧ (r.write = true → e.get BRM_FCNT2_P_REFUSED 0 = min (d.get BRM_FCNT2_P_REFUSED 0 + 1) (2 ^ BRM_FCNT2_P_REFUSED.w - 1))
  e.brCur = some r ∧ e.get SPI_I3C_STATUS_BUSY 0 = 1
  ∧ (if pktBad k then refused
    else if pktBroadcast k then (if numbered then sends e 0 k ∧ e.brRes = some (0, []) else refused)
    else match (if numbered then d.route (fleetDev r.addr) else .none) with
      | .port q => sends e q k ∧ (if r.write then e.brRes = some (0, []) else e.brRes = none ∧ e.ownReqs = d.ownReqs ++ [⟨1, 0, fleetDev r.addr⟩])
      | _ => refused)

/-- A bridge request is for the device itself (R328, R340): of its own number, or 0 without one, or a broadcast at the root. -/
def bridgeHere (d : Dev) (r : BrReq) : Bool :=
  let k := d.bridgePkt r
  !(pktBad k) && (if pktBroadcast k then d.on BRM_FCTRL_ROOT 0
    else if d.on BRM_FSTATUS_NUMBERED 0 then fleetDev r.addr == d.devNum else fleetDev r.addr == 0)

/-- A load is running from phase 1: command `cmd`, its source, the address of the image, and the fields the command latched (R37, R38). -/
def seedOpen (d : Dev) (cmd src a : Nat) (warm hold : Bool) : Dev :=
  let d0 := ((d.set SEED_CTRL_SRC 0 src).put SEED_CTRL_WARM_EQ 0 warm).put SEED_CTRL_HOLD_LANES 0 hold
  ((((((d0.set SEED_STATUS_BUSY 0 1).set SEED_STATUS_PHASE 0 1).sv .seedCmd 0 (cmd : Nat)).sv .seedSrc 0 (src : Nat)).sv .seedAddr 0
    (a : Nat)).sflag .seedWarm 0 warm).sflag .seedHold 0 hold

/-- A load or check has ended (R37, R40): RESULT 1 ACCEPTED, 2 REFUSED, 3 ABANDONED, its code, DONE. -/
def seedOver (e : Dev) (result code : Nat) : Prop :=
  e.get SEED_STATUS_BUSY 0 = 0 ∧ e.get SEED_STATUS_PHASE 0 = 0 ∧ e.get SEED_STATUS_RESULT 0 = result ∧ e.get SEED_STATUS_ERR 0 = code % 256
  ∧ e.get SEED_STATUS_DONE 0 = 1 ∧ e.v .seedCmd 0 = 0 ∧ e.seedBuf = [] ∧ e.seedNew = []

/-- What a loader command `cmd` does in every state (R37 to R41): its fields are stored; while a load runs it is dropped with BUSY; SRC 3, or a range that is no
memory, is refused SOURCE; else phase 1 begins and the source is read: the header, and the whole image unless the header is refused. A source whose bytes
are plain memory is copied as it stands. -/
def seedTaken (s : State) (cmd src : Nat) (warm hold : Bool) (t : State) : Prop :=
  let d := s.dev
  let a := if src = 0 then d.get SEED_SRC_LO_ADDR_LO 0 * 8 + d.get SEED_SRC_HI_ADDR_HI 0 * 2 ^ 32 else seedSlotAddr (src - 1)
  let h := s.mem.readBytes a 64
  let len := clampN 64 524288 (field h 8 4)
  let err := if src = 0 ∧ s.seedMem a len = false then 0x13 else d.headerErr cmd h
  let n := if err = 0 then len else 64
  t.dev.get SEED_CTRL_SRC 0 = src ∧ t.dev.on SEED_CTRL_WARM_EQ 0 = warm ∧ t.dev.on SEED_CTRL_HOLD_LANES 0 = hold
  ∧ (if d.on SEED_STATUS_BUSY 0 then t.dev.get SEED_STATUS_ERR 0 = 0x11
    else if src = 3 ∨ src = 0 ∧ s.seedMem a 64 = false then seedOver t.dev 2 0x13
    else t = ({ s with dev := seedOpen d cmd src a warm hold } : State).seedCopy cmd src a
      ∧ (d.merge = [] → region a ≠ .lp → d.filling a = false → (∀ i < n, d.phys (a + i) = a + i) → t.dev.get SEED_STATUS_BUSY 0 = 1 ∧ t.dev.get SEED_STATUS_PHASE 0 = 1
        ∧ t.dev.v .seedCmd 0 = (cmd : Nat) ∧ t.dev.seedBuf = s.mem.readBytes a n ∧ t.dev.v .seedHdr 0 = (err : Nat)
        ∧ t.dev.flag .seedBad 0 = (unitsOf a n).any (fun u => s.mem.poison.contains u)))

/-- The first of the checks after the signature that the image fails, with ERR_ROW where the check names one (R37): STRUCTURE, an item, BUDGET. -/
def seedFault (d : Dev) (m : List Byte) (cmd : Nat) (d0 d1 : BunchDesc) : Option (Nat × Option Nat) :=
  let ds := (scopeBunches (field m 6 1)).map (fun b => (b, if b = 0 then d0 else d1))
  let e := itemErr (ds.map (·.2)) (d.portNums cmd (field m 6 1) [d0, d1])
  match structureErr m (scopeBunches (field m 6 1)) with
  | some row => some (7, some row)
  | none =>
    if e ≠ 0 then some (e, none)
    else (budgetErr 0 (allRows ds) (tableRows m (field m 0x10 4) (field m (field m 0x10 4) 4))).map (fun row => (0x10, some row))

/-- The image `m` has been measured into register 3 under the scope byte `who` (R361). -/
def seedMeasured (d : Dev) (m : List Byte) (who : Nat) (e : Dev) : Prop :=
  e.mrs = d.mrs.set 3 (shake256 (d.mrs.getD 3 [] ++ shake256 (imageBytes 2 m (field m 0x1C 4) ++ leBytes 1 who) 64) 64)
  ∧ e.get SEC_MR_CNT_COUNT 3 = min (d.get SEC_MR_CNT_COUNT 3 + 1) (2 ^ SEC_MR_CNT_COUNT.w - 1)

/-- The bunches `bs` have been quiesced (R42, R46, R147, R294): the generations of the bunch and its lanes step, its codewords and the bits its hosts
looped are gone, its line lanes have no codeword lock, no reload of it waits, the training of its host lanes is OFF, its transmitters are held; reads
outstanding to it have ended ABORTED. -/
def quiesced (d : Dev) (bs : List Nat) (ab0 ab1 : List AbRead) (e : Dev) : Prop :=
  let ab := bs.flatMap (fun b => if b = 0 then ab0 else ab1)
  (∀ b ∈ bs, e.genOf (1 + b) = (d.genOf (1 + b) + 1) % 256 ∧ e.v .reseedSq b = 1
    ∧ (∀ n ∈ linesOfBunch b, e.genOf (7 + n) = (d.genOf (7 + n) + 1) % 256 ∧ e.get DEC_STATUS_CW_LOCK n = 0 ∧ e.v .lkTileHold n = 0)
    ∧ (∀ m ∈ hostsOfBunch b, e.genOf (15 + m) = (d.genOf (15 + m) + 1) % 256 ∧ e.get HL_TRAIN_STATUS_STATE m = 0))
  ∧ (∀ c ∈ e.cws, c.lane / 4 ∉ bs) ∧ (∀ r ∈ e.reloads, r.bunch ∉ bs) ∧ (∀ x ∈ e.loopBits, x.host / 8 ∉ bs)
  ∧ e.get TOP_DISC_ABORT 0 = min (d.get TOP_DISC_ABORT 0 + ab.length) (2 ^ TOP_DISC_ABORT.w - 1)
  ∧ (∀ r ∈ ab, Out.readData r.init r.addr .aborted 0xDEAD_AB0D ∈ e.out ∧ (r.init.val < 4 → Out.coreFault r.init r.addr false ∈ e.out))

/-- The new descriptions of a load's bunches are in force (R43, R418): versions, slots, decoders and host lanes show them, line lanes whose mode changed or
that left their port have EN clear, and those whose coefficients are not kept have no snapshot. The other bunch keeps its description. -/
def applied (d : Dev) (cmd : Nat) (e : Dev) : Prop :=
  let old := fun (n : Nat) => (portOfLine (d.bunch (n / 4)) (n % 4)).map (·.mode)
  let keep := fun (n : Nat) =>
    let l0 := (d.bunch (n / 4)).lanes.getD (n % 4) LaneDesc.unused
    let l1 := e.lane n
    d.flag .seedWarm 0 && (old n).isSome && old n == e.mode n && decide (l0.taps - l0.quads = l1.taps - l1.quads ∧ l0.quads = l1.quads)
  (∀ b < 2, e.bunch b = if b ∈ cmdBunches cmd then d.seedNew.getD b BunchDesc.none else d.bunch b)
  ∧ (0 ∈ cmdBunches cmd → e.get SEED_VER_B0_VERSION 0 = field d.seedBuf 0x0C 4 % 2 ^ SEED_VER_B0_VERSION.w)
  ∧ (1 ∈ cmdBunches cmd → e.get SEED_VER_B1_VERSION 0 = field d.seedBuf 0x0C 4 % 2 ^ SEED_VER_B1_VERSION.w)
  ∧ (∀ b ∈ cmdBunches cmd,
    (∀ n ∈ linesOfBunch b, e.on BN_LINK_CTRL_EN n = (d.on BN_LINK_CTRL_EN n && old n == e.mode n)
      ∧ (keep n = false → e.get LL_EQ_STATUS_SNAP_VALID n = 0)
      ∧ (e.mode n ≠ some .l100 → e.get DEC_STATUS_SEED_D n = (e.lane n).dl % 8 ∧ e.get DEC_STATUS_SEED_MAXP n = (e.lane n).maxp % 8))
    ∧ (∀ sl ∈ slotsOfBunch b, e.on GBX_PSTATUS_VALID sl = (e.portAt sl).isSome)
    ∧ (∀ m ∈ hostsOfBunch b, e.on HL_STATUS_ENABLED m = (e.slotOfHost m).isSome))

/-- The Stone's controller has started entry `e`, having read its source as `s` holds it (R350). -/
def started (s : State) (e : StnEnt) (t : State) : Prop :=
  t.dev.stnCur = some ⟨e, (List.range 32).flatMap (fun i => s.mem.readBytes (s.dev.phys (e.src + 8 * i)) 8),
    (List.range 32).filter (fun i => s.mem.poison.contains (s.dev.phys (e.src + 8 * i)))⟩
  ∧ t.dev.get STN_STATUS_BUSY 0 = 1

/-- The fields of the bunches `bs` and their lanes, of the registers `rs`, and those that follow link conditions. -/
def bunchRegs (bs : List Nat) (rs : List Reg) : Key → Prop :=
  orKey (fun k => bs.any (fun b => regOfBunch b k) = true) (orKey (regsIn (rs ++ [.SLOE_TX_STATUS, .SLOE_TX_CNT, .SLOE_RX_STATUS, .SLOE_RX_CNT0,
    .SLOE_RX_CNT1, .SLOE_RX_CNT2, .SLOE_TR_STATUS, .SB_STATUS, .SB_LSTATUS, .SB_STAGES, .SB_SHIFT])) linked)

/-- The hidden variables of the bunches `bs` and their lanes, `xs`, and those that follow link conditions. -/
def bunchVars (bs : List Nat) (xs : List Var) : Key → Prop :=
  orKey (fun k => bs.any (fun b => varOfBunch b k) = true)
    (varsIn (xs ++ [.seedDiff, .slAck, .slTrig, .slFw, .slOpen, .slFrozen, .slGasp, .slReacq, .slCur] ++ linkVars))

/-- Boot step `i` has ended well at level `lvl`, which it keeps if `keep` (R343, R344): F is 0, a level above 0 sets ALT_EV, and the next step has started
at its own level, or stopped boot when its F is 3. -/
def stepEnded (d : Dev) (i lvl : Nat) (keep : Bool) (e : Dev) : Prop :=
  e.v .jFail i = 0 ∧ e.v .jLevel i = (if keep then (lvl : Int) else d.v .jLevel i) ∧ (0 < lvl → e.get BOOT_STATUS_ALT_EV 0 = 1)
  ∧ (if d.v .jFail (i + 1) = 3 then e.get BOOT_STATUS_STOPPED 0 = 1 ∧ e.get BOOT_STATUS_STOP_EV 0 = 1 ∧ e.v .faultN 0 = 1 ∧ e.v .bootNext 0 = (i : Nat)
    else e.get BOOT_STATUS_STEP 0 = i + 1 ∧ e.get RIND_REC_LAST_STEP 0 = i + 1 ∧ e.v .bootNext 0 = (i + 1 : Nat)
      ∧ e.get BOOT_STATUS_STOPPED 0 = d.get BOOT_STATUS_STOPPED 0
      ∧ e.v .bootLevel 0 = ((min (max (d.v .jFail (i + 1)) (d.v .jLevel (i + 1))).toNat (bootTop (i + 1)) : Nat) : Int))

/-- Boot step `i` has failed at its highest level (R344): F steps, FAILS counts, and the next attempt begins at B0. -/
def stepFailed (d : Dev) (i : Nat) (e : Dev) : Prop :=
  e.v .jFail i = ((min 3 ((d.v .jFail i).toNat + 1) : Nat) : Int) ∧ e.v .bootNext 0 = 0
  ∧ e.get RIND_REC_FAILS 0 = min (d.get RIND_REC_FAILS 0 + 1) (2 ^ RIND_REC_FAILS.w - 1)

/-- The registers any boot step writes. -/
def bootRegs : List Reg := [.BOOT_STATUS, .RIND_REC]

/-- The hidden variables any boot step writes. -/
def bootVars : List Var := [.jFail, .jLevel, .jSeq, .wear, .logPos, .bootNext, .bootLevel, .faultN]

/-- A word of a range of the Stone holds the poison pattern. -/
def stonePoison (m : Memory) (a n : Nat) : Bool := (unitsOf a n).any (fun u => m.poison.contains u)

/-- Why the firmware image that B4 reads at a level does not stand, none if it does (R343, R358, R359): its address and bytes are given. -/
def imageFault (s : State) (lvl : Nat) : Option Nat :=
  let a := stoneBase + (if (s.dev.v .cfgFlags 0 + (lvl : Nat)).toNat % 2 = 0 then 0x10_0000 else 0x110_0000)
  let len := clampN 0x40 0x40_0000 (field (s.mem.readBytes a 0x40) 8 4)
  let e := s.dev.imageErr true (s.mem.readBytes a len) 0x40_0000
  if stonePoison s.mem a 0x40 then some bootPOISON
  else if e = 1 ∨ e = 2 ∨ e = 3 then some (bootImageCode e)
  else if stonePoison s.mem a len then some bootPOISON
  else if e ≠ 0 then some (bootImageCode e) else none

/-- B4 has installed the image of a level (R343, R361): measured, its bytes before the signature in management SRAM. -/
def imageTaken (s : State) (lvl : Nat) (t : State) : Prop :=
  let slot := (s.dev.v .cfgFlags 0 + (lvl : Nat)).toNat % 2
  let a := stoneBase + (if slot = 0 then 0x10_0000 else 0x110_0000)
  let m := s.mem.readBytes a (clampN 0x40 0x40_0000 (field (s.mem.readBytes a 0x40) 8 4))
  let sig := field m 0x14 4
  t.dev.mrs = s.dev.mrs.set 1 (shake256 (s.dev.mrs.getD 1 [] ++ shake256 (imageBytes 1 m sig) 64) 64) ∧ t.dev.on BOOT_STATUS_FW_B 0 = (slot == 1)
  ∧ t.dev.v .fwEntry 0 = (field m 0x10 4 : Nat) ∧ t.dev.v .fwSvn 0 = (field m 6 1 : Nat) ∧ t.dev.v .jFwLast 0 = (slot : Nat)
  ∧ (s.dev.on MEM_STATUS_ZFILL 0 = false → (∀ i < 0x8_0000, s.dev.phys (sramBase + 8 * i) = sramBase + 8 * i) →
    t.mem.readBytes sramBase (m.take sig).length = m.take sig)

/-- The trims of slice `k` of line lane `n` after B6 at a level (R57, R343, R375): `f` the factory trims, kept as the factory copy; the trims in use
are these with the lane's corrections `c` added, or after a wake the retained ones. -/
def sliceSet (d : Dev) (lvl n k : Nat) (f c : Int × Int × Int) (e : Dev) : Prop :=
  e.v .facOfs (sliceIx n k) = clampI (-128) 127 f.1 ∧ e.v .facGain (sliceIx n k) = clampI (-128) 127 f.2.1
  ∧ e.v .facSkew (sliceIx n k) = clampI (-200) 200 f.2.2
  ∧ (if decide (lvl = 0 ∧ d.get RIND_REC_CAUSE 0 = causeWAKE) && d.retHas n then
      e.v .sliceOfs (sliceIx n k) = (d.retTrims n).v .sliceOfs (sliceIx n k) ∧ e.v .sliceGain (sliceIx n k) = (d.retTrims n).v .sliceGain (sliceIx n k)
        ∧ e.v .sliceSkew (sliceIx n k) = (d.retTrims n).v .sliceSkew (sliceIx n k)
    else e.v .sliceOfs (sliceIx n k) = clampI (-128) 127 (f.1 + c.1) ∧ e.v .sliceGain (sliceIx n k) = clampI (-128) 127 (f.2.1 + c.2.1)
      ∧ e.v .sliceSkew (sliceIx n k) = clampI (-200) 200 (f.2.2 + c.2.2))

/-- B6 has given every slice its trims; at level 1 the lanes need a foreground calibration (R343). -/
def slicesSet (d : Dev) (lvl : Nat) (fac : List (Int × Int × Int)) (cal : List (Option (List (Int × Int × Int)))) (e : Dev) : Prop :=
  (∀ n < 8, ∀ k < 96, sliceSet d lvl n k (fac.getD (96 * n + k) (0, 0, 0))
    (if lvl = 0 then ((cal.getD n none).map (fun l => l.getD k (0, 0, 0))).getD (0, 0, 0) else (0, 0, 0)) e)
  ∧ (∀ n < 8, e.get LL_ADC_CTRL_ACC_SHIFT n = 4 ∧ e.get LL_ADC_CTRL_SKEW_SHIFT n = 4 ∧ e.v .fgWant n = (if lvl = 0 then d.v .fgWant n else 1))
  ∧ (0 < lvl → e.get BOOT_STATUS_FG_PENDING 0 = 1)

/-- A life-cycle transition of command `cmd` has begun (R252, R366): LC_STATE and the command's keys are programmed, captures have ended, the Stone's
queue is abandoned, transmitters idle, the cores are held, the zero-fill and the wipe run, nothing is merged or retained. -/
def transits (d : Dev) (cmd : Nat) (key : List Byte) (e : Dev) : Prop :=
  e.fuse = { d.fuse with
    lc := lcTarget cmd,
    uds := if cmd = 1 then some ((List.range 32).map (fun i => BitVec.ofNat 8 (Config.freeValue (d.fresh + i)))) else d.fuse.uds,
    owner0 := if cmd = 2 then some (shake256 key 32) else d.fuse.owner0 }
  ∧ e.v .lcCmd 0 = (cmd : Nat) ∧ e.get MEM_STATUS_ZFILL 0 = 1 ∧ e.on MEM_STATUS_WIPE 0 = (d.get MEM_STATUS_TRAINED 0 != 0)
  ∧ (∀ c < 4, e.v .coreHeld c = 1) ∧ (∀ m < 16, e.get HL_STATUS_TX_EIDLE m = 1 ∧ e.get HL_STATUS_TX_READY m = 0)
  ∧ e.stnCur = none ∧ e.stnQ = [] ∧ e.merge = [] ∧ e.retVars = [] ∧ e.retRegs = [] ∧ e.get RIND_PWR_RET_VALID 0 = 0
  ∧ (d.capOn = true → e.capOn = false ∧ e.get CAP_STATUS_END_REASON 0 = 6)

/-- A request for power state `n` has been answered (R370, R372, R373): SLEEP_EN is stored; outside SLEEP the conditions of R372 decide, in SLEEP the
datapath is off already; a request that begins no entry sets GO_REJ. -/
def goAsked (d : Dev) (n : Nat) (en quiet : Bool) (e : Dev) : Prop :=
  e.on PWR_CTRL_SLEEP_EN 0 = en
  ∧ (if d.entryFree && (if d.v .pwrState 0 == 1 then n != 1 else d.sleepOk quiet) then
      e.get PWR_STATUS_ENTERING 0 = 1 ∧ e.v .pwrTarget 0 = (n : Nat) ∧ e.v .pwrFrom 0 = (d.get PWR_STATUS_STATE 0 : Nat)
        ∧ e.get PWR_STATUS_GO_REJ 0 = d.get PWR_STATUS_GO_REJ 0
    else e.get PWR_STATUS_GO_REJ 0 = 1 ∧ e.v .pwrTarget 0 = d.v .pwrTarget 0 ∧ e.v .pwrFrom 0 = d.v .pwrFrom 0
      ∧ e.get PWR_STATUS_ENTERING 0 = d.get PWR_STATUS_ENTERING 0)

/-- A wake of source `src` has begun (R377 to R379): from SLEEP with step 3 and a wake beacon on every enabled port, otherwise with step 0. -/
def wakeBegun (d : Dev) (src : Nat) (e : Dev) : Prop :=
  e.get RIND_PWR_LAST_SRC 0 = src ∧ e.get RIND_PWR_FAULT 0 = 0 ∧ e.v .faultN 0 = 0 ∧ e.v .wakeHeld 0 = 0 ∧ e.v .wakeRetry 0 = 0
  ∧ (if d.v .pwrState 0 = 1 then e.get PWR_STATUS_WAKE_SRC 0 = src ∧ e.v .wakeStep 0 = 4 ∧ e.flag .wakeAlt 0 = (d.get RIND_REC_WAKE_FAIL 0).testBit 3
      ∧ ∀ p < 3, d.on BRM_PCTRL_EN p = true → Out.beacon p true ∈ e.out
    else e.v .wakeStep 0 = 1 ∧ e.flag .wakeAlt 0 = (d.get RIND_REC_WAKE_FAIL 0).testBit 0)

/-- The device wakes for `src` in the power state it is in: from SLEEP for any source, from DEEP and OFF for the WAKE ball and the timer (R377). -/
def canWake (d : Dev) (src : Nat) : Bool :=
  d.v .pwrTarget 0 == 0 && d.v .wakeStep 0 == 0
    && (d.v .pwrState 0 == 1 || (d.v .pwrState 0 == 2 || d.v .pwrState 0 == 3 || d.v .pwrState 0 == 5) && (src == 1 || src == 2))

/-- What an enabled wake source does (R374, R377): it aborts an entry, of which `k` steps were done, wakes the device, or, from DEEP and OFF without VDD,
waits for it. -/
def wakeHeard (d : Dev) (src k : Nat) (e : Dev) : Prop :=
  if d.v .pwrTarget 0 ≠ 0 then
    e.get PWR_STATUS_ENTERING 0 = 0 ∧ e.v .pwrTarget 0 = 0 ∧ e.get PWR_STATUS_STATE 0 = (d.v .pwrFrom 0).toNat % 2 ^ PWR_STATUS_STATE.w
    ∧ e.get PWR_STATUS_ABORT_EV 0 = 1 ∧ e.get PWR_CNT_ABORTS 0 = min (d.get PWR_CNT_ABORTS 0 + 1) (2 ^ PWR_CNT_ABORTS.w - 1)
    ∧ (d.v .pwrFrom 0 ≠ 2 → k < 5 → e.get RIND_PWR_RET_VALID 0 = 0 ∧ e.retVars = [] ∧ e.retRegs = [])
    ∧ (d.v .pwrFrom 0 ≠ 2 → 5 ≤ k → e.get RIND_PWR_RET_VALID 0 = 1 ∧ (∀ b < 2, e.v .bnReload b = 2 ∧ e.v .offBunch b = 0) ∧ e.v .offClk 0 = 0)
  else if canWake d src then
    if decide (d.v .pwrState 0 = 1) || d.on RIND_PWR_VDD_GOOD 0 then wakeBegun d src e else e.v .wakeHeld 0 = (src : Nat)
  else e.v .wakeStep 0 = d.v .wakeStep 0 ∧ e.v .wakeHeld 0 = d.v .wakeHeld 0

/-- The datapath is off (R369, R373): both bunches, the clocking and shared datapath domain; LPDDR6 refreshes itself and mclk is the wake oscillator. -/
def pathOff (e : Dev) : Prop :=
  (∀ b < 2, e.flag .offBunch b = true) ∧ e.flag .offClk 0 = true ∧ e.flag .lpSelf 0 = true ∧ e.get PWR_STATUS_PLL_CLK 0 = 0 ∧ e.capOn = false
  ∧ e.cws = [] ∧ e.sb = [] ∧ e.sloeFw = [] ∧ e.capQ = [] ∧ e.trigbQ = [] ∧ e.busEvs = []

/-- What a sample of readings `r` shows (R386, R387, R389): every reading, which sensors are excluded, and the greatest contribution of those that give one,
half a code rounded either way and any of several sensors named (free values, assumption 35), and the levels that follow. -/
def sampled (d : Dev) (r : List Int) (e : Dev) : Prop :=
  let tests := (List.range 12).map (fun i => d.tsTest r i)
  let gives := (List.range 12).filterMap (fun i => (e.tsGives r i (tests.getD i ⟨none, false, false, false⟩)).map (fun v => (i, v)))
  let m := match gives with | [] => medianAll r | (_, v) :: l => l.foldl (fun a x => max a x.2) v
  (∀ i < 12,
    let t := d.tsTest r i
    let bad := t.range || t.stuck
    let good := if bad || t.cross then 0 else d.v .tsGood i + 1
    let xf := if t.cross then d.v .tsXf i + 1 else 0
    e.geti THM_TS_READING i = sext THM_TS_READING.w (twos THM_TS_READING.w (r.getD i 0))
    ∧ (e.get THM_EXCL_EXCL 0).testBit i = (if (d.get THM_EXCL_EXCL 0).testBit i then decide (good < 64) else bad || decide (3 ≤ xf))
    ∧ (e.get THM_EXCL_SUSPECT 0).testBit i = (!((d.get THM_EXCL_EXCL 0).testBit i) && t.cross && !bad && decide (xf < 3)))
  ∧ e.on THM_STATUS_NONE_TRUSTED 0 = gives.isEmpty
  ∧ (e.geti THM_MAX_TEMP 0 = sext THM_MAX_TEMP.w (twos THM_MAX_TEMP.w (m / 2))
    ∨ m % 2 ≠ 0 ∧ e.geti THM_MAX_TEMP 0 = sext THM_MAX_TEMP.w (twos THM_MAX_TEMP.w (m / 2 + 1)))
  ∧ (if gives = [] then e.get THM_MAX_SRC 0 = 15 else gives.any (fun x => x.1 == e.get THM_MAX_SRC 0 && x.2 == m) = true)
  ∧ (∀ i < 3, e.flag .thmLvl i = (if e.thmTh i ≤ e.thmMax then true else if e.thmMax < e.thmTh i - e.thmHyst then false else d.flag .thmLvl i))
  ∧ (e.thmTh 0 ≤ e.thmMax → d.flag .thmLvl 0 = false → e.get THM_STATUS_WARN_EV 0 = 1)
  ∧ (e.thmTh 1 ≤ e.thmMax → d.flag .thmLvl 1 = false → e.get THM_STATUS_THROT_EV 0 = 1
    ∧ e.get THM_CNT_THROTTLES 0 = min (d.get THM_CNT_THROTTLES 0 + 1) (2 ^ THM_CNT_THROTTLES.w - 1))
  ∧ e.get SEED_PROF_ACTIVE 0 = max (if e.flag .thmLvl 1 && !(d.flag .thmLvl 1) then max (d.get SEED_PROF_ACTIVE 0) 1 else d.get SEED_PROF_ACTIVE 0) e.thmFloor % 4

/-- The orderly stop has begun or been passed (R391): the Stone's queue is abandoned, captures and a load have ended, host transmitters idle, and every lane gasps
or is squelched. -/
def stopBegun (d e : Dev) : Prop :=
  e.get THM_STATUS_STOP_EV 0 = 1 ∧ e.get THM_CNT_STOPS 0 = min (d.get THM_CNT_STOPS 0 + 1) (2 ^ THM_CNT_STOPS.w - 1) ∧ e.stnCur = none ∧ e.stnQ = []
  ∧ (d.on SEED_STATUS_BUSY 0 = true → d.get SEED_STATUS_PHASE 0 ≤ 4 → e.get SEED_STATUS_BUSY 0 = 0 ∧ e.get SEED_STATUS_RESULT 0 = 3)
  ∧ e.thermN = true

/-- The stop has completed (R392): the datapath is off, the cores are held, mclk is the wake oscillator. -/
def stopDone (e : Dev) : Prop :=
  e.v .thmSt 0 = 3 ∧ e.get THM_STATUS_STOPPING 0 = 0 ∧ e.get THM_STATUS_LEVEL 0 = 3 ∧ e.v .thmCool 0 = 0 ∧ (∀ c < 4, e.v .coreHeld c = 1) ∧ pathOff e

/-- The command ends in a next state of which `P` holds. -/
def Completes (c : Instr) (s : State) (P : State → Prop) : Prop := ∃ t, exec c s = .next t ∧ P t

end Machine

end Sys2Proof
end

