-- ==== Sys2Proof/Certificates/Slice0/Obligations.lean ====
section
/-! DEFINITION. The statements for the provers: the whole machine first, then the commands family by family in the order of the spec's
chapters. Each says what its commands do in every state that meets its hypotheses, and what they leave alone. -/

open Sys2Proof Sys2Proof.Machine

/-- Each step takes the command at the front of the queue and is exec of that command on the state with the queue's rest. The queue and the step
are the model's own form (assumption 1). -/
def Obligations.StepRunsFront : Prop :=
  ∀ (c : Instr) (rest : List Instr) (s : State), s.pending = c :: rest → step s = exec c { s with pending := rest }

/-- Exec of every command answers a next state in every state, and leaves the queue of the commands that wait as it is; so every step answers a
next state. No command is refused and none faults: where the spec turns a command away, that is a next state. (Rests on R8.) -/
def Obligations.EveryCommandCompletes : Prop :=
  (∀ (c : Instr) (s : State), ∃ t, exec c s = .next t ∧ t.pending = s.pending) ∧ ∀ s : State, Runs s

/-- Every step keeps the memories in canonical form (no listed byte equal to what an unlisted one reads as, addresses rising) and the waiting
commands well-formed, from every state that has them so. (Rests on R262, R264, R276.) -/
def Obligations.SoundKept : Prop := ∀ (s t : State), Sound s → step s = .next t → Sound t

/-- A fuse, once programmed, is never cleared: no command takes the life-cycle state or the security version back, makes a revoked owner key
usable again, or changes the vendor key or the serial number. (Rests on R355, R366.) -/
def Obligations.FusesOneWay : Prop :=
  ∀ (c : Instr) (s t : State), exec c s = .next t →
    s.dev.fuse.lc ≤ t.dev.fuse.lc ∧ s.dev.fuse.svn ≤ t.dev.fuse.svn ∧ (s.dev.fuse.rev0 = true → t.dev.fuse.rev0 = true) ∧ (s.dev.fuse.rev1 = true → t.dev.fuse.rev1 = true)
      ∧ t.dev.fuse.vendor = s.dev.fuse.vendor ∧ t.dev.fuse.serial = s.dev.fuse.serial

/-- Right after reset the fields named hold the values their register tables give, no granule is marked, no codeword, packet or capture record
is held, no Stone entry waits, no command waits, and the memories are in canonical form; that nothing is held or waiting where the tables
give no field for it is the model's choice (assumption 10). (Rests on R11.) -/
def Obligations.ResetState : Prop :=
  (∀ x ∈ ([(TOP_ID_PART, 0, 0x3208), (TOP_ID_SREV, 0, 0x10), (TOP_GEN_GEN, 0, 0), (LL_CDR_CTRL_KP_SHIFT, 0, 6), (LL_CDR_CTRL_KI_SHIFT, 7, 14), (LL_ADC_CTRL_AFE_GAIN, 3, 4), (SPI_OE_CTRL_DIV, 0, 59), (LL_EQ_MU_MU_TRK, 1, 12),
        (DEC_LOCK_LOCK_MIN, 2, 8), (HL_TRAIN_CFG_MAX_REQ, 9, 64), (HL_TRAIN_CFG_TSEED, 13, 5), (BN_LINK_CTRL_RETRY_MAX, 4, 6), (BN_LINK_TMR_T_EQ, 0, 100), (SB_PWR_DBFS, 0, 0xF830), (SLOE_LCFG_SYNC, 5, 0x35),
        (SLOE_RX_MAXLEN, 0, 255), (TIME_CTRL_SLEW, 0, 10), (TIME_TPO_PERIOD_NS, 2, 0x3B9A_CA00), (CAP_STATUS_STATE, 0, 0), (ECC_CTRL_CE_TH, 0, 16), (PRF_SNAP_CTRL_N, 0, 0x400), (BRM_PCTRL_T_TRAIN, 1, 10),
        (BRM_CTO_US, 0, 100), (BOOT_VEC_LO_ADDR, 0, 0x6000_0000), (SEC_CMD_MR, 0, 5), (PWR_SLEEP_T_MS, 0, 100), (PWR_STATUS_STATE, 0, 0), (THM_TH_SHUT, 0, 0x78), (THM_CTRL_AUTO_RESTART, 0, 1)] : List (Fld × Nat × Nat)),
      State.reset.dev.get x.1 x.2.1 = x.2.2)
  ∧ State.reset.pending = [] ∧ State.reset.mem.marked = [] ∧ State.reset.dev.cws = [] ∧ State.reset.dev.txWait = [] ∧ State.reset.dev.capRecs = []
  ∧ State.reset.dev.stnQ = [] ∧ Sound State.reset

/-- With no command waiting a step is one tclk, the model's own choice (assumption 2). While tclk runs each domain advances by 0.8 ns scaled by
1 + F + S_p and wraps in its last second with WRAP_EV; the active timescale takes its domain's value when it does not slew, or when at most
0.8 ns is left, which ends the slew with SWITCH_EV, and else moves at a rate that differs by SLEW ppm, 0 as 1, toward it; each clock
follower's frequency slews to its reference's; a monitor that is not off or frozen adds its cycles; host pattern generators and Bramble
transmitters go on. While tclk is off nothing changes. (Rests on R68, R148, R224, R226, R231, R302, R307 to R310.) -/
def Obligations.IdleStep : Prop :=
  (∀ (s : State), s.pending = [] → s.dev.flag .offClk 0 = false → ∃ t, step s = .next t
      ∧ (∀ k < 2, t.dev.v .tDom k = (s.dev.v .tDom k + 4096000000 * (2 ^ 40 + s.dev.rateAdj k)) % (tWrapAt * tUnit)
          ∧ (tWrapAt * tUnit ≤ s.dev.v .tDom k + 4096000000 * (2 ^ 40 + s.dev.rateAdj k) → t.dev.get TIME_STATUS_WRAP_EV 0 = 1))
      ∧ (s.dev.on TIME_STATUS_SLEWING 0 = false ∨ absI s.dev.actRem ≤ tTick → t.dev.v .tAct 0 = t.dev.v .tDom (s.dev.get TIME_CTRL_ACTIVE 0) ∧ t.dev.get TIME_STATUS_SLEWING 0 = 0)
      ∧ (s.dev.on TIME_STATUS_SLEWING 0 = true → absI s.dev.actRem ≤ tTick → t.dev.get TIME_STATUS_SWITCH_EV 0 = 1)
      ∧ (s.dev.on TIME_STATUS_SLEWING 0 = true → tTick < absI s.dev.actRem → t.dev.on TIME_STATUS_SLEWING 0 = true
          ∧ t.dev.v .tAct 0 = (s.dev.v .tAct 0 + 4096000000 * (2 ^ 40 + s.dev.rateAdj (s.dev.get TIME_CTRL_ACTIVE 0))
            + (if 0 < s.dev.actRem then 1 else -1) * ((2 ^ 52 * max 1 (s.dev.get TIME_CTRL_SLEW 0) : Nat) : Int)) % (tWrapAt * tUnit))
      ∧ (∀ k < 16, t.dev.v .folNow k = s.dev.v .folNow k + clampI (-8) 8 (s.dev.v .folFreq k - s.dev.v .folNow k))
      ∧ (∀ c < 4, s.dev.on PRF_CTRL_FREEZE 0 = false → s.dev.prfOff c = false → t.dev.v .prfFrac c = ((((s.dev.v .prfFrac c).toNat + 360000000000000) % 300000000000000 : Nat) : Int)
          ∧ t.dev.get PRF_CYC_LO_COUNT c = (s.dev.get PRF_CYC_LO_COUNT c + ((s.dev.v .prfFrac c).toNat + 360000000000000) / 300000000000000) % 2 ^ 32)
      ∧ Frame (regsIn [.TIME_STATUS, .TIME_HOLD, .TIME_BOUND, .PRF_CYC_LO, .PRF_CYC_HI, .PRF_CNT, .PRF_OVF])
          (varsIn [.tDom, .tSince, .busAge, .tSp, .tSpLeft, .tHold, .tAct, .folNow, .prfFrac, .hlHist, .hlPreTx, .hlPreRx, .hlPatPos, .hlPrbs, .brmUi, .brmSlot, .brmMark, .brmPrbs, .brmScr, .brmRun, .brmLast, .brmDebt, .brmWin]) [.loopBits] s t)
  ∧ ∀ (s : State), s.pending = [] → s.dev.flag .offClk 0 = true → step s = .next s

/-- A Cleril-144 codeword is its 128 payload bits and 16 parity bits, with zero syndrome, and algebraic decoding gives it back from any word
that differs from it in at most two bits; a block of codewords is sent bit t from codeword t mod δ, its bit t div δ. (Rests on R108, R109,
R111, R118.) -/
def Obligations.InnerCode : Prop :=
  (∀ msg : List Bool, msg.length = 128 → (bchEncode msg).length = 144 ∧ (bchEncode msg).take 128 = msg ∧ zeroSyndrome true (bchEncode msg) = true)
  ∧ (∀ (msg : List Bool) (i j : Nat), msg.length = 128 → i < 144 → j < 144 →
      codeDecode true (bchEncode msg) = some (bchEncode msg) ∧ codeDecode true (flipBit (bchEncode msg) i) = some (bchEncode msg)
      ∧ codeDecode true (flipBit (flipBit (bchEncode msg) i) j) = some (bchEncode msg))
  ∧ ∀ (n t : Nat) (block : List (List Bool)), t < block.length * n → (interleave n block).length = block.length * n
      ∧ (interleave n block).getD t false = (block.getD (t % block.length) []).getD (t / block.length) false

/-- OFFSET_LOOP_STEP, GAIN_LOOP_STEP and SKEW_LOOP_STEP of a slice whose accumulation is complete and whose loop runs take the step: the offset
trim moves by the sign the sum gave (0 within 1/16 LSB) and stays in -128 to 127; the gain trim moves by one toward the mean of the slices'
statistics unless it lies within 0.025 % of it; the skew trim moves by the sign of its sum within -200 to 200; when a gain or skew step is
the last of its round of 96, the rounded mean of the 96 trims is taken from each. With a complete accumulation and a loop that does not run
the step is dropped; with none complete nothing changes. (Rests on R54, R55.) -/
def Obligations.CalibrationSteps : Prop :=
  (∀ (s : State) (n : Fin 8) (slice : Fin 96), s.dev.flag .ofsDone (n * 96 + slice) = true → s.dev.on LL_ADC_STATUS_READY n = true →
    s.dev.on LL_ADC_CTRL_OFS_EN n = true → Completes (.offsetLoopStep n slice) s fun t =>
      t.dev.v .sliceOfs (n * 96 + slice) = max (-128) (min 127 (s.dev.v .sliceOfs (n * 96 + slice) - s.dev.v .ofsRes (n * 96 + slice)))
      ∧ t.dev.v .ofsDone (n * 96 + slice) = 0
      ∧ Frame noKey (varsAt [(.sliceOfs, n * 96 + slice), (.ofsDone, n * 96 + slice)]) [] s t)
  ∧ (∀ (s : State) (n : Fin 8) (slice : Fin 96), s.dev.flag .ofsDone (n * 96 + slice) = true →
    (s.dev.on LL_ADC_STATUS_READY n && s.dev.on LL_ADC_CTRL_OFS_EN n) = false → Completes (.offsetLoopStep n slice) s fun t =>
      t.dev.v .ofsDone (n * 96 + slice) = 0 ∧ Frame noKey (varsAt [(.ofsDone, n * 96 + slice)]) [] s t)
  ∧ (∀ (s : State) (n : Fin 8) (slice : Fin 96), s.dev.flag .ofsDone (n * 96 + slice) = false → Completes (.offsetLoopStep n slice) s fun t =>
      Still s t)
  ∧ (∀ (s : State) (n : Fin 8) (slice : Fin 96) (x : Int), s.dev.flag .gainDone (n * 96 + slice) = true → s.dev.on LL_ADC_STATUS_READY n = true →
    s.dev.on LL_ADC_CTRL_GAIN_EN n = true → (∃ k < 96, k ≠ slice.val ∧ s.dev.flag .visGain (n * 96 + k) = false) →
    x = (s.dev.gainStats n).length * s.dev.v .gainRes (n * 96 + slice) - (s.dev.gainStats n).sum → Completes (.gainLoopStep n slice) s fun t =>
      t.dev.v .sliceGain (n * 96 + slice) = (if 4000 * absI x ≤ (s.dev.gainStats n).sum then max (-128) (min 127 (s.dev.v .sliceGain (n * 96 + slice)))
        else if 0 < x then max (-128) (min 127 (s.dev.v .sliceGain (n * 96 + slice) - 1))
        else max (-128) (min 127 (s.dev.v .sliceGain (n * 96 + slice) + 1)))
      ∧ t.dev.v .visGain (n * 96 + slice) = 1 ∧ t.dev.v .gainDone (n * 96 + slice) = 0
      ∧ Frame noKey (varsAt [(.sliceGain, n * 96 + slice), (.visGain, n * 96 + slice), (.gainDone, n * 96 + slice)]) [] s t)
  ∧ (∀ (s : State) (n : Fin 8) (slice : Fin 96) (m g : Int), s.dev.flag .gainDone (n * 96 + slice) = true → s.dev.on LL_ADC_STATUS_READY n = true →
    s.dev.on LL_ADC_CTRL_GAIN_EN n = true → (∀ k < 96, k ≠ slice.val → s.dev.flag .visGain (n * 96 + k) = true) →
    g = max (-128) (min 127 (s.dev.v .sliceGain (n * 96 + slice) - gainDir (s.dev.v .gainRes (n * 96 + slice)) (s.dev.gainStats n))) →
    m = rdiv (((List.range 96).map (fun k => if k = slice.val then g else s.dev.v .sliceGain (n * 96 + k))).sum) 96 →
    Completes (.gainLoopStep n slice) s fun t =>
      (∀ k < 96, t.dev.v .sliceGain (n * 96 + k) = max (-128) (min 127 ((if k = slice.val then g else s.dev.v .sliceGain (n * 96 + k)) - m))
        ∧ t.dev.v .visGain (n * 96 + k) = 0)
      ∧ t.dev.v .gainDone (n * 96 + slice) = 0 ∧ Frame noKey (varsIn [.sliceGain, .visGain, .gainDone]) [] s t)
  ∧ (∀ (s : State) (n : Fin 8) (slice : Fin 96), s.dev.flag .gainDone (n * 96 + slice) = true →
    (s.dev.on LL_ADC_STATUS_READY n && s.dev.on LL_ADC_CTRL_GAIN_EN n) = false → Completes (.gainLoopStep n slice) s fun t =>
      t.dev.v .gainDone (n * 96 + slice) = 0 ∧ Frame noKey (varsAt [(.gainDone, n * 96 + slice)]) [] s t)
  ∧ (∀ (s : State) (n : Fin 8) (slice : Fin 96), s.dev.flag .gainDone (n * 96 + slice) = false → Completes (.gainLoopStep n slice) s fun t =>
      Still s t)
  ∧ (∀ (s : State) (n : Fin 8) (slice : Fin 96), s.dev.flag .skewDone (n * 96 + slice) = true → s.dev.skewRuns n = true →
    (∃ k < 96, k ≠ slice.val ∧ s.dev.flag .visSkew (n * 96 + k) = false) → Completes (.skewLoopStep n slice) s fun t =>
      t.dev.v .sliceSkew (n * 96 + slice) = max (-200) (min 200 (s.dev.v .sliceSkew (n * 96 + slice) - s.dev.v .skewRes (n * 96 + slice)))
      ∧ t.dev.v .visSkew (n * 96 + slice) = 1 ∧ t.dev.v .skewDone (n * 96 + slice) = 0
      ∧ Frame noKey (varsAt [(.sliceSkew, n * 96 + slice), (.visSkew, n * 96 + slice), (.skewDone, n * 96 + slice)]) [] s t)
  ∧ (∀ (s : State) (n : Fin 8) (slice : Fin 96) (m g : Int), s.dev.flag .skewDone (n * 96 + slice) = true → s.dev.skewRuns n = true →
    (∀ k < 96, k ≠ slice.val → s.dev.flag .visSkew (n * 96 + k) = true) →
    g = max (-200) (min 200 (s.dev.v .sliceSkew (n * 96 + slice) - s.dev.v .skewRes (n * 96 + slice))) →
    m = rdiv (((List.range 96).map (fun k => if k = slice.val then g else s.dev.v .sliceSkew (n * 96 + k))).sum) 96 →
    Completes (.skewLoopStep n slice) s fun t =>
      (∀ k < 96, t.dev.v .sliceSkew (n * 96 + k) = max (-200) (min 200 ((if k = slice.val then g else s.dev.v .sliceSkew (n * 96 + k)) - m))
        ∧ t.dev.v .visSkew (n * 96 + k) = 0)
      ∧ t.dev.v .skewDone (n * 96 + slice) = 0 ∧ Frame noKey (varsIn [.sliceSkew, .visSkew, .skewDone]) [] s t)
  ∧ (∀ (s : State) (n : Fin 8) (slice : Fin 96), s.dev.flag .skewDone (n * 96 + slice) = true → s.dev.skewRuns n = false →
    Completes (.skewLoopStep n slice) s fun t =>
      t.dev.v .skewDone (n * 96 + slice) = 0 ∧ Frame noKey (varsAt [(.skewDone, n * 96 + slice)]) [] s t)
  ∧ (∀ (s : State) (n : Fin 8) (slice : Fin 96), s.dev.flag .skewDone (n * 96 + slice) = false → Completes (.skewLoopStep n slice) s fun t =>
      Still s t)

/-- SLICE_TRIM_WRITE sets the three trims of the selected slice, each limited to its range, and starts its accumulations afresh; with a slice
number from 96 on it sets none; with AUTO_INC set SLICE goes from 95 to 0 and otherwise up by one (from 96 on the model's choice, assumption
74), else it stays. ADC_FACTORY gives every slice of the lane its kept factory trims. ADC_READY of a lane whose ADC has powered up sets
READY, starts the receive pip grid at pip 0 and the lane's sideband chain and clears LOS; else it changes nothing. AFE_GAIN_UPDATE below
EQ_ACQ with AFE_AUTO set, READY and no calibration moves the gain one code up below 96 and down above 120, codes above 12 acting as 12, and
writes GAIN_NOW and AFE_GAIN, or leaves the gain and counts the update; else it changes nothing. ADC_FG_START begins a foreground
calibration of an enabled READY lane at DOWN with none running, and sets FG_ERR otherwise. ADC_FG_DONE gives the slices the measured trims
and clears FG_BUSY, and a waiting clear of EN then disables the lane; with FG_BUSY = 0 it changes nothing. (Rests on R50, R51, R53, R56,
R57, R170.) -/
def Obligations.AdcControl : Prop :=
  (∀ (s : State) (n : Fin 8) (ofs gain skew : Int) (k : Nat), s.dev.get LL_ADC_SLICE_SEL_SLICE n = k → k < 96 →
    Completes (.sliceTrimWrite n ofs gain skew) s fun t =>
      t.dev.v .sliceOfs (n * 96 + k) = max (-128) (min 127 ofs) ∧ t.dev.v .sliceGain (n * 96 + k) = max (-128) (min 127 gain)
      ∧ t.dev.v .sliceSkew (n * 96 + k) = max (-200) (min 200 skew)
      ∧ (∀ x ∈ [Var.ofsSum, .ofsCnt, .ofsDone, .gainSum, .gainCnt, .gainDone, .skewSum, .skewCnt, .skewDone], t.dev.v x (n * 96 + k) = 0)
      ∧ t.dev.get LL_ADC_SLICE_SEL_SLICE n = (if s.dev.on LL_ADC_SLICE_SEL_AUTO_INC n then (if k = 95 then 0 else k + 1) else k)
      ∧ Frame (fieldsAt [(LL_ADC_SLICE_SEL_SLICE, n)]) (fun x => x.2 = n * 96 + k ∧ varsIn [.sliceOfs, .sliceGain, .sliceSkew, .ofsSum, .ofsCnt, .ofsDone,
          .gainSum, .gainCnt, .gainDone, .skewSum, .skewCnt, .skewDone] x) [] s t)
  ∧ (∀ (s : State) (n : Fin 8) (ofs gain skew : Int) (k : Nat), s.dev.get LL_ADC_SLICE_SEL_SLICE n = k → 96 ≤ k →
    Completes (.sliceTrimWrite n ofs gain skew) s fun t =>
      t.dev.get LL_ADC_SLICE_SEL_SLICE n = (if s.dev.on LL_ADC_SLICE_SEL_AUTO_INC n then (k + 1) % 128 else k)
      ∧ Frame (fieldsAt [(LL_ADC_SLICE_SEL_SLICE, n)]) noKey [] s t)
  ∧ (∀ (s : State) (n : Fin 8), Completes (.adcFactory n) s fun t =>
      (∀ k < 96, t.dev.v .sliceOfs (n * 96 + k) = max (-128) (min 127 (s.dev.v .facOfs (n * 96 + k)))
        ∧ t.dev.v .sliceGain (n * 96 + k) = max (-128) (min 127 (s.dev.v .facGain (n * 96 + k)))
        ∧ t.dev.v .sliceSkew (n * 96 + k) = max (-200) (min 200 (s.dev.v .facSkew (n * 96 + k))))
      ∧ Frame noKey (varsIn [.sliceOfs, .sliceGain, .sliceSkew, .ofsSum, .ofsCnt, .ofsDone, .gainSum, .gainCnt, .gainDone, .skewSum, .skewCnt,
          .skewDone]) [] s t)
  ∧ (∀ (s : State) (n : Fin 8), s.dev.flag .adcUp n = true → Completes (.adcReady n) s fun t =>
      t.dev.get LL_ADC_STATUS_READY n = 1 ∧ t.dev.v .rxGrid n = 1 ∧ t.dev.v .rxPip n = 0 ∧ t.dev.v .adcUp n = 0 ∧ t.dev.get SB_LSTATUS_RUNNING n = 1
      ∧ t.dev.get BN_LINK_STATUS_LOS n = 0 ∧ t.mem = s.mem ∧ t.pending = s.pending)
  ∧ (∀ (s : State) (n : Fin 8), s.dev.flag .adcUp n = false → Completes (.adcReady n) s fun t =>
      Still s t)
  ∧ (∀ (s : State) (n : Fin 8) (pct g g' : Nat), s.dev.on LL_ADC_STATUS_READY n = true → s.dev.on LL_ADC_STATUS_FG_BUSY n = false →
      s.dev.on LL_ADC_CTRL_AFE_AUTO n = true → s.dev.get BN_LINK_STATUS_STATE n < 3 → g = min (s.dev.get LL_ADC_STATUS_GAIN_NOW n) 12 →
      g' = (if pct < 96 then min (g + 1) 12 else if 120 < pct then g - 1 else g) →
      Completes (.afeGainUpdate n pct) s fun t =>
        (g' ≠ g → t.dev.get LL_ADC_STATUS_GAIN_NOW n = g' ∧ t.dev.get LL_ADC_CTRL_AFE_GAIN n = g' ∧ t.dev.v .afeSame n = 0)
        ∧ (g' = g → t.dev.get LL_ADC_STATUS_GAIN_NOW n = s.dev.get LL_ADC_STATUS_GAIN_NOW n
          ∧ t.dev.get LL_ADC_CTRL_AFE_GAIN n = s.dev.get LL_ADC_CTRL_AFE_GAIN n ∧ t.dev.v .afeSame n = s.dev.v .afeSame n + 1)
        ∧ Frame (fieldsAt [(LL_ADC_STATUS_GAIN_NOW, n), (LL_ADC_CTRL_AFE_GAIN, n)]) (varsAt [(.afeSame, n)]) [] s t)
  ∧ (∀ (s : State) (n : Fin 8) (pct : Nat), (s.dev.on LL_ADC_STATUS_READY n = false ∨ s.dev.on LL_ADC_STATUS_FG_BUSY n = true ∨
      s.dev.on LL_ADC_CTRL_AFE_AUTO n = false ∨ 3 ≤ s.dev.get BN_LINK_STATUS_STATE n) → Completes (.afeGainUpdate n pct) s fun t => Still s t)
  ∧ (∀ (s : State) (n : Fin 8), s.dev.on BN_LINK_CTRL_EN n = true → s.dev.on LL_ADC_STATUS_READY n = true →
      s.dev.get BN_LINK_STATUS_STATE n = 0 → s.dev.on LL_ADC_STATUS_FG_BUSY n = false → Completes (.adcFgStart n) s fun t =>
        t.dev.get LL_ADC_STATUS_FG_BUSY n = 1
        ∧ Frame (orKey (fieldsAt [(LL_ADC_STATUS_FG_BUSY, n)]) linked) (varsIn linkVars) [] s t)
  ∧ (∀ (s : State) (n : Fin 8), (s.dev.on BN_LINK_CTRL_EN n = false ∨ s.dev.on LL_ADC_STATUS_READY n = false ∨
      s.dev.get BN_LINK_STATUS_STATE n ≠ 0 ∨ s.dev.on LL_ADC_STATUS_FG_BUSY n = true) → Completes (.adcFgStart n) s fun t =>
        t.dev.get LL_ADC_STATUS_FG_ERR n = 1 ∧ t.dev.get LL_ADC_STATUS_FG_BUSY n = s.dev.get LL_ADC_STATUS_FG_BUSY n
        ∧ Frame (orKey (fieldsAt [(LL_ADC_STATUS_FG_ERR, n)]) linked) (varsIn linkVars) [] s t)
  ∧ (∀ (s : State) (n : Fin 8) (trims : List (Int × Int × Int)), s.dev.on LL_ADC_STATUS_FG_BUSY n = true → s.dev.flag .fgDisable n = false →
      Completes (.adcFgDone n trims) s fun t =>
        t.dev.get LL_ADC_STATUS_FG_BUSY n = 0
        ∧ (∀ k < 96, k < trims.length → t.dev.v .sliceOfs (n * 96 + k) = max (-128) (min 127 (trims.getD k (0, 0, 0)).1)
          ∧ t.dev.v .sliceGain (n * 96 + k) = max (-128) (min 127 (trims.getD k (0, 0, 0)).2.1)
          ∧ t.dev.v .sliceSkew (n * 96 + k) = max (-200) (min 200 (trims.getD k (0, 0, 0)).2.2))
        ∧ Frame (orKey (fieldsAt [(LL_ADC_STATUS_FG_BUSY, n), (BOOT_STATUS_FG_PENDING, 0)]) linked)
            (varsIn ([.sliceOfs, .sliceGain, .sliceSkew, .ofsSum, .ofsCnt, .ofsDone, .gainSum, .gainCnt, .gainDone, .skewSum, .skewCnt, .skewDone, .fgWant,
              .losOnTh, .losOffTh, .losAs, .losDe, .losOn, .losOff, .losNew] ++ linkVars)) [] s t)
  ∧ (∀ (s : State) (n : Fin 8) (trims : List (Int × Int × Int)), s.dev.on LL_ADC_STATUS_FG_BUSY n = true → s.dev.flag .fgDisable n = true →
      Completes (.adcFgDone n trims) s fun t =>
        t.dev.get LL_ADC_STATUS_FG_BUSY n = 0 ∧ t.dev.get BN_LINK_CTRL_EN n = 0 ∧ t.dev.get LL_ADC_STATUS_READY n = 0 ∧ t.dev.v .fgDisable n = 0
        ∧ t.mem = s.mem ∧ t.pending = s.pending)
  ∧ (∀ (s : State) (n : Fin 8) (trims : List (Int × Int × Int)), s.dev.on LL_ADC_STATUS_FG_BUSY n = false →
      Completes (.adcFgDone n trims) s fun t => Still s t)

/-- CDR_LOCK_INTERVAL of a READY lane with a full interval waiting reports the mean of I over that interval in 0.001 ppm, sets FREQ_RANGE above
200 ppm, clears it below 195 ppm and keeps it between; LOCKED clears while the loop is frozen, FREQ_RANGE or MISMATCH is set, or the
estimate has moved by more than four LOCK_TOL; else an interval that counts and moved by less than LOCK_TOL is one more stable one and the
LOCK_CNTth sets LOCKED. Without a waiting interval, or before READY, nothing changes. CDR_PHASE_WRITE under MODE = OPEN makes the phase
written the interpolator's target; under another mode nothing changes. (Rests on R62 to R64.) -/
def Obligations.ClockRecovery : Prop :=
  (∀ (s : State) (n : Fin 8) (est tol : Int), s.dev.on LL_ADC_STATUS_READY n = true → s.dev.flag .cdrDone n = true →
      est = rdiv (s.dev.v .cdrMean n * 10 ^ 9) (4096 * s.dev.symsPerDpclk n * 2 ^ 40) →
      tol = 1000 * (max 1 (s.dev.get LL_CDR_CTRL_LOCK_TOL n) : Nat) → Completes (.cdrLockInterval n) s fun t =>
        (absI est ≤ 300000 → t.dev.geti LL_CDR_FREQ_PPM n = est) ∧ t.dev.v .cdrEst n = est ∧ t.dev.v .cdrDone n = 0
        ∧ (200000 < absI est → t.dev.get LL_CDR_STATUS_FREQ_RANGE n = 1)
        ∧ (absI est < 195000 → t.dev.get LL_CDR_STATUS_FREQ_RANGE n = 0)
        ∧ (195000 ≤ absI est → absI est ≤ 200000 → t.dev.on LL_CDR_STATUS_FREQ_RANGE n = s.dev.on LL_CDR_STATUS_FREQ_RANGE n)
        ∧ (s.dev.cdrFrozen n = true ∨ t.dev.on LL_CDR_STATUS_FREQ_RANGE n = true ∨ t.dev.on LL_CDR_STATUS_MISMATCH n = true
            ∨ 4 * tol < absI (est - s.dev.v .cdrEst n) → t.dev.get LL_CDR_STATUS_LOCKED n = 0)
        ∧ (s.dev.cdrFrozen n = false → s.dev.on BN_LINK_STATUS_LOS n = false → s.dev.get LL_CDR_CTRL_MODE n ≠ 1 → t.dev.on LL_CDR_STATUS_FREQ_RANGE n = false →
            t.dev.on LL_CDR_STATUS_MISMATCH n = false → s.dev.v .cdrDone n ≠ 2 → absI (est - s.dev.v .cdrEst n) < tol →
            t.dev.v .cdrStable n = s.dev.v .cdrStable n + 1
            ∧ ((max 1 (s.dev.get LL_CDR_CTRL_LOCK_CNT n) : Nat) ≤ s.dev.v .cdrStable n + 1 → t.dev.get LL_CDR_STATUS_LOCKED n = 1))
        ∧ Frame (orKey (fieldsAt [(LL_CDR_FREQ_PPM, n), (LL_CDR_STATUS_FREQ_RANGE, n), (LL_CDR_STATUS_MISMATCH, n)]) linked)
            (varsIn ([.cdrDone, .cdrEst] ++ linkVars)) [] s t)
  ∧ (∀ (s : State) (n : Fin 8), (s.dev.on LL_ADC_STATUS_READY n = false ∨ s.dev.flag .cdrDone n = false) → Completes (.cdrLockInterval n) s fun t =>
        Still s t)
  ∧ (∀ (s : State) (n : Fin 8) (phase : Fin 128), s.dev.get LL_CDR_CTRL_MODE n = 2 → Completes (.cdrPhaseWrite n phase) s fun t =>
        t.dev.v .cdrPhTarget n = phase.val ∧ t.dev.flag .cdrPhMoving n = decide (phase.val ≠ s.dev.get LL_CDR_PHASE_PHASE n)
        ∧ Frame noKey (varsAt [(.cdrPhTarget, n.val), (.cdrPhMoving, n.val)]) [] s t)
  ∧ (∀ (s : State) (n : Fin 8) (phase : Fin 128), s.dev.get LL_CDR_CTRL_MODE n ≠ 2 → Completes (.cdrPhaseWrite n phase) s fun t =>
        Still s t)

/-- SPI_OE_START with fit lengths on an idle controller sets BUSY and sends the TXLEN bytes of TXBUF in the bit order of LSB_FIRST, with the
chip select, clock and duplex the word names, DIV below 29 as 29. SPI_OE_TRANSACTION_END puts the bytes received into RXBUF and, without
polling or when the tested byte matches, clears BUSY and sets DONE; a byte that does not match waits for the gap, or with TIMEOUT = 0 ends
with POLL_TIMEOUT (the model's choice, assumption 75). SPI_OE_POLL_GAP repeats the transaction; SPI_OE_POLL_TIMEOUT after the first
transaction of a poll ends with POLL_TIMEOUT and DONE. Where the controller is not in the state for it, each of the last three changes
nothing. OE_ALARM_FALL begins a low period in which no alarm has been accepted. OE_ALARM_ACCEPT with the ball low for DEBOUNCE or longer,
once per low period, sets ALARM_EV and the squelch and SQ_ACTIVE of every lane whose bunch PINS.SQUELCH names; else it changes nothing.
OE_ALARM_RISE and OE_ALARM_EV_CLEAR end the squelch source when the ball is high and ALARM_EV clear. OE_GPIO_EDGE gives the ball its level
and sets the GPIO_EV bit of an input whose IRQ_EN bit is set when the level changes, and no GPIO_EV bit otherwise. (Rests on R69, R71, R73,
R74.) -/
def Obligations.BoardPorts : Prop :=
  (∀ (s : State) (ctrl : Word) (w tx rx : Nat), w = ctrl.toNat → tx = w / 2 ^ 16 % 128 → rx = w / 2 ^ 24 % 128 → s.dev.on SPI_OE_STATUS_BUSY 0 = false → tx ≤ 64 → rx ≤ 64 →
      (w / 2 ^ 10 % 2 = 1 → 1 ≤ tx) → 1 ≤ tx + rx → Completes (.spiOeStart ctrl) s fun t =>
      t.dev.get SPI_OE_STATUS_BUSY 0 = 1
      ∧ Out.spiOe (w / 2 ^ 8 % 2) ⟨max 29 (w % 64) + 1, decide (w / 2 ^ 6 % 2 = 1), decide (w / 2 ^ 7 % 2 = 1)⟩ (decide (w / 2 ^ 10 % 2 = 1))
          ((List.range tx).flatMap fun i => (List.range 8).map fun j =>
            (s.dev.bufByte SPI_OE_TXBUF_DATA 0 i).getLsbD (if w / 2 ^ 9 % 2 = 1 then j else 7 - j))
          (if w / 2 ^ 10 % 2 = 1 then tx else rx) ∈ t.dev.out
      ∧ Frame (regsIn [.SPI_OE_CTRL, .SPI_OE_STATUS]) (varsIn [.speBusyPoll, .speFirst]) [] s t)
  ∧ (∀ (s : State) (rx : List Byte) (len : Nat), len = (if s.dev.on SPI_OE_CTRL_DUPLEX 0 then s.dev.get SPI_OE_CTRL_TXLEN 0 else s.dev.get SPI_OE_CTRL_RXLEN 0) →
      s.dev.on SPI_OE_STATUS_BUSY 0 = true → s.dev.flag .speBusyPoll 0 = false → Completes (.spiOeTransactionEnd rx) s fun t =>
      (∀ i < rx.length, i < len → ∀ j < 8, (t.dev.bufByte SPI_OE_RXBUF_DATA 0 i).getLsbD j
          = (rx.getD i 0).getLsbD (if s.dev.on SPI_OE_CTRL_LSB_FIRST 0 then 7 - j else j))
      ∧ (s.dev.on SPI_OE_POLL_EN 0 = false ∨ Nat.land (t.dev.bufByte SPI_OE_RXBUF_DATA 0 (s.dev.get SPI_OE_POLL_BYTE 0)).toNat (s.dev.get SPI_OE_POLL_MASK 0)
          = s.dev.get SPI_OE_POLL_VALUE 0 → t.dev.get SPI_OE_STATUS_BUSY 0 = 0 ∧ t.dev.get SPI_OE_STATUS_DONE 0 = 1
            ∧ t.dev.get SPI_OE_STATUS_ERR 0 = s.dev.get SPI_OE_STATUS_ERR 0)
      ∧ (s.dev.on SPI_OE_POLL_EN 0 = true → Nat.land (t.dev.bufByte SPI_OE_RXBUF_DATA 0 (s.dev.get SPI_OE_POLL_BYTE 0)).toNat (s.dev.get SPI_OE_POLL_MASK 0)
          ≠ s.dev.get SPI_OE_POLL_VALUE 0 → s.dev.get SPI_OE_POLL_TO_TIMEOUT 0 ≠ 0 → t.dev.get SPI_OE_STATUS_BUSY 0 = s.dev.get SPI_OE_STATUS_BUSY 0
            ∧ t.dev.v .speBusyPoll 0 = 1 ∧ t.dev.v .speFirst 0 = 1 ∧ t.dev.get SPI_OE_STATUS_DONE 0 = s.dev.get SPI_OE_STATUS_DONE 0)
      ∧ (s.dev.on SPI_OE_POLL_EN 0 = true → Nat.land (t.dev.bufByte SPI_OE_RXBUF_DATA 0 (s.dev.get SPI_OE_POLL_BYTE 0)).toNat (s.dev.get SPI_OE_POLL_MASK 0)
          ≠ s.dev.get SPI_OE_POLL_VALUE 0 → s.dev.get SPI_OE_POLL_TO_TIMEOUT 0 = 0 → t.dev.get SPI_OE_STATUS_BUSY 0 = 0 ∧ t.dev.get SPI_OE_STATUS_DONE 0 = 1
            ∧ t.dev.get SPI_OE_STATUS_ERR 0 = 3)
      ∧ Frame (regsIn [.SPI_OE_STATUS, .SPI_OE_RXBUF]) (varsIn [.speBusyPoll, .speFirst]) [] s t)
  ∧ (∀ (s : State) (rx : List Byte), (s.dev.on SPI_OE_STATUS_BUSY 0 = false ∨ s.dev.flag .speBusyPoll 0 = true) →
      Completes (.spiOeTransactionEnd rx) s fun t => Still s t)
  ∧ (∀ (s : State), s.dev.on SPI_OE_STATUS_BUSY 0 = true → s.dev.flag .speBusyPoll 0 = true → Completes .spiOePollGap s fun t =>
      t.dev.v .speBusyPoll 0 = 0
      ∧ Out.spiOe (s.dev.get SPI_OE_CTRL_CS 0) ⟨max 29 (s.dev.get SPI_OE_CTRL_DIV 0) + 1, s.dev.on SPI_OE_CTRL_CPOL 0, s.dev.on SPI_OE_CTRL_CPHA 0⟩
          (s.dev.on SPI_OE_CTRL_DUPLEX 0) ((List.range (s.dev.get SPI_OE_CTRL_TXLEN 0)).flatMap fun i => (List.range 8).map fun j =>
            (s.dev.bufByte SPI_OE_TXBUF_DATA 0 i).getLsbD (if s.dev.on SPI_OE_CTRL_LSB_FIRST 0 then j else 7 - j))
          (if s.dev.on SPI_OE_CTRL_DUPLEX 0 then s.dev.get SPI_OE_CTRL_TXLEN 0 else s.dev.get SPI_OE_CTRL_RXLEN 0) ∈ t.dev.out
      ∧ Frame noKey (varsIn [.speBusyPoll]) [] s t)
  ∧ (∀ (s : State), (s.dev.on SPI_OE_STATUS_BUSY 0 = false ∨ s.dev.flag .speBusyPoll 0 = false) → Completes .spiOePollGap s fun t => Still s t)
  ∧ (∀ (s : State), s.dev.on SPI_OE_STATUS_BUSY 0 = true → s.dev.flag .speFirst 0 = true → Completes .spiOePollTimeout s fun t =>
      t.dev.get SPI_OE_STATUS_ERR 0 = 3 ∧ t.dev.get SPI_OE_STATUS_DONE 0 = 1 ∧ t.dev.get SPI_OE_STATUS_BUSY 0 = 0
      ∧ Frame (regsIn [.SPI_OE_STATUS]) (varsIn [.speBusyPoll, .speFirst]) [] s t)
  ∧ (∀ (s : State), (s.dev.on SPI_OE_STATUS_BUSY 0 = false ∨ s.dev.flag .speFirst 0 = false) → Completes .spiOePollTimeout s fun t => Still s t)
  ∧ (∀ (s : State), Completes .oeAlarmFall s fun t => t.dev.v .oeLow 0 = 1 ∧ t.dev.v .oeTaken 0 = 0 ∧ Frame noKey (varsIn [.oeLow, .oeTaken]) [] s t)
  ∧ (∀ (s : State) (us : Nat), s.dev.flag .oeLow 0 = true → s.dev.flag .oeTaken 0 = false → s.dev.get SPI_OE_ALARM_DEBOUNCE 0 ≤ us →
      Completes (.oeAlarmAccept us) s fun t => t.dev.get SPI_OE_STATUS_ALARM_EV 0 = 1 ∧ t.dev.v .oeSquelch 0 = 1 ∧ t.dev.v .oeTaken 0 = 1
      ∧ (∀ n < 8, (s.dev.get SPI_OE_PINS_SQUELCH 0).testBit (n / 4) = true → t.dev.get LL_TX_STATUS_SQ_ACTIVE n = 1)
      ∧ Frame (orKey (fieldsAt [(SPI_OE_STATUS_ALARM_EV, 0)]) (regsIn [.LL_TX_STATUS])) (varsIn [.oeTaken, .oeSquelch, .txExit]) [] s t)
  ∧ (∀ (s : State) (us : Nat), (s.dev.flag .oeLow 0 = false ∨ s.dev.flag .oeTaken 0 = true ∨ us < s.dev.get SPI_OE_ALARM_DEBOUNCE 0) →
      Completes (.oeAlarmAccept us) s fun t => Still s t)
  ∧ (∀ (s : State), Completes .oeAlarmRise s fun t => t.dev.v .oeLow 0 = 0
      ∧ (s.dev.on SPI_OE_STATUS_ALARM_EV 0 = false → t.dev.v .oeSquelch 0 = 0)
      ∧ (s.dev.on SPI_OE_STATUS_ALARM_EV 0 = true → t.dev.v .oeSquelch 0 = s.dev.v .oeSquelch 0)
      ∧ Frame (regsIn [.LL_TX_STATUS]) (varsIn [.oeLow, .oeSquelch, .txExit]) [] s t)
  ∧ (∀ (s : State), Completes .oeAlarmEvClear s fun t => t.dev.get SPI_OE_STATUS_ALARM_EV 0 = 0
      ∧ (s.dev.flag .oeLow 0 = false → t.dev.v .oeSquelch 0 = 0)
      ∧ (s.dev.flag .oeLow 0 = true → t.dev.v .oeSquelch 0 = s.dev.v .oeSquelch 0)
      ∧ Frame (orKey (fieldsAt [(SPI_OE_STATUS_ALARM_EV, 0)]) (regsIn [.LL_TX_STATUS])) (varsIn [.oeSquelch, .txExit]) [] s t)
  ∧ (∀ (s : State) (k : Fin 4) (level : Bool), s.dev.flag .oePin k ≠ level → (s.dev.get SPI_OE_PINS_GPIO_OE 0).testBit k = false →
      (s.dev.get SPI_OE_PINS_GPIO_IRQ_EN 0).testBit k = true → Completes (.oeGpioEdge k level) s fun t =>
        (t.dev.get SPI_OE_STATUS_GPIO_EV 0).testBit k = true ∧ (∀ j < 4, j ≠ k.val → (t.dev.get SPI_OE_STATUS_GPIO_EV 0).testBit j
          = (s.dev.get SPI_OE_STATUS_GPIO_EV 0).testBit j) ∧ t.dev.flag .oePin k = level
        ∧ Frame (fieldsAt [(SPI_OE_STATUS_GPIO_EV, 0)]) (varsAt [(.oePin, k.val)]) [] s t)
  ∧ (∀ (s : State) (k : Fin 4) (level : Bool), (s.dev.flag .oePin k = level ∨ (s.dev.get SPI_OE_PINS_GPIO_OE 0).testBit k = true ∨
      (s.dev.get SPI_OE_PINS_GPIO_IRQ_EN 0).testBit k = false) → Completes (.oeGpioEdge k level) s fun t =>
        t.dev.flag .oePin k = level ∧ Frame noKey (varsAt [(.oePin, k.val)]) [] s t)

/-- SPI_OE_START, a START write, with a length above 64, or one that would move no byte, is refused with ERR = LEN and sets DONE, and no
transaction leaves on the balls; SPI_OE_START, or a REGISTER_WRITE of SPI_OE_TXBUF or SPI_OE_CTRL by any initiator that may write there,
while BUSY is 1 is dropped with ERR = BUSY and changes nothing else. (States R70.) -/
def Obligations.OpticalStartRefused : Prop :=
  (∀ (s : State) (ctrl : Word), s.dev.on SPI_OE_STATUS_BUSY 0 = false → (64 < ctrl.toNat / 2 ^ 16 % 128 ∨ 64 < ctrl.toNat / 2 ^ 24 % 128 ∨ (ctrl.toNat / 2 ^ 10 % 2 = 0 ∧ ctrl.toNat / 2 ^ 16 % 128 + ctrl.toNat / 2 ^ 24 % 128 = 0)
      ∨ (ctrl.toNat / 2 ^ 10 % 2 = 1 ∧ ctrl.toNat / 2 ^ 16 % 128 = 0)) → Completes (.spiOeStart ctrl) s fun t =>
      t.dev.get SPI_OE_STATUS_ERR 0 = 2 ∧ t.dev.get SPI_OE_STATUS_DONE 0 = 1 ∧ t.dev.get SPI_OE_STATUS_BUSY 0 = 0
      ∧ (∀ x, ∀ c k u y, Out.spiOe c k u x y ∈ t.dev.out → Out.spiOe c k u x y ∈ s.dev.out) ∧ Frame (regsIn [.SPI_OE_CTRL, .SPI_OE_STATUS]) noKey [] s t)
  ∧ (∀ (s : State) (ctrl : Word), s.dev.on SPI_OE_STATUS_BUSY 0 = true → Completes (.spiOeStart ctrl) s fun t =>
      t.dev.get SPI_OE_STATUS_ERR 0 = 1 ∧ Frame (fieldsAt [(SPI_OE_STATUS_ERR, 0)]) noKey [] s t)
  ∧ (∀ (s : State) (init a x n : Nat) (r : Reg) (env : WrEnv), s.dev.on SPI_OE_STATUS_BUSY 0 = true → regFind a = some (r, n) → region a = .regs → a % 4 = 0 → (r = .SPI_OE_TXBUF ∨ r = .SPI_OE_CTRL) →
      s.dev.isOff a = false → s.dev.heldAt a = none → (4 ≤ init ∨ env.user = false) → Completes (.registerWrite a 4 x init env) s fun t =>
      t.dev.get SPI_OE_STATUS_ERR 0 = 1 ∧ Frame (fieldsAt [(SPI_OE_STATUS_ERR, 0)]) noKey [] s t)

/-- EQ_PIP_UPDATE while the lane's receive pip grid runs counts the pip, adds the clipped codes of the pip's samples to the saturating clip
count, notes whether a hold applies as the next pip begins, sets FALLBACK on an uncorrectable coefficient and leaves the quadratic
coefficients at zero until the lane has converged once unless QUAD_EARLY is set. A pending re-initialisation leaves c0 at MAIN_INIT, every
other linear tap at zero, GEAR and CONV clear. In a held pip with nothing pending no linear, quadratic or feedback coefficient changes.
While no grid runs nothing changes. EQ_SNAP_NOW, EQ_RESTORE and EQ_REINIT each leave their request for the next pip boundary. EQ_COEF_WRITE
of an index that the lane has leaves the value for the next boundary and of another index nothing; INDEX goes up by one, from 179 to 0, when
AUTO_INC is set. EQ_PERIODIC_SNAPSHOT, 2^SHIFT pips (SHIFT from 8 to 20) or a multiple of them after CONV was set, with CONV = 1, the SNR at
SNR_MIN or above and no coefficient error in the pip, takes the snapshot; else, and with SHIFT 0, nothing changes. EQ_HIST_START starts a
window at zero counts with HIST_BUSY set. EQ_HIST_WINDOW_END of a running window that has lasted 2^(WIN + 4) pips copies the sixteen counts
to LL_EQ_HIST and reports a valid bit error ratio, from the decoder's flips while decoder-aided adaptation is active (SRC, and BOUND without
a flip) and else from the SNR; with HIST_CONT clear HIST_BUSY clears, else the next window starts at zero counts. Else nothing changes.
(Rests on R49, R79, R85 to R88, R92 to R94, R96, R97.) -/
def Obligations.Equaliser : Prop :=
  (∀ (s : State) (n : Fin 8) (sub : Nat) (volts : List Int) (errs : List (Int × Int)) (cu su : Bool) (tu : Option (Nat × Bool)),
    s.dev.flag .rxGrid n = true → Completes (.eqPipUpdate n sub volts errs cu su tu) s fun t =>
      t.dev.v .rxPip n = s.dev.v .rxPip n + 1
      ∧ t.dev.get LL_ADC_CLIP_COUNT n = min (s.dev.get LL_ADC_CLIP_COUNT n + (((s.dev.adcCodes n volts).take (match s.dev.mode n with
          | some m => symbolsPerPip m | none => 0)).filter (fun c => c == -128 || c == 127)).length) (2 ^ 32 - 1)
      ∧ (s.dev.eqHeld n = true → t.dev.v .eqHoldPip n = 1)
      ∧ (cu = true → t.dev.get LL_EQ_STATUS_FALLBACK n = 1) ∧ t.dev.flag .eqUe n = cu
      ∧ (t.dev.on LL_EQ_STATUS_EVER_CONV n = false → t.dev.on LL_EQ_CTRL_QUAD_EARLY n = false → ∀ q < 32, t.dev.v .eqQuad (32 * n + q) = 0)
      ∧ Frame (orKey (regsIn [.LL_EQ_STATUS, .LL_EQ_SNR, .LL_EQ_SHAPE, .LL_ADC_CLIP, .LL_CDR_PHASE, .DEC_STATUS, .SEED_RELOAD, .SEED_RELOAD_LAST]) linked)
          (orKey (fun k => varOfLine n k = true) (orKey (varsIn linkVars) (fun k => varOfHost (2 * n) k = true ∨ varOfHost (2 * n + 1) k = true
            ∨ varsIn [.lkTileHold, .trgCal, .capIdx] k))) [.eqPips, .reloads, .capQ, .loopBits, .fresh] s t)
  ∧ (∀ (s : State) (n : Fin 8) (sub : Nat) (volts : List Int) (errs : List (Int × Int)) (cu su : Bool), s.dev.flag .rxGrid n = true →
      s.dev.flag .eqPendReinit n = true → s.dev.flag .eqProf n = false → 1 ≤ s.dev.get LL_EQ_STATUS_LIN_NOW n → s.dev.get LL_EQ_STATUS_LIN_NOW n ≤ 112 →
      Completes (.eqPipUpdate n sub volts errs cu su none) s fun t =>
        (∀ k < 112, t.dev.v .eqLin (112 * n + k) =
          if k = min (s.dev.get LL_EQ_SHAPE_PRE n) (s.dev.get LL_EQ_STATUS_LIN_NOW n - 1) then sext 16 (s.dev.get LL_EQ_SHAPE_MAIN_INIT n) * 256 else 0)
        ∧ t.dev.get LL_EQ_STATUS_CONV n = 0 ∧ t.dev.get LL_EQ_STATUS_GEAR n = 0 ∧ t.dev.v .eqPendReinit n = 0)
  ∧ (∀ (s : State) (n : Fin 8) (sub : Nat) (volts : List Int) (errs : List (Int × Int)), s.dev.flag .rxGrid n = true →
      (s.dev.eqHeld n || s.dev.flag .eqHoldPip n) = true → (∀ x ∈ [Var.eqPendReinit, .eqPendRestore, .eqProf], s.dev.v x n = 0) →
      (∀ k < 180, s.dev.v .eqWr (180 * n + k) ≠ 1) → s.dev.quadsOn n = true →
      Completes (.eqPipUpdate n sub volts errs false false none) s fun t =>
        (∀ k < 112, t.dev.v .eqLin (112 * n + k) = s.dev.v .eqLin (112 * n + k)) ∧ (∀ q < 32, t.dev.v .eqQuad (32 * n + q) = s.dev.v .eqQuad (32 * n + q))
        ∧ (∀ i < 3, t.dev.v .eqFb (3 * n + i) = s.dev.v .eqFb (3 * n + i)))
  ∧ (∀ (s : State) (n : Fin 8) (sub : Nat) (volts : List Int) (errs : List (Int × Int)) (cu su : Bool) (tu : Option (Nat × Bool)),
      s.dev.flag .rxGrid n = false → Completes (.eqPipUpdate n sub volts errs cu su tu) s fun t => Still s t)
  ∧ (∀ (s : State) (n : Fin 8), Completes (.eqSnapNow n) s fun t => t.dev.v .eqPendSnap n = 1
      ∧ Frame noKey (varsAt [(.eqPendSnap, n.val)]) [] s t)
  ∧ (∀ (s : State) (n : Fin 8), Completes (.eqRestore n) s fun t => t.dev.v .eqPendRestore n = 1
      ∧ Frame noKey (varsAt [(.eqPendRestore, n.val)]) [] s t)
  ∧ (∀ (s : State) (n : Fin 8), Completes (.eqReinit n) s fun t => t.dev.v .eqPendReinit n = 1
      ∧ Frame noKey (varsAt [(.eqPendReinit, n.val)]) [] s t)
  ∧ (∀ (s : State) (n : Fin 8) (value : BitVec 16) (k : Nat), s.dev.get LL_EQ_COEF_SEL_INDEX n = k →
      (k < 112 ∧ k < s.dev.get LL_EQ_STATUS_LIN_NOW n ∨ 112 ≤ k ∧ k < 112 + min 32 (s.dev.get LL_EQ_STATUS_QUAD_NOW n) ∨ 144 ≤ k ∧ k < 180) →
      Completes (.eqCoefWrite n value) s fun t =>
        t.dev.v .eqWr (180 * n + k) = 1 ∧ t.dev.v .eqWrV (180 * n + k) = value.toInt
        ∧ t.dev.get LL_EQ_COEF_SEL_INDEX n = (if s.dev.on LL_EQ_COEF_SEL_AUTO_INC n then (if k = 179 then 0 else k + 1) else k)
        ∧ Frame (fieldsAt [(LL_EQ_COEF_SEL_INDEX, n.val)]) (varsAt [(.eqWr, 180 * n + k), (.eqWrV, 180 * n + k)]) [] s t)
  ∧ (∀ (s : State) (n : Fin 8) (value : BitVec 16) (k : Nat), s.dev.get LL_EQ_COEF_SEL_INDEX n = k →
      (k < 112 ∧ s.dev.get LL_EQ_STATUS_LIN_NOW n ≤ k ∨ 112 ≤ k ∧ k < 144 ∧ 112 + s.dev.get LL_EQ_STATUS_QUAD_NOW n ≤ k ∨ 180 ≤ k) →
      Completes (.eqCoefWrite n value) s fun t =>
        (k < 180 → t.dev.get LL_EQ_COEF_SEL_INDEX n = (if s.dev.on LL_EQ_COEF_SEL_AUTO_INC n then (if k = 179 then 0 else k + 1) else k))
        ∧ Frame (fieldsAt [(LL_EQ_COEF_SEL_INDEX, n.val)]) noKey [] s t)
  ∧ (∀ (s : State) (n : Fin 8) (k : Nat), s.dev.get LL_EQ_SNAP_INT_SHIFT n = k → k ≠ 0 → 0 < s.dev.v .eqSnapCnt n →
      s.dev.v .eqSnapCnt n % (2 ^ max 8 (min 20 k) : Nat) = 0 → s.dev.on LL_EQ_STATUS_CONV n = true →
      s.dev.snrGe n (s.dev.get LL_EQ_CONV_SNR_MIN n : Nat) = true → s.dev.flag .eqUe n = false → Completes (.eqPeriodicSnapshot n) s fun t =>
        (∀ k < 112, t.dev.v .snLin (112 * n + k) = s.dev.v .eqLin (112 * n + k)) ∧ (∀ q < 32, t.dev.v .snQuad (32 * n + q) = s.dev.v .eqQuad (32 * n + q))
        ∧ (∀ i < 3, t.dev.v .snFb (3 * n + i) = s.dev.v .eqFb (3 * n + i)) ∧ t.dev.v .snMse n = s.dev.v .eqMse n
        ∧ t.dev.get LL_EQ_STATUS_SNAP_VALID n = 1
        ∧ Frame (fieldsAt [(LL_EQ_STATUS_SNAP_VALID, n.val)]) (varsIn [.snLin, .snQuad, .snPairI, .snPairJ, .snFb, .snB, .snMse, .snPre, .snNlin, .snNquad])
            [] s t)
  ∧ (∀ (s : State) (n : Fin 8), (s.dev.get LL_EQ_SNAP_INT_SHIFT n = 0 ∨ s.dev.v .eqSnapCnt n ≤ 0 ∨
        s.dev.v .eqSnapCnt n % (2 ^ max 8 (min 20 (s.dev.get LL_EQ_SNAP_INT_SHIFT n)) : Nat) ≠ 0 ∨ s.dev.on LL_EQ_STATUS_CONV n = false ∨
        s.dev.snrGe n (s.dev.get LL_EQ_CONV_SNR_MIN n : Nat) = false ∨ s.dev.flag .eqUe n = true) →
      Completes (.eqPeriodicSnapshot n) s fun t => Still s t)
  ∧ (∀ (s : State) (n : Fin 8), Completes (.eqHistStart n) s fun t => t.dev.get LL_EQ_QCTRL_HIST_BUSY n = 1 ∧ t.dev.v .eqHpips n = 0
      ∧ t.dev.v .eqFlips n = 0 ∧ t.dev.v .eqBits n = 0 ∧ (∀ k < 16, t.dev.v .eqHp (16 * n + k) = 0)
      ∧ Frame (fieldsAt [(LL_EQ_QCTRL_HIST_BUSY, n.val)]) (varsIn [.eqHp, .eqHpips, .eqFlips, .eqBits]) [] s t)
  ∧ (∀ (s : State) (n : Fin 8), s.dev.on LL_EQ_QCTRL_HIST_BUSY n = true → (2 ^ (s.dev.get LL_EQ_QCTRL_WIN n + 4) : Nat) ≤ s.dev.v .eqHpips n →
      Completes (.eqHistWindowEnd n) s fun t =>
        (∀ k < 16, t.dev.get LL_EQ_HIST_COUNT (16 * n + k) = (s.dev.v .eqHp (16 * n + k)).toNat % 2 ^ 32)
        ∧ t.dev.get LL_EQ_BER_VALID n = 1 ∧ t.dev.on LL_EQ_BER_SRC n = s.dev.daOn n ∧ t.dev.on LL_EQ_BER_BOUND n = (s.dev.daOn n && s.dev.v .eqFlips n == 0)
        ∧ (s.dev.on LL_EQ_QCTRL_HIST_CONT n = false → t.dev.get LL_EQ_QCTRL_HIST_BUSY n = 0)
        ∧ (s.dev.on LL_EQ_QCTRL_HIST_CONT n = true → t.dev.get LL_EQ_QCTRL_HIST_BUSY n = 1 ∧ t.dev.v .eqHpips n = 0 ∧ t.dev.v .eqFlips n = 0
          ∧ t.dev.v .eqBits n = 0 ∧ ∀ k < 16, t.dev.v .eqHp (16 * n + k) = 0)
        ∧ Frame (regsIn [.LL_EQ_HIST, .LL_EQ_BER, .LL_EQ_QCTRL]) (varsIn [.eqHp, .eqHpips, .eqFlips, .eqBits]) [.fresh] s t)
  ∧ (∀ (s : State) (n : Fin 8), (s.dev.on LL_EQ_QCTRL_HIST_BUSY n = false ∨ s.dev.v .eqHpips n < (2 ^ (s.dev.get LL_EQ_QCTRL_WIN n + 4) : Nat)) →
      Completes (.eqHistWindowEnd n) s fun t => Still s t)

/-- TX_APPLY sets APPLY_PEND. TX_PIP_BOUNDARY of a lane whose port's transmit grid runs puts PD_EN, DELAY and FINE in force, takes the pending
coefficients g and DEPTH if APPLY_PEND is set and clears it, clears FINE_BUSY, and ends squelch if no squelch source is left; while the lane
is enabled it sends one DAC code per symbol of the pip, each from -128 to 127, with its output (c + 0.5) × 600/256 mV; under squelch every
code is 0 and no clip counts; a disabled lane counts no clip. While the port has no grid, or the lane no port, nothing changes.
TX_FINE_WRITE writes FINE, and FINE_BUSY reads 1 unless it is the value in force. TX_EIDLE_SET sets EIDLE, clears READY, squelches the lane
with source 3 and ends an exit in progress. TX_DAC_READY sets READY while an exit from electrical idle is in progress, unless the lane has
been put back into it; with no exit in progress nothing changes. (Rests on R58, R98, R101 to R107.) -/
def Obligations.TransmitShaping : Prop :=
  (∀ (s : State) (n : Fin 8), Completes (.txApply n) s fun t => t.dev.get LL_TX_STATUS_APPLY_PEND n = 1
      ∧ Frame (fieldsAt [(LL_TX_STATUS_APPLY_PEND, n.val)]) noKey [] s t)
  ∧ (∀ (s : State) (n : Fin 8) (h0 h1 : List Bool) (sl : Nat), s.dev.slotOfLine n = some sl → s.dev.flag .txGrid sl = true →
      Completes (.txPipBoundary n h0 h1) s fun t =>
        t.dev.flag .txPdEn n = s.dev.on LL_TX_CTRL_PD_EN n ∧ t.dev.v .txDelay n = s.dev.get LL_TX_SKEW_DELAY n
        ∧ t.dev.v .txFine n = s.dev.get LL_TX_SKEW_FINE n ∧ t.dev.get LL_TX_STATUS_FINE_BUSY n = 0
        ∧ t.dev.on LL_TX_STATUS_APPLY_PEND n = false
        ∧ (s.dev.on LL_TX_STATUS_APPLY_PEND n = true → (∀ k < 7, t.dev.v .txFir (n * 7 + k) = s.dev.firPend n k)
          ∧ t.dev.v .txDepth n = s.dev.get LL_TX_OVL_DEPTH n)
        ∧ (s.dev.on LL_TX_STATUS_APPLY_PEND n = false → (∀ k < 7, t.dev.v .txFir (n * 7 + k) = s.dev.v .txFir (n * 7 + k))
          ∧ t.dev.v .txDepth n = s.dev.v .txDepth n)
        ∧ (s.dev.sqSrc n = 0 → t.dev.get LL_TX_STATUS_SQ_ACTIVE n = 0)
        ∧ (s.dev.sqSrc n ≠ 0 → t.dev.get LL_TX_STATUS_SQ_ACTIVE n = s.dev.get LL_TX_STATUS_SQ_ACTIVE n)
        ∧ (s.dev.on BN_LINK_CTRL_EN n = true → ∃ codes : List Int, Out.dac n codes (codes.map (fun c => (2 * c + 1) * 1171875)) ∈ t.dev.out
          ∧ codes.length = s.dev.pipSyms n ∧ (∀ c ∈ codes, -128 ≤ c ∧ c ≤ 127)
          ∧ (s.dev.sqSrc n ≠ 0 → s.dev.on LL_TX_STATUS_SQ_ACTIVE n = true → ∀ c ∈ codes, c = 0))
        ∧ ((s.dev.on BN_LINK_CTRL_EN n = false ∨ s.dev.sqSrc n ≠ 0 ∧ s.dev.on LL_TX_STATUS_SQ_ACTIVE n = true) → s.dev.get LL_TX_CLIP_COUNT n < 2 ^ 32 →
          t.dev.get LL_TX_CLIP_COUNT n = s.dev.get LL_TX_CLIP_COUNT n)
        ∧ Frame (regsAt [(.LL_TX_STATUS, n.val), (.LL_TX_PEAK, n.val), (.LL_TX_CLIP, n.val)])
            (varsIn [.txFir, .txPd, .txDepth, .txA, .txPdEn, .txMute, .txDelay, .txFine, .txHist, .txLine, .slSym, .slPos, .fillBits, .hlPreTx, .hlPreRx,
              .hlHist]) [.fresh, .sloeTx, .loopBits] s t)
  ∧ (∀ (s : State) (n : Fin 8) (h0 h1 : List Bool) (sl : Nat), s.dev.slotOfLine n = some sl → s.dev.flag .txGrid sl = false →
      Completes (.txPipBoundary n h0 h1) s fun t => Still s t)
  ∧ (∀ (s : State) (n : Fin 8) (h0 h1 : List Bool), s.dev.slotOfLine n = none → Completes (.txPipBoundary n h0 h1) s fun t => Still s t)
  ∧ (∀ (s : State) (n : Fin 8) (fine : Fin 64), Completes (.txFineWrite n fine) s fun t => t.dev.get LL_TX_SKEW_FINE n = fine.val
      ∧ t.dev.on LL_TX_STATUS_FINE_BUSY n = decide (s.dev.v .txFine n ≠ (fine.val : Nat))
      ∧ Frame (fieldsAt [(LL_TX_SKEW_FINE, n.val), (LL_TX_STATUS_FINE_BUSY, n.val)]) noKey [] s t)
  ∧ (∀ (s : State) (n : Fin 8), Completes (.txEidleSet n) s fun t => t.dev.get LL_TX_CTRL_EIDLE n = 1 ∧ t.dev.get LL_TX_STATUS_READY n = 0
      ∧ t.dev.get LL_TX_STATUS_SQ_ACTIVE n = 1 ∧ (t.dev.get LL_TX_STATUS_SQ_SRC n).testBit 3 = true ∧ t.dev.v .txExit n = 0
      ∧ Frame (fieldsAt [(LL_TX_CTRL_EIDLE, n.val), (LL_TX_STATUS_READY, n.val), (LL_TX_STATUS_SQ_ACTIVE, n.val), (LL_TX_STATUS_SQ_SRC, n.val)])
          (varsAt [(.txExit, n.val)]) [] s t)
  ∧ (∀ (s : State) (n : Fin 8), s.dev.flag .txExit n = true → Completes (.txDacReady n) s fun t =>
      t.dev.on LL_TX_STATUS_READY n = (!(s.dev.on LL_TX_CTRL_EIDLE n) && s.dev.on BN_LINK_CTRL_EN n && !(s.dev.flag .lcIdle 0)) ∧ t.dev.v .txExit n = 0
      ∧ Frame (fieldsAt [(LL_TX_STATUS_READY, n.val), (LL_TX_STATUS_SQ_ACTIVE, n.val), (LL_TX_STATUS_SQ_SRC, n.val)]) (varsAt [(.txExit, n.val)]) [] s t)
  ∧ (∀ (s : State) (n : Fin 8), s.dev.flag .txExit n = false → Completes (.txDacReady n) s fun t => Still s t)

/-- CW_ARRIVAL at a lane of a code mode with codeword lock whose next block is complete adds the block's codewords (δ of them, one on an L200
lane) to the reorder stage, each with its arrival cycle, no pass and MAXP_NOW, and counts them in the lock window, or restarts the window
while loss of lock is not evaluated; without lock, on an L100 lane, or with no block complete, nothing changes. DEC_PASS_START gives the
codeword that is next a pass when a slot of the lane is free; with no free slot, or no codeword that waits, nothing changes. DEC_PASS_RESULT
six cycles after the pass started and no later than the codeword's deadline ends the pass and counts it in the codeword; after the deadline
the pass ends and its result is discarded; in any other cycle, or for a codeword that runs no pass, nothing changes. No command changes a
codeword of another lane. CW_LOW_LATENCY_RELEASE in low-latency mode, while fewer than sixteen codewords have left in the cycle, releases
the lane's oldest unreleased codeword with its word if its decoding has ended, and with its hard decisions, not final and counted in
DEC_SPEC, if it has a zero syndrome to verify and SPEC_EN is set; else nothing changes. CW_DEADLINE first takes the lane's pass results that
came by their codeword's deadline; a codeword released speculatively and not verified by its deadline is then final and counted in UNVER;
the oldest unreleased codeword, at its deadline, leaves with its word, or, with its decoding not ended, with its best candidate or its hard
decisions and counted in DEC_DLREL; one whose deadline is later stays. Each release counts in DEC_CW. (Rests on R23, R115, R117, R118, R121,
R124 to R127, R131.) -/
def Obligations.DecoderPool : Prop :=
  (∀ (s : State) (n : Fin 8) (cyc : Nat) (m : LineMode), s.dev.mode n = some m → m ≠ .l100 → s.dev.on DEC_STATUS_CW_LOCK n = true →
      s.dev.nextBlock n cyc m ≠ [] → Completes (.cwArrival n cyc) s fun t =>
        (∃ new : List Codeword, t.dev.cws = s.dev.cws ++ new ∧ new.length = s.dev.blockOf n
          ∧ ∀ c ∈ new, c.lane = n.val ∧ c.arrive = cyc ∧ c.passes = 0 ∧ c.run = none ∧ c.rel = none ∧ c.fin = false ∧ c.maxp = s.dev.get DEC_STATUS_MAXP_NOW n)
        ∧ t.dev.v .cwNext n = s.dev.v .cwNext n + s.dev.blockOf n
        ∧ t.dev.v .lockArr n = (if s.dev.lossHeld n then 0 else s.dev.v .lockArr n + s.dev.blockOf n)
        ∧ Frame (regsAt [(.DEC_OCC, n.val)]) (varsAt [(.cwNext, n.val), (.cwSym, n.val), (.lockArr, n.val), (.lockZero, n.val), (.slotPeak, n / 4)]) [.cws] s t)
  ∧ (∀ (s : State) (n : Fin 8) (cyc : Nat), (s.dev.mode n = none ∨ s.dev.mode n = some .l100 ∨ s.dev.on DEC_STATUS_CW_LOCK n = false ∨
        ∃ m, s.dev.mode n = some m ∧ s.dev.nextBlock n cyc m = []) → Completes (.cwArrival n cyc) s fun t => Still s t)
  ∧ (∀ (s : State) (n : Fin 8) (cyc : Nat) (c : Codeword), s.dev.laneSlots n < (s.dev.lane n).slots → s.dev.nextPass n cyc = some c →
      Completes (.decPassStart n cyc) s fun t =>
        (∀ x ∈ t.dev.cws, x.lane = n.val → x.id = c.id → x.run = some (c.passes + 1, cyc))
        ∧ (∀ x, x.lane ≠ n.val ∨ x.id ≠ c.id → (x ∈ t.dev.cws ↔ x ∈ s.dev.cws)) ∧ t.dev.cws.length = s.dev.cws.length
        ∧ Frame (regsAt [(.DEC_OCC, n.val)]) (varsAt [(.slotPeak, n / 4)]) [.cws] s t)
  ∧ (∀ (s : State) (n : Fin 8) (cyc : Nat), ((s.dev.lane n).slots ≤ s.dev.laneSlots n ∨ s.dev.nextPass n cyc = none) →
      Completes (.decPassStart n cyc) s fun t => Still s t)
  ∧ (∀ (s : State) (n : Fin 8) (cyc id pass : Nat) (c : Codeword), s.dev.cws.find? (fun x => x.lane == n.val && x.id == id) = some c →
      c.run = some (pass, cyc) → cyc + 6 ≤ s.dev.deadline c → Completes (.decPassResult n (cyc + 6) id) s fun t =>
        (∀ x ∈ t.dev.cws, x.lane = n.val → x.id = id → x.run = none ∧ x.passes = pass)
        ∧ t.dev.cws.filter (fun x => x.lane != n.val) = s.dev.cws.filter (fun x => x.lane != n.val) ∧ t.dev.cws.length = s.dev.cws.length
        ∧ Frame (regsAt [(.DEC_OCC, n.val), (.DEC_SPEC_RES, n.val), (.DEC_PASS, n.val * 4), (.DEC_PASS, n.val * 4 + 1), (.DEC_PASS, n.val * 4 + 2),
            (.DEC_PASS, n.val * 4 + 3), (.DEC_FAIL, n.val), (.DEC_DLREL, n.val), (.DEC_FLIPS, n.val), (.DEC_FHIST, n.val * 8), (.DEC_FHIST, n.val * 8 + 1),
            (.DEC_FHIST, n.val * 8 + 2), (.DEC_FHIST, n.val * 8 + 3), (.DEC_FHIST, n.val * 8 + 4), (.DEC_FHIST, n.val * 8 + 5), (.DEC_FHIST, n.val * 8 + 6),
            (.DEC_FHIST, n.val * 8 + 7)]) (varsAt [(.slotPeak, n / 4), (.eqFlips, n.val), (.eqBits, n.val)]) [.cws, .finals, .capQ] s t)
  ∧ (∀ (s : State) (n : Fin 8) (cyc id pass : Nat) (c : Codeword), s.dev.cws.find? (fun x => x.lane == n.val && x.id == id) = some c →
      c.run = some (pass, cyc) → s.dev.deadline c < cyc + 6 → Completes (.decPassResult n (cyc + 6) id) s fun t =>
        (∀ x ∈ t.dev.cws, x.lane = n.val → x.id = id → x = { c with run := none })
        ∧ t.dev.cws.filter (fun x => x.lane != n.val) = s.dev.cws.filter (fun x => x.lane != n.val) ∧ t.dev.cws.length = s.dev.cws.length
        ∧ Frame (regsAt [(.DEC_OCC, n.val)]) (varsAt [(.slotPeak, n / 4)]) [.cws] s t)
  ∧ (∀ (s : State) (n : Fin 8) (cyc id : Nat), (∀ c, s.dev.cws.find? (fun x => x.lane == n.val && x.id == id) = some c →
        ∀ r, c.run = some r → cyc ≠ r.2 + 6) → Completes (.decPassResult n cyc id) s fun t => Still s t)
  ∧ (∀ (s : State) (n : Fin 8) (cyc : Nat) (c : Codeword), s.dev.headCw n = some c → s.dev.lowLat n = true → s.dev.relOk n cyc = true →
      c.fin = true → 0 ≤ s.dev.v .cwHigh n → Completes (.cwLowLatencyRelease n cyc) s fun t =>
        Out.release n c.id c.word true ∈ t.dev.out ∧ (∀ x ∈ t.dev.cws, x.lane = n.val → x.id = c.id → x.rel = some cyc)
        ∧ t.dev.v .cwHigh n * 2 ^ 32 + t.dev.get DEC_CW_LO_COUNT_LO n = min (s.dev.v .cwHigh n * 2 ^ 32 + s.dev.get DEC_CW_LO_COUNT_LO n + 1) (2 ^ 64 - 1)
        ∧ Frame (regsIn [.DEC_OCC, .DEC_PASS, .DEC_FAIL, .DEC_FLIPS, .DEC_FHIST, .DEC_CW_LO])
            (varsAt [(.slotPeak, n / 4), (.cwHigh, n.val), (.relNum, n.val), (.relCyc, n.val), (.pipRel, n.val), (.eqFlips, n.val), (.eqBits, n.val)])
            [.cws, .finals, .capQ] s t)
  ∧ (∀ (s : State) (n : Fin 8) (cyc : Nat) (c : Codeword), s.dev.headCw n = some c → s.dev.lowLat n = true → s.dev.relOk n cyc = true →
      c.fin = false → c.verify = true → s.dev.on DEC_CTRL_SPEC_EN n = true → 0 ≤ s.dev.v .cwHigh n → Completes (.cwLowLatencyRelease n cyc) s fun t =>
        Out.release n c.id (hardWord c.soft) false ∈ t.dev.out ∧ (∀ x ∈ t.dev.cws, x.lane = n.val → x.id = c.id → x.rel = some cyc ∧ x.fin = false)
        ∧ t.dev.get DEC_SPEC_COUNT n = min (s.dev.get DEC_SPEC_COUNT n + 1) (2 ^ DEC_SPEC_COUNT.w - 1)
        ∧ t.dev.v .cwHigh n * 2 ^ 32 + t.dev.get DEC_CW_LO_COUNT_LO n = min (s.dev.v .cwHigh n * 2 ^ 32 + s.dev.get DEC_CW_LO_COUNT_LO n + 1) (2 ^ 64 - 1)
        ∧ Frame (regsIn [.DEC_OCC, .DEC_SPEC, .DEC_CW_LO]) (varsAt [(.slotPeak, n / 4), (.cwHigh, n.val), (.relNum, n.val), (.relCyc, n.val), (.pipRel, n.val)])
            [.cws] s t)
  ∧ (∀ (s : State) (n : Fin 8) (cyc : Nat), (s.dev.headCw n = none ∨ s.dev.lowLat n = false ∨ s.dev.relOk n cyc = false ∨
        ∃ c, s.dev.headCw n = some c ∧ c.fin = false ∧ (c.verify = false ∨ s.dev.on DEC_CTRL_SPEC_EN n = false)) →
      Completes (.cwLowLatencyRelease n cyc) s fun t => Still s t)
  ∧ (∀ (s : State) (n : Fin 8) (cyc : Nat) (d : Dev) (c : Codeword), d = s.dev.dueResults n cyc →
      d.cws.find? (fun x => x.lane == n.val && x.rel.isSome && !x.fin && decide (d.deadline x ≤ cyc)) = some c → Completes (.cwDeadline n cyc) s fun t =>
        t.dev.get DEC_MISC_UNVER n = min (d.get DEC_MISC_UNVER n + 1) (2 ^ DEC_MISC_UNVER.w - 1)
        ∧ (∀ x ∈ t.dev.cws, x.lane = n.val → x.id = c.id → x.fin = true)
        ∧ Frame (regsIn [.DEC_OCC, .DEC_PASS, .DEC_FAIL, .DEC_DLREL, .DEC_FLIPS, .DEC_FHIST, .DEC_CW_LO, .DEC_MISC, .DEC_SPEC_RES])
            (varsAt [(.slotPeak, n / 4), (.cwHigh, n.val), (.relNum, n.val), (.relCyc, n.val), (.pipRel, n.val), (.pipDl, n.val), (.eqFlips, n.val),
              (.eqBits, n.val)]) [.cws, .finals, .capQ] s t)
  ∧ (∀ (s : State) (n : Fin 8) (cyc : Nat) (d : Dev) (c : Codeword), d = s.dev.dueResults n cyc →
      (∀ x ∈ d.cws, x.lane = n.val → x.rel.isSome = true → d.deadline x ≤ cyc → x.fin = true) →
      d.headCw n = some c → d.deadline c ≤ cyc → d.relOk n cyc = true → Completes (.cwDeadline n cyc) s fun t =>
        Out.release n c.id (if c.fin then c.word else cwWord c) true ∈ t.dev.out
        ∧ (∀ x ∈ t.dev.cws, x.lane = n.val → x.id = c.id → x.rel = some cyc ∧ x.fin = true)
        ∧ t.dev.v .pipDl n = s.dev.v .pipDl n + (if c.fin then 0 else 1)
        ∧ (c.fin = false → t.dev.get DEC_DLREL_COUNT n = min (d.get DEC_DLREL_COUNT n + 1) (2 ^ DEC_DLREL_COUNT.w - 1))
        ∧ Frame (regsIn [.DEC_OCC, .DEC_PASS, .DEC_FAIL, .DEC_DLREL, .DEC_FLIPS, .DEC_FHIST, .DEC_CW_LO, .DEC_SPEC_RES])
            (varsAt [(.slotPeak, n / 4), (.cwHigh, n.val), (.relNum, n.val), (.relCyc, n.val), (.pipRel, n.val), (.pipDl, n.val), (.eqFlips, n.val),
              (.eqBits, n.val)]) [.cws, .finals, .capQ] s t)
  ∧ (∀ (s : State) (n : Fin 8) (cyc : Nat) (d : Dev), d = s.dev.dueResults n cyc →
      (∀ x ∈ d.cws, x.lane = n.val → x.rel.isSome = true → d.deadline x ≤ cyc → x.fin = true) →
      (∀ c, d.headCw n = some c → cyc < d.deadline c ∨ d.relOk n cyc = false) → Completes (.cwDeadline n cyc) s fun t =>
        t.mem = s.mem ∧ t.pending = s.pending ∧ Keeps noKey noKey [] d t.dev)

/-- HUNT_WINDOW_END of a hunting lane with no change of lock waiting, its window complete, begins the next window; while the hunter searches,
the first candidate of its group of eight that reaches LOCK_MIN is the one found, lock waits for the boundary if CONFIRM is 0 and else
confirmation begins, and with none found the next group follows; in confirmation, a window that reaches LOCK_MIN is counted, lock waits once
CONFIRM of them are, and one that does not sends the hunter to the next group. On an L200 lane the verdict of the standard's criteria
decides alone. Else nothing changes. LOCK_WINDOW_END of a locked lane whose loss of lock is evaluated, after 128 arrivals, starts a new
window and counts a bad one (fewer zero syndromes than LOSS_MIN), a good one ending the count; LOSS_WIN bad windows in a row leave a loss
waiting; on an L200 lane the verdict decides alone; else nothing changes. DEC_REHUNT on an L400 lane leaves a rehunt waiting unless a loss
waits; on other lanes nothing changes. DEC_PIP_END while the receive grid runs puts a waiting lock, loss (with CW_LOST and LOCK_LOSS) or
rehunt in force, with a new hunt while CONV is set, sets DL_BURST_EV when the pip had DL_BURST deadline releases or more (not at 0), counts
a pip of a ready code-mode lane without lock and without a release in DEC_UNLOCKED, and puts a waiting D and maximum of passes in force;
while no grid runs nothing changes. DEC_DEADLINE_WRITE on a code-mode lane leaves the written D, limited to 2 to 6 and to the seed's D,
waiting on every lane of the port, and sets DL_CLAMP if a limit changed it. DEC_MAXPASS_WRITE on one leaves the written maximum, limited to
4 and to the seed's, in MAXPASS, waiting also reduced by the throttle profile in force, and sets MP_CLAMP if a limit changed it. On other
lanes nothing changes. (Rests on R33, R114 to R116, R128 to R130.) -/
def Obligations.CodewordSync : Prop :=
  (∀ (s : State) (n : Fin 8) (verdict : Bool) (p i : Nat), s.dev.on DEC_STATUS_HUNTING n = true → s.dev.v .cwPend n = 0 → s.dev.mode n ≠ some .l200 →
      s.dev.huntReady n = true → s.dev.v .huntConf n = 0 → p = (s.dev.v .huntPos n).toNat → i < 8 → p + i < s.dev.blockSyms n →
      max 1 (min 128 (s.dev.get DEC_LOCK_LOCK_MIN n)) ≤ s.dev.huntCount n (p + i) →
      (∀ j < i, s.dev.huntCount n (p + j) < max 1 (min 128 (s.dev.get DEC_LOCK_LOCK_MIN n))) → Completes (.huntWindowEnd n verdict) s fun t =>
        t.dev.v .huntCand n = (p + i : Nat) ∧ t.dev.v .huntSym n = s.dev.v .huntSym n + s.dev.windowSyms n
        ∧ (s.dev.get DEC_LOCK_CONFIRM n = 0 → t.dev.v .cwPend n = 1) ∧ (s.dev.get DEC_LOCK_CONFIRM n ≠ 0 → t.dev.v .huntConf n = 1 ∧ t.dev.v .cwPend n = 0)
        ∧ Frame noKey (varsAt [(.huntCand, n.val), (.huntSym, n.val), (.huntConf, n.val), (.cwPend, n.val)]) [] s t)
  ∧ (∀ (s : State) (n : Fin 8) (verdict : Bool) (p : Nat), s.dev.on DEC_STATUS_HUNTING n = true → s.dev.v .cwPend n = 0 → s.dev.mode n ≠ some .l200 →
      s.dev.huntReady n = true → p = (s.dev.v .huntPos n).toNat → 0 ≤ s.dev.v .huntPos n →
      (s.dev.v .huntConf n = 0 ∧ (∀ j < 8, p + j < s.dev.blockSyms n → s.dev.huntCount n (p + j) < max 1 (min 128 (s.dev.get DEC_LOCK_LOCK_MIN n))) ∨
        s.dev.v .huntConf n ≠ 0 ∧ s.dev.huntCount n (s.dev.v .huntCand n).toNat < max 1 (min 128 (s.dev.get DEC_LOCK_LOCK_MIN n))) →
      Completes (.huntWindowEnd n verdict) s fun t =>
        t.dev.v .huntPos n = ((if p + 8 < s.dev.blockSyms n then p + 8 else 0 : Nat) : Int) ∧ t.dev.v .huntConf n = 0 ∧ t.dev.v .cwPend n = 0
        ∧ t.dev.v .huntSym n = s.dev.v .huntSym n + s.dev.windowSyms n
        ∧ Frame noKey (varsAt [(.huntPos, n.val), (.huntSym, n.val), (.huntConf, n.val)]) [] s t)
  ∧ (∀ (s : State) (n : Fin 8) (verdict : Bool), s.dev.on DEC_STATUS_HUNTING n = true → s.dev.v .cwPend n = 0 → s.dev.mode n ≠ some .l200 →
      s.dev.huntReady n = true → s.dev.v .huntConf n ≠ 0 →
      max 1 (min 128 (s.dev.get DEC_LOCK_LOCK_MIN n)) ≤ s.dev.huntCount n (s.dev.v .huntCand n).toNat → Completes (.huntWindowEnd n verdict) s fun t =>
        ((s.dev.get DEC_LOCK_CONFIRM n : Nat) ≤ s.dev.v .huntConf n → t.dev.v .cwPend n = 1)
        ∧ (s.dev.v .huntConf n < (s.dev.get DEC_LOCK_CONFIRM n : Nat) → t.dev.v .huntConf n = s.dev.v .huntConf n + 1 ∧ t.dev.v .cwPend n = 0)
        ∧ t.dev.v .huntSym n = s.dev.v .huntSym n + s.dev.windowSyms n
        ∧ Frame noKey (varsAt [(.huntSym, n.val), (.huntConf, n.val), (.cwPend, n.val)]) [] s t)
  ∧ (∀ (s : State) (n : Fin 8), s.dev.on DEC_STATUS_HUNTING n = true → s.dev.v .cwPend n = 0 → s.dev.mode n = some .l200 →
      Completes (.huntWindowEnd n true) s fun t => t.dev.v .cwPend n = 1 ∧ Frame noKey (varsAt [(.cwPend, n.val)]) [] s t)
  ∧ (∀ (s : State) (n : Fin 8) (verdict : Bool), (s.dev.on DEC_STATUS_HUNTING n = false ∨ s.dev.v .cwPend n ≠ 0 ∨ s.dev.mode n = some .l200 ∧ verdict = false ∨
        s.dev.mode n ≠ some .l200 ∧ s.dev.huntReady n = false) → Completes (.huntWindowEnd n verdict) s fun t => Still s t)
  ∧ (∀ (s : State) (n : Fin 8) (verdict : Bool), s.dev.on DEC_STATUS_CW_LOCK n = true → s.dev.lossHeld n = false → s.dev.mode n ≠ some .l200 →
      128 ≤ s.dev.v .lockArr n → Completes (.lockWindowEnd n verdict) s fun t =>
        t.dev.v .lockArr n = 0 ∧ t.dev.v .lockZero n = 0
        ∧ t.dev.v .lockBad n = (if s.dev.v .lockZero n < (min 128 (s.dev.get DEC_LOCK_LOSS_MIN n) : Nat) then s.dev.v .lockBad n + 1 else 0)
        ∧ t.dev.v .cwPend n = (if (max 1 (s.dev.get DEC_LOCK_LOSS_WIN n) : Nat) ≤ t.dev.v .lockBad n then 2 else s.dev.v .cwPend n)
        ∧ Frame noKey (varsAt [(.lockArr, n.val), (.lockZero, n.val), (.lockBad, n.val), (.cwPend, n.val)]) [] s t)
  ∧ (∀ (s : State) (n : Fin 8), s.dev.on DEC_STATUS_CW_LOCK n = true → s.dev.lossHeld n = false → s.dev.mode n = some .l200 →
      Completes (.lockWindowEnd n true) s fun t => t.dev.v .cwPend n = 2 ∧ Frame noKey (varsAt [(.cwPend, n.val)]) [] s t)
  ∧ (∀ (s : State) (n : Fin 8) (verdict : Bool), (s.dev.on DEC_STATUS_CW_LOCK n = false ∨ s.dev.lossHeld n = true ∨ s.dev.mode n = some .l200 ∧ verdict = false ∨
        s.dev.mode n ≠ some .l200 ∧ s.dev.v .lockArr n < 128) → Completes (.lockWindowEnd n verdict) s fun t => Still s t)
  ∧ (∀ (s : State) (n : Fin 8), (s.dev.mode n = some .l400e ∨ s.dev.mode n = some .l400s) → s.dev.v .cwPend n ≠ 2 → Completes (.decRehunt n) s fun t =>
        t.dev.v .cwPend n = 3 ∧ Frame noKey (varsAt [(.cwPend, n.val)]) [] s t)
  ∧ (∀ (s : State) (n : Fin 8), (s.dev.mode n ≠ some .l400e ∧ s.dev.mode n ≠ some .l400s ∨ s.dev.v .cwPend n = 2) → Completes (.decRehunt n) s fun t =>
        Still s t)
  ∧ (∀ (s : State) (n : Fin 8), s.dev.flag .rxGrid n = true → Completes (.decPipEnd n) s fun t =>
        ((s.dev.v .cwPend n = 1 ∨ s.dev.v .cwPend n = 2 ∨ s.dev.v .cwPend n = 3) → t.dev.v .cwPend n = 0) ∧ t.dev.v .pipDl n = 0 ∧ t.dev.v .pipRel n = 0 ∧ t.dev.v .dNext n = 0 ∧ t.dev.v .mpNext n = 0
        ∧ (s.dev.v .cwPend n = 1 → t.dev.get DEC_STATUS_CW_LOCK n = 1 ∧ t.dev.get DEC_STATUS_HUNTING n = 0)
        ∧ ((s.dev.v .cwPend n = 2 ∨ s.dev.v .cwPend n = 3) → t.dev.get DEC_STATUS_CW_LOCK n = 0)
        ∧ (s.dev.v .cwPend n = 2 → s.dev.on DEC_STATUS_CW_LOCK n = true → t.dev.get DEC_STATUS_CW_LOST n = 1
          ∧ t.dev.get DEC_MISC_LOCK_LOSS n = min (s.dev.get DEC_MISC_LOCK_LOSS n + 1) (2 ^ DEC_MISC_LOCK_LOSS.w - 1))
        ∧ ((s.dev.v .cwPend n = 2 ∨ s.dev.v .cwPend n = 3) → s.dev.on LL_EQ_STATUS_CONV n = true → t.dev.get DEC_STATUS_HUNTING n = 1 ∧ t.dev.v .huntPos n = 0)
        ∧ (s.dev.get DEC_CTRL_DL_BURST n ≠ 0 → (s.dev.get DEC_CTRL_DL_BURST n : Nat) ≤ s.dev.v .pipDl n → t.dev.get DEC_STATUS_DL_BURST_EV n = 1)
        ∧ t.dev.get DEC_UNLOCKED_COUNT n = min (s.dev.get DEC_UNLOCKED_COUNT n + b2n (s.dev.hasCode n && s.dev.on LL_ADC_STATUS_READY n
            && !(s.dev.on DEC_STATUS_CW_LOCK n) && s.dev.v .pipRel n == 0)) (2 ^ DEC_UNLOCKED_COUNT.w - 1)
        ∧ (1 ≤ s.dev.v .dNext n → s.dev.v .dNext n ≤ 7 → t.dev.get DEC_STATUS_D_NOW n = (s.dev.v .dNext n).toNat)
        ∧ (1 ≤ s.dev.v .mpNext n → s.dev.v .mpNext n ≤ 5 → t.dev.get DEC_STATUS_MAXP_NOW n = (s.dev.v .mpNext n - 1).toNat)
        ∧ Frame (orKey (regsIn [.DEC_STATUS, .DEC_UNLOCKED, .DEC_BSTATUS, .DEC_MISC, .DEC_CTRL, .DEC_PASS, .DEC_FAIL, .DEC_FLIPS, .DEC_FHIST, .GBX_LL,
            .LL_EQ_EXCL]) linked) (orKey (fun k => varOfLine n k = true) (orKey (varsIn linkVars) (varsAt [(.slotPeak, n / 4), (.cwPend, n.val), (.dNext, n.val),
            (.mpNext, n.val)]))) [.cws, .finals, .capQ, .events, .fresh] s t)
  ∧ (∀ (s : State) (n : Fin 8), s.dev.flag .rxGrid n = false → Completes (.decPipEnd n) s fun t => Still s t)
  ∧ (∀ (s : State) (n : Fin 8) (v : BitVec 3) (sl x : Nat), s.dev.hasCode n = true → s.dev.slotOfLine n = some sl →
      x = min (max 2 (min 6 v.toNat)) (s.dev.get DEC_STATUS_SEED_D n) → Completes (.decDeadlineWrite n v) s fun t =>
        (∀ k ∈ s.dev.linesOf sl, t.dev.v .dNext k = x)
        ∧ t.dev.get DEC_STATUS_DL_CLAMP n = (if x ≠ v.toNat then 1 else s.dev.get DEC_STATUS_DL_CLAMP n)
        ∧ Frame (fieldsAt [(DEC_STATUS_DL_CLAMP, n.val)]) (varsAt ((s.dev.linesOf sl).map (fun k => (.dNext, k)))) [] s t)
  ∧ (∀ (s : State) (n : Fin 8) (v : BitVec 3), s.dev.hasCode n = false → Completes (.decDeadlineWrite n v) s fun t =>
        Still s t)
  ∧ (∀ (s : State) (n : Fin 8) (v : BitVec 3) (x : Nat), s.dev.hasCode n = true → x = min (min 4 v.toNat) (s.dev.get DEC_STATUS_SEED_MAXP n) →
      Completes (.decMaxpassWrite n v) s fun t =>
        t.dev.v .mpNext n = (s.dev.profMaxp n x : Nat) + 1 ∧ t.dev.get DEC_CTRL_MAXPASS n = x
        ∧ t.dev.get DEC_STATUS_MP_CLAMP n = (if x ≠ v.toNat then 1 else s.dev.get DEC_STATUS_MP_CLAMP n)
        ∧ Frame (fieldsAt [(DEC_STATUS_MP_CLAMP, n.val), (DEC_CTRL_MAXPASS, n.val)]) (varsAt [(.mpNext, n.val)]) [] s t)
  ∧ (∀ (s : State) (n : Fin 8) (v : BitVec 3), s.dev.hasCode n = false → Completes (.decMaxpassWrite n v) s fun t =>
        Still s t)

/-- HL_RX_CONTROL_WRITE of the tap that INDEX selects sets an FFE tap (0 to 15, Q2.10), h1 (16, Q1.9 limited to ±0.5) or nothing; of the word it
sets PEAK, POLE and AUTO of HL_RX_CTLE. HL_SIG_DET_CHANGE of an enabled lane sets or clears SIG_DET; a clearing latches SIG_LOST if it was
set, and ends the lock with LOCK_LOST if locked. HL_CDR_INTERVAL of an enabled lane reports the SNR of R136, takes the estimate limited to
±300 ppm while SIG_DET is set, judges FREQ_RANGE, ends the lock when that is set, SIG_DET clear or the estimate moved more than 8 ppm,
counts an interval that moved less than 2 ppm, the fourth in a row locking, and otherwise counts anew; with AUTO = 0 no control adapts, with
AUTO = 1 and FRZ_DFE = 0 h1 moves by its LMS step (its unit the model's choice, assumption 86). On a disabled lane both change nothing.
(Rests on R136 to R138.) -/
def Obligations.HostReceiver : Prop :=
  (∀ (s : State) (m : Fin 16) (value : Nat), s.dev.get HL_RX_TAP_SEL_INDEX m < 16 → Completes (.hlRxControlWrite m true value) s fun t =>
      t.dev.v .hlFfe (16 * m + s.dev.get HL_RX_TAP_SEL_INDEX m) = sext 12 (value % 2 ^ 12)
      ∧ Frame noKey (varsAt [(.hlFfe, m.val * 16 + s.dev.get HL_RX_TAP_SEL_INDEX m)]) [] s t)
  ∧ (∀ (s : State) (m : Fin 16) (value : Nat), s.dev.get HL_RX_TAP_SEL_INDEX m = 16 → Completes (.hlRxControlWrite m true value) s fun t =>
      t.dev.v .hlH1 m = max (-256) (min 256 (sext 10 (value % 2 ^ 10))) ∧ Frame noKey (varsAt [(.hlH1, m.val)]) [] s t)
  ∧ (∀ (s : State) (m : Fin 16) (value : Nat), 16 < s.dev.get HL_RX_TAP_SEL_INDEX m → Completes (.hlRxControlWrite m true value) s fun t => Still s t)
  ∧ (∀ (s : State) (m : Fin 16) (value : Nat), Completes (.hlRxControlWrite m false value) s fun t =>
      t.dev.get HL_RX_CTLE_PEAK m = value % 32 ∧ t.dev.get HL_RX_CTLE_POLE m = value / 32 % 4 ∧ t.dev.get HL_RX_CTLE_AUTO m = value / 128 % 2
      ∧ Frame (fieldsAt [(HL_RX_CTLE_PEAK, m.val), (HL_RX_CTLE_POLE, m.val), (HL_RX_CTLE_AUTO, m.val)]) noKey [] s t)
  ∧ (∀ (s : State) (m : Fin 16), s.dev.on HL_STATUS_ENABLED m = true → Completes (.hlSigDetChange m false) s fun t =>
        t.dev.get HL_STATUS_SIG_DET m = 0 ∧ t.dev.get HL_STATUS_CDR_LOCK m = 0 ∧ t.dev.v .hlStable m = 0
        ∧ (s.dev.on HL_STATUS_SIG_DET m = true → t.dev.get HL_STATUS_SIG_LOST m = 1) ∧ (s.dev.on HL_STATUS_CDR_LOCK m = true → t.dev.get HL_STATUS_LOCK_LOST m = 1)
        ∧ Frame (orKey (fieldsAt [(HL_STATUS_SIG_DET, m), (HL_STATUS_SIG_LOST, m), (HL_STATUS_CDR_LOCK, m), (HL_STATUS_LOCK_LOST, m)]) linked)
            (orKey (varsAt [(.hlStable, m.val)]) (varsIn linkVars)) [] s t)
  ∧ (∀ (s : State) (m : Fin 16), s.dev.on HL_STATUS_ENABLED m = true → Completes (.hlSigDetChange m true) s fun t => t.dev.get HL_STATUS_SIG_DET m = 1
        ∧ Frame (orKey (fieldsAt [(HL_STATUS_SIG_DET, m)]) linked) (varsIn linkVars) [] s t)
  ∧ (∀ (s : State) (m : Fin 16) (up : Bool), s.dev.on HL_STATUS_ENABLED m = false → Completes (.hlSigDetChange m up) s fun t => Still s t)
  ∧ (∀ (s : State) (m : Fin 16) (est e x : Int) (mse : Nat) (g : HostRx) (fr : Bool), s.dev.on HL_STATUS_ENABLED m = true →
      e = (if s.dev.on HL_STATUS_SIG_DET m then max (-300000) (min 300000 est) else s.dev.v .hlEst m) → x = absI (e - s.dev.v .hlEst m) →
      fr = freqRange (s.dev.on HL_STATUS_FREQ_RANGE m) e → Completes (.hlCdrInterval m est mse g) s fun t =>
        t.dev.v .hlEst m = e ∧ t.dev.get HL_RX_SNR_SNR m = hostSnr10 mse ∧ t.dev.on HL_STATUS_FREQ_RANGE m = fr
        ∧ ((fr || !(s.dev.on HL_STATUS_SIG_DET m) || decide (8000 < x)) = true → t.dev.get HL_STATUS_CDR_LOCK m = 0 ∧ t.dev.v .hlStable m = 0
          ∧ (s.dev.on HL_STATUS_CDR_LOCK m = true → t.dev.get HL_STATUS_LOCK_LOST m = 1))
        ∧ ((fr || !(s.dev.on HL_STATUS_SIG_DET m)) = false → x < 2000 → t.dev.v .hlStable m = s.dev.v .hlStable m + 1
          ∧ t.dev.on HL_STATUS_CDR_LOCK m = (decide (3 ≤ s.dev.v .hlStable m) || s.dev.on HL_STATUS_CDR_LOCK m))
        ∧ ((fr || !(s.dev.on HL_STATUS_SIG_DET m)) = false → 2000 ≤ x → x ≤ 8000 → t.dev.v .hlStable m = 0
          ∧ t.dev.on HL_STATUS_CDR_LOCK m = s.dev.on HL_STATUS_CDR_LOCK m)
        ∧ (s.dev.on HL_RX_CTLE_AUTO m = false → t.dev.get HL_RX_CTLE_PEAK m = s.dev.get HL_RX_CTLE_PEAK m ∧ t.dev.v .hlH1 m = s.dev.v .hlH1 m
          ∧ ∀ k < 16, t.dev.v .hlFfe (16 * m + k) = s.dev.v .hlFfe (16 * m + k))
        ∧ (s.dev.on HL_RX_CTLE_AUTO m = true → s.dev.on HL_RX_ADAPT_FRZ_DFE m = false →
          t.dev.v .hlH1 m = max (-256) (min 256 (s.dev.v .hlH1 m + rdiv g.h1 (2 ^ max 4 (s.dev.get HL_RX_ADAPT_MU m)))))
        ∧ (s.dev.get HL_TRAIN_STATUS_STATE m = 3 → s.dev.v .hlPhase m = 7 → s.dev.get HL_TRAIN_TH_RX_SNR_MIN m ≤ hostSnr10 mse →
          t.dev.get HL_TRAIN_STATUS_LOCAL_RDY m = 1 ∧ t.dev.get HL_TRAIN_STATUS_STATE m = if s.dev.on HL_TRAIN_STATUS_REMOTE_RDY m then 5 else 4)
        ∧ Frame (orKey (fieldsAt [(HL_RX_CTLE_PEAK, m.val), (HL_RX_CTLE_POLE, m.val), (HL_RX_SNR_SNR, m.val), (HL_STATUS_CDR_LOCK, m.val),
            (HL_STATUS_LOCK_LOST, m.val), (HL_STATUS_FREQ_RANGE, m.val), (HL_TRAIN_STATUS_STATE, m.val), (HL_TRAIN_STATUS_LOCAL_RDY, m.val)]) linked)
            (orKey (varsIn (.hlFfe :: linkVars)) (varsAt [(.hlEst, m.val), (.hlH1, m.val), (.hlStable, m.val), (.hlPeakAcc, m.val)])) [] s t)
  ∧ (∀ (s : State) (m : Fin 16) (est : Int) (mse : Nat) (g : HostRx), s.dev.on HL_STATUS_ENABLED m = false →
      Completes (.hlCdrInterval m est mse g) s fun t => Still s t)

/-- HL_TX_APPLY outside training puts a set in force within the ranges of R140, with c(0) what the other coefficients leave of 64 and at least
32, and clears APPLY_PEND; a pending set that meets these goes in force as it is, one that does not sets TX_LIMIT; HL_PRESET_LOAD writes
PRESET and outside training loads the preset's set (preset 1 for a number that the rate does not define) and applies it; during training
neither changes a coefficient. HL_PAT_GEN_WRITE writes GEN; a generator on puts training to OFF. HL_PAT_CHECK_WINDOW of one symbol, taken
after POL_RX and RX_PRECODE, at an unlocked checker locks it when it is the 64th in a row that agrees, and at a locked one counts its bit
errors and ends the lock when a window of 1024 symbols then held more than 128 symbol errors; with the checker off nothing changes, and a
longer list touches only the lane's checker. HL_CHK_RESTART clears lock and count. HL_TX_READY sets TX_READY when the lane settles after
electrical idle, and starts training unless it is held at OFF; else nothing changes. (Rests on R140, R141, R148 to R150.) -/
def Obligations.HostTransmitter : Prop :=
  (∀ (s : State) (m : Fin 16), s.dev.training m = false → Completes (.hlTxApply m) s fun t =>
      (∀ i < 5, (coefRange.getD i (0, 0)).1 ≤ t.dev.v .hlCoef (5 * m + i) ∧ t.dev.v .hlCoef (5 * m + i) ≤ (coefRange.getD i (0, 0)).2)
      ∧ (t.dev.get HL_TX_COEF1_C0 m : Int) = 64 - absI (t.dev.v .hlCoef (5 * m + 0)) - absI (t.dev.v .hlCoef (5 * m + 1)) - absI (t.dev.v .hlCoef (5 * m + 2)) - absI (t.dev.v .hlCoef (5 * m + 3)) - absI (t.dev.v .hlCoef (5 * m + 4)) ∧ 32 ≤ t.dev.get HL_TX_COEF1_C0 m
      ∧ ((∀ i < 5, (coefRange.getD i (0, 0)).1 ≤ (s.dev.hlPend m).getD i 0 ∧ (s.dev.hlPend m).getD i 0 ≤ (coefRange.getD i (0, 0)).2) → ((s.dev.hlPend m).map absI).sum ≤ 32 →
        (∀ i < 5, t.dev.v .hlCoef (5 * m + i) = (s.dev.hlPend m).getD i 0) ∧ t.dev.get HL_STATUS_TX_LIMIT m = s.dev.get HL_STATUS_TX_LIMIT m)
      ∧ (((∃ i < 5, (s.dev.hlPend m).getD i 0 < (coefRange.getD i (0, 0)).1 ∨ (coefRange.getD i (0, 0)).2 < (s.dev.hlPend m).getD i 0) ∨ 32 < ((s.dev.hlPend m).map absI).sum) →
        t.dev.get HL_STATUS_TX_LIMIT m = 1)
      ∧ t.dev.get HL_STATUS_APPLY_PEND m = 0
      ∧ Frame (fieldsAt [(HL_TX_COEF1_C0, m), (HL_STATUS_TX_LIMIT, m), (HL_STATUS_APPLY_PEND, m)])
          (varsAt [(.hlCoef, 5 * m), (.hlCoef, 5 * m + 1), (.hlCoef, 5 * m + 2), (.hlCoef, 5 * m + 3), (.hlCoef, 5 * m + 4)]) [] s t)
  ∧ (∀ (s : State) (m : Fin 16), s.dev.training m = true → Completes (.hlTxApply m) s fun t => Still s t)
  ∧ (∀ (s : State) (m : Fin 16) (p : Fin 8), s.dev.training m = false → Completes (.hlPresetLoad m p) s fun t =>
      t.dev.get HL_TX_CTRL_PRESET m = p.val ∧ t.dev.get HL_STATUS_APPLY_PEND m = 0
      ∧ (∀ i < 5, t.dev.v .hlCoef (5 * m + i) = (limitSet (t.dev.hlPend m)).getD i 0)
      ∧ t.dev.hlPend m = [sext HL_TX_COEF0_CM3.w (twos HL_TX_COEF0_CM3.w ((s.dev.hlPreset m p).getD 0 0)),
          sext HL_TX_COEF0_CM2.w (twos HL_TX_COEF0_CM2.w ((s.dev.hlPreset m p).getD 1 0)), sext HL_TX_COEF0_CM1.w (twos HL_TX_COEF0_CM1.w ((s.dev.hlPreset m p).getD 2 0)),
          sext HL_TX_COEF0_CP1.w (twos HL_TX_COEF0_CP1.w ((s.dev.hlPreset m p).getD 3 0)), sext HL_TX_COEF1_CP2.w (twos HL_TX_COEF1_CP2.w ((s.dev.hlPreset m p).getD 4 0))]
      ∧ Frame (orKey (fieldsAt [(HL_TX_CTRL_PRESET, m), (HL_STATUS_TX_LIMIT, m), (HL_STATUS_APPLY_PEND, m)]) (regsAt [(.HL_TX_COEF0, m.val), (.HL_TX_COEF1, m.val)]))
          (varsAt [(.hlCoef, 5 * m), (.hlCoef, 5 * m + 1), (.hlCoef, 5 * m + 2), (.hlCoef, 5 * m + 3), (.hlCoef, 5 * m + 4)]) [] s t)
  ∧ (∀ (s : State) (m : Fin 16) (p : Fin 8), s.dev.training m = true → Completes (.hlPresetLoad m p) s fun t =>
      t.dev.get HL_TX_CTRL_PRESET m = p.val ∧ Frame (fieldsAt [(HL_TX_CTRL_PRESET, m)]) noKey [] s t)
  ∧ (∀ (s : State) (m : Fin 16) (gen : Fin 8), Completes (.hlPatGenWrite m gen) s fun t => t.dev.get HL_PAT_GEN m = gen.val
      ∧ (1 ≤ gen.val → gen.val ≤ 5 → t.dev.get HL_TRAIN_STATUS_STATE m = 0)
      ∧ Frame (orKey (fieldsAt [(HL_PAT_GEN, m), (HL_TRAIN_STATUS_STATE, m), (HL_TRAIN_STATUS_LOCAL_RDY, m), (HL_TRAIN_STATUS_REMOTE_RDY, m)]) linked)
          (orKey (varsAt [(.hlPhase, m.val), (.hlHoldoff, m.val), (.hlPatPos, m.val), (.hlPrbs, m.val)]) (varsIn linkVars)) [.fresh] s t)
  ∧ (∀ (s : State) (m : Fin 16) (x : Fin 4) (y c : Nat), c = s.dev.get HL_PAT_CHK m → 1 ≤ c → c ≤ 2 → s.dev.on HL_PAT_CHK_LOCK m = false →
      y = (hlDecode (s.dev.on HL_CTRL_POL_RX m) (s.dev.on HL_CTRL_RX_PRECODE m) (s.dev.v .hlPreRx m).toNat [x.val]).1.headD 0 →
      Completes (.hlPatCheckWindow m [x]) s fun t =>
        t.dev.on HL_PAT_CHK_LOCK m = (decide ((if c = 2 then 7 else 16) ≤ s.dev.v .hlChkHist m) && (prbsSym (c == 2) (s.dev.v .hlChkReg m).toNat).1 == y
          && decide (63 ≤ s.dev.v .hlChkRun m)))
  ∧ (∀ (s : State) (m : Fin 16) (x : Fin 4) (y : Nat), s.dev.get HL_PAT_CHK m = 3 → s.dev.on HL_PAT_CHK_LOCK m = false →
      y = (hlDecode (s.dev.on HL_CTRL_POL_RX m) (s.dev.on HL_CTRL_RX_PRECODE m) (s.dev.v .hlPreRx m).toNat [x.val]).1.headD 0 →
      Completes (.hlPatCheckWindow m [x]) s fun t =>
        t.dev.on HL_PAT_CHK_LOCK m = ((s.dev.userAlign m (((s.dev.v .hlChkHist m).toNat * 4 + y) % 4 ^ 64)).isSome && decide (63 ≤ s.dev.v .hlChkRun m)))
  ∧ (∀ (s : State) (m : Fin 16) (x : Fin 4) (y z : Nat), s.dev.chkOn m = true → s.dev.on HL_PAT_CHK_LOCK m = true →
      y = (hlDecode (s.dev.on HL_CTRL_POL_RX m) (s.dev.on HL_CTRL_RX_PRECODE m) (s.dev.v .hlPreRx m).toNat [x.val]).1.headD 0 →
      z = (if s.dev.get HL_PAT_CHK m = 3 then s.dev.userSym m (s.dev.v .hlChkReg m).toNat
        else (prbsSym (s.dev.get HL_PAT_CHK m == 2) (s.dev.v .hlChkReg m).toNat).1) → Completes (.hlPatCheckWindow m [x]) s fun t =>
        t.dev.get HL_PAT_ERR_COUNT m = min (s.dev.get HL_PAT_ERR_COUNT m + levelErrs y z) (2 ^ HL_PAT_ERR_COUNT.w - 1)
        ∧ t.dev.on HL_PAT_CHK_LOCK m = !(decide (1023 ≤ s.dev.v .hlChkWin m) && decide (128 < s.dev.v .hlChkErr m + b2n (y != z))))
  ∧ (∀ (s : State) (m : Fin 16) (syms : List (Fin 4)), s.dev.chkOn m = true → Completes (.hlPatCheckWindow m syms) s fun t =>
        Frame (fieldsAt [(HL_PAT_CHK_LOCK, m), (HL_PAT_ERR_COUNT, m)]) (varsAt [(.hlPreRx, m.val), (.hlChkReg, m.val), (.hlChkRun, m.val), (.hlChkHist, m.val),
          (.hlChkWin, m.val), (.hlChkErr, m.val)]) [] s t)
  ∧ (∀ (s : State) (m : Fin 16) (syms : List (Fin 4)), s.dev.chkOn m = false → Completes (.hlPatCheckWindow m syms) s fun t => Still s t)
  ∧ (∀ (s : State) (m : Fin 16), Completes (.hlChkRestart m) s fun t => t.dev.get HL_PAT_CHK_LOCK m = 0 ∧ t.dev.get HL_PAT_ERR_COUNT m = 0
      ∧ t.dev.v .hlChkRun m = 0 ∧ Frame (fieldsAt [(HL_PAT_CHK_LOCK, m), (HL_PAT_ERR_COUNT, m)])
          (varsAt [(.hlChkReg, m.val), (.hlChkRun, m.val), (.hlChkHist, m.val), (.hlChkWin, m.val), (.hlChkErr, m.val)]) [] s t)
  ∧ (∀ (s : State) (m : Fin 16), s.dev.flag .hlExit m = true → Completes (.hlTxReady m) s fun t =>
      t.dev.v .hlExit m = 0 ∧ (s.dev.trainHeld m = false → t.dev.get HL_TRAIN_STATUS_STATE m = 2)
      ∧ (s.dev.trainHeld m = true → t.dev.get HL_TRAIN_STATUS_STATE m = s.dev.get HL_TRAIN_STATUS_STATE m)
      ∧ ((∀ sl, s.dev.slotOfHost m = some sl → s.dev.flag .portHold sl = false) → t.dev.get HL_STATUS_TX_READY m = 1)
      ∧ Frame (orKey (regsAt [(.HL_TRAIN_STATUS, m.val), (.HL_TX_COEF0, m.val), (.HL_TX_COEF1, m.val), (.HL_STATUS, m.val)]) linked)
          (orKey (varsAt [(.hlExit, m.val), (.hlPhase, m.val), (.hlHoldoff, m.val), (.hlPeakAcc, m.val)]) (varsIn linkVars)) [] s t)
  ∧ (∀ (s : State) (m : Fin 16), s.dev.flag .hlExit m = false → Completes (.hlTxReady m) s fun t => Still s t)

/-- HL_TRAIN_RESTART clears REQ_COUNT and both readiness bits and begins at SEND_TRAINING, or at WAIT_TX in electrical idle; while training is
held it leaves OFF. HL_TRAIN_ABORT leaves OFF. HL_PARTNER_FRAME_LOCK in SEND_TRAINING enters TRAIN_LOCAL and requests INIT_PRESET; its loss
in SEND_DATA restarts training; else it changes nothing. HL_PARTNER_REQUEST counts in PARTNER_REQ; in TRAIN_LOCAL to LINK_READY it is
answered: a preset of the rate goes in force (updated; else not supported), precoding is set (updated), a step goes in force if its
coefficient stays in range and c(0) at 32 or more (updated; else at maximum or minimum), a step of an unknown coefficient is not supported.
HL_PARTNER_RESPONSE in TRAIN_LOCAL: not supported to the first preset asks for preset 1; the answer to a preset, to a step (updated) or to a
step back opens the settling window; a step answered otherwise reverses the direction and the loop goes on. HL_MEAS_WINDOW in TRAIN_LOCAL:
the first reading is the best, and the first tap's step is asked for; a reading better by more than THRESH is kept and the loop goes on,
else the step back is asked for; after the step back the direction is reversed and the loop goes on; once the loop has ended readiness is
judged. HL_PARTNER_READY sets REMOTE_RDY in TRAIN_LOCAL and TRAIN_REMOTE, and leads from the latter to LINK_READY. HL_WAIT_TIMER leads from
LINK_READY to SEND_DATA. HL_TRAIN_TIMEOUT before LINK_READY, TMO not 0, leads to FAIL with TRAIN_FAIL and FAILS. HL_HRETRAIN_HOLDOFF in FAIL
with the holdoff running restarts training. In every other state these commands change nothing. (Rests on R143 to R147, R174.) -/
def Obligations.HostTraining : Prop :=
  (∀ (s : State) (m : Fin 16), s.dev.trainHeld m = false → Completes (.hlTrainRestart m) s fun t =>
      t.dev.get HL_TRAIN_STATUS_STATE m = (if s.dev.on HL_STATUS_TX_READY m then 2 else 1) ∧ t.dev.get HL_TRAIN_STATUS_REQ_COUNT m = 0
      ∧ t.dev.get HL_TRAIN_STATUS_LOCAL_RDY m = 0 ∧ t.dev.get HL_TRAIN_STATUS_REMOTE_RDY m = 0
      ∧ Frame (orKey (regsAt [(.HL_TRAIN_STATUS, m.val), (.HL_TX_COEF0, m.val), (.HL_TX_COEF1, m.val)]) linked)
          (orKey (varsAt [(.hlPeakAcc, m.val), (.hlPhase, m.val), (.hlHoldoff, m.val)]) (varsIn linkVars)) [] s t)
  ∧ (∀ (s : State) (m : Fin 16), s.dev.trainHeld m = true → Completes (.hlTrainRestart m) s fun t => t.dev.get HL_TRAIN_STATUS_STATE m = 0
      ∧ Frame (orKey (regsAt [(.HL_TRAIN_STATUS, m.val)]) linked) (orKey (varsAt [(.hlPhase, m.val), (.hlHoldoff, m.val)]) (varsIn linkVars)) [] s t)
  ∧ (∀ (s : State) (m : Fin 16), Completes (.hlTrainAbort m) s fun t => t.dev.get HL_TRAIN_STATUS_STATE m = 0
      ∧ Frame (orKey (regsAt [(.HL_TRAIN_STATUS, m.val)]) linked) (orKey (varsAt [(.hlPhase, m.val), (.hlHoldoff, m.val)]) (varsIn linkVars)) [] s t)
  ∧ (∀ (s : State) (m : Fin 16), s.dev.get HL_TRAIN_STATUS_STATE m = 2 → Completes (.hlPartnerFrameLock m true) s fun t =>
      t.dev.get HL_TRAIN_STATUS_STATE m = 3 ∧ t.dev.v .hlPhase m = 1 ∧ Out.trainReq m (.preset (s.dev.get HL_TRAIN_CFG_INIT_PRESET m)) ∈ t.dev.out
      ∧ t.dev.get HL_TRAIN_STATUS_REQ_COUNT m = min (s.dev.get HL_TRAIN_STATUS_REQ_COUNT m + 1) (2 ^ HL_TRAIN_STATUS_REQ_COUNT.w - 1)
      ∧ Frame (fieldsAt [(HL_TRAIN_STATUS_STATE, m), (HL_TRAIN_STATUS_REQ_COUNT, m)])
          (varsAt [(.hlDir, 4 * m), (.hlDir, 4 * m + 1), (.hlDir, 4 * m + 2), (.hlDir, 4 * m + 3), (.hlTap, m.val), (.hlKept, m.val), (.hlPhase, m.val)]) [] s t)
  ∧ (∀ (s : State) (m : Fin 16), s.dev.get HL_TRAIN_STATUS_STATE m = 6 → s.dev.trainHeld m = false → Completes (.hlPartnerFrameLock m false) s fun t =>
      t.dev.get HL_TRAIN_STATUS_STATE m = (if s.dev.on HL_STATUS_TX_READY m then 2 else 1)
      ∧ Frame (orKey (regsAt [(.HL_TRAIN_STATUS, m.val), (.HL_TX_COEF0, m.val), (.HL_TX_COEF1, m.val)]) linked)
          (orKey (varsAt [(.hlPeakAcc, m.val), (.hlPhase, m.val), (.hlHoldoff, m.val)]) (varsIn linkVars)) [] s t)
  ∧ (∀ (s : State) (m : Fin 16), s.dev.get HL_TRAIN_STATUS_STATE m = 6 → s.dev.trainHeld m = true → Completes (.hlPartnerFrameLock m false) s fun t =>
      t.dev.get HL_TRAIN_STATUS_STATE m = 0)
  ∧ (∀ (s : State) (m : Fin 16) (locked : Bool), s.dev.get HL_TRAIN_STATUS_STATE m ≠ (if locked then 2 else 6) → Completes (.hlPartnerFrameLock m locked) s fun t =>
      Still s t)
  ∧ (∀ (s : State) (m : Fin 16) (req : TrainReq), (s.dev.get HL_TRAIN_STATUS_STATE m < 3 ∨ 5 < s.dev.get HL_TRAIN_STATUS_STATE m) →
      Completes (.hlPartnerRequest m req) s fun t =>
      t.dev.get HL_TRAIN_CNT_PARTNER_REQ m = min (s.dev.get HL_TRAIN_CNT_PARTNER_REQ m + 1) (2 ^ HL_TRAIN_CNT_PARTNER_REQ.w - 1)
      ∧ Frame (fieldsAt [(HL_TRAIN_CNT_PARTNER_REQ, m)]) noKey [] s t)
  ∧ (∀ (s : State) (m : Fin 16) (on : Bool), 3 ≤ s.dev.get HL_TRAIN_STATUS_STATE m → s.dev.get HL_TRAIN_STATUS_STATE m ≤ 5 →
      Completes (.hlPartnerRequest m (.precode on)) s fun t => t.dev.on HL_CTRL_TX_PRECODE m = on ∧ Out.trainResp m .updated ∈ t.dev.out
      ∧ t.dev.get HL_TRAIN_CNT_PARTNER_REQ m = min (s.dev.get HL_TRAIN_CNT_PARTNER_REQ m + 1) (2 ^ HL_TRAIN_CNT_PARTNER_REQ.w - 1)
      ∧ Frame (fieldsAt [(HL_TRAIN_CNT_PARTNER_REQ, m), (HL_CTRL_TX_PRECODE, m)]) noKey [] s t)
  ∧ (∀ (s : State) (m : Fin 16) (p : Nat), 3 ≤ s.dev.get HL_TRAIN_STATUS_STATE m → s.dev.get HL_TRAIN_STATUS_STATE m ≤ 5 →
      Completes (.hlPartnerRequest m (.preset p)) s fun t =>
      (∀ c, Config.presetCoefs (s.dev.on HL_STATUS_RATE m) p = some c → Out.trainResp m .updated ∈ t.dev.out
        ∧ ∀ i < 5, t.dev.v .hlCoef (5 * m + i) = c.getD i 0)
      ∧ (Config.presetCoefs (s.dev.on HL_STATUS_RATE m) p = none → Out.trainResp m .notSupported ∈ t.dev.out
        ∧ ∀ i < 5, t.dev.v .hlCoef (5 * m + i) = s.dev.v .hlCoef (5 * m + i))
      ∧ t.dev.get HL_TRAIN_CNT_PARTNER_REQ m = min (s.dev.get HL_TRAIN_CNT_PARTNER_REQ m + 1) (2 ^ HL_TRAIN_CNT_PARTNER_REQ.w - 1)
      ∧ Frame (orKey (fieldsAt [(HL_TRAIN_CNT_PARTNER_REQ, m)]) (regsAt [(.HL_TX_COEF0, m.val), (.HL_TX_COEF1, m.val)]))
          (varsAt [(.hlCoef, 5 * m), (.hlCoef, 5 * m + 1), (.hlCoef, 5 * m + 2), (.hlCoef, 5 * m + 3), (.hlCoef, 5 * m + 4)]) [] s t)
  ∧ (∀ (s : State) (m : Fin 16) (x : TapName) (up : Bool) (i : Nat) (c : List Int), 3 ≤ s.dev.get HL_TRAIN_STATUS_STATE m → s.dev.get HL_TRAIN_STATUS_STATE m ≤ 5 →
      tapIx x = some i → c = (s.dev.hlApplied m).set i (s.dev.v .hlCoef (5 * m + i) + (if up then 1 else -1)) →
      Completes (.hlPartnerRequest m (.step x up)) s fun t =>
      (((coefRange.getD i (0, 0)).1 ≤ c.getD i 0 ∧ c.getD i 0 ≤ (coefRange.getD i (0, 0)).2 ∧ 32 ≤ mainCursor c) → Out.trainResp m .updated ∈ t.dev.out
        ∧ ∀ k < 5, t.dev.v .hlCoef (5 * m + k) = c.getD k 0)
      ∧ ((c.getD i 0 < (coefRange.getD i (0, 0)).1 ∨ (coefRange.getD i (0, 0)).2 < c.getD i 0 ∨ mainCursor c < 32) →
        Out.trainResp m (if up then .atMax else .atMin) ∈ t.dev.out ∧ ∀ k < 5, t.dev.v .hlCoef (5 * m + k) = s.dev.v .hlCoef (5 * m + k))
      ∧ t.dev.get HL_TRAIN_CNT_PARTNER_REQ m = min (s.dev.get HL_TRAIN_CNT_PARTNER_REQ m + 1) (2 ^ HL_TRAIN_CNT_PARTNER_REQ.w - 1)
      ∧ Frame (orKey (fieldsAt [(HL_TRAIN_CNT_PARTNER_REQ, m)]) (regsAt [(.HL_TX_COEF0, m.val), (.HL_TX_COEF1, m.val)]))
          (varsAt [(.hlCoef, 5 * m), (.hlCoef, 5 * m + 1), (.hlCoef, 5 * m + 2), (.hlCoef, 5 * m + 3), (.hlCoef, 5 * m + 4)]) [] s t)
  ∧ (∀ (s : State) (m : Fin 16) (up : Bool), 3 ≤ s.dev.get HL_TRAIN_STATUS_STATE m → s.dev.get HL_TRAIN_STATUS_STATE m ≤ 5 →
      Completes (.hlPartnerRequest m (.step .other up)) s fun t => Out.trainResp m .notSupported ∈ t.dev.out
      ∧ t.dev.get HL_TRAIN_CNT_PARTNER_REQ m = min (s.dev.get HL_TRAIN_CNT_PARTNER_REQ m + 1) (2 ^ HL_TRAIN_CNT_PARTNER_REQ.w - 1)
      ∧ Frame (fieldsAt [(HL_TRAIN_CNT_PARTNER_REQ, m)]) noKey [] s t)
  ∧ (∀ (s : State) (m : Fin 16) (resp : TrainResp), s.dev.get HL_TRAIN_STATUS_STATE m = 3 → s.dev.v .hlPhase m = 1 → resp ≠ .notSupported →
      Completes (.hlPartnerResponse m resp) s fun t => t.dev.v .hlPhase m = 2 ∧ Frame noKey (varsAt [(.hlPhase, m.val)]) [] s t)
  ∧ (∀ (s : State) (m : Fin 16), s.dev.get HL_TRAIN_STATUS_STATE m = 3 → s.dev.v .hlPhase m = 1 → Completes (.hlPartnerResponse m .notSupported) s fun t =>
      Out.trainReq m (.preset 1) ∈ t.dev.out ∧ t.dev.v .hlPhase m = 8
      ∧ t.dev.get HL_TRAIN_STATUS_REQ_COUNT m = min (s.dev.get HL_TRAIN_STATUS_REQ_COUNT m + 1) (2 ^ HL_TRAIN_STATUS_REQ_COUNT.w - 1)
      ∧ Frame (fieldsAt [(HL_TRAIN_STATUS_REQ_COUNT, m)]) (varsAt [(.hlPhase, m.val)]) [] s t)
  ∧ (∀ (s : State) (m : Fin 16) (resp : TrainResp), s.dev.get HL_TRAIN_STATUS_STATE m = 3 →
      (s.dev.v .hlPhase m = 8 ∨ s.dev.v .hlPhase m = 5 ∨ s.dev.v .hlPhase m = 3 ∧ resp = .updated) → Completes (.hlPartnerResponse m resp) s fun t =>
      t.dev.v .hlPhase m = (if s.dev.v .hlPhase m = 8 then 2 else s.dev.v .hlPhase m + 1) ∧ Frame noKey (varsAt [(.hlPhase, m.val)]) [] s t)
  ∧ (∀ (s : State) (m : Fin 16) (resp : TrainResp), s.dev.get HL_TRAIN_STATUS_STATE m = 3 → s.dev.v .hlPhase m = 3 → resp ≠ .updated → 0 ≤ s.dev.v .hlTap m →
      Completes (.hlPartnerResponse m resp) s fun t =>
      t.dev.flag .hlDir (m * 4 + (s.dev.v .hlTap m).toNat) = !(s.dev.flag .hlDir (m * 4 + (s.dev.v .hlTap m).toNat))
      ∧ loopGoesOn s.dev m (s.dev.flag .hlKept m) t.dev
      ∧ Frame (orKey (regsAt [(.HL_TRAIN_STATUS, m.val)]) (fieldsAt [(HL_CTRL_RX_PRECODE, m)]))
          (varsAt [(.hlDir, m * 4 + (s.dev.v .hlTap m).toNat), (.hlTap, m.val), (.hlKept, m.val), (.hlPhase, m.val)]) [] s t)
  ∧ (∀ (s : State) (m : Fin 16) (resp : TrainResp), (s.dev.get HL_TRAIN_STATUS_STATE m ≠ 3 ∨
        (∀ p ∈ [(1 : Int), 8, 3, 5], s.dev.v .hlPhase m ≠ p)) → Completes (.hlPartnerResponse m resp) s fun t => Still s t)
  ∧ (∀ (s : State) (m : Fin 16) (mse : Nat), s.dev.get HL_TRAIN_STATUS_STATE m = 3 → s.dev.v .hlPhase m = 2 → Completes (.hlMeasWindow m mse) s fun t =>
      t.dev.v .hlBest m = hostSnr mse ∧ t.dev.v .hlPhase m = 3
      ∧ Out.trainReq m (.step (loopTap (s.dev.v .hlTap m)) (s.dev.flag .hlDir (m * 4 + (s.dev.v .hlTap m).toNat))) ∈ t.dev.out
      ∧ Frame (fieldsAt [(HL_TRAIN_STATUS_REQ_COUNT, m)]) (varsAt [(.hlBest, m.val), (.hlPhase, m.val)]) [] s t)
  ∧ (∀ (s : State) (m : Fin 16) (mse : Nat), s.dev.get HL_TRAIN_STATUS_STATE m = 3 → s.dev.v .hlPhase m = 4 → 0 ≤ s.dev.v .hlTap m →
      s.dev.v .hlBest m + 5 * s.dev.get HL_TRAIN_CFG_THRESH m < (hostSnr mse : Int) → Completes (.hlMeasWindow m mse) s fun t =>
      t.dev.v .hlBest m = hostSnr mse ∧ loopGoesOn s.dev m true t.dev
      ∧ Frame (orKey (regsAt [(.HL_TRAIN_STATUS, m.val)]) (fieldsAt [(HL_CTRL_RX_PRECODE, m)]))
          (varsAt [(.hlBest, m.val), (.hlTap, m.val), (.hlKept, m.val), (.hlPhase, m.val)]) [] s t)
  ∧ (∀ (s : State) (m : Fin 16) (mse : Nat), s.dev.get HL_TRAIN_STATUS_STATE m = 3 → s.dev.v .hlPhase m = 4 →
      (hostSnr mse : Int) ≤ s.dev.v .hlBest m + 5 * s.dev.get HL_TRAIN_CFG_THRESH m → Completes (.hlMeasWindow m mse) s fun t =>
      Out.trainReq m (.step (loopTap (s.dev.v .hlTap m)) (!(s.dev.flag .hlDir (m * 4 + (s.dev.v .hlTap m).toNat)))) ∈ t.dev.out ∧ t.dev.v .hlPhase m = 5
      ∧ Frame (fieldsAt [(HL_TRAIN_STATUS_REQ_COUNT, m)]) (varsAt [(.hlPhase, m.val)]) [] s t)
  ∧ (∀ (s : State) (m : Fin 16) (mse : Nat), s.dev.get HL_TRAIN_STATUS_STATE m = 3 → s.dev.v .hlPhase m = 6 → 0 ≤ s.dev.v .hlTap m →
      Completes (.hlMeasWindow m mse) s fun t =>
      t.dev.flag .hlDir (m * 4 + (s.dev.v .hlTap m).toNat) = !(s.dev.flag .hlDir (m * 4 + (s.dev.v .hlTap m).toNat))
      ∧ loopGoesOn s.dev m (s.dev.flag .hlKept m) t.dev
      ∧ Frame (orKey (regsAt [(.HL_TRAIN_STATUS, m.val)]) (fieldsAt [(HL_CTRL_RX_PRECODE, m)]))
          (varsAt [(.hlDir, m * 4 + (s.dev.v .hlTap m).toNat), (.hlTap, m.val), (.hlKept, m.val), (.hlPhase, m.val)]) [] s t)
  ∧ (∀ (s : State) (m : Fin 16) (mse : Nat), s.dev.get HL_TRAIN_STATUS_STATE m = 3 → (∀ p ∈ [(2 : Int), 4, 6], s.dev.v .hlPhase m ≠ p) →
      Completes (.hlMeasWindow m mse) s fun t =>
      t.dev.get HL_TRAIN_STATUS_STATE m = (if s.dev.v .hlPhase m = 7 ∧ s.dev.get HL_TRAIN_TH_RX_SNR_MIN m ≤ s.dev.get HL_RX_SNR_SNR m then
        (if s.dev.on HL_TRAIN_STATUS_REMOTE_RDY m then 5 else 4) else 3)
      ∧ Frame (orKey (fieldsAt [(HL_TRAIN_STATUS_STATE, m), (HL_TRAIN_STATUS_LOCAL_RDY, m)]) linked) (varsIn linkVars) [] s t)
  ∧ (∀ (s : State) (m : Fin 16) (mse : Nat), s.dev.get HL_TRAIN_STATUS_STATE m ≠ 3 → Completes (.hlMeasWindow m mse) s fun t => Still s t)
  ∧ (∀ (s : State) (m : Fin 16), (s.dev.get HL_TRAIN_STATUS_STATE m = 3 ∨ s.dev.get HL_TRAIN_STATUS_STATE m = 4) → Completes (.hlPartnerReady m) s fun t =>
      t.dev.get HL_TRAIN_STATUS_STATE m = (if s.dev.get HL_TRAIN_STATUS_STATE m = 4 then 5 else 3) ∧ t.dev.get HL_TRAIN_STATUS_REMOTE_RDY m = 1
      ∧ Frame (fieldsAt [(HL_TRAIN_STATUS_REMOTE_RDY, m), (HL_TRAIN_STATUS_STATE, m)]) noKey [] s t)
  ∧ (∀ (s : State) (m : Fin 16), s.dev.get HL_TRAIN_STATUS_STATE m ≠ 3 → s.dev.get HL_TRAIN_STATUS_STATE m ≠ 4 → Completes (.hlPartnerReady m) s fun t => Still s t)
  ∧ (∀ (s : State) (m : Fin 16), s.dev.get HL_TRAIN_STATUS_STATE m = 5 → Completes (.hlWaitTimer m) s fun t => t.dev.get HL_TRAIN_STATUS_STATE m = 6
      ∧ Frame (orKey (fieldsAt [(HL_TRAIN_STATUS_STATE, m)]) linked) (varsIn linkVars) [] s t)
  ∧ (∀ (s : State) (m : Fin 16), s.dev.get HL_TRAIN_STATUS_STATE m ≠ 5 → Completes (.hlWaitTimer m) s fun t => Still s t)
  ∧ (∀ (s : State) (m : Fin 16), s.dev.get HL_TRAIN_TMO_MS m ≠ 0 → 2 ≤ s.dev.get HL_TRAIN_STATUS_STATE m → s.dev.get HL_TRAIN_STATUS_STATE m ≤ 4 →
      Completes (.hlTrainTimeout m) s fun t => t.dev.get HL_TRAIN_STATUS_STATE m = 7 ∧ t.dev.get HL_STATUS_TRAIN_FAIL m = 1
        ∧ Out.trainFrame m false ∈ t.dev.out ∧ t.dev.get HL_TRAIN_CNT_FAILS m = min (s.dev.get HL_TRAIN_CNT_FAILS m + 1) (2 ^ HL_TRAIN_CNT_FAILS.w - 1)
        ∧ (∀ sl, s.dev.slotOfHost m = some sl → t.dev.flag .hlHoldoff m = s.dev.on BN_PORT_CTRL_HRETRAIN sl)
        ∧ Frame (orKey (orKey (regsAt [(.HL_TRAIN_STATUS, m.val)]) (fieldsAt [(HL_STATUS_TRAIN_FAIL, m), (HL_TRAIN_CNT_FAILS, m)])) linked)
            (orKey (varsAt [(.hlPhase, m.val), (.hlHoldoff, m.val)]) (varsIn linkVars)) [] s t)
  ∧ (∀ (s : State) (m : Fin 16), (s.dev.get HL_TRAIN_TMO_MS m = 0 ∨ s.dev.get HL_TRAIN_STATUS_STATE m < 2 ∨ 4 < s.dev.get HL_TRAIN_STATUS_STATE m) →
      Completes (.hlTrainTimeout m) s fun t => Still s t)
  ∧ (∀ (s : State) (m : Fin 16), s.dev.flag .hlHoldoff m = true → s.dev.get HL_TRAIN_STATUS_STATE m = 7 → Completes (.hlHretrainHoldoff m) s fun t =>
      t.dev.get HL_TRAIN_STATUS_STATE m = (if s.dev.trainHeld m then 0 else if s.dev.on HL_STATUS_TX_READY m then 2 else 1) ∧ t.dev.v .hlHoldoff m = 0
      ∧ Frame (orKey (regsAt [(.HL_TRAIN_STATUS, m.val), (.HL_TX_COEF0, m.val), (.HL_TX_COEF1, m.val)]) linked)
          (orKey (varsAt [(.hlPeakAcc, m.val), (.hlPhase, m.val), (.hlHoldoff, m.val)]) (varsIn linkVars)) [] s t)
  ∧ (∀ (s : State) (m : Fin 16), (s.dev.flag .hlHoldoff m = false ∨ s.dev.get HL_TRAIN_STATUS_STATE m ≠ 7) → Completes (.hlHretrainHoldoff m) s fun t => Still s t)

/-- MARKER_PASSAGE of a lane of a port records the marker's symbol count and the lane's distance from the latest lane, and sets the lane's lock;
a lock lost sets AM_LOST of its direction; the largest distance over the port's lanes is reported as its skew, saturating, and above 16 ns
(receive) or 10 ns (transmit) sets SKEW_ERR; DESKEWED reads 1 exactly when every lane of the port is locked and no skew is above the limit.
A host lane in no port has no markers: nothing changes. RS_CODEWORD_DECODE in terminating framing, or with the monitor on, counts the
codeword of its direction, the symbols corrected, and an uncorrectable one, which sets UNC_EV and raises the port's trigger event at its
codeword's time; in terminating framing the bad codeword's blocks are marked from then on. In transparent framing without the monitor, and
in a slot without a port, nothing changes. (Rests on R154, R155, R157, R158, R245.) -/
def Obligations.MarkersAndOuterCode : Prop :=
  (∀ (s : State) (m : Fin 16) (sym lead sl : Nat) (locked : Bool), s.dev.slotOfHost m = some sl → (s.dev.portAt sl).isSome = true →
      Completes (.markerPassage m .rx sym locked lead) s fun t =>
        t.dev.v .markSym (2 * m.val + 0) = sym ∧ t.dev.v .amDelay (2 * m.val + 0) = lead ∧ t.dev.amLock .rx m = locked
        ∧ t.dev.get GBX_SKEW_RX sl = min (t.dev.skewNow .rx sl) 0xFFF ∧ (1600 < t.dev.skewNow .rx sl → t.dev.get GBX_EVENTS_RX_SKEW_ERR sl = 1)
        ∧ t.dev.on GBX_PSTATUS_RX_DESKEWED sl = ((s.dev.hostsOf sl).all (fun h => t.dev.amLock .rx h) && decide (t.dev.skewNow .rx sl ≤ 1600))
        ∧ (s.dev.amLock .rx m = true → locked = false → t.dev.get GBX_EVENTS_RX_AM_LOST sl = 1)
        ∧ Frame (orKey (regsAt [(.GBX_PSTATUS, sl), (.GBX_EVENTS, sl), (.GBX_SKEW, sl)]) linked)
            (orKey (varsAt [(.markSym, 2 * m.val + 0), (.markSeen, 2 * m.val + 0), (.amDelay, 2 * m.val + 0)]) (varsIn linkVars)) [] s t)
  ∧ (∀ (s : State) (m : Fin 16) (sym lead sl : Nat) (locked : Bool), s.dev.slotOfHost m = some sl → (s.dev.portAt sl).isSome = true →
      Completes (.markerPassage m .tx sym locked lead) s fun t =>
        t.dev.v .markSym (2 * m.val + 1) = sym ∧ t.dev.v .amDelay (2 * m.val + 1) = lead ∧ t.dev.amLock .tx m = locked
        ∧ t.dev.get GBX_SKEW_TX sl = min (t.dev.skewNow .tx sl) 0xFFF ∧ (1000 < t.dev.skewNow .tx sl → t.dev.get GBX_EVENTS_TX_SKEW_ERR sl = 1)
        ∧ t.dev.on GBX_PSTATUS_TX_DESKEWED sl = ((s.dev.hostsOf sl).all (fun h => t.dev.amLock .tx h) && decide (t.dev.skewNow .tx sl ≤ 1000))
        ∧ (s.dev.amLock .tx m = true → locked = false → t.dev.get GBX_EVENTS_TX_AM_LOST sl = 1)
        ∧ Frame (orKey (regsAt [(.GBX_PSTATUS, sl), (.GBX_EVENTS, sl), (.GBX_SKEW, sl)]) linked)
            (orKey (varsAt [(.markSym, 2 * m.val + 1), (.markSeen, 2 * m.val + 1), (.amDelay, 2 * m.val + 1)]) (varsIn linkVars)) [] s t)
  ∧ (∀ (s : State) (m : Fin 16) (dir : Dir) (sym lead : Nat) (locked : Bool), s.dev.slotOfHost m = none →
      Completes (.markerPassage m dir sym locked lead) s fun t => Still s t)
  ∧ (∀ (s : State) (sl : Fin 8) (corrected ago : Nat) (bad frame : Bool) (p : PortDesc), s.dev.portAt sl = some p → (p.term || s.dev.on PCS_CTRL_MON_EN sl) = true →
      Completes (.rsCodewordDecode sl .rx corrected ago bad frame) s fun t =>
        t.dev.get PCS_RX_CW_COUNT sl = min (s.dev.get PCS_RX_CW_COUNT sl + 1) (2 ^ PCS_RX_CW_COUNT.w - 1)
        ∧ t.dev.get PCS_RX_SYM_COUNT sl = min (s.dev.get PCS_RX_SYM_COUNT sl + if bad then 0 else corrected) (2 ^ PCS_RX_SYM_COUNT.w - 1)
        ∧ t.dev.get PCS_RX_UNC_COUNT sl = min (s.dev.get PCS_RX_UNC_COUNT sl + b2n bad) (2 ^ PCS_RX_UNC_COUNT.w - 1)
        ∧ (bad = true → t.dev.get PCS_STATUS_RX_UNC_EV sl = 1 ∧ Out.trigger (40 + p.num) (s.dev.actTime - ago) ∈ t.dev.out)
        ∧ (p.term = true → t.dev.flag .outerBad (2 * sl.val + 0) = bad)
        ∧ Frame (fieldsAt [(PCS_RX_CW_COUNT, sl), (PCS_RX_SYM_COUNT, sl), (PCS_RX_UNC_COUNT, sl), (PCS_STATUS_RX_UNC_EV, sl)])
            (varsAt [(.frameOn, 2 * sl.val + 0), (.outerBad, 2 * sl.val + 0)]) [.events] s t)
  ∧ (∀ (s : State) (sl : Fin 8) (corrected ago : Nat) (bad frame : Bool) (p : PortDesc), s.dev.portAt sl = some p → (p.term || s.dev.on PCS_CTRL_MON_EN sl) = true →
      Completes (.rsCodewordDecode sl .tx corrected ago bad frame) s fun t =>
        t.dev.get PCS_TX_CW_COUNT sl = min (s.dev.get PCS_TX_CW_COUNT sl + 1) (2 ^ PCS_TX_CW_COUNT.w - 1)
        ∧ t.dev.get PCS_TX_SYM_COUNT sl = min (s.dev.get PCS_TX_SYM_COUNT sl + if bad then 0 else corrected) (2 ^ PCS_TX_SYM_COUNT.w - 1)
        ∧ t.dev.get PCS_TX_UNC_COUNT sl = min (s.dev.get PCS_TX_UNC_COUNT sl + b2n bad) (2 ^ PCS_TX_UNC_COUNT.w - 1)
        ∧ (bad = true → t.dev.get PCS_STATUS_TX_UNC_EV sl = 1 ∧ Out.trigger (40 + p.num) (s.dev.actTime - ago) ∈ t.dev.out)
        ∧ (p.term = true → t.dev.flag .outerBad (2 * sl.val + 1) = bad)
        ∧ Frame (fieldsAt [(PCS_TX_CW_COUNT, sl), (PCS_TX_SYM_COUNT, sl), (PCS_TX_UNC_COUNT, sl), (PCS_STATUS_TX_UNC_EV, sl)])
            (varsAt [(.frameOn, 2 * sl.val + 1), (.outerBad, 2 * sl.val + 1)]) [.events] s t)
  ∧ (∀ (s : State) (sl : Fin 8) (dir : Dir) (corrected ago : Nat) (bad frame : Bool), (s.dev.portAt sl = none ∨
        s.dev.term sl = false ∧ s.dev.on PCS_CTRL_MON_EN sl = false) → Completes (.rsCodewordDecode sl dir corrected ago bad frame) s fun t => Still s t)

/-- PLAYOUT_DUE of a codeword that is available at its play-out point sends it to its host lanes; in terminating low-latency framing as many of
the DEL blocks on offer go as leave P at OFS or above. Of one that is not, in low-latency release: terminating framing inserts as many of
the due idle blocks as keep P within D × 72, counts them in BLK_INS and the episode's first in STALLS, and a frame in progress is cut with
an error block; transparent framing takes a latency step: P becomes D × 72, LL_STEP and STALLS follow. With no room, in fixed-latency
release, on an L100 port and on a lane in no port nothing changes. GBX_REARM in transparent low-latency framing with RX_UP brings P to OFS
and drops the bits of the difference on every host lane; else nothing changes. FILL_END ends a latency step's fill and, with no cause of
fill left and, in terminating framing, the lanes deskewed, ends the fill of the port's streams in its direction; a fill whose cause holds
goes on. (Rests on R159 to R163, R167.) -/
def Obligations.PlayOut : Prop :=
  (∀ (s : State) (n : Fin 8) (sl : Nat) (p : PortDesc) (c : Codeword) (id ins grow del shrink x k : Nat) (others : List (Nat × Nat)) (frame : Bool),
      s.dev.slotOfLine n = some sl → s.dev.portAt sl = some p → s.dev.playable n id p.term others = true →
      s.dev.cws.find? (fun y => y.lane == n.val && y.id == id) = some c → x = (if p.term && portEarly p then s.dev.get GBX_LL_OFS_NOW sl - s.dev.ofsEff sl else 0) →
      k = (if x = 0 then 0 else if shrink = 0 then del else min del (x * del / shrink)) → s.dev.get GBX_LL_OFS_NOW sl < 2 ^ GBX_LL_OFS_NOW.w →
      Completes (.playoutDue n id others ins grow del shrink frame) s fun t =>
        Out.playOut n id c.word (s.dev.toHosts n c.word) ∈ t.dev.out ∧ t.dev.flag .frameOn (2 * sl) = frame ∧ t.dev.v .insEpisode n = 0
        ∧ t.dev.get GBX_LL_OFS_NOW sl = s.dev.get GBX_LL_OFS_NOW sl - k * shrink / del
        ∧ (k ≠ 0 → t.dev.get GBX_LL_BLK_DEL sl = min (s.dev.get GBX_LL_BLK_DEL sl + k) (2 ^ GBX_LL_BLK_DEL.w - 1))
        ∧ Frame (fieldsAt [(GBX_LL_OFS_NOW, sl), (GBX_LL_BLK_DEL, sl)]) (orKey (varsAt [(.frameOn, 2 * sl), (.insEpisode, n)])
            (varsIn [.rearmDrop, .fillBits, .hlPreTx, .hlPreRx, .hlHist])) [.cws, .loopBits, .fresh] s t)
  ∧ (∀ (s : State) (n : Fin 8) (sl : Nat) (p : PortDesc) (id ins grow del shrink k : Nat) (others : List (Nat × Nat)) (frame : Bool), s.dev.slotOfLine n = some sl →
      s.dev.portAt sl = some p → s.dev.playable n id p.term others = false → portEarly p = true → p.term = true →
      k = (if grow = 0 then ins else min ins ((s.dev.ofsMax sl - s.dev.get GBX_LL_OFS_NOW sl) * ins / grow)) → k ≠ 0 →
      s.dev.get GBX_LL_OFS_NOW sl + k * grow / ins < 2 ^ GBX_LL_OFS_NOW.w → Completes (.playoutDue n id others ins grow del shrink frame) s fun t =>
        t.dev.get GBX_LL_OFS_NOW sl = s.dev.get GBX_LL_OFS_NOW sl + k * grow / ins ∧ Out.blocks sl .rx .idle k ∈ t.dev.out
        ∧ t.dev.get GBX_LL_BLK_INS sl = min (s.dev.get GBX_LL_BLK_INS sl + k) (2 ^ GBX_LL_BLK_INS.w - 1) ∧ t.dev.v .insEpisode n = 1
        ∧ t.dev.flag .frameOn (2 * sl) = false ∧ (s.dev.flag .frameOn (2 * sl) = true → Out.blocks sl .rx .error 1 ∈ t.dev.out)
        ∧ t.dev.get GBX_LL_CNT_STALLS sl = min (s.dev.get GBX_LL_CNT_STALLS sl + b2n (!((s.dev.linesOf sl).any (fun y => s.dev.flag .insEpisode y))))
            (2 ^ GBX_LL_CNT_STALLS.w - 1)
        ∧ Frame (regsAt [(.GBX_LL, sl), (.GBX_LL_BLK, sl), (.GBX_LL_CNT, sl)]) (varsAt [(.frameOn, 2 * sl), (.insEpisode, n.val)]) [] s t)
  ∧ (∀ (s : State) (n : Fin 8) (sl : Nat) (p : PortDesc) (id ins grow del shrink : Nat) (others : List (Nat × Nat)) (frame : Bool), s.dev.slotOfLine n = some sl →
      s.dev.portAt sl = some p → s.dev.playable n id p.term others = false → portEarly p = true → p.term = false → s.dev.get GBX_LL_OFS_NOW sl < s.dev.ofsMax sl →
      s.dev.ofsMax sl < 2 ^ GBX_LL_OFS_NOW.w → Completes (.playoutDue n id others ins grow del shrink frame) s fun t =>
        t.dev.get GBX_LL_OFS_NOW sl = s.dev.ofsMax sl ∧ t.dev.get GBX_EVENTS_LL_STEP sl = 1
        ∧ t.dev.get GBX_LL_CNT_STALLS sl = min (s.dev.get GBX_LL_CNT_STALLS sl + 1) (2 ^ GBX_LL_CNT_STALLS.w - 1)
        ∧ t.dev.v .stepLeft n = (s.dev.ofsMax sl - s.dev.get GBX_LL_OFS_NOW sl : Nat)
        ∧ Frame (orKey (regsAt [(.GBX_LL, sl), (.GBX_EVENTS, sl), (.GBX_LL_CNT, sl)]) linked) (orKey (varsAt [(.stepLeft, n)]) (varsIn linkVars)) [] s t)
  ∧ (∀ (s : State) (n : Fin 8) (sl : Nat) (p : PortDesc) (id ins grow del shrink : Nat) (others : List (Nat × Nat)) (frame : Bool), s.dev.slotOfLine n = some sl →
      s.dev.portAt sl = some p → s.dev.playable n id p.term others = false → (portEarly p = false ∨ p.term = false ∧ s.dev.ofsMax sl ≤ s.dev.get GBX_LL_OFS_NOW sl ∨
        p.term = true ∧ (if grow = 0 then ins else min ins ((s.dev.ofsMax sl - s.dev.get GBX_LL_OFS_NOW sl) * ins / grow)) = 0) →
      Completes (.playoutDue n id others ins grow del shrink frame) s fun t => Still s t)
  ∧ (∀ (s : State) (n : Fin 8) (id ins grow del shrink : Nat) (others : List (Nat × Nat)) (frame : Bool), s.dev.slotOfLine n = none →
      Completes (.playoutDue n id others ins grow del shrink frame) s fun t => Still s t)
  ∧ (∀ (s : State) (sl : Fin 8) (p : PortDesc), s.dev.portAt sl = some p → portEarly p = true → p.term = false → s.dev.on BN_PORT_STATUS_RX_UP sl = true →
      s.dev.get GBX_LL_OFS_NOW sl ≠ s.dev.ofsEff sl → s.dev.ofsEff sl < 2 ^ GBX_LL_OFS_NOW.w → Completes (.gbxRearm sl) s fun t =>
        t.dev.get GBX_LL_OFS_NOW sl = s.dev.ofsEff sl
        ∧ (∀ m ∈ s.dev.hostsOf sl, t.dev.v .rearmDrop m = dpclkBits p.mode (s.dev.get GBX_LL_OFS_NOW sl - s.dev.ofsEff sl))
        ∧ Frame (fieldsAt [(GBX_LL_OFS_NOW, sl)]) (varsAt ((s.dev.hostsOf sl).map (fun m => (.rearmDrop, m)))) [] s t)
  ∧ (∀ (s : State) (sl : Fin 8), (∀ p, s.dev.portAt sl = some p → portEarly p = false ∨ p.term = true ∨ s.dev.on BN_PORT_STATUS_RX_UP sl = false ∨
        s.dev.get GBX_LL_OFS_NOW sl = s.dev.ofsEff sl) → Completes (.gbxRearm sl) s fun t => Still s t)
  ∧ (∀ (s : State) (sl : Fin 8) (d : Dev), d = s.dev.each (s.dev.linesOf sl) (fun n e => e.sv .stepLeft n 0) → d.fillCause .rx sl = false →
      (s.dev.term sl = true → s.dev.on GBX_PSTATUS_RX_DESKEWED sl = true) → Completes (.fillEnd sl .rx) s fun t =>
      t.dev.get GBX_PSTATUS_RX_FILL sl = 0 ∧ (∀ n ∈ s.dev.linesOf sl, t.dev.v .stepLeft n = 0) ∧ (∀ m ∈ s.dev.hostsOf sl, t.dev.v .fillRun (2 * m + 0) = 0)
      ∧ Frame (fieldsAt [(GBX_PSTATUS_RX_FILL, sl)]) (varsAt ((s.dev.linesOf sl).map (fun n => (.stepLeft, n)) ++ (s.dev.hostsOf sl).map (fun m => (.fillRun, 2 * m + 0)))) [] s t)
  ∧ (∀ (s : State) (sl : Fin 8), s.dev.fillCause .tx sl = false → (s.dev.term sl = true → s.dev.on GBX_PSTATUS_TX_DESKEWED sl = true) →
      Completes (.fillEnd sl .tx) s fun t =>
      t.dev.get GBX_PSTATUS_TX_FILL sl = 0 ∧ (∀ m ∈ s.dev.hostsOf sl, t.dev.v .fillRun (2 * m + 1) = 0)
      ∧ Frame (fieldsAt [(GBX_PSTATUS_TX_FILL, sl)]) (varsAt ((s.dev.hostsOf sl).map (fun m => (.fillRun, 2 * m + 1)))) [] s t)
  ∧ (∀ (s : State) (sl : Fin 8) (dir : Dir) (d : Dev), d = (match dir with | .rx => s.dev.each (s.dev.linesOf sl) (fun n e => e.sv .stepLeft n 0) | .tx => s.dev) →
      d.fillCause dir sl = true → (s.dev.portAt sl).isSome = true → s.dev.flag .portStart sl = true → Completes (.fillEnd sl dir) s fun t =>
      t.dev.get (match dir with | .rx => GBX_PSTATUS_RX_FILL | .tx => GBX_PSTATUS_TX_FILL) sl = 1
      ∧ Frame (fieldsAt [(GBX_PSTATUS_RX_FILL, sl), (GBX_PSTATUS_TX_FILL, sl), (GBX_EVENTS_RX_FILL_EV, sl), (GBX_EVENTS_TX_FILL_EV, sl), (GBX_LL_CNT_CUTS, sl)])
          (varsIn [.stepLeft, .fillRun, .frameOn]) [] s t)
  ∧ (∀ (s : State) (sl : Fin 8) (dir : Dir) (d : Dev), d = (match dir with | .rx => s.dev.each (s.dev.linesOf sl) (fun n e => e.sv .stepLeft n 0) | .tx => s.dev) →
      (d.fillCause dir sl = false ∧ s.dev.term sl = true ∧ s.dev.on (match dir with | .rx => GBX_PSTATUS_RX_DESKEWED | .tx => GBX_PSTATUS_TX_DESKEWED) sl = false ∨
        d.fillCause dir sl = true ∧ ((s.dev.portAt sl).isSome = false ∨ s.dev.flag .portStart sl = false)) →
      Completes (.fillEnd sl dir) s fun t => (∀ m ∈ s.dev.hostsOf sl, t.dev.v .fillRun (2 * m + dir.ix) = s.dev.v .fillRun (2 * m + dir.ix))
        ∧ Frame (fieldsAt [(GBX_PSTATUS_RX_FILL, sl), (GBX_PSTATUS_TX_FILL, sl), (GBX_EVENTS_RX_FILL_EV, sl), (GBX_EVENTS_TX_FILL_EV, sl), (GBX_LL_CNT_CUTS, sl)])
            (varsIn [.stepLeft, .fillRun, .frameOn]) [] s t)

/-- LANE_ENABLE of a lane of a port with EN = 0 sets EN, powers the ADC up, puts the lane at DOWN, in acquisition gear without CONV and without
an error estimate, and, as the port's first lane, starts the port's transmit grid; of a lane already enabled, or in no port, it leaves EN as
it is. LANE_DISABLE during a foreground calibration waits for its end; else it clears EN, STOPPED, ATTEMPTS, READY, LOCKED and codeword
lock, returns the lane to DOWN and ends its timers, its receive grid and its electrical output. LINK_STATE_UP of a lane whose state's exit
condition holds moves it up by one state, unless in the same mclk the DOWN exit condition fails (then DOWN), the clock recovery is not
locked or made to unlock (then SIGNAL) or CONV is clear (then EQ_ACQ); entry to UP starts STABLE or clears ATTEMPTS when STABLE is 0; else
nothing changes. GAIN_TIMEOUT of a lane at CDR_LOCK whose timer runs moves it to EQ_ACQ likewise, with GAIN_TMO unless the gain is settled.
LINK_STATE_TIMEOUT of a lane at SIGNAL, EQ_ACQ or FRAME_LOCK whose timer runs leaves a state whose exit condition holds upward in the same
way; else TMO_EV and TMO_STATE are set, and with RETRAIN = 0 the lane stays; with RETRY_MAX attempts made it gives up at DOWN with STOPPED
and GAVE_UP_EV; else the next attempt begins at DOWN with the holdoff running, from the snapshot (first attempt, one valid) or
re-initialised. With no timer running, or in another state, nothing changes. (Rests on R51, R168 to R172, R174, R176, R417.) -/
def Obligations.LaneLink : Prop :=
  (∀ (s : State) (n : Fin 8) (sl : Nat), s.dev.slotOfLine n = some sl → s.dev.on BN_LINK_CTRL_EN n = false → Completes (.laneEnable n) s fun t =>
      t.dev.get BN_LINK_CTRL_EN n = 1 ∧ t.dev.get BN_LINK_STATUS_STATE n = 0 ∧ t.dev.v .adcUp n = 1 ∧ t.dev.get LL_EQ_STATUS_CONV n = 0
      ∧ t.dev.get LL_EQ_STATUS_GEAR n = 0 ∧ t.dev.get LL_EQ_BER_VALID n = 0 ∧ t.dev.get LL_EQ_SNR_SNR n = 0 ∧ t.dev.flag .txGrid sl = true
      ∧ (s.dev.on LL_EQ_STATUS_CONV n = true → t.dev.get LL_EQ_STATUS_CONV_LOST n = 1)
      ∧ Frame (orKey (regsAt [(.BN_LINK_CTRL, n), (.BN_LINK_STATUS, n), (.LL_EQ_STATUS, n), (.LL_EQ_SNR, n), (.LL_EQ_BER, n), (.LL_TX_STATUS, n), (.GBX_LL, sl)]) linked)
          (orKey (varsAt [(.eqAcq, n), (.eqMeas, n), (.eqHi, n), (.eqLo, n), (.eqDiv, n), (.eqDivOn, n), (.adcUp, n), (.txExit, n), (.portStart, sl), (.txGrid, sl)])
            (varsIn ([.eqQuad, .stepLeft, .insEpisode, .rearmDrop, .amDelay] ++ linkVars))) [] s t)
  ∧ (∀ (s : State) (n : Fin 8), (s.dev.slotOfLine n = none ∨ s.dev.on BN_LINK_CTRL_EN n = true) → Completes (.laneEnable n) s fun t => t.dev.get BN_LINK_CTRL_EN n = s.dev.get BN_LINK_CTRL_EN n
      ∧ Frame linked (varsIn linkVars) [] s t)
  ∧ (∀ (s : State) (n : Fin 8), s.dev.on LL_ADC_STATUS_FG_BUSY n = true → Completes (.laneDisable n) s fun t => t.dev.v .fgDisable n = 1
      ∧ Frame noKey (varsAt [(.fgDisable, n)]) [] s t)
  ∧ (∀ (s : State) (n : Fin 8), s.dev.on LL_ADC_STATUS_FG_BUSY n = false → Completes (.laneDisable n) s fun t =>
      t.dev.get BN_LINK_CTRL_EN n = 0 ∧ t.dev.get BN_LINK_STATUS_STATE n = 0 ∧ t.dev.get BN_LINK_STATUS_STOPPED n = 0 ∧ t.dev.get BN_LINK_STATUS_ATTEMPTS n = 0
      ∧ t.dev.get LL_ADC_STATUS_READY n = 0 ∧ t.dev.v .lkHoldoff n = 0 ∧ t.dev.v .lkTimer n = 0 ∧ t.dev.v .rxGrid n = 0 ∧ t.dev.get LL_CDR_STATUS_LOCKED n = 0
      ∧ t.dev.get DEC_STATUS_CW_LOCK n = 0 ∧ t.dev.get LL_TX_STATUS_READY n = 0 ∧ t.dev.get LL_TX_STATUS_SQ_ACTIVE n = 1
      ∧ (∀ c ∈ t.dev.cws, c.lane ≠ n.val) ∧ (s.dev.get BN_LINK_STATUS_STATE n = 5 → t.dev.get BN_LINK_STATUS_UP_LOST n = 1)
      ∧ Frame (orKey (regsAt [(.BN_LINK_CTRL, n), (.BN_LINK_STATUS, n), (.LL_ADC_STATUS, n), (.LL_TX_STATUS, n), (.DEC_STATUS, n), (.DEC_OCC, n), (.SLOE_TX_STATUS, n),
            (.SLOE_TX_CNT, n), (.SLOE_RX_STATUS, n), (.SLOE_RX_CNT0, n), (.SLOE_RX_CNT1, n), (.SLOE_RX_CNT2, n), (.SLOE_TR_STATUS, 0), (.SLOE_TR_STATUS, 1),
            (.SB_STATUS, 0), (.SB_LSTATUS, n)]) linked)
          (orKey (fun k => varOfLine n k = true) (orKey (varsAt [(.slotPeak, n / 4), (.slReacq, n), (.slOpen, n), (.slFrozen, n), (.slCur, n), (.slFw, n)]) (varsIn ([.txGrid] ++ linkVars))))
          [.cws, .sb, .sloeFw, .sloeTx] s t)
  ∧ (∀ (s : State) (n : Fin 8) (st : Nat) (locked : Bool), s.dev.get BN_LINK_STATUS_STATE n = st → s.dev.upWhen n st = true →
      locked = (s.dev.on LL_CDR_STATUS_LOCKED n && !(s.dev.on BN_LINK_STATUS_LOS n) && s.dev.get LL_CDR_CTRL_MODE n != 1 && s.dev.get LL_CDR_CTRL_MODE n != 2
        && !(s.dev.on LL_CDR_STATUS_FREQ_RANGE n) && !(s.dev.on LL_CDR_STATUS_MISMATCH n)) → Completes (.linkStateUp n) s fun t =>
        t.dev.get BN_LINK_STATUS_STATE n = (if s.dev.downExit n = false then 0 else if 1 ≤ st ∧ locked = false then 1
          else if 3 ≤ st ∧ s.dev.on LL_EQ_STATUS_CONV n = false then 3 else st + 1)
        ∧ (t.dev.get BN_LINK_STATUS_STATE n = 5 → (s.dev.get BN_LINK_TMR2_STABLE n = 0 → t.dev.get BN_LINK_STATUS_ATTEMPTS n = 0)
          ∧ (s.dev.get BN_LINK_TMR2_STABLE n ≠ 0 → t.dev.v .lkStable n = 1))
        ∧ Frame linked (varsIn linkVars) [] s t)
  ∧ (∀ (s : State) (n : Fin 8), s.dev.upWhen n (s.dev.get BN_LINK_STATUS_STATE n) = false → Completes (.linkStateUp n) s fun t => Still s t)
  ∧ (∀ (s : State) (n : Fin 8) (locked : Bool), s.dev.flag .lkTimer n = true → s.dev.get BN_LINK_STATUS_STATE n = 2 →
      locked = (s.dev.on LL_CDR_STATUS_LOCKED n && !(s.dev.on BN_LINK_STATUS_LOS n) && s.dev.get LL_CDR_CTRL_MODE n != 1 && s.dev.get LL_CDR_CTRL_MODE n != 2
        && !(s.dev.on LL_CDR_STATUS_FREQ_RANGE n) && !(s.dev.on LL_CDR_STATUS_MISMATCH n)) → Completes (.gainTimeout n) s fun t =>
        t.dev.get BN_LINK_STATUS_STATE n = (if s.dev.downExit n = false then 0 else if locked = false then 1 else 3)
        ∧ (s.dev.gainSettled n = false → t.dev.get BN_LINK_STATUS_GAIN_TMO n = 1)
        ∧ (s.dev.gainSettled n = true → t.dev.get BN_LINK_STATUS_GAIN_TMO n = s.dev.get BN_LINK_STATUS_GAIN_TMO n)
        ∧ Frame (orKey (fieldsAt [(BN_LINK_STATUS_GAIN_TMO, n)]) linked) (varsIn linkVars) [] s t)
  ∧ (∀ (s : State) (n : Fin 8), (s.dev.flag .lkTimer n = false ∨ s.dev.get BN_LINK_STATUS_STATE n ≠ 2) → Completes (.gainTimeout n) s fun t => Still s t)
  ∧ (∀ (s : State) (n : Fin 8) (st : Nat) (locked : Bool), s.dev.flag .lkTimer n = true → s.dev.get BN_LINK_STATUS_STATE n = st → (st = 1 ∨ st = 3 ∨ st = 4) →
      s.dev.upWhen n st = true → locked = (s.dev.on LL_CDR_STATUS_LOCKED n && !(s.dev.on BN_LINK_STATUS_LOS n) && s.dev.get LL_CDR_CTRL_MODE n != 1
        && s.dev.get LL_CDR_CTRL_MODE n != 2 && !(s.dev.on LL_CDR_STATUS_FREQ_RANGE n) && !(s.dev.on LL_CDR_STATUS_MISMATCH n)) →
      Completes (.linkStateTimeout n) s fun t =>
        t.dev.get BN_LINK_STATUS_STATE n = (if s.dev.downExit n = false then 0 else if locked = false then 1
          else if s.dev.on LL_EQ_STATUS_CONV n = false then (if st = 1 then 2 else 3) else st + 1) ∧ Frame linked (varsIn linkVars) [] s t)
  ∧ (∀ (s : State) (n : Fin 8) (st : Nat), s.dev.flag .lkTimer n = true → s.dev.get BN_LINK_STATUS_STATE n = st → (st = 1 ∨ st = 3 ∨ st = 4) →
      s.dev.upWhen n st = false → s.dev.on BN_LINK_CTRL_RETRAIN n = false → Completes (.linkStateTimeout n) s fun t =>
        t.dev.get BN_LINK_STATUS_TMO_EV n = 1 ∧ t.dev.get BN_LINK_STATUS_TMO_STATE n = st ∧ t.dev.v .lkTimer n = 0
        ∧ Frame (fieldsAt [(BN_LINK_STATUS_TMO_EV, n), (BN_LINK_STATUS_TMO_STATE, n)]) (varsAt [(.lkTimer, n)]) [] s t)
  ∧ (∀ (s : State) (n : Fin 8) (st : Nat), s.dev.flag .lkTimer n = true → s.dev.get BN_LINK_STATUS_STATE n = st → (st = 1 ∨ st = 3 ∨ st = 4) →
      s.dev.upWhen n st = false → s.dev.on BN_LINK_CTRL_RETRAIN n = true → max 1 (s.dev.get BN_LINK_CTRL_RETRY_MAX n) ≤ s.dev.get BN_LINK_STATUS_ATTEMPTS n →
      Completes (.linkStateTimeout n) s fun t =>
        t.dev.get BN_LINK_STATUS_STATE n = 0 ∧ t.dev.get BN_LINK_STATUS_TMO_EV n = 1 ∧ t.dev.get BN_LINK_STATUS_TMO_STATE n = st
        ∧ t.dev.get BN_LINK_STATUS_STOPPED n = 1 ∧ t.dev.get BN_LINK_STATUS_GAVE_UP_EV n = 1
        ∧ Frame (orKey (fieldsAt [(BN_LINK_STATUS_TMO_EV, n), (BN_LINK_STATUS_TMO_STATE, n), (BN_LINK_STATUS_STOPPED, n), (BN_LINK_STATUS_GAVE_UP_EV, n)]) linked)
            (varsIn linkVars) [] s t)
  ∧ (∀ (s : State) (n : Fin 8) (st k : Nat), s.dev.flag .lkTimer n = true → s.dev.get BN_LINK_STATUS_STATE n = st → (st = 1 ∨ st = 3 ∨ st = 4) →
      s.dev.upWhen n st = false → s.dev.on BN_LINK_CTRL_RETRAIN n = true → k = s.dev.get BN_LINK_STATUS_ATTEMPTS n + 1 → k ≤ max 1 (s.dev.get BN_LINK_CTRL_RETRY_MAX n) →
      Completes (.linkStateTimeout n) s fun t =>
        t.dev.get BN_LINK_STATUS_STATE n = 0 ∧ t.dev.get BN_LINK_STATUS_TMO_EV n = 1 ∧ t.dev.get BN_LINK_STATUS_TMO_STATE n = st
        ∧ t.dev.get BN_LINK_STATUS_ATTEMPTS n = min k 15 ∧ t.dev.v .lkHoldoff n = 1 ∧ t.dev.v .cdrInteg n = 0
        ∧ t.dev.get BN_LINK_CNT_RETRAINS n = min (s.dev.get BN_LINK_CNT_RETRAINS n + 1) (2 ^ BN_LINK_CNT_RETRAINS.w - 1)
        ∧ (k = 1 → s.dev.on LL_EQ_STATUS_SNAP_VALID n = true → t.dev.v .eqPendRestore n = 1)
        ∧ ((k ≠ 1 ∨ s.dev.on LL_EQ_STATUS_SNAP_VALID n = false) → t.dev.v .eqPendReinit n = 1)
        ∧ Frame (orKey (regsAt [(.BN_LINK_STATUS, n), (.BN_LINK_CNT, n), (.LL_ADC_STATUS, n)]) linked)
            (orKey (varsAt [(.lkHoldoff, n), (.cdrInteg, n), (.cdrEst, n), (.cdrSum, n), (.cdrCnt, n), (.cdrDone, n), (.cdrSkip, n), (.eqPendRestore, n),
              (.eqPendReinit, n)]) (varsIn linkVars)) [] s t)
  ∧ (∀ (s : State) (n : Fin 8), (s.dev.flag .lkTimer n = false ∨ s.dev.get BN_LINK_STATUS_STATE n ≠ 1 ∧ s.dev.get BN_LINK_STATUS_STATE n ≠ 3 ∧ s.dev.get BN_LINK_STATUS_STATE n ≠ 4) → Completes (.linkStateTimeout n) s fun t =>
      Still s t)

/-- RETRAIN_NOW with EN = 1 clears STOPPED and starts attempt 1: DOWN, the holdoff running, the integrator clear, a restore of the snapshot due
if one is valid and else a re-initialisation; with EN = 0 nothing changes. RETRAIN_HOLDOFF_END ends the holdoff. LINK_STABLE_TIMER while
STABLE runs clears ATTEMPTS; else nothing changes. LOS_WINDOW_END of a ready lane outside foreground calibration: the last of ASSERT windows
in a row whose mean, referred to 0 dB gain, is below OFF (and ON) sets LOS, with LOS_EV and the trigger event if it was clear; the last of
DEASSERT in a row at or above ON clears it; else LOS stays; of any other lane nothing changes. PORT_LOOP_WRITE stores HRETRAIN and HHOLDOFF;
in a slot with a port it stores LOOP, which waits for the next pip boundary if it differs from the one in force; in an empty slot LOOP
stays, and a value other than NONE sets LOOP_REJ. PORT_LOOP_TAKE puts a waiting LOOP in force: LOOP_ACTIVE says whether it is one; receive
streams lose marker lock when the old or the new one is NEAR_PARALLEL, transmit streams when it is HOST_SERIAL or LINE_FAR; HOST_SERIAL puts
training to OFF; NEAR_PARALLEL ends the hold of the host transmitters. With none waiting nothing changes. (Rests on R173, R174, R177, R178,
R245.) -/
def Obligations.RetrainAndLoopback : Prop :=
  (∀ (s : State) (n : Fin 8), s.dev.on BN_LINK_CTRL_EN n = true → Completes (.retrainNow n) s fun t =>
      t.dev.get BN_LINK_STATUS_STATE n = 0 ∧ t.dev.get BN_LINK_STATUS_STOPPED n = 0 ∧ t.dev.get BN_LINK_STATUS_ATTEMPTS n = 1 ∧ t.dev.v .lkHoldoff n = 1
      ∧ t.dev.v .cdrInteg n = 0 ∧ t.dev.get BN_LINK_CNT_RETRAINS n = min (s.dev.get BN_LINK_CNT_RETRAINS n + 1) (2 ^ BN_LINK_CNT_RETRAINS.w - 1)
      ∧ (s.dev.on LL_EQ_STATUS_SNAP_VALID n = true → t.dev.v .eqPendRestore n = 1) ∧ (s.dev.on LL_EQ_STATUS_SNAP_VALID n = false → t.dev.v .eqPendReinit n = 1)
      ∧ Frame (orKey (regsAt [(.BN_LINK_STATUS, n), (.BN_LINK_CNT, n)]) linked)
          (orKey (varsAt [(.lkHoldoff, n), (.cdrInteg, n), (.cdrEst, n), (.cdrSum, n), (.cdrCnt, n), (.cdrDone, n), (.cdrSkip, n), (.eqPendRestore, n),
            (.eqPendReinit, n)]) (varsIn linkVars)) [] s t)
  ∧ (∀ (s : State) (n : Fin 8), s.dev.on BN_LINK_CTRL_EN n = false → Completes (.retrainNow n) s fun t => Still s t)
  ∧ (∀ (s : State) (n : Fin 8), Completes (.retrainHoldoffEnd n) s fun t => t.dev.v .lkHoldoff n = 0 ∧ Frame noKey (varsAt [(.lkHoldoff, n)]) [] s t)
  ∧ (∀ (s : State) (n : Fin 8), s.dev.flag .lkStable n = true → Completes (.linkStableTimer n) s fun t => t.dev.get BN_LINK_STATUS_ATTEMPTS n = 0
      ∧ t.dev.v .lkStable n = 0 ∧ Frame (fieldsAt [(BN_LINK_STATUS_ATTEMPTS, n)]) (varsAt [(.lkStable, n)]) [] s t)
  ∧ (∀ (s : State) (n : Fin 8), s.dev.flag .lkStable n = false → Completes (.linkStableTimer n) s fun t => Still s t)
  ∧ (∀ (s : State) (n : Fin 8) (mean g : Nat) (below above : Bool), s.dev.on LL_ADC_STATUS_READY n = true → s.dev.on LL_ADC_STATUS_FG_BUSY n = false →
      g = s.dev.get LL_ADC_STATUS_GAIN_NOW n → below = gainExceeds g (min (s.dev.v .losOffTh n).toNat (s.dev.v .losOnTh n).toNat * 256) mean →
      above = !(gainExceeds g ((s.dev.v .losOnTh n).toNat * 256) mean) → Completes (.losWindowEnd n mean) s fun t =>
        t.dev.on BN_LINK_STATUS_LOS n = (if below ∧ max 1 (s.dev.v .losAs n) ≤ s.dev.v .losOn n + 1 then true
          else if above ∧ max 1 (s.dev.v .losDe n) ≤ s.dev.v .losOff n + 1 then false else s.dev.on BN_LINK_STATUS_LOS n)
        ∧ (below = true → max 1 (s.dev.v .losAs n) ≤ s.dev.v .losOn n + 1 → s.dev.on BN_LINK_STATUS_LOS n = false →
          t.dev.get BN_LINK_STATUS_LOS_EV n = 1 ∧ Out.trigger (48 + n) s.dev.actTime ∈ t.dev.out)
        ∧ (s.dev.flag .losNew n = false → t.dev.v .losOn n = (if below then s.dev.v .losOn n + 1 else 0) ∧ t.dev.v .losOff n = (if above then s.dev.v .losOff n + 1 else 0))
        ∧ Frame (orKey (fieldsAt [(BN_LINK_STATUS_LOS, n), (BN_LINK_STATUS_LOS_EV, n)]) linked)
            (orKey (varsAt [(.losOn, n), (.losOff, n), (.losOnTh, n), (.losOffTh, n), (.losAs, n), (.losDe, n), (.losNew, n)]) (varsIn linkVars)) [.events] s t)
  ∧ (∀ (s : State) (n : Fin 8) (mean : Nat), (s.dev.on LL_ADC_STATUS_READY n = false ∨ s.dev.on LL_ADC_STATUS_FG_BUSY n = true) →
      Completes (.losWindowEnd n mean) s fun t => Still s t)
  ∧ (∀ (s : State) (sl : Fin 8) (loop : Fin 4) (hr : Bool) (hh : Byte), (s.dev.portAt sl).isSome = true → Completes (.portLoopWrite sl loop hr hh) s fun t =>
      t.dev.get BN_PORT_CTRL_LOOP sl = loop.val ∧ t.dev.on BN_PORT_CTRL_HRETRAIN sl = hr ∧ t.dev.get BN_PORT_CTRL_HHOLDOFF sl = hh.toNat
      ∧ t.dev.flag .loopPend sl = decide (s.dev.v .loopNow sl ≠ (loop.val : Nat))
      ∧ Frame (regsAt [(.BN_PORT_CTRL, sl)]) (varsAt [(.loopPend, sl)]) [] s t)
  ∧ (∀ (s : State) (sl : Fin 8) (loop : Fin 4) (hr : Bool) (hh : Byte), s.dev.portAt sl = none → Completes (.portLoopWrite sl loop hr hh) s fun t =>
      t.dev.on BN_PORT_CTRL_HRETRAIN sl = hr ∧ t.dev.get BN_PORT_CTRL_HHOLDOFF sl = hh.toNat
      ∧ t.dev.get BN_PORT_STATUS_LOOP_REJ sl = (if loop.val ≠ 0 then 1 else s.dev.get BN_PORT_STATUS_LOOP_REJ sl)
      ∧ Frame (fieldsAt [(BN_PORT_CTRL_HRETRAIN, sl), (BN_PORT_CTRL_HHOLDOFF, sl), (BN_PORT_STATUS_LOOP_REJ, sl)]) noKey [] s t)
  ∧ (∀ (s : State) (sl : Fin 8) (new : Nat), s.dev.flag .loopPend sl = true → new = s.dev.get BN_PORT_CTRL_LOOP sl → Completes (.portLoopTake sl) s fun t =>
      t.dev.v .loopPend sl = 0 ∧ t.dev.v .loopNow sl = new ∧ t.dev.on BN_PORT_STATUS_LOOP_ACTIVE sl = decide (new ≠ 0)
      ∧ ((new = 2 ∨ s.dev.v .loopNow sl = 2) → t.dev.get GBX_PSTATUS_RX_AM_LOCK sl = 0 ∧ t.dev.get GBX_PSTATUS_RX_DESKEWED sl = 0)
      ∧ ((new = 1 ∨ new = 3 ∨ s.dev.v .loopNow sl = 1 ∨ s.dev.v .loopNow sl = 3) → t.dev.get GBX_PSTATUS_TX_AM_LOCK sl = 0 ∧ t.dev.get GBX_PSTATUS_TX_DESKEWED sl = 0)
      ∧ (new = 1 → ∀ m ∈ s.dev.hostsOf sl, t.dev.get HL_TRAIN_STATUS_STATE m = 0) ∧ (new = 2 → t.dev.v .portHold sl = 0)
      ∧ Frame (orKey (regsIn [.HL_TRAIN_STATUS]) (orKey (regsAt [(.BN_PORT_STATUS, sl), (.GBX_PSTATUS, sl), (.GBX_EVENTS, sl)]) linked))
          (orKey (varsAt [(.loopPend, sl), (.loopNow, sl)]) (varsIn ([.hlPhase, .hlHoldoff] ++ linkVars))) [.loopBits] s t)
  ∧ (∀ (s : State) (sl : Fin 8), s.dev.flag .loopPend sl = false → Completes (.portLoopTake sl) s fun t => Still s t)

/-- LANE_RESET_LL returns the line lane's own registers and its link settings to their reset values and keeps EN; with EN set the ADC powers up
again; the lane stands at DOWN without codeword lock, its codewords are discarded, and CONV_LOST is set if CONV was 1; the lane's generation
moves on, each read it had accepted completes ABORTED with 0xDEADAB0D, and ABORT counts them. Registers and state of other lanes stay, but
for what follows in the lane's port and the device-level records of its packets and streams. LANE_RESET_HL returns the host lane's registers
to their reset values but keeps what the seed says of it, ENABLED and RATE; its transmitter settles anew and training is OFF; the lane's
generation moves on, each read it had accepted completes ABORTED with 0xDEADAB0D, and ABORT counts them. Nothing else changes but what
follows in the lane's port. BUNCH_RESET during a load of the bunch from QUIESCE to the end of RESTART is held; else it acts: the registers
of the bunch and its lanes take their reset values (EN among them), its codewords are discarded, the generations of the bunch and of its
lanes move on, each read they had accepted completes ABORTED with 0xDEADAB0D, ABORT counts them, and the shadow reload begins.
BN_RESET_HELD_ACT of a held reset, once the load is over, does the same; with none held, or the load not over, nothing changes. (Rests on
R10, R45, R94, R143, R147, R150, R168, R294, R295.) -/
def Obligations.PartResets : Prop :=
  (∀ (s : State) (n : Fin 8) (ab : List AbRead), Completes (.laneResetLl n ab) s fun t =>
      (∀ f ∈ [LL_CDR_CTRL_MODE, LL_ADC_CTRL_ACC_SHIFT, LL_EQ_MU_MU_ACQ, LL_TX_CTRL_EIDLE, LL_ADC_CLIP_COUNT, BN_LINK_LOS_ON, BN_LINK_TMR_T_CDR, BN_LINK_CTRL_RETRY_MAX,
          BN_LINK_STATUS_STATE], t.dev.get f n = rstAt f.rst n)
      ∧ t.dev.get BN_LINK_CTRL_EN n = s.dev.get BN_LINK_CTRL_EN n ∧ t.dev.flag .adcUp n = s.dev.on BN_LINK_CTRL_EN n ∧ t.dev.get DEC_STATUS_CW_LOCK n = 0
      ∧ (∀ c ∈ t.dev.cws, c.lane ≠ n.val) ∧ t.dev.on LL_EQ_STATUS_CONV_LOST n = s.dev.on LL_EQ_STATUS_CONV n
      ∧ t.dev.genOf (7 + n) = (s.dev.genOf (7 + n) + 1) % 256 ∧ (∀ r ∈ ab, Out.readData r.init r.addr .aborted 0xDEAD_AB0D ∈ t.dev.out)
      ∧ t.dev.get TOP_DISC_ABORT 0 = min (s.dev.get TOP_DISC_ABORT 0 + ab.length) (2 ^ TOP_DISC_ABORT.w - 1)
      ∧ Frame (orKey (fun k => regOfLine n k = true ∨ regOfLink n k = true) (orKey (regsIn [.TOP_GEN, .TOP_GEN_LL, .TOP_GEN_HL, .TOP_DISC, .SLOE_TR_STATUS])
            (orKey (regsAt [(.SLOE_TX_STATUS, n), (.SLOE_RX_STATUS, n), (.SLOE_RX_CNT0, n), (.SLOE_RX_CNT1, n), (.SLOE_RX_CNT2, n), (.DEC_STATUS, n), (.DEC_OCC, n), (.SLOE_TX_CNT, n), (.SB_LSTATUS, n)])
            (orKey (fieldsAt [(SB_STATUS_ALIGNED, 0)]) linked))))
          (orKey (fun k => varOfLine n k = true) (orKey (varsAt [(.slotPeak, n / 4), (.slReacq, n), (.slOpen, n), (.slFrozen, n), (.slCur, n), (.slFw, n)]) (varsIn linkVars)))
          [.eqPips, .finals, .capGaps, .sb, .sloeFw, .sloeTx, .cws] s t)
  ∧ (∀ (s : State) (m : Fin 16) (ab : List AbRead), Completes (.laneResetHl m ab) s fun t =>
      (∀ f ∈ [HL_CTRL_TX_PRECODE, HL_RX_SNR_SNR, HL_PAT_GEN, HL_PAT_ERR_COUNT, HL_TRAIN_CNT_PARTNER_REQ, HL_STATUS_SIG_LOST], t.dev.get f m = rstAt f.rst m)
      ∧ t.dev.on HL_STATUS_ENABLED m = ((s.dev.slotOfHost m).bind fun sl => s.dev.portAt sl).isSome ∧ t.dev.get HL_STATUS_TX_READY m = 0
      ∧ t.dev.get HL_TRAIN_STATUS_STATE m = 0
      ∧ t.dev.genOf (15 + m) = (s.dev.genOf (15 + m) + 1) % 256 ∧ (∀ r ∈ ab, Out.readData r.init r.addr .aborted 0xDEAD_AB0D ∈ t.dev.out)
      ∧ t.dev.get TOP_DISC_ABORT 0 = min (s.dev.get TOP_DISC_ABORT 0 + ab.length) (2 ^ TOP_DISC_ABORT.w - 1)
      ∧ Frame (orKey (fun k => regOfHost m k = true) (orKey (regsIn [.TOP_GEN, .TOP_GEN_LL, .TOP_GEN_HL, .TOP_DISC]) linked))
          (orKey (fun k => varOfHost m k = true) (varsIn linkVars)) [] s t)
  ∧ (∀ (s : State) (b : Fin 2) (ab : List AbRead), s.dev.reseeding b = true → Completes (.bunchReset b ab) s fun t =>
      t.dev.flag .bnHeld b = true ∧ Frame noKey (varsAt [(.bnHeld, b.val)]) [] s t)
  ∧ (∀ (s : State) (b : Fin 2) (ab : List AbRead), s.dev.reseeding b = false → Completes (.bunchReset b ab) s fun t =>
      t.dev.flag .bnHeld b = false ∧ t.dev.flag .bnReload b = true ∧ t.dev.genOf (1 + b) = (s.dev.genOf (1 + b) + 1) % 256
      ∧ (∀ n < 8, n / 4 = b.val → t.dev.genOf (7 + n) = (s.dev.genOf (7 + n) + 1) % 256 ∧ t.dev.get LL_CDR_CTRL_MODE n = rstAt LL_CDR_CTRL_MODE.rst n
          ∧ t.dev.on BN_LINK_CTRL_EN n = false)
      ∧ (∀ m < 16, m / 8 = b.val → t.dev.genOf (15 + m) = (s.dev.genOf (15 + m) + 1) % 256)
      ∧ (∀ c ∈ t.dev.cws, c.lane / 4 ≠ b.val) ∧ (∀ r ∈ ab, Out.readData r.init r.addr .aborted 0xDEAD_AB0D ∈ t.dev.out)
      ∧ t.dev.get TOP_DISC_ABORT 0 = min (s.dev.get TOP_DISC_ABORT 0 + ab.length) (2 ^ TOP_DISC_ABORT.w - 1)
      ∧ Frame (orKey (fun k => regOfBunch b k = true) (orKey (regsIn [.TOP_GEN, .TOP_GEN_LL, .TOP_GEN_HL, .TOP_DISC, .SLOE_TX_STATUS, .SLOE_TX_CNT,
            .SLOE_RX_STATUS, .SLOE_RX_CNT0, .SLOE_RX_CNT1, .SLOE_RX_CNT2, .SLOE_TR_STATUS, .SB_STATUS, .SB_LSTATUS]) linked))
          (orKey (fun k => varOfBunch b k = true) (varsIn ([.bnHeld, .bnReload, .slOpen, .slReacq, .slFrozen, .slCur, .slFw] ++ linkVars)))
          [.eqPips, .finals, .capGaps, .sb, .sloeFw, .sloeTx, .loopBits, .cws, .reloads] s t)
  ∧ (∀ (s : State) (b : Fin 2) (ab : List AbRead), s.dev.flag .bnHeld b = true → s.dev.reseeding b = false → Completes (.bnResetHeldAct b ab) s fun t =>
      t.dev.flag .bnHeld b = false ∧ t.dev.flag .bnReload b = true ∧ t.dev.genOf (1 + b) = (s.dev.genOf (1 + b) + 1) % 256
      ∧ (∀ n < 8, n / 4 = b.val → t.dev.genOf (7 + n) = (s.dev.genOf (7 + n) + 1) % 256 ∧ t.dev.get LL_CDR_CTRL_MODE n = rstAt LL_CDR_CTRL_MODE.rst n
          ∧ t.dev.on BN_LINK_CTRL_EN n = false)
      ∧ (∀ m < 16, m / 8 = b.val → t.dev.genOf (15 + m) = (s.dev.genOf (15 + m) + 1) % 256)
      ∧ (∀ c ∈ t.dev.cws, c.lane / 4 ≠ b.val) ∧ (∀ r ∈ ab, Out.readData r.init r.addr .aborted 0xDEAD_AB0D ∈ t.dev.out)
      ∧ t.dev.get TOP_DISC_ABORT 0 = min (s.dev.get TOP_DISC_ABORT 0 + ab.length) (2 ^ TOP_DISC_ABORT.w - 1)
      ∧ Frame (orKey (fun k => regOfBunch b k = true) (orKey (regsIn [.TOP_GEN, .TOP_GEN_LL, .TOP_GEN_HL, .TOP_DISC, .SLOE_TX_STATUS, .SLOE_TX_CNT,
            .SLOE_RX_STATUS, .SLOE_RX_CNT0, .SLOE_RX_CNT1, .SLOE_RX_CNT2, .SLOE_TR_STATUS, .SB_STATUS, .SB_LSTATUS]) linked))
          (orKey (fun k => varOfBunch b k = true) (varsIn ([.bnHeld, .bnReload, .slOpen, .slReacq, .slFrozen, .slCur, .slFw] ++ linkVars)))
          [.eqPips, .finals, .capGaps, .sb, .sloeFw, .sloeTx, .loopBits, .cws, .reloads] s t)
  ∧ (∀ (s : State) (b : Fin 2) (ab : List AbRead), (s.dev.flag .bnHeld b = false ∨ s.dev.reseeding b = true) → Completes (.bnResetHeldAct b ab) s fun t => Still s t)

/-- TOP_LOCK_SET sets LOCK and changes nothing else. TOP_RESET_CORE restarts each core of its mask at BOOT_VEC, no longer waiting for an
interrupt, with its generation moved on; the reads of those cores that were outstanding complete ABORTED with 0xDEADAB0D and ABORT counts
them; other cores, and with an empty mask everything, stay as they are. POWER_ON returns every register outside the Rind domain to its reset
value, BOOT_VEC too, with cause POR and device generation 0, keeps the Rind domain's other registers, the memories and the fuses, marks no
granule, and leaves no seed, codeword or Stone write. RESET_N_PULSE and TOP_RESET_WARM return every register outside the Rind domain to its
reset value but the RWS fields, which stay, move the device generation on and say their cause; they keep the Rind domain's other registers
and the fuses, release FAULT_N, clear the retention image, and leave no seed, codeword or Stone write; with KEEP_WARM = 0 no granule stays
marked; with no write pending in the Stone, and in the merge buffers or KEEP_WARM = 0, no byte of memory changes, and with KEEP_WARM = 1 the
marks of granules and the remap tables stay. RIND_RESET returns the Rind domain's registers and the retention image to their reset state and
changes nothing else. (Rests on R8, R10, R285, R286, R294, R295, R375.) -/
def Obligations.DeviceResets : Prop :=
  (∀ (s : State), Completes .topLockSet s fun t => t.dev.get TOP_LOCK_LOCK 0 = 1 ∧ Frame (fieldsAt [(TOP_LOCK_LOCK, 0)]) noKey [] s t)
  ∧ (∀ (s : State) (mask : BitVec 4) (ab : List AbRead), mask ≠ 0 → Completes (.topResetCore mask ab) s fun t =>
      (∀ c < 4, (mask.toNat.testBit c = true → t.dev.v .corePc c = (s.dev.get BOOT_VEC_LO_ADDR 0 + s.dev.get BOOT_VEC_HI_ADDR 0 % 256 * 2 ^ 32 : Nat)
        ∧ t.dev.v .coreWfi c = 0 ∧ t.dev.genOf (3 + c) = (s.dev.genOf (3 + c) + 1) % 256)
        ∧ (mask.toNat.testBit c = false → t.dev.v .corePc c = s.dev.v .corePc c ∧ t.dev.v .coreWfi c = s.dev.v .coreWfi c
        ∧ t.dev.genOf (3 + c) = s.dev.genOf (3 + c)))
      ∧ (∀ r ∈ ab, Out.readData r.init r.addr .aborted 0xDEAD_AB0D ∈ t.dev.out)
      ∧ t.dev.get TOP_DISC_ABORT 0 = min (s.dev.get TOP_DISC_ABORT 0 + ab.length) (2 ^ TOP_DISC_ABORT.w - 1)
      ∧ Frame (orKey (fieldsAt [(TOP_GEN_GEN, 1), (TOP_DISC_ABORT, 0)]) (regsIn [])) (varsIn [.corePc, .coreWfi]) [] s t)
  ∧ (∀ (s : State) (ab : List AbRead), s.dev.get TOP_DISC_ABORT 0 < 2 ^ TOP_DISC_ABORT.w → Completes (.topResetCore 0 ab) s fun t => Still s t)
  ∧ (∀ (s : State), Completes .powerOn s fun t =>
      (∀ f n, calmField f → placeOf f.reg ≠ .rind → fkey f n ≠ fkey TOP_GEN_GEN 0 → t.dev.get f n = rstAt f.rst n)
      ∧ (∀ f ∈ [BOOT_VEC_LO_ADDR, BOOT_VEC_HI_ADDR], t.dev.get f 0 = rstAt f.rst 0)
      ∧ t.dev.get TOP_GEN_GEN 0 = 0 ∧ t.dev.get RIND_REC_CAUSE 0 = 1 ∧ t.dev.v .faultN 0 = 0
      ∧ (∀ f n, calmField f → placeOf f.reg = .rind → f.reg ∉ [.BOOT_VEC_LO, .BOOT_VEC_HI, .RIND_REC, .RIND_PWR] → t.dev.get f n = s.dev.get f n)
      ∧ (∀ a, t.mem.read a = s.mem.read a) ∧ t.mem.marked = [] ∧ t.pending = s.pending ∧ t.dev.fuse = s.dev.fuse ∧ t.dev.bunch0 = BunchDesc.none
      ∧ t.dev.bunch1 = BunchDesc.none ∧ t.dev.cws = [] ∧ t.dev.stnQ = [] ∧ t.dev.stnCur = none ∧ s.dev.out <+: t.dev.out)
  ∧ (∀ (s : State) (k : Fin 5), Completes (.topResetWarm k) s fun t =>
      (∀ f n, calmField f → placeOf f.reg ≠ .rind → fkey f n ≠ fkey TOP_GEN_GEN 0 → keyAcc (fkey f n) ≠ some .rws → t.dev.get f n = rstAt f.rst n)
      ∧ (∀ f ∈ [MEM_CTRL_KEEP_WARM, BRM_CLK_SRC, PCI_CTRL_WIN_LOG2, SPI_CFG_QUAD, SEC_LC_STATUS_CMD, SEC_LC_STATUS_LAST], t.dev.get f 0 = s.dev.get f 0)
      ∧ (∀ f ∈ [BOOT_VEC_LO_ADDR, BOOT_VEC_HI_ADDR], t.dev.get f 0 = rstAt f.rst 0)
      ∧ t.dev.get TOP_GEN_GEN 0 = (s.dev.devGen + 1) % 256 ∧ t.dev.get RIND_REC_CAUSE 0 = 3 ∧ t.dev.v .faultN 0 = 0
      ∧ (∀ f n, calmField f → placeOf f.reg = .rind → f.reg ∉ [.BOOT_VEC_LO, .BOOT_VEC_HI, .RIND_REC, .RIND_PWR] → t.dev.get f n = s.dev.get f n)
      ∧ t.dev.get RIND_PWR_RET_VALID 0 = 0 ∧ t.dev.retVars = [] ∧ t.dev.retRegs = []
      ∧ ((s.dev.on MEM_CTRL_KEEP_WARM 0 = false ∨ s.dev.merge = []) → s.dev.stnCur = none → s.dev.stnQ = [] → ∀ a, t.mem.read a = s.mem.read a)
      ∧ (s.dev.on MEM_CTRL_KEEP_WARM 0 = false → t.mem.marked = [])
      ∧ (s.dev.on MEM_CTRL_KEEP_WARM 0 = true → s.dev.merge = [] → s.dev.stnCur = none → s.dev.stnQ = [] → t.mem.marked = s.mem.marked
        ∧ ∀ x, t.dev.v .remap x = s.dev.v .remap x)
      ∧ t.pending = s.pending ∧ t.dev.fuse = s.dev.fuse ∧ t.dev.bunch0 = BunchDesc.none ∧ t.dev.bunch1 = BunchDesc.none
      ∧ t.dev.cws = [] ∧ t.dev.stnQ = [] ∧ t.dev.stnCur = none ∧ s.dev.out <+: t.dev.out)
  ∧ (∀ (s : State) (k : Fin 5), Completes (.resetNPulse k) s fun t =>
      (∀ f n, calmField f → placeOf f.reg ≠ .rind → fkey f n ≠ fkey TOP_GEN_GEN 0 → keyAcc (fkey f n) ≠ some .rws → t.dev.get f n = rstAt f.rst n)
      ∧ (∀ f ∈ [MEM_CTRL_KEEP_WARM, BRM_CLK_SRC, PCI_CTRL_WIN_LOG2, SPI_CFG_QUAD, SEC_LC_STATUS_CMD, SEC_LC_STATUS_LAST], t.dev.get f 0 = s.dev.get f 0)
      ∧ (∀ f ∈ [BOOT_VEC_LO_ADDR, BOOT_VEC_HI_ADDR], t.dev.get f 0 = rstAt f.rst 0)
      ∧ t.dev.get TOP_GEN_GEN 0 = (s.dev.devGen + 1) % 256 ∧ t.dev.get RIND_REC_CAUSE 0 = 2 ∧ t.dev.v .faultN 0 = 0
      ∧ (∀ f n, calmField f → placeOf f.reg = .rind → f.reg ∉ [.BOOT_VEC_LO, .BOOT_VEC_HI, .RIND_REC, .RIND_PWR] → t.dev.get f n = s.dev.get f n)
      ∧ t.dev.get RIND_PWR_RET_VALID 0 = 0 ∧ t.dev.retVars = [] ∧ t.dev.retRegs = []
      ∧ ((s.dev.on MEM_CTRL_KEEP_WARM 0 = false ∨ s.dev.merge = []) → s.dev.stnCur = none → s.dev.stnQ = [] → ∀ a, t.mem.read a = s.mem.read a)
      ∧ (s.dev.on MEM_CTRL_KEEP_WARM 0 = false → t.mem.marked = [])
      ∧ (s.dev.on MEM_CTRL_KEEP_WARM 0 = true → s.dev.merge = [] → s.dev.stnCur = none → s.dev.stnQ = [] → t.mem.marked = s.mem.marked
        ∧ ∀ x, t.dev.v .remap x = s.dev.v .remap x)
      ∧ t.pending = s.pending ∧ t.dev.fuse = s.dev.fuse ∧ t.dev.bunch0 = BunchDesc.none ∧ t.dev.bunch1 = BunchDesc.none
      ∧ t.dev.cws = [] ∧ t.dev.stnQ = [] ∧ t.dev.stnCur = none ∧ s.dev.out <+: t.dev.out)
  ∧ (∀ (s : State), Completes .rindReset s fun t => (∀ f n, calmField f → placeOf f.reg = .rind → t.dev.get f n = rstAt f.rst n)
      ∧ t.dev.retVars = [] ∧ t.dev.retRegs = []
      ∧ Frame (fun k => keyPlace k = .rind) (fun k => varPlace (varAt k.1) = .rind) [.retVars, .retRegs] s t)

/-- SB_FIRST_STAGE_OUTPUT of 1024 symbols to a lane whose chain runs gives the boxcar response over the newest 4093 codes (at a hold-fill every
older code is the first new one), which waits for the engine with its ball time; with another number of symbols, or no chain, nothing
changes. SB_SYNC_WRITE sets SYNC_EV, restarts every lane's chain, and sets ALIGNED for the READY lanes alone. SB_FIR_APPLY sets APPLY_PEND
and nothing else. SB_ENGINE_VISIT processes at most 8 of the lane's waiting outputs, in order, and nothing on a lane without a chain. One
that waits alone, with no SYNC, no changed stage list and every optional stage off, leaves unchanged as a fine output stamped 2046 UI before
its ball time, with SAT and whether the chain still settles, and SETTLE_LEFT falls by one; with FAST_LOG2 0 and no fast sum begun it leaves
as a fast output too; a pending apply takes all 64 coefficients, the shifts and K. SB_POWER_WINDOW reports a completed window's mean and
SB_NF_REPORT the lowest mean of a completed set of 16 sub-blocks, once each; with none completed they change nothing. (Rests on R180 to
R183, R185, R187 to R190, R192, R194, R195.) -/
def Obligations.SidebandChain : Prop :=
  (∀ (s : State) (n : Fin 8) (ago : Nat) (volts codes : List Int) (e : SbLane), codes = s.dev.adcCodes n volts → s.dev.sbOf n = some e →
      volts.length = 1024 → e.cicFill = false → Completes (.sbFirstStageOutput n ago volts) s fun t =>
        t.dev.sbOf n = some { e with cic := (codes.reverse ++ e.cic).take 3069, sync := false, change := false, wait := e.wait ++ [{ value := cicOut (codes.reverse ++ e.cic), ball := s.dev.actTime - (ago : Int), sync := e.sync, change := e.change }] }
        ∧ Frame noKey noKey [.sb] s t)
  ∧ (∀ (s : State) (n : Fin 8) (ago : Nat) (volts codes : List Int) (e : SbLane), codes = s.dev.adcCodes n volts → s.dev.sbOf n = some e →
      volts.length = 1024 → e.cicFill = true → Completes (.sbFirstStageOutput n ago volts) s fun t =>
        t.dev.sbOf n = some { e with cic := (codes.reverse ++ List.replicate 3069 (codes.headD 0)).take 3069, cicFill := false, sync := false, change := false, wait := e.wait ++ [{ value := cicOut (codes.reverse ++ List.replicate 3069 (codes.headD 0)), ball := s.dev.actTime - (ago : Int), sync := e.sync, change := e.change }] }
        ∧ Frame noKey noKey [.sb] s t)
  ∧ (∀ (s : State) (n : Fin 8) (ago : Nat) (volts : List Int), (s.dev.sbOf n = none ∨ volts.length ≠ 1024) →
      Completes (.sbFirstStageOutput n ago volts) s fun t => Still s t)
  ∧ (∀ (s : State), Completes .sbSyncWrite s fun t => t.dev.get SB_STATUS_SYNC_EV 0 = 1
      ∧ (∀ n < 8, (t.dev.get SB_STATUS_ALIGNED 0).testBit n = s.dev.on LL_ADC_STATUS_READY n)
      ∧ t.dev.sb = s.dev.sb.map (fun e => { e with cicFill := true, sync := true })
      ∧ Frame (fieldsAt [(SB_STATUS_SYNC_EV, 0), (SB_STATUS_ALIGNED, 0)]) noKey [.sb] s t)
  ∧ (∀ (s : State) (n : Fin 8), Completes (.sbFirApply n) s fun t => t.dev.get SB_LSTATUS_APPLY_PEND n = 1
      ∧ Frame (fieldsAt [(SB_LSTATUS_APPLY_PEND, n)]) noKey [] s t)
  ∧ (∀ (s : State) (n : Fin 8) (e : SbLane) (w : SbIn), s.dev.sbOf n = some e → e.wait = [w] → w.sync = false → w.change = false →
      s.dev.get SB_STAGES_RANK n = 0 → s.dev.get SB_STAGES_HB n = 0 → s.dev.on SB_STAGES_FIR_EN n = false → s.dev.on SB_STAGES_DC_EN n = false →
      s.dev.on SB_LSTATUS_APPLY_PEND n = false → Completes (.sbEngineVisit n) s fun t =>
        Out.fine n w.value e.sat (s.dev.get SB_LSTATUS_SETTLE_LEFT n != 0) (w.ball - s.dev.uiTime n 2046) ∈ t.dev.out
        ∧ t.dev.get SB_LSTATUS_SETTLE_LEFT n = (s.dev.get SB_LSTATUS_SETTLE_LEFT n - 1) % 2 ^ SB_LSTATUS_SETTLE_LEFT.w
        ∧ (∃ e', t.dev.sbOf n = some e' ∧ e'.wait = [] ∧ e'.sat = false)
        ∧ Frame (regsAt [(.SB_LSTATUS, n), (.SB_SAT, n)]) noKey [.sb, .capQ] s t)
  ∧ (∀ (s : State) (n : Fin 8) (e : SbLane) (w : SbIn), s.dev.sbOf n = some e → e.wait = [w] → w.sync = false → w.change = false →
      s.dev.get SB_STAGES_RANK n = 0 → s.dev.get SB_STAGES_HB n = 0 → s.dev.on SB_STAGES_FIR_EN n = false → s.dev.on SB_STAGES_DC_EN n = false →
      s.dev.get SB_FAST_LOG2 n = 0 → e.fastCnt = 0 → e.fastSum = 0 → Completes (.sbEngineVisit n) s fun t =>
        Out.fast n w.value (w.ball - s.dev.uiTime n 2046) ∈ t.dev.out)
  ∧ (∀ (s : State) (n : Fin 8) (e : SbLane) (w : SbIn), s.dev.sbOf n = some e → e.wait = [w] → w.sync = false → w.change = false →
      s.dev.get SB_STAGES_HB n = 0 → s.dev.on SB_LSTATUS_APPLY_PEND n = true → Completes (.sbEngineVisit n) s fun t =>
        t.dev.get SB_LSTATUS_APPLY_PEND n = 0 ∧ (∀ k < 64, t.dev.v .sbCoef (64 * n + k) = s.dev.v .sbCoefP (64 * n + k))
        ∧ t.dev.v .sbShift (7 * n) = (s.dev.get SB_SHIFT_RANK n : Nat) ∧ t.dev.v .sbShift (7 * n + 1) = (s.dev.get SB_SHIFT_HB1 n : Nat)
        ∧ t.dev.v .sbShift (7 * n + 2) = (s.dev.get SB_SHIFT_HB2 n : Nat) ∧ t.dev.v .sbShift (7 * n + 3) = (s.dev.get SB_SHIFT_HB3 n : Nat)
        ∧ t.dev.v .sbShift (7 * n + 4) = (s.dev.get SB_SHIFT_HB4 n : Nat) ∧ t.dev.v .sbShift (7 * n + 5) = (s.dev.get SB_SHIFT_FIR n : Nat)
        ∧ t.dev.v .sbShift (7 * n + 6) = (s.dev.get SB_SHIFT_DC n : Nat) ∧ t.dev.v .sbK n = (s.dev.get SB_DC_K n : Nat))
  ∧ (∀ (s : State) (n : Fin 8) (e : SbLane), s.dev.sbOf n = some e → Completes (.sbEngineVisit n) s fun t =>
        (∃ e', t.dev.sbOf n = some e' ∧ e'.wait = e.wait.drop 8)
        ∧ Frame (orKey (regsAt [(.SB_LSTATUS, n), (.SB_SAT, n), (.SLOE_RX_STATUS, n), (.SLOE_RX_CNT2, n)]) (regsIn [.SLOE_TR_STATUS]))
            (varsIn [.sbCoef, .sbShift, .sbK, .slFrozen, .slReacq]) [.sb, .capQ] s t)
  ∧ (∀ (s : State) (n : Fin 8), s.dev.sbOf n = none → Completes (.sbEngineVisit n) s fun t => Still s t)
  ∧ (∀ (s : State) (n : Fin 8) (e : SbLane) (sum cnt : Nat), s.dev.sbOf n = some e → e.pwrDone = some (sum, cnt) →
      Completes (.sbPowerWindow n) s fun t => t.dev.get SB_PWR_DBFS n = twos SB_PWR_DBFS.w (dbfs sum (cnt * 2 ^ 46)) % 2 ^ SB_PWR_DBFS.w
        ∧ t.dev.sbOf n = some { e with pwrDone := none } ∧ Frame (fieldsAt [(SB_PWR_DBFS, n)]) noKey [.sb] s t)
  ∧ (∀ (s : State) (n : Fin 8), s.dev.sbOf n = none → Completes (.sbPowerWindow n) s fun t => Still s t)
  ∧ (∀ (s : State) (n : Fin 8) (e : SbLane), s.dev.sbOf n = some e → e.pwrDone = none → Completes (.sbPowerWindow n) s fun t => Still s t)
  ∧ (∀ (s : State) (n : Fin 8) (e : SbLane) (m : Nat), s.dev.sbOf n = some e → e.nfDone = some m → Completes (.sbNfReport n) s fun t =>
      t.dev.get SB_NF_DBFS n = twos SB_NF_DBFS.w (dbfs m (2 ^ 58)) % 2 ^ SB_NF_DBFS.w ∧ t.dev.sbOf n = some { e with nfDone := none }
      ∧ Frame (fieldsAt [(SB_NF_DBFS, n)]) noKey [.sb] s t)
  ∧ (∀ (s : State) (n : Fin 8), s.dev.sbOf n = none → Completes (.sbNfReport n) s fun t => Still s t)
  ∧ (∀ (s : State) (n : Fin 8) (e : SbLane), s.dev.sbOf n = some e → e.nfDone = none → Completes (.sbNfReport n) s fun t => Still s t)

/-- SLOE_SEND always writes the word's fields; while BUSY it sets BUSY_REJ alone; with the transmitter or its lane off, or a TIME type shorter
than 16 bytes, it ends REFUSED; else the packet waits, BUSY, with the next sequence number and its payload. SLOE_PACKET_START of an enabled
transmitter begins, in this order, a pending gasp (which drops a firmware packet in transmission), and with nothing in transmission a
pending ACK, a trigger packet, the firmware packet, each with its coded symbols; a retransmission counts in TRY, a TIME packet is stamped
and latches the marker; else nothing changes. SLOE_PACKET_END counts SENT and ends the transmission: a firmware packet ends SENT or opens
its acknowledgement window. SLOE_ACK_WINDOW_EXPIRY resends with RETX while tries are left, else ends NO_ACK; with no window open nothing
changes. SLOE_GASP_SEND makes a gasp of reason 2 wait on each lane whose transmitter and lane are enabled (the lane's part is the model's
choice, assumption 84). (Rests on R199, R205 to R208, R220, R234, R238.) -/
def Obligations.SloeTransmit : Prop :=
  (∀ (s : State) (n : Fin 8) (ctrl : Word), Completes (.sloeSend n ctrl) s fun t => t.dev.get SLOE_TX_CTRL_LEN n = ctrl.toNat % 2 ^ SLOE_TX_CTRL_LEN.w
        ∧ t.dev.get SLOE_TX_CTRL_TYPE n = ctrl.toNat / 2 ^ 8 % 2 ^ SLOE_TX_CTRL_TYPE.w ∧ t.dev.get SLOE_TX_CTRL_ACK_REQ n = ctrl.toNat / 2 ^ 14 % 2 ^ SLOE_TX_CTRL_ACK_REQ.w
        ∧ t.dev.get SLOE_TX_CTRL_RETRIES n = ctrl.toNat / 2 ^ 16 % 2 ^ SLOE_TX_CTRL_RETRIES.w ∧ t.dev.get SLOE_TX_CTRL_WIN n = ctrl.toNat / 2 ^ 20 % 2 ^ SLOE_TX_CTRL_WIN.w)
  ∧ (∀ (s : State) (n : Fin 8) (ctrl : Word) (len typ : Nat), len = ctrl.toNat % 2 ^ SLOE_TX_CTRL_LEN.w → typ = ctrl.toNat / 2 ^ 8 % 2 ^ SLOE_TX_CTRL_TYPE.w →
      s.dev.on SLOE_TX_STATUS_BUSY n = false → s.dev.on SLOE_LCFG_TX_EN n = true → s.dev.on BN_LINK_CTRL_EN n = true →
      ((typ ≠ 4 ∧ typ ≠ 5) ∨ 16 ≤ len) → Completes (.sloeSend n ctrl) s fun t =>
        t.dev.get SLOE_TX_STATUS_BUSY n = 1 ∧ t.dev.get SLOE_TX_STATUS_RESULT n = 0 ∧ t.dev.get SLOE_TX_STATUS_TRY n = 0 ∧ t.dev.v .slFw n = 1
        ∧ t.dev.get SLOE_TX_STATUS_SEQ n = (s.dev.v .slNextSeq n).toNat % 2 ^ SLOE_TX_STATUS_SEQ.w ∧ t.dev.v .slNextSeq n = (((s.dev.v .slNextSeq n).toNat + 1) % 256 : Nat)
        ∧ t.dev.sloeFw.head? = some { lane := n, typ := typ, ackReq := t.dev.on SLOE_TX_CTRL_ACK_REQ n, retx := false, seq := (s.dev.v .slNextSeq n).toNat, payload := (List.range len).map (fun i => s.dev.slByte .slTxBuf n i) }
        ∧ Frame (regsAt [(.SLOE_TX_CTRL, n), (.SLOE_TX_STATUS, n)]) (varsAt [(.slNextSeq, n), (.slFw, n)]) [.sloeFw] s t)
  ∧ (∀ (s : State) (n : Fin 8) (ctrl : Word) (len typ : Nat), len = ctrl.toNat % 2 ^ SLOE_TX_CTRL_LEN.w → typ = ctrl.toNat / 2 ^ 8 % 2 ^ SLOE_TX_CTRL_TYPE.w →
      s.dev.on SLOE_TX_STATUS_BUSY n = false → (s.dev.on SLOE_LCFG_TX_EN n = false ∨ s.dev.on BN_LINK_CTRL_EN n = false ∨ ((typ = 4 ∨ typ = 5) ∧ len < 16)) →
      Completes (.sloeSend n ctrl) s fun t => t.dev.get SLOE_TX_STATUS_RESULT n = 5 ∧ t.dev.get SLOE_TX_STATUS_DONE n = 1
        ∧ Frame (orKey (regsAt [(.SLOE_TX_CTRL, n)]) (fieldsAt [(SLOE_TX_STATUS_RESULT, n), (SLOE_TX_STATUS_DONE, n)])) noKey [] s t)
  ∧ (∀ (s : State) (n : Fin 8) (ctrl : Word), s.dev.on SLOE_TX_STATUS_BUSY n = true → Completes (.sloeSend n ctrl) s fun t => t.dev.get SLOE_TX_STATUS_BUSY_REJ n = 1
        ∧ Frame (orKey (regsAt [(.SLOE_TX_CTRL, n)]) (fieldsAt [(SLOE_TX_STATUS_BUSY_REJ, n)])) noKey [] s t)
  ∧ (∀ (s : State) (n : Fin 8) (lead age : Nat) (hdr body : List Byte) (syms : List (Bool × Nat)), hdr = sloeHeader 1 2 false false (s.dev.get SLOE_ID_TX_ID n) 0 →
      body = sloePayload [BitVec.ofInt 8 (s.dev.v .slGasp n)] → syms = sloeSymbols (s.dev.slSF n) 4 (s.dev.v .slSync n).toNat hdr body → s.dev.slSends n = true →
      s.dev.v .slGasp n ≠ 0 → Completes (.sloePacketStart n lead age) s fun t =>
        t.dev.v .slGasp n = 0 ∧ t.dev.v .slCur n = 1 ∧ Out.sloe n (hdr ++ body) syms ∈ t.dev.out ∧ t.dev.slRest n = syms
        ∧ (s.dev.v .slCur n = 4 → t.dev.get SLOE_TX_STATUS_BUSY n = 0 ∧ t.dev.get SLOE_TX_STATUS_RESULT n = 4 ∧ t.dev.get SLOE_TX_STATUS_DONE n = 1)
        ∧ Frame (regsAt [(.SLOE_TX_STATUS, n), (.SLOE_TX_CNT, n)]) (varsAt [(.slGasp, n), (.slCur, n), (.slFw, n), (.slOpen, n)]) [.sloeFw, .sloeTx] s t)
  ∧ (∀ (s : State) (n : Fin 8) (lead age : Nat) (hdr : List Byte) (syms : List (Bool × Nat)),
      hdr = sloeHeader 0 6 false false (s.dev.get SLOE_ID_TX_ID n) (s.dev.v .slAck n - 1).toNat →
      syms = sloeSymbols (s.dev.slSF n) (clampN 4 32 (s.dev.get SLOE_DET_PRE_PAIRS n)) (s.dev.v .slSync n).toNat hdr [] → s.dev.slSends n = true →
      s.dev.v .slGasp n = 0 → s.dev.v .slCur n = 0 → s.dev.v .slAck n ≠ 0 → Completes (.sloePacketStart n lead age) s fun t =>
        t.dev.v .slAck n = 0 ∧ t.dev.v .slCur n = 2 ∧ Out.sloe n hdr syms ∈ t.dev.out ∧ t.dev.slRest n = syms
        ∧ Frame noKey (varsAt [(.slAck, n), (.slCur, n)]) [.sloeTx] s t)
  ∧ (∀ (s : State) (n : Fin 8) (lead age : Nat) (hdr body : List Byte) (syms : List (Bool × Nat)), hdr = sloeHeader 2 3 false false (s.dev.get SLOE_ID_TX_ID n) 0 →
      body = sloePayload [BitVec.ofInt 8 (s.dev.v .slTrig n - 1), 0] →
      syms = sloeSymbols (s.dev.slSF n) (clampN 4 32 (s.dev.get SLOE_DET_PRE_PAIRS n)) (s.dev.v .slSync n).toNat hdr body → s.dev.slSends n = true →
      s.dev.v .slGasp n = 0 → s.dev.v .slCur n = 0 → s.dev.v .slAck n = 0 → s.dev.v .slTrig n ≠ 0 → Completes (.sloePacketStart n lead age) s fun t =>
        t.dev.v .slTrig n = 0 ∧ t.dev.v .slCur n = 3 ∧ Out.sloe n (hdr ++ body) syms ∈ t.dev.out ∧ t.dev.slRest n = syms
        ∧ Frame noKey (varsAt [(.slTrig, n), (.slCur, n)]) [.sloeTx] s t)
  ∧ (∀ (s : State) (n : Fin 8) (lead age : Nat) (p : SloePkt) (hdr body : List Byte) (syms : List (Bool × Nat)),
      hdr = sloeHeader p.payload.length p.typ p.ackReq p.retx (s.dev.get SLOE_ID_TX_ID n) p.seq → body = sloePayload p.payload →
      syms = sloeSymbols (s.dev.slSF n) (clampN 4 32 (s.dev.get SLOE_DET_PRE_PAIRS n)) (s.dev.v .slSync n).toNat hdr body → s.dev.slSends n = true →
      s.dev.v .slGasp n = 0 → s.dev.v .slCur n = 0 → s.dev.v .slAck n = 0 → s.dev.v .slTrig n = 0 → s.dev.flag .slFw n = true →
      s.dev.sloeFw.find? (fun q => q.lane == n.val) = some p → p.typ ≠ 4 → p.typ ≠ 5 → Completes (.sloePacketStart n lead age) s fun t =>
        t.dev.v .slFw n = 0 ∧ t.dev.v .slCur n = 4 ∧ Out.sloe n (hdr ++ body) syms ∈ t.dev.out ∧ t.dev.slRest n = syms
        ∧ t.dev.get SLOE_TX_STATUS_TRY n = (s.dev.get SLOE_TX_STATUS_TRY n + b2n p.retx) % 2 ^ SLOE_TX_STATUS_TRY.w
        ∧ Frame (fieldsAt [(SLOE_TX_STATUS_TRY, n)]) (varsAt [(.slFw, n), (.slCur, n)]) [.sloeTx] s t)
  ∧ (∀ (s : State) (n : Fin 8) (lead age sc mark : Nat) (p : SloePkt) (hdr body : List Byte) (syms : List (Bool × Nat)),
      sc = byte0Scale (fb p.payload 0) → mark = timeBits (s.dev.scale sc - (age : Int)) →
      body = stampPayload p.payload (timeBits (s.dev.scale sc + (lead : Int))) mark (s.dev.markOk n .tx) →
      hdr = sloeHeader body.length p.typ p.ackReq p.retx (s.dev.get SLOE_ID_TX_ID n) p.seq →
      syms = sloeSymbols (s.dev.slSF n) (clampN 4 32 (s.dev.get SLOE_DET_PRE_PAIRS n)) (s.dev.v .slSync n).toNat hdr (sloePayload body) → s.dev.slSends n = true →
      s.dev.v .slGasp n = 0 → s.dev.v .slCur n = 0 → s.dev.v .slAck n = 0 → s.dev.v .slTrig n = 0 → s.dev.flag .slFw n = true →
      s.dev.sloeFw.find? (fun q => q.lane == n.val) = some p → (p.typ = 4 ∨ p.typ = 5) → Completes (.sloePacketStart n lead age) s fun t =>
        t.dev.v .slFw n = 0 ∧ t.dev.v .slCur n = 4 ∧ Out.sloe n (hdr ++ sloePayload body) syms ∈ t.dev.out ∧ t.dev.slRest n = syms
        ∧ t.dev.get TIME_MTX_TIME (3 * n) = mark % 2 ^ 94 % 2 ^ 32
        ∧ t.dev.get SLOE_TX_STATUS_TRY n = (s.dev.get SLOE_TX_STATUS_TRY n + b2n p.retx) % 2 ^ SLOE_TX_STATUS_TRY.w
        ∧ Frame (orKey (fieldsAt [(SLOE_TX_STATUS_TRY, n)]) (regsAt [(.TIME_MTX, 3 * n), (.TIME_MTX, 3 * n + 1), (.TIME_MTX, 3 * n + 2)]))
            (varsAt [(.slFw, n), (.slCur, n)]) [.sloeTx] s t)
  ∧ (∀ (s : State) (n : Fin 8) (lead age : Nat), (s.dev.slSends n = false ∨ (s.dev.v .slGasp n = 0 ∧ s.dev.v .slCur n ≠ 0)
      ∨ (s.dev.v .slGasp n = 0 ∧ s.dev.v .slAck n = 0 ∧ s.dev.v .slTrig n = 0 ∧ (s.dev.flag .slFw n = false ∨ s.dev.sloeFw.find? (fun q => q.lane == n.val) = none))) →
      Completes (.sloePacketStart n lead age) s fun t => Still s t)
  ∧ (∀ (s : State) (n : Fin 8), s.dev.v .slCur n = 4 → (s.dev.sloeFw.find? (fun x => x.lane == n.val)).any (fun p => p.ackReq) = true →
      Completes (.sloePacketEnd n) s fun t => t.dev.v .slCur n = 0 ∧ t.dev.slRest n = [] ∧ t.dev.v .slOpen n = 1
        ∧ t.dev.get SLOE_TX_CNT_SENT n = min (s.dev.get SLOE_TX_CNT_SENT n + 1) (2 ^ SLOE_TX_CNT_SENT.w - 1)
        ∧ Frame (fieldsAt [(SLOE_TX_CNT_SENT, n)]) (varsAt [(.slCur, n), (.slOpen, n)]) [.sloeTx] s t)
  ∧ (∀ (s : State) (n : Fin 8), s.dev.v .slCur n = 4 → (s.dev.sloeFw.find? (fun x => x.lane == n.val)).any (fun p => p.ackReq) = false →
      Completes (.sloePacketEnd n) s fun t => t.dev.v .slCur n = 0 ∧ t.dev.slRest n = []
        ∧ t.dev.get SLOE_TX_STATUS_RESULT n = 1 ∧ t.dev.get SLOE_TX_STATUS_BUSY n = 0 ∧ t.dev.get SLOE_TX_STATUS_DONE n = 1
        ∧ t.dev.get SLOE_TX_CNT_SENT n = min (s.dev.get SLOE_TX_CNT_SENT n + 1) (2 ^ SLOE_TX_CNT_SENT.w - 1)
        ∧ Frame (regsAt [(.SLOE_TX_STATUS, n), (.SLOE_TX_CNT, n)]) (varsAt [(.slCur, n), (.slOpen, n), (.slFw, n)]) [.sloeFw, .sloeTx] s t)
  ∧ (∀ (s : State) (n : Fin 8), s.dev.v .slCur n ≠ 0 → s.dev.v .slCur n ≠ 4 → Completes (.sloePacketEnd n) s fun t => t.dev.v .slCur n = 0 ∧ t.dev.slRest n = []
        ∧ t.dev.get SLOE_TX_CNT_SENT n = min (s.dev.get SLOE_TX_CNT_SENT n + 1) (2 ^ SLOE_TX_CNT_SENT.w - 1)
        ∧ Frame (fieldsAt [(SLOE_TX_CNT_SENT, n)]) (varsAt [(.slCur, n)]) [.sloeTx] s t)
  ∧ (∀ (s : State) (n : Fin 8), s.dev.v .slCur n = 0 → Completes (.sloePacketEnd n) s fun t => Still s t)
  ∧ (∀ (s : State) (n : Fin 8), s.dev.flag .slOpen n = true → s.dev.get SLOE_TX_STATUS_TRY n < s.dev.get SLOE_TX_CTRL_RETRIES n →
      Completes (.sloeAckWindowExpiry n) s fun t => t.dev.v .slFw n = 1 ∧ t.dev.v .slOpen n = 0
        ∧ t.dev.sloeFw = s.dev.sloeFw.map (fun p => if p.lane = n.val then { p with retx := true } else p)
        ∧ Frame noKey (varsAt [(.slFw, n), (.slOpen, n)]) [.sloeFw] s t)
  ∧ (∀ (s : State) (n : Fin 8), s.dev.flag .slOpen n = true → s.dev.get SLOE_TX_CTRL_RETRIES n ≤ s.dev.get SLOE_TX_STATUS_TRY n → Completes (.sloeAckWindowExpiry n) s fun t =>
        t.dev.get SLOE_TX_STATUS_RESULT n = 3 ∧ t.dev.get SLOE_TX_STATUS_BUSY n = 0 ∧ t.dev.get SLOE_TX_STATUS_DONE n = 1 ∧ t.dev.v .slOpen n = 0
        ∧ t.dev.get SLOE_TX_CNT_NO_ACK n = min (s.dev.get SLOE_TX_CNT_NO_ACK n + 1) (2 ^ SLOE_TX_CNT_NO_ACK.w - 1)
        ∧ Frame (regsAt [(.SLOE_TX_STATUS, n), (.SLOE_TX_CNT, n)]) (varsAt [(.slCur, n), (.slOpen, n), (.slFw, n)]) [.sloeFw, .sloeTx] s t)
  ∧ (∀ (s : State) (n : Fin 8), s.dev.flag .slOpen n = false → Completes (.sloeAckWindowExpiry n) s fun t => Still s t)
  ∧ (∀ (s : State), Completes .sloeGaspSend s fun t =>
        (∀ n < 8, t.dev.v .slGasp n = if s.dev.on SLOE_LCFG_TX_EN n && s.dev.on BN_LINK_CTRL_EN n then 2 else s.dev.v .slGasp n)
        ∧ Frame noKey (varsIn [.slGasp]) [] s t)

/-- SLOE_PREAMBLE_DETECT at or above the threshold locks a searching receiver onto the preamble and freezes its gain, gives up a reception still
in PREAMBLE or HEADER (FALSE_ABORT), and one in PAYLOAD when capture is enabled and the metric stands by the margin above the old one
(PREEMPTED); else nothing changes. SLOE_SYNC_FOUND moves from PREAMBLE to HEADER and freezes a gain loop that still ran. SLOE_FALSE_LOCK
sends PREAMBLE back to SEARCH with its count. SLOE_CONFIG_CHANGE makes changed values of SF, BW, CENTRE, SYNC, DET_OFS and DET_PAIRS take
effect, ends a reception ABORTED, and the first four drop the firmware packet; with none changed nothing changes. SLOE_NF_REPORT reports the
noise floor while searching. SLOE_TR_WINDOW of an enabled timing receiver whose lane can be heard records COVER and TRACKING and, when at
least half was tracked, the rate with VALID, else VALID = 0. (Rests on R208 to R213, R215, R218, R221, R222.) -/
def Obligations.SloeReceiver : Prop :=
  (∀ (s : State) (n : Fin 8) (m p : Int), s.dev.get SLOE_RX_STATUS_STATE n = 1 → s.dev.slDetect n ≤ m → Completes (.sloePreambleDetect n m p) s fun t =>
      t.dev.get SLOE_RX_STATUS_STATE n = 2 ∧ t.dev.v .slMetric n = m ∧ t.dev.v .slFrozen n = 1 ∧ t.dev.v .slGain n = -120 - p
      ∧ Frame (fieldsAt [(SLOE_RX_STATUS_STATE, n)]) (varsAt [(.slMetric, n), (.slFrozen, n), (.slGain, n), (.slReacq, n)]) [] s t)
  ∧ (∀ (s : State) (n : Fin 8) (m p : Int), m < s.dev.slDetect n → Completes (.sloePreambleDetect n m p) s fun t => Still s t)
  ∧ (∀ (s : State) (n : Fin 8) (m p : Int), (s.dev.get SLOE_RX_STATUS_STATE n = 2 ∨ s.dev.get SLOE_RX_STATUS_STATE n = 3) → s.dev.slDetect n ≤ m →
      Completes (.sloePreambleDetect n m p) s fun t => t.dev.get SLOE_RX_STATUS_STATE n = 2 ∧ t.dev.get SLOE_RX_STATUS_LAST n = 8 ∧ t.dev.v .slMetric n = m
        ∧ t.dev.get SLOE_RX_CNT1_FALSE_ABORT n = min (s.dev.get SLOE_RX_CNT1_FALSE_ABORT n + 1) (2 ^ SLOE_RX_CNT1_FALSE_ABORT.w - 1)
        ∧ t.dev.v .slFrozen n = 0 ∧ t.dev.v .slReacq n = 1
        ∧ Frame (fieldsAt [(SLOE_RX_STATUS_STATE, n), (SLOE_RX_STATUS_LAST, n), (SLOE_RX_CNT1_FALSE_ABORT, n)]) (varsAt [(.slMetric, n), (.slFrozen, n), (.slReacq, n)]) [] s t)
  ∧ (∀ (s : State) (n : Fin 8) (m p : Int), s.dev.get SLOE_RX_STATUS_STATE n = 4 → s.dev.slDetect n ≤ m → s.dev.on SLOE_CAPTURE_EN 0 = true →
      s.dev.v .slMetric n + 10 * (s.dev.get SLOE_CAPTURE_MARGIN 0 : Nat) ≤ m →
      Completes (.sloePreambleDetect n m p) s fun t => t.dev.get SLOE_RX_STATUS_STATE n = 2 ∧ t.dev.get SLOE_RX_STATUS_LAST n = 7 ∧ t.dev.v .slMetric n = m
        ∧ t.dev.get SLOE_RX_CNT1_PREEMPTED n = min (s.dev.get SLOE_RX_CNT1_PREEMPTED n + 1) (2 ^ SLOE_RX_CNT1_PREEMPTED.w - 1)
        ∧ t.dev.v .slFrozen n = 0 ∧ t.dev.v .slReacq n = 1
        ∧ Frame (fieldsAt [(SLOE_RX_STATUS_STATE, n), (SLOE_RX_STATUS_LAST, n), (SLOE_RX_CNT1_PREEMPTED, n)]) (varsAt [(.slMetric, n), (.slFrozen, n), (.slReacq, n)]) [] s t)
  ∧ (∀ (s : State) (n : Fin 8) (m p : Int), (s.dev.get SLOE_RX_STATUS_STATE n = 0 ∨ 4 < s.dev.get SLOE_RX_STATUS_STATE n ∨ (s.dev.get SLOE_RX_STATUS_STATE n = 4
      ∧ (s.dev.on SLOE_CAPTURE_EN 0 = false ∨ m < s.dev.v .slMetric n + 10 * (s.dev.get SLOE_CAPTURE_MARGIN 0 : Nat)))) →
      Completes (.sloePreambleDetect n m p) s fun t => Still s t)
  ∧ (∀ (s : State) (n : Fin 8) (p : Int), s.dev.get SLOE_RX_STATUS_STATE n = 2 → s.dev.flag .slReacq n = false → Completes (.sloeSyncFound n p) s fun t =>
      t.dev.get SLOE_RX_STATUS_STATE n = 3 ∧ Frame (fieldsAt [(SLOE_RX_STATUS_STATE, n)]) noKey [] s t)
  ∧ (∀ (s : State) (n : Fin 8) (p : Int), s.dev.get SLOE_RX_STATUS_STATE n = 2 → s.dev.flag .slReacq n = true → Completes (.sloeSyncFound n p) s fun t =>
      t.dev.get SLOE_RX_STATUS_STATE n = 3 ∧ t.dev.v .slFrozen n = 1 ∧ t.dev.v .slGain n = -120 - p ∧ t.dev.v .slReacq n = 0
      ∧ Frame (fieldsAt [(SLOE_RX_STATUS_STATE, n)]) (varsAt [(.slFrozen, n), (.slGain, n), (.slReacq, n)]) [] s t)
  ∧ (∀ (s : State) (n : Fin 8) (p : Int), s.dev.get SLOE_RX_STATUS_STATE n ≠ 2 → Completes (.sloeSyncFound n p) s fun t => Still s t)
  ∧ (∀ (s : State) (n : Fin 8), s.dev.get SLOE_RX_STATUS_STATE n = 2 → Completes (.sloeFalseLock n) s fun t => t.dev.get SLOE_RX_STATUS_STATE n = 1
      ∧ t.dev.get SLOE_RX_STATUS_LAST n = 9 ∧ t.dev.v .slFrozen n = 0
      ∧ t.dev.get SLOE_RX_CNT1_FALSE_LOCK n = min (s.dev.get SLOE_RX_CNT1_FALSE_LOCK n + 1) (2 ^ SLOE_RX_CNT1_FALSE_LOCK.w - 1)
      ∧ Frame (fieldsAt [(SLOE_RX_STATUS_STATE, n), (SLOE_RX_STATUS_LAST, n), (SLOE_RX_CNT1_FALSE_LOCK, n)]) (varsAt [(.slFrozen, n), (.slReacq, n)]) [] s t)
  ∧ (∀ (s : State) (n : Fin 8), s.dev.get SLOE_RX_STATUS_STATE n ≠ 2 → Completes (.sloeFalseLock n) s fun t => Still s t)
  ∧ (∀ (s : State) (n : Fin 8) (wave det : Bool), wave = decide (s.dev.v .slSf n ≠ (s.dev.get SLOE_LCFG_SF n : Nat) ∨ s.dev.v .slBw n ≠ (s.dev.get SLOE_LCFG_BW n : Nat)
        ∨ s.dev.v .slFc n ≠ (s.dev.get SLOE_LCFG_CENTRE n : Nat) ∨ s.dev.v .slSync n ≠ (s.dev.get SLOE_LCFG_SYNC n : Nat)) →
      det = decide (s.dev.v .slOfs n ≠ s.dev.geti SLOE_DET_DET_OFS n ∨ s.dev.v .slPairs n ≠ (s.dev.get SLOE_DET_DET_PAIRS n : Nat)) →
      (wave = true ∨ det = true) → Completes (.sloeConfigChange n) s fun t =>
      t.dev.v .slSf n = (s.dev.get SLOE_LCFG_SF n : Nat) ∧ t.dev.v .slBw n = (s.dev.get SLOE_LCFG_BW n : Nat) ∧ t.dev.v .slFc n = (s.dev.get SLOE_LCFG_CENTRE n : Nat)
      ∧ t.dev.v .slSync n = (s.dev.get SLOE_LCFG_SYNC n : Nat) ∧ t.dev.v .slOfs n = s.dev.geti SLOE_DET_DET_OFS n ∧ t.dev.v .slPairs n = (s.dev.get SLOE_DET_DET_PAIRS n : Nat)
      ∧ (wave = true → s.dev.on SLOE_TX_STATUS_BUSY n = true → t.dev.get SLOE_TX_STATUS_BUSY n = 0 ∧ t.dev.get SLOE_TX_STATUS_RESULT n = 4)
      ∧ (2 ≤ s.dev.get SLOE_RX_STATUS_STATE n → t.dev.get SLOE_RX_STATUS_STATE n ≤ 1 ∧ t.dev.get SLOE_RX_STATUS_LAST n = 12
        ∧ t.dev.get SLOE_RX_CNT2_DROPPED n = min (s.dev.get SLOE_RX_CNT2_DROPPED n + 1) (2 ^ SLOE_RX_CNT2_DROPPED.w - 1))
      ∧ Frame (orKey (regsAt [(.SLOE_TX_STATUS, n), (.SLOE_TX_CNT, n), (.SLOE_RX_STATUS, n), (.SLOE_RX_CNT2, n)]) (regsIn [.SLOE_TR_STATUS]))
          (varsAt [(.slSf, n), (.slBw, n), (.slFc, n), (.slSync, n), (.slOfs, n), (.slPairs, n), (.slFw, n), (.slOpen, n), (.slCur, n), (.slFrozen, n), (.slReacq, n),
            (.slSym, n), (.slPos, n)]) [.sloeFw, .sloeTx] s t)
  ∧ (∀ (s : State) (n : Fin 8), ((s.dev.get SLOE_LCFG_SF n : Nat) : Int) = s.dev.v .slSf n → ((s.dev.get SLOE_LCFG_BW n : Nat) : Int) = s.dev.v .slBw n →
      ((s.dev.get SLOE_LCFG_CENTRE n : Nat) : Int) = s.dev.v .slFc n → ((s.dev.get SLOE_LCFG_SYNC n : Nat) : Int) = s.dev.v .slSync n →
      s.dev.geti SLOE_DET_DET_OFS n = s.dev.v .slOfs n → ((s.dev.get SLOE_DET_DET_PAIRS n : Nat) : Int) = s.dev.v .slPairs n →
      Completes (.sloeConfigChange n) s fun t => Still s t)
  ∧ (∀ (s : State) (n : Fin 8) (p : Nat), s.dev.get SLOE_RX_STATUS_STATE n = 1 → Completes (.sloeNfReport n p) s fun t =>
      t.dev.get SLOE_NF_DBFS n = twos SLOE_NF_DBFS.w (dbfs p (2 ^ 46)) % 2 ^ SLOE_NF_DBFS.w ∧ Frame (fieldsAt [(SLOE_NF_DBFS, n)]) noKey [] s t)
  ∧ (∀ (s : State) (n : Fin 8) (p : Nat), s.dev.get SLOE_RX_STATUS_STATE n ≠ 1 → Completes (.sloeNfReport n p) s fun t => Still s t)
  ∧ (∀ (s : State) (k : Fin 2) (ppb : Int) (cover : Fin 17) (tracking : Bool), s.dev.on SLOE_TR_CTRL_EN k = true → s.dev.slHears (s.dev.get SLOE_TR_CTRL_LANE k) = true →
      8 ≤ cover.val → Completes (.sloeTrWindow k ppb cover tracking) s fun t =>
      t.dev.get SLOE_TR_FREQ_PPB10 k = twos SLOE_TR_FREQ_PPB10.w (satW 32 ppb) % 2 ^ SLOE_TR_FREQ_PPB10.w ∧ t.dev.get SLOE_TR_STATUS_VALID k = 1
      ∧ t.dev.get SLOE_TR_STATUS_COVER k = min 15 cover.val ∧ t.dev.on SLOE_TR_STATUS_TRACKING k = tracking
      ∧ Frame (regsAt [(.SLOE_TR_STATUS, k), (.SLOE_TR_FREQ, k)]) noKey [] s t)
  ∧ (∀ (s : State) (k : Fin 2) (ppb : Int) (cover : Fin 17) (tracking : Bool), s.dev.on SLOE_TR_CTRL_EN k = true → s.dev.slHears (s.dev.get SLOE_TR_CTRL_LANE k) = true →
      cover.val < 8 → Completes (.sloeTrWindow k ppb cover tracking) s fun t => t.dev.get SLOE_TR_STATUS_VALID k = 0
      ∧ t.dev.get SLOE_TR_STATUS_COVER k = min 15 cover.val ∧ t.dev.on SLOE_TR_STATUS_TRACKING k = tracking ∧ Frame (regsAt [(.SLOE_TR_STATUS, k)]) noKey [] s t)
  ∧ (∀ (s : State) (k : Fin 2) (ppb : Int) (cover : Fin 17) (tracking : Bool), (s.dev.on SLOE_TR_CTRL_EN k = false ∨ s.dev.slHears (s.dev.get SLOE_TR_CTRL_LANE k) = false) →
      Completes (.sloeTrWindow k ppb cover tracking) s fun t => Still s t)

/-- SLOE_HEADER_DONE in state HEADER: a failed CRC-8 ends the reception with CRC_HDR; else a SRC_ID that MATCH demands and is not the one
expected with FOREIGN; else a LEN above MAXLEN with TOO_LONG. Each counts once, returns the receiver to SEARCH at once and stores nothing of
the packet. (States R214.) -/
def Obligations.SloeHeaderCheck : Prop :=
  (∀ (s : State) (n : Fin 8) (shifts : List Nat) (age mark : Nat) (h : List Byte), readHeader (s.dev.slSF n) shifts = h → s.dev.get SLOE_RX_STATUS_STATE n = 3 →
      crc8 (h.take 5) ≠ fb h 5 → Completes (.sloeHeaderDone n shifts age mark) s fun t => t.dev.get SLOE_RX_STATUS_LAST n = 3 ∧ t.dev.get SLOE_RX_STATUS_STATE n = 1
        ∧ t.dev.get SLOE_RX_CNT1_CRC_HDR n = min (s.dev.get SLOE_RX_CNT1_CRC_HDR n + 1) (2 ^ SLOE_RX_CNT1_CRC_HDR.w - 1)
        ∧ Frame (fieldsAt [(SLOE_RX_STATUS_STATE, n), (SLOE_RX_STATUS_LAST, n), (SLOE_RX_CNT1_CRC_HDR, n)]) (varsAt [(.slFrozen, n), (.slReacq, n)]) [] s t)
  ∧ (∀ (s : State) (n : Fin 8) (shifts : List Nat) (age mark : Nat) (h : List Byte), readHeader (s.dev.slSF n) shifts = h → s.dev.get SLOE_RX_STATUS_STATE n = 3 →
      crc8 (h.take 5) = fb h 5 → s.dev.on SLOE_RX_MATCH n = true → fb h 2 + 256 * fb h 3 ≠ s.dev.get SLOE_ID_EXPECT n → Completes (.sloeHeaderDone n shifts age mark) s fun t =>
        t.dev.get SLOE_RX_STATUS_LAST n = 5 ∧ t.dev.get SLOE_RX_STATUS_STATE n = 1
        ∧ t.dev.get SLOE_RX_CNT2_FOREIGN n = min (s.dev.get SLOE_RX_CNT2_FOREIGN n + 1) (2 ^ SLOE_RX_CNT2_FOREIGN.w - 1)
        ∧ Frame (fieldsAt [(SLOE_RX_STATUS_STATE, n), (SLOE_RX_STATUS_LAST, n), (SLOE_RX_CNT2_FOREIGN, n)]) (varsAt [(.slFrozen, n), (.slReacq, n)]) [] s t)
  ∧ (∀ (s : State) (n : Fin 8) (shifts : List Nat) (age mark : Nat) (h : List Byte), readHeader (s.dev.slSF n) shifts = h → s.dev.get SLOE_RX_STATUS_STATE n = 3 →
      crc8 (h.take 5) = fb h 5 → (s.dev.on SLOE_RX_MATCH n = false ∨ fb h 2 + 256 * fb h 3 = s.dev.get SLOE_ID_EXPECT n) → s.dev.get SLOE_RX_MAXLEN n < fb h 0 → Completes (.sloeHeaderDone n shifts age mark) s fun t =>
        t.dev.get SLOE_RX_STATUS_LAST n = 6 ∧ t.dev.get SLOE_RX_STATUS_STATE n = 1
        ∧ t.dev.get SLOE_RX_CNT2_TOO_LONG n = min (s.dev.get SLOE_RX_CNT2_TOO_LONG n + 1) (2 ^ SLOE_RX_CNT2_TOO_LONG.w - 1)
        ∧ Frame (fieldsAt [(SLOE_RX_STATUS_STATE, n), (SLOE_RX_STATUS_LAST, n), (SLOE_RX_CNT2_TOO_LONG, n)]) (varsAt [(.slFrozen, n), (.slReacq, n)]) [] s t)

/-- SLOE_HEADER_DONE of a good header keeps its items and moves to PAYLOAD (a header without payload ends the reception like a good payload); an
ACK whose SEQ is the open window's ends that packet ACKED; in no other state than HEADER does anything change. SLOE_RECEPTION_END in PAYLOAD
ends a payload whose check fails CRC_PAY; a good one ends OK for an ACK, DUP for a repeated packet, OVERRUN when the buffer is taken, else
OK; each moves back to SEARCH and counts once, but an ACK after its window is not counted. A packet that is not an ACK, a repeated one of no
TIME type, or an overrun is stored with its header, metric and payload, and sets VALID. An acknowledgement that is asked for, with ACK_AUTO
set, waits to be sent, and GASP and TRIG packets set their events, for OK and DUP. SLOE_RX_VALID_CLEAR frees the buffer. (Rests on R206,
R214, R216, R217, R219, R220.) -/
def Obligations.SloeReception : Prop :=
  (∀ (s : State) (n : Fin 8) (shifts : List Nat) (age mark : Nat) (h : List Byte), h = readHeader (s.dev.slSF n) shifts → s.dev.get SLOE_RX_STATUS_STATE n = 3 →
      crc8 (h.take 5) = fb h 5 → (s.dev.on SLOE_RX_MATCH n = false ∨ fb h 2 + 256 * fb h 3 = s.dev.get SLOE_ID_EXPECT n) → fb h 0 ≤ s.dev.get SLOE_RX_MAXLEN n → fb h 0 ≠ 0 →
      Completes (.sloeHeaderDone n shifts age mark) s fun t => t.dev.get SLOE_RX_STATUS_STATE n = 4 ∧ t.dev.v .slHLen n = (fb h 0 : Nat) ∧ t.dev.v .slHType n = (fb h 1 : Nat)
        ∧ t.dev.v .slHSrc n = (fb h 2 + 256 * fb h 3 : Nat) ∧ t.dev.v .slHSeq n = (fb h 4 : Nat)
        ∧ Frame (orKey (fieldsAt [(SLOE_RX_STATUS_STATE, n)]) (regsAt [(.SLOE_TX_STATUS, n), (.SLOE_TX_CNT, n)]))
            (varsAt [(.slHLen, n), (.slHType, n), (.slHSrc, n), (.slHSeq, n), (.slAckLate, n), (.slOpen, n), (.slCur, n), (.slFw, n)]) [.sloeFw, .sloeTx] s t)
  ∧ (∀ (s : State) (n : Fin 8) (shifts : List Nat) (age mark : Nat) (h : List Byte), h = readHeader (s.dev.slSF n) shifts → s.dev.get SLOE_RX_STATUS_STATE n = 3 →
      crc8 (h.take 5) = fb h 5 → (s.dev.on SLOE_RX_MATCH n = false ∨ fb h 2 + 256 * fb h 3 = s.dev.get SLOE_ID_EXPECT n) → fb h 0 ≤ s.dev.get SLOE_RX_MAXLEN n →
      fb h 1 % 64 = 6 → s.dev.flag .slOpen n = true → fb h 4 = s.dev.get SLOE_TX_STATUS_SEQ n →
      Completes (.sloeHeaderDone n shifts age mark) s fun t => t.dev.get SLOE_TX_STATUS_RESULT n = 2 ∧ t.dev.get SLOE_TX_STATUS_BUSY n = 0 ∧ t.dev.get SLOE_TX_STATUS_DONE n = 1
        ∧ t.dev.v .slOpen n = 0)
  ∧ (∀ (s : State) (n : Fin 8) (shifts : List Nat) (age mark : Nat) (h : List Byte) (dup : Bool) (typ : Nat), h = readHeader (s.dev.slSF n) shifts → typ = fb h 1 % 64 →
      dup = (decide (fb h 1 / 128 % 2 = 1) && s.dev.flag .slLastOn n && s.dev.v .slLastSrc n == ((fb h 2 + 256 * fb h 3 : Nat) : Int)
        && s.dev.v .slLastSeq n == (fb h 4 : Int) && s.dev.v .slLastType n == (typ : Int)) → s.dev.get SLOE_RX_STATUS_STATE n = 3 →
      crc8 (h.take 5) = fb h 5 → (s.dev.on SLOE_RX_MATCH n = false ∨ fb h 2 + 256 * fb h 3 = s.dev.get SLOE_ID_EXPECT n) → fb h 0 = 0 →
      Completes (.sloeHeaderDone n shifts age mark) s fun t => t.dev.get SLOE_RX_STATUS_STATE n = 1
        ∧ t.dev.get SLOE_RX_STATUS_LAST n = (if typ = 6 then 1 else if dup = true ∧ typ ≠ 4 ∧ typ ≠ 5 then 2 else if s.dev.on SLOE_RX_STATUS_VALID n then 10 else if dup then 2 else 1)
        ∧ Frame (orKey (regsAt [(.SLOE_RX_HDR, n), (.SLOE_RX_STATUS, n), (.SLOE_RX_CNT0, n), (.SLOE_RX_CNT2, n), (.SLOE_TX_STATUS, n), (.SLOE_TX_CNT, n)])
              (fun k => regsIn [.SLOE_RX_TS, .TIME_MRX] k ∧ k.2 / 3 = n))
            (varsAt [(.slHLen, n), (.slHType, n), (.slHSrc, n), (.slHSeq, n), (.slAckLate, n), (.slOpen, n), (.slCur, n), (.slFw, n), (.slFrozen, n), (.slReacq, n),
              (.slLastOn, n), (.slLastSrc, n), (.slLastSeq, n), (.slLastType, n), (.slAck, n)]) [.sloeFw, .sloeTx, .events] s t)
  ∧ (∀ (s : State) (n : Fin 8) (shifts : List Nat) (age mark : Nat), s.dev.get SLOE_RX_STATUS_STATE n ≠ 3 → Completes (.sloeHeaderDone n shifts age mark) s fun t => Still s t)
  ∧ (∀ (s : State) (n : Fin 8) (syms : List (Bool × Nat)) (age mark len : Nat) (b : List Byte), len = (s.dev.v .slHLen n).toNat → b = readPayload (s.dev.slSF n) syms →
      s.dev.get SLOE_RX_STATUS_STATE n = 4 → crc16 (b.take len) ≠ fb b len + 256 * fb b (len + 1) → Completes (.sloeReceptionEnd n syms age mark) s fun t =>
        t.dev.get SLOE_RX_STATUS_LAST n = 4 ∧ t.dev.get SLOE_RX_STATUS_STATE n = 1
        ∧ t.dev.get SLOE_RX_CNT0_CRC_PAY n = min (s.dev.get SLOE_RX_CNT0_CRC_PAY n + 1) (2 ^ SLOE_RX_CNT0_CRC_PAY.w - 1)
        ∧ Frame (fieldsAt [(SLOE_RX_STATUS_STATE, n), (SLOE_RX_STATUS_LAST, n), (SLOE_RX_CNT0_CRC_PAY, n)]) (varsAt [(.slFrozen, n), (.slReacq, n)]) [] s t)
  ∧ (∀ (s : State) (n : Fin 8) (syms : List (Bool × Nat)) (age mark len typ : Nat) (b : List Byte) (dup : Bool), len = (s.dev.v .slHLen n).toNat →
      typ = (s.dev.v .slHType n).toNat % 64 → b = readPayload (s.dev.slSF n) syms →
      dup = (decide ((s.dev.v .slHType n).toNat / 128 % 2 = 1) && s.dev.flag .slLastOn n && s.dev.v .slLastSrc n == s.dev.v .slHSrc n
        && s.dev.v .slLastSeq n == ((s.dev.v .slHSeq n).toNat : Int) && s.dev.v .slLastType n == (typ : Int)) → s.dev.get SLOE_RX_STATUS_STATE n = 4 →
      crc16 (b.take len) = fb b len + 256 * fb b (len + 1) → (typ = 6 ∨ (dup = true ∧ typ ≠ 4 ∧ typ ≠ 5) ∨ s.dev.on SLOE_RX_STATUS_VALID n = true) →
      Completes (.sloeReceptionEnd n syms age mark) s fun t => t.dev.get SLOE_RX_STATUS_STATE n = 1
        ∧ t.dev.get SLOE_RX_STATUS_LAST n = (if typ = 6 then 1 else if dup = true ∧ typ ≠ 4 ∧ typ ≠ 5 then 2 else 10)
        ∧ (t.dev.get SLOE_RX_STATUS_LAST n = 10 → t.dev.get SLOE_RX_CNT2_OVERRUN n = min (s.dev.get SLOE_RX_CNT2_OVERRUN n + 1) (2 ^ SLOE_RX_CNT2_OVERRUN.w - 1))
        ∧ (t.dev.get SLOE_RX_STATUS_LAST n = 2 → t.dev.get SLOE_RX_CNT0_DUP n = min (s.dev.get SLOE_RX_CNT0_DUP n + 1) (2 ^ SLOE_RX_CNT0_DUP.w - 1)
          ∧ (typ = 2 → t.dev.get SLOE_RX_STATUS_GASP_EV n = 1) ∧ (typ = 3 → t.dev.get SLOE_RX_STATUS_TRIG_EV n = 1)
          ∧ (s.dev.on SLOE_RX_ACK_AUTO n = true → (s.dev.v .slHType n).toNat / 64 % 2 = 1 → t.dev.v .slAck n = ((s.dev.v .slHSeq n).toNat : Int) + 1))
        ∧ (typ = 6 → t.dev.get SLOE_RX_CNT0_OK n = (if s.dev.flag .slAckLate n then s.dev.get SLOE_RX_CNT0_OK n % 2 ^ SLOE_RX_CNT0_OK.w
          else min (s.dev.get SLOE_RX_CNT0_OK n + 1) (2 ^ SLOE_RX_CNT0_OK.w - 1)))
        ∧ Frame (fieldsAt [(SLOE_RX_STATUS_STATE, n), (SLOE_RX_STATUS_LAST, n), (SLOE_RX_STATUS_GASP_EV, n), (SLOE_RX_STATUS_TRIG_EV, n), (SLOE_RX_CNT2_OVERRUN, n),
              (SLOE_RX_CNT0_OK, n), (SLOE_RX_CNT0_DUP, n)])
            (varsAt [(.slFrozen, n), (.slReacq, n), (.slLastOn, n), (.slLastSrc, n), (.slLastSeq, n), (.slLastType, n), (.slAck, n)]) [.events] s t)
  ∧ (∀ (s : State) (n : Fin 8) (syms : List (Bool × Nat)) (age mark len typ : Nat) (b : List Byte) (dup : Bool), len = (s.dev.v .slHLen n).toNat →
      typ = (s.dev.v .slHType n).toNat % 64 → b = readPayload (s.dev.slSF n) syms →
      dup = (decide ((s.dev.v .slHType n).toNat / 128 % 2 = 1) && s.dev.flag .slLastOn n && s.dev.v .slLastSrc n == s.dev.v .slHSrc n
        && s.dev.v .slLastSeq n == ((s.dev.v .slHSeq n).toNat : Int) && s.dev.v .slLastType n == (typ : Int)) → s.dev.get SLOE_RX_STATUS_STATE n = 4 →
      crc16 (b.take len) = fb b len + 256 * fb b (len + 1) → typ ≠ 6 → (dup = false ∨ typ = 4 ∨ typ = 5) → s.dev.on SLOE_RX_STATUS_VALID n = false →
      Completes (.sloeReceptionEnd n syms age mark) s fun t => t.dev.get SLOE_RX_STATUS_LAST n = (if dup then 2 else 1) ∧ t.dev.get SLOE_RX_STATUS_STATE n = 1
        ∧ t.dev.get SLOE_RX_STATUS_VALID n = 1 ∧ t.dev.get SLOE_RX_HDR_LEN n = len % 2 ^ SLOE_RX_HDR_LEN.w ∧ t.dev.get SLOE_RX_HDR_TYPE n = typ
        ∧ t.dev.get SLOE_RX_HDR_SRC_ID n = (s.dev.v .slHSrc n).toNat % 2 ^ SLOE_RX_HDR_SRC_ID.w ∧ t.dev.get SLOE_RX_STATUS_SEQ n = (s.dev.v .slHSeq n).toNat % 2 ^ SLOE_RX_STATUS_SEQ.w
        ∧ t.dev.get SLOE_RX_STATUS_METRIC n = twos SLOE_RX_STATUS_METRIC.w (s.dev.v .slMetric n) % 2 ^ SLOE_RX_STATUS_METRIC.w
        ∧ (∀ i < (b.take len).length, t.dev.slByte .slRxBuf n i = (b.take len).getD i 0)
        ∧ (dup = false → t.dev.get SLOE_RX_CNT0_OK n = min (s.dev.get SLOE_RX_CNT0_OK n + 1) (2 ^ SLOE_RX_CNT0_OK.w - 1))
        ∧ (dup = true → t.dev.get SLOE_RX_CNT0_DUP n = min (s.dev.get SLOE_RX_CNT0_DUP n + 1) (2 ^ SLOE_RX_CNT0_DUP.w - 1))
        ∧ (typ = 2 → t.dev.get SLOE_RX_STATUS_GASP_EV n = 1) ∧ (typ = 3 → t.dev.get SLOE_RX_STATUS_TRIG_EV n = 1)
        ∧ (s.dev.on SLOE_RX_ACK_AUTO n = true → (s.dev.v .slHType n).toNat / 64 % 2 = 1 → t.dev.v .slAck n = ((s.dev.v .slHSeq n).toNat : Int) + 1)
        ∧ Frame (orKey (regsAt [(.SLOE_RX_HDR, n), (.SLOE_RX_STATUS, n), (.SLOE_RX_CNT0, n)]) (fun k => regsIn [.SLOE_RX_TS, .TIME_MRX] k ∧ k.2 / 3 = n))
            (orKey (varsAt [(.slFrozen, n), (.slReacq, n), (.slLastOn, n), (.slLastSrc, n), (.slLastSeq, n), (.slLastType, n), (.slAck, n)]) (varsIn [.slRxBuf])) [.events] s t)
  ∧ (∀ (s : State) (n : Fin 8) (syms : List (Bool × Nat)) (age mark : Nat), s.dev.get SLOE_RX_STATUS_STATE n ≠ 4 → Completes (.sloeReceptionEnd n syms age mark) s fun t => Still s t)
  ∧ (∀ (s : State) (n : Fin 8), Completes (.sloeRxValidClear n) s fun t => t.dev.get SLOE_RX_STATUS_VALID n = 0 ∧ Frame (fieldsAt [(SLOE_RX_STATUS_VALID, n)]) noKey [] s t)

/-- TIME_SET loads TIME_SET and makes the domain valid; TIME_STEP adds the signed TIME_STEP, going round with WRAP_EV past the last second (a
sum below 0 is of the round before: the model's choice, assumption 91). Both move the active timescale too when it follows the domain and
ACT_STEP is 0 (with ACT_STEP 1 it slews); pulse outputs of a timescale that moved may skip. TIME_WRAP of a domain in its last second makes
it 0 with WRAP_EV. TIME_ACTIVE_WRITE takes SLEW and retargets the active timescale to a valid domain, at once when no more than 0.8 ns
remain, else slewing; an invalid domain is refused with SW_REJ, the domain that is active already changes nothing else. TIME_SLEW_END joins
the timescales with SWITCH_EV when a slew has come within 0.8 ns. (Rests on R223, R225 to R227, R240, R241.) -/
def Obligations.TimeDomains : Prop :=
  (∀ (s : State) (k : Fin 2) (x : Int), x = bitsTime (s.dev.wide TIME_SET_TIME (3 * k)) → Completes (.timeSet k) s fun t => t.dev.v .tDom k = x * tUnit
      ∧ t.dev.get TIME_DSTAT_VALID k = 1
      ∧ (s.dev.get TIME_CTRL_ACTIVE 0 = k.val → s.dev.on TIME_DCFG_ACT_STEP k = false →
          t.dev.v .tAct 0 = (s.dev.v .tAct 0 + (x - s.dev.time k) * tUnit) % (tWrapAt * tUnit))
      ∧ ((s.dev.get TIME_CTRL_ACTIVE 0 ≠ k.val ∨ s.dev.on TIME_DCFG_ACT_STEP k = true) → t.dev.v .tAct 0 = s.dev.v .tAct 0)
      ∧ Frame (orKey (fieldsAt [(TIME_DSTAT_VALID, k), (TIME_STATUS_SLEWING, 0)]) (fieldsIn [TIME_TPO_CTRL_EN, TIME_TPO_CTRL_SKIP_EV]))
          (orKey (varsAt [(.tDom, k), (.tAct, 0)]) (varsIn [.tpoNext, .tpoOn, .tpoEnd])) [] s t)
  ∧ (∀ (s : State) (k : Fin 2) (x : Int), x = s.dev.wide64 TIME_STEP_LO_VALUE TIME_STEP_HI_VALUE k → Completes (.timeStep k) s fun t =>
      t.dev.v .tDom k = (s.dev.v .tDom k + x * tUnit) % (tWrapAt * tUnit) ∧ t.dev.get TIME_DSTAT_VALID k = 1
      ∧ (tWrapAt * tUnit ≤ s.dev.v .tDom k + x * tUnit → t.dev.get TIME_STATUS_WRAP_EV 0 = 1)
      ∧ (s.dev.v .tDom k + x * tUnit < tWrapAt * tUnit → t.dev.get TIME_STATUS_WRAP_EV 0 = s.dev.get TIME_STATUS_WRAP_EV 0)
      ∧ (s.dev.get TIME_CTRL_ACTIVE 0 = k.val → s.dev.on TIME_DCFG_ACT_STEP k = false → t.dev.v .tAct 0 = (s.dev.v .tAct 0 + x * tUnit) % (tWrapAt * tUnit))
      ∧ ((s.dev.get TIME_CTRL_ACTIVE 0 ≠ k.val ∨ s.dev.on TIME_DCFG_ACT_STEP k = true) → t.dev.v .tAct 0 = s.dev.v .tAct 0)
      ∧ (s.dev.get TIME_CTRL_ACTIVE 0 = k.val → s.dev.on TIME_DCFG_ACT_STEP k = true →
          t.dev.on TIME_STATUS_SLEWING 0 = (s.dev.on TIME_STATUS_SLEWING 0 || decide (tTick < absI (t.dev.v .tDom k - s.dev.v .tAct 0))))
      ∧ Frame (orKey (fieldsAt [(TIME_DSTAT_VALID, k), (TIME_STATUS_SLEWING, 0), (TIME_STATUS_WRAP_EV, 0)]) (fieldsIn [TIME_TPO_CTRL_EN, TIME_TPO_CTRL_SKIP_EV]))
          (orKey (varsAt [(.tDom, k), (.tAct, 0)]) (varsIn [.tpoNext, .tpoOn, .tpoEnd])) [] s t)
  ∧ (∀ (s : State) (k : Fin 2), tWrapAt - tSec ≤ s.dev.time k → Completes (.timeWrap k) s fun t => t.dev.v .tDom k = 0 ∧ t.dev.get TIME_STATUS_WRAP_EV 0 = 1
      ∧ Frame (fieldsAt [(TIME_STATUS_WRAP_EV, 0)]) (varsAt [(.tDom, k)]) [] s t)
  ∧ (∀ (s : State) (k : Fin 2), s.dev.time k < tWrapAt - tSec → Completes (.timeWrap k) s fun t => Still s t)
  ∧ (∀ (s : State) (k : Fin 2) (slew : Byte), s.dev.get TIME_CTRL_ACTIVE 0 = k.val → Completes (.timeActiveWrite k slew) s fun t =>
      t.dev.get TIME_CTRL_SLEW 0 = slew.toNat ∧ Frame (fieldsAt [(TIME_CTRL_SLEW, 0)]) noKey [] s t)
  ∧ (∀ (s : State) (k : Fin 2) (slew : Byte), s.dev.get TIME_CTRL_ACTIVE 0 ≠ k → s.dev.on TIME_DSTAT_VALID k = true → tTick < absI (s.dev.v .tDom k - s.dev.v .tAct 0) →
      Completes (.timeActiveWrite k slew) s fun t => t.dev.get TIME_CTRL_ACTIVE 0 = k ∧ t.dev.get TIME_CTRL_SLEW 0 = slew.toNat ∧ t.dev.get TIME_STATUS_SLEWING 0 = 1
        ∧ Frame (fieldsAt [(TIME_CTRL_ACTIVE, 0), (TIME_CTRL_SLEW, 0), (TIME_STATUS_SLEWING, 0)]) noKey [] s t)
  ∧ (∀ (s : State) (k : Fin 2) (slew : Byte), s.dev.get TIME_CTRL_ACTIVE 0 ≠ k → s.dev.on TIME_DSTAT_VALID k = true → absI (s.dev.v .tDom k - s.dev.v .tAct 0) ≤ tTick →
      Completes (.timeActiveWrite k slew) s fun t => t.dev.get TIME_CTRL_ACTIVE 0 = k ∧ t.dev.get TIME_CTRL_SLEW 0 = slew.toNat ∧ t.dev.v .tAct 0 = s.dev.v .tDom k
        ∧ t.dev.get TIME_STATUS_SLEWING 0 = 0 ∧ t.dev.get TIME_STATUS_SWITCH_EV 0 = 1
        ∧ Frame (fieldsAt [(TIME_CTRL_ACTIVE, 0), (TIME_CTRL_SLEW, 0), (TIME_STATUS_SLEWING, 0), (TIME_STATUS_SWITCH_EV, 0)]) (varsAt [(.tAct, 0)]) [] s t)
  ∧ (∀ (s : State) (k : Fin 2) (slew : Byte), s.dev.get TIME_CTRL_ACTIVE 0 ≠ k → s.dev.on TIME_DSTAT_VALID k = false → Completes (.timeActiveWrite k slew) s fun t =>
        t.dev.get TIME_STATUS_SW_REJ 0 = 1 ∧ t.dev.get TIME_CTRL_SLEW 0 = slew.toNat
        ∧ Frame (fieldsAt [(TIME_CTRL_SLEW, 0), (TIME_STATUS_SW_REJ, 0)]) noKey [] s t)
  ∧ (∀ (s : State), s.dev.on TIME_STATUS_SLEWING 0 = true → absI s.dev.actRem ≤ tTick → Completes .timeSlewEnd s fun t => t.dev.get TIME_STATUS_SLEWING 0 = 0
      ∧ t.dev.get TIME_STATUS_SWITCH_EV 0 = 1 ∧ t.dev.v .tAct 0 = s.dev.v .tDom (s.dev.get TIME_CTRL_ACTIVE 0)
      ∧ Frame (fieldsAt [(TIME_STATUS_SLEWING, 0), (TIME_STATUS_SWITCH_EV, 0)]) (varsAt [(.tAct, 0)]) [] s t)
  ∧ (∀ (s : State), (s.dev.on TIME_STATUS_SLEWING 0 = false ∨ tTick < absI s.dev.actRem) → Completes .timeSlewEnd s fun t => Still s t)

/-- TIME_MEAS_SUBMIT writes TIME_MEAS_HI; with SRC = MEAS it drives the servo. PPS_EDGE of the selected edge stamps TIME_PPS_TS, less the fixed
path and CABLE, and drives the servo of every domain whose source is PPS with its own stamp's fraction of a second; the other edge changes
nothing. A driven servo leaves holdover and clears its figures; beyond the step threshold the domain steps back by the measurement with
STEP_EV and VALID and its rate stays; within it the rate loses its integral part, and the proportional part holds for five quarters of the
interval. HOLDOVER_ENTRY of a domain whose measurements have been missing for HOLD_N expected intervals enters holdover with HOLD_EV and the
proportional part ended; else, or in holdover already, nothing changes (the interval of a domain without a source is the model's choice,
assumption 91). STAMP_QUEUE_POP removes the stamp queue's head entry and updates COUNT. TPO_PULSE of an enabled output that is not done and
whose next time is due (an edge is launched 3 ns early) drives the leading edge with its polarity, counts, and fixes the end WIDTH later; a
periodic output is scheduled a PERIOD later, a single one is done. TPO_PULSE_END of a pulse whose end is due drives the opposite edge.
Otherwise the two change nothing. (Rests on R228 to R230, R232, R237, R240.) -/
def Obligations.TimeServoAndPulses : Prop :=
  (∀ (s : State) (k : Fin 2) (hi : Word) (th : Int), th = sext 64 (s.dev.get TIME_MEAS_LO_THETA k + hi.toNat * 2 ^ 32) → s.dev.get TIME_DCFG_SRC k = 3 →
      s.dev.stepTh k < absI th → Completes (.timeMeasSubmit k hi) s fun t =>
        t.dev.v .tDom k = (s.dev.v .tDom k - th * tUnit) % (tWrapAt * tUnit) ∧ t.dev.get TIME_MEAS_HI_THETA k = hi.toNat
        ∧ t.dev.get TIME_DSTAT_STEP_EV k = 1 ∧ t.dev.get TIME_DSTAT_VALID k = 1 ∧ t.dev.get TIME_DSTAT_HOLDOVER k = 0 ∧ t.dev.get TIME_HOLD_T k = 0
        ∧ t.dev.get TIME_BOUND_NS k = 0 ∧ t.dev.v .tSince k = 0
        ∧ Frame (orKey (fieldsAt [(TIME_MEAS_HI_THETA, k), (TIME_DSTAT_HOLDOVER, k), (TIME_HOLD_T, k), (TIME_BOUND_NS, k), (TIME_DSTAT_VALID, k), (TIME_DSTAT_STEP_EV, k),
              (TIME_STATUS_SLEWING, 0), (TIME_STATUS_WRAP_EV, 0)]) (fieldsIn [TIME_TPO_CTRL_EN, TIME_TPO_CTRL_SKIP_EV]))
            (orKey (varsAt [(.tDom, k), (.tAct, 0), (.tHold, k), (.tTau, k), (.tSince, k)]) (varsIn [.tpoNext, .tpoOn, .tpoEnd])) [] s t)
  ∧ (∀ (s : State) (k : Fin 2) (hi : Word) (th : Int) (tau : Nat), th = sext 64 (s.dev.get TIME_MEAS_LO_THETA k + hi.toNat * 2 ^ 32) →
      tau = max 1 (s.dev.get TIME_MEAS_INT_MS k) * 1000000 → s.dev.get TIME_DCFG_SRC k = 3 → absI th ≤ s.dev.stepTh k →
      Completes (.timeMeasSubmit k hi) s fun t => t.dev.get TIME_MEAS_HI_THETA k = hi.toNat ∧ t.dev.get TIME_DSTAT_HOLDOVER k = 0 ∧ t.dev.get TIME_HOLD_T k = 0
        ∧ t.dev.get TIME_BOUND_NS k = 0 ∧ t.dev.v .tSince k = 0
        ∧ t.dev.geti TIME_RATE_F k = satW 32 (s.dev.geti TIME_RATE_F k - rdiv (th * 2 ^ 24) (tau * 2 ^ s.dev.get TIME_DCFG_KI_SHIFT k))
        ∧ t.dev.v .tSp k = -(rdiv (th * 2 ^ 24) (tau * 2 ^ s.dev.get TIME_DCFG_KP_SHIFT k)) ∧ t.dev.v .tSpLeft k = (tau * 5 / 4 : Nat)
        ∧ Frame (fieldsAt [(TIME_MEAS_HI_THETA, k), (TIME_DSTAT_HOLDOVER, k), (TIME_HOLD_T, k), (TIME_BOUND_NS, k), (TIME_RATE_F, k)])
            (varsAt [(.tHold, k), (.tTau, k), (.tSince, k), (.tSp, k), (.tSpLeft, k)]) [] s t)
  ∧ (∀ (s : State) (k : Fin 2) (hi : Word), s.dev.get TIME_DCFG_SRC k ≠ 3 → Completes (.timeMeasSubmit k hi) s fun t => t.dev.get TIME_MEAS_HI_THETA k = hi.toNat
        ∧ Frame (fieldsAt [(TIME_MEAS_HI_THETA, k)]) noKey [] s t)
  ∧ (∀ (s : State) (falling : Bool) (sub : Nat), s.dev.on TIME_PPS_EDGE 0 = falling → s.dev.get TIME_DCFG_SRC 0 ≠ 1 → s.dev.get TIME_DCFG_SRC 1 ≠ 1 →
      Completes (.ppsEdge falling sub) s fun t =>
        t.dev.wide TIME_PPS_TS_TIME 0 = timeBits (s.dev.scale (s.dev.get TIME_PPS_DOM 0 + 1) + sub - 163840 - s.dev.ppsCable)
        ∧ Frame (regsIn [.TIME_PPS_TS]) noKey [] s t)
  ∧ (∀ (s : State) (k : Fin 2) (falling : Bool) (sub : Nat) (th : Int), th = secFrac (s.dev.time k + sub - 163840 - s.dev.ppsCable) → s.dev.on TIME_PPS_EDGE 0 = falling →
      s.dev.get TIME_DCFG_SRC k = 1 → s.dev.get TIME_DCFG_SRC (1 - k) ≠ 1 → absI th ≤ s.dev.stepTh k → Completes (.ppsEdge falling sub) s fun t =>
        t.dev.wide TIME_PPS_TS_TIME 0 = timeBits (s.dev.scale (s.dev.get TIME_PPS_DOM 0 + 1) + sub - 163840 - s.dev.ppsCable)
        ∧ t.dev.get TIME_DSTAT_HOLDOVER k = 0 ∧ t.dev.get TIME_HOLD_T k = 0 ∧ t.dev.get TIME_BOUND_NS k = 0 ∧ t.dev.v .tSince k = 0
        ∧ t.dev.geti TIME_RATE_F k = satW 32 (s.dev.geti TIME_RATE_F k - rdiv (th * 2 ^ 24) (1000000000 * 2 ^ s.dev.get TIME_DCFG_KI_SHIFT k))
        ∧ t.dev.v .tSp k = -(rdiv (th * 2 ^ 24) (1000000000 * 2 ^ s.dev.get TIME_DCFG_KP_SHIFT k)) ∧ t.dev.v .tSpLeft k = 1250000000
        ∧ Frame (orKey (regsIn [.TIME_PPS_TS]) (fieldsAt [(TIME_DSTAT_HOLDOVER, k), (TIME_HOLD_T, k), (TIME_BOUND_NS, k), (TIME_RATE_F, k)]))
            (varsAt [(.tHold, k), (.tTau, k), (.tSince, k), (.tSp, k), (.tSpLeft, k)]) [] s t)
  ∧ (∀ (s : State) (k : Fin 2) (falling : Bool) (sub : Nat) (th : Int), th = secFrac (s.dev.time k + sub - 163840 - s.dev.ppsCable) → s.dev.on TIME_PPS_EDGE 0 = falling →
      s.dev.get TIME_DCFG_SRC k = 1 → s.dev.get TIME_DCFG_SRC (1 - k) ≠ 1 → s.dev.stepTh k < absI th → Completes (.ppsEdge falling sub) s fun t =>
        t.dev.wide TIME_PPS_TS_TIME 0 = timeBits (s.dev.scale (s.dev.get TIME_PPS_DOM 0 + 1) + sub - 163840 - s.dev.ppsCable)
        ∧ t.dev.v .tDom k = (s.dev.v .tDom k - th * tUnit) % (tWrapAt * tUnit) ∧ t.dev.get TIME_DSTAT_STEP_EV k = 1 ∧ t.dev.get TIME_DSTAT_VALID k = 1
        ∧ t.dev.get TIME_DSTAT_HOLDOVER k = 0 ∧ t.dev.get TIME_HOLD_T k = 0 ∧ t.dev.get TIME_BOUND_NS k = 0 ∧ t.dev.v .tSince k = 0
        ∧ Frame (orKey (regsIn [.TIME_PPS_TS]) (orKey (fieldsAt [(TIME_DSTAT_HOLDOVER, k), (TIME_HOLD_T, k), (TIME_BOUND_NS, k), (TIME_DSTAT_VALID, k), (TIME_DSTAT_STEP_EV, k),
              (TIME_STATUS_SLEWING, 0), (TIME_STATUS_WRAP_EV, 0)]) (fieldsIn [TIME_TPO_CTRL_EN, TIME_TPO_CTRL_SKIP_EV])))
            (orKey (varsAt [(.tDom, k), (.tAct, 0), (.tHold, k), (.tTau, k), (.tSince, k)]) (varsIn [.tpoNext, .tpoOn, .tpoEnd])) [] s t)
  ∧ (∀ (s : State) (falling : Bool) (sub : Nat), s.dev.on TIME_PPS_EDGE 0 = falling → s.dev.get TIME_DCFG_SRC 0 = 1 → s.dev.get TIME_DCFG_SRC 1 = 1 →
      Completes (.ppsEdge falling sub) s fun t =>
        t.dev.wide TIME_PPS_TS_TIME 0 = timeBits (s.dev.scale (s.dev.get TIME_PPS_DOM 0 + 1) + sub - 163840 - s.dev.ppsCable)
        ∧ (∀ k < 2, t.dev.get TIME_DSTAT_HOLDOVER k = 0 ∧ t.dev.get TIME_HOLD_T k = 0 ∧ t.dev.get TIME_BOUND_NS k = 0 ∧ t.dev.v .tSince k = 0
          ∧ (s.dev.stepTh k < absI (secFrac (s.dev.time k + sub - 163840 - s.dev.ppsCable)) → t.dev.get TIME_DSTAT_STEP_EV k = 1 ∧ t.dev.get TIME_DSTAT_VALID k = 1
            ∧ t.dev.v .tDom k = (s.dev.v .tDom k - secFrac (s.dev.time k + sub - 163840 - s.dev.ppsCable) * tUnit) % (tWrapAt * tUnit))
          ∧ (absI (secFrac (s.dev.time k + sub - 163840 - s.dev.ppsCable)) ≤ s.dev.stepTh k → t.dev.v .tDom k = s.dev.v .tDom k ∧ t.dev.v .tSpLeft k = 1250000000
            ∧ t.dev.geti TIME_RATE_F k = satW 32 (s.dev.geti TIME_RATE_F k
                - rdiv (secFrac (s.dev.time k + sub - 163840 - s.dev.ppsCable) * 2 ^ 24) (1000000000 * 2 ^ s.dev.get TIME_DCFG_KI_SHIFT k))))
        ∧ Frame (orKey (regsIn [.TIME_PPS_TS, .TIME_HOLD, .TIME_BOUND, .TIME_RATE]) (fieldsIn [TIME_DSTAT_HOLDOVER, TIME_DSTAT_VALID, TIME_DSTAT_STEP_EV,
              TIME_STATUS_SLEWING, TIME_STATUS_WRAP_EV, TIME_TPO_CTRL_EN, TIME_TPO_CTRL_SKIP_EV]))
            (varsIn [.tDom, .tAct, .tHold, .tTau, .tSince, .tSp, .tSpLeft, .tpoNext, .tpoOn, .tpoEnd]) [] s t)
  ∧ (∀ (s : State) (falling : Bool) (sub : Nat), s.dev.on TIME_PPS_EDGE 0 = (!falling) → Completes (.ppsEdge falling sub) s fun t => Still s t)
  ∧ (∀ (s : State) (k : Fin 2), s.dev.expected k ≠ 0 → ((max 1 (s.dev.get TIME_DCFG_HOLD_N k) * s.dev.expected k : Nat) : Int) * 5 ≤ s.dev.v .tSince k * 4 →
      s.dev.on TIME_DSTAT_HOLDOVER k = false → Completes (.holdoverEntry k) s fun t =>
      t.dev.get TIME_DSTAT_HOLDOVER k = 1 ∧ t.dev.get TIME_DSTAT_HOLD_EV k = 1 ∧ t.dev.v .tSp k = 0 ∧ t.dev.v .tHold k = 0
      ∧ Frame (fieldsAt [(TIME_DSTAT_HOLDOVER, k), (TIME_DSTAT_HOLD_EV, k)]) (varsAt [(.tSp, k), (.tSpLeft, k), (.tHold, k)]) [] s t)
  ∧ (∀ (s : State) (k : Fin 2), (s.dev.expected k = 0 ∨ s.dev.v .tSince k * 4 < ((max 1 (s.dev.get TIME_DCFG_HOLD_N k) * s.dev.expected k : Nat) : Int) * 5
      ∨ s.dev.on TIME_DSTAT_HOLDOVER k = true) → Completes (.holdoverEntry k) s fun t => Still s t)
  ∧ (∀ (s : State), Completes .stampQueuePop s fun t => t.dev.sq = s.dev.sq.drop 1 ∧ t.dev.get TIME_SQ_STAT_COUNT 0 = (s.dev.sq.length - 1) % 2 ^ TIME_SQ_STAT_COUNT.w
      ∧ Frame (fieldsAt [(TIME_SQ_STAT_COUNT, 0)]) noKey [.sq] s t)
  ∧ (∀ (s : State) (k : Fin 4), s.dev.on TIME_TPO_CTRL_EN k = true → s.dev.flag .tpoDone k = false → s.dev.on TIME_TPO_CTRL_MODE k = true →
      s.dev.v .tpoNext k ≤ s.dev.tpoTime k + 52429 + 196608 → Completes (.tpoPulse k) s fun t =>
      Out.tpo k (s.dev.on TIME_TPO_CTRL_POL k) ∈ t.dev.out ∧ t.dev.v .tpoOn k = 1 ∧ t.dev.v .tpoNext k = s.dev.v .tpoNext k + s.dev.tpoPeriod k
      ∧ t.dev.v .tpoEnd k = s.dev.v .tpoNext k + s.dev.tpoWidth k
      ∧ t.dev.get TIME_TPO_CNT_COUNT k = min (s.dev.get TIME_TPO_CNT_COUNT k + 1) (2 ^ TIME_TPO_CNT_COUNT.w - 1)
      ∧ Frame (fieldsAt [(TIME_TPO_CNT_COUNT, k)]) (varsAt [(.tpoOn, k), (.tpoNext, k), (.tpoEnd, k)]) [] s t)
  ∧ (∀ (s : State) (k : Fin 4), s.dev.on TIME_TPO_CTRL_EN k = true → s.dev.flag .tpoDone k = false → s.dev.on TIME_TPO_CTRL_MODE k = false →
      s.dev.v .tpoNext k ≤ s.dev.tpoTime k + 52429 + 196608 → Completes (.tpoPulse k) s fun t =>
      Out.tpo k (s.dev.on TIME_TPO_CTRL_POL k) ∈ t.dev.out ∧ t.dev.v .tpoDone k = 1 ∧ t.dev.v .tpoOn k = 1 ∧ t.dev.v .tpoEnd k = s.dev.v .tpoNext k + s.dev.tpoWidth k
      ∧ t.dev.get TIME_TPO_CNT_COUNT k = min (s.dev.get TIME_TPO_CNT_COUNT k + 1) (2 ^ TIME_TPO_CNT_COUNT.w - 1)
      ∧ Frame (fieldsAt [(TIME_TPO_CNT_COUNT, k)]) (varsAt [(.tpoOn, k), (.tpoDone, k), (.tpoEnd, k)]) [] s t)
  ∧ (∀ (s : State) (k : Fin 4), (s.dev.on TIME_TPO_CTRL_EN k = false ∨ s.dev.flag .tpoDone k = true ∨ s.dev.tpoTime k + 52429 + 196608 < s.dev.v .tpoNext k) →
      Completes (.tpoPulse k) s fun t => Still s t)
  ∧ (∀ (s : State) (k : Fin 4), s.dev.flag .tpoOn k = true → s.dev.v .tpoEnd k ≤ s.dev.tpoTime k + 52429 + 196608 → Completes (.tpoPulseEnd k) s fun t =>
      Out.tpo k (!(s.dev.on TIME_TPO_CTRL_POL k)) ∈ t.dev.out ∧ t.dev.v .tpoOn k = 0 ∧ Frame noKey (varsAt [(.tpoOn, k)]) [] s t)
  ∧ (∀ (s : State) (k : Fin 4), (s.dev.flag .tpoOn k = false ∨ s.dev.tpoTime k + 52429 + 196608 < s.dev.v .tpoEnd k) → Completes (.tpoPulseEnd k) s fun t => Still s t)

/-- PTP_EVENT_FRAME of a slot without a port changes nothing. A frame in a transparent port, in fill, with action none, with an invalid
timescale, or that is no selected PTP event frame of version 2 passes unchanged. With the stamp action a two-step or non-Sync frame passes
unchanged and its stamp, with the frame's items, enters the queue, or is dropped with SQ_OVF when 64 are held; a one-step Sync frame has its
origin timestamp and correction rewritten; with the correction action the residence time is added; checksum and FCS follow, and the frame is
counted. No matching header begins after byte 90, so none fails the limit of 256 bytes. The optics delay of a port with OPT_IN_CF enters the
stamps of transmitted and the correction of received frames. (Rests on R164 to R166, R235 to R237.) -/
def Obligations.PtpRewriter : Prop :=
  (∀ (s : State) (sl : Fin 8) (dir : Dir) (f : List Byte) (arr dep : Int), s.dev.portAt sl = none → Completes (.ptpEventFrame sl dir f arr dep) s fun t => Still s t)
  ∧ (∀ (s : State) (sl : Fin 8) (dir : Dir) (p : PortDesc) (f : List Byte) (arr dep : Int) (act : Nat) (fill : Bool), s.dev.portAt sl = some p →
      act = (if dir = .rx then s.dev.get PCS_CTRL_PTP_RX sl else s.dev.get PCS_CTRL_PTP_TX sl) →
      fill = (if dir = .rx then s.dev.on GBX_PSTATUS_RX_FILL sl else s.dev.on GBX_PSTATUS_TX_FILL sl) →
      (p.term = false ∨ act = 0 ∨ act = 3 ∨ fill = true ∨ s.dev.scaleOk (s.dev.get TIME_PCFG_DOM p.num) = false ∨ s.dev.ptpAt sl f = none) →
      Completes (.ptpEventFrame sl dir f arr dep) s fun t => Out.frame sl dir f ∈ t.dev.out ∧ Still s t)
  ∧ (∀ (s : State) (sl : Fin 8) (dir : Dir) (p : PortDesc) (f : List Byte) (arr dep : Int) (at0 : Nat) (udp : Option (Nat × Bool)), s.dev.portAt sl = some p →
      s.dev.ptpAt sl f = some (at0, udp) → s.dev.ptpSel sl f at0 = false → Completes (.ptpEventFrame sl dir f arr dep) s fun t => Out.frame sl dir f ∈ t.dev.out ∧ Still s t)
  ∧ (∀ (s : State) (sl : Fin 8) (dir : Dir) (p : PortDesc) (f : List Byte) (arr dep x : Int) (at0 act n w : Nat) (fill : Bool) (udp : Option (Nat × Bool)), s.dev.portAt sl = some p →
      act = (if dir = .rx then s.dev.get PCS_CTRL_PTP_RX sl else s.dev.get PCS_CTRL_PTP_TX sl) →
      fill = (if dir = .rx then s.dev.on GBX_PSTATUS_RX_FILL sl else s.dev.on GBX_PSTATUS_TX_FILL sl) → n = 4 * (sl / 4) + p.l0 →
      x = (if dir = .tx ∧ s.dev.on TIME_PCFG_OPT_IN_CF p.num = true then dep + ((s.dev.get TIME_LOPT_OPT_TX n * 256 : Nat) : Int) else dep) →
      w = p.num + 8 * dir.ix + 16 * (fb f at0 % 16) + 256 * fb f (at0 + 4) + 65536 * fbe f (at0 + 30) 2 →
      p.term = true → act = 1 → fill = false → s.dev.scaleOk (s.dev.get TIME_PCFG_DOM p.num) = true → s.dev.ptpAt sl f = some (at0, udp) →
      s.dev.ptpSel sl f at0 = true → (fb f at0 % 16 ≠ 0 ∨ fb f (at0 + 6) / 2 % 2 = 1) → s.dev.sq.length < 64 → Completes (.ptpEventFrame sl dir f arr dep) s fun t =>
        Out.frame sl dir f ∈ t.dev.out ∧ t.dev.get TIME_SQ_STAT_COUNT 0 = s.dev.sq.length + 1
        ∧ t.dev.sq = s.dev.sq ++ [[w, timeBits x % 2 ^ 32, timeBits x / 2 ^ 32 % 2 ^ 32, timeBits x / 2 ^ 64]]
        ∧ Frame (fieldsAt [(TIME_SQ_STAT_COUNT, 0)]) noKey [.sq] s t)
  ∧ (∀ (s : State) (sl : Fin 8) (dir : Dir) (p : PortDesc) (f : List Byte) (arr dep : Int) (at0 act : Nat) (fill : Bool) (udp : Option (Nat × Bool)), s.dev.portAt sl = some p →
      act = (if dir = .rx then s.dev.get PCS_CTRL_PTP_RX sl else s.dev.get PCS_CTRL_PTP_TX sl) →
      fill = (if dir = .rx then s.dev.on GBX_PSTATUS_RX_FILL sl else s.dev.on GBX_PSTATUS_TX_FILL sl) →
      p.term = true → act = 1 → fill = false → s.dev.scaleOk (s.dev.get TIME_PCFG_DOM p.num) = true → s.dev.ptpAt sl f = some (at0, udp) →
      s.dev.ptpSel sl f at0 = true → (fb f at0 % 16 ≠ 0 ∨ fb f (at0 + 6) / 2 % 2 = 1) → 64 ≤ s.dev.sq.length → Completes (.ptpEventFrame sl dir f arr dep) s fun t =>
        Out.frame sl dir f ∈ t.dev.out ∧ t.dev.get TIME_STATUS_SQ_OVF 0 = 1
        ∧ t.dev.get TIME_SQ_STAT_DROPS 0 = min (s.dev.get TIME_SQ_STAT_DROPS 0 + 1) (2 ^ TIME_SQ_STAT_DROPS.w - 1)
        ∧ Frame (fieldsAt [(TIME_STATUS_SQ_OVF, 0), (TIME_SQ_STAT_DROPS, 0)]) noKey [] s t)
  ∧ (∀ (s : State) (sl : Fin 8) (dir : Dir) (p : PortDesc) (f g : List Byte) (arr dep x : Int) (at0 act n : Nat) (cnt : Fld) (fill : Bool) (udp : Option (Nat × Bool)),
      s.dev.portAt sl = some p → act = (if dir = .rx then s.dev.get PCS_CTRL_PTP_RX sl else s.dev.get PCS_CTRL_PTP_TX sl) →
      fill = (if dir = .rx then s.dev.on GBX_PSTATUS_RX_FILL sl else s.dev.on GBX_PSTATUS_TX_FILL sl) → n = 4 * (sl / 4) + p.l0 →
      x = (if dir = .tx ∧ s.dev.on TIME_PCFG_OPT_IN_CF p.num = true then dep + ((s.dev.get TIME_LOPT_OPT_TX n * 256 : Nat) : Int) else dep) →
      g = fput (fput (cfAdd f at0 ((timeBits x % 65536 : Nat) : Int)) (at0 + 34) 6 (timeBits x / 2 ^ 46)) (at0 + 40) 4 (timeBits x / 65536 % 2 ^ 30) →
      cnt = (if dir = .rx then PCS_PTP_CNT_RX else PCS_PTP_CNT_TX) →
      p.term = true → act = 1 → fill = false → s.dev.scaleOk (s.dev.get TIME_PCFG_DOM p.num) = true → s.dev.ptpAt sl f = some (at0, udp) →
      s.dev.ptpSel sl f at0 = true → fb f at0 % 16 = 0 → fb f (at0 + 6) / 2 % 2 = 0 → at0 + 44 ≤ 256 → Completes (.ptpEventFrame sl dir f arr dep) s fun t =>
        Out.frame sl dir (ptpFix f g at0 udp) ∈ t.dev.out ∧ t.dev.get cnt sl = min (s.dev.get cnt sl + 1) (2 ^ cnt.w - 1) ∧ Frame (fieldsAt [(cnt, sl)]) noKey [] s t)
  ∧ (∀ (s : State) (sl : Fin 8) (dir : Dir) (p : PortDesc) (f : List Byte) (arr dep x v : Int) (at0 act n : Nat) (cnt : Fld) (fill : Bool) (udp : Option (Nat × Bool)),
      s.dev.portAt sl = some p → act = (if dir = .rx then s.dev.get PCS_CTRL_PTP_RX sl else s.dev.get PCS_CTRL_PTP_TX sl) →
      fill = (if dir = .rx then s.dev.on GBX_PSTATUS_RX_FILL sl else s.dev.on GBX_PSTATUS_TX_FILL sl) → n = 4 * (sl / 4) + p.l0 →
      x = (if dir = .tx ∧ s.dev.on TIME_PCFG_OPT_IN_CF p.num = true then dep + ((s.dev.get TIME_LOPT_OPT_TX n * 256 : Nat) : Int) else dep) →
      v = (if dir = .rx ∧ s.dev.on TIME_PCFG_OPT_IN_CF p.num = true then x - arr + ((s.dev.get TIME_LOPT_OPT_RX n * 256 : Nat) : Int) else x - arr) →
      cnt = (if dir = .rx then PCS_PTP_CNT_RX else PCS_PTP_CNT_TX) →
      p.term = true → act = 2 → fill = false → s.dev.scaleOk (s.dev.get TIME_PCFG_DOM p.num) = true → s.dev.ptpAt sl f = some (at0, udp) →
      s.dev.ptpSel sl f at0 = true → at0 + 16 ≤ 256 → Completes (.ptpEventFrame sl dir f arr dep) s fun t =>
        Out.frame sl dir (ptpFix f (cfAdd f at0 v) at0 udp) ∈ t.dev.out ∧ t.dev.get cnt sl = min (s.dev.get cnt sl + 1) (2 ^ cnt.w - 1)
        ∧ Frame (fieldsAt [(cnt, sl)]) noKey [] s t)
  ∧ ∀ (d : Dev) (sl : Nat) (f : List Byte) (at0 : Nat) (udp : Option (Nat × Bool)), d.ptpAt sl f = some (at0, udp) → at0 ≤ 90

/-- TRIG_SET_FIRE of a set whose source is gone clears it and counts nothing. Else the set evaluates the symbols of one lane dpclk of the most
recent pip, once: each firing is counted, and the earliest raises the set's event, stamped with its symbol's ball time; a dpclk evaluated
before, or no pip kept, changes nothing. A LONGER pulse whose symbols all lie above TH0 fires once, at the symbol that makes it one too
long. CAP_EVENT_INPUT takes the oldest event raised by the input, or TMATCH once its match time has come in a valid timescale; with none,
nothing changes. While a capture writes records, an event selected in the sequencer's state and within its window moves it on with the
event's stamp, or fires it in state 3 or with NEXT set: TRIG_EV is set, the sequencer is back in state 0 (the model's choice, assumption
25), a TRIG packet waits on each lane of SLOE_OUT, and in LOCAL mode an armed capture triggers, with its stamp. Any other event is only
taken. SEQ_WINDOW_EXPIRY returns a sequencer whose window passed by 1 µs to state 0; else nothing changes. CAP_SW_EV raises the software
event. CAP_FORCE triggers an armed capture, keeping the pre-trigger records, with its TRIGGER record; a triggered one gets a TRIGGER record
if the ring has room; else nothing changes. No byte outside the ring changes. (Rests on R242 to R247.) -/
def Obligations.TriggersAndSequencer : Prop :=
  (∀ (s : State) (n : Fin 8) (k : Fin 4) (c : Fin 72) (kp : EqPip) (w at0 : Nat) (vals : List Int) (r : TrgSet × Nat × Option Nat), s.dev.trgAvail n k = true →
      s.dev.lastPip n = some kp → w = s.dev.symsPerDpclk n → at0 = 72 * kp.pip + c →
      vals = ((if s.dev.on LL_TRG_CFG_SRC (4 * n + k) then kp.ys else kp.raw).drop (c * w)).take w →
      r = s.dev.trgRun n k vals (((kp.syms.drop (c * w)).take w).map (fun x => ((x + 3) / 2).toNat)) (s.dev.trgOf n k) → (s.dev.trgOf n k).next ≤ at0 →
      Completes (.trigSetFire n k c) s fun t =>
        t.dev.get LL_TRG_CNT_COUNT (4 * n + k) = min (s.dev.get LL_TRG_CNT_COUNT (4 * n + k) + r.2.1) (2 ^ LL_TRG_CNT_COUNT.w - 1)
        ∧ (∀ i, r.2.2 = some i → Out.trigger (4 * n + k) (kp.start + s.dev.uiTime n ((c * w + i : Nat) : Int)) ∈ t.dev.out)
        ∧ t.dev.events = s.dev.events ++ (if s.dev.capOn = true then (r.2.2.map (fun i => (4 * n.val + k.val, kp.start + s.dev.uiTime n ((c * w + i : Nat) : Int)))).toList else [])
        ∧ Frame (fieldsAt [(LL_TRG_CNT_COUNT, 4 * n + k)]) noKey [.events] s t)
  ∧ (∀ (s : State) (n : Fin 8) (k : Fin 4) (c : Fin 72) (kp : EqPip) (w : Nat) (vals : List Int), s.dev.trgAvail n k = true → s.dev.lastPip n = some kp → w = s.dev.symsPerDpclk n →
      vals = ((if s.dev.on LL_TRG_CFG_SRC (4 * n + k) then kp.ys else kp.raw).drop (c * w)).take w → (s.dev.trgOf n k).next ≤ 72 * kp.pip + c →
      s.dev.get LL_TRG_CFG_TYPE (4 * n + k) = 0 → s.dev.on LL_TRG_CFG_LONGER (4 * n + k) = true → s.dev.get LL_TRG_CFG_MODE (4 * n + k) = 0 →
      (∀ v ∈ vals, s.dev.geti LL_TRG_TH_TH0 (4 * n + k) < v) → (s.dev.trgOf n k).run ≤ max 1 (s.dev.get LL_TRG_N_N (4 * n + k)) →
      max 1 (s.dev.get LL_TRG_N_N (4 * n + k)) < (s.dev.trgOf n k).run + vals.length → Completes (.trigSetFire n k c) s fun t =>
        Out.trigger (4 * n + k) (kp.start + s.dev.uiTime n ((c * w + (max 1 (s.dev.get LL_TRG_N_N (4 * n + k)) - (s.dev.trgOf n k).run) : Nat) : Int)) ∈ t.dev.out
        ∧ t.dev.get LL_TRG_CNT_COUNT (4 * n + k) = min (s.dev.get LL_TRG_CNT_COUNT (4 * n + k) + 1) (2 ^ LL_TRG_CNT_COUNT.w - 1))
  ∧ (∀ (s : State) (n : Fin 8) (k : Fin 4) (c : Fin 72), s.dev.trgAvail n k = false → Completes (.trigSetFire n k c) s fun t =>
      (∀ x ∈ t.dev.trg, x.lane ≠ n.val ∨ x.set ≠ k.val) ∧ Still s t)
  ∧ (∀ (s : State) (n : Fin 8) (k : Fin 4) (c : Fin 72), s.dev.trgAvail n k = true →
      (s.dev.lastPip n).all (fun kp => decide (72 * kp.pip + c.val < (s.dev.trgOf n k).next)) = true → Completes (.trigSetFire n k c) s fun t => Still s t)
  ∧ (∀ (s : State) (input : Fin 67) (stamp : Int) (st c : Nat) (m : Int), c = tmScale (s.dev.get CAP_EVF_TM_DOM 0) → m = bitsTime (s.dev.wide CAP_TMATCH_TIME 0) →
      st = (s.dev.v .capSt 0).toNat →
      ((input.val ≠ 64 ∧ s.dev.events.find? (fun e => e.1 == input.val) = some (input.val, stamp)) ∨ (input.val = 64 ∧ s.dev.flag .capTm 0 = false ∧ s.dev.scaleOk c = true
        ∧ m ≤ s.dev.scale c ∧ stamp = (if c = 0 then m else s.dev.actTime))) →
      s.dev.capOn = true → st ≠ 3 → (!(s.dev.on CAP_SEQ_CTRL_NEXT st)) = true → s.dev.seqSel st input = true → s.dev.seqIn st stamp = true →
      Completes (.capEventInput input) s fun t => t.dev.v .capSt 0 = (st + 1 : Nat) ∧ t.dev.v .capEntry 0 = stamp
        ∧ t.dev.events = (if input.val = 64 then s.dev.events else s.dev.events.erase (input.val, stamp)) ∧ (input.val = 64 → t.dev.v .capTm 0 = 1)
        ∧ Frame noKey (varsAt [(.capSt, 0), (.capEntry, 0), (.capTm, 0)]) [.events] s t)
  ∧ (∀ (s : State) (input : Fin 67) (stamp : Int) (st c : Nat) (m : Int), c = tmScale (s.dev.get CAP_EVF_TM_DOM 0) → m = bitsTime (s.dev.wide CAP_TMATCH_TIME 0) →
      st = (s.dev.v .capSt 0).toNat →
      ((input.val ≠ 64 ∧ s.dev.events.find? (fun e => e.1 == input.val) = some (input.val, stamp)) ∨ (input.val = 64 ∧ s.dev.flag .capTm 0 = false ∧ s.dev.scaleOk c = true
        ∧ m ≤ s.dev.scale c ∧ stamp = (if c = 0 then m else s.dev.actTime))) →
      (s.dev.capOn = false ∨ s.dev.seqSel st input = false ∨ s.dev.seqIn st stamp = false) → Completes (.capEventInput input) s fun t =>
        t.dev.events = (if input.val = 64 then s.dev.events else s.dev.events.erase (input.val, stamp)) ∧ (input.val = 64 → t.dev.v .capTm 0 = 1)
        ∧ Frame noKey (varsAt [(.capTm, 0)]) [.events] s t)
  ∧ (∀ (s : State) (input : Fin 67) (stamp : Int) (st c : Nat) (m : Int), c = tmScale (s.dev.get CAP_EVF_TM_DOM 0) → m = bitsTime (s.dev.wide CAP_TMATCH_TIME 0) →
      st = (s.dev.v .capSt 0).toNat →
      ((input.val ≠ 64 ∧ s.dev.events.find? (fun e => e.1 == input.val) = some (input.val, stamp)) ∨ (input.val = 64 ∧ s.dev.flag .capTm 0 = false ∧ s.dev.scaleOk c = true
        ∧ m ≤ s.dev.scale c ∧ stamp = (if c = 0 then m else s.dev.actTime))) →
      s.dev.capOn = true → (st = 3 ∨ s.dev.on CAP_SEQ_CTRL_NEXT st = true) → s.dev.seqSel st input = true → s.dev.seqIn st stamp = true →
      Completes (.capEventInput input) s fun t => t.dev.v .capSt 0 = 0 ∧ t.dev.v .capEntry 0 = stamp ∧ t.dev.get CAP_STATUS_TRIG_EV 0 = 1
        ∧ (∀ n < 8, t.dev.v .slTrig n = if (s.dev.get CAP_CTRL_SLOE_OUT 0).testBit n then ((s.dev.get CAP_CTRL_OUT_TAG 0 + 1 : Nat) : Int) else s.dev.v .slTrig n)
        ∧ (s.dev.get CAP_STATUS_STATE 0 = 1 → s.dev.on CAP_CTRL_MODE 0 = false → t.dev.get CAP_STATUS_STATE 0 = 2 ∧ t.dev.wide CAP_TSTAMP_TIME 0 = timeBits stamp)
        ∧ ((s.dev.get CAP_STATUS_STATE 0 ≠ 1 ∨ s.dev.on CAP_CTRL_MODE 0 = true) → t.dev.get CAP_STATUS_STATE 0 = s.dev.get CAP_STATUS_STATE 0)
        ∧ (∀ a, a < capBase ∨ capBase + capUnits * 64 ≤ a → t.mem.read a = s.mem.read a) ∧ t.pending = s.pending
        ∧ Keeps (orKey (fieldsAt [(CAP_STATUS_STATE, 0), (CAP_STATUS_PRE_SHORT, 0), (CAP_STATUS_TRIG_EV, 0), (CAP_STATUS_GAP_EV, 0), (CAP_GAPS_COUNT, 0), (TRG_STATUS_SEND_REJ, 0)])
              (regsIn [.CAP_TSTAMP]))
            (varsIn [.capSt, .capEntry, .capTm, .slTrig, .capBase, .capDrained, .capPos, .capIdx]) [.events, .capRecs, .capQ, .capGaps, .trigbQ] s.dev t.dev)
  ∧ (∀ (s : State) (input : Fin 67) (c : Nat), c = tmScale (s.dev.get CAP_EVF_TM_DOM 0) → ((input.val ≠ 64 ∧ s.dev.events.find? (fun e => e.1 == input.val) = none)
      ∨ (input.val = 64 ∧ (s.dev.flag .capTm 0 = true ∨ s.dev.scaleOk c = false ∨ s.dev.scale c < bitsTime (s.dev.wide CAP_TMATCH_TIME 0)))) →
      Completes (.capEventInput input) s fun t => Still s t)
  ∧ (∀ (s : State) (w : Nat), w = s.dev.get CAP_SEQ_CTRL_WINDOW (s.dev.v .capSt 0).toNat → s.dev.capOn = true → s.dev.v .capSt 0 ≠ 0 → w ≠ 0 →
      s.dev.v .capEntry 0 + ((w + 1000) * 65536 : Nat) ≤ s.dev.actTime → Completes .seqWindowExpiry s fun t => t.dev.v .capSt 0 = 0
      ∧ t.dev.v .capEntry 0 = s.dev.actTime ∧ Frame noKey (varsAt [(.capSt, 0), (.capEntry, 0)]) [] s t)
  ∧ (∀ (s : State) (w : Nat), w = s.dev.get CAP_SEQ_CTRL_WINDOW (s.dev.v .capSt 0).toNat → (s.dev.capOn = false ∨ s.dev.v .capSt 0 = 0 ∨ w = 0
      ∨ s.dev.actTime < s.dev.v .capEntry 0 + ((w + 1000) * 65536 : Nat)) → Completes .seqWindowExpiry s fun t => Still s t)
  ∧ (∀ (s : State), Completes .capSwEv s fun t => Out.trigger 66 s.dev.actTime ∈ t.dev.out
      ∧ t.dev.events = s.dev.events ++ (if s.dev.capOn = true then [(66, s.dev.actTime)] else []) ∧ Frame noKey noKey [.events] s t)
  ∧ (∀ (s : State), s.dev.get CAP_STATUS_STATE 0 = 1 → Completes .capForce s fun t =>
        t.dev.get CAP_STATUS_STATE 0 = 2 ∧ t.dev.wide CAP_TSTAMP_TIME 0 = timeBits s.dev.actTime
        ∧ (∀ a, a < capBase ∨ capBase + capUnits * 64 ≤ a → t.mem.read a = s.mem.read a) ∧ t.pending = s.pending
        ∧ Keeps (orKey (fieldsAt [(CAP_STATUS_STATE, 0), (CAP_STATUS_PRE_SHORT, 0), (CAP_STATUS_GAP_EV, 0), (CAP_GAPS_COUNT, 0)]) (regsIn [.CAP_TSTAMP]))
            (varsIn [.capBase, .capDrained, .capPos, .capIdx]) [.capRecs, .capQ, .capGaps] s.dev t.dev)
  ∧ (∀ (s : State) (pos base : Nat), pos = (s.dev.v .capPos 0).toNat →
      base = (s.dev.capRecs.find? (fun r => decide (pos ≤ r + min (s.dev.get CAP_PRE_UNITS 0) (capUnits - 1)))).getD pos → s.dev.get CAP_STATUS_STATE 0 = 1 →
      s.dev.capQ = [] → Completes .capForce s fun t => t.dev.v .capBase 0 = (base : Nat) ∧ t.dev.v .capPos 0 = (pos + 1 : Nat)
        ∧ t.dev.on CAP_STATUS_PRE_SHORT 0 = decide (pos < s.dev.get CAP_PRE_UNITS 0)
        ∧ t.mem.readBytes (capBase + pos % capUnits * 64) 64 = padUnits (capHdr 4 2 0 1 0 0 s.dev.actTime 0) ∧ Elsewhere (capBase + pos % capUnits * 64) 64 s t)
  ∧ (∀ (s : State) (pos : Nat), pos = (s.dev.v .capPos 0).toNat → s.dev.get CAP_STATUS_STATE 0 = 2 → s.dev.capRoom 1 = true → Completes .capForce s fun t =>
        t.dev.v .capPos 0 = (pos + 1 : Nat) ∧ t.mem.readBytes (capBase + pos % capUnits * 64) 64 = padUnits (capHdr 4 2 0 0 0 0 s.dev.actTime 0)
        ∧ Elsewhere (capBase + pos % capUnits * 64) 64 s t ∧ t.pending = s.pending ∧ Keeps noKey (varsAt [(.capPos, 0)]) [.capRecs] s.dev t.dev)
  ∧ (∀ (s : State), (s.dev.capOn = false ∨ (s.dev.get CAP_STATUS_STATE 0 = 2 ∧ s.dev.capRoom 1 = false)) → Completes .capForce s fun t => Still s t)

/-- CAP_ARM of a good configuration discards the last result and arms, a bad one says why in ARM_ERR and changes nothing else. CAP_STREAM_RECORD
of a running stream writes its waiting units as a DATA record behind the last, with its header, and advances the index; units for which
there was no bandwidth, or whose source is absent, begin a gap instead; of a stream or capture that does not run nothing changes. CAP_STOP,
and CAP_COMPLETE once CAP_LEN is reached, end a running capture: the result and its reason stand, DONE_EV is set, nothing waits, and the
state is DONE, or DRAINING for a triggered capture with a drain; without gaps and waiting units the END record follows the kept ones.
Otherwise they change nothing. No byte outside the ring, or with a drain below LPDDR6, changes. DRAIN_GRANULE_DONE of a running drain: a
granule of the drain region, not its last, that the ring covers completely is written and marked, and the drain moves on to the next; one
not yet covered changes nothing; when the records pass the end of the last granule's room, the capture ends TRUNC. Without a running drain
it changes nothing. DRAIN_FINISHED writes the rest and moves DRAINING to DONE; in another state it changes nothing. No byte of the ring
changes, and with a region that is not empty none below LPDDR6. (Rests on R249 to R256.) -/
def Obligations.CaptureRun : Prop :=
  (∀ (s : State), s.dev.armErr = 0 → Completes .capArm s fun t => t.dev.get CAP_STATUS_STATE 0 = 1 ∧ t.dev.get CAP_STATUS_ARM_ERR 0 = 0 ∧ t.dev.v .capPos 0 = 0 ∧ t.dev.v .capSt 0 = 0
      ∧ t.dev.capRecs = [] ∧ t.dev.capQ = [] ∧ t.dev.capGaps = [] ∧ t.dev.events = [] ∧ t.dev.v .capEntry 0 = s.dev.actTime
      ∧ t.dev.get CAP_RESULT_UNITS_VALUE 0 = 0 ∧ (∀ st < 16, t.dev.v .capIdx st = 0 ∧ t.dev.v .capDead st = 0) ∧ t.dev.flag .capDrain 0 = s.dev.on CAP_CTRL_DRAIN 0
      ∧ t.dev.v .capRegBase 0 = (s.dev.get CAP_DRAIN_BASE_GRANULE 0 : Nat) ∧ t.dev.v .capRegSize 0 = (s.dev.get CAP_DRAIN_SIZE_GRANULE 0 : Nat)
      ∧ Frame (regsIn [.CAP_STATUS, .CAP_RESULT_START, .CAP_RESULT_UNITS, .CAP_TSTAMP])
          (varsIn [.capSt, .capTm, .capPos, .capBase, .capDrained, .capTail, .capIdx, .capDead, .capEntry, .capDrain, .capRegBase, .capRegSize, .fillPre])
          [.capRecs, .capGaps, .capQ, .events] s t)
  ∧ (∀ (s : State), s.dev.armErr ≠ 0 → Completes .capArm s fun t => t.dev.get CAP_STATUS_ARM_ERR 0 = s.dev.armErr % 2 ^ CAP_STATUS_ARM_ERR.w
      ∧ Frame (fieldsAt [(CAP_STATUS_ARM_ERR, 0)]) noKey [] s t)
  ∧ (∀ (s : State) (st : Fin 16) (ms : Int) (units pos i m : Nat) (w : CapWait) (pay : List Byte), m = min (min units (recMax w.src)) w.vals.length →
      pay = capEncode w.src (w.vals.take m) → pos = (s.dev.v .capPos 0).toNat → i = (s.dev.v .capIdx st).toNat → s.dev.capOn = true →
      s.dev.capLive st = true → s.dev.capFull = false → s.dev.capQ = [w] → w.stream = st.val → 0 < m → s.dev.capGaps = [] →
      s.dev.capRoom (recUnits (32 + pay.length) + 1) = true → Completes (.capStreamRecord st 0 false ms units) s fun t =>
        t.dev.v .capPos 0 = (pos + recUnits (32 + pay.length) : Nat) ∧ t.dev.v .capIdx st = (i + m : Nat)
        ∧ t.mem.readBytes (capBase + pos % capUnits * 64) 64
            = (padUnits (capHdr 1 st (w.lane + 8 * w.src) 0 pay.length i (w.stamp + s.dev.uiTime w.lane w.skip) m ++ pay)).take 64
        ∧ (∀ a, (∀ j < recUnits (32 + pay.length), a < capBase + (pos + j) % capUnits * 64 ∨ capBase + (pos + j) % capUnits * 64 + 64 ≤ a) →
            t.mem.read a = s.mem.read a)
        ∧ t.dev.capUnitsOf st = w.vals.drop m ∧ t.pending = s.pending ∧ Keeps noKey (varsAt [(.capPos, 0), (.capIdx, st)]) [.capRecs, .capQ] s.dev t.dev)
  ∧ (∀ (s : State) (st : Fin 16) (missing units i : Nat) (ms : Int) (w : CapWait), i = (s.dev.v .capIdx st).toNat → s.dev.capOn = true → s.dev.capLive st = true →
      s.dev.capFull = false → s.dev.capQ = [w] → w.stream = st.val → w.vals.length ≤ missing → 0 < w.vals.length → s.dev.capGaps = [] →
      Completes (.capStreamRecord st missing false ms units) s fun t =>
        t.dev.capGaps = [⟨st, 2, i, w.stamp + s.dev.uiTime w.lane w.skip, w.vals.length⟩] ∧ t.dev.v .capIdx st = (i + w.vals.length : Nat) ∧ t.dev.capQ = []
        ∧ Frame noKey (varsAt [(.capIdx, st)]) [.capQ, .capGaps] s t)
  ∧ (∀ (s : State) (st : Fin 16) (missing units i : Nat) (ms : Int), i = (s.dev.v .capIdx st).toNat → s.dev.capOn = true → s.dev.capLive st = true →
      s.dev.capFull = false → s.dev.capQ = [] → s.dev.capAvail st = false → 0 < missing → s.dev.capGaps = [] →
      Completes (.capStreamRecord st missing true ms units) s fun t =>
        t.dev.capGaps = [⟨st, 3, i, ms, missing⟩] ∧ t.dev.v .capIdx st = (i + missing : Nat) ∧ Frame noKey (varsAt [(.capIdx, st)]) [.capGaps] s t)
  ∧ (∀ (s : State) (st : Fin 16) (missing units : Nat) (absent : Bool) (ms : Int), Completes (.capStreamRecord st missing absent ms units) s fun t =>
        (∀ a, a < capBase ∨ capBase + capUnits * 64 ≤ a → t.mem.read a = s.mem.read a) ∧ t.pending = s.pending
        ∧ Keeps (fieldsAt [(CAP_STATUS_GAP_EV, 0), (CAP_GAPS_COUNT, 0)]) (varsAt [(.capPos, 0), (.capIdx, st)]) [.capRecs, .capQ, .capGaps] s.dev t.dev)
  ∧ (∀ (s : State) (st : Fin 16) (missing units : Nat) (absent : Bool) (ms : Int), (s.dev.capOn = false ∨ s.dev.capLive st = false ∨ s.dev.capFull = true) →
      Completes (.capStreamRecord st missing absent ms units) s fun t => Still s t)
  ∧ (∀ (s : State), s.dev.capOn = true → Completes .capStop s fun t =>
        t.dev.get CAP_STATUS_STATE 0 = (if s.dev.flag .capDrain 0 = true ∧ s.dev.get CAP_STATUS_STATE 0 = 2 then 3 else 4) ∧ t.dev.get CAP_STATUS_END_REASON 0 = 3
        ∧ t.dev.get CAP_STATUS_DONE_EV 0 = 1 ∧ t.dev.capGaps = [] ∧ t.dev.capQ = [] ∧ t.dev.events = []
        ∧ (s.dev.flag .capDrain 0 = false → ∀ a, a < capBase ∨ capBase + capUnits * 64 ≤ a → t.mem.read a = s.mem.read a)
        ∧ (0 < s.dev.v .capRegBase 0 + s.dev.v .capRegSize 0 → ∀ a, (a < capBase ∨ capBase + capUnits * 64 ≤ a) ∧ a < lpBase → t.mem.read a = s.mem.read a)
        ∧ t.pending = s.pending ∧ Keeps (regsIn [.CAP_STATUS, .CAP_RESULT_START, .CAP_RESULT_UNITS, .CAP_GAPS])
            (varsIn [.capBase, .capTail, .capPos, .capIdx]) [.capRecs, .capGaps, .capQ, .events] s.dev t.dev)
  ∧ (∀ (s : State) (pos base : Nat), pos = (s.dev.v .capPos 0).toNat → base = (s.dev.v .capBase 0).toNat → s.dev.get CAP_STATUS_STATE 0 = 2 → s.dev.capGaps = [] →
      s.dev.capQ = [] → s.dev.flag .capDrain 0 = false → base ≤ pos → pos - base < capUnits → Completes .capStop s fun t =>
        t.dev.v .capPos 0 = (pos + 1 : Nat) ∧ t.dev.get CAP_RESULT_START_VALUE 0 = base % capUnits * 64
        ∧ t.dev.get CAP_RESULT_UNITS_VALUE 0 = pos + 1 - base
        ∧ t.mem.readBytes (capBase + pos % capUnits * 64) 64 = padUnits (capHdr 5 0 0 3 0 (pos - base) s.dev.actTime 0)
        ∧ Elsewhere (capBase + pos % capUnits * 64) 64 s t)
  ∧ (∀ (s : State), s.dev.capOn = false → Completes .capStop s fun t => Still s t)
  ∧ (∀ (s : State), s.dev.capFull = true → Completes .capComplete s fun t =>
        t.dev.get CAP_STATUS_STATE 0 = (if s.dev.flag .capDrain 0 = true then 3 else 4) ∧ t.dev.get CAP_STATUS_END_REASON 0 = 1
        ∧ t.dev.get CAP_STATUS_DONE_EV 0 = 1 ∧ t.dev.capGaps = [] ∧ t.dev.capQ = [] ∧ t.dev.events = []
        ∧ (s.dev.flag .capDrain 0 = false → ∀ a, a < capBase ∨ capBase + capUnits * 64 ≤ a → t.mem.read a = s.mem.read a)
        ∧ (0 < s.dev.v .capRegBase 0 + s.dev.v .capRegSize 0 → ∀ a, (a < capBase ∨ capBase + capUnits * 64 ≤ a) ∧ a < lpBase → t.mem.read a = s.mem.read a)
        ∧ t.pending = s.pending ∧ Keeps (regsIn [.CAP_STATUS, .CAP_RESULT_START, .CAP_RESULT_UNITS, .CAP_GAPS])
            (varsIn [.capBase, .capTail, .capPos, .capIdx]) [.capRecs, .capGaps, .capQ, .events] s.dev t.dev)
  ∧ (∀ (s : State) (pos base : Nat), pos = (s.dev.v .capPos 0).toNat → base = (s.dev.v .capBase 0).toNat → s.dev.capFull = true → s.dev.capGaps = [] →
      s.dev.capQ = [] → s.dev.flag .capDrain 0 = false → base ≤ pos → pos - base < capUnits → Completes .capComplete s fun t =>
        t.dev.v .capPos 0 = (pos + 1 : Nat) ∧ t.dev.get CAP_RESULT_UNITS_VALUE 0 = pos + 1 - base
        ∧ t.mem.readBytes (capBase + pos % capUnits * 64) 64 = padUnits (capHdr 5 0 0 1 0 (pos - base) s.dev.actTime 0)
        ∧ Elsewhere (capBase + pos % capUnits * 64) 64 s t)
  ∧ (∀ (s : State), s.dev.capFull = false → Completes .capComplete s fun t => Still s t)
  ∧ (∀ (s : State) (pos base ofs g : Nat), pos = (s.dev.v .capPos 0).toNat → base = (s.dev.v .capBase 0).toNat → ofs = (s.dev.v .capDrained 0).toNat - base → g = ofs / 16384 →
      (s.dev.get CAP_STATUS_STATE 0 = 2 ∨ s.dev.get CAP_STATUS_STATE 0 = 3) → s.dev.flag .capDrain 0 = true → base ≤ (s.dev.v .capDrained 0).toNat →
      g + 1 < (s.dev.v .capRegSize 0).toNat → base + (g + 1) * 16384 ≤ pos → Completes .drainGranuleDone s fun t =>
        t.dev.v .capDrained 0 = (base + (g + 1) * 16384 : Nat) ∧ (s.dev.v .capRegBase 0).toNat + g ∈ t.mem.marked
        ∧ (∀ a, a < lpBase → t.mem.read a = s.mem.read a) ∧ t.pending = s.pending ∧ Keeps noKey (varsAt [(.capDrained, 0)]) [] s.dev t.dev)
  ∧ (∀ (s : State) (pos base g : Nat), pos = (s.dev.v .capPos 0).toNat → base = (s.dev.v .capBase 0).toNat → g = ((s.dev.v .capDrained 0).toNat - base) / 16384 →
      (s.dev.get CAP_STATUS_STATE 0 = 2 ∨ s.dev.get CAP_STATUS_STATE 0 = 3) → s.dev.flag .capDrain 0 = true → g + 1 < (s.dev.v .capRegSize 0).toNat →
      pos < base + (g + 1) * 16384 → Completes .drainGranuleDone s fun t => Still s t)
  ∧ (∀ (s : State) (base g : Nat), base = (s.dev.v .capBase 0).toNat → g = ((s.dev.v .capDrained 0).toNat - base) / 16384 → s.dev.get CAP_STATUS_STATE 0 = 2 →
      s.dev.flag .capDrain 0 = true → (s.dev.v .capRegSize 0).toNat ≤ g + 1 → base + s.dev.capLimit < (s.dev.v .capPos 0).toNat → Completes .drainGranuleDone s fun t =>
        t.dev.get CAP_STATUS_STATE 0 = 3 ∧ t.dev.get CAP_STATUS_END_REASON 0 = 2 ∧ t.dev.get CAP_STATUS_DONE_EV 0 = 1
        ∧ t.dev.capGaps = [] ∧ t.dev.capQ = [] ∧ t.dev.events = []
        ∧ (0 < s.dev.v .capRegBase 0 + s.dev.v .capRegSize 0 → ∀ a, a < lpBase → t.mem.read a = s.mem.read a)
        ∧ t.pending = s.pending ∧ Keeps (regsIn [.CAP_STATUS, .CAP_RESULT_START, .CAP_RESULT_UNITS])
            (varsIn [.capBase, .capTail, .capPos, .capDrained]) [.capGaps, .capQ, .events] s.dev t.dev)
  ∧ (∀ (s : State) (base g : Nat), base = (s.dev.v .capBase 0).toNat → g = ((s.dev.v .capDrained 0).toNat - base) / 16384 →
      s.dev.flag .capDrain 0 = true → (s.dev.v .capRegSize 0).toNat ≤ g + 1 → (s.dev.v .capPos 0).toNat ≤ base + s.dev.capLimit →
      Completes .drainGranuleDone s fun t => Still s t)
  ∧ (∀ (s : State), (s.dev.flag .capDrain 0 = false ∨ (s.dev.get CAP_STATUS_STATE 0 ≠ 2 ∧ s.dev.get CAP_STATUS_STATE 0 ≠ 3)) →
      Completes .drainGranuleDone s fun t => Still s t)
  ∧ (∀ (s : State), s.dev.get CAP_STATUS_STATE 0 = 3 → Completes .drainFinished s fun t => t.dev.get CAP_STATUS_STATE 0 = 4
      ∧ (∀ a, a < lpBase → t.mem.read a = s.mem.read a) ∧ t.pending = s.pending ∧ Keeps (fieldsAt [(CAP_STATUS_STATE, 0)]) (varsAt [(.capDrained, 0)]) [] s.dev t.dev)
  ∧ (∀ (s : State), s.dev.get CAP_STATUS_STATE 0 ≠ 3 → Completes .drainFinished s fun t => Still s t)

/-- TRG_SEND_WRITE writes TYPE and TAG; with SEND the driver queues the frame, at most four (SYNC with tag 0, TIME with its domain bit), and a
CAL, a full queue or a listener sets SEND_REJ. TRIGB_FRAME_LAUNCH drives the oldest frame onto the bus; but for a CAL it acts later.
TRIGB_FRAME_RECEIVED of a listener counts a frame with a wrong parity or stop bit as bad, and any other as good: an event waits for its
instant, a CAL of this device makes its probe due, at the driver it is the probe of the device under calibration. BUS_EVENT_ACT takes the
oldest event: a TRIGGER of the accepted tag triggers an armed capture in FLEET mode and raises the BUS input; a SYNC aligns the sidebands
when TRG_SYNC is set; a TIME stamps its domain. With bus, queue or list off or empty, nothing changes. (Rests on R229, R245, R247, R257 to
R260.) -/
def Obligations.TriggerBus : Prop :=
  (∀ (s : State) (w : Word) (typ tag : Nat), typ = w.toNat % 4 → tag = (if typ = 1 then 0 else if typ = 2 then w.toNat / 4 % 2 else w.toNat / 4 % 64) →
      w.toNat.testBit 8 = true → typ ≠ 3 → s.dev.on TRG_CTRL_ROLE 0 = true → s.dev.trigbQ.length < 4 → Completes (.trgSendWrite w) s fun t =>
      t.dev.get TRG_SEND_TYPE 0 = typ ∧ t.dev.get TRG_SEND_TAG 0 = w.toNat / 4 % 64 ∧ t.dev.trigbQ = s.dev.trigbQ ++ [(typ, tag)]
      ∧ Frame (fieldsAt [(TRG_SEND_TYPE, 0), (TRG_SEND_TAG, 0)]) noKey [.trigbQ] s t)
  ∧ (∀ (s : State) (w : Word), w.toNat.testBit 8 = true → (w.toNat % 4 = 3 ∨ s.dev.on TRG_CTRL_ROLE 0 = false ∨ 4 ≤ s.dev.trigbQ.length) → Completes (.trgSendWrite w) s fun t =>
      t.dev.get TRG_SEND_TYPE 0 = w.toNat % 4 ∧ t.dev.get TRG_SEND_TAG 0 = w.toNat / 4 % 64 ∧ t.dev.get TRG_STATUS_SEND_REJ 0 = 1
      ∧ Frame (fieldsAt [(TRG_SEND_TYPE, 0), (TRG_SEND_TAG, 0), (TRG_STATUS_SEND_REJ, 0)]) noKey [] s t)
  ∧ (∀ (s : State) (w : Word), w.toNat.testBit 8 = false → Completes (.trgSendWrite w) s fun t => t.dev.get TRG_SEND_TYPE 0 = w.toNat % 4
      ∧ t.dev.get TRG_SEND_TAG 0 = w.toNat / 4 % 64 ∧ Frame (fieldsAt [(TRG_SEND_TYPE, 0), (TRG_SEND_TAG, 0)]) noKey [] s t)
  ∧ (∀ (s : State) (typ tag : Nat) (rest : List (Nat × Nat)), s.dev.trigbQ = (typ, tag) :: rest → typ ≠ 3 → Completes .trigbFrameLaunch s fun t =>
      t.dev.trigbQ = rest ∧ Out.trigb (trigbBits typ tag) ∈ t.dev.out ∧ t.dev.busEvs = s.dev.busEvs ++ [(typ, tag, false)] ∧ Frame noKey noKey [.trigbQ, .busEvs] s t)
  ∧ (∀ (s : State) (tag : Nat) (rest : List (Nat × Nat)), s.dev.trigbQ = (3, tag) :: rest → Completes .trigbFrameLaunch s fun t =>
      t.dev.trigbQ = rest ∧ Out.trigb (trigbBits 3 tag) ∈ t.dev.out ∧ Frame noKey noKey [.trigbQ] s t)
  ∧ (∀ (s : State), s.dev.trigbQ = [] → Completes .trigbFrameLaunch s fun t => Still s t)
  ∧ (∀ (s : State) (bits : BitVec 11) (bad : Bool), bad = ((List.range 9).foldl (fun a k => a != bits.getMsbD (1 + k)) false || bits.getMsbD 10) →
      s.dev.on TRG_CTRL_EN 0 = true → bad = true → Completes (.trigbFrameReceived bits) s fun t =>
      t.dev.get TRG_CNT_ERR 0 = min (s.dev.get TRG_CNT_ERR 0 + 1) (2 ^ TRG_CNT_ERR.w - 1) ∧ Frame (fieldsAt [(TRG_CNT_ERR, 0)]) noKey [] s t)
  ∧ (∀ (s : State) (bits : BitVec 11) (bad : Bool) (typ tag : Nat), bad = ((List.range 9).foldl (fun a k => a != bits.getMsbD (1 + k)) false || bits.getMsbD 10) →
      typ = bits.toNat / 2 ^ 8 % 4 → tag = bits.toNat / 2 ^ 2 % 64 → s.dev.on TRG_CTRL_EN 0 = true → bad = false → typ ≠ 3 → Completes (.trigbFrameReceived bits) s fun t =>
      t.dev.get TRG_CNT_FRAMES 0 = min (s.dev.get TRG_CNT_FRAMES 0 + 1) (2 ^ TRG_CNT_FRAMES.w - 1)
      ∧ t.dev.busEvs = s.dev.busEvs ++ [(typ, tag, s.dev.on TRG_STATUS_UNCAL 0 && !(s.dev.on TRG_CTRL_ROLE 0))]
      ∧ Frame (fieldsAt [(TRG_CNT_FRAMES, 0)]) noKey [.busEvs] s t)
  ∧ (∀ (s : State) (bits : BitVec 11) (bad : Bool) (typ tag : Nat), bad = ((List.range 9).foldl (fun a k => a != bits.getMsbD (1 + k)) false || bits.getMsbD 10) →
      typ = bits.toNat / 2 ^ 8 % 4 → tag = bits.toNat / 2 ^ 2 % 64 → s.dev.on TRG_CTRL_EN 0 = true → bad = false → typ = 3 → Completes (.trigbFrameReceived bits) s fun t =>
      t.dev.get TRG_CNT_FRAMES 0 = min (s.dev.get TRG_CNT_FRAMES 0 + 1) (2 ^ TRG_CNT_FRAMES.w - 1)
      ∧ t.dev.v .trgCal 0 = (if s.dev.on TRG_CTRL_ROLE 0 = true ∧ s.dev.v .trgCal 0 = 3 ∧ s.dev.v .trgCalDev 0 = (tag : Nat) then 4
          else if s.dev.on TRG_CTRL_ROLE 0 = false ∧ s.dev.v .trgCal 0 = 0 ∧ tag = s.dev.devNum then 1 else s.dev.v .trgCal 0)
      ∧ (s.dev.on TRG_CTRL_ROLE 0 = false → s.dev.v .trgCal 0 = 0 → tag = s.dev.devNum → t.dev.get TRG_STATUS_CAL_BUSY 0 = 1)
      ∧ Frame (fieldsAt [(TRG_CNT_FRAMES, 0), (TRG_STATUS_CAL_BUSY, 0)]) (varsAt [(.trgCal, 0)]) [] s t)
  ∧ (∀ (s : State) (bits : BitVec 11), s.dev.on TRG_CTRL_EN 0 = false → Completes (.trigbFrameReceived bits) s fun t => Still s t)
  ∧ (∀ (s : State) (tag : Nat) (un : Bool) (rest : List (Nat × Nat × Bool)), s.dev.busEvs = (0, tag, un) :: rest → tag = s.dev.get CAP_CTRL_BUS_TAG 0 →
      Completes .busEventAct s fun t => t.dev.busEvs = rest ∧ Out.trigger 65 s.dev.actTime ∈ t.dev.out
        ∧ (s.dev.on CAP_CTRL_MODE 0 = true → s.dev.get CAP_STATUS_STATE 0 = 1 → t.dev.get CAP_STATUS_STATE 0 = 2 ∧ t.dev.wide CAP_TSTAMP_TIME 0 = timeBits s.dev.actTime)
        ∧ ((s.dev.on CAP_CTRL_MODE 0 = false ∨ s.dev.get CAP_STATUS_STATE 0 ≠ 1) → t.dev.get CAP_STATUS_STATE 0 = s.dev.get CAP_STATUS_STATE 0)
        ∧ (∀ a, a < capBase ∨ capBase + capUnits * 64 ≤ a → t.mem.read a = s.mem.read a) ∧ t.pending = s.pending
        ∧ Keeps (orKey (fieldsAt [(CAP_STATUS_STATE, 0), (CAP_STATUS_PRE_SHORT, 0), (CAP_STATUS_GAP_EV, 0), (CAP_GAPS_COUNT, 0)]) (regsIn [.CAP_TSTAMP]))
            (varsIn [.capBase, .capDrained, .capPos, .capIdx]) [.busEvs, .events, .capRecs, .capQ, .capGaps] s.dev t.dev)
  ∧ (∀ (s : State) (tag : Nat) (un : Bool) (rest : List (Nat × Nat × Bool)), s.dev.busEvs = (0, tag, un) :: rest → tag ≠ s.dev.get CAP_CTRL_BUS_TAG 0 →
      Completes .busEventAct s fun t => t.dev.busEvs = rest ∧ Frame noKey noKey [.busEvs] s t)
  ∧ (∀ (s : State) (tag : Nat) (un : Bool) (rest : List (Nat × Nat × Bool)), s.dev.busEvs = (1, tag, un) :: rest → s.dev.on SB_CTRL_TRG_SYNC 0 = true → Completes .busEventAct s fun t =>
      t.dev.busEvs = rest ∧ t.dev.get SB_STATUS_SYNC_EV 0 = 1 ∧ t.dev.on SB_STATUS_SYNC_UNCAL 0 = un
      ∧ (∀ n < 8, (t.dev.get SB_STATUS_ALIGNED 0).testBit n = s.dev.on LL_ADC_STATUS_READY n)
      ∧ t.dev.sb = s.dev.sb.map (fun e => { e with cicFill := true, sync := true }) ∧ Frame (regsIn [.SB_STATUS]) noKey [.busEvs, .sb] s t)
  ∧ (∀ (s : State) (tag : Nat) (un : Bool) (rest : List (Nat × Nat × Bool)), s.dev.busEvs = (1, tag, un) :: rest → s.dev.on SB_CTRL_TRG_SYNC 0 = false → Completes .busEventAct s fun t =>
      t.dev.busEvs = rest ∧ Frame noKey noKey [.busEvs] s t)
  ∧ (∀ (s : State) (typ tag : Nat) (un : Bool) (rest : List (Nat × Nat × Bool)), s.dev.busEvs = (typ, tag, un) :: rest → 2 ≤ typ → Completes .busEventAct s fun t =>
      t.dev.busEvs = rest ∧ t.dev.v .busTime (tag % 2) = s.dev.time (tag % 2) ∧ t.dev.flag .busTimeUn (tag % 2) = un ∧ t.dev.v .busTau (tag % 2) = s.dev.v .busAge (tag % 2)
      ∧ t.dev.v .busAge (tag % 2) = 0 ∧ t.dev.v .tmsgPend 0 = (tag % 2 + 1 : Nat)
      ∧ Frame noKey (varsAt [(.busTime, tag % 2), (.busTau, tag % 2), (.busAge, tag % 2), (.busTimeUn, tag % 2), (.busTimeOn, tag % 2), (.tmsgPend, 0)]) [.busEvs] s t)
  ∧ (∀ (s : State), s.dev.busEvs = [] → Completes .busEventAct s fun t => Still s t)

/-- TRG_CAL_START writes DEV; an idle driver with room queues the CAL and waits for the device's probe, with a full queue it sets SEND_REJ, and
at a listener or while CAL_BUSY nothing more happens. CAL_PROBE_LAUNCH drives the listener's due probe, CAL_ANSWER_LAUNCH the driver's due
answer, which ends its calibration. CAL_ANSWER_RECEIVED by a waiting listener counts the frame and gives d of its round trip, or, outside 0
to DMAX, fails: UNCAL, CAL_FAIL and d = 0. CAL_TIMEOUT fails a waiting listener so, and sets NO_PROBE at a driver that waits for the probe.
Without what they wait for the four change nothing. (Rests on R259, R260.) -/
def Obligations.BusCalibration : Prop :=
  (∀ (s : State) (dev : Fin 64), s.dev.on TRG_CTRL_ROLE 0 = true → s.dev.on TRG_STATUS_CAL_BUSY 0 = false → s.dev.trigbQ.length < 4 → Completes (.trgCalStart dev) s fun t =>
      t.dev.get TRG_STATUS_CAL_BUSY 0 = 1 ∧ t.dev.get TRG_CAL_DEV 0 = dev.val ∧ t.dev.trigbQ = s.dev.trigbQ ++ [(3, dev.val)] ∧ t.dev.v .trgCal 0 = 3
      ∧ t.dev.v .trgCalDev 0 = (dev.val : Nat)
      ∧ Frame (fieldsAt [(TRG_STATUS_CAL_BUSY, 0), (TRG_CAL_DEV, 0)]) (varsAt [(.trgCal, 0), (.trgCalDev, 0)]) [.trigbQ] s t)
  ∧ (∀ (s : State) (dev : Fin 64), s.dev.on TRG_CTRL_ROLE 0 = true → s.dev.on TRG_STATUS_CAL_BUSY 0 = false → 4 ≤ s.dev.trigbQ.length → Completes (.trgCalStart dev) s fun t =>
      t.dev.get TRG_CAL_DEV 0 = dev.val ∧ t.dev.get TRG_STATUS_SEND_REJ 0 = 1 ∧ Frame (fieldsAt [(TRG_CAL_DEV, 0), (TRG_STATUS_SEND_REJ, 0)]) noKey [] s t)
  ∧ (∀ (s : State) (dev : Fin 64), (s.dev.on TRG_CTRL_ROLE 0 = false ∨ s.dev.on TRG_STATUS_CAL_BUSY 0 = true) → Completes (.trgCalStart dev) s fun t =>
      t.dev.get TRG_CAL_DEV 0 = dev.val ∧ Frame (fieldsAt [(TRG_CAL_DEV, 0)]) noKey [] s t)
  ∧ (∀ (s : State), s.dev.v .trgCal 0 = 1 → Completes .calProbeLaunch s fun t => Out.trigb (trigbBits 3 s.dev.devNum) ∈ t.dev.out ∧ t.dev.v .trgCal 0 = 2
      ∧ Frame noKey (varsAt [(.trgCal, 0)]) [] s t)
  ∧ (∀ (s : State), s.dev.v .trgCal 0 = 4 → Completes .calAnswerLaunch s fun t => Out.trigb (trigbBits 3 (s.dev.v .trgCalDev 0).toNat) ∈ t.dev.out ∧ t.dev.v .trgCal 0 = 0
      ∧ t.dev.get TRG_STATUS_CAL_BUSY 0 = 0 ∧ Frame (fieldsAt [(TRG_STATUS_CAL_BUSY, 0)]) (varsAt [(.trgCal, 0)]) [] s t)
  ∧ (∀ (s : State) (r : Nat) (x : Int), x = rdiv ((r : Int) - 256000) 20 → s.dev.v .trgCal 0 = 2 → 0 ≤ x → x ≤ (s.dev.dmax : Int) → Completes (.calAnswerReceived r) s fun t =>
      t.dev.get TRG_ALIGN_D 0 = x.toNat ∧ t.dev.get TRG_STATUS_UNCAL 0 = 0 ∧ t.dev.get TRG_STATUS_CAL_OK 0 = 1 ∧ t.dev.get TRG_STATUS_CAL_BUSY 0 = 0 ∧ t.dev.v .trgCal 0 = 0
      ∧ t.dev.get TRG_CNT_FRAMES 0 = min (s.dev.get TRG_CNT_FRAMES 0 + 1) (2 ^ TRG_CNT_FRAMES.w - 1)
      ∧ Frame (fieldsAt [(TRG_STATUS_UNCAL, 0), (TRG_STATUS_CAL_OK, 0), (TRG_STATUS_CAL_BUSY, 0), (TRG_ALIGN_D, 0), (TRG_CNT_FRAMES, 0)]) (varsAt [(.trgCal, 0)]) [] s t)
  ∧ (∀ (s : State) (r : Nat) (x : Int), x = rdiv ((r : Int) - 256000) 20 → s.dev.v .trgCal 0 = 2 → (x < 0 ∨ (s.dev.dmax : Int) < x) → Completes (.calAnswerReceived r) s fun t =>
      t.dev.get TRG_ALIGN_D 0 = 0 ∧ t.dev.get TRG_STATUS_UNCAL 0 = 1 ∧ t.dev.get TRG_STATUS_CAL_FAIL 0 = 1 ∧ t.dev.get TRG_STATUS_CAL_BUSY 0 = 0 ∧ t.dev.v .trgCal 0 = 0
      ∧ t.dev.get TRG_CNT_FRAMES 0 = min (s.dev.get TRG_CNT_FRAMES 0 + 1) (2 ^ TRG_CNT_FRAMES.w - 1)
      ∧ Frame (fieldsAt [(TRG_STATUS_UNCAL, 0), (TRG_STATUS_CAL_FAIL, 0), (TRG_STATUS_CAL_BUSY, 0), (TRG_ALIGN_D, 0), (TRG_CNT_FRAMES, 0)]) (varsAt [(.trgCal, 0)]) [] s t)
  ∧ (∀ (s : State), s.dev.v .trgCal 0 = 2 → Completes .calTimeout s fun t => t.dev.get TRG_ALIGN_D 0 = 0 ∧ t.dev.get TRG_STATUS_UNCAL 0 = 1 ∧ t.dev.get TRG_STATUS_CAL_FAIL 0 = 1
      ∧ t.dev.get TRG_STATUS_CAL_BUSY 0 = 0 ∧ t.dev.v .trgCal 0 = 0
      ∧ Frame (fieldsAt [(TRG_STATUS_UNCAL, 0), (TRG_STATUS_CAL_FAIL, 0), (TRG_STATUS_CAL_BUSY, 0), (TRG_ALIGN_D, 0)]) (varsAt [(.trgCal, 0)]) [] s t)
  ∧ (∀ (s : State), s.dev.v .trgCal 0 = 3 → Completes .calTimeout s fun t => t.dev.get TRG_STATUS_NO_PROBE 0 = 1 ∧ t.dev.get TRG_STATUS_CAL_BUSY 0 = 0 ∧ t.dev.v .trgCal 0 = 0
      ∧ Frame (fieldsAt [(TRG_STATUS_NO_PROBE, 0), (TRG_STATUS_CAL_BUSY, 0)]) (varsAt [(.trgCal, 0)]) [] s t)
  ∧ (∀ (s : State), s.dev.v .trgCal 0 ≠ 1 → Completes .calProbeLaunch s fun t => Still s t)
  ∧ (∀ (s : State), s.dev.v .trgCal 0 ≠ 4 → Completes .calAnswerLaunch s fun t => Still s t)
  ∧ (∀ (s : State) (r : Nat), s.dev.v .trgCal 0 ≠ 2 → Completes (.calAnswerReceived r) s fun t => Still s t)
  ∧ (∀ (s : State), s.dev.v .trgCal 0 ≠ 2 → s.dev.v .trgCal 0 ≠ 3 → Completes .calTimeout s fun t => Still s t)

/-- ZERO_FILL_DONE during zero-fill: every byte of management SRAM, of its spare words and of the capture store reads zero, none of them is
poisoned, and ZFILL is clear. LPDDR6_WIPE_DONE during a wipe: every byte of LPDDR6 reads zero, none is poisoned, no granule is marked, and
WIPE is clear. No other byte of memory changes. Without a zero-fill or a wipe in progress the two change nothing. MEM_FILL_START takes MODE;
a FILL that is refused says why in ERR and is DONE, one that is accepted is BUSY from its base on with its range, pattern and mode.
FILL_GRANULE_DONE of a busy FILL marks the granule and moves NEXT on; in a granule without a remapped line every word holds the pattern, or
its own address exclusive-ored with it, but the lines of `late`, which keep what they held; after the last granule the FILL is DONE, and a
pre-empted one ends with ERR 6. FILL_ABORT ends a busy FILL with ERR 0, after the lines of the granule it had written, and marks nothing.
With no FILL busy both change nothing. No byte below LPDDR6 changes. BMAP_UNMARK unmarks the granules of the selected word whose bits are
written 1, and no others. (Rests on R262, R263, R282 to R284.) -/
def Obligations.MemoryErasureAndFill : Prop :=
  (∀ (s : State), s.dev.on MEM_STATUS_ZFILL 0 = true → Completes .zeroFillDone s fun t => t.dev.get MEM_STATUS_ZFILL 0 = 0
      ∧ (∀ a, ((sramBase ≤ a ∧ a < sramBase + 0x80_0000) ∨ (capBase ≤ a ∧ a < capBase + 0x300_0000) ∨ (spareBase ≤ a ∧ a < spareBase + 0x1000)) →
          t.mem.read a = 0 ∧ a ∉ t.mem.poison)
      ∧ (∀ a, ¬((sramBase ≤ a ∧ a < sramBase + 0x80_0000) ∨ (capBase ≤ a ∧ a < capBase + 0x300_0000) ∨ (spareBase ≤ a ∧ a < spareBase + 0x1000)) →
          t.mem.read a = s.mem.read a ∧ (a ∈ t.mem.poison ↔ a ∈ s.mem.poison))
      ∧ t.mem.marked = s.mem.marked ∧ t.pending = s.pending ∧ Keeps (fieldsAt [(MEM_STATUS_ZFILL, 0)]) noKey [] s.dev t.dev)
  ∧ (∀ (s : State), s.dev.on MEM_STATUS_ZFILL 0 = false → Completes .zeroFillDone s fun t => Still s t)
  ∧ (∀ (s : State), s.dev.on MEM_STATUS_WIPE 0 = true → Completes .lpddr6WipeDone s fun t => t.dev.get MEM_STATUS_WIPE 0 = 0 ∧ t.mem.marked = []
      ∧ (∀ a, lpBase ≤ a ∧ a < spareBase → t.mem.read a = 0 ∧ a ∉ t.mem.poison)
      ∧ (∀ a, ¬(lpBase ≤ a ∧ a < spareBase) → t.mem.read a = s.mem.read a ∧ (a ∈ t.mem.poison ↔ a ∈ s.mem.poison)) ∧ t.pending = s.pending
      ∧ Keeps (fieldsAt [(MEM_STATUS_WIPE, 0)]) noKey [] s.dev t.dev)
  ∧ (∀ (s : State), s.dev.on MEM_STATUS_WIPE 0 = false → Completes .lpddr6WipeDone s fun t => Still s t)
  ∧ (∀ (s : State) (mode : Bool), s.dev.fillErr = 0 → Completes (.memFillStart mode) s fun t => t.dev.get MEM_FILL_STATUS_BUSY 0 = 1
      ∧ t.dev.get MEM_FILL_STATUS_ERR 0 = 0 ∧ t.dev.get MEM_FILL_STATUS_NEXT 0 = s.dev.get MEM_FILL_BASE_GRANULE 0 % 2 ^ MEM_FILL_STATUS_NEXT.w
      ∧ t.dev.v .fillEnd 0 = (s.dev.get MEM_FILL_BASE_GRANULE 0 + s.dev.get MEM_FILL_COUNT_GRANULE 0 : Nat) ∧ t.dev.flag .fillMode 0 = mode
      ∧ t.dev.v .fillPat 0 = (s.dev.get MEM_FILL_PAT_LO_PAT 0 + s.dev.get MEM_FILL_PAT_HI_PAT 0 * 2 ^ 32 : Nat) ∧ t.dev.on MEM_FILL_CTRL_MODE 0 = mode
      ∧ Frame (fieldsAt [(MEM_FILL_CTRL_MODE, 0), (MEM_FILL_STATUS_BUSY, 0), (MEM_FILL_STATUS_ERR, 0), (MEM_FILL_STATUS_NEXT, 0)])
          (varsAt [(.fillEnd, 0), (.fillPat, 0), (.fillMode, 0), (.fillPre, 0)]) [] s t)
  ∧ (∀ (s : State) (mode : Bool), s.dev.fillErr ≠ 0 → Completes (.memFillStart mode) s fun t => t.dev.get MEM_FILL_STATUS_DONE 0 = 1
      ∧ t.dev.get MEM_FILL_STATUS_ERR 0 = s.dev.fillErr ∧ t.dev.on MEM_FILL_CTRL_MODE 0 = mode
      ∧ Frame (fieldsAt [(MEM_FILL_CTRL_MODE, 0), (MEM_FILL_STATUS_ERR, 0), (MEM_FILL_STATUS_DONE, 0)]) noKey [] s t)
  ∧ (∀ (s : State) (late : List (Fin 16384)) (g : Nat), g = s.dev.get MEM_FILL_STATUS_NEXT 0 → s.dev.on MEM_FILL_STATUS_BUSY 0 = true → Completes (.fillGranuleDone late) s fun t =>
      g ∈ t.mem.marked ∧ (∀ h, h ≠ g → (h ∈ t.mem.marked ↔ h ∈ s.mem.marked)) ∧ (∀ a, a < lpBase → t.mem.read a = s.mem.read a) ∧ t.pending = s.pending
      ∧ (s.dev.v .fillEnd 0 ≤ (g + 1 : Nat) → t.dev.get MEM_FILL_STATUS_BUSY 0 = 0 ∧ t.dev.get MEM_FILL_STATUS_ERR 0 = 0 ∧ t.dev.get MEM_FILL_STATUS_DONE 0 = 1)
      ∧ ((g + 1 : Nat) < s.dev.v .fillEnd 0 → s.dev.flag .fillPre 0 = true → t.dev.get MEM_FILL_STATUS_BUSY 0 = 0 ∧ t.dev.get MEM_FILL_STATUS_ERR 0 = 6
        ∧ t.dev.get MEM_FILL_STATUS_DONE 0 = 1)
      ∧ ((g + 1 : Nat) < s.dev.v .fillEnd 0 → s.dev.flag .fillPre 0 = false → t.dev.on MEM_FILL_STATUS_BUSY 0 = true)
      ∧ t.dev.get MEM_FILL_STATUS_NEXT 0 = (g + 1) % 2 ^ MEM_FILL_STATUS_NEXT.w
      ∧ Keeps (regsIn [.MEM_FILL_STATUS]) (varsAt [(.fillPre, 0)]) [] s.dev t.dev)
  ∧ (∀ (s : State) (late : List (Fin 16384)) (g : Nat), g = s.dev.get MEM_FILL_STATUS_NEXT 0 → s.dev.on MEM_FILL_STATUS_BUSY 0 = true → g < 0x2_0000 → s.dev.divertedIn g = [] →
      Completes (.fillGranuleDone late) s fun t => Elsewhere (granBase g) 0x10_0000 s t
      ∧ (∀ o < 0x10_0000, t.mem.read (granBase g + o) = if late.any (fun l => l.val == o / 64) = true then s.mem.read (granBase g + o)
          else byteOf64 (if s.dev.flag .fillMode 0 then Nat.xor ((granBase g + o) / 8 * 8) (s.dev.v .fillPat 0).toNat else (s.dev.v .fillPat 0).toNat) ((granBase g + o) % 8)))
  ∧ (∀ (s : State) (late : List (Fin 16384)), s.dev.on MEM_FILL_STATUS_BUSY 0 = false → Completes (.fillGranuleDone late) s fun t => Still s t)
  ∧ (∀ (s : State) (lines : Nat), s.dev.on MEM_FILL_STATUS_BUSY 0 = true → Completes (.fillAbort lines) s fun t => t.dev.get MEM_FILL_STATUS_BUSY 0 = 0
      ∧ t.dev.get MEM_FILL_STATUS_ERR 0 = 0 ∧ t.dev.get MEM_FILL_STATUS_DONE 0 = 1 ∧ t.mem.marked = s.mem.marked ∧ (∀ a, a < lpBase → t.mem.read a = s.mem.read a)
      ∧ t.pending = s.pending ∧ Keeps (fieldsAt [(MEM_FILL_STATUS_BUSY, 0), (MEM_FILL_STATUS_ERR, 0), (MEM_FILL_STATUS_DONE, 0)]) (varsAt [(.fillPre, 0)]) [] s.dev t.dev)
  ∧ (∀ (s : State) (lines g : Nat), g = s.dev.get MEM_FILL_STATUS_NEXT 0 → s.dev.on MEM_FILL_STATUS_BUSY 0 = true → g < 0x2_0000 → s.dev.divertedIn g = [] → lines ≤ 16384 →
      Completes (.fillAbort lines) s fun t => Elsewhere (granBase g) (64 * lines) s t
      ∧ (∀ o < 64 * lines, t.mem.read (granBase g + o)
          = byteOf64 (if s.dev.flag .fillMode 0 then Nat.xor ((granBase g + o) / 8 * 8) (s.dev.v .fillPat 0).toNat else (s.dev.v .fillPat 0).toNat) ((granBase g + o) % 8)))
  ∧ (∀ (s : State) (lines : Nat), s.dev.on MEM_FILL_STATUS_BUSY 0 = false → Completes (.fillAbort lines) s fun t => Still s t)
  ∧ (∀ (s : State) (w : Word), Completes (.bmapUnmark w) s fun t =>
      (∀ k < 32, w.toNat.testBit k = true → 32 * s.dev.get MEM_BMAP_SEL_WORD 0 + k ∉ t.mem.marked)
      ∧ (∀ g, (g / 32 ≠ s.dev.get MEM_BMAP_SEL_WORD 0 ∨ w.toNat.testBit (g % 32) = false) → (g ∈ t.mem.marked ↔ g ∈ s.mem.marked))
      ∧ (∀ a, t.mem.read a = s.mem.read a) ∧ t.pending = s.pending ∧ Keeps noKey noKey [] s.dev t.dev)

/-- MEMORY_WRITE outside the registers: to an unmapped address or a block that is off it is refused, counted and, the first, recorded; to the
boot ROM, or the shadow from another than the loader, dropped; to the Stone dropped and counted; into a memory being filled or reserved
LPDDR6 dropped and logged. A whole unit of SRAM, capture store or LPDDR6 takes exactly its bytes and loses its poison; narrow bytes of the
capture store are merged over the unit at once, those of SRAM and LPDDR6 wait in a merge entry of the unit, complete ones are written, and
one too many flushes the oldest. MERGE_FLUSH writes its entry over the old bytes: a corrected error is counted, an uncorrectable one poisons
the unit and is logged, poison stays; without an entry nothing changes. STALE_REPLY_DISCARD discards and counts a reply whose target's or
initiator's generation is no longer current, and no other. DQS_TRACK changes nothing that a user sees; LPDDR6_TEMP_READ keeps the report.
(Rests on R264, R265, R267 to R269, R276, R277, R282, R290, R293, R295, R347.) -/
def Obligations.MemoryWrites : Prop :=
  (∀ (s : State) (init : Fin 16) (a : Nat) (data : List Byte) (f : EccFind), region a ≠ .regs → (region a = .unmapped ∨ s.dev.isOff a = true) →
      s.dev.on TOP_ACCESS_INFO_OFF_EV 0 = false → s.dev.on TOP_ACCESS_INFO_UNMAP_EV 0 = false → Completes (.memoryWrite init a data f) s fun t =>
        t.dev.on TOP_ACCESS_INFO_UNMAP_EV 0 = decide (region a = .unmapped) ∧ t.dev.on TOP_ACCESS_INFO_OFF_EV 0 = decide (region a ≠ .unmapped)
        ∧ t.dev.get TOP_ACCESS_ADDR_LO_ADDR 0 = a % 2 ^ TOP_ACCESS_ADDR_LO_ADDR.w ∧ t.dev.get TOP_ACCESS_ADDR_HI_ADDR 0 = a / 2 ^ 32 % 256
        ∧ t.dev.get TOP_ACCESS_INFO_INIT 0 = init.val ∧ t.dev.get TOP_ACCESS_INFO_WRITE 0 = 1
        ∧ t.dev.get TOP_ACCESS_CNT_COUNT 0 = min (s.dev.get TOP_ACCESS_CNT_COUNT 0 + 1) (2 ^ TOP_ACCESS_CNT_COUNT.w - 1)
        ∧ (init.val < 4 → Out.coreFault init a true ∈ t.dev.out)
        ∧ Frame (regsIn [.TOP_ACCESS_ADDR_LO, .TOP_ACCESS_ADDR_HI, .TOP_ACCESS_INFO, .TOP_ACCESS_CNT]) noKey [] s t)
  ∧ (∀ (s : State) (init : Fin 16) (a : Nat) (data : List Byte) (f : EccFind), region a ≠ .regs → (region a = .unmapped ∨ s.dev.isOff a = true) →
      (s.dev.on TOP_ACCESS_INFO_OFF_EV 0 = true ∨ s.dev.on TOP_ACCESS_INFO_UNMAP_EV 0 = true) → Completes (.memoryWrite init a data f) s fun t =>
        t.dev.get TOP_ACCESS_CNT_COUNT 0 = min (s.dev.get TOP_ACCESS_CNT_COUNT 0 + 1) (2 ^ TOP_ACCESS_CNT_COUNT.w - 1)
        ∧ (init.val < 4 → Out.coreFault init a true ∈ t.dev.out) ∧ Frame (fieldsAt [(TOP_ACCESS_CNT_COUNT, 0)]) noKey [] s t)
  ∧ (∀ (s : State) (init : Fin 16) (a : Nat) (data : List Byte) (f : EccFind), (region a = .regs ∨ (region a = .rom ∧ s.dev.isOff a = false)
      ∨ (region a = .sram ∧ s.dev.isOff a = false ∧ shadowBase ≤ a ∧ init.val ≠ 8)) → Completes (.memoryWrite init a data f) s fun t => Still s t)
  ∧ (∀ (s : State) (init : Fin 16) (a : Nat) (data : List Byte) (f : EccFind), region a = .stone → s.dev.isOff a = false → Completes (.memoryWrite init a data f) s fun t =>
      t.dev.get STN_STATUS_WIN_WR 0 = min (s.dev.get STN_STATUS_WIN_WR 0 + 1) (2 ^ STN_STATUS_WIN_WR.w - 1) ∧ Frame (fieldsAt [(STN_STATUS_WIN_WR, 0)]) noKey [] s t)
  ∧ (∀ (s : State) (init : Fin 16) (a : Nat) (data : List Byte) (f : EccFind), (region a = .sram ∨ region a = .cap ∨ region a = .lp) → s.dev.isOff a = false →
      (region a = .sram → a < shadowBase ∨ init.val = 8) → data ≠ [] → a % unitSize a + data.length ≤ unitSize a →
      (s.dev.filling (unitOf a) = true ∨ (region a = .lp ∧ s.dev.isRsvd (unitOf a) = true)) → s.dev.on MEM_ACC_LOG_HI_ACC_EV 0 = false →
      Completes (.memoryWrite init a data f) s fun t => t.dev.get MEM_ACC_LOG_HI_ACC_EV 0 = 1 ∧ t.dev.on MEM_ACC_LOG_HI_KIND 0 = !(s.dev.filling (unitOf a))
        ∧ t.dev.get MEM_ACC_LOG_HI_WRITE 0 = 1 ∧ t.dev.get MEM_ACC_LOG_LO_ADDR_LO 0 = unitOf a % 2 ^ MEM_ACC_LOG_LO_ADDR_LO.w
        ∧ t.dev.get MEM_ACC_CNT_COUNT 0 = min (s.dev.get MEM_ACC_CNT_COUNT 0 + 1) (2 ^ MEM_ACC_CNT_COUNT.w - 1)
        ∧ Frame (regsIn [.MEM_ACC_CNT, .MEM_ACC_LOG_LO, .MEM_ACC_LOG_HI]) noKey [] s t)
  ∧ (∀ (s : State) (init : Fin 16) (a : Nat) (data : List Byte) (f : EccFind), (region a = .sram ∨ region a = .cap ∨ region a = .lp) → s.dev.isOff a = false →
      (region a = .sram → a < shadowBase ∨ init.val = 8) → a % unitSize a = 0 → data.length = unitSize a → s.dev.filling a = false →
      (region a = .lp → s.dev.isRsvd a = false) → Completes (.memoryWrite init a data f) s fun t =>
        t.mem.readBytes (s.dev.phys a) (unitSize a) = data ∧ Elsewhere (s.dev.phys a) (unitSize a) s t ∧ s.dev.phys a ∉ t.mem.poison
        ∧ t.dev.merge = s.dev.merge.filter (fun x => x.unit != a) ∧ t.mem.marked = s.mem.marked ∧ t.pending = s.pending ∧ Keeps noKey noKey [.merge] s.dev t.dev)
  ∧ (∀ (s : State) (init : Fin 16) (a u : Nat) (data : List Byte) (f : EccFind), u = unitOf a → (region a = .sram ∨ region a = .lp) → s.dev.isOff a = false →
      (region a = .sram → a < shadowBase ∨ init.val = 8) → data ≠ [] → a % unitSize a + data.length ≤ unitSize a → data.length < unitSize a → s.dev.filling u = false →
      (region a = .lp → s.dev.isRsvd u = false) → s.dev.merge.find? (fun e => e.unit == u) = none →
      (s.dev.merge.filter (fun e => e.lp == decide (region u = .lp))).length < (if region u = .lp then 16 else 4) → Completes (.memoryWrite init a data f) s fun t =>
        t.dev.merge = s.dev.merge ++ [⟨u, decide (region u = .lp), unitPart a data u (unitSize a)⟩] ∧ Frame noKey noKey [.merge] s t)
  ∧ (∀ (s : State) (init : Fin 16) (a u : Nat) (data : List Byte) (f : EccFind) (e : MergeEnt) (rest : List MergeEnt), u = unitOf a → (region a = .sram ∨ region a = .lp) → s.dev.isOff a = false →
      (region a = .sram → a < shadowBase ∨ init.val = 8) → data ≠ [] → a % unitSize a + data.length ≤ unitSize a → data.length < unitSize a → s.dev.filling u = false →
      (region a = .lp → s.dev.isRsvd u = false) → s.dev.merge.find? (fun x => x.unit == u) = none →
      s.dev.merge.filter (fun x => x.lp == decide (region u = .lp)) = e :: rest → (if region u = .lp then 16 else 4) ≤ (e :: rest).length → Completes (.memoryWrite init a data f) s fun t =>
        t.dev.merge = s.dev.merge.filter (fun x => x.unit != e.unit) ++ [⟨u, decide (region u = .lp), unitPart a data u (unitSize a)⟩])
  ∧ (∀ (s : State) (init : Fin 16) (a u : Nat) (data : List Byte) (f : EccFind) (e : MergeEnt) (b : List (Option Byte)), u = unitOf a → b = overlay e.bytes (unitPart a data u (unitSize a)) →
      (region a = .sram ∨ region a = .lp) → s.dev.isOff a = false →
      (region a = .sram → a < shadowBase ∨ init.val = 8) → data ≠ [] → a % unitSize a + data.length ≤ unitSize a → data.length < unitSize a → s.dev.filling u = false →
      (region a = .lp → s.dev.isRsvd u = false) → s.dev.merge.find? (fun x => x.unit == u) = some e → b.all (·.isSome) = false → Completes (.memoryWrite init a data f) s fun t =>
        t.dev.merge = s.dev.merge.map (fun x => if x.unit = u then { x with bytes := b } else x) ∧ Frame noKey noKey [.merge] s t)
  ∧ (∀ (s : State) (init : Fin 16) (a u : Nat) (data : List Byte) (f : EccFind) (e : MergeEnt) (b : List (Option Byte)), u = unitOf a → b = overlay e.bytes (unitPart a data u (unitSize a)) →
      (region a = .sram ∨ region a = .lp) → s.dev.isOff a = false →
      (region a = .sram → a < shadowBase ∨ init.val = 8) → data ≠ [] → a % unitSize a + data.length ≤ unitSize a → data.length < unitSize a → s.dev.filling u = false →
      (region a = .lp → s.dev.isRsvd u = false) → s.dev.merge.find? (fun x => x.unit == u) = some e → b.all (·.isSome) = true → Completes (.memoryWrite init a data f) s fun t =>
        t.mem.readBytes (s.dev.phys u) b.length = b.map (fun x => x.getD 0) ∧ Elsewhere (s.dev.phys u) b.length s t ∧ s.dev.phys u ∉ t.mem.poison
        ∧ t.dev.merge = s.dev.merge.filter (fun x => x.unit != u) ∧ t.pending = s.pending ∧ Keeps noKey noKey [.merge] s.dev t.dev)
  ∧ (∀ (s : State) (init : Fin 16) (a : Nat) (data : List Byte), region a = .cap → s.dev.isOff a = false → data ≠ [] → a % 8 + data.length ≤ 8 → data.length < 8 → s.dev.filling (unitOf a) = false →
      Completes (.memoryWrite init a data .clean) s fun t => t.mem.readBytes a data.length = data ∧ Elsewhere a data.length s t ∧ t.mem.poison = s.mem.poison
        ∧ t.pending = s.pending ∧ Keeps noKey noKey [] s.dev t.dev)
  ∧ (∀ (s : State) (init : Fin 16) (a : Nat) (data : List Byte) (f : EccFind), Completes (.memoryWrite init a data f) s fun t => t.pending = s.pending ∧ t.mem.marked = s.mem.marked
        ∧ Keeps (orKey (regsIn [.TOP_ACCESS_ADDR_LO, .TOP_ACCESS_ADDR_HI, .TOP_ACCESS_INFO, .TOP_ACCESS_CNT, .MEM_ACC_CNT, .MEM_ACC_LOG_LO, .MEM_ACC_LOG_HI, .ECC_UE_ADDR_LO, .ECC_UE_ADDR_HI,
              .ECC_UE_INFO, .ECC_UE_STATUS, .ECC_CE_CNT0, .ECC_CE_CNT1, .ECC_CE_LAST_LO, .ECC_CE_LAST_HI]) (fieldsAt [(STN_STATUS_WIN_WR, 0)]))
            (varsIn [.ceWin, .mspare, .remap]) [.merge, .ueLog, .ueSeen, .watch] s.dev t.dev)
  ∧ (∀ (s : State) (a : Nat) (f : EccFind), s.dev.merge.find? (fun e => e.unit == unitOf a) = none → Completes (.mergeFlush a f) s fun t => Still s t)
  ∧ (∀ (s : State) (a u k : Nat) (f : EccFind) (e : MergeEnt), u = unitOf a → k = s.dev.phys u → s.dev.merge.find? (fun e => e.unit == unitOf a) = some e →
      (e.bytes.all (·.isSome) = true ∨ (region u = .lp ∧ s.mem.marked.contains (granuleOf u) = false)) → Completes (.mergeFlush a f) s fun t =>
        (∀ i < e.bytes.length, t.mem.read (k + i) = (e.bytes.getD i none).getD 0) ∧ Elsewhere k e.bytes.length s t ∧ k ∉ t.mem.poison
        ∧ t.dev.merge = s.dev.merge.filter (fun x => x.unit != u) ∧ t.pending = s.pending ∧ Keeps noKey noKey [.merge] s.dev t.dev)
  ∧ (∀ (s : State) (a u k : Nat) (f : EccFind) (e : MergeEnt), u = unitOf a → k = s.dev.phys u → s.dev.merge.find? (fun e => e.unit == unitOf a) = some e → e.bytes.all (·.isSome) = false →
      (region u = .lp → s.mem.marked.contains (granuleOf u) = true) → (k ∈ s.mem.poison ∨ f = .clean) → Completes (.mergeFlush a f) s fun t =>
        (∀ i < e.bytes.length, t.mem.read (k + i) = (e.bytes.getD i none).getD (s.mem.read (k + i))) ∧ Elsewhere k e.bytes.length s t ∧ t.mem.poison = s.mem.poison
        ∧ t.dev.merge = s.dev.merge.filter (fun x => x.unit != u) ∧ t.pending = s.pending ∧ Keeps noKey noKey [.merge] s.dev t.dev)
  ∧ (∀ (s : State) (a u k : Nat) (e : MergeEnt), u = unitOf a → k = s.dev.phys u → s.dev.merge.find? (fun e => e.unit == unitOf a) = some e → e.bytes.all (·.isSome) = false →
      (region u = .lp → s.mem.marked.contains (granuleOf u) = true) → k ∉ s.mem.poison → Completes (.mergeFlush a .ce) s fun t =>
        (∀ i < e.bytes.length, t.mem.read (k + i) = (e.bytes.getD i none).getD (s.mem.read (k + i))) ∧ Elsewhere k e.bytes.length s t ∧ t.mem.poison = s.mem.poison
        ∧ t.dev.get (ceField (memCode u)) 0 = min (s.dev.get (ceField (memCode u)) 0 + 1) (2 ^ (ceField (memCode u)).w - 1)
        ∧ t.dev.get ECC_CE_LAST_LO_VALUE 0 = u % 2 ^ 32 ∧ t.dev.merge = s.dev.merge.filter (fun x => x.unit != u) ∧ t.pending = s.pending
        ∧ Keeps (orKey (fieldsAt [(ceField (memCode u), 0), (ECC_UE_STATUS_CE_EV, 0)]) (regsIn [.ECC_CE_LAST_LO, .ECC_CE_LAST_HI])) (varsIn [.ceWin]) [.merge] s.dev t.dev)
  ∧ (∀ (s : State) (a u k x : Nat) (e : MergeEnt), u = unitOf a → k = s.dev.phys u → s.dev.merge.find? (fun e => e.unit == unitOf a) = some e → e.bytes.all (·.isSome) = false →
      (region u = .lp → s.mem.marked.contains (granuleOf u) = true) → k ∉ s.mem.poison → Completes (.mergeFlush a (.ue x)) s fun t =>
        k ∈ t.mem.poison ∧ t.dev.get ECC_UE_STATUS_DEMAND_EV 0 = 1 ∧ t.dev.merge = s.dev.merge.filter (fun x => x.unit != u) ∧ t.pending = s.pending
        ∧ (s.dev.ueLog.length < 16 → t.dev.ueLog.length = s.dev.ueLog.length + 1)
        ∧ Keeps (regsIn [.ECC_UE_ADDR_LO, .ECC_UE_ADDR_HI, .ECC_UE_INFO, .ECC_UE_STATUS]) (varsIn [.mspare, .remap]) [.merge, .ueLog, .ueSeen, .watch] s.dev t.dev)
  ∧ (∀ (s : State) (a u k x : Nat) (e : MergeEnt), u = unitOf a → k = s.dev.phys u → s.dev.merge.find? (fun e => e.unit == unitOf a) = some e → e.bytes.all (·.isSome) = false →
      (region u = .lp → s.mem.marked.contains (granuleOf u) = true) → k ∉ s.mem.poison → Completes (.mergeFlush a (.aliased x)) s fun t =>
        (∀ i < e.bytes.length, t.mem.read (k + i) = (e.bytes.getD i none).getD ((decodedUnit u x).getD i 0)) ∧ Elsewhere k e.bytes.length s t ∧ k ∈ t.mem.poison
        ∧ t.dev.merge = s.dev.merge.filter (fun x => x.unit != u) ∧ t.pending = s.pending ∧ Keeps noKey noKey [.merge] s.dev t.dev)
  ∧ (∀ (s : State) (target init : Fin 31) (tg ig : Byte), s.dev.genOf target = tg.toNat → s.dev.genOf init = ig.toNat → Completes (.staleReplyDiscard target tg init ig) s fun t => Still s t)
  ∧ (∀ (s : State) (target init : Fin 31) (tg ig : Byte), (s.dev.genOf target ≠ tg.toNat ∨ s.dev.genOf init ≠ ig.toNat) → Completes (.staleReplyDiscard target tg init ig) s fun t =>
      t.dev.get TOP_DISC_REPLY 0 = min (s.dev.get TOP_DISC_REPLY 0 + 1) (2 ^ TOP_DISC_REPLY.w - 1) ∧ Frame (fieldsAt [(TOP_DISC_REPLY, 0)]) noKey [] s t)
  ∧ (∀ (s : State), Completes .dqsTrack s fun t => Still s t)
  ∧ (∀ (s : State) (code : Nat), Completes (.lpddr6TempRead code) s fun t => t.dev.v .lpTemp 0 = code ∧ Frame noKey (varsAt [(.lpTemp, 0)]) [] s t)

/-- SCRUB_VISIT of a location the scrubber skips changes nothing, but that a new scrub period begins the memory's count of corrected errors
anew. Poison, a clean word and a word with the poison syndrome are not counted; the last is poisoned unless an initiator wrote it first. A
corrected error is counted with its location, and raises CE_EV at the threshold; a management SRAM word with three in a row moves to a
spare. An uncorrectable one enters the log, or is lost when it is full, with its action: a tile's configuration is reloaded, its
coefficients fall back and restore, granules of a bitmap word are unmarked, a management SRAM word moves to a spare at its second, an LPDDR6
line outside the drain region is watched at its first; a drain region or the capture store get a POISON record; memory words are poisoned
unless written first. (Rests on R46, R264, R268, R270 to R275.) -/
def Obligations.ScrubVisits : Prop :=
  (∀ (s : State) (m : Fin 9) (loc : Nat) (f : EccFind) (race : Bool) (lane : Fin 8) (good : Bool), (s.scrubSkips m loc = true
      ∨ ((m.val = 1 ∨ m.val = 6) ∧ s.mem.poison.contains (s.dev.phys (unitOf loc)) = true) ∨ (m.val ≠ 0 ∧ f = .clean)
      ∨ (m.val ≠ 0 ∧ m.val ≠ 1 ∧ m.val ≠ 6 ∧ (match f with | .aliased _ => true | _ => false) = true)) →
      Completes (.scrubVisit m loc f race false lane good) s fun t => Still s t)
  ∧ (∀ (s : State) (m : Fin 9) (loc : Nat) (f : EccFind) (race : Bool) (lane : Fin 8) (good : Bool), s.scrubSkips m loc = true →
      Completes (.scrubVisit m loc f race true lane good) s fun t => t.dev.v .ceWin (if m.val = 3 ∨ m.val = 4 then 2 else m.val) = 0
        ∧ Frame noKey (varsAt [(.ceWin, if m.val = 3 ∨ m.val = 4 then 2 else m.val)]) [] s t)
  ∧ (∀ (s : State) (loc : Nat) (f : EccFind) (race : Bool) (lane : Fin 8) (good : Bool), s.scrubSkips 0 loc = false →
      (s.mem.poison.contains (s.dev.phys (unitOf loc)) = true ∨ f = .clean) → Completes (.scrubVisit 0 loc f race false lane good) s fun t =>
        t.dev.ceStreak = s.dev.ceStreak.filter (fun e => e.1 != unitOf loc) ∧ Frame noKey noKey [.ceStreak] s t)
  ∧ (∀ (s : State) (m : Fin 9) (loc x : Nat) (race : Bool) (lane : Fin 8) (good : Bool), s.scrubSkips m loc = false → (m.val = 0 ∨ m.val = 1 ∨ m.val = 6) →
      s.mem.poison.contains (s.dev.phys (unitOf loc)) = false → Completes (.scrubVisit m loc (.aliased x) race false lane good) s fun t =>
        (race = false → s.dev.phys (unitOf loc) ∈ t.mem.poison ∧ t.mem.readBytes (s.dev.phys (unitOf loc)) (unitSize loc) = decodedUnit loc x)
        ∧ (race = true → t.mem.poison = s.mem.poison ∧ ∀ a, t.mem.read a = s.mem.read a)
        ∧ Elsewhere (s.dev.phys (unitOf loc)) (unitSize loc) s t ∧ t.pending = s.pending ∧ Keeps noKey noKey [] s.dev t.dev)
  ∧ (∀ (s : State) (m : Fin 9) (loc g : Nat) (race wrap : Bool) (lane : Fin 8) (good : Bool), g = (if m.val = 3 ∨ m.val = 4 then 2 else m.val) → s.scrubSkips m loc = false → m.val ≠ 0 →
      ((m.val = 1 ∨ m.val = 6) → s.mem.poison.contains (s.dev.phys (unitOf loc)) = false) → Completes (.scrubVisit m loc .ce race wrap lane good) s fun t =>
        t.dev.get (ceField m) 0 = min (s.dev.get (ceField m) 0 + 1) (2 ^ (ceField m).w - 1)
        ∧ t.dev.get ECC_CE_LAST_LO_VALUE 0 = loc % 2 ^ 32 ∧ t.dev.v .ceWin g = (if wrap then 1 else s.dev.v .ceWin g + 1)
        ∧ (s.dev.get ECC_CTRL_CE_TH 0 ≠ 0 → t.dev.v .ceWin g = s.dev.get ECC_CTRL_CE_TH 0 → t.dev.get ECC_UE_STATUS_CE_EV 0 = 1)
        ∧ (t.dev.v .ceWin g ≠ s.dev.get ECC_CTRL_CE_TH 0 → t.dev.get ECC_UE_STATUS_CE_EV 0 = s.dev.get ECC_UE_STATUS_CE_EV 0)
        ∧ Frame (orKey (fieldsAt [(ceField m, 0), (ECC_UE_STATUS_CE_EV, 0)]) (regsIn [.ECC_CE_LAST_LO, .ECC_CE_LAST_HI])) (varsAt [(.ceWin, g)]) [] s t)
  ∧ (∀ (s : State) (loc u : Nat) (race : Bool) (lane : Fin 8) (good : Bool), u = unitOf loc → s.scrubSkips 0 loc = false → s.mem.poison.contains (s.dev.phys u) = false →
      Completes (.scrubVisit 0 loc .ce race false lane good) s fun t => t.dev.get ECC_CE_CNT0_MSRAM 0 = min (s.dev.get ECC_CE_CNT0_MSRAM 0 + 1) (2 ^ ECC_CE_CNT0_MSRAM.w - 1)
        ∧ t.dev.get ECC_CE_LAST_LO_VALUE 0 = loc % 2 ^ 32 ∧ t.dev.v .ceWin 0 = s.dev.v .ceWin 0 + 1
        ∧ (s.dev.ceStreak.find? (fun e => e.1 == u) = none → t.dev.ceStreak = (u, 1) :: s.dev.ceStreak.filter (fun e => e.1 != u) ∧ ∀ i, t.dev.v .mspare i = s.dev.v .mspare i)
        ∧ (s.dev.ceStreak.find? (fun e => e.1 == u) = some (u, 1) → t.dev.ceStreak = (u, 2) :: s.dev.ceStreak.filter (fun e => e.1 != u) ∧ ∀ i, t.dev.v .mspare i = s.dev.v .mspare i)
        ∧ (s.dev.ceStreak.find? (fun e => e.1 == u) = some (u, 2) → t.dev.ceStreak = s.dev.ceStreak.filter (fun e => e.1 != u)
          ∧ ((s.dev.mspareOf ((u - sramBase) / 0x10_0000) ((u - sramBase) % 0x10_0000 / 8)).isSome = false →
            (List.range 8).any (fun i => s.dev.v .mspare (8 * ((u - sramBase) / 0x10_0000) + i) == 0) = true →
            (t.dev.mspareOf ((u - sramBase) / 0x10_0000) ((u - sramBase) % 0x10_0000 / 8)).isSome = true))
        ∧ (∀ a, a < spareBase → t.mem.read a = s.mem.read a) ∧ t.pending = s.pending
        ∧ Keeps (orKey (fieldsAt [(ECC_CE_CNT0_MSRAM, 0), (ECC_UE_STATUS_CE_EV, 0)]) (regsIn [.ECC_CE_LAST_LO, .ECC_CE_LAST_HI])) (varsIn [.ceWin, .mspare]) [.ceStreak] s.dev t.dev)
  ∧ (∀ (s : State) (m : Fin 9) (loc x : Nat) (race : Bool) (lane : Fin 8) (good : Bool), s.scrubSkips m loc = false →
      ((m.val = 0 ∨ m.val = 1 ∨ m.val = 6) → s.mem.poison.contains (s.dev.phys (unitOf loc)) = false) →
      Completes (.scrubVisit m loc (.ue x) race false lane good) s fun t => t.dev.v .scrubEv 0 = 1 ∧ t.pending = s.pending
        ∧ (s.dev.ueLog.length < 16 → t.dev.ueLog.length = s.dev.ueLog.length + 1 ∧ t.dev.get ECC_UE_STATUS_COUNT 0 = s.dev.ueLog.length + 1
          ∧ (t.dev.ueLog.getLast?).map (fun e => (e.lo, e.hi, e.mem, e.demand)) = some (loc % 2 ^ 32, loc / 2 ^ 32, m.val, false))
        ∧ (16 ≤ s.dev.ueLog.length → t.dev.ueLog = s.dev.ueLog ∧ t.dev.get ECC_UE_STATUS_LOST 0 = min (s.dev.get ECC_UE_STATUS_LOST 0 + 1) (2 ^ ECC_UE_STATUS_LOST.w - 1)))
  ∧ (∀ (s : State) (loc x : Nat) (race : Bool) (lane : Fin 8) (good : Bool), s.scrubSkips 3 loc = false → s.dev.ueLog.length < 16 →
      Completes (.scrubVisit 3 loc (.ue x) race false lane good) s fun t => t.dev.get LL_EQ_STATUS_FALLBACK lane = 1 ∧ t.dev.v .eqPendRestore lane = 1 ∧ t.dev.v .eqUe lane = 1
        ∧ t.dev.ueLog = s.dev.ueLog ++ [⟨loc % 2 ^ 32, loc / 2 ^ 32, 3, false, 2⟩]
        ∧ Frame (orKey (fieldsAt [(LL_EQ_STATUS_FALLBACK, lane), (ECC_UE_STATUS_COUNT, 0)]) (regsIn [.ECC_UE_ADDR_LO, .ECC_UE_ADDR_HI, .ECC_UE_INFO]))
            (varsAt [(.eqPendRestore, lane), (.eqUe, lane), (.scrubEv, 0)]) [.ueLog] s t)
  ∧ (∀ (s : State) (loc x : Nat) (race : Bool) (lane : Fin 8), s.scrubSkips 2 loc = false → s.dev.ueLog.length < 16 → s.dev.loading (loc / 4096 % 2) = false →
      Completes (.scrubVisit 2 loc (.ue x) race false lane true) s fun t => t.dev.reloads = s.dev.reloads ++ [⟨loc / 4096 % 2, loc % 4096, none⟩]
        ∧ t.dev.ueLog = s.dev.ueLog ++ [⟨loc % 2 ^ 32, loc / 2 ^ 32, 2, false, 1⟩]
        ∧ Frame (orKey (fieldsAt [(ECC_UE_STATUS_COUNT, 0)]) (regsIn [.ECC_UE_ADDR_LO, .ECC_UE_ADDR_HI, .ECC_UE_INFO])) (varsAt [(.scrubEv, 0)]) [.ueLog, .reloads] s t)
  ∧ (∀ (s : State) (loc x : Nat) (race : Bool) (lane : Fin 8) (good : Bool), s.scrubSkips 7 loc = false → s.dev.ueLog.length < 16 →
      Completes (.scrubVisit 7 loc (.ue x) race false lane good) s fun t => (∀ k < 32, 32 * loc + k ∉ t.mem.marked) ∧ (∀ g, g / 32 ≠ loc → (g ∈ t.mem.marked ↔ g ∈ s.mem.marked))
        ∧ t.dev.ueLog = s.dev.ueLog ++ [⟨loc % 2 ^ 32, loc / 2 ^ 32, 7, false, 7⟩] ∧ (∀ a, t.mem.read a = s.mem.read a) ∧ t.pending = s.pending
        ∧ Keeps (orKey (fieldsAt [(ECC_UE_STATUS_COUNT, 0)]) (regsIn [.ECC_UE_ADDR_LO, .ECC_UE_ADDR_HI, .ECC_UE_INFO])) (varsAt [(.scrubEv, 0)]) [.ueLog] s.dev t.dev)
  ∧ (∀ (s : State) (loc x : Nat) (lane : Fin 8) (good : Bool), s.scrubSkips 6 loc = false → s.mem.poison.contains (s.dev.phys (unitOf loc)) = false → s.dev.ueLog.length < 16 →
      s.dev.hitsRegion (granuleOf loc) 1 = false → s.dev.watch = [] → Completes (.scrubVisit 6 loc (.ue x) false false lane good) s fun t =>
        t.dev.watch = [(s.dev.chanOf (unitOf loc - lpBase), s.dev.chanAddr (unitOf loc - lpBase) / 64)] ∧ s.dev.phys (unitOf loc) ∈ t.mem.poison
        ∧ t.dev.ueLog = s.dev.ueLog ++ [⟨loc % 2 ^ 32, loc / 2 ^ 32, 6, false, 6⟩] ∧ t.mem.readBytes (s.dev.phys (unitOf loc)) (unitSize loc) = decodedUnit loc x
        ∧ Elsewhere (s.dev.phys (unitOf loc)) (unitSize loc) s t ∧ t.pending = s.pending
        ∧ Keeps (orKey (fieldsAt [(ECC_UE_STATUS_COUNT, 0)]) (regsIn [.ECC_UE_ADDR_LO, .ECC_UE_ADDR_HI, .ECC_UE_INFO])) (varsAt [(.scrubEv, 0)]) [.watch, .ueLog] s.dev t.dev)
  ∧ (∀ (s : State) (loc x : Nat) (lane : Fin 8) (good : Bool), s.scrubSkips 0 loc = false → s.mem.poison.contains (s.dev.phys (unitOf loc)) = false → s.dev.ueLog.length < 16 →
      s.dev.ueSeen.contains (unitOf loc) = false → Completes (.scrubVisit 0 loc (.ue x) false false lane good) s fun t =>
        t.dev.ueSeen = unitOf loc :: s.dev.ueSeen ∧ s.dev.phys (unitOf loc) ∈ t.mem.poison ∧ t.dev.ceStreak = s.dev.ceStreak.filter (fun e => e.1 != unitOf loc)
        ∧ t.dev.ueLog = s.dev.ueLog ++ [⟨loc % 2 ^ 32, loc / 2 ^ 32, 0, false, 0⟩] ∧ t.mem.readBytes (s.dev.phys (unitOf loc)) (unitSize loc) = decodedUnit loc x
        ∧ Elsewhere (s.dev.phys (unitOf loc)) (unitSize loc) s t ∧ t.pending = s.pending
        ∧ Keeps (orKey (fieldsAt [(ECC_UE_STATUS_COUNT, 0)]) (regsIn [.ECC_UE_ADDR_LO, .ECC_UE_ADDR_HI, .ECC_UE_INFO])) (varsAt [(.scrubEv, 0)]) [.ueSeen, .ueLog, .ceStreak] s.dev t.dev)

/-- IRQ_CLAIM_READ returns a source that qualifies, of the highest priority and the lowest number among equals, and marks it claimed, and 0x1FF
when none does; IRQ_COMPLETE_WRITE ends the claim of its source; IRQ_SW_SET makes software sources pending. PRF_OVERFLOW zeroes its counter,
sets its bit and, for a core, latches the instruction's address; frozen or with the unit off it changes nothing. PRF_CLEAR zeroes every
counter and overflow bit. PRF_SNAP_ENABLE enables the snapshot ring, empty, or says in ERR why not; an enabled ring it leaves alone.
PRF_SNAPSHOT_RECORD of an enabled ring that is not full, or that overwrites, moves the write pointer on and counts the record, which lies at
the old write pointer when the ring is aligned and no unit of it is diverted; a full ring that overwrites also loses its oldest record, one
that does not loses the new one; with the ring disabled nothing changes. PRF_SNAP_RP_WRITE moves the read pointer, in whole records. (Rests
on R297, R301 to R306.) -/
def Obligations.ClaimsAndMonitors : Prop :=
  (∀ (s : State) (c : Fin 4) (n : Nat), s.dev.claimOf c = n → n ≠ 0x1FF → Completes (.irqClaimRead c) s fun t => s.dev.qualifies c n = true
      ∧ (∀ m < 256, s.dev.qualifies c m = true → s.dev.get IRQ_SRC_CFG_PRIO m ≤ s.dev.get IRQ_SRC_CFG_PRIO n)
      ∧ (∀ m < 256, s.dev.qualifies c m = true → s.dev.get IRQ_SRC_CFG_PRIO m = s.dev.get IRQ_SRC_CFG_PRIO n → n ≤ m)
      ∧ t.dev.flag .irqClaimed n = true ∧ Out.readData c (0x30504 + 16 * c) .ok n ∈ t.dev.out ∧ Frame noKey (varsAt [(.irqClaimed, n)]) [] s t)
  ∧ (∀ (s : State) (c : Fin 4), s.dev.claimOf c = 0x1FF → Completes (.irqClaimRead c) s fun t => Out.readData c (0x30504 + 16 * c) .ok 0x1FF ∈ t.dev.out ∧ Still s t)
  ∧ (∀ (s : State) (n : Fin 256), Completes (.irqCompleteWrite n) s fun t => t.dev.flag .irqClaimed n = false ∧ Frame noKey (varsAt [(.irqClaimed, n)]) [] s t)
  ∧ (∀ (s : State) (bits : BitVec 4), Completes (.irqSwSet bits) s fun t => t.dev.get IRQ_SW_PEND 0 = Nat.lor (s.dev.get IRQ_SW_PEND 0) bits.toNat % 16
      ∧ Frame (fieldsAt [(IRQ_SW_PEND, 0)]) noKey [] s t)
  ∧ (∀ (s : State) (u : Fin 6) (k : Fin 8) (pc : BitVec 64), s.dev.prfOff u = false → s.dev.on PRF_CTRL_FREEZE 0 = false → Completes (.prfOverflow u k pc) s fun t =>
      t.dev.prfCnt u k = 0 ∧ (t.dev.get PRF_OVF_OVF u).testBit k = true ∧ (u.val < 4 → t.dev.get PRF_OVF_PC_LO_PC u + 2 ^ 32 * t.dev.get PRF_OVF_PC_HI_PC u = pc.toNat)
      ∧ Frame (regsAt [(.PRF_OVF_PC_LO, u), (.PRF_OVF_PC_HI, u)]) noKey [] s t)
  ∧ (∀ (s : State) (u : Fin 6) (k : Fin 8) (pc : BitVec 64), (s.dev.prfOff u = true ∨ s.dev.on PRF_CTRL_FREEZE 0 = true) → Completes (.prfOverflow u k pc) s fun t => Still s t)
  ∧ (∀ (s : State), Completes .prfClear s fun t => (∀ u < 6, t.dev.get PRF_OVF_OVF u = 0) ∧ (∀ u < 6, t.dev.get PRF_CYC_LO_COUNT u = 0)
      ∧ (∀ i < 48, t.dev.prfCnt (i / 8) (i % 8) = 0) ∧ Frame (regsIn [.PRF_CYC_LO, .PRF_CYC_HI]) noKey [] s t)
  ∧ (∀ (s : State), s.dev.on PRF_SNAP_CTRL_EN 0 = false → s.snapErr = 0 → Completes .prfSnapEnable s fun t => t.dev.on PRF_SNAP_CTRL_EN 0 = true
      ∧ t.dev.get PRF_SNAP_WP_OFS 0 = 0 ∧ t.dev.get PRF_SNAP_RP_OFS 0 = 0 ∧ t.dev.get PRF_SNAP_STATUS_ERR 0 = 0 ∧ t.dev.v .prfSeq 0 = 0
      ∧ Frame (fieldsAt [(PRF_SNAP_CTRL_EN, 0), (PRF_SNAP_WP_OFS, 0), (PRF_SNAP_RP_OFS, 0), (PRF_SNAP_STATUS_ERR, 0)]) (varsAt [(.prfSeq, 0), (.prfLost, 0)]) [] s t)
  ∧ (∀ (s : State), s.dev.on PRF_SNAP_CTRL_EN 0 = false → s.snapErr ≠ 0 → Completes .prfSnapEnable s fun t => t.dev.get PRF_SNAP_STATUS_ERR 0 = s.snapErr
      ∧ Frame (fieldsAt [(PRF_SNAP_STATUS_ERR, 0)]) noKey [] s t)
  ∧ (∀ (s : State), s.dev.on PRF_SNAP_CTRL_EN 0 = true → Completes .prfSnapEnable s fun t => Still s t)
  ∧ (∀ (s : State) (base wp : Nat), base = s.dev.snapBase → wp = s.dev.get PRF_SNAP_WP_OFS 0 → s.dev.on PRF_SNAP_CTRL_EN 0 = true →
      ((wp + 512) % max 512 (s.dev.get PRF_SNAP_SIZE_VALUE 0) ≠ s.dev.get PRF_SNAP_RP_OFS 0 ∨ s.dev.on PRF_SNAP_CTRL_MODE 0 = true) →
      base % 512 = 0 → wp % 512 = 0 → (∀ i < 64, s.dev.phys (base + wp + 8 * i) = base + wp + 8 * i) →
      Completes .prfSnapshotRecord s fun t => t.mem.readBytes (base + wp) 512 = s.dev.snapRecord ∧ Elsewhere (base + wp) 512 s t)
  ∧ (∀ (s : State) (nx : Nat), nx = (s.dev.get PRF_SNAP_WP_OFS 0 + 512) % max 512 (s.dev.get PRF_SNAP_SIZE_VALUE 0) → s.dev.on PRF_SNAP_CTRL_EN 0 = true →
      nx ≠ s.dev.get PRF_SNAP_RP_OFS 0 → Completes .prfSnapshotRecord s fun t => t.dev.get PRF_SNAP_WP_OFS 0 = nx % 2 ^ PRF_SNAP_WP_OFS.w
        ∧ t.dev.get PRF_SNAP_STATUS_REC_EV 0 = 1 ∧ t.dev.v .prfSeq 0 = s.dev.v .prfSeq 0 + 1 ∧ t.dev.v .prfLost 0 = 0 ∧ t.pending = s.pending
        ∧ Keeps (fieldsAt [(PRF_SNAP_WP_OFS, 0), (PRF_SNAP_STATUS_REC_EV, 0)]) (varsAt [(.prfSeq, 0), (.prfLost, 0)]) [] s.dev t.dev)
  ∧ (∀ (s : State) (nx : Nat), nx = (s.dev.get PRF_SNAP_WP_OFS 0 + 512) % max 512 (s.dev.get PRF_SNAP_SIZE_VALUE 0) → s.dev.on PRF_SNAP_CTRL_EN 0 = true →
      s.dev.on PRF_SNAP_CTRL_MODE 0 = true → nx = s.dev.get PRF_SNAP_RP_OFS 0 → Completes .prfSnapshotRecord s fun t =>
        t.dev.get PRF_SNAP_WP_OFS 0 = nx % 2 ^ PRF_SNAP_WP_OFS.w
        ∧ t.dev.get PRF_SNAP_RP_OFS 0 = (nx + 512) % max 512 (s.dev.get PRF_SNAP_SIZE_VALUE 0) % 2 ^ PRF_SNAP_RP_OFS.w
        ∧ t.dev.get PRF_SNAP_STATUS_LOST 0 = min (s.dev.get PRF_SNAP_STATUS_LOST 0 + 1) (2 ^ PRF_SNAP_STATUS_LOST.w - 1) ∧ t.dev.get PRF_SNAP_STATUS_LOST_EV 0 = 1
        ∧ t.dev.get PRF_SNAP_STATUS_REC_EV 0 = 1 ∧ t.dev.v .prfSeq 0 = s.dev.v .prfSeq 0 + 1 ∧ t.dev.v .prfLost 0 = 1 ∧ t.pending = s.pending
        ∧ Keeps (fieldsAt [(PRF_SNAP_WP_OFS, 0), (PRF_SNAP_RP_OFS, 0), (PRF_SNAP_STATUS_LOST, 0), (PRF_SNAP_STATUS_LOST_EV, 0), (PRF_SNAP_STATUS_REC_EV, 0)])
            (varsAt [(.prfSeq, 0), (.prfLost, 0)]) [] s.dev t.dev)
  ∧ (∀ (s : State), s.dev.on PRF_SNAP_CTRL_EN 0 = true → s.dev.on PRF_SNAP_CTRL_MODE 0 = false →
      (s.dev.get PRF_SNAP_WP_OFS 0 + 512) % max 512 (s.dev.get PRF_SNAP_SIZE_VALUE 0) = s.dev.get PRF_SNAP_RP_OFS 0 → Completes .prfSnapshotRecord s fun t =>
        t.dev.get PRF_SNAP_STATUS_LOST 0 = min (s.dev.get PRF_SNAP_STATUS_LOST 0 + 1) (2 ^ PRF_SNAP_STATUS_LOST.w - 1) ∧ t.dev.get PRF_SNAP_STATUS_LOST_EV 0 = 1 ∧ t.dev.v .prfLost 0 = s.dev.v .prfLost 0 + 1
        ∧ Frame (fieldsAt [(PRF_SNAP_STATUS_LOST, 0), (PRF_SNAP_STATUS_LOST_EV, 0)]) (varsAt [(.prfLost, 0)]) [] s t)
  ∧ (∀ (s : State), s.dev.on PRF_SNAP_CTRL_EN 0 = false → Completes .prfSnapshotRecord s fun t => Still s t)
  ∧ (∀ (s : State) (v : Word), Completes (.prfSnapRpWrite v) s fun t => t.dev.get PRF_SNAP_RP_OFS 0 = v.toNat / 512 * 512 % 2 ^ PRF_SNAP_RP_OFS.w
      ∧ Frame (fieldsAt [(PRF_SNAP_RP_OFS, 0)]) noKey [] s t)

/-- BRM_PORT_ENABLE of a disabled port starts it, in the mode MODE begins with, at DETECT, or at LOOP if LOOP is set; of another it sets EN
only. BRM_PORT_DISABLE takes every lock; a port in ACTIVE leaves it. BRM_DETECT_PROBE in DETECT shows the terminations found, any of which
leads to TRAIN. BRM_LANE_WAIT_EXPIRY in TRAIN with a lane at marker lock leads to CAP_EXCH. BRM_CAP_RECEIVED in CAP_EXCH: a CAP the port
cannot serve or of its own role leads back to TRAIN with ROLE_ERR_EV; others are counted while equal; at the eighth, masks without a common
lane lead to TRAIN with LANE_DROP_EV, one without ACK is answered by ACK, and one with it leads to ACTIVE on the common lanes with fresh
numbers and credits. BRM_TRAIN_TIMEOUT in TRAIN or CAP_EXCH leads to DETECT, is counted, and alternates the mode under AUTO. BRM_RESTART
takes TRAIN, CAP_EXCH and ACTIVE to TRAIN in the first mode, which it also sets in DETECT. BRM_LOOP_WRITE moves a port that is not disabled
to LOOP or from it to TRAIN where the value changes; over the upstream port, of that port, it is rejected. Where nothing is said of a state,
the command changes nothing in it. (Rests on R307, R312 to R316, R318, R319, R330.) -/
def Obligations.BramblePorts : Prop :=
  (∀ (s : State) (p : Fin 3), s.dev.get BRM_PSTATUS_STATE p = 0 → Completes (.brmPortEnable p) s fun t =>
      t.dev.get BRM_PSTATUS_STATE p = (if s.dev.get BRM_PCTRL_LOOP p = 0 then 1 else 5) ∧ t.dev.get BRM_PCTRL_EN p = 1
      ∧ t.dev.on BRM_PSTATUS_COMPAT p = decide (s.dev.get BRM_PCTRL_MODE p = 2)
      ∧ Frame (fieldsAt [(BRM_PSTATUS_STATE, p), (BRM_PCTRL_EN, p), (BRM_PSTATUS_COMPAT, p)]) noKey [] s t)
  ∧ (∀ (s : State) (p : Fin 3), s.dev.get BRM_PSTATUS_STATE p ≠ 0 → Completes (.brmPortEnable p) s fun t => t.dev.get BRM_PCTRL_EN p = 1
      ∧ Frame (fieldsAt [(BRM_PCTRL_EN, p)]) noKey [] s t)
  ∧ (∀ (s : State) (p : Fin 3), s.dev.brmActive p = false → Completes (.brmPortDisable p) s fun t => t.dev.get BRM_PCTRL_EN p = 0 ∧ t.dev.get BRM_PSTATUS_STATE p = 0
      ∧ t.dev.get BRM_PSTATUS_LANE_SET p = 0 ∧ (∀ l < 2, t.dev.get BRM_LSTATUS_MARKER_LOCK (2 * p + l) = 0) ∧ (∀ l < 2, t.dev.get BRM_LSTATUS_CDR_LOCK (2 * p + l) = 0)
      ∧ Frame (orKey (regsAt [(.BRM_LSTATUS, 2 * p), (.BRM_LSTATUS, 2 * p + 1)]) (fieldsAt [(BRM_PCTRL_EN, p), (BRM_PSTATUS_STATE, p), (BRM_PSTATUS_LANE_SET, p)]))
          (varsIn [.capSame, .capAck, .mkRun, .mkSeen]) [] s t)
  ∧ (∀ (s : State) (p : Fin 3), s.dev.brmActive p = true → Completes (.brmPortDisable p) s fun t => t.dev.get BRM_PCTRL_EN p = 0 ∧ t.dev.get BRM_PSTATUS_STATE p = 0
      ∧ portLeft s.dev p t.dev ∧ (∀ l < 2, t.dev.get BRM_LSTATUS_MARKER_LOCK (2 * p + l) = 0) ∧ (∀ l < 2, t.dev.get BRM_LSTATUS_CDR_LOCK (2 * p + l) = 0)
      ∧ Frame (orKey (portKeys p) (fieldsAt [(BRM_PCTRL_EN, p)])) (varsIn [.capSame, .capAck, .mkRun, .mkSeen, .enStep, .enPar]) [.ownReqs, .brRes] s t)
  ∧ (∀ (s : State) (p : Fin 3) (t0 t1 : Bool), s.dev.get BRM_PSTATUS_STATE p = 1 → Completes (.brmDetectProbe p t0 t1) s fun t =>
      t.dev.get BRM_PSTATUS_STATE p = (if t0 || t1 then 2 else 1) ∧ t.dev.on BRM_LSTATUS_RX_DETECTED (2 * p) = t0 ∧ t.dev.on BRM_LSTATUS_RX_DETECTED (2 * p + 1) = t1
      ∧ Frame (fieldsAt [(BRM_PSTATUS_STATE, p), (BRM_LSTATUS_RX_DETECTED, 2 * p), (BRM_LSTATUS_RX_DETECTED, 2 * p + 1)]) (varsAt [(.brmSlot, p), (.brmUi, p)]) [] s t)
  ∧ (∀ (s : State) (p : Fin 3) (t0 t1 : Bool), s.dev.get BRM_PSTATUS_STATE p ≠ 1 → Completes (.brmDetectProbe p t0 t1) s fun t => Still s t)
  ∧ (∀ (s : State) (p : Fin 3), s.dev.get BRM_PSTATUS_STATE p = 2 → s.dev.brmMask p ≠ 0 → Completes (.brmLaneWaitExpiry p) s fun t => t.dev.get BRM_PSTATUS_STATE p = 3
      ∧ Frame (fieldsAt [(BRM_PSTATUS_STATE, p)]) noKey [] s t)
  ∧ (∀ (s : State) (p : Fin 3), (s.dev.get BRM_PSTATUS_STATE p ≠ 2 ∨ s.dev.brmMask p = 0) → Completes (.brmLaneWaitExpiry p) s fun t => Still s t)
  ∧ (∀ (s : State) (p : Fin 3) (b : List Byte), s.dev.get BRM_PSTATUS_STATE p ≠ 3 → Completes (.brmCapReceived p b) s fun t => Still s t)
  ∧ (∀ (s : State) (p : Fin 3) (b : List Byte), s.dev.get BRM_PSTATUS_STATE p = 3 → Completes (.brmCapReceived p b) s fun t =>
      t.dev.get BRM_PARTNER_PART p = (fb b 3 + 256 * fb b 4) % 2 ^ BRM_PARTNER_PART.w ∧ t.dev.get BRM_PARTNER_SREV p = fb b 5 % 2 ^ BRM_PARTNER_SREV.w
      ∧ t.dev.get BRM_PARTNER_VERSION p = fb b 1 % 16 ∧ t.dev.get BRM_PARTNER_CLK_LINK p = fb b 2 / 2 % 2 ∧ t.dev.get BRM_PARTNER_LOCK_MASK p = fb b 1 / 64 % 4
      ∧ t.dev.get BRM_PARTNER_ROLE p = fb b 2 / 4 % 4)
  ∧ (∀ (s : State) (p : Fin 3) (b : List Byte), s.dev.get BRM_PSTATUS_STATE p = 3 → (s.dev.capServes p b = false ∨ fb b 2 / 4 % 4 = (if p.val = 0 then 0 else 1)) →
      Completes (.brmCapReceived p b) s fun t => t.dev.get BRM_PSTATUS_STATE p = 2 ∧ t.dev.get BRM_PSTATUS_ROLE_ERR_EV p = 1
        ∧ Frame (orKey (regsAt [(.BRM_PARTNER, p)]) (fieldsAt [(BRM_PSTATUS_STATE, p), (BRM_PSTATUS_LANE_SET, p), (BRM_PSTATUS_ROLE_ERR_EV, p)])) (varsAt [(.capSame, p), (.capAck, p)]) [] s t)
  ∧ (∀ (s : State) (p : Fin 3) (b : List Byte) (n : Int), n = (if s.dev.v .capLast p = (capKey b : Nat) then s.dev.v .capSame p + 1 else 1) → s.dev.get BRM_PSTATUS_STATE p = 3 →
      s.dev.capServes p b = true → fb b 2 / 4 % 4 ≠ (if p.val = 0 then 0 else 1) → (n < 8 ∨ (Nat.land (s.dev.brmMask p) (fb b 1 / 64) ≠ 0 ∧ fb b 2 % 2 = 0)) → Completes (.brmCapReceived p b) s fun t =>
        t.dev.get BRM_PSTATUS_STATE p = 3 ∧ t.dev.v .capSame p = n ∧ t.dev.v .capLast p = (capKey b : Nat) ∧ t.dev.flag .capAck p = decide (8 ≤ n)
        ∧ Frame (regsAt [(.BRM_PARTNER, p)]) (varsAt [(.capSame, p), (.capLast, p), (.capAck, p)]) [] s t)
  ∧ (∀ (s : State) (p : Fin 3) (b : List Byte) (n : Int), n = (if s.dev.v .capLast p = (capKey b : Nat) then s.dev.v .capSame p + 1 else 1) → s.dev.get BRM_PSTATUS_STATE p = 3 →
      s.dev.capServes p b = true → fb b 2 / 4 % 4 ≠ (if p.val = 0 then 0 else 1) → 8 ≤ n → Nat.land (s.dev.brmMask p) (fb b 1 / 64) = 0 → Completes (.brmCapReceived p b) s fun t =>
        t.dev.get BRM_PSTATUS_STATE p = 2 ∧ t.dev.get BRM_PSTATUS_LANE_DROP_EV p = 1 ∧ t.dev.v .capLast p = (capKey b : Nat)
        ∧ Frame (orKey (regsAt [(.BRM_PARTNER, p)]) (fieldsAt [(BRM_PSTATUS_STATE, p), (BRM_PSTATUS_LANE_SET, p), (BRM_PSTATUS_LANE_DROP_EV, p)]))
            (varsAt [(.capSame, p), (.capLast, p), (.capAck, p)]) [] s t)
  ∧ (∀ (s : State) (p : Fin 3) (b : List Byte) (n : Int) (set_ : Nat), n = (if s.dev.v .capLast p = (capKey b : Nat) then s.dev.v .capSame p + 1 else 1) → set_ = Nat.land (s.dev.brmMask p) (fb b 1 / 64) →
      s.dev.get BRM_PSTATUS_STATE p = 3 → s.dev.capServes p b = true → fb b 2 / 4 % 4 ≠ (if p.val = 0 then 0 else 1) → 8 ≤ n → set_ ≠ 0 → fb b 2 % 2 = 1 → Completes (.brmCapReceived p b) s fun t =>
        t.dev.get BRM_PSTATUS_STATE p = 4 ∧ t.dev.get BRM_PSTATUS_LANE_SET p = set_ % 4 ∧ t.dev.flag .capAck p = true
        ∧ t.dev.on BRM_PSTATUS_LANE_DROP_EV p = (s.dev.on BRM_PSTATUS_LANE_DROP_EV p || decide (set_ ≠ ((s.dev.brmOffered p).foldl (fun a l => a + 2 ^ l) 0)))
        ∧ t.dev.v .llRxSeq p = 0 ∧ (∀ c < 3, t.dev.flag .crOn (3 * p + c) = false ∧ t.dev.v .crGotH (3 * p + c) = 0 ∧ t.dev.v .crGotD (3 * p + c) = 0)
        ∧ Frame (orKey (regsAt [(.BRM_PARTNER, p)]) (fieldsAt [(BRM_PSTATUS_STATE, p), (BRM_PSTATUS_LANE_SET, p), (BRM_PSTATUS_LANE_DROP_EV, p)]))
            (varsIn [.capSame, .capLast, .capAck, .llRxSeq, .llAcc, .llRepl, .crOn, .crGotH, .crGotD]) [] s t)
  ∧ (∀ (s : State) (p : Fin 3), (s.dev.get BRM_PSTATUS_STATE p = 2 ∨ s.dev.get BRM_PSTATUS_STATE p = 3) → Completes (.brmTrainTimeout p) s fun t =>
      t.dev.get BRM_PSTATUS_STATE p = 1 ∧ t.dev.get BRM_PSTATUS_TRAIN_TMO_EV p = 1 ∧ t.dev.get BRM_PCNT_TRAIN_TMO p = min (s.dev.get BRM_PCNT_TRAIN_TMO p + 1) (2 ^ BRM_PCNT_TRAIN_TMO.w - 1)
      ∧ t.dev.on BRM_PSTATUS_COMPAT p = ((s.dev.get BRM_PCTRL_MODE p == 0 || s.dev.get BRM_PCTRL_MODE p == 3) ^^ s.dev.on BRM_PSTATUS_COMPAT p)
      ∧ Frame (orKey (regsAt [(.BRM_LSTATUS, 2 * p), (.BRM_LSTATUS, 2 * p + 1)]) (fieldsAt [(BRM_PCNT_TRAIN_TMO, p), (BRM_PSTATUS_STATE, p), (BRM_PSTATUS_LANE_SET, p), (BRM_PSTATUS_TRAIN_TMO_EV, p),
          (BRM_PSTATUS_COMPAT, p)])) (varsIn [.capSame, .capAck, .mkRun, .mkSeen]) [] s t)
  ∧ (∀ (s : State) (p : Fin 3), s.dev.get BRM_PSTATUS_STATE p ≠ 2 → s.dev.get BRM_PSTATUS_STATE p ≠ 3 → Completes (.brmTrainTimeout p) s fun t => Still s t)
  ∧ (∀ (s : State) (p : Fin 3), (s.dev.get BRM_PSTATUS_STATE p = 2 ∨ s.dev.get BRM_PSTATUS_STATE p = 3) → Completes (.brmRestart p) s fun t => t.dev.get BRM_PSTATUS_STATE p = 2
      ∧ t.dev.on BRM_PSTATUS_COMPAT p = decide (s.dev.get BRM_PCTRL_MODE p = 2)
      ∧ Frame (fieldsAt [(BRM_PSTATUS_STATE, p), (BRM_PSTATUS_LANE_SET, p), (BRM_PSTATUS_COMPAT, p)]) (varsAt [(.capSame, p), (.capAck, p)]) [] s t)
  ∧ (∀ (s : State) (p : Fin 3), s.dev.brmActive p = true → Completes (.brmRestart p) s fun t => t.dev.get BRM_PSTATUS_STATE p = 2
      ∧ t.dev.on BRM_PSTATUS_COMPAT p = decide (s.dev.get BRM_PCTRL_MODE p = 2) ∧ portLeft s.dev p t.dev
      ∧ Frame (portKeys p) (varsIn [.capSame, .capAck, .enStep, .enPar]) [.ownReqs, .brRes] s t)
  ∧ (∀ (s : State) (p : Fin 3), s.dev.get BRM_PSTATUS_STATE p = 1 → Completes (.brmRestart p) s fun t => t.dev.on BRM_PSTATUS_COMPAT p = decide (s.dev.get BRM_PCTRL_MODE p = 2)
      ∧ Frame (fieldsAt [(BRM_PSTATUS_COMPAT, p)]) noKey [] s t)
  ∧ (∀ (s : State) (p : Fin 3), (s.dev.get BRM_PSTATUS_STATE p = 0 ∨ 5 ≤ s.dev.get BRM_PSTATUS_STATE p) → Completes (.brmRestart p) s fun t => Still s t)
  ∧ (∀ (s : State) (p : Fin 3) (loop : Fin 4) (up : Bool), s.dev.brmActive p = false → s.dev.get BRM_PSTATUS_STATE p ≠ 0 → (p.val ≠ 0 ∨ up = false) → s.dev.get BRM_PCTRL_LOOP p ≠ loop.val →
      Completes (.brmLoopWrite p loop up) s fun t => t.dev.get BRM_PCTRL_LOOP p = loop.val ∧ t.dev.get BRM_PSTATUS_STATE p = (if loop.val = 0 then 2 else 5)
        ∧ Frame (fieldsAt [(BRM_PCTRL_LOOP, p), (BRM_PSTATUS_STATE, p), (BRM_PSTATUS_LANE_SET, p)]) (varsAt [(.capSame, p), (.capAck, p)]) [] s t)
  ∧ (∀ (s : State) (p : Fin 3) (loop : Fin 4) (up : Bool), s.dev.brmActive p = true → (p.val ≠ 0 ∨ up = false) → s.dev.get BRM_PCTRL_LOOP p ≠ loop.val →
      Completes (.brmLoopWrite p loop up) s fun t => t.dev.get BRM_PCTRL_LOOP p = loop.val ∧ t.dev.get BRM_PSTATUS_STATE p = (if loop.val = 0 then 2 else 5) ∧ portLeft s.dev p t.dev
        ∧ Frame (orKey (portKeys p) (fieldsAt [(BRM_PCTRL_LOOP, p)])) (varsIn [.capSame, .capAck, .enStep, .enPar]) [.ownReqs, .brRes] s t)
  ∧ (∀ (s : State) (p : Fin 3) (loop : Fin 4) (up : Bool), (s.dev.get BRM_PSTATUS_STATE p = 0 ∨ s.dev.get BRM_PCTRL_LOOP p = loop.val) → (p.val ≠ 0 ∨ up = false) →
      Completes (.brmLoopWrite p loop up) s fun t => t.dev.get BRM_PCTRL_LOOP p = loop.val ∧ Frame (fieldsAt [(BRM_PCTRL_LOOP, p)]) noKey [] s t)
  ∧ (∀ (s : State) (loop : Fin 4), Completes (.brmLoopWrite 0 loop true) s fun t => t.dev.get BRM_PSTATUS_LOOP_REJ 0 = 1 ∧ Frame (fieldsAt [(BRM_PSTATUS_LOOP_REJ, 0)]) noKey [] s t)

/-- BRM_MARKER_RECEIVED counts its header, control-block and stuffing errors; before TRAIN nothing else. From TRAIN on it shows clock recovery
and block lock; a skewed one takes the lane's marker lock; one that does not pass is counted, and the third in a row takes the lock; the
second in a row that passes, at its distance and with no frequency hold, gives marker lock, and a port in TRAIN all of whose offered lanes
have it exchanges capabilities. BRM_LOCK_LOSS takes the lane's marker lock, and its block and clock-recovery lock as it says. Where a lane
loses marker lock, a port in ACTIVE that uses it, or in CAP_EXCH if the lane was locked, returns to TRAIN. BRM_LFREQ_UPDATE shows the
estimate and, in the PRBS loopback, counts bit errors; one beyond 0.5 ppm in NATIVE sets FREQ_ERR_EV, holds the lane and takes its lock,
another ends the hold. BRM_CLEANER_HOLDOVER of a cleaner that is locked to the upstream lane holds it, with HOLD_EV; BRM_CLEANER_LOCK locks
it to the upstream lane, not in COMPAT; otherwise they change nothing. (Rests on R309, R311, R313 to R317, R319.) -/
def Obligations.BrambleLocks : Prop :=
  (∀ (s : State) (p : Fin 3) (l : Fin 2) (b : List Byte) (spaced skewed : Bool) (hdr ctrl stuff : Nat), Completes (.brmMarkerReceived p l b spaced skewed hdr ctrl stuff) s fun t =>
      t.dev.get BRM_LCNT0_HDR_ERR (2 * p + l) = min (s.dev.get BRM_LCNT0_HDR_ERR (2 * p + l) + hdr) (2 ^ BRM_LCNT0_HDR_ERR.w - 1)
      ∧ t.dev.get BRM_LCNT0_BAD_CTRL (2 * p + l) = min (s.dev.get BRM_LCNT0_BAD_CTRL (2 * p + l) + ctrl) (2 ^ BRM_LCNT0_BAD_CTRL.w - 1)
      ∧ t.dev.get BRM_LCNT1_STUFF_ERR (2 * p + l) = min (s.dev.get BRM_LCNT1_STUFF_ERR (2 * p + l) + stuff) (2 ^ BRM_LCNT1_STUFF_ERR.w - 1)
      ∧ (2 ≤ s.dev.get BRM_PSTATUS_STATE p → t.dev.get BRM_LSTATUS_CDR_LOCK (2 * p + l) = 1 ∧ t.dev.get BRM_LSTATUS_BLOCK_LOCK (2 * p + l) = 1 ∧ t.dev.v .mkCount (2 * p + l) = (fb b 2 : Nat)))
  ∧ (∀ (s : State) (p : Fin 3) (l : Fin 2) (b : List Byte) (spaced skewed : Bool) (hdr ctrl stuff : Nat), s.dev.get BRM_PSTATUS_STATE p < 2 →
      Completes (.brmMarkerReceived p l b spaced skewed hdr ctrl stuff) s fun t =>
        Frame (fieldsAt [(BRM_LCNT0_HDR_ERR, 2 * p + l), (BRM_LCNT0_BAD_CTRL, 2 * p + l), (BRM_LCNT1_STUFF_ERR, 2 * p + l)]) noKey [] s t)
  ∧ (∀ (s : State) (p : Fin 3) (l : Fin 2) (b : List Byte) (spaced skewed : Bool) (hdr ctrl stuff : Nat) (pass : Bool),
      pass = (markerOk (decide ((s.dev.brmOffered p).length = 2)) l b && (!(s.dev.flag .mkSeen (2 * p + l)) || s.dev.v .mkCount (2 * p + l) == ((fb b 2 + 255) % 256 : Nat))) →
      2 ≤ s.dev.get BRM_PSTATUS_STATE p → (skewed = true ∨ (pass = false ∧ 2 ≤ s.dev.v .mkBad (2 * p + l))) → Completes (.brmMarkerReceived p l b spaced skewed hdr ctrl stuff) s fun t =>
        lockLost s.dev p l t.dev
        ∧ t.dev.get BRM_LCNT1_MRK_ERR (2 * p + l) = (if skewed then s.dev.get BRM_LCNT1_MRK_ERR (2 * p + l) else min (s.dev.get BRM_LCNT1_MRK_ERR (2 * p + l) + 1) (2 ^ BRM_LCNT1_MRK_ERR.w - 1))
        ∧ Frame (orKey (portKeys p) (regsAt [(.BRM_LCNT0, 2 * p + l), (.BRM_LCNT1, 2 * p + l)])) (varsIn [.mkSeen, .mkCount, .mkBad, .mkRun, .capSame, .capAck, .enStep, .enPar]) [.ownReqs, .brRes] s t)
  ∧ (∀ (s : State) (p : Fin 3) (l : Fin 2) (b : List Byte) (spaced : Bool) (hdr ctrl stuff : Nat) (pass : Bool),
      pass = (markerOk (decide ((s.dev.brmOffered p).length = 2)) l b && (!(s.dev.flag .mkSeen (2 * p + l)) || s.dev.v .mkCount (2 * p + l) == ((fb b 2 + 255) % 256 : Nat))) →
      2 ≤ s.dev.get BRM_PSTATUS_STATE p → pass = false → s.dev.v .mkBad (2 * p + l) < 2 → Completes (.brmMarkerReceived p l b spaced false hdr ctrl stuff) s fun t =>
        t.dev.get BRM_LCNT1_MRK_ERR (2 * p + l) = min (s.dev.get BRM_LCNT1_MRK_ERR (2 * p + l) + 1) (2 ^ BRM_LCNT1_MRK_ERR.w - 1)
        ∧ t.dev.v .mkBad (2 * p + l) = s.dev.v .mkBad (2 * p + l) + 1 ∧ t.dev.flag .mkRun (2 * p + l) = false
        ∧ Frame (orKey (regsAt [(.BRM_LCNT0, 2 * p + l), (.BRM_LCNT1, 2 * p + l)]) (fieldsAt [(BRM_LSTATUS_CDR_LOCK, 2 * p + l), (BRM_LSTATUS_BLOCK_LOCK, 2 * p + l)]))
            (varsAt [(.mkSeen, 2 * p + l), (.mkCount, 2 * p + l), (.mkBad, 2 * p + l), (.mkRun, 2 * p + l)]) [] s t)
  ∧ (∀ (s : State) (p : Fin 3) (l : Fin 2) (b : List Byte) (spaced : Bool) (hdr ctrl stuff : Nat) (pass lock : Bool),
      pass = (markerOk (decide ((s.dev.brmOffered p).length = 2)) l b && (!(s.dev.flag .mkSeen (2 * p + l)) || s.dev.v .mkCount (2 * p + l) == ((fb b 2 + 255) % 256 : Nat))) →
      lock = (s.dev.flag .mkRun (2 * p + l) && spaced && !(s.dev.flag .lfHold (2 * p + l))) → 2 ≤ s.dev.get BRM_PSTATUS_STATE p → pass = true →
      Completes (.brmMarkerReceived p l b spaced false hdr ctrl stuff) s fun t => t.dev.v .mkBad (2 * p + l) = 0 ∧ t.dev.flag .mkRun (2 * p + l) = true
        ∧ t.dev.on BRM_LSTATUS_MARKER_LOCK (2 * p + l) = (s.dev.on BRM_LSTATUS_MARKER_LOCK (2 * p + l) || lock)
        ∧ t.dev.on BRM_LSTATUS_DESKEWED (2 * p + l) = (s.dev.on BRM_LSTATUS_DESKEWED (2 * p + l) || lock)
        ∧ t.dev.get BRM_PSTATUS_STATE p = (if lock && s.dev.get BRM_PSTATUS_STATE p == 2 && (s.dev.brmOffered p).all (fun x => x == l.val || s.dev.on BRM_LSTATUS_MARKER_LOCK (2 * p + x)) then 3
            else s.dev.get BRM_PSTATUS_STATE p)
        ∧ Frame (orKey (regsAt [(.BRM_LCNT0, 2 * p + l), (.BRM_LCNT1, 2 * p + l), (.BRM_LSTATUS, 2 * p + l)]) (fieldsAt [(BRM_PSTATUS_STATE, p)]))
            (varsAt [(.mkSeen, 2 * p + l), (.mkCount, 2 * p + l), (.mkBad, 2 * p + l), (.mkRun, 2 * p + l)]) [] s t)
  ∧ (∀ (s : State) (p : Fin 3) (l : Fin 2) (block cdr : Bool), Completes (.brmLockLoss p l block cdr) s fun t => lockLost s.dev p l t.dev
      ∧ t.dev.on BRM_LSTATUS_BLOCK_LOCK (2 * p + l) = (!block && !cdr && s.dev.on BRM_LSTATUS_BLOCK_LOCK (2 * p + l))
      ∧ t.dev.on BRM_LSTATUS_CDR_LOCK (2 * p + l) = (!cdr && s.dev.on BRM_LSTATUS_CDR_LOCK (2 * p + l))
      ∧ Frame (portKeys p) (varsIn [.mkSeen, .mkRun, .capSame, .capAck, .enStep, .enPar]) [.ownReqs, .brRes] s t)
  ∧ (∀ (s : State) (p : Fin 3) (l : Fin 2) (ppm : Int) (prbs : Nat), Completes (.brmLfreqUpdate p l ppm prbs) s fun t => t.dev.get BRM_LFREQ_PPM (2 * p + l) = twos BRM_LFREQ_PPM.w ppm
      ∧ t.dev.get BRM_LPRBS_COUNT (2 * p + l) = (if s.dev.get BRM_PCTRL_LOOP p = 3 ∧ s.dev.get BRM_PSTATUS_STATE p = 5 then min (s.dev.get BRM_LPRBS_COUNT (2 * p + l) + prbs) (2 ^ BRM_LPRBS_COUNT.w - 1)
          else s.dev.get BRM_LPRBS_COUNT (2 * p + l))
      ∧ t.dev.flag .lfHold (2 * p + l) = (!(s.dev.on BRM_PSTATUS_COMPAT p) && decide (50 < absI ppm)))
  ∧ (∀ (s : State) (p : Fin 3) (l : Fin 2) (ppm : Int) (prbs : Nat), s.dev.on BRM_PSTATUS_COMPAT p = false → 50 < absI ppm → Completes (.brmLfreqUpdate p l ppm prbs) s fun t =>
      t.dev.get BRM_PSTATUS_FREQ_ERR_EV p = 1 ∧ lockLost s.dev p l t.dev
      ∧ Frame (orKey (portKeys p) (fieldsAt [(BRM_LFREQ_PPM, 2 * p + l), (BRM_LPRBS_COUNT, 2 * p + l)])) (varsIn [.lfHold, .mkRun, .capSame, .capAck, .enStep, .enPar]) [.ownReqs, .brRes] s t)
  ∧ (∀ (s : State) (p : Fin 3) (l : Fin 2) (ppm : Int) (prbs : Nat), (s.dev.on BRM_PSTATUS_COMPAT p = true ∨ absI ppm ≤ 50) → Completes (.brmLfreqUpdate p l ppm prbs) s fun t =>
      Frame (fieldsAt [(BRM_LFREQ_PPM, 2 * p + l), (BRM_LPRBS_COUNT, 2 * p + l)]) (varsAt [(.lfHold, 2 * p + l)]) [] s t)
  ∧ (∀ (s : State), s.dev.on BRM_CLK_SRC_NOW 0 = true → s.dev.on BRM_CLK_LOCKED 0 = true → s.dev.on BRM_CLK_HOLD 0 = false → Completes .brmCleanerHoldover s fun t =>
      t.dev.get BRM_CLK_HOLD 0 = 1 ∧ t.dev.get BRM_CLK_HOLD_EV 0 = 1 ∧ Frame (fieldsAt [(BRM_CLK_HOLD, 0), (BRM_CLK_HOLD_EV, 0)]) noKey [] s t)
  ∧ (∀ (s : State), (s.dev.on BRM_CLK_SRC_NOW 0 = false ∨ s.dev.on BRM_CLK_LOCKED 0 = false ∨ s.dev.on BRM_CLK_HOLD 0 = true) → Completes .brmCleanerHoldover s fun t => Still s t)
  ∧ (∀ (s : State), s.dev.on BRM_CLK_SRC_NOW 0 = true → s.dev.on BRM_PSTATUS_COMPAT 0 = false → Completes .brmCleanerLock s fun t =>
      t.dev.get BRM_CLK_LOCKED 0 = 1 ∧ t.dev.get BRM_CLK_HOLD 0 = 0 ∧ Frame (fieldsAt [(BRM_CLK_LOCKED, 0), (BRM_CLK_HOLD, 0)]) noKey [] s t)
  ∧ (∀ (s : State), (s.dev.on BRM_CLK_SRC_NOW 0 = false ∨ s.dev.on BRM_PSTATUS_COMPAT 0 = true) → Completes .brmCleanerLock s fun t => Still s t)

/-- ACK_RECEIVED and NAK_RECEIVED with a good CRC in ACTIVE take the packets they cover out of the replay buffer and let waiting ones go;
NAK_RECEIVED, and REPLAY_TIMEOUT, then send every unacknowledged packet of the port again, which is counted, the fourth time without
progress retraining the port instead. CREDIT_RECEIVED sets the totals of its class and lets waiting packets go: a packet alone whose class
has the credits leaves with the next SEQ and is kept for replay. BRM_ACK_TIMER acknowledges what was accepted since the last ACK. Blocks
with a bad CRC, blocks and timers of a port that is not in ACTIVE, a REPLAY_TIMEOUT with nothing unacknowledged and a BRM_ACK_TIMER with
nothing to acknowledge change nothing. (Rests on R322 to R324.) -/
def Obligations.LinkRetry : Prop :=
  (∀ (s : State) (p : Fin 3) (seq : Fin 4096) (keep : List (Nat × Nat × Pkt)), keep = s.dev.replay.filter (fun r => !(r.1 == p.val && decide (((seq.val : Int) - (r.2.1 : Nat)) % 4096 < 2048))) →
      s.dev.brmActive p = true → Completes (.ackReceived p seq true) s fun t => queuesOf (({ s.dev with replay := keep } : Dev).pump p) t.dev
        ∧ t.dev.v .llRepl p = (if keep.length < s.dev.replay.length then 0 else s.dev.v .llRepl p) ∧ (s.dev.txWait = [] → t.dev.replay = keep) ∧ Frame noKey (varsAt [(.llRepl, p)]) [] s t)
  ∧ (∀ (s : State) (p : Fin 3) (seq : Fin 4096) (ok : Bool), (ok = false ∨ s.dev.brmActive p = false) → Completes (.ackReceived p seq ok) s fun t => Still s t)
  ∧ (∀ (s : State) (p : Fin 3) (seq : Fin 4096) (d : Dev), d = s.dev.ackTo p seq → s.dev.brmActive p = true → d.replay.any (fun r => r.1 == p.val) = true → d.v .llRepl p < 3 →
      Completes (.nakReceived p seq true) s fun t => (∀ r ∈ d.replay, r.1 = p.val → Out.packet p (pktBytes r.2.2 r.2.1) ∈ t.dev.out) ∧ t.dev.replay = d.replay ∧ t.dev.txWait = d.txWait
        ∧ t.dev.tracked = d.tracked ∧ t.dev.v .llRepl p = d.v .llRepl p + 1 ∧ t.dev.get BRM_LLCNT_REPLAYS p = min (s.dev.get BRM_LLCNT_REPLAYS p + 1) (2 ^ BRM_LLCNT_REPLAYS.w - 1)
        ∧ Frame (fieldsAt [(BRM_LLCNT_REPLAYS, p)]) (varsAt [(.llRepl, p)]) [] s t)
  ∧ (∀ (s : State) (p : Fin 3) (seq : Fin 4096) (d : Dev), d = s.dev.ackTo p seq → s.dev.brmActive p = true → d.replay.any (fun r => r.1 == p.val) = true → 3 ≤ d.v .llRepl p →
      Completes (.nakReceived p seq true) s fun t => t.dev.get BRM_PSTATUS_STATE p = 2 ∧ portLeft s.dev p t.dev ∧ t.dev.v .llRepl p = 0
        ∧ Frame (portKeys p) (varsIn [.llRepl, .capSame, .capAck, .enStep, .enPar]) [.ownReqs, .brRes] s t)
  ∧ (∀ (s : State) (p : Fin 3) (seq : Fin 4096) (d : Dev), d = s.dev.ackTo p seq → s.dev.brmActive p = true → d.replay.any (fun r => r.1 == p.val) = false → Completes (.nakReceived p seq true) s fun t =>
      queuesOf d t.dev ∧ t.dev.v .llRepl p = d.v .llRepl p ∧ Frame noKey (varsAt [(.llRepl, p)]) [] s t)
  ∧ (∀ (s : State) (p : Fin 3) (seq : Fin 4096) (ok : Bool), (ok = false ∨ s.dev.brmActive p = false) → Completes (.nakReceived p seq ok) s fun t => Still s t)
  ∧ (∀ (s : State) (p : Fin 3), s.dev.brmActive p = true → s.dev.replay.any (fun r => r.1 == p.val) = true → s.dev.v .llRepl p < 3 →
      Completes (.replayTimeout p) s fun t => (∀ r ∈ s.dev.replay, r.1 = p.val → Out.packet p (pktBytes r.2.2 r.2.1) ∈ t.dev.out) ∧ t.dev.v .llRepl p = s.dev.v .llRepl p + 1 ∧ t.dev.replay = s.dev.replay
        ∧ t.dev.txWait = s.dev.txWait ∧ t.dev.get BRM_LLCNT_REPLAYS p = min (s.dev.get BRM_LLCNT_REPLAYS p + 1) (2 ^ BRM_LLCNT_REPLAYS.w - 1)
        ∧ Frame (fieldsAt [(BRM_LLCNT_REPLAYS, p)]) (varsAt [(.llRepl, p)]) [] s t)
  ∧ (∀ (s : State) (p : Fin 3), s.dev.brmActive p = true → s.dev.replay.any (fun r => r.1 == p.val) = true → 3 ≤ s.dev.v .llRepl p → Completes (.replayTimeout p) s fun t =>
      t.dev.get BRM_PSTATUS_STATE p = 2 ∧ portLeft s.dev p t.dev ∧ t.dev.v .llRepl p = 0 ∧ Frame (portKeys p) (varsIn [.llRepl, .capSame, .capAck, .enStep, .enPar]) [.ownReqs, .brRes] s t)
  ∧ (∀ (s : State) (p : Fin 3), (s.dev.brmActive p = false ∨ s.dev.replay.any (fun r => r.1 == p.val) = false) → Completes (.replayTimeout p) s fun t => Still s t)
  ∧ (∀ (s : State) (p c : Fin 3) (h u : Fin 65536) (d : Dev), d = ((s.dev.sv .crOn (3 * p + c) 1).sv .crGotH (3 * p + c) (h.val : Nat)).sv .crGotD (3 * p + c) (u.val : Nat) → s.dev.brmActive p = true →
      Completes (.creditReceived p c h u true) s fun t => t.dev.flag .crOn (3 * p + c) = true ∧ t.dev.v .crGotH (3 * p + c) = (h.val : Nat) ∧ t.dev.v .crGotD (3 * p + c) = (u.val : Nat)
      ∧ queuesOf (d.pump p) t.dev ∧ Frame noKey (varsAt [(.crOn, 3 * p + c), (.crGotH, 3 * p + c), (.crGotD, 3 * p + c)]) [] s t)
  ∧ (∀ (s : State) (p c : Fin 3) (h u : Fin 65536) (k : Pkt), s.dev.brmActive p = true → s.dev.txWait = [⟨p, none, k⟩] → pktCls k = c → s.dev.replayOk p k = true → s.dev.trackOk p k = true →
      1 ≤ ((h.val : Int) - s.dev.v .crUseH (3 * p + c)) % 65536 → (pktDataUnits k : Int) ≤ ((u.val : Int) - s.dev.v .crUseD (3 * p + c)) % 65536 → Completes (.creditReceived p c h u true) s fun t =>
        Out.packet p (pktBytes k (s.dev.v .llTxSeq p).toNat) ∈ t.dev.out ∧ t.dev.replay = s.dev.replay ++ [(p.val, (s.dev.v .llTxSeq p).toNat, k)] ∧ t.dev.txWait = []
        ∧ t.dev.v .llTxSeq p = (((s.dev.v .llTxSeq p).toNat + 1) % 4096 : Nat))
  ∧ (∀ (s : State) (p c : Fin 3) (h u : Fin 65536) (ok : Bool), (ok = false ∨ s.dev.brmActive p = false) → Completes (.creditReceived p c h u ok) s fun t => Still s t)
  ∧ (∀ (s : State) (p : Fin 3), s.dev.brmActive p = true → 0 < s.dev.v .llAcc p → Completes (.brmAckTimer p) s fun t => t.dev.v .llAcc p = 0
      ∧ Out.linkBlock p (linkBytes 0x10 0 ((s.dev.v .llRxSeq p - 1) % 4096).toNat 0) ∈ t.dev.out ∧ Frame noKey (varsAt [(.llAcc, p)]) [] s t)
  ∧ (∀ (s : State) (p : Fin 3), (s.dev.brmActive p = false ∨ s.dev.v .llAcc p ≤ 0) → Completes (.brmAckTimer p) s fun t => Still s t)

/-- CPL_RECEIVED, ENUM_OFFER_RECEIVED, IRQ_MESSAGE, TRIG_MESSAGE and TIME_MESSAGE are heard by the link layer, and one it does not take, or of
another type, does nothing more. A completion for this device answers its outstanding request; of an old generation it is discarded and
counted, without a request counted late; one for another device goes on to its port. COMPLETION_TIMEOUT of an outstanding request counts and
answers it; of none it does nothing. ENUM_START at the root numbers it 0 and enumerates, or is rejected while requests are outstanding;
elsewhere it does nothing. An offer is refused UR by the root, by a downstream port or with another CODE; a base of 64 or more takes the
number away; another numbers the device, which enumerates its subtree. Messages for another device go on to its port, without a route they
are counted. An interrupt message at the root sets the sender's bit and sends or marks its MSI-X vector; a trigger message joins the
driver's queue, or sets SEND_REJ; a time message of a numbered device goes down its active ports and acts on each domain whose source is
Bramble, and without a number it is counted. TIME_MSG_BROADCAST at the root, with TMSG_AUTO and a time event to tell, sends the domain's
time down its active ports; else it does nothing. (Rests on R229, R258, R323, R324, R326, R329, R331 to R337.) -/
def Obligations.FleetMessages : Prop :=
  (∀ (s : State) (p : Fin 3) (seq : Fin 4096) (good : Bool) (k : Pkt), Completes (.cplReceived p seq good k) s fun t => heard s.dev p seq good t.dev)
  ∧ (∀ (s : State) (p : Fin 3) (seq : Fin 4096) (good : Bool) (k : Pkt), Completes (.enumOfferReceived p seq good k) s fun t => heard s.dev p seq good t.dev)
  ∧ (∀ (s : State) (p : Fin 3) (seq : Fin 4096) (good : Bool) (k : Pkt), Completes (.irqMessage p seq good k) s fun t => heard s.dev p seq good t.dev)
  ∧ (∀ (s : State) (p : Fin 3) (seq : Fin 4096) (good : Bool) (k : Pkt), Completes (.trigMessage p seq good k) s fun t => heard s.dev p seq good t.dev)
  ∧ (∀ (s : State) (p : Fin 3) (seq : Fin 4096) (good : Bool) (k : Pkt), Completes (.timeMessage p seq good k) s fun t => heard s.dev p seq good t.dev)
  ∧ (∀ (s : State) (p : Fin 3) (seq : Fin 4096) (good : Bool) (k : Pkt), (taken s.dev p seq good = false ∨ pktIsCpl k = false) → Completes (.cplReceived p seq good k) s fun t =>
      Frame (fieldsAt [(BRM_LLCNT_RX_ERR, p)]) (varsAt [(.llRxSeq, p), (.llAcc, p)]) [] s t)
  ∧ (∀ (s : State) (p : Fin 3) (seq : Fin 4096) (good : Bool) (k : Pkt), (taken s.dev p seq good = false ∨ k.typ ≠ 4) → Completes (.enumOfferReceived p seq good k) s fun t =>
      Frame (fieldsAt [(BRM_LLCNT_RX_ERR, p)]) (varsAt [(.llRxSeq, p), (.llAcc, p)]) [] s t)
  ∧ (∀ (s : State) (p : Fin 3) (seq : Fin 4096) (good : Bool) (k : Pkt), (taken s.dev p seq good = false ∨ k.typ ≠ 3 ∨ k.code ≠ 2) → Completes (.irqMessage p seq good k) s fun t =>
      Frame (fieldsAt [(BRM_LLCNT_RX_ERR, p)]) (varsAt [(.llRxSeq, p), (.llAcc, p)]) [] s t)
  ∧ (∀ (s : State) (p : Fin 3) (seq : Fin 4096) (good : Bool) (k : Pkt), (taken s.dev p seq good = false ∨ k.typ ≠ 3 ∨ k.code ≠ 3) → Completes (.trigMessage p seq good k) s fun t =>
      Frame (fieldsAt [(BRM_LLCNT_RX_ERR, p)]) (varsAt [(.llRxSeq, p), (.llAcc, p)]) [] s t)
  ∧ (∀ (s : State) (p : Fin 3) (seq : Fin 4096) (good : Bool) (k : Pkt), (taken s.dev p seq good = false ∨ k.typ ≠ 3 ∨ k.code ≠ 4) → Completes (.timeMessage p seq good k) s fun t =>
      Frame (fieldsAt [(BRM_LLCNT_RX_ERR, p)]) (varsAt [(.llRxSeq, p), (.llAcc, p)]) [] s t)
  ∧ (∀ (s : State) (p : Fin 3) (seq : Fin 4096) (k : Pkt), taken s.dev p seq true = true → pktIsCpl k = true → k.req = s.dev.devNum → k.gen ≠ s.dev.devGen →
      Completes (.cplReceived p seq true k) s fun t => t.dev.get TOP_DISC_REPLY 0 = min (s.dev.get TOP_DISC_REPLY 0 + 1) (2 ^ TOP_DISC_REPLY.w - 1) ∧ credited s.dev p k t.dev
        ∧ Frame (fieldsAt [(TOP_DISC_REPLY, 0)]) (varsAt [(.llRxSeq, p), (.llAcc, p)]) [] s t)
  ∧ (∀ (s : State) (p : Fin 3) (seq : Fin 4096) (k : Pkt), taken s.dev p seq true = true → pktIsCpl k = true → k.req = s.dev.devNum → k.gen = s.dev.devGen →
      s.dev.ownReqs.find? (fun r => r.unit == k.unit && r.tag == k.tag) = none → Completes (.cplReceived p seq true k) s fun t =>
        t.dev.get BRM_FCNT_LATE_CPL 0 = min (s.dev.get BRM_FCNT_LATE_CPL 0 + 1) (2 ^ BRM_FCNT_LATE_CPL.w - 1) ∧ t.dev.get BRM_FSTATUS_LATE_EV 0 = 1 ∧ credited s.dev p k t.dev
        ∧ Frame (fieldsAt [(BRM_FCNT_LATE_CPL, 0), (BRM_FSTATUS_LATE_EV, 0)]) (varsAt [(.llRxSeq, p), (.llAcc, p)]) [] s t)
  ∧ (∀ (s : State) (p : Fin 3) (seq : Fin 4096) (k : Pkt) (dev : Nat), taken s.dev p seq true = true → pktIsCpl k = true → k.req = s.dev.devNum → k.gen = s.dev.devGen →
      s.dev.ownReqs.find? (fun r => r.unit == k.unit && r.tag == k.tag) = some ⟨k.unit, k.tag, dev⟩ → k.unit ≠ 2 → Completes (.cplReceived p seq true k) s fun t =>
        ownAnswered s.dev k.unit k.tag dev k.status k.data t.dev ∧ credited s.dev p k t.dev
        ∧ Frame (regsIn (if k.unit = 0 then [.PCI_STATUS, .PCI_CPL_LOG] else [])) (varsAt [(.llRxSeq, p), (.llAcc, p)]) [.brRes, .ownReqs] s t)
  ∧ (∀ (s : State) (p : Fin 3) (seq : Fin 4096) (k : Pkt) (dev : Nat), taken s.dev p seq true = true → pktIsCpl k = true → k.req = s.dev.devNum → k.gen = s.dev.devGen →
      s.dev.ownReqs.find? (fun r => r.unit == k.unit && r.tag == k.tag) = some ⟨k.unit, k.tag, dev⟩ → k.unit = 2 → Completes (.cplReceived p seq true k) s fun t =>
        ownAnswered s.dev k.unit k.tag dev k.status k.data t.dev ∧ credited s.dev p k t.dev
        ∧ Frame (regsIn [.BRM_FSTATUS, .BRM_ROUTE]) (varsAt [(.llRxSeq, p), (.llAcc, p), (.enStep, 0), (.enPar, 0)]) [.ownReqs] s t)
  ∧ (∀ (s : State) (p q : Fin 3) (seq : Fin 4096) (k : Pkt), taken s.dev p seq true = true → pktIsCpl k = true → k.req ≠ s.dev.devNum → s.dev.route k.req = .port q → Completes (.cplReceived p seq true k) s fun t =>
      sends t.dev q k ∧ Frame noKey (varsAt [(.llRxSeq, p), (.llAcc, p)]) [] s t)
  ∧ (∀ (s : State) (p : Fin 3) (seq : Fin 4096) (k : Pkt), taken s.dev p seq true = true → pktIsCpl k = true → k.req ≠ s.dev.devNum → s.dev.route k.req = .none → Completes (.cplReceived p seq true k) s fun t =>
      credited s.dev p k t.dev ∧ t.dev.txWait = s.dev.txWait ∧ Frame noKey (varsAt [(.llRxSeq, p), (.llAcc, p)]) [] s t)
  ∧ (∀ (s : State) (unit : Fin 4) (tag : Fin 1024) (dev : Nat), s.dev.ownReqs.find? (fun r => r.unit == unit.val && r.tag == tag.val) = some ⟨unit, tag, dev⟩ → unit.val ≠ 2 → Completes (.completionTimeout unit tag) s fun t =>
      ownAnswered s.dev unit tag dev 9 [] t.dev ∧ t.dev.get BRM_FCNT_TIMEOUT 0 = min (s.dev.get BRM_FCNT_TIMEOUT 0 + 1) (2 ^ BRM_FCNT_TIMEOUT.w - 1) ∧ t.dev.get BRM_FSTATUS_TMO_EV 0 = 1
      ∧ Frame (orKey (fieldsAt [(BRM_FCNT_TIMEOUT, 0), (BRM_FSTATUS_TMO_EV, 0)]) (regsIn (if unit.val = 0 then [.PCI_STATUS, .PCI_CPL_LOG] else []))) noKey [.brRes, .ownReqs] s t)
  ∧ (∀ (s : State) (tag : Fin 1024) (dev : Nat), s.dev.ownReqs.find? (fun r => r.unit == 2 && r.tag == tag.val) = some ⟨2, tag, dev⟩ → Completes (.completionTimeout 2 tag) s fun t =>
      ownAnswered s.dev 2 tag dev 9 [] t.dev ∧ t.dev.get BRM_FCNT_TIMEOUT 0 = min (s.dev.get BRM_FCNT_TIMEOUT 0 + 1) (2 ^ BRM_FCNT_TIMEOUT.w - 1) ∧ t.dev.get BRM_FSTATUS_TMO_EV 0 = 1
      ∧ Frame (orKey (fieldsAt [(BRM_FCNT_TIMEOUT, 0)]) (regsIn [.BRM_FSTATUS, .BRM_ROUTE])) (varsAt [(.enStep, 0), (.enPar, 0)]) [.ownReqs] s t)
  ∧ (∀ (s : State) (unit : Fin 4) (tag : Fin 1024), s.dev.ownReqs.any (fun r => r.unit == unit.val && r.tag == tag.val) = false → Completes (.completionTimeout unit tag) s fun t => Still s t)
  ∧ (∀ (s : State), s.dev.on BRM_FCTRL_ROOT 0 = true → s.dev.ownReqs = [] → s.dev.tracked = [] → s.dev.txWait.any (fun e => pktCls e.pkt == 1) = false → Completes .enumStart s fun t =>
      t.dev.get BRM_FSTATUS_DEVNUM 0 = 0 ∧ t.dev.get BRM_FSTATUS_NUMBERED 0 = 1 ∧ t.dev.get BRM_FSTATUS_DEPTH 0 = 0 ∧ t.dev.get BRM_ROUTE_S0 0 = 0 ∧ t.dev.get BRM_ROUTE_S1 0 = 0
      ∧ enumGoes s.dev 0 0 0 0 [1, 2] false t.dev ∧ Frame (regsIn [.BRM_FSTATUS, .BRM_ROUTE]) (varsAt [(.enStep, 0)]) [.ownReqs] s t)
  ∧ (∀ (s : State), s.dev.on BRM_FCTRL_ROOT 0 = true → (s.dev.ownReqs ≠ [] ∨ s.dev.tracked ≠ [] ∨ s.dev.txWait.any (fun e => pktCls e.pkt == 1) = true) → Completes .enumStart s fun t =>
      t.dev.get BRM_FSTATUS_ENUM_REJ 0 = 1 ∧ Frame (fieldsAt [(BRM_FSTATUS_ENUM_REJ, 0)]) noKey [] s t)
  ∧ (∀ (s : State), s.dev.on BRM_FCTRL_ROOT 0 = false → Completes .enumStart s fun t => Still s t)
  ∧ (∀ (s : State) (p : Fin 3) (seq : Fin 4096) (k : Pkt), taken s.dev p seq true = true → k.typ = 4 → (k.code ≠ 1 ∨ p.val ≠ 0 ∨ s.dev.on BRM_FCTRL_ROOT 0 = true) → Completes (.enumOfferReceived p seq true k) s fun t =>
      sends t.dev p (s.dev.cplFor k 1) ∧ credited s.dev p k t.dev ∧ Frame noKey (varsAt [(.llRxSeq, p), (.llAcc, p)]) [] s t)
  ∧ (∀ (s : State) (seq : Fin 4096) (k : Pkt), taken s.dev 0 seq true = true → k.typ = 4 → k.code = 1 → s.dev.on BRM_FCTRL_ROOT 0 = false → 64 ≤ k.data.headD 0 % 128 → Completes (.enumOfferReceived 0 seq true k) s fun t =>
      t.dev.get BRM_FSTATUS_NUMBERED 0 = 0 ∧ sends t.dev 0 (s.dev.cplFor k 1) ∧ credited s.dev 0 k t.dev ∧ Frame (fieldsAt [(BRM_FSTATUS_NUMBERED, 0)]) (varsAt [(.llRxSeq, 0), (.llAcc, 0)]) [] s t)
  ∧ (∀ (s : State) (seq : Fin 4096) (k : Pkt) (base depth : Nat), base = k.data.headD 0 % 128 → depth = k.data.headD 0 / 2 ^ 8 % 8 → taken s.dev 0 seq true = true → k.typ = 4 → k.code = 1 →
      s.dev.on BRM_FCTRL_ROOT 0 = false → base < 64 → Completes (.enumOfferReceived 0 seq true k) s fun t =>
        t.dev.get BRM_FSTATUS_DEVNUM 0 = base ∧ t.dev.get BRM_FSTATUS_DEPTH 0 = depth ∧ t.dev.get BRM_FSTATUS_NUMBERED 0 = 1 ∧ t.dev.get BRM_ROUTE_S0 0 = 0 ∧ t.dev.get BRM_ROUTE_S1 0 = 0
        ∧ t.dev.v .enParReq 0 = (k.req : Nat) ∧ t.dev.v .enParTag 0 = (k.tag : Nat) ∧ enumGoes s.dev base depth 0 0 [1, 2] true t.dev ∧ credited s.dev 0 k t.dev
        ∧ Frame (regsIn [.BRM_FSTATUS, .BRM_ROUTE]) (varsIn [.llRxSeq, .llAcc, .enStep, .enPar, .enParReq, .enParTag, .enParUnit, .enParGen]) [.ownReqs] s t)
  ∧ (∀ (s : State) (p q : Fin 3) (seq : Fin 4096) (k : Pkt), taken s.dev p seq true = true → k.typ = 3 → k.code = 2 → s.dev.route (fleetDev k.addr) = .port q → Completes (.irqMessage p seq true k) s fun t =>
      sends t.dev q k ∧ Frame noKey (varsAt [(.llRxSeq, p), (.llAcc, p)]) [] s t)
  ∧ (∀ (s : State) (p : Fin 3) (seq : Fin 4096) (k : Pkt), taken s.dev p seq true = true → k.typ = 3 → k.code = 2 → s.dev.route (fleetDev k.addr) = .none → Completes (.irqMessage p seq true k) s fun t =>
      t.dev.get BRM_FCNT2_P_REFUSED 0 = min (s.dev.get BRM_FCNT2_P_REFUSED 0 + 1) (2 ^ BRM_FCNT2_P_REFUSED.w - 1) ∧ credited s.dev p k t.dev
      ∧ Frame (fieldsAt [(BRM_FCNT2_P_REFUSED, 0)]) (varsAt [(.llRxSeq, p), (.llAcc, p)]) [] s t)
  ∧ (∀ (s : State) (p : Fin 3) (seq : Fin 4096) (k : Pkt) (sender vec : Nat), sender = k.data.headD 0 % 64 → vec = k.data.headD 0 / 2 ^ 16 % 64 → taken s.dev p seq true = true → k.typ = 3 → k.code = 2 →
      s.dev.route (fleetDev k.addr) = .here → s.dev.on BRM_FCTRL_ROOT 0 = true → Completes (.irqMessage p seq true k) s fun t =>
        (if sender < 32 then (t.dev.get BRM_FIRQ_LO_DEV 0).testBit sender else (t.dev.get BRM_FIRQ_HI_DEV 0).testBit (sender - 32)) = true ∧ credited s.dev p k t.dev
        ∧ (s.dev.v .msixTab (4 * vec + 3) % 2 = 1 → t.dev.flag .msixPba vec = true)
        ∧ (s.dev.v .msixTab (4 * vec + 3) % 2 ≠ 1 →
          Out.msix vec ((s.dev.v .msixTab (4 * vec)).toNat + (s.dev.v .msixTab (4 * vec + 1)).toNat * 2 ^ 32) (s.dev.v .msixTab (4 * vec + 2)).toNat ∈ t.dev.out)
        ∧ Frame noKey (varsAt [(.llRxSeq, p), (.llAcc, p)]) [] s t)
  ∧ (∀ (s : State) (p : Fin 3) (seq : Fin 4096) (k : Pkt), taken s.dev p seq true = true → k.typ = 3 → k.code = 2 → s.dev.route (fleetDev k.addr) = .here → s.dev.on BRM_FCTRL_ROOT 0 = false →
      Completes (.irqMessage p seq true k) s fun t => credited s.dev p k t.dev ∧ Frame noKey (varsAt [(.llRxSeq, p), (.llAcc, p)]) [] s t)
  ∧ (∀ (s : State) (p q : Fin 3) (seq : Fin 4096) (k : Pkt), taken s.dev p seq true = true → k.typ = 3 → k.code = 3 → s.dev.route (fleetDev k.addr) = .port q → Completes (.trigMessage p seq true k) s fun t =>
      sends t.dev q k ∧ Frame noKey (varsAt [(.llRxSeq, p), (.llAcc, p)]) [] s t)
  ∧ (∀ (s : State) (p : Fin 3) (seq : Fin 4096) (k : Pkt), taken s.dev p seq true = true → k.typ = 3 → k.code = 3 → s.dev.route (fleetDev k.addr) = .none → Completes (.trigMessage p seq true k) s fun t =>
      t.dev.get BRM_FCNT2_P_REFUSED 0 = min (s.dev.get BRM_FCNT2_P_REFUSED 0 + 1) (2 ^ BRM_FCNT2_P_REFUSED.w - 1) ∧ credited s.dev p k t.dev
      ∧ Frame (fieldsAt [(BRM_FCNT2_P_REFUSED, 0)]) (varsAt [(.llRxSeq, p), (.llAcc, p)]) [] s t)
  ∧ (∀ (s : State) (p : Fin 3) (seq : Fin 4096) (k : Pkt), taken s.dev p seq true = true → k.typ = 3 → k.code = 3 → s.dev.route (fleetDev k.addr) = .here → s.dev.on TRG_CTRL_ROLE 0 = true → s.dev.trigbQ.length < 4 →
      Completes (.trigMessage p seq true k) s fun t => t.dev.trigbQ = s.dev.trigbQ ++ [(0, k.data.headD 0 % 64)] ∧ credited s.dev p k t.dev ∧ Frame noKey (varsAt [(.llRxSeq, p), (.llAcc, p)]) [.trigbQ] s t)
  ∧ (∀ (s : State) (p : Fin 3) (seq : Fin 4096) (k : Pkt), taken s.dev p seq true = true → k.typ = 3 → k.code = 3 → s.dev.route (fleetDev k.addr) = .here → (s.dev.on TRG_CTRL_ROLE 0 = false ∨ 4 ≤ s.dev.trigbQ.length) →
      Completes (.trigMessage p seq true k) s fun t => t.dev.get TRG_STATUS_SEND_REJ 0 = 1 ∧ credited s.dev p k t.dev ∧ Frame (fieldsAt [(TRG_STATUS_SEND_REJ, 0)]) (varsAt [(.llRxSeq, p), (.llAcc, p)]) [] s t)
  ∧ (∀ (s : State) (p : Fin 3) (seq : Fin 4096) (k : Pkt), taken s.dev p seq true = true → k.typ = 3 → k.code = 4 → s.dev.on BRM_FSTATUS_NUMBERED 0 = false → Completes (.timeMessage p seq true k) s fun t =>
      t.dev.get BRM_FCNT2_P_REFUSED 0 = min (s.dev.get BRM_FCNT2_P_REFUSED 0 + 1) (2 ^ BRM_FCNT2_P_REFUSED.w - 1) ∧ credited s.dev p k t.dev
      ∧ Frame (fieldsAt [(BRM_FCNT2_P_REFUSED, 0)]) (varsAt [(.llRxSeq, p), (.llAcc, p)]) [] s t)
  ∧ (∀ (s : State) (p : Fin 3) (seq : Fin 4096) (k : Pkt) (x : Int), x = bitsTime (k.data.getD 1 0 + k.data.getD 2 0 * 2 ^ 32 + k.data.getD 3 0 * 2 ^ 64) → taken s.dev p seq true = true → k.typ = 3 → k.code = 4 →
      s.dev.on BRM_FSTATUS_NUMBERED 0 = true → Completes (.timeMessage p seq true k) s fun t =>
        credited s.dev p k t.dev ∧ (s.dev.brmActive 1 = true → sends t.dev 1 k) ∧ (s.dev.brmActive 2 = true → sends t.dev 2 k)
        ∧ (s.dev.get TIME_DCFG_SRC 0 = 2 → bramServed s.dev 0 (k.data.getD 0 0 % 2) x t.dev) ∧ (s.dev.get TIME_DCFG_SRC 1 = 2 → bramServed s.dev 1 (k.data.getD 0 0 % 2) x t.dev)
        ∧ (s.dev.get TIME_DCFG_SRC 0 ≠ 2 → t.dev.v .tDom 0 = s.dev.v .tDom 0 ∧ t.dev.get TIME_RATE_F 0 = s.dev.get TIME_RATE_F 0)
        ∧ (s.dev.get TIME_DCFG_SRC 1 ≠ 2 → t.dev.v .tDom 1 = s.dev.v .tDom 1 ∧ t.dev.get TIME_RATE_F 1 = s.dev.get TIME_RATE_F 1)
        ∧ Frame (orKey (regsIn [.TIME_DSTAT]) (fieldsIn [TIME_HOLD_T, TIME_BOUND_NS, TIME_RATE_F, TIME_STATUS_SLEWING, TIME_STATUS_WRAP_EV, TIME_TPO_CTRL_EN, TIME_TPO_CTRL_SKIP_EV]))
            (orKey (varsAt [(.llRxSeq, p), (.llAcc, p)]) (varsIn [.tDom, .tAct, .tHold, .tTau, .tSince, .tSp, .tSpLeft, .tpoNext, .tpoOn, .tpoEnd])) [] s t)
  ∧ (∀ (s : State) (p : Fin 3) (seq : Fin 4096) (k : Pkt), taken s.dev p seq true = true → k.typ = 3 → k.code = 4 → s.dev.on BRM_FSTATUS_NUMBERED 0 = true → s.dev.get TIME_DCFG_SRC 0 ≠ 2 → s.dev.get TIME_DCFG_SRC 1 ≠ 2 →
      Completes (.timeMessage p seq true k) s fun t => Frame noKey (varsAt [(.llRxSeq, p), (.llAcc, p)]) [] s t)
  ∧ (∀ (s : State) (j w : Nat) (k : Pkt), j = (s.dev.v .tmsgPend 0 - 1).toNat → w = timeBits (s.dev.v .busTime j) →
      k = { s.dev.message 4 0 0 with addr := 2 ^ 46, len := 4, be := 0xFF, data := [j, w % 2 ^ 32, w / 2 ^ 32 % 2 ^ 32, w / 2 ^ 64] } → s.dev.on BRM_FCTRL_ROOT 0 = true → s.dev.on BRM_FCTRL_TMSG_AUTO 0 = true →
      s.dev.v .tmsgPend 0 ≠ 0 → Completes .timeMsgBroadcast s fun t => (s.dev.brmActive 1 = true → sends t.dev 1 k) ∧ (s.dev.brmActive 2 = true → sends t.dev 2 k) ∧ t.dev.v .tmsgPend 0 = 0
        ∧ Frame noKey (varsAt [(.tmsgPend, 0)]) [] s t)
  ∧ (∀ (s : State), (s.dev.on BRM_FCTRL_ROOT 0 = false ∨ s.dev.on BRM_FCTRL_TMSG_AUTO 0 = false ∨ s.dev.v .tmsgPend 0 = 0) → Completes .timeMsgBroadcast s fun t => Still s t)

/-- REGISTER_WRITE of a whole register, READ_CLEAR and FABRIC_READ below the memories, and FABRIC_READ above them, of an unmapped address: the
access is counted and, when no event bit stands, recorded with source 6 pending; a core takes an access fault; a read returns zero with
status UNMAPPED; nothing else changes. (MEMORY_WRITE is in MemoryWrites.) (Rests on R6, R267, R287, R290, R293.) -/
def Obligations.UnmappedAccess : Prop :=
  (∀ (s : State) (init a x : Nat) (env : WrEnv), region a = .unmapped → a < sramBase → a % 4 = 0 → s.dev.userFault init a true env = false → (s.dev.isOff a = true ∨ s.dev.heldAt a = none) →
      Completes (.registerWrite a 4 x init env) s fun t => refusedAs s.dev init a true true t.dev
        ∧ (s.dev.on TOP_ACCESS_INFO_OFF_EV 0 = false → t.dev.srcPending 6 = true) ∧ Frame (regsIn refusalRegs) noKey [] s t)
  ∧ (∀ (s : State) (init a size : Nat) (env : WrEnv), region a = .unmapped → a < sramBase → a % 4 + size ≤ 4 → s.dev.userFault init a false env = false → (s.dev.isOff a = true ∨ s.dev.heldAt a = none) →
      Completes (.readClear a size init env) s fun t => refusedAs s.dev init a false true t.dev ∧ Out.readData init a .unmapped 0 ∈ t.dev.out
        ∧ (s.dev.on TOP_ACCESS_INFO_OFF_EV 0 = false → t.dev.srcPending 6 = true) ∧ Frame (regsIn refusalRegs) noKey [] s t)
  ∧ (∀ (s : State) (init a size : Nat) (find : EccFind) (env : WrEnv), region a = .unmapped → a < sramBase → a % 4 + size ≤ 4 → s.dev.userFault init a false env = false →
      (s.dev.isOff a = true ∨ s.dev.heldAt a = none) → Completes (.fabricRead init a size find env) s fun t => refusedAs s.dev init a false true t.dev ∧ Out.readData init a .unmapped 0 ∈ t.dev.out
        ∧ (s.dev.on TOP_ACCESS_INFO_OFF_EV 0 = false → t.dev.srcPending 6 = true) ∧ Frame (regsIn refusalRegs) noKey [] s t)
  ∧ (∀ (s : State) (init a size : Nat) (find : EccFind) (env : WrEnv), region a = .unmapped → sramBase ≤ a → 0 < size → a % unitSize a + size ≤ unitSize a → Completes (.fabricRead init a size find env) s fun t =>
      refusedAs s.dev init a false true t.dev ∧ Out.readData init a .unmapped 0 ∈ t.dev.out ∧ (s.dev.on TOP_ACCESS_INFO_OFF_EV 0 = false → t.dev.srcPending 6 = true)
      ∧ Frame (regsIn refusalRegs) noKey [] s t)

/-- REGISTER_WRITE: an aligned write of 32 bits to a block that is on sets the register's fields as their access types say (RW, RWS and RWL
fields take their bits, RWL ones unless locked, W1C bits written 1 clear, others stay, reserved bits are not stored), for a register whose
write does nothing else, and then acts as the register's rules say, for any other; a window's word is stored; other offsets and narrower or
misaligned writes change nothing. READ_CLEAR returns the addressed bytes of the register, and clears its RC fields where its read does
nothing else; where it does, it leaves what the register's rules say; a misaligned read, and one where nothing lies, returns zero and
changes nothing. An access in user mode faults, but for a read of the counters with UEN; one to a bunch held in reset waits at its port; one
to a block that is off is refused, a read with the bytes of 0xDEAD_0FF0. An access of 64 bits is its two halves, the lower first.
FABRIC_READ of a register is READ_CLEAR. Neither register access reaches the memories. (What the life cycle locks is the model's choice,
assumption 70.) (Rests on R6 to R9, R287, R289, R293, R296.) -/
def Obligations.RegisterAccess : Prop :=
  (∀ (s : State) (init a x : Nat) (env : WrEnv) (r : Reg) (n : Nat) (f : Fld), regFind a = some (r, n) → region a = .regs → a % 4 = 0 → s.dev.isOff a = false → s.dev.heldAt a = none →
      s.dev.userFault init a true env = false → writeActs.contains r = false → f ∈ fieldsOf r → calmField f → Completes (.registerWrite a 4 x init env) s fun t =>
        t.dev.get f n = written s.dev f n (x % 2 ^ 32)
        ∧ Frame (regsAt [(r, n)]) noKey [] s t)
  ∧ (∀ (s : State) (init a x : Nat) (env : WrEnv) (r : Reg) (n : Nat), regFind a = some (r, n) → region a = .regs → a % 4 = 0 → s.dev.isOff a = false → s.dev.heldAt a = none →
      s.dev.userFault init a true env = false → Completes (.registerWrite a 4 x init env) s fun t =>
        t = s.corePrf ((s.put (s.dev.fieldsPut r n (x % 2 ^ 32))).regAct s.dev r n (x % 2 ^ 32) false env) init a 4 env.user)
  ∧ (∀ (s : State) (init a x : Nat) (env : WrEnv) (w : Window), regFind a = none → windowAt a = some w → region a = .regs → a % 4 = 0 → s.dev.isOff a = false → s.dev.heldAt a = none →
      s.dev.userFault init a true env = false → Completes (.registerWrite a 4 x init env) s fun t =>
        (∀ j, w = .msixTab j → t.dev.v .msixTab j = ((if j % 4 = 0 then x % 2 ^ 32 / 4 * 4 else if j % 4 = 3 then x % 2 ^ 32 % 2 else x % 2 ^ 32 : Nat) : Int))
        ∧ (∀ j, w = .sloeTx j → t.dev.v .slTxBuf j = ((x % 2 ^ 32 : Nat) : Int)) ∧ (∀ j, w ≠ .msixTab j → t.dev.v .msixTab j = s.dev.v .msixTab j)
        ∧ (∀ j, w ≠ .sloeTx j → t.dev.v .slTxBuf j = s.dev.v .slTxBuf j) ∧ Frame noKey (varsIn [.msixTab, .slTxBuf]) [] s t)
  ∧ (∀ (s : State) (init a x : Nat) (env : WrEnv), regFind a = none → windowAt a = none → region a = .regs → a % 4 = 0 → s.dev.isOff a = false → s.dev.heldAt a = none →
      s.dev.userFault init a true env = false → Completes (.registerWrite a 4 x init env) s fun t => Still s t)
  ∧ (∀ (s : State) (init a size x : Nat) (env : WrEnv), a < sramBase → (s.dev.isOff a = true ∨ s.dev.heldAt a = none) → s.dev.userFault init a true env = false → size ≠ 8 → (size ≠ 4 ∨ a % 4 ≠ 0) →
      Completes (.registerWrite a size x init env) s fun t => Still s t)
  ∧ (∀ (s : State) (init a size x : Nat) (env : WrEnv), a < sramBase → size ≠ 8 → s.dev.userFault init a true env = true → Completes (.registerWrite a size x init env) s fun t =>
      Out.coreFault init a true ∈ t.dev.out ∧ Still s t)
  ∧ (∀ (s : State) (init a size x b : Nat) (env : WrEnv), a < sramBase → size ≠ 8 → s.dev.userFault init a true env = false → s.dev.isOff a = false → s.dev.heldAt a = some b →
      Completes (.registerWrite a size x init env) s fun t => t.dev.portWait = s.dev.portWait ++ [.access b init a size (x / 2 ^ 0) true env] ∧ Frame noKey noKey [.portWait] s t)
  ∧ (∀ (s : State) (init a x : Nat) (env : WrEnv), region a = .regs → a % 4 = 0 → s.dev.isOff a = true → s.dev.userFault init a true env = false → Completes (.registerWrite a 4 x init env) s fun t =>
      refusedAs s.dev init a true false t.dev ∧ Frame (regsIn refusalRegs) noKey [] s t)
  ∧ (∀ (s : State) (init a x : Nat) (env : WrEnv), a < sramBase → Completes (.registerWrite a 8 x init env) s fun t =>
      t = s.corePrf ((s.writeOne init a 4 (x / 2 ^ 0) env).writeOne init (a + 4) 4 (x / 2 ^ 32) env) init a 8 env.user)
  ∧ (∀ (s : State) (init a size x : Nat) (env : WrEnv), sramBase ≤ a → Completes (.registerWrite a size x init env) s fun t => Still s t)
  ∧ (∀ (s : State) (init a size : Nat) (env : WrEnv) (r : Reg) (n : Nat) (f : Fld), regFind (a / 4 * 4) = some (r, n) → region a = .regs → a % 4 + size ≤ 4 → s.dev.isOff a = false → s.dev.heldAt a = none →
      s.dev.userFault init a false env = false → readActs.contains r = false → f ∈ fieldsOf r → calmField f → Completes (.readClear a size init env) s fun t =>
        t.dev.get f n = (if f.acc = .rc then 0 else s.dev.get f n) ∧ Out.readData init a .ok (s.regView r n / 2 ^ (8 * (a % 4)) % 2 ^ (8 * size)) ∈ t.dev.out ∧ Frame (regsAt [(r, n)]) noKey [] s t)
  ∧ (∀ (s : State) (init a size : Nat) (env : WrEnv) (r : Reg) (n : Nat), regFind (a / 4 * 4) = some (r, n) → region a = .regs → a % 4 + size ≤ 4 → s.dev.isOff a = false → s.dev.heldAt a = none →
      s.dev.userFault init a false env = false → Completes (.readClear a size init env) s fun t => Out.readData init a .ok (s.regView r n / 2 ^ (8 * (a % 4)) % 2 ^ (8 * size)) ∈ t.dev.out
        ∧ t.mem = s.mem ∧ t.pending = s.pending ∧ Keeps noKey noKey [] (s.dev.readEffect r n) t.dev)
  ∧ (∀ (s : State) (init a size : Nat) (env : WrEnv) (v : Nat), v = ((windowAt (a / 4 * 4)).map (fun w => s.dev.winView w)).getD 0 → regFind (a / 4 * 4) = none → region a = .regs → a % 4 + size ≤ 4 →
      s.dev.isOff a = false → s.dev.heldAt a = none → s.dev.userFault init a false env = false → Completes (.readClear a size init env) s fun t =>
        Out.readData init a .ok (v / 2 ^ (8 * (a % 4)) % 2 ^ (8 * size)) ∈ t.dev.out ∧ Still s t)
  ∧ (∀ (s : State) (init a size : Nat) (env : WrEnv), a < sramBase → size ≠ 8 → 4 < a % 4 + size → (s.dev.isOff a = true ∨ s.dev.heldAt a = none) → s.dev.userFault init a false env = false →
      Completes (.readClear a size init env) s fun t => Out.readData init a .ok 0 ∈ t.dev.out ∧ Still s t)
  ∧ (∀ (s : State) (init a size : Nat) (env : WrEnv), a < sramBase → size ≠ 8 → s.dev.userFault init a false env = true → Completes (.readClear a size init env) s fun t =>
      Out.coreFault init a false ∈ t.dev.out ∧ Still s t)
  ∧ (∀ (s : State) (init a size b : Nat) (env : WrEnv), a < sramBase → size ≠ 8 → s.dev.userFault init a false env = false → s.dev.isOff a = false → s.dev.heldAt a = some b →
      Completes (.readClear a size init env) s fun t => t.dev.portWait = s.dev.portWait ++ [.access b init a size 0 false env] ∧ Frame noKey noKey [.portWait] s t)
  ∧ (∀ (s : State) (init a size : Nat) (env : WrEnv), region a = .regs → a % 4 + size ≤ 4 → s.dev.isOff a = true → s.dev.userFault init a false env = false → Completes (.readClear a size init env) s fun t =>
      refusedAs s.dev init a false false t.dev ∧ Out.readData init a .offline (0xDEAD_0FF0 / 2 ^ (8 * (a % 4)) % 2 ^ (8 * size)) ∈ t.dev.out ∧ Frame (regsIn refusalRegs) noKey [] s t)
  ∧ (∀ (s : State) (init a : Nat) (env : WrEnv), a < sramBase → Completes (.readClear a 8 init env) s fun t =>
      t = s.corePrf ((s.readOne init a 4 .clean env).readOne init (a + 4) 4 .clean env) init a 8 env.user)
  ∧ (∀ (s : State) (init a size : Nat) (env : WrEnv), sramBase ≤ a → Completes (.readClear a size init env) s fun t => Still s t)
  ∧ (∀ (s : State) (init a size : Nat) (find : EccFind) (env : WrEnv), a < sramBase → Completes (.fabricRead init a size find env) s fun t => exec (.readClear a size init env) s = .next t)

/-- FABRIC_READ of a memory, within one unit: in a memory being filled or a reserved or unmarked line of LPDDR6 it returns zero, NOTINIT or
RSVD, and is logged. A unit of management SRAM, the capture store or LPDDR6 that can be read returns its bytes; the poison pattern returns
POISON; a corrected error is counted; an uncorrectable one returns POISON, leaves the unit poisoned and is logged; an aliased one leaves it
poisoned and is not logged. A unit with a merge entry is flushed first. The Stone returns its bytes, or free values for the pages the spec
does not give, and sets UE_EV for what it cannot correct; the boot ROM its bytes, counting and logging as the others. A block that is off
returns OFFLINE and is counted. A core's POISON faults. A read over more units is done unit by unit, the worst status standing for all.
(Rests on R261, R264, R265, R267 to R269, R272 to R277, R293, R295, R347, R349.) -/
def Obligations.MemoryReads : Prop :=
  (∀ (s : State) (init a n : Nat) (find : EccFind) (env : WrEnv) (rs : RdStatus), rs = (if s.dev.filling a then .notInit else if region a = .lp ∧ s.dev.isRsvd a then .rsvd else .notInit) →
      (region a = .sram ∨ region a = .cap ∨ region a = .lp) → sramBase ≤ a → s.dev.isOff a = false → 0 < n → a % unitSize a + n ≤ unitSize a →
      (s.dev.filling a = true ∨ (region a = .lp ∧ s.dev.isRsvd a = true) ∨ (region a = .lp ∧ s.mem.marked.contains (granuleOf a) = false ∧ s.dev.merge.any (fun e => e.unit == unitOf a) = false)) →
      Completes (.fabricRead init a n find env) s fun t => Out.readData init a rs 0 ∈ t.dev.out
        ∧ t.dev.get MEM_ACC_CNT_COUNT 0 = min (s.dev.get MEM_ACC_CNT_COUNT 0 + 1) (2 ^ MEM_ACC_CNT_COUNT.w - 1) ∧ t.dev.on MEM_ACC_LOG_HI_ACC_EV 0 = true
        ∧ (s.dev.on MEM_ACC_LOG_HI_ACC_EV 0 = false → t.dev.get MEM_ACC_LOG_LO_ADDR_LO 0 = a % 2 ^ 32 ∧ t.dev.on MEM_ACC_LOG_HI_WRITE 0 = false ∧ t.dev.on MEM_ACC_LOG_HI_KIND 0 = decide (rs = .rsvd))
        ∧ Frame (regsIn [.MEM_ACC_CNT, .MEM_ACC_LOG_LO, .MEM_ACC_LOG_HI]) noKey [] s t)
  ∧ (∀ (s : State) (init a n : Nat) (find : EccFind) (env : WrEnv), (region a = .sram ∨ region a = .cap ∨ region a = .lp) → sramBase ≤ a → s.dev.isOff a = false → 0 < n → a % unitSize a + n ≤ unitSize a →
      s.dev.filling a = false → (region a = .lp → s.dev.isRsvd a = false ∧ s.mem.marked.contains (granuleOf a) = true) → s.dev.merge.any (fun e => e.unit == unitOf a) = false →
      s.mem.poison.contains (s.dev.phys (unitOf a)) = true → Completes (.fabricRead init a n find env) s fun t =>
        Out.readData init a .poison (leNat (s.mem.readBytes (s.dev.phys a) n)) ∈ t.dev.out ∧ (init < 4 → Out.coreFault init a false ∈ t.dev.out) ∧ Still s t)
  ∧ (∀ (s : State) (init a n : Nat) (env : WrEnv), (region a = .sram ∨ region a = .cap ∨ region a = .lp) → sramBase ≤ a → s.dev.isOff a = false → 0 < n → a % unitSize a + n ≤ unitSize a →
      s.dev.filling a = false → (region a = .lp → s.dev.isRsvd a = false ∧ s.mem.marked.contains (granuleOf a) = true) → s.dev.merge.any (fun e => e.unit == unitOf a) = false →
      s.mem.poison.contains (s.dev.phys (unitOf a)) = false → Completes (.fabricRead init a n .clean env) s fun t =>
        Out.readData init a .ok (leNat (s.mem.readBytes (s.dev.phys a) n)) ∈ t.dev.out ∧ Still s t)
  ∧ (∀ (s : State) (init a n : Nat) (env : WrEnv), (region a = .sram ∨ region a = .cap ∨ region a = .lp) → sramBase ≤ a → s.dev.isOff a = false → 0 < n → a % unitSize a + n ≤ unitSize a →
      s.dev.filling a = false → (region a = .lp → s.dev.isRsvd a = false ∧ s.mem.marked.contains (granuleOf a) = true) → s.dev.merge.any (fun e => e.unit == unitOf a) = false →
      s.mem.poison.contains (s.dev.phys (unitOf a)) = false → Completes (.fabricRead init a n .ce env) s fun t =>
        Out.readData init a .ok (leNat (s.mem.readBytes (s.dev.phys a) n)) ∈ t.dev.out
        ∧ t.dev.get (ceField (memCode a)) 0 = min (s.dev.get (ceField (memCode a)) 0 + 1) (2 ^ (ceField (memCode a)).w - 1)
        ∧ t.dev.get ECC_CE_LAST_LO_VALUE 0 = unitOf a % 2 ^ 32
        ∧ Frame (orKey (fieldsAt [(ceField (memCode a), 0), (ECC_UE_STATUS_CE_EV, 0)]) (regsIn [.ECC_CE_LAST_LO, .ECC_CE_LAST_HI])) (varsIn [.ceWin]) [] s t)
  ∧ (∀ (s : State) (init a n x : Nat) (env : WrEnv), (region a = .sram ∨ region a = .cap ∨ region a = .lp) → sramBase ≤ a → s.dev.isOff a = false → 0 < n → a % unitSize a + n ≤ unitSize a →
      s.dev.filling a = false → (region a = .lp → s.dev.isRsvd a = false ∧ s.mem.marked.contains (granuleOf a) = true) → s.dev.merge.any (fun e => e.unit == unitOf a) = false →
      s.mem.poison.contains (s.dev.phys (unitOf a)) = false → Completes (.fabricRead init a n (.ue x) env) s fun t =>
        Out.readData init a .poison (decodedPart a n x) ∈ t.dev.out ∧ (init < 4 → Out.coreFault init a false ∈ t.dev.out) ∧ t.mem.poison.contains (s.dev.phys (unitOf a)) = true
        ∧ t.dev.srcPending 15 = true ∧ t.dev.get ECC_UE_STATUS_DEMAND_EV 0 = 1
        ∧ (s.dev.ueLog.length < 16 → t.dev.ueLog.length = s.dev.ueLog.length + 1 ∧ t.dev.get ECC_UE_STATUS_COUNT 0 = s.dev.ueLog.length + 1
          ∧ (t.dev.ueLog.getLast?).map (fun e => (e.lo, e.hi, e.mem, e.demand)) = some (unitOf a % 2 ^ 32, unitOf a / 2 ^ 32, memCode a, true))
        ∧ (16 ≤ s.dev.ueLog.length → t.dev.ueLog = s.dev.ueLog ∧ t.dev.get ECC_UE_STATUS_LOST 0 = min (s.dev.get ECC_UE_STATUS_LOST 0 + 1) (2 ^ ECC_UE_STATUS_LOST.w - 1))
        ∧ t.pending = s.pending ∧ Keeps (regsIn [.ECC_UE_STATUS, .ECC_UE_ADDR_LO, .ECC_UE_ADDR_HI, .ECC_UE_INFO]) (varsIn [.mspare, .remap]) [.ueLog, .ueSeen, .watch] s.dev t.dev)
  ∧ (∀ (s : State) (init a n x : Nat) (env : WrEnv), (region a = .sram ∨ region a = .cap ∨ region a = .lp) → sramBase ≤ a → s.dev.isOff a = false → 0 < n → a % unitSize a + n ≤ unitSize a →
      s.dev.filling a = false → (region a = .lp → s.dev.isRsvd a = false ∧ s.mem.marked.contains (granuleOf a) = true) → s.dev.merge.any (fun e => e.unit == unitOf a) = false →
      s.mem.poison.contains (s.dev.phys (unitOf a)) = false → Completes (.fabricRead init a n (.aliased x) env) s fun t =>
        Out.readData init a .poison (decodedPart a n x) ∈ t.dev.out ∧ (init < 4 → Out.coreFault init a false ∈ t.dev.out) ∧ t.mem.poison.contains (s.dev.phys (unitOf a)) = true
        ∧ t.mem.readBytes (s.dev.phys (unitOf a)) (unitSize a) = decodedUnit a x ∧ Elsewhere (s.dev.phys (unitOf a)) (unitSize a) s t ∧ t.pending = s.pending ∧ Keeps noKey noKey [] s.dev t.dev)
  ∧ (∀ (s : State) (init a n : Nat) (find : EccFind) (env : WrEnv) (bad : Bool), bad = (s.flush (unitOf a) find).mem.poison.contains ((s.flush (unitOf a) find).dev.phys (unitOf a)) →
      (region a = .sram ∨ region a = .lp) → sramBase ≤ a → s.dev.isOff a = false → 0 < n → a % unitSize a + n ≤ unitSize a → s.dev.filling a = false →
      (region a = .lp → s.dev.isRsvd a = false ∧ (s.flush (unitOf a) find).mem.marked.contains (granuleOf a) = true) → s.dev.merge.any (fun e => e.unit == unitOf a) = true → Completes (.fabricRead init a n find env) s fun t =>
        Out.readData init a (if bad then .poison else .ok) (leNat ((s.flush (unitOf a) find).mem.readBytes ((s.flush (unitOf a) find).dev.phys a) n)) ∈ t.dev.out ∧ t.mem = (s.flush (unitOf a) find).mem ∧ t.dev.merge = (s.flush (unitOf a) find).dev.merge ∧ t.pending = s.pending
        ∧ Keeps noKey noKey [] (s.flush (unitOf a) find).dev t.dev)
  ∧ (∀ (s : State) (init a n : Nat) (find : EccFind) (env : WrEnv), region a = .lp → s.dev.isOff a = false → 0 < n → a % unitSize a + n ≤ unitSize a →
      s.dev.filling a = false → s.dev.isRsvd a = false → (s.flush (unitOf a) find).mem.marked.contains (granuleOf a) = false → s.dev.merge.any (fun e => e.unit == unitOf a) = true → Completes (.fabricRead init a n find env) s fun t =>
        Out.readData init a .notInit 0 ∈ t.dev.out ∧ t.dev.on MEM_ACC_LOG_HI_ACC_EV 0 = true ∧ t.mem = (s.flush (unitOf a) find).mem ∧ t.pending = s.pending
        ∧ Keeps (regsIn [.MEM_ACC_CNT, .MEM_ACC_LOG_LO, .MEM_ACC_LOG_HI]) noKey [] (s.flush (unitOf a) find).dev t.dev)
  ∧ (∀ (s : State) (init a n : Nat) (find : EccFind) (env : WrEnv), region a = .stone → s.dev.isOff a = false → 0 < n → a % unitSize a + n ≤ unitSize a → s.dev.stoneFree ((a - stoneBase) / 256) = true →
      Completes (.fabricRead init a n find env) s fun t => Out.readData init a .ok (s.dev.freeNat (2 ^ (8 * n))) ∈ t.dev.out ∧ t.dev.get STN_STATUS_UE_EV 0 = s.dev.get STN_STATUS_UE_EV 0
        ∧ Frame noKey noKey [.fresh] s t)
  ∧ (∀ (s : State) (init a n : Nat) (find : EccFind) (env : WrEnv), region a = .stone → s.dev.isOff a = false → 0 < n → a % unitSize a + n ≤ unitSize a → s.dev.stoneFree ((a - stoneBase) / 256) = false →
      s.mem.poison.contains (a / 8 * 8) = false → (find = .clean ∨ find = .ce) → Completes (.fabricRead init a n find env) s fun t => Out.readData init a .ok (leNat (s.mem.readBytes a n)) ∈ t.dev.out ∧ Still s t)
  ∧ (∀ (s : State) (init a n v : Nat) (find : EccFind) (env : WrEnv), v = (if s.mem.poison.contains (a / 8 * 8) then leNat (s.mem.readBytes a n) else match find with
        | .ue x => decodedPart a n x
        | .aliased x => decodedPart a n x
        | _ => 0) → region a = .stone → s.dev.isOff a = false → 0 < n → a % unitSize a + n ≤ unitSize a → s.dev.stoneFree ((a - stoneBase) / 256) = false →
      (s.mem.poison.contains (a / 8 * 8) = true ∨ (find ≠ .clean ∧ find ≠ .ce)) → Completes (.fabricRead init a n find env) s fun t => Out.readData init a .poison v ∈ t.dev.out
        ∧ (init < 4 → Out.coreFault init a false ∈ t.dev.out) ∧ t.dev.get STN_STATUS_UE_EV 0 = 1 ∧ Frame (fieldsAt [(STN_STATUS_UE_EV, 0)]) noKey [] s t)
  ∧ (∀ (s : State) (init a n : Nat) (env : WrEnv), region a = .rom → s.dev.isOff a = false → 0 < n → a % unitSize a + n ≤ unitSize a → Completes (.fabricRead init a n .clean env) s fun t =>
      Out.readData init a .ok (leNat ((List.range n).map (fun i => Config.romByte (a + i - 0x6000_0000)))) ∈ t.dev.out ∧ Still s t)
  ∧ (∀ (s : State) (init a n : Nat) (env : WrEnv), region a = .rom → s.dev.isOff a = false → 0 < n → a % unitSize a + n ≤ unitSize a → Completes (.fabricRead init a n .ce env) s fun t =>
      Out.readData init a .ok (leNat ((List.range n).map (fun i => Config.romByte (a + i - 0x6000_0000)))) ∈ t.dev.out
      ∧ t.dev.get (ceField 8) 0 = min (s.dev.get (ceField 8) 0 + 1) (2 ^ (ceField 8).w - 1)
      ∧ Frame (orKey (fieldsAt [(ceField 8, 0), (ECC_UE_STATUS_CE_EV, 0)]) (regsIn [.ECC_CE_LAST_LO, .ECC_CE_LAST_HI])) (varsIn [.ceWin]) [] s t)
  ∧ (∀ (s : State) (init a n x : Nat) (env : WrEnv), region a = .rom → s.dev.isOff a = false → 0 < n → a % unitSize a + n ≤ unitSize a → Completes (.fabricRead init a n (.ue x) env) s fun t =>
      Out.readData init a .poison (decodedPart a n x) ∈ t.dev.out ∧ (init < 4 → Out.coreFault init a false ∈ t.dev.out) ∧ t.dev.get ECC_UE_STATUS_DEMAND_EV 0 = 1
      ∧ Frame (regsIn [.ECC_UE_STATUS, .ECC_UE_ADDR_LO, .ECC_UE_ADDR_HI, .ECC_UE_INFO]) noKey [.ueLog] s t)
  ∧ (∀ (s : State) (init a n x : Nat) (env : WrEnv), region a = .rom → s.dev.isOff a = false → 0 < n → a % unitSize a + n ≤ unitSize a → Completes (.fabricRead init a n (.aliased x) env) s fun t =>
      Out.readData init a .poison (decodedPart a n x) ∈ t.dev.out ∧ (init < 4 → Out.coreFault init a false ∈ t.dev.out) ∧ Still s t)
  ∧ (∀ (s : State) (init a n : Nat) (find : EccFind) (env : WrEnv), region a ≠ .unmapped → sramBase ≤ a → s.dev.isOff a = true → 0 < n → a % unitSize a + n ≤ unitSize a → Completes (.fabricRead init a n find env) s fun t =>
      refusedAs s.dev init a false false t.dev ∧ Out.readData init a .offline (0xDEAD_0FF0 % 2 ^ (8 * n)) ∈ t.dev.out ∧ Frame (regsIn refusalRegs) noKey [] s t)
  ∧ (∀ (s : State) (init a n : Nat) (find : EccFind) (env : WrEnv) (r : State × RdStatus × Nat), r = s.memRead init a n find → sramBase ≤ a → Completes (.fabricRead init a n find env) s fun t =>
      Out.readData init a r.2.1 r.2.2 ∈ t.dev.out ∧ t.mem = r.1.mem ∧ t.pending = r.1.pending ∧ Keeps noKey noKey [] r.1.dev t.dev)

/-- MRD_RECEIVED and MWR_RECEIVED are heard by the link layer; what it does not take, or another type, does nothing more. On a device without a
number, or against R326, a read is refused UR and a write counted. One for another device goes on to its port; without a route a read is
refused UR and a write counted. A request for a bunch held in reset waits at its port. Else the device serves it: a read of one dword of a
register returns its enabled bytes in a completion, any read the data and the worst status of its dwords; a whole write of a register whose
write does nothing else sets its fields, a narrower one changes nothing. A broadcast goes up to the root, and from there down every active
port, being served on the way down. BUNCH_SHADOW_RELOAD_DONE of a bunch in reload gives its decoders, slots and host lanes what the seed
says and serves what waited; of another it does nothing. (Which way a broadcast takes is the model's choice, assumption 38.) (Rests on R45,
R168, R295, R296, R321, R323, R324, R326 to R328, R333.) -/
def Obligations.PacketRequests : Prop :=
  (∀ (s : State) (p : Fin 3) (seq : Fin 4096) (good : Bool) (k : Pkt) (find : EccFind) (env : WrEnv), (taken s.dev p seq good = false ∨ k.typ ≠ 1) → Completes (.mrdReceived p seq good k find env) s fun t =>
      heard s.dev p seq good t.dev ∧ Frame (fieldsAt [(BRM_LLCNT_RX_ERR, p)]) (varsAt [(.llRxSeq, p), (.llAcc, p)]) [] s t)
  ∧ (∀ (s : State) (p : Fin 3) (seq : Fin 4096) (good : Bool) (k : Pkt) (env : WrEnv), (taken s.dev p seq good = false ∨ k.typ ≠ 2) → Completes (.mwrReceived p seq good k env) s fun t =>
      heard s.dev p seq good t.dev ∧ Frame (fieldsAt [(BRM_LLCNT_RX_ERR, p)]) (varsAt [(.llRxSeq, p), (.llAcc, p)]) [] s t)
  ∧ (∀ (s : State) (p : Fin 3) (seq : Fin 4096) (k : Pkt) (find : EccFind) (env : WrEnv), taken s.dev p seq true = true → k.typ = 1 → (s.dev.on BRM_FSTATUS_NUMBERED 0 = false ∨ pktBad k = true ∨ s.dev.route (fleetDev k.addr) = .none) →
      Completes (.mrdReceived p seq true k find env) s fun t => heard s.dev p seq true t.dev ∧ sends t.dev p (s.dev.cplFor k 1) ∧ credited s.dev p k t.dev ∧ Frame noKey (varsAt [(.llRxSeq, p), (.llAcc, p)]) [] s t)
  ∧ (∀ (s : State) (p q : Fin 3) (seq : Fin 4096) (k : Pkt) (find : EccFind) (env : WrEnv), taken s.dev p seq true = true → k.typ = 1 → s.dev.on BRM_FSTATUS_NUMBERED 0 = true → pktBad k = false →
      s.dev.route (fleetDev k.addr) = .port q → Completes (.mrdReceived p seq true k find env) s fun t => heard s.dev p seq true t.dev ∧ sends t.dev q k ∧ Frame noKey (varsAt [(.llRxSeq, p), (.llAcc, p)]) [] s t)
  ∧ (∀ (s : State) (p : Fin 3) (seq : Fin 4096) (k : Pkt) (find : EccFind) (env : WrEnv) (b : Nat), taken s.dev p seq true = true → k.typ = 1 → s.dev.on BRM_FSTATUS_NUMBERED 0 = true → pktBad k = false →
      s.dev.route (fleetDev k.addr) = .here → s.dev.isOff (k.addr % 2 ^ 40) = false → s.dev.heldAt (k.addr % 2 ^ 40) = some b → Completes (.mrdReceived p seq true k find env) s fun t =>
        heard s.dev p seq true t.dev ∧ t.dev.portWait = s.dev.portWait ++ [.packet b (.port p) k env] ∧ Frame noKey (varsAt [(.llRxSeq, p), (.llAcc, p)]) [.portWait] s t)
  ∧ (∀ (s : State) (p q : Fin 3) (seq : Fin 4096) (k : Pkt) (find : EccFind) (env : WrEnv) (d : Dev) (x : State × RdStatus × List Nat), d = (s.dev.linkAccept p seq true).1 →
      x = ((s.put d).put ((s.put d).dev.giveBack p k)).pktRead 7 k find → taken s.dev p seq true = true → k.typ = 1 → s.dev.on BRM_FSTATUS_NUMBERED 0 = true → pktBad k = false → s.dev.route (fleetDev k.addr) = .here →
      (s.dev.isOff (k.addr % 2 ^ 40) = true ∨ s.dev.heldAt (k.addr % 2 ^ 40) = none) → s.dev.route k.req = .port q → Completes (.mrdReceived p seq true k find env) s fun t =>
        heard s.dev p seq true t.dev ∧ credited s.dev p k t.dev ∧ sends t.dev q (s.dev.cpldFor k (statusCode x.2.1) x.2.2) ∧ t.mem = x.1.mem ∧ t.pending = s.pending ∧ Keeps noKey noKey [] x.1.dev t.dev)
  ∧ (∀ (s : State) (p q : Fin 3) (seq : Fin 4096) (k : Pkt) (find : EccFind) (env : WrEnv) (r : Reg) (m a : Nat), a = k.addr % 2 ^ 40 → taken s.dev p seq true = true → k.typ = 1 → k.len = 1 → k.be < 16 →
      s.dev.on BRM_FSTATUS_NUMBERED 0 = true → pktBad k = false → s.dev.route (fleetDev k.addr) = .here → a % 4 = 0 → regFind a = some (r, m) → region a = .regs → s.dev.isOff a = false → s.dev.heldAt a = none →
      readActs.contains r = false → (fieldsOf r).all (fun f => f.acc != .rc) = true → s.dev.route k.req = .port q → Completes (.mrdReceived p seq true k find env) s fun t =>
        sends t.dev q (s.dev.cpldFor k 0 [beMask k.be (s.regView r m % 2 ^ 32)]) ∧ credited s.dev p k t.dev ∧ Frame noKey (varsAt [(.llRxSeq, p), (.llAcc, p)]) [] s t)
  ∧ (∀ (s : State) (p : Fin 3) (seq : Fin 4096) (k : Pkt) (env : WrEnv), taken s.dev p seq true = true → k.typ = 2 →
      (s.dev.on BRM_FSTATUS_NUMBERED 0 = false ∨ pktBad k = true ∨ (pktBroadcast k = false ∧ s.dev.route (fleetDev k.addr) = .none)) → Completes (.mwrReceived p seq true k env) s fun t =>
        heard s.dev p seq true t.dev ∧ t.dev.get BRM_FCNT2_P_REFUSED 0 = min (s.dev.get BRM_FCNT2_P_REFUSED 0 + 1) (2 ^ BRM_FCNT2_P_REFUSED.w - 1) ∧ credited s.dev p k t.dev
        ∧ Frame (fieldsAt [(BRM_FCNT2_P_REFUSED, 0)]) (varsAt [(.llRxSeq, p), (.llAcc, p)]) [] s t)
  ∧ (∀ (s : State) (p q : Fin 3) (seq : Fin 4096) (k : Pkt) (env : WrEnv), taken s.dev p seq true = true → k.typ = 2 → s.dev.on BRM_FSTATUS_NUMBERED 0 = true → pktBad k = false → pktBroadcast k = false →
      s.dev.route (fleetDev k.addr) = .port q → Completes (.mwrReceived p seq true k env) s fun t => heard s.dev p seq true t.dev ∧ sends t.dev q k ∧ Frame noKey (varsAt [(.llRxSeq, p), (.llAcc, p)]) [] s t)
  ∧ (∀ (s : State) (p : Fin 3) (seq : Fin 4096) (k : Pkt) (env : WrEnv), taken s.dev p seq true = true → k.typ = 2 → s.dev.on BRM_FSTATUS_NUMBERED 0 = true → pktBad k = false → pktBroadcast k = true →
      p.val ≠ 0 → s.dev.on BRM_FCTRL_ROOT 0 = false → Completes (.mwrReceived p seq true k env) s fun t => heard s.dev p seq true t.dev ∧ sends t.dev 0 k ∧ Frame noKey (varsAt [(.llRxSeq, p), (.llAcc, p)]) [] s t)
  ∧ (∀ (s : State) (p : Fin 3) (seq : Fin 4096) (k : Pkt) (env : WrEnv) (d : Dev), d = (s.dev.linkAccept p seq true).1 → taken s.dev p seq true = true → k.typ = 2 → s.dev.on BRM_FSTATUS_NUMBERED 0 = true → pktBad k = false →
      pktBroadcast k = true → (p.val = 0 ∨ s.dev.on BRM_FCTRL_ROOT 0 = true) → Completes (.mwrReceived p seq true k env) s fun t =>
        t = (s.put (d.sendDown k)).serve (.port p) k .clean env ∧ (s.dev.brmActive 1 = true → sends (d.sendDown k) 1 k) ∧ (s.dev.brmActive 2 = true → sends (d.sendDown k) 2 k))
  ∧ (∀ (s : State) (p : Fin 3) (seq : Fin 4096) (k : Pkt) (env : WrEnv) (b : Nat), taken s.dev p seq true = true → k.typ = 2 → s.dev.on BRM_FSTATUS_NUMBERED 0 = true → pktBad k = false → pktBroadcast k = false →
      s.dev.route (fleetDev k.addr) = .here → s.dev.isOff (k.addr % 2 ^ 40) = false → s.dev.heldAt (k.addr % 2 ^ 40) = some b → Completes (.mwrReceived p seq true k env) s fun t =>
        t.dev.portWait = s.dev.portWait ++ [.packet b (.port p) k env] ∧ Frame noKey (varsAt [(.llRxSeq, p), (.llAcc, p)]) [.portWait] s t)
  ∧ (∀ (s : State) (p : Fin 3) (seq : Fin 4096) (k : Pkt) (env : WrEnv) (d : Dev), d = (s.dev.linkAccept p seq true).1 → taken s.dev p seq true = true → k.typ = 2 → s.dev.on BRM_FSTATUS_NUMBERED 0 = true → pktBad k = false →
      pktBroadcast k = false → s.dev.route (fleetDev k.addr) = .here → (s.dev.isOff (k.addr % 2 ^ 40) = true ∨ s.dev.heldAt (k.addr % 2 ^ 40) = none) → Completes (.mwrReceived p seq true k env) s fun t =>
        t = ((s.put d).put ((s.put d).dev.giveBack p k)).pktWrite 7 k (p.val == 0) env)
  ∧ (∀ (s : State) (p : Fin 3) (seq : Fin 4096) (k : Pkt) (env : WrEnv) (r : Reg) (m a : Nat) (f : Fld), a = k.addr % 2 ^ 40 → taken s.dev p seq true = true → k.typ = 2 → k.len = 1 → k.be = 15 →
      s.dev.on BRM_FSTATUS_NUMBERED 0 = true → pktBad k = false → pktBroadcast k = false → s.dev.route (fleetDev k.addr) = .here → a % 4 = 0 → regFind a = some (r, m) → region a = .regs → s.dev.isOff a = false →
      s.dev.heldAt a = none → writeActs.contains r = false → f ∈ fieldsOf r → calmField f → Completes (.mwrReceived p seq true k env) s fun t => t.dev.get f m = written s.dev f m (k.data.getD 0 0 % 2 ^ 32)
        ∧ credited s.dev p k t.dev ∧ Frame (regsAt [(r, m)]) (varsAt [(.llRxSeq, p), (.llAcc, p)]) [] s t)
  ∧ (∀ (s : State) (p : Fin 3) (seq : Fin 4096) (k : Pkt) (env : WrEnv) (a : Nat), a = k.addr % 2 ^ 40 → taken s.dev p seq true = true → k.typ = 2 → k.len = 1 → k.be % 16 ≠ 15 →
      s.dev.on BRM_FSTATUS_NUMBERED 0 = true → pktBad k = false → pktBroadcast k = false → s.dev.route (fleetDev k.addr) = .here → a < sramBase → (s.dev.isOff a = true ∨ s.dev.heldAt a = none) →
      Completes (.mwrReceived p seq true k env) s fun t => credited s.dev p k t.dev ∧ Frame noKey (varsAt [(.llRxSeq, p), (.llAcc, p)]) [] s t)
  ∧ (∀ (s : State) (b : Fin 2), s.dev.flag .bnReload b = true → Completes (.bunchShadowReloadDone b) s fun t => t = (s.put (s.dev.bunchReloaded b)).serveWaiting b)
  ∧ (∀ (s : State) (b : Fin 2), s.dev.v .bnReload b = 1 → s.dev.portWait = [] → Completes (.bunchShadowReloadDone b) s fun t =>
      t.dev.flag .bnReload b = false ∧ (∀ n < 4, t.dev.get DEC_STATUS_SEED_D (4 * b + n) = (if s.dev.mode (4 * b + n) = some .l100 then s.dev.get DEC_STATUS_SEED_D (4 * b + n) else (s.dev.lane (4 * b + n)).dl % 8))
      ∧ (∀ n < 4, t.dev.get GBX_PSTATUS_VALID (4 * b + n) = (if (s.dev.portAt (4 * b + n)).isSome then 1 else 0))
      ∧ (∀ m < 8, t.dev.on HL_STATUS_ENABLED (8 * b + m) = (s.dev.slotOfHost (8 * b + m)).isSome)
      ∧ Frame (orKey (fun k => regOfBunch b k = true) (orKey (regsIn [.LL_ADC_STATUS, .LL_TX_STATUS, .SLOE_TX_STATUS, .SLOE_TX_CNT, .SLOE_RX_STATUS, .SLOE_RX_CNT0, .SLOE_RX_CNT1, .SLOE_RX_CNT2, .SLOE_TR_STATUS,
          .SB_STATUS, .SB_LSTATUS]) linked))
          (orKey (fun k => varOfBunch b k = true) (varsIn ([.bnReload, .slFrozen, .slFw, .slOpen, .slCur, .slAck, .slTrig, .slGasp, .eqAcq] ++ linkVars))) [.eqPips, .sb, .sloeFw] s t)
  ∧ (∀ (s : State) (b : Fin 2), s.dev.flag .bnReload b = false → Completes (.bunchShadowReloadDone b) s fun t => Still s t)

/-- PCIE_READ with the link up and a free tag: one against R326 or without a route is answered Unsupported, one for another device leaves on its
port with the tag outstanding, any other is served; a read of one dword of a register is answered with it. PCIE_WRITE with the link up,
neither poisoned nor empty: refused it is counted, for another device it leaves, else it is served: a whole write of a register whose write
does nothing else sets its fields. PERST_N_RESET at the root takes the window's size and masks the vectors. PCIE_LINK_CHANGE at the root
shows the link; up needs the enabled endpoint. SPI_WRITE, SPI_READ, I3C_PRIVATE_WRITE and I3C_READ_SETUP ask the bridge, the I3C ones with a
dynamic address: a free bridge takes the request, carries out what is for the device itself and sends or refuses the rest; a busy one lets
it wait, but loses a second waiting write with WR_ERR, as a write broken off is lost. SPI_STATUS returns and clears WR_ERR. I3C_PRIVATE_READ
returns the result once; I3C_ENTDAA gives the ID and takes the address. BRIDGE_REQUEST_DONE with a result gives it to its target and takes
the next request. What is left out changes nothing. (Rests on R296, R326, R328, R336 to R340, R407.) -/
def Obligations.HostAndBridge : Prop :=
  (∀ (s : State) (tag : Fin 1024) (bar2 : Bool) (ofs be len : Nat) (find : EccFind) (env : WrEnv), (s.dev.pcieUp = false ∨ s.dev.ownReqs.any (fun r => r.unit == 0 && r.tag == tag.val) = true) →
      Completes (.pcieRead tag bar2 ofs be len find env) s fun t => Still s t)
  ∧ (∀ (s : State) (tag : Fin 1024) (bar2 : Bool) (ofs be len addr : Nat) (k : Pkt) (find : EccFind) (env : WrEnv), addr = s.dev.barAddr bar2 ofs → k = s.dev.ownPkt 1 0 tag addr be (len % 1024) [] → s.dev.pcieUp = true →
      s.dev.ownReqs.any (fun r => r.unit == 0 && r.tag == tag.val) = false → (pktBad k = true ∨ (bar2 = true ∧ s.dev.route (fleetDev addr) = .none)) → Completes (.pcieRead tag bar2 ofs be len find env) s fun t =>
        Out.pcieCpl tag .unsupported [] ∈ t.dev.out ∧ t.dev.get PCI_STATUS_CPL_EV 0 = 1 ∧ t.dev.get PCI_CPL_LOG_STATUS 0 = 1 ∧ t.dev.get PCI_CPL_LOG_DEV 0 = fleetDev addr ∧ t.dev.get PCI_CPL_LOG_TAG 0 = tag
        ∧ t.dev.ownReqs = s.dev.ownReqs ∧ Frame (regsIn [.PCI_STATUS, .PCI_CPL_LOG]) noKey [.ownReqs] s t)
  ∧ (∀ (s : State) (tag : Fin 1024) (ofs be len addr : Nat) (q : Fin 3) (k : Pkt) (find : EccFind) (env : WrEnv), addr = s.dev.barAddr true ofs → k = s.dev.ownPkt 1 0 tag addr be (len % 1024) [] → s.dev.pcieUp = true →
      s.dev.ownReqs.any (fun r => r.unit == 0 && r.tag == tag.val) = false → pktBad k = false → s.dev.route (fleetDev addr) = .port q → Completes (.pcieRead tag true ofs be len find env) s fun t =>
        sends t.dev q k ∧ t.dev.ownReqs = s.dev.ownReqs ++ [⟨0, tag, fleetDev addr⟩] ∧ t.dev.get PCI_STATUS_TAGS 0 = min 1023 (t.dev.ownReqs.filter (fun r => r.unit == 0)).length
        ∧ Frame (fieldsAt [(PCI_STATUS_TAGS, 0), (PCI_STATUS_TAGS_FULL, 0)]) noKey [.ownReqs] s t)
  ∧ (∀ (s : State) (tag : Fin 1024) (bar2 : Bool) (ofs be len addr : Nat) (k : Pkt) (find : EccFind) (env : WrEnv), addr = s.dev.barAddr bar2 ofs → k = s.dev.ownPkt 1 0 tag addr be (len % 1024) [] → s.dev.pcieUp = true →
      s.dev.ownReqs.any (fun r => r.unit == 0 && r.tag == tag.val) = false → pktBad k = false → (bar2 = false ∨ s.dev.route (fleetDev addr) = .here) → Completes (.pcieRead tag bar2 ofs be len find env) s fun t =>
        t = (s.put ({ s.dev with ownReqs := s.dev.ownReqs ++ [⟨0, tag, fleetDev addr⟩] } : Dev).pcieTags).serve (.host tag) k find env)
  ∧ (∀ (s : State) (tag : Fin 1024) (ofs a m : Nat) (find : EccFind) (env : WrEnv) (r : Reg), a = ofs % 2 ^ 26 → s.dev.pcieUp = true → s.dev.ownReqs.any (fun x => x.unit == 0 && x.tag == tag.val) = false →
      s.dev.devNum < 64 → a % 4 = 0 → regFind a = some (r, m) → readActs.contains r = false → (fieldsOf r).all (fun f => f.acc != .rc) = true → r ≠ .PCI_STATUS → region a = .regs → s.dev.isOff a = false →
      s.dev.heldAt a = none → Completes (.pcieRead tag false ofs 15 1 find env) s fun t => Out.pcieCpl tag .success [s.regView r m % 2 ^ 32] ∈ t.dev.out ∧ t.dev.ownReqs = s.dev.ownReqs
        ∧ Frame (fieldsAt [(PCI_STATUS_TAGS, 0), (PCI_STATUS_TAGS_FULL, 0)]) noKey [.ownReqs] s t)
  ∧ (∀ (s : State) (bar2 : Bool) (ofs be : Nat) (data : List Nat) (poisoned : Bool) (env : WrEnv), (s.dev.pcieUp = false ∨ poisoned = true ∨ data = []) → Completes (.pcieWrite bar2 ofs be data poisoned env) s fun t => Still s t)
  ∧ (∀ (s : State) (bar2 : Bool) (ofs be addr : Nat) (data : List Nat) (k : Pkt) (env : WrEnv), addr = s.dev.barAddr bar2 ofs → k = s.dev.ownPkt 2 0 0 addr be (data.length % 1024) data → s.dev.pcieUp = true → data ≠ [] →
      (pktBad k = true ∨ (bar2 = true ∧ pktBroadcast k = false ∧ s.dev.route (fleetDev addr) = .none)) → Completes (.pcieWrite bar2 ofs be data false env) s fun t =>
        t.dev.get BRM_FCNT2_P_REFUSED 0 = min (s.dev.get BRM_FCNT2_P_REFUSED 0 + 1) (2 ^ BRM_FCNT2_P_REFUSED.w - 1) ∧ Frame (fieldsAt [(BRM_FCNT2_P_REFUSED, 0)]) noKey [] s t)
  ∧ (∀ (s : State) (ofs be addr : Nat) (data : List Nat) (q : Fin 3) (k : Pkt) (env : WrEnv), addr = s.dev.barAddr true ofs → k = s.dev.ownPkt 2 0 0 addr be (data.length % 1024) data → s.dev.pcieUp = true → data ≠ [] →
      pktBad k = false → pktBroadcast k = false → s.dev.route (fleetDev addr) = .port q → Completes (.pcieWrite true ofs be data false env) s fun t => sends t.dev q k ∧ Frame noKey noKey [] s t)
  ∧ (∀ (s : State) (bar2 : Bool) (ofs be addr : Nat) (data : List Nat) (k : Pkt) (env : WrEnv), addr = s.dev.barAddr bar2 ofs → k = s.dev.ownPkt 2 0 0 addr be (data.length % 1024) data → s.dev.pcieUp = true → data ≠ [] →
      pktBad k = false → (bar2 = false ∨ pktBroadcast k = true ∨ s.dev.route (fleetDev addr) = .here) → Completes (.pcieWrite bar2 ofs be data false env) s fun t =>
        t = (if bar2 && pktBroadcast k then s.put (s.dev.sendDown k) else s).serve (.host 0) k .clean env
        ∧ (bar2 = true → pktBroadcast k = true → (s.dev.brmActive 1 = true → sends (s.dev.sendDown k) 1 k) ∧ (s.dev.brmActive 2 = true → sends (s.dev.sendDown k) 2 k)))
  ∧ (∀ (s : State) (ofs a m x : Nat) (env : WrEnv) (r : Reg) (f : Fld), a = ofs % 2 ^ 26 → s.dev.pcieUp = true → s.dev.devNum < 64 → a % 4 = 0 → regFind a = some (r, m) → writeActs.contains r = false → f ∈ fieldsOf r →
      calmField f → region a = .regs → s.dev.isOff a = false → s.dev.heldAt a = none → Completes (.pcieWrite false ofs 15 [x] false env) s fun t =>
        t.dev.get f m = written s.dev f m (x % 2 ^ 32) ∧ Frame (regsAt [(r, m)]) noKey [] s t)
  ∧ (∀ (s : State), s.dev.on BRM_FCTRL_ROOT 0 = true → Completes .perstNReset s fun t => t.dev.v .winLog2 0 = (clampN 32 48 (s.dev.get PCI_CTRL_WIN_LOG2 0) : Nat) ∧ t.dev.get PCI_STATUS_LINK_UP 0 = 0
      ∧ t.dev.get PCI_STATUS_TAGS 0 = 0 ∧ (∀ v < 64, t.dev.v .msixTab (4 * v + 3) = 1) ∧ t.dev.ownReqs = s.dev.ownReqs.filter (fun r => r.unit != 0)
      ∧ Frame (fieldsAt [(PCI_STATUS_LINK_UP, 0), (PCI_STATUS_TAGS, 0), (PCI_STATUS_TAGS_FULL, 0)]) (varsIn [.winLog2, .msixTab]) [.ownReqs] s t)
  ∧ (∀ (s : State), s.dev.on BRM_FCTRL_ROOT 0 = false → Completes .perstNReset s fun t => Still s t)
  ∧ (∀ (s : State) (up : Bool), s.dev.on BRM_FCTRL_ROOT 0 = true → (s.dev.flag .pcieOn 0 = true ∨ up = false) → Completes (.pcieLinkChange up) s fun t => t.dev.on PCI_STATUS_LINK_UP 0 = up
      ∧ Frame (fieldsAt [(PCI_STATUS_LINK_UP, 0)]) noKey [] s t)
  ∧ (∀ (s : State) (up : Bool), (s.dev.on BRM_FCTRL_ROOT 0 = false ∨ (s.dev.flag .pcieOn 0 = false ∧ up = true)) → Completes (.pcieLinkChange up) s fun t => Still s t)
  ∧ (∀ (s : State) (addr : BitVec 48) (data : List Nat) (whole : Bool) (find : EccFind) (env : WrEnv), (whole = false ∨ data = []) → Completes (.spiWrite addr data whole find env) s fun t => t.dev.get SPI_I3C_STATUS_WR_ERR 0 = 1
      ∧ Frame (fieldsAt [(SPI_I3C_STATUS_WR_ERR, 0)]) noKey [] s t)
  ∧ (∀ (s : State) (addr : BitVec 48) (data : List Nat) (find : EccFind) (env : WrEnv) (r : BrReq), r = ⟨.spi, true, addr.toNat / 4 * 4, data.length, data, false⟩ → data ≠ [] → s.dev.brCur = none → bridgeHere s.dev r = true →
      Completes (.spiWrite addr data true find env) s fun t => t = s.bridgeRun r find env)
  ∧ (∀ (s : State) (addr : BitVec 48) (data : List Nat) (find : EccFind) (env : WrEnv) (r : BrReq), r = ⟨.spi, true, addr.toNat / 4 * 4, data.length, data, false⟩ → data ≠ [] → s.dev.brCur = none → bridgeHere s.dev r = false →
      Completes (.spiWrite addr data true find env) s fun t => bridgeSent s.dev r t.dev ∧ Frame (fieldsAt [(SPI_I3C_STATUS_BUSY, 0), (BRM_FCNT2_P_REFUSED, 0)]) noKey [.brCur, .brRes, .ownReqs] s t)
  ∧ (∀ (s : State) (addr : BitVec 48) (x m a : Nat) (find : EccFind) (env : WrEnv) (r : Reg) (f : Fld), a = addr.toNat / 4 * 4 → s.dev.brCur = none → s.dev.on BRM_FSTATUS_NUMBERED 0 = false → region a = .regs →
      regFind a = some (r, m) → writeActs.contains r = false → r ≠ .SPI_I3C_STATUS → f ∈ fieldsOf r → calmField f → s.dev.isOff a = false → s.dev.heldAt a = none → Completes (.spiWrite addr [x] true find env) s fun t =>
        t.dev.get f m = written s.dev f m (x % 2 ^ 32) ∧ t.dev.get SPI_I3C_STATUS_BUSY 0 = 1 ∧ t.dev.brRes = some (0, [])
        ∧ Frame (orKey (fieldsAt [(SPI_I3C_STATUS_BUSY, 0)]) (regsAt [(r, m)])) noKey [.brCur, .brRes] s t)
  ∧ (∀ (s : State) (addr : BitVec 48) (data : List Nat) (find : EccFind) (env : WrEnv), data ≠ [] → s.dev.brCur.isSome = true → s.dev.brWait.any (fun x => x.write) = true →
      Completes (.spiWrite addr data true find env) s fun t => t.dev.get SPI_I3C_STATUS_WR_ERR 0 = 1 ∧ Frame (fieldsAt [(SPI_I3C_STATUS_WR_ERR, 0)]) noKey [] s t)
  ∧ (∀ (s : State) (addr : BitVec 48) (data : List Nat) (find : EccFind) (env : WrEnv), data ≠ [] → s.dev.brCur.isSome = true → s.dev.brWait.any (fun x => x.write) = false →
      Completes (.spiWrite addr data true find env) s fun t => t.dev.brWait = s.dev.brWait ++ [⟨.spi, true, addr.toNat / 4 * 4, data.length, data, false⟩] ∧ Frame noKey noKey [.brWait] s t)
  ∧ (∀ (s : State) (addr : BitVec 48) (n : Byte) (drop : Bool) (find : EccFind) (env : WrEnv) (r : BrReq), r = ⟨.spi, false, addr.toNat / 4 * 4, n.toNat + 1, [], drop⟩ → s.dev.brCur = none → bridgeHere s.dev r = true →
      Completes (.spiRead addr n drop find env) s fun t => t = s.bridgeRun r find env)
  ∧ (∀ (s : State) (addr : BitVec 48) (n : Byte) (drop : Bool) (find : EccFind) (env : WrEnv) (r : BrReq), r = ⟨.spi, false, addr.toNat / 4 * 4, n.toNat + 1, [], drop⟩ → s.dev.brCur = none → bridgeHere s.dev r = false →
      Completes (.spiRead addr n drop find env) s fun t => bridgeSent s.dev r t.dev ∧ Frame (fieldsAt [(SPI_I3C_STATUS_BUSY, 0)]) noKey [.brCur, .brRes, .ownReqs] s t)
  ∧ (∀ (s : State) (addr : BitVec 48) (m a : Nat) (drop : Bool) (find : EccFind) (env : WrEnv) (r : Reg), a = addr.toNat / 4 * 4 → s.dev.brCur = none → s.dev.on BRM_FSTATUS_NUMBERED 0 = false → region a = .regs →
      regFind a = some (r, m) → readActs.contains r = false → (fieldsOf r).all (fun f => f.acc != .rc) = true → r ≠ .SPI_I3C_STATUS → s.dev.isOff a = false → s.dev.heldAt a = none → Completes (.spiRead addr 0 drop find env) s fun t =>
        t.dev.brRes = some (0, [s.regView r m % 2 ^ 32]) ∧ t.dev.get SPI_I3C_STATUS_BUSY 0 = 1 ∧ Frame (fieldsAt [(SPI_I3C_STATUS_BUSY, 0)]) noKey [.brCur, .brRes] s t)
  ∧ (∀ (s : State) (addr : BitVec 48) (n : Byte) (drop : Bool) (find : EccFind) (env : WrEnv), s.dev.brCur.isSome = true → Completes (.spiRead addr n drop find env) s fun t =>
        t.dev.brWait = s.dev.brWait ++ [⟨.spi, false, addr.toNat / 4 * 4, n.toNat + 1, [], drop⟩] ∧ Frame noKey noKey [.brWait] s t)
  ∧ (∀ (s : State), Completes .spiStatus s fun t => Out.spiStatus (s.dev.on SPI_CFG_QUAD 0) (s.dev.get SPI_I3C_STATUS_BUSY 0 + 2 * s.dev.get SPI_I3C_STATUS_WR_ERR 0) ∈ t.dev.out ∧ t.dev.get SPI_I3C_STATUS_WR_ERR 0 = 0
      ∧ Frame (fieldsAt [(SPI_I3C_STATUS_WR_ERR, 0)]) noKey [] s t)
  ∧ (∀ (s : State) (addr : BitVec 48) (data : List Nat) (find : EccFind) (env : WrEnv), (s.dev.i3cUp = false ∨ data = []) → Completes (.i3cPrivateWrite addr data find env) s fun t => Still s t)
  ∧ (∀ (s : State) (addr : BitVec 48) (data : List Nat) (find : EccFind) (env : WrEnv) (r : BrReq), r = ⟨.i3c, true, addr.toNat / 4 * 4, data.length, data, false⟩ → s.dev.i3cUp = true → data ≠ [] → s.dev.brCur = none →
      bridgeHere s.dev r = true → Completes (.i3cPrivateWrite addr data find env) s fun t => t = s.bridgeRun r find env)
  ∧ (∀ (s : State) (addr : BitVec 48) (data : List Nat) (find : EccFind) (env : WrEnv) (r : BrReq), r = ⟨.i3c, true, addr.toNat / 4 * 4, data.length, data, false⟩ → s.dev.i3cUp = true → data ≠ [] → s.dev.brCur = none →
      bridgeHere s.dev r = false → Completes (.i3cPrivateWrite addr data find env) s fun t =>
        bridgeSent s.dev r t.dev ∧ Frame (fieldsAt [(SPI_I3C_STATUS_BUSY, 0), (BRM_FCNT2_P_REFUSED, 0)]) noKey [.brCur, .brRes, .ownReqs] s t)
  ∧ (∀ (s : State) (addr : BitVec 48) (data : List Nat) (find : EccFind) (env : WrEnv), s.dev.i3cUp = true → data ≠ [] → s.dev.brCur.isSome = true → s.dev.brWait.any (fun x => x.write) = true →
      Completes (.i3cPrivateWrite addr data find env) s fun t => t.dev.get SPI_I3C_STATUS_WR_ERR 0 = 1 ∧ Frame (fieldsAt [(SPI_I3C_STATUS_WR_ERR, 0)]) noKey [] s t)
  ∧ (∀ (s : State) (addr : BitVec 48) (data : List Nat) (find : EccFind) (env : WrEnv), s.dev.i3cUp = true → data ≠ [] → s.dev.brCur.isSome = true → s.dev.brWait.any (fun x => x.write) = false →
      Completes (.i3cPrivateWrite addr data find env) s fun t => t.dev.brWait = s.dev.brWait ++ [⟨.i3c, true, addr.toNat / 4 * 4, data.length, data, false⟩] ∧ Frame noKey noKey [.brWait] s t)
  ∧ (∀ (s : State) (addr : BitVec 48) (n : Byte) (find : EccFind) (env : WrEnv), s.dev.i3cUp = false → Completes (.i3cReadSetup addr n find env) s fun t => Still s t)
  ∧ (∀ (s : State) (addr : BitVec 48) (n : Byte) (find : EccFind) (env : WrEnv) (r : BrReq), r = ⟨.i3c, false, addr.toNat / 4 * 4, n.toNat + 1, [], false⟩ → s.dev.i3cUp = true → s.dev.brCur = none → bridgeHere s.dev r = true →
      Completes (.i3cReadSetup addr n find env) s fun t => t = ({ s with dev := { s.dev with i3cRes := none } } : State).bridgeRun r find env)
  ∧ (∀ (s : State) (addr : BitVec 48) (n : Byte) (find : EccFind) (env : WrEnv) (r : BrReq), r = ⟨.i3c, false, addr.toNat / 4 * 4, n.toNat + 1, [], false⟩ → s.dev.i3cUp = true → s.dev.brCur = none → bridgeHere s.dev r = false →
      Completes (.i3cReadSetup addr n find env) s fun t => bridgeSent s.dev r t.dev ∧ t.dev.i3cRes = none ∧ Frame (fieldsAt [(SPI_I3C_STATUS_BUSY, 0)]) noKey [.brCur, .brRes, .ownReqs, .i3cRes] s t)
  ∧ (∀ (s : State) (addr : BitVec 48) (n : Byte) (find : EccFind) (env : WrEnv), s.dev.i3cUp = true → s.dev.brCur.isSome = true → Completes (.i3cReadSetup addr n find env) s fun t =>
      t.dev.brWait = s.dev.brWait ++ [⟨.i3c, false, addr.toNat / 4 * 4, n.toNat + 1, [], false⟩] ∧ t.dev.i3cRes = none ∧ Frame noKey noKey [.brWait, .i3cRes] s t)
  ∧ (∀ (s : State), s.dev.i3cUp = true → Completes .i3cPrivateRead s fun t => Out.i3cRead s.dev.i3cRes ∈ t.dev.out ∧ t.dev.i3cRes = none ∧ Frame noKey noKey [.i3cRes] s t)
  ∧ (∀ (s : State), s.dev.i3cUp = false → Completes .i3cPrivateRead s fun t => Still s t)
  ∧ (∀ (s : State) (addr : Fin 128), s.dev.i3cUp = false → Completes (.i3cEntdaa addr) s fun t => t.dev.get I3C_CFG_DYN_ADDR 0 = addr
      ∧ Out.i3cPid (s.dev.get I3C_PID_MFR 0 * 2 ^ 33 + 0x3208 * 2 ^ 16 + s.dev.get I3C_PID_INST 0) ∈ t.dev.out ∧ Frame (fieldsAt [(I3C_CFG_DYN_ADDR, 0)]) noKey [] s t)
  ∧ (∀ (s : State) (addr : Fin 128), s.dev.i3cUp = true → Completes (.i3cEntdaa addr) s fun t => Still s t)
  ∧ (∀ (s : State) (r : BrReq) (status : Nat) (data : List Nat) (find : EccFind) (env : WrEnv), s.dev.brCur = some r → s.dev.brRes = some (status, data) → s.dev.brWait = [] → Completes (.bridgeRequestDone find env) s fun t =>
      t.dev.brCur = none ∧ t.dev.brRes = none ∧ t.dev.get SPI_I3C_STATUS_BUSY 0 = 0
        ∧ t.dev.get SPI_I3C_STATUS_LAST 0 = (if r.write then s.dev.get SPI_I3C_STATUS_LAST 0 else status % 2 ^ SPI_I3C_STATUS_LAST.w)
        ∧ (r.write = false → r.src = .spi → r.drop = false → Out.spiRead (s.dev.on SPI_CFG_QUAD 0)
            (leBytes 1 0xA5 ++ leBytes 1 status ++ ((List.range r.n).map (fun i => data.getD i 0)).flatMap (leBytes 4)) ∈ t.dev.out)
        ∧ t.dev.i3cRes = (if r.write = false ∧ r.src = .i3c then some (status, (List.range r.n).map (fun i => data.getD i 0)) else s.dev.i3cRes)
        ∧ Frame (fieldsAt [(SPI_I3C_STATUS_BUSY, 0), (SPI_I3C_STATUS_LAST, 0)]) noKey [.brCur, .brRes, .i3cRes] s t)
  ∧ (∀ (s : State) (r q : BrReq) (rest : List BrReq) (status : Nat) (data : List Nat) (d : Dev) (find : EccFind) (env : WrEnv), s.dev.brCur = some r → s.dev.brRes = some (status, data) → s.dev.brWait = q :: rest →
      d = (({ s.dev with brCur := none, brRes := none } : Dev).set SPI_I3C_STATUS_BUSY 0 0).bridgeGive r status data → Completes (.bridgeRequestDone find env) s fun t =>
        t = (s.put { d with brWait := rest }).bridgeRun q find env)
  ∧ (∀ (s : State) (r q : BrReq) (rest : List BrReq) (status : Nat) (data : List Nat) (find : EccFind) (env : WrEnv), s.dev.brCur = some r → s.dev.brRes = some (status, data) → s.dev.brWait = q :: rest → bridgeHere s.dev q = false →
      Completes (.bridgeRequestDone find env) s fun t => bridgeSent s.dev q t.dev ∧ t.dev.brWait = rest
        ∧ Frame (fieldsAt [(SPI_I3C_STATUS_BUSY, 0), (SPI_I3C_STATUS_LAST, 0), (BRM_FCNT2_P_REFUSED, 0)]) noKey [.brCur, .brRes, .brWait, .i3cRes, .ownReqs] s t)
  ∧ (∀ (s : State) (find : EccFind) (env : WrEnv), (s.dev.brCur = none ∨ s.dev.brRes = none) → Completes (.bridgeRequestDone find env) s fun t => Still s t)

/-- SEED_LOAD_FULL, SEED_LOAD_BUNCH0, SEED_LOAD_BUNCH1 and SEED_CHECK store their fields; while a load runs each is dropped with BUSY; SRC 3, or
an address that is no memory, is refused SOURCE; else phase 1 begins and the source is read: the header and, unless the header is refused,
the whole image, with a note of words that read as poison. SEED_HEADER_DONE in phase 1 ends the load with the code the header earned, else
phase 2 begins; out of phase 1 it does nothing. SEED_VERIFY_DONE in phase 2 refuses an image of another key than the owner's in use, one
with a poisoned word or a signature that does not verify; else the image is measured into register 3 with its SCOPE, and the first of
STRUCTURE, the items and BUDGET that it fails refuses it, with ERR_ROW; a CHECK that passes ends ACCEPTED; out of phase 2 it does nothing.
SEED_ABORT ends a load in phases 1 to 4 ABANDONED, and does nothing otherwise. (Rests on R33 to R41, R361.) -/
def Obligations.SeedChecks : Prop :=
  (∀ (s : State) (src : BitVec 2) (warm hold : Bool), Completes (.seedLoadFull src warm hold) s fun t => seedTaken s 1 src.toNat warm hold t)
  ∧ (∀ (s : State) (src : BitVec 2) (warm hold : Bool), Completes (.seedLoadBunch0 src warm hold) s fun t => seedTaken s 2 src.toNat warm hold t)
  ∧ (∀ (s : State) (src : BitVec 2) (warm hold : Bool), Completes (.seedLoadBunch1 src warm hold) s fun t => seedTaken s 3 src.toNat warm hold t)
  ∧ (∀ (s : State) (src : BitVec 2) (warm hold : Bool), Completes (.seedCheck src warm hold) s fun t => seedTaken s 4 src.toNat warm hold t)
  ∧ (∀ (s : State) (src : BitVec 2) (warm hold : Bool) (c : Instr), c ∈ [Instr.seedLoadFull src warm hold, .seedLoadBunch0 src warm hold, .seedLoadBunch1 src warm hold, .seedCheck src warm hold] →
      s.dev.on SEED_STATUS_BUSY 0 = true → Completes c s fun t =>
        Frame (fieldsAt [(SEED_STATUS_ERR, 0), (SEED_CTRL_SRC, 0), (SEED_CTRL_WARM_EQ, 0), (SEED_CTRL_HOLD_LANES, 0)]) noKey [] s t)
  ∧ (∀ (s : State) (src : BitVec 2) (warm hold : Bool) (c : Instr), c ∈ [Instr.seedLoadFull src warm hold, .seedLoadBunch0 src warm hold, .seedLoadBunch1 src warm hold, .seedCheck src warm hold] →
      s.dev.on SEED_STATUS_BUSY 0 = false → s.dev.merge = [] → Completes c s fun t =>
        Frame (regsIn [.SEED_CTRL, .SEED_STATUS, .STN_STATUS, .MEM_ACC_CNT, .MEM_ACC_LOG_LO, .MEM_ACC_LOG_HI]) (varsIn [.seedCmd, .seedSrc, .seedAddr, .seedWarm, .seedHold, .seedHdr, .seedBad]) [.seedBuf, .seedNew] s t)
  ∧ (∀ (s : State), s.dev.on SEED_STATUS_BUSY 0 = true → s.dev.get SEED_STATUS_PHASE 0 ≤ 4 → Completes .seedAbort s fun t => seedOver t.dev 3 0 ∧ Frame (regsIn [.SEED_STATUS]) (varsAt [(.seedCmd, 0)]) [.seedBuf, .seedNew] s t)
  ∧ (∀ (s : State), (s.dev.on SEED_STATUS_BUSY 0 = false ∨ 5 ≤ s.dev.get SEED_STATUS_PHASE 0) → Completes .seedAbort s fun t => Still s t)
  ∧ (∀ (s : State) (e : Nat), s.dev.on SEED_STATUS_BUSY 0 = true → s.dev.get SEED_STATUS_PHASE 0 = 1 → s.dev.v .seedHdr 0 = (e : Nat) → e ≠ 0 → Completes .seedHeaderDone s fun t =>
      seedOver t.dev 2 e ∧ Frame (regsIn [.SEED_STATUS]) (varsAt [(.seedCmd, 0)]) [.seedBuf, .seedNew] s t)
  ∧ (∀ (s : State), s.dev.on SEED_STATUS_BUSY 0 = true → s.dev.get SEED_STATUS_PHASE 0 = 1 → s.dev.v .seedHdr 0 = 0 → Completes .seedHeaderDone s fun t =>
      t.dev.get SEED_STATUS_PHASE 0 = 2 ∧ Frame (fieldsAt [(SEED_STATUS_PHASE, 0)]) noKey [] s t)
  ∧ (∀ (s : State), (s.dev.on SEED_STATUS_BUSY 0 = false ∨ s.dev.get SEED_STATUS_PHASE 0 ≠ 1) → Completes .seedHeaderDone s fun t => Still s t)
  ∧ (∀ (s : State) (d0 d1 : BunchDesc) (ab0 ab1 : List AbRead), s.dev.on SEED_STATUS_BUSY 0 = true → s.dev.get SEED_STATUS_PHASE 0 = 2 →
      s.dev.ownerOk (field s.dev.seedBuf 7 1) s.dev.seedBuf (field s.dev.seedBuf 0x1C 4) = false → Completes (.seedVerifyDone d0 d1 ab0 ab1) s fun t =>
        seedOver t.dev 2 5 ∧ Frame (regsIn [.SEED_STATUS]) (varsAt [(.seedCmd, 0)]) [.seedBuf, .seedNew] s t)
  ∧ (∀ (s : State) (d0 d1 : BunchDesc) (ab0 ab1 : List AbRead), s.dev.on SEED_STATUS_BUSY 0 = true → s.dev.get SEED_STATUS_PHASE 0 = 2 →
      s.dev.ownerOk (field s.dev.seedBuf 7 1) s.dev.seedBuf (field s.dev.seedBuf 0x1C 4) = true → (s.dev.flag .seedBad 0 = true ∨ sigVerifies "LNI-SEED" s.dev.seedBuf (field s.dev.seedBuf 0x1C 4) = false) →
      Completes (.seedVerifyDone d0 d1 ab0 ab1) s fun t => seedOver t.dev 2 6 ∧ Frame (regsIn [.SEED_STATUS]) (varsAt [(.seedCmd, 0)]) [.seedBuf, .seedNew] s t)
  ∧ (∀ (s : State) (d0 d1 : BunchDesc) (ab0 ab1 : List AbRead) (m : List Byte) (cmd code : Nat) (row : Option (Nat)) (ver : Bool), m = s.dev.seedBuf → s.dev.v .seedCmd 0 = (cmd : Nat) → s.dev.on SEED_STATUS_BUSY 0 = true →
      s.dev.get SEED_STATUS_PHASE 0 = 2 → s.dev.ownerOk (field m 7 1) m (field m 0x1C 4) = true → s.dev.flag .seedBad 0 = false → ver = sigVerifies "LNI-SEED" m (field m 0x1C 4) → seedFault s.dev m cmd d0 d1 = some (code, row) →
      Completes (.seedVerifyDone d0 d1 ab0 ab1) s fun t => seedOver t.dev 2 (if ver then code else 6) ∧ (ver = true → seedMeasured s.dev m (if cmd = 4 then field m 6 1 else cmd - 1) t.dev)
        ∧ t.dev.get SEED_STATUS_ERR_ROW 0 = (if ver then row.getD (s.dev.get SEED_STATUS_ERR_ROW 0) % 256 else s.dev.get SEED_STATUS_ERR_ROW 0)
        ∧ Frame (orKey (regsIn [.SEED_STATUS]) (fieldsAt [(SEC_MR_CNT_COUNT, 3)])) (varsAt [(.seedCmd, 0)]) [.seedBuf, .seedNew, .mrs] s t)
  ∧ (∀ (s : State) (d0 d1 : BunchDesc) (ab0 ab1 : List AbRead) (m : List Byte) (ver : Bool), m = s.dev.seedBuf → s.dev.v .seedCmd 0 = 4 → s.dev.on SEED_STATUS_BUSY 0 = true →
      s.dev.get SEED_STATUS_PHASE 0 = 2 → s.dev.ownerOk (field m 7 1) m (field m 0x1C 4) = true → s.dev.flag .seedBad 0 = false → ver = sigVerifies "LNI-SEED" m (field m 0x1C 4) → seedFault s.dev m 4 d0 d1 = none →
      Completes (.seedVerifyDone d0 d1 ab0 ab1) s fun t => seedOver t.dev (if ver then 1 else 2) (if ver then 0 else 6) ∧ (ver = true → seedMeasured s.dev m (field m 6 1) t.dev)
        ∧ Frame (orKey (regsIn [.SEED_STATUS]) (fieldsAt [(SEC_MR_CNT_COUNT, 3)])) (varsAt [(.seedCmd, 0)]) [.seedBuf, .seedNew, .mrs] s t)
  ∧ (∀ (s : State) (d0 d1 : BunchDesc) (ab0 ab1 : List AbRead), (s.dev.on SEED_STATUS_BUSY 0 = false ∨ s.dev.get SEED_STATUS_PHASE 0 ≠ 2) → Completes (.seedVerifyDone d0 d1 ab0 ab1) s fun t => Still s t)

/-- SEED_VERIFY_DONE of a load that passes every check quiesces the bunches it loads and puts it in phase 6: generations step, codewords, host
bits and waiting reloads end, training is OFF, requests outstanding to them end ABORTED. SEED_APPLY_DONE in phase 6 writes the configuration
words to the shadow (stated where no spare word diverts it) and puts the new seed in force: lanes whose mode or port changes lose EN, slots,
decoders and host lanes show it, coefficients not kept by WARM_EQ lose their snapshot. SEED_RESTART in phase 7 enables the bunches' lanes,
or none with HOLD_LANES, holds their host transmitters until UP, and ends the load ACCEPTED. TILE_RELOAD_DONE ends the running reload:
rewritten, it is counted and frees its lane unless another reload waits for it; with an uncorrectable shadow word it is reported and the
lane stays held. Out of their phases, or without a reload, these commands do nothing. (Rests on R42 to R47, R147, R176, R295, R361, R418.) -/
def Obligations.SeedApply : Prop :=
  (∀ (s : State) (d0 d1 : BunchDesc) (ab0 ab1 : List AbRead) (m : List Byte) (cmd : Nat) (ver : Bool), m = s.dev.seedBuf → s.dev.v .seedCmd 0 = (cmd : Nat) → cmd ≠ 4 → s.dev.on SEED_STATUS_BUSY 0 = true →
      s.dev.get SEED_STATUS_PHASE 0 = 2 → s.dev.ownerOk (field m 7 1) m (field m 0x1C 4) = true → s.dev.flag .seedBad 0 = false → ver = sigVerifies "LNI-SEED" m (field m 0x1C 4) → seedFault s.dev m cmd d0 d1 = none →
      Completes (.seedVerifyDone d0 d1 ab0 ab1) s fun t => (ver = false → seedOver t.dev 2 6)
        ∧ (ver = true → t.dev.get SEED_STATUS_PHASE 0 = 6 ∧ t.dev.seedNew = [d0, d1] ∧ seedMeasured s.dev m (cmd - 1) t.dev ∧ quiesced s.dev (cmdBunches cmd) ab0 ab1 t.dev)
        ∧ t.dev.bunch0 = s.dev.bunch0 ∧ t.dev.bunch1 = s.dev.bunch1 ∧ t.pending = s.pending)
  ∧ (∀ (s : State) (d0 d1 : BunchDesc) (ab0 ab1 : List AbRead) (cmd : Nat), s.dev.v .seedCmd 0 = (cmd : Nat) → s.dev.capOn = false → Completes (.seedVerifyDone d0 d1 ab0 ab1) s fun t =>
      Frame (bunchRegs (cmdBunches cmd) [.SEED_STATUS, .SEC_MR_CNT, .TOP_GEN, .TOP_GEN_LL, .TOP_GEN_HL, .TOP_DISC, .SEED_RELOAD_LAST]) (bunchVars (cmdBunches cmd) [.seedCmd])
        [.seedBuf, .seedNew, .mrs, .cws, .loopBits, .reloads, .sloeFw, .sloeTx] s t)
  ∧ (∀ (s : State) (cfg0 cfg1 : List Byte) (cmd : Nat), s.dev.v .seedCmd 0 = (cmd : Nat) → s.dev.on SEED_STATUS_BUSY 0 = true → s.dev.get SEED_STATUS_PHASE 0 = 6 → s.dev.get BOOT_STATUS_STEP 0 ≠ 7 →
      Completes (.seedApplyDone cfg0 cfg1) s fun t => t.dev.get SEED_STATUS_PHASE 0 = 7 ∧ applied s.dev cmd t.dev ∧ t.pending = s.pending)
  ∧ (∀ (s : State) (cfg0 cfg1 : List Byte) (cmd : Nat), s.dev.v .seedCmd 0 = (cmd : Nat) → 1 ≤ cmd → cmd ≤ 3 → s.dev.on SEED_STATUS_BUSY 0 = true → s.dev.get SEED_STATUS_PHASE 0 = 6 → s.dev.on MEM_STATUS_ZFILL 0 = false →
      s.dev.flag .offMgmt 0 = false → cfg0.length % 8 = 0 → cfg0.length ≤ 0x2_0000 → cfg1.length % 8 = 0 → cfg1.length ≤ 0x2_0000 → s.dev.merge = [] → (∀ i < 64, s.dev.v .mspare i = 0) →
      Completes (.seedApplyDone cfg0 cfg1) s fun t => (cmd ≠ 3 → t.mem.readBytes (shadowOf 0) cfg0.length = cfg0) ∧ (cmd ≠ 2 → t.mem.readBytes (shadowOf 1) cfg1.length = cfg1) ∧ Elsewhere shadowBase 0x4_0000 s t
        ∧ Keeps (bunchRegs (cmdBunches cmd) [.SEED_STATUS, .SEED_VER_B0, .SEED_VER_B1, .SEED_BUD_B0, .SEED_BUD_B1, .SEED_PROF]) (bunchVars (cmdBunches cmd) [.sbShift, .sbCoef, .sbCoefP]) [.bunch0, .bunch1, .sb, .eqPips, .finals, .cws] s.dev t.dev)
  ∧ (∀ (s : State) (cmd : Nat) (hold : Bool), s.dev.v .seedCmd 0 = (cmd : Nat) → hold = s.dev.flag .seedHold 0 → s.dev.on SEED_STATUS_BUSY 0 = true → s.dev.get SEED_STATUS_PHASE 0 = 7 → Completes .seedRestart s fun t =>
      seedOver t.dev 1 0 ∧ (∀ b ∈ cmdBunches cmd, t.dev.v .reseedSq b = 0 ∧ ∀ n < 4, t.dev.on BN_LINK_CTRL_EN (4 * b + n) = (!hold && (s.dev.on BN_LINK_CTRL_EN (4 * b + n) || (s.dev.slotOfLine (4 * b + n)).isSome))
          ∧ (t.dev.on BN_LINK_CTRL_EN (4 * b + n) = true → t.dev.get BN_LINK_STATUS_STATE (4 * b + n) = stDOWN))
      ∧ Frame (bunchRegs (cmdBunches cmd) [.SEED_STATUS]) (bunchVars (cmdBunches cmd) [.seedCmd]) [.seedBuf, .seedNew, .sb, .eqPips, .finals, .cws] s t)
  ∧ (∀ (s : State) (cfg0 cfg1 : List Byte), (s.dev.on SEED_STATUS_BUSY 0 = false ∨ s.dev.get SEED_STATUS_PHASE 0 ≠ 6) → Completes (.seedApplyDone cfg0 cfg1) s fun t => Still s t)
  ∧ (∀ (s : State), (s.dev.on SEED_STATUS_BUSY 0 = false ∨ s.dev.get SEED_STATUS_PHASE 0 ≠ 7) → Completes .seedRestart s fun t => Still s t)
  ∧ (∀ (s : State) (r : TileReload) (rest : List TileReload), s.dev.reloads = r :: rest → Completes (.tileReloadDone true) s fun t => t.dev.reloads = rest ∧ t.dev.get SEED_RELOAD_LAST_RESULT 0 = 2
      ∧ t.dev.get SEED_RELOAD_LAST_TILE 0 = r.tile % 2 ^ SEED_RELOAD_LAST_TILE.w ∧ t.dev.get SEED_RELOAD_LAST_BUNCH 0 = r.bunch % 2 ∧ t.dev.get SEED_STATUS_SHADOW_UE 0 = 1 ∧ (∀ n ∈ r.hold, t.dev.v .lkTileHold n = 2)
      ∧ Frame (orKey (regsIn [.SEED_RELOAD_LAST]) (fieldsAt [(SEED_STATUS_SHADOW_UE, 0)])) (varsIn [.lkTileHold]) [.reloads] s t)
  ∧ (∀ (s : State) (r : TileReload) (rest : List TileReload) (f : Fld), s.dev.reloads = r :: rest → f = (if r.bunch = 0 then SEED_RELOAD_CNT_B0 else SEED_RELOAD_CNT_B1) → Completes (.tileReloadDone false) s fun t =>
      t.dev.reloads = rest ∧ t.dev.get SEED_RELOAD_LAST_RESULT 0 = 1 ∧ t.dev.get SEED_RELOAD_LAST_TILE 0 = r.tile % 2 ^ SEED_RELOAD_LAST_TILE.w ∧ t.dev.get SEED_RELOAD_LAST_BUNCH 0 = r.bunch % 2
      ∧ t.dev.get f 0 = min (s.dev.get f 0 + 1) 65535
      ∧ (∀ n ∈ r.hold, t.dev.v .lkTileHold n = (if s.dev.v .lkTileHold n = 2 ∨ rest.any (fun q => q.hold == some n) then s.dev.v .lkTileHold n else 0))
      ∧ Frame (orKey (regsIn [.SEED_RELOAD_LAST]) (orKey (fieldsAt [(f, 0)]) linked)) (varsIn ([.lkTileHold] ++ linkVars)) [.reloads] s t)
  ∧ (∀ (s : State) (ue : Bool), s.dev.reloads = [] → Completes (.tileReloadDone ue) s fun t => Still s t)

/-- STN_PUSH stores PAGE and JOURNAL; a push that R350 refuses sets ERR with its reason; any other takes its place at the end of the queue and,
if no entry is in execution, the first in the queue starts, its source being read. STN_ENTRY_DONE leaves the entry's bytes and bad words in
its page, and the page's old bytes in the undo slot if it was journaled, counts the wear, sets DONE_EV, and starts the next entry, or sets
IDLE_EV if none waits; without an entry it does nothing. STN_WINDOW_WRITE is dropped and counted, or refused while the Stone is off. (Rests
on R347 to R352.) -/
def Obligations.StoneWrites : Prop :=
  (∀ (s : State) (page : Fin 131072) (journal : Bool), s.dev.stnErr page ≠ 0 → Completes (.stnPush page journal) s fun t => t.dev.get STN_STATUS_ERR 0 = s.dev.stnErr page
      ∧ t.dev.get STN_CMD_PAGE 0 = page ∧ t.dev.on STN_CMD_JOURNAL 0 = journal ∧ Frame (fieldsAt [(STN_CMD_PAGE, 0), (STN_CMD_JOURNAL, 0), (STN_STATUS_ERR, 0)]) noKey [] s t)
  ∧ (∀ (s : State) (page : Fin 131072) (journal : Bool) (r : StnRun), s.dev.stnErr page = 0 → s.dev.stnCur = some r → Completes (.stnPush page journal) s fun t =>
      t.dev.stnQ = s.dev.stnQ ++ [⟨s.dev.stnSrc, page, journal⟩] ∧ t.dev.stnCur = some r ∧ t.dev.get STN_STATUS_QCOUNT 0 = s.dev.stnQ.length + 1 ∧ t.dev.get STN_STATUS_BUSY 0 = 1
      ∧ t.dev.get STN_CMD_PAGE 0 = page ∧ t.dev.on STN_CMD_JOURNAL 0 = journal
      ∧ Frame (fieldsAt [(STN_CMD_PAGE, 0), (STN_CMD_JOURNAL, 0), (STN_STATUS_QCOUNT, 0), (STN_STATUS_BUSY, 0)]) noKey [.stnQ] s t)
  ∧ (∀ (s : State) (page : Fin 131072) (journal : Bool), s.dev.stnErr page = 0 → s.dev.stnCur = none → Completes (.stnPush page journal) s fun t =>
      t = ({ s with dev := { (s.dev.set STN_CMD_PAGE 0 page).put STN_CMD_JOURNAL 0 journal with stnQ := s.dev.stnQ ++ [⟨s.dev.stnSrc, page, journal⟩] } } : State).stnStart)
  ∧ (∀ (s : State) (page : Fin 131072) (journal : Bool) (q rest : List StnEnt) (e : StnEnt), q = s.dev.stnQ ++ [⟨s.dev.stnSrc, page, journal⟩] → q = e :: rest → s.dev.stnErr page = 0 → s.dev.stnCur = none →
      s.dev.merge = [] → Completes (.stnPush page journal) s fun t =>
        started s e t ∧ t.dev.stnQ = rest ∧ t.dev.get STN_STATUS_QCOUNT 0 = rest.length % 16 ∧ t.dev.get STN_CMD_PAGE 0 = page ∧ t.dev.on STN_CMD_JOURNAL 0 = journal
        ∧ Frame (fieldsAt [(STN_CMD_PAGE, 0), (STN_CMD_JOURNAL, 0), (STN_STATUS_QCOUNT, 0), (STN_STATUS_BUSY, 0)]) noKey [.stnQ, .stnCur] s t)
  ∧ (∀ (s : State), s.dev.stnCur = none → Completes .stnEntryDone s fun t => Still s t)
  ∧ (∀ (s : State) (r : StnRun), s.dev.stnCur = some r → s.dev.stnQ ≠ [] → Completes .stnEntryDone s fun t => t = ({ s.stnWrites r 5 with dev := (s.stnWrites r 5).dev.stnEnded } : State).stnStart)
  ∧ (∀ (s : State) (r : StnRun) (e : StnEnt) (rest : List StnEnt), s.dev.stnCur = some r → r.ent.journal = false → r.data.length = 256 → s.dev.stnQ = e :: rest → s.dev.merge = [] → Completes .stnEntryDone s fun t =>
      t.mem.readBytes (pageAddr r.ent.page) 256 = r.data ∧ (∀ i < 32, t.mem.poison.contains (pageAddr r.ent.page + 8 * i) = r.poison.contains i) ∧ Elsewhere (pageAddr r.ent.page) 256 s t
      ∧ started { s with mem := t.mem } e t ∧ t.dev.stnQ = rest ∧ t.dev.get STN_STATUS_DONE_EV 0 = 1 ∧ t.dev.get STN_STATUS_IDLE_EV 0 = s.dev.get STN_STATUS_IDLE_EV 0 ∧ t.dev.get STN_STATUS_QCOUNT 0 = rest.length % 16
      ∧ t.dev.v .wear (r.ent.page / 256) = min (2 ^ 32 - 1) (s.dev.v .wear (r.ent.page / 256) + 1) ∧ t.pending = s.pending
      ∧ Keeps (fieldsAt [(STN_STATUS_DONE_EV, 0), (STN_STATUS_BUSY, 0), (STN_STATUS_QCOUNT, 0)]) (varsAt [(.wear, r.ent.page / 256)]) [.stnCur, .stnQ] s.dev t.dev)
  ∧ (∀ (s : State) (r : StnRun), s.dev.stnCur = some r → r.ent.journal = false → r.data.length = 256 → s.dev.stnQ = [] → Completes .stnEntryDone s fun t =>
      t.mem.readBytes (pageAddr r.ent.page) 256 = r.data ∧ (∀ i < 32, t.mem.poison.contains (pageAddr r.ent.page + 8 * i) = r.poison.contains i) ∧ Elsewhere (pageAddr r.ent.page) 256 s t ∧ t.dev.stnCur = none
      ∧ t.dev.get STN_STATUS_DONE_EV 0 = 1 ∧ t.dev.get STN_STATUS_IDLE_EV 0 = 1
      ∧ t.dev.get STN_STATUS_BUSY 0 = 0 ∧ t.dev.get STN_STATUS_QCOUNT 0 = 0 ∧ t.dev.v .wear (r.ent.page / 256) = min (2 ^ 32 - 1) (s.dev.v .wear (r.ent.page / 256) + 1) ∧ t.pending = s.pending
      ∧ Keeps (fieldsAt [(STN_STATUS_DONE_EV, 0), (STN_STATUS_IDLE_EV, 0), (STN_STATUS_BUSY, 0), (STN_STATUS_QCOUNT, 0)]) (varsAt [(.wear, r.ent.page / 256)]) [.stnCur] s.dev t.dev)
  ∧ (∀ (s : State) (r : StnRun) (u : Nat), s.dev.stnCur = some r → r.ent.journal = true → r.data.length = 256 → s.dev.stnQ = [] → s.dev.v .undoNext 0 = (u : Nat) → u < 64 → r.ent.page ≠ undoPage u →
      Completes .stnEntryDone s fun t => t.mem.readBytes (pageAddr r.ent.page) 256 = r.data ∧ t.mem.readBytes (pageAddr (undoPage u)) 256 = s.mem.readBytes (pageAddr r.ent.page) 256
        ∧ (∀ a, a < pageAddr r.ent.page ∨ pageAddr r.ent.page + 256 ≤ a → a < pageAddr (undoPage u) ∨ pageAddr (undoPage u) + 256 ≤ a → t.mem.read a = s.mem.read a)
        ∧ t.dev.v .undoNext 0 = ((u + 1) % 64 : Nat) ∧ (∀ x ∈ t.dev.undo, x.slot = u → x.armed = false ∧ x.page = r.ent.page ∧ x.crc = crc32 (s.mem.readBytes (pageAddr r.ent.page) 256)) ∧ t.dev.get STN_STATUS_DONE_EV 0 = 1
        ∧ t.dev.get STN_STATUS_IDLE_EV 0 = 1 ∧ t.dev.get STN_STATUS_BUSY 0 = 0 ∧ t.dev.get STN_STATUS_QCOUNT 0 = 0 ∧ t.dev.stnCur = none ∧ t.pending = s.pending
        ∧ Keeps (fieldsAt [(STN_STATUS_DONE_EV, 0), (STN_STATUS_IDLE_EV, 0), (STN_STATUS_BUSY, 0), (STN_STATUS_QCOUNT, 0)]) (varsIn [.wear, .undoNext, .undoSeq]) [.stnCur, .undo] s.dev t.dev)
  ∧ (∀ (s : State) (init : Fin 16) (ofs : Fin 33554432), s.dev.isOff (stoneBase + ofs) = false → Completes (.stnWindowWrite init ofs) s fun t =>
      t.dev.get STN_STATUS_WIN_WR 0 = min (s.dev.get STN_STATUS_WIN_WR 0 + 1) (2 ^ STN_STATUS_WIN_WR.w - 1) ∧ Frame (fieldsAt [(STN_STATUS_WIN_WR, 0)]) noKey [] s t)
  ∧ (∀ (s : State) (init : Fin 16) (ofs : Fin 33554432), s.dev.isOff (stoneBase + ofs) = true → Completes (.stnWindowWrite init ofs) s fun t =>
      refusedAs s.dev init (stoneBase + ofs) true false t.dev ∧ Frame (regsIn refusalRegs) noKey [] s t)

/-- BOOT_B0 to BOOT_B11, each at its step, do the step's work at its level; done, its F is 0, ALT_EV tells a level above 0, and the next step
starts or, at F = 3, stops boot. A level that fails leaves its code in RESULT and the next is tried; the last one failing, F and FAILS step
and boot begins anew. Not at its step each does nothing. BOOT_B0, ZFILL 0: rollback, straps, interrupted steps, attempt. BOOT_B1: an
unfinished transition's wipe; MR0; SCRAPPED stops. BOOT_B2: the PLLs' source. BOOT_B3: POISON, RECORD, or spares, identity, record, MR2.
BOOT_B4: an image, MR1. BOOT_B5: channels, or none; the transition's wipe. BOOT_B6: trims. BOOT_B7: waits for the load; the other slot; the
safe seed. BOOT_B8: PCIe and the role's ports. BOOT_B9: enumeration, the upstream port, or standing alone, with a RESULT that is a free
value (assumption 33). BOOT_B10: MR0 closed. BOOT_B11: cores released, DONE. BOOT_RETRY, while boot is stopped, releases FAULT_N and begins
again at B0; otherwise it does nothing. BOOT_WATCHDOG, while a step runs, is a WARM reset whose cause is the watchdog, the step being left
started and not ended; otherwise it does nothing. BOOT_FAIL_CLEAR clears the bits written 1 of F and LEVEL of its word's steps, with one
journaled write of the header. (Rests on R274, R280, R317, R332, R341 to R345, R348, R349, R351, R353, R355, R358, R359, R361, R366, R368,
R375.) -/
def Obligations.BootSequence : Prop :=
  (∀ (s : State) (c : Instr) (i : Nat) (straps : BitVec 2) (ref up : Bool) (fac0 fac1 : Option FactoryRec) (trained : BitVec 4) (fac : List (Int × Int × Int)) (cal : List (Option (List (Int × Int × Int)))),
      (c, i) ∈ [(Instr.bootB0 straps, 0), (.bootB1, 1), (.bootB2 ref up, 2), (.bootB3 fac0 fac1, 3), (.bootB4, 4), (.bootB5 trained, 5), (.bootB6 fac cal, 6), (.bootB7, 7), (.bootB8, 8), (.bootB9, 9),
        (.bootB10, 10), (.bootB11, 11)] → s.dev.bootAt i = false → Completes c s fun t => Still s t)
  ∧ (∀ (s : State) (straps : BitVec 2), s.dev.on MEM_STATUS_ZFILL 0 = true → Completes (.bootB0 straps) s fun t => Still s t)
  ∧ (∀ (s : State) (straps : BitVec 2), s.dev.bootAt 0 = true → s.dev.on MEM_STATUS_ZFILL 0 = false → Completes (.bootB0 straps) s fun t =>
      t = (if (s.bootBegin straps.toNat).dev.on BOOT_STATUS_STOPPED 0 then s.bootBegin straps.toNat else (s.bootBegin straps.toNat).bootOk 0 0))
  ∧ (∀ (s : State) (straps : BitVec 2) (n mode : Nat) (l : List Nat), s.dev.bootAt 0 = true → s.dev.on MEM_STATUS_ZFILL 0 = false → s.dev.undo.all (fun x => !x.armed) = true → s.dev.v .jAttempt 0 = (n : Nat) →
      mode = (if s.dev.flag .strapsTaken 0 then s.dev.get BOOT_STATUS_MODE 0 else straps.toNat) → l = interruptedSteps s.logRecords n → Completes (.bootB0 straps) s fun t =>
        t.dev.v .jAttempt 0 = ((n + 1) % 2 ^ 32 : Nat) ∧ t.dev.get BOOT_STATUS_ATTEMPT 0 = (n + 1) % 2 ^ 32 % 2 ^ BOOT_STATUS_ATTEMPT.w ∧ t.dev.get BOOT_STATUS_MODE 0 = mode ∧ t.dev.flag .strapsTaken 0 = true
        ∧ (s.dev.flag .strapsTaken 0 = false → t.dev.on BRM_FCTRL_ROOT 0 = decide (mode = 0)) ∧ t.dev.get BOOT_STATUS_DONE 0 = 0 ∧ t.dev.get STN_STATUS_ROLLBACK 0 = 0
        ∧ (∀ i < 12, 0 < i → t.dev.v .jFail i = (if l.contains i then ((min 3 ((s.dev.v .jFail i).toNat + 1) : Nat) : Int) else s.dev.v .jFail i))
        ∧ t.dev.get RIND_REC_FAILS 0 = (if l = [] then s.dev.get RIND_REC_FAILS 0 else min (s.dev.get RIND_REC_FAILS 0 + 1) (2 ^ RIND_REC_FAILS.w - 1))
        ∧ (s.dev.flag .retryPend 0 = true → t.dev.get PWR_STATUS_RETRY_EV 0 = 1) ∧ (s.dev.flag .jAbNew 0 = true → t.dev.get STN_STATUS_ABANDON_EV 0 = 1) ∧ t.pending = s.pending ∧ Elsewhere (pageAddr 74) 46592 s t
        ∧ Keeps (regsIn ([.BRM_FCTRL, .BRM_CLK, .STN_STATUS, .STN_ABANDON, .PWR_STATUS] ++ bootRegs)) (varsIn ([.strapsTaken, .retryPend, .jAttempt, .jAbNew] ++ bootVars)) [] s.dev t.dev)
  ∧ (∀ (s : State) (straps : BitVec 2) (n : Nat), s.dev.bootAt 0 = true → s.dev.on MEM_STATUS_ZFILL 0 = false → s.dev.undo.all (fun x => !x.armed) = true → s.dev.v .jAttempt 0 = (n : Nat) →
      interruptedSteps s.logRecords n = [] → s.dev.v .jFail 0 ≠ 3 → Completes (.bootB0 straps) s fun t => stepEnded s.dev 0 0 false t.dev)
  ∧ (∀ (s : State), s.dev.bootAt 1 = true → s.dev.fuse.lc = s.dev.fuse.wiped → Completes .bootB1 s fun t =>
      (s.dev.fuse.lc ≠ 4 → stepEnded s.dev 1 0 false t.dev) ∧ (s.dev.fuse.lc = 4 → t.dev.get BOOT_STATUS_STOPPED 0 = 1 ∧ t.dev.v .faultN 0 = 1 ∧ t.dev.get BOOT_STATUS_STOP_EV 0 = 1 ∧ t.dev.v .bootNext 0 = 1)
      ∧ t.dev.mrs = s.dev.mrs.set 0 (shake256 (s.dev.mrs.getD 0 [] ++ shake256 (Config.fuseBytes s.dev.fuseNumbers) 64) 64) ∧ Elsewhere (pageAddr 74) 46592 s t ∧ t.pending = s.pending
      ∧ Keeps (orKey (regsIn bootRegs) (fieldsAt [(SEC_MR_CNT_COUNT, 0)])) (varsIn bootVars) [.mrs] s.dev t.dev)
  ∧ (∀ (s : State), s.dev.bootAt 1 = true → s.dev.fuse.lc ≠ s.dev.fuse.wiped → Completes .bootB1 s fun t => t.dev.fuse.wiped = (if cfgBad (s.mem.readBytes cfgAddr 256) then s.dev.fuse.lc else s.dev.fuse.wiped)
      ∧ t.dev.fuse.lc = s.dev.fuse.lc ∧ t.dev.on BOOT_STATUS_STOPPED 0 = decide (s.dev.fuse.lc = 4) ∧ t.dev.v .bootNext 0 = (if s.dev.fuse.lc = 4 then 1 else 2) ∧ t.dev.on MEM_STATUS_ZFILL 0 = false
      ∧ (∀ i < 12, t.dev.v .jFail i = 0 ∧ t.dev.v .jLevel i = 0) ∧ t.mem.marked = [] ∧ t.dev.retVars = [] ∧ t.dev.retRegs = []
      ∧ (∀ x, (lcRegions (decide (s.dev.fuse.lc = 4))).any (fun r => decide (pageAddr r.1 ≤ x ∧ x < pageAddr (r.1 + r.2))) = true → t.mem.read x = 0) ∧ (∀ x, sramBase ≤ x → x < sramBase + 0x80_0000 → t.mem.read x = 0) ∧ t.pending = s.pending
      ∧ Keeps (orKey (regsIn (bootRegs ++ [.MEM_STATUS, .RIND_PWR])) (fieldsAt [(SEC_MR_CNT_COUNT, 0)])) (varsIn bootVars) [.mrs, .merge, .retVars, .retRegs, .fuse] s.dev t.dev)
  ∧ (∀ (s : State) (ref up a b : Bool) (l : Nat), s.dev.bootAt 2 = true → s.dev.v .bootLevel 0 = (l : Nat) → l ≤ 1 → a = (if s.dev.on BRM_CLK_SRC 0 != decide (l = 1) then up else ref) →
      b = (if s.dev.on BRM_CLK_SRC 0 then ref else up) → Completes (.bootB2 ref up) s fun t =>
        (a = true → stepEnded s.dev 2 l true t.dev ∧ t.dev.on BRM_CLK_SRC_NOW 0 = (s.dev.on BRM_CLK_SRC 0 != decide (l = 1)))
        ∧ (a = false → t.dev.get BOOT_STATUS_RESULT 0 = 6 ∧ (if l = 0 ∧ b = true then stepEnded s.dev 2 1 true t.dev ∧ t.dev.on BRM_CLK_SRC_NOW 0 = !(s.dev.on BRM_CLK_SRC 0) else stepFailed s.dev 2 t.dev))
        ∧ ((a = true ∨ l = 0 ∧ b = true) → t.dev.on BRM_CLK_LOCKED 0 = t.dev.on BRM_CLK_SRC_NOW 0 ∧ t.dev.get PWR_STATUS_PLL_CLK 0 = 1) ∧ Elsewhere (pageAddr 74) 46592 s t ∧ t.pending = s.pending
        ∧ Keeps (regsIn (bootRegs ++ [.BRM_CLK, .PWR_STATUS])) (varsIn bootVars) [] s.dev t.dev)
  ∧ (∀ (s : State) (fac0 fac1 : Option FactoryRec) (r : List Byte) (bad : Bool), s.dev.bootAt 3 = true → s.dev.v .bootLevel 0 = 0 → s.dev.merge = [] → r = s.mem.readBytes cfgAddr 256 →
      bad = (stonePoison s.mem (factoryAddr false) 0x1_0000 || stonePoison s.mem (factoryAddr true) 0x1_0000 || stonePoison s.mem cfgAddr 256) → Completes (.bootB3 fac0 fac1) s fun t =>
        (if bad then stepFailed s.dev 3 t.dev ∧ t.dev.get BOOT_STATUS_RESULT 0 = 3
          else if fac0.isNone ∧ fac1.isNone then stepFailed s.dev 3 t.dev ∧ t.dev.get BOOT_STATUS_RESULT 0 = 7 else stepEnded s.dev 3 0 false t.dev)
        ∧ t.dev.on BOOT_STATUS_CFG_DEFAULT 0 = cfgBad r ∧ t.dev.get MEM_STATUS_FITTED 0 = (if cfgBad r then 0 else field r 5 1 % 16) ∧ t.dev.v .cfgFlags 0 = ((if cfgBad r then 0 else field r 4 1 : Nat) : Int)
        ∧ t.dev.v .cfgWait 0 = ((if cfgBad r then 500 else field r 6 2 : Nat) : Int)
        ∧ (∀ f ∈ fac0.or fac1, bad = false → t.dev.get I3C_PID_MFR 0 = f.mfr % 2 ^ I3C_PID_MFR.w ∧ t.dev.get I3C_PID_INST 0 = f.inst % 2 ^ I3C_PID_INST.w
          ∧ (∀ i < 64, t.dev.v .mspare i = (s.dev.bootSpares f.spares).v .mspare i)
          ∧ t.dev.mrs = s.dev.mrs.set 2 (shake256 (s.dev.mrs.getD 2 [] ++ shake256 ((if cfgBad r then Config.defaultRecord else r) ++ s.mem.readBytes (factoryAddr (!fac0.isSome)) (min 0x1_0000 f.len)) 64) 64))
        ∧ Elsewhere (pageAddr 74) 46592 s t ∧ t.pending = s.pending
        ∧ Keeps (orKey (regsIn (bootRegs ++ [.I3C_PID, .MEM_STATUS])) (fieldsAt [(SEC_MR_CNT_COUNT, 2), (STN_STATUS_UE_EV, 0)])) (varsIn ([.mspare, .cfgFlags, .cfgWait] ++ bootVars)) [.mrs] s.dev t.dev)
  ∧ (∀ (s : State) (l : Nat) (e f : Option (Nat)), s.dev.bootAt 4 = true → s.dev.v .bootLevel 0 = (l : Nat) → l ≤ 1 → s.dev.merge = [] → e = imageFault s l → f = imageFault s 1 → Completes .bootB4 s fun t =>
      (e = none → stepEnded s.dev 4 l true t.dev ∧ imageTaken s l t) ∧ (∀ k ∈ e, l = 0 → f = none → stepEnded s.dev 4 1 true t.dev ∧ t.dev.get BOOT_STATUS_RESULT 0 = k ∧ imageTaken s 1 t)
      ∧ (∀ k ∈ f, e ≠ none → stepFailed s.dev 4 t.dev ∧ t.dev.get BOOT_STATUS_RESULT 0 = k) ∧ t.pending = s.pending
      ∧ (∀ a, a < sramBase ∨ sramBase + 0x80_0000 ≤ a → a < spareBase ∨ spareBase + 0x1000 ≤ a → a < pageAddr 74 ∨ pageAddr 256 ≤ a → t.mem.read a = s.mem.read a))
  ∧ (∀ (s : State) (trained : BitVec 4) (l fit : Nat) (good : Bool), s.dev.bootAt 5 = true → s.dev.v .bootLevel 0 = (l : Nat) → l ≤ 1 → fit = s.dev.get MEM_STATUS_FITTED 0 →
      good = (decide (l = 0) && (List.range 4).all (fun c => !(fit.testBit c) || trained.toNat.testBit c)) → Completes (.bootB5 trained) s fun t =>
        stepEnded s.dev 5 (if good then 0 else 1) true t.dev ∧ t.dev.get MEM_STATUS_TRAINED 0 = (if good then fit % 2 ^ MEM_STATUS_TRAINED.w else 0)
        ∧ (good = true → t.dev.v .lpSelf 0 = 0 ∧ t.dev.get MEM_GRANULES_COUNT 0 = (t.dev.chans * t.dev.chanBytes / 0x10_0000 - 1) % 2 ^ MEM_GRANULES_COUNT.w ∧ t.dev.fuse.wiped = s.dev.fuse.lc
          ∧ (s.dev.fuse.lc ≠ s.dev.fuse.wiped → t.mem.marked = [] ∧ t.mem.fills = []))
        ∧ (good = false → t.dev.get MEM_GRANULES_COUNT 0 = 0 ∧ t.dev.get BOOT_STATUS_NO_LPDDR6 0 = 1 ∧ t.dev.get BOOT_STATUS_ALT_EV 0 = 1 ∧ t.dev.fuse = s.dev.fuse) ∧ (good = false → l = 0 → t.dev.get BOOT_STATUS_RESULT 0 = 5)
        ∧ (s.dev.fuse.lc = s.dev.fuse.wiped → t.mem.marked = s.mem.marked) ∧ t.pending = s.pending ∧ Keeps (regsIn (bootRegs ++ [.MEM_STATUS, .MEM_GRANULES])) (varsIn ([.lpSelf] ++ bootVars)) [.fuse] s.dev t.dev)
  ∧ (∀ (s : State) (fac : List (Int × Int × Int)) (cal : List (Option (List (Int × Int × Int)))) (l : Nat) (bad bad1 : Bool), s.dev.bootAt 6 = true → s.dev.v .bootLevel 0 = (l : Nat) → l ≤ 1 → s.dev.merge = [] →
      bad = stonePoison s.mem (factoryAddr false) 0x1_0000 → bad1 = (decide (l = 0) && stonePoison s.mem (pageAddr 0x200) 0x1_0000) → Completes (.bootB6 fac cal) s fun t =>
        (bad = true → stepFailed s.dev 6 t.dev) ∧ ((bad || bad1) = true → t.dev.get BOOT_STATUS_RESULT 0 = 3)
        ∧ (bad = false → stepEnded s.dev 6 (if bad1 then 1 else l) true t.dev ∧ slicesSet s.dev (if bad1 then 1 else l) fac cal t.dev)
        ∧ (bad = false → s.dev.v .jFail 7 ≠ 3 → t.dev.v .bootLevel 0 < 2 → s.dev.fuse.lc = 2 → s.dev.on SEED_STATUS_BUSY 0 = false →
          t.dev.on SEED_STATUS_BUSY 0 = true ∧ t.dev.v .seedCmd 0 = 1 ∧ t.dev.v .seedSrc 0 = (1 + s.dev.bootSlot (t.dev.v .bootLevel 0).toNat : Nat))
        ∧ Elsewhere (pageAddr 74) 46592 s t ∧ t.pending = s.pending
        ∧ Keeps (orKey (regsIn (bootRegs ++ [.SEED_CTRL, .SEED_STATUS])) (orKey (fieldsIn [LL_ADC_CTRL_ACC_SHIFT, LL_ADC_CTRL_SKEW_SHIFT]) (fieldsAt [(STN_STATUS_UE_EV, 0)])))
            (varsIn ([.facOfs, .facGain, .facSkew, .sliceOfs, .sliceGain, .sliceSkew, .ofsSum, .ofsCnt, .ofsDone, .gainSum, .gainCnt, .gainDone, .skewSum, .skewCnt, .skewDone, .fgWant, .seedCmd, .seedSrc, .seedAddr, .seedWarm, .seedHold, .seedHdr, .seedBad] ++ bootVars)) [.seedBuf] s.dev t.dev)
  ∧ (∀ (s : State), s.dev.bootAt 7 = true → s.dev.fuse.lc = 2 → s.dev.v .bootLevel 0 < 2 → s.dev.on SEED_STATUS_BUSY 0 = true → Completes .bootB7 s fun t => Still s t)
  ∧ (∀ (s : State) (l : Nat), s.dev.bootAt 7 = true → s.dev.fuse.lc = 2 → s.dev.v .bootLevel 0 = (l : Nat) → l < 2 → s.dev.on SEED_STATUS_BUSY 0 = false → s.dev.get SEED_STATUS_RESULT 0 = 1 → Completes .bootB7 s fun t =>
      stepEnded s.dev 7 l true t.dev ∧ t.dev.get BOOT_STATUS_SEED_SLOT 0 = s.dev.bootSlot l ∧ t.dev.v .jSeedLast 0 = (s.dev.bootSlot l : Nat) ∧ t.dev.get RIND_PWR_RET_VALID 0 = 0 ∧ Elsewhere (pageAddr 74) 46592 s t
      ∧ t.pending = s.pending ∧ Keeps (regsIn (bootRegs ++ [.RIND_PWR])) (varsIn ([.jSeedLast] ++ bootVars)) [] s.dev t.dev)
  ∧ (∀ (s : State) (code : Nat), s.dev.bootAt 7 = true → s.dev.fuse.lc = 2 → s.dev.v .bootLevel 0 = 0 → s.dev.on SEED_STATUS_BUSY 0 = false → s.dev.get SEED_STATUS_RESULT 0 ≠ 1 → s.dev.merge = [] →
      code = (if s.dev.get SEED_STATUS_ERR 0 = 6 ∧ s.dev.flag .seedBad 0 then 3 else 4) → Completes .bootB7 s fun t => t.dev.get BOOT_STATUS_RESULT 0 = code ∧ t.dev.v .bootLevel 0 = 1 ∧ t.dev.v .bootNext 0 = 7
        ∧ t.dev.on SEED_STATUS_BUSY 0 = true ∧ t.dev.v .seedCmd 0 = 1 ∧ t.dev.v .seedSrc 0 = (1 + s.dev.bootSlot 1 : Nat)
        ∧ Frame (orKey (regsIn (bootRegs ++ [.SEED_CTRL, .SEED_STATUS])) (fieldsAt [(STN_STATUS_UE_EV, 0)])) (varsIn [.bootLevel, .seedCmd, .seedSrc, .seedAddr, .seedWarm, .seedHold, .seedHdr, .seedBad]) [.seedBuf] s t)
  ∧ (∀ (s : State) (l : Nat) (own : Bool), s.dev.bootAt 7 = true → s.dev.v .bootLevel 0 = (l : Nat) → own = decide (s.dev.fuse.lc = 2) →
      (own = false ∨ 2 ≤ l ∨ l = 1 ∧ s.dev.on SEED_STATUS_BUSY 0 = false ∧ s.dev.get SEED_STATUS_RESULT 0 ≠ 1) → Completes .bootB7 s fun t =>
        stepEnded s.dev 7 (if own then 2 else 0) own t.dev ∧ t.dev.get BOOT_STATUS_SAFE_SEED 0 = 1 ∧ t.dev.bunch0 = BunchDesc.none ∧ t.dev.bunch1 = BunchDesc.none ∧ t.dev.get RIND_PWR_RET_VALID 0 = 0 ∧ t.pending = s.pending
        ∧ (own = true → l = 1 → t.dev.get BOOT_STATUS_RESULT 0 = (if s.dev.get SEED_STATUS_ERR 0 = 6 ∧ s.dev.flag .seedBad 0 then 3 else 4))
        ∧ Keeps (regsIn (bootRegs ++ [.RIND_PWR])) (varsIn bootVars) [] s.safeSeed.dev t.dev)
  ∧ (∀ (s : State) (mode : Nat), s.dev.bootAt 8 = true → s.dev.v .bootLevel 0 = 0 → mode = s.dev.get BOOT_STATUS_MODE 0 → Completes .bootB8 s fun t => stepEnded s.dev 8 0 false t.dev ∧ t.dev.flag .pcieOn 0 = decide (mode = 0)
      ∧ (s.dev.v .jFail 9 ≠ 3 → t.dev.v .bootLevel 0 = 0 → ∀ p ∈ rolePorts mode, t.dev.get BRM_PCTRL_EN p = 1 ∧ (s.dev.get BRM_PSTATUS_STATE p = 0 → t.dev.get BRM_PSTATUS_STATE p = (if s.dev.get BRM_PCTRL_LOOP p = 0 then 1 else brmLOOP)))
      ∧ (∀ p < 3, p ∉ rolePorts mode → t.dev.get BRM_PCTRL_EN p = s.dev.get BRM_PCTRL_EN p) ∧ Elsewhere (pageAddr 74) 46592 s t ∧ t.pending = s.pending
      ∧ Keeps (orKey (regsIn bootRegs) (fieldsIn [BRM_PCTRL_EN, BRM_PSTATUS_STATE, BRM_PSTATUS_COMPAT])) (varsIn ([.pcieOn] ++ bootVars)) [] s.dev t.dev)
  ∧ (∀ (s : State) (mode : Nat), s.dev.bootAt 9 = true → s.dev.v .bootLevel 0 = 0 → mode = s.dev.get BOOT_STATUS_MODE 0 → (mode = 0 ∨ mode = 3 ∨ s.dev.brmActive 0 = true) → Completes .bootB9 s fun t =>
      stepEnded s.dev 9 0 false t.dev ∧ Elsewhere (pageAddr 74) 46592 s t ∧ t.pending = s.pending ∧ queuesOf (if mode = 0 then s.dev.enumWrite else s.dev) t.dev
      ∧ Keeps (regsIn bootRegs) (varsIn bootVars) [] (if mode = 0 then s.dev.enumWrite else s.dev) t.dev)
  ∧ (∀ (s : State) (l mode : Nat), s.dev.bootAt 9 = true → s.dev.v .bootLevel 0 = (l : Nat) → l ≤ 1 → mode = s.dev.get BOOT_STATUS_MODE 0 → (l = 1 ∨ mode ≠ 0 ∧ mode ≠ 3 ∧ s.dev.brmActive 0 = false) → Completes .bootB9 s fun t =>
      stepEnded s.dev 9 1 false t.dev ∧ t.dev.get BOOT_STATUS_STANDALONE 0 = 1 ∧ (∀ p < 3, t.dev.get BRM_PCTRL_EN p = 0 ∧ (s.dev.on BRM_PCTRL_EN p = true → t.dev.get BRM_PSTATUS_STATE p = 0))
      ∧ (l = 0 → t.dev.get BOOT_STATUS_RESULT 0 = s.dev.freeNat 8) ∧ Elsewhere (pageAddr 74) 46592 s t ∧ t.pending = s.pending
      ∧ Keeps (regsIn bootRegs) (varsIn bootVars) [.fresh] s.dev.standAlone t.dev)
  ∧ (∀ (s : State), s.dev.bootAt 10 = true → s.dev.v .bootLevel 0 = 0 → Completes .bootB10 s fun t => stepEnded s.dev 10 0 false t.dev ∧ t.dev.get SEC_LC_BOOT_CLOSED 0 = 1
      ∧ t.dev.mrs = s.dev.mrs.set 0 (shake256 (s.dev.mrs.getD 0 [] ++ shake256 s.dev.closeBytes 64) 64) ∧ Elsewhere (pageAddr 74) 46592 s t ∧ t.pending = s.pending
      ∧ Keeps (orKey (regsIn bootRegs) (fieldsAt [(SEC_LC_BOOT_CLOSED, 0), (SEC_MR_CNT_COUNT, 0)])) (varsIn bootVars) [.mrs] s.dev t.dev)
  ∧ (∀ (s : State) (e : Nat), s.dev.bootAt 11 = true → s.dev.v .fwEntry 0 = (e : Nat) → Completes .bootB11 s fun t => t.dev.get BOOT_STATUS_DONE 0 = 1
      ∧ t.dev.get BOOT_STATUS_STEP 0 = 12 ∧ t.dev.get BOOT_VEC_LO_ADDR 0 = (sramBase + e) % 2 ^ BOOT_VEC_LO_ADDR.w ∧ t.dev.get BOOT_VEC_HI_ADDR 0 = 0 ∧ (∀ c < 4, t.dev.v .coreHeld c = 0) ∧ (∀ c < 4, t.dev.v .corePc c = (sramBase + e : Nat))
      ∧ t.dev.get TOP_LOCK_LOCK 0 = (if (s.dev.v .cfgFlags 0).toNat.testBit 2 then 1 else s.dev.get TOP_LOCK_LOCK 0) ∧ t.dev.v .jFail 11 = 0 ∧ t.dev.v .bootNext 0 = 12 ∧ Elsewhere (pageAddr 74) 46592 s t ∧ t.pending = s.pending
      ∧ Keeps (regsIn (bootRegs ++ [.BOOT_VEC_LO, .BOOT_VEC_HI, .TOP_LOCK])) (varsIn ([.coreHeld, .corePc] ++ bootVars)) [] s.dev t.dev)
  ∧ (∀ (s : State), s.dev.on BOOT_STATUS_STOPPED 0 = true → Completes .bootRetry s fun t => t.dev.get BOOT_STATUS_STOPPED 0 = 0 ∧ t.dev.v .faultN 0 = 0 ∧ t.dev.v .bootNext 0 = 0
      ∧ Frame (fieldsAt [(BOOT_STATUS_STOPPED, 0)]) (varsAt [(.faultN, 0), (.bootNext, 0)]) [] s t)
  ∧ (∀ (s : State), s.dev.on BOOT_STATUS_STOPPED 0 = false → Completes .bootRetry s fun t => Still s t)
  ∧ (∀ (s : State) (i : Nat) (k : Fin 5), s.dev.bootAt i = true → i < 12 → Completes (.bootWatchdog k) s fun t => t.dev.get RIND_REC_CAUSE 0 = 4
      ∧ t.dev.v .bootNext 0 = 0 ∧ t.dev.on MEM_STATUS_ZFILL 0 = true ∧ t.dev.devGen = (s.dev.devGen + 1) % 256 ∧ t.dev.v .faultN 0 = 0 ∧ t.dev.fuse = s.dev.fuse ∧ t.pending = s.pending)
  ∧ (∀ (s : State) (i : Nat) (k : Fin 5), s.dev.bootAt i = true → 1 ≤ i → i < 12 → Completes (.bootWatchdog k) s fun t => t = s.warm causeWATCHDOG k ∧ ∀ j < 12, t.dev.v .jFail j = s.dev.v .jFail j)
  ∧ (∀ (s : State) (k : Fin 5), s.dev.bootAt 0 = true → Completes (.bootWatchdog k) s fun t => t = (s.bootBegin (s.dev.get BOOT_STATUS_MODE 0)).warm causeWATCHDOG k)
  ∧ (∀ (s : State) (k : Fin 5), (∀ i < 12, s.dev.bootAt i = false) → Completes (.bootWatchdog k) s fun t => Still s t)
  ∧ (∀ (s : State) (second : Bool) (w : Word) (u : Nat), s.dev.v .undoNext 0 = (u : Nat) → Completes (.bootFailClear second w) s fun t =>
      (∀ i < 12, (decide (8 ≤ i) = second → t.dev.v .jFail i = (Nat.land (s.dev.v .jFail i).toNat (3 - w.toNat / 2 ^ (4 * (i % 8)) % 4) : Nat)
          ∧ t.dev.v .jLevel i = (Nat.land (s.dev.v .jLevel i).toNat (3 - w.toNat / 2 ^ (4 * (i % 8) + 2) % 4) : Nat))
        ∧ (decide (8 ≤ i) = !second → t.dev.v .jFail i = s.dev.v .jFail i ∧ t.dev.v .jLevel i = s.dev.v .jLevel i))
      ∧ t.dev.v .jSeq 0 = s.dev.v .jSeq 0 + 1 ∧ t.pending = s.pending ∧ Elsewhere (pageAddr (undoPage u)) 256 s t ∧ Keeps noKey (varsIn [.jFail, .jLevel, .jSeq, .wear, .undoNext, .undoSeq]) [.undo] s.dev t.dev)

/-- SEC_VERIFY_FW, SEC_VERIFY_APP, SEC_EXTEND, SEC_CHALLENGE and SEC_SVN_BUMP store OP and MR; while a command runs each is refused BUSY; an
image or digest that is not in management SRAM, 16-byte aligned, is refused SOURCE, an extension of MR0 to MR4 STATE; else the command
begins and reads its source. SEC_COMMAND_DONE ends the running command with its code: with none, an applet's digest is extended into MR4,
the 64 bytes into their register, 32 free bytes are the challenge (the random source's values are free, R365), the fused security version
rises to the firmware's, an owner key is fused or revoked; with a code nothing else happens; without a command, or in a transition, it does
nothing. ATT_START copies the report's values and begins, or is refused with its code. ATT_DONE writes the report and its signature and ends
it; without one it does nothing. (Rests on R355, R359 to R365.) -/
def Obligations.SecCommands : Prop :=
  (∀ (s : State) (mr : BitVec 3) (c : Instr) (op : Nat), (c, op) ∈ [(Instr.secVerifyFw mr, 1), (.secVerifyApp mr, 2), (.secExtend mr, 3), (.secChallenge mr, 4), (.secSvnBump mr, 6)] →
      s.dev.on SEC_STATUS_CMD_BUSY 0 = true → Completes c s fun t => t.dev.get SEC_STATUS_CMD_ERR 0 = 9 ∧ t.dev.get SEC_STATUS_CMD_DONE 0 = 1 ∧ t.dev.get SEC_CMD_OP 0 = op ∧ t.dev.get SEC_CMD_MR 0 = mr.toNat
        ∧ Frame (regsIn [.SEC_CMD, .SEC_STATUS]) noKey [] s t)
  ∧ (∀ (s : State) (mr : BitVec 3) (c : Instr) (op : Nat), (c, op) ∈ [(Instr.secVerifyFw mr, 1), (.secVerifyApp mr, 2), (.secExtend mr, 3)] → s.dev.on SEC_STATUS_CMD_BUSY 0 = false → s.dev.secSrcOk 64 = false → (op ≠ 3 ∨ 5 ≤ mr.toNat) →
      Completes c s fun t => t.dev.get SEC_STATUS_CMD_ERR 0 = 8 ∧ t.dev.get SEC_STATUS_CMD_DONE 0 = 1 ∧ t.dev.get SEC_STATUS_CMD_BUSY 0 = 0 ∧ t.dev.get SEC_CMD_OP 0 = op ∧ t.dev.get SEC_CMD_MR 0 = mr.toNat
        ∧ Frame (regsIn [.SEC_CMD, .SEC_STATUS]) noKey [] s t)
  ∧ (∀ (s : State) (mr : BitVec 3) (x : State × List Byte × Nat), s.dev.on SEC_STATUS_CMD_BUSY 0 = false → s.dev.secSrcOk 64 = true → x = (s.put ((s.dev.set SEC_CMD_OP 0 1).set SEC_CMD_MR 0 mr.toNat)).secImage →
      Completes (.secVerifyFw mr) s fun t => t.dev.get SEC_STATUS_CMD_BUSY 0 = 1 ∧ t.dev.v .secOp 0 = 1 ∧ t.dev.v .secRes 0 = (x.1.dev.imageErr true x.2.1 x.2.2 : Nat) ∧ t.mem = x.1.mem ∧ t.pending = s.pending
        ∧ Keeps (fieldsAt [(SEC_STATUS_CMD_BUSY, 0)]) (varsIn [.secOp, .secRes]) [] x.1.dev t.dev)
  ∧ (∀ (s : State) (mr : BitVec 3) (x : State × List Byte × Nat), s.dev.on SEC_STATUS_CMD_BUSY 0 = false → s.dev.secSrcOk 64 = true → x = (s.put ((s.dev.set SEC_CMD_OP 0 2).set SEC_CMD_MR 0 mr.toNat)).secImage →
      Completes (.secVerifyApp mr) s fun t => t.dev.get SEC_STATUS_CMD_BUSY 0 = 1 ∧ t.dev.v .secOp 0 = 2 ∧ t.dev.v .secRes 0 = (x.1.dev.imageErr false x.2.1 x.2.2 : Nat)
        ∧ t.dev.secDig = shake256 (imageBytes 3 x.2.1 (field x.2.1 0x14 4)) 64 ∧ t.mem = x.1.mem ∧ t.pending = s.pending ∧ Keeps (fieldsAt [(SEC_STATUS_CMD_BUSY, 0)]) (varsIn [.secOp, .secRes]) [.secDig] x.1.dev t.dev)
  ∧ (∀ (s : State) (mr : BitVec 3) (a room e : Nat) (m : List Byte), s.dev.on SEC_STATUS_CMD_BUSY 0 = false → s.dev.secSrcOk 64 = true → a = s.dev.secSrc → room = sramBase + 0x80_0000 - a → s.dev.merge = [] →
      s.dev.on MEM_STATUS_ZFILL 0 = false → (∀ i < 64, s.dev.v .mspare i = 0) → m = s.mem.readBytes a (clampN 64 (min room 0x40_0000) (field (s.mem.readBytes a 64) 8 4)) → e = s.dev.imageErr true m room → Completes (.secVerifyFw mr) s fun t =>
        t.dev.get SEC_STATUS_CMD_BUSY 0 = 1 ∧ t.dev.v .secOp 0 = 1 ∧ t.dev.v .secRes 0 = (e : Nat) ∧ t.dev.get SEC_CMD_OP 0 = 1 ∧ t.dev.get SEC_CMD_MR 0 = mr.toNat
        ∧ Frame (orKey (regsIn [.SEC_CMD]) (fieldsAt [(SEC_STATUS_CMD_BUSY, 0)])) (varsIn [.secOp, .secRes]) [] s t)
  ∧ (∀ (s : State) (mr : BitVec 3) (a room e : Nat) (m : List Byte), s.dev.on SEC_STATUS_CMD_BUSY 0 = false → s.dev.secSrcOk 64 = true → a = s.dev.secSrc → room = sramBase + 0x80_0000 - a → s.dev.merge = [] →
      s.dev.on MEM_STATUS_ZFILL 0 = false → (∀ i < 64, s.dev.v .mspare i = 0) → m = s.mem.readBytes a (clampN 64 (min room 0x40_0000) (field (s.mem.readBytes a 64) 8 4)) → e = s.dev.imageErr false m room → Completes (.secVerifyApp mr) s fun t =>
        t.dev.get SEC_STATUS_CMD_BUSY 0 = 1 ∧ t.dev.v .secOp 0 = 2 ∧ t.dev.v .secRes 0 = (e : Nat) ∧ t.dev.secDig = shake256 (imageBytes 3 m (field m 0x14 4)) 64 ∧ t.dev.get SEC_CMD_OP 0 = 2 ∧ t.dev.get SEC_CMD_MR 0 = mr.toNat
        ∧ Frame (orKey (regsIn [.SEC_CMD]) (fieldsAt [(SEC_STATUS_CMD_BUSY, 0)])) (varsIn [.secOp, .secRes]) [.secDig] s t)
  ∧ (∀ (s : State) (mr : BitVec 3), s.dev.on SEC_STATUS_CMD_BUSY 0 = false → mr.toNat < 5 → Completes (.secExtend mr) s fun t => t.dev.get SEC_STATUS_CMD_ERR 0 = 10 ∧ t.dev.get SEC_STATUS_CMD_DONE 0 = 1
        ∧ t.dev.get SEC_STATUS_CMD_BUSY 0 = 0 ∧ t.dev.get SEC_CMD_OP 0 = 3 ∧ t.dev.get SEC_CMD_MR 0 = mr.toNat ∧ Frame (regsIn [.SEC_CMD, .SEC_STATUS]) noKey [] s t)
  ∧ (∀ (s : State) (mr : BitVec 3) (x : State × List Byte × Bool), s.dev.on SEC_STATUS_CMD_BUSY 0 = false → 5 ≤ mr.toNat → s.dev.secSrcOk 64 = true → x = (s.put ((s.dev.set SEC_CMD_OP 0 3).set SEC_CMD_MR 0 mr.toNat)).fetch s.dev.secSrc 64 →
      Completes (.secExtend mr) s fun t => t.dev.get SEC_STATUS_CMD_BUSY 0 = 1 ∧ t.dev.v .secOp 0 = 3 ∧ t.dev.v .secMr 0 = (mr.toNat : Nat) ∧ t.dev.v .secRes 0 = 0 ∧ t.dev.secDig = x.2.1 ∧ t.mem = x.1.mem ∧ t.pending = s.pending
        ∧ Keeps (fieldsAt [(SEC_STATUS_CMD_BUSY, 0)]) (varsIn [.secOp, .secRes, .secMr]) [.secDig] x.1.dev t.dev)
  ∧ (∀ (s : State) (mr : BitVec 3) (a : Nat), s.dev.on SEC_STATUS_CMD_BUSY 0 = false → 5 ≤ mr.toNat → s.dev.secSrcOk 64 = true → a = s.dev.secSrc → s.dev.merge = [] →
      s.dev.on MEM_STATUS_ZFILL 0 = false → (∀ i < 64, s.dev.v .mspare i = 0) → Completes (.secExtend mr) s fun t => t.dev.get SEC_STATUS_CMD_BUSY 0 = 1 ∧ t.dev.v .secMr 0 = (mr.toNat : Nat)
        ∧ t.dev.secDig = s.mem.readBytes a 64 ∧ Frame (orKey (regsIn [.SEC_CMD]) (fieldsAt [(SEC_STATUS_CMD_BUSY, 0)])) (varsIn [.secOp, .secRes, .secMr]) [.secDig] s t)
  ∧ (∀ (s : State) (mr : BitVec 3), s.dev.on SEC_STATUS_CMD_BUSY 0 = false → Completes (.secChallenge mr) s fun t => t.dev.get SEC_STATUS_CMD_BUSY 0 = 1 ∧ t.dev.v .secOp 0 = 4 ∧ t.dev.v .secRes 0 = 0
        ∧ t.dev.get SEC_CMD_OP 0 = 4 ∧ t.dev.get SEC_CMD_MR 0 = mr.toNat ∧ Frame (orKey (regsIn [.SEC_CMD]) (fieldsAt [(SEC_STATUS_CMD_BUSY, 0)])) (varsIn [.secOp, .secRes]) [] s t)
  ∧ (∀ (s : State) (mr : BitVec 3), s.dev.on SEC_STATUS_CMD_BUSY 0 = false → Completes (.secSvnBump mr) s fun t => t.dev.get SEC_STATUS_CMD_BUSY 0 = 1 ∧ t.dev.v .secOp 0 = 6 ∧ t.dev.v .secRes 0 = 0
        ∧ t.dev.get SEC_CMD_OP 0 = 6 ∧ t.dev.get SEC_CMD_MR 0 = mr.toNat ∧ Frame (orKey (regsIn [.SEC_CMD]) (fieldsAt [(SEC_STATUS_CMD_BUSY, 0)])) (varsIn [.secOp, .secRes]) [] s t)
  ∧ (∀ (s : State) (k op : Nat), s.dev.on SEC_STATUS_CMD_BUSY 0 = true → s.dev.v .lcCmd 0 = 0 → s.dev.v .secOp 0 = (op : Nat) → (op = 2 ∨ op = 3) → s.dev.v .secRes 0 = 0 → k = (if op = 2 then 4 else (s.dev.v .secMr 0).toNat) → k < 8 → Completes .secCommandDone s fun t =>
        t.dev.mrs = s.dev.mrs.set k (shake256 (s.dev.mrs.getD k [] ++ s.dev.secDig) 64) ∧ t.dev.get SEC_MR_CNT_COUNT k = min (s.dev.get SEC_MR_CNT_COUNT k + 1) (2 ^ SEC_MR_CNT_COUNT.w - 1)
        ∧ t.dev.get SEC_STATUS_CMD_BUSY 0 = 0 ∧ t.dev.get SEC_STATUS_CMD_ERR 0 = 0 ∧ t.dev.get SEC_STATUS_CMD_DONE 0 = 1
        ∧ Frame (orKey (regsIn [.SEC_STATUS]) (fieldsAt [(SEC_MR_CNT_COUNT, k)])) (varsAt [(.secOp, 0)]) [.mrs, .secDig] s t)
  ∧ (∀ (s : State), s.dev.on SEC_STATUS_CMD_BUSY 0 = true → s.dev.v .lcCmd 0 = 0 → s.dev.v .secOp 0 = 4 → s.dev.v .secRes 0 = 0 → Completes .secCommandDone s fun t => t.dev.fresh = s.dev.fresh + 32
        ∧ (∀ w < 8, t.dev.get SEC_CHAL_CHAL w = leNat (slice (s.dev.freeBytes 32) (4 * w) 4)) ∧ t.dev.get SEC_STATUS_CMD_DONE 0 = 1 ∧ t.dev.get SEC_STATUS_CMD_BUSY 0 = 0 ∧ t.dev.get SEC_STATUS_CMD_ERR 0 = 0
        ∧ Frame (regsIn [.SEC_STATUS, .SEC_CHAL]) (varsAt [(.secOp, 0)]) [.secDig, .fresh] s t)
  ∧ (∀ (s : State), s.dev.on SEC_STATUS_CMD_BUSY 0 = true → s.dev.v .lcCmd 0 = 0 → s.dev.v .secOp 0 = 6 → s.dev.v .secRes 0 = 0 → Completes .secCommandDone s fun t => t.dev.fuse = { s.dev.fuse with svn := max s.dev.fuse.svn (s.dev.v .fwSvn 0).toNat }
        ∧ t.dev.get SEC_STATUS_CMD_DONE 0 = 1 ∧ t.dev.get SEC_STATUS_CMD_BUSY 0 = 0 ∧ t.dev.get SEC_STATUS_CMD_ERR 0 = 0 ∧ Frame (regsIn [.SEC_STATUS]) (varsAt [(.secOp, 0)]) [.fuse, .secDig] s t)
  ∧ (∀ (s : State) (e op : Nat), s.dev.on SEC_STATUS_CMD_BUSY 0 = true → s.dev.v .lcCmd 0 = 0 → s.dev.v .secRes 0 = (e : Nat) → s.dev.v .secOp 0 = (op : Nat) → (e ≠ 0 ∨ op < 2 ∨ 6 < op) → Completes .secCommandDone s fun t =>
        t.dev.get SEC_STATUS_CMD_ERR 0 = e % 2 ^ SEC_STATUS_CMD_ERR.w ∧ t.dev.get SEC_STATUS_CMD_DONE 0 = 1 ∧ t.dev.get SEC_STATUS_CMD_BUSY 0 = 0
        ∧ Frame (regsIn [.SEC_STATUS]) (varsAt [(.secOp, 0)]) [.secDig] s t)
  ∧ (∀ (s : State) (f : Fuses), s.dev.on SEC_STATUS_CMD_BUSY 0 = true → s.dev.v .lcCmd 0 = 0 → s.dev.v .secOp 0 = 5 → s.dev.v .secRes 0 = 0 → f = (if s.dev.get SEC_LC_STATUS_CMD 0 = 3 then { s.dev.fuse with owner1 := some (shake256 s.dev.secDig 32) }
        else if s.dev.v .secMr 0 = 0 then { s.dev.fuse with rev0 := true } else { s.dev.fuse with rev1 := true }) → Completes .secCommandDone s fun t =>
      t.dev.fuse = f ∧ t.dev.get SEC_LC_STATUS_LAST 0 = 0 ∧ t.dev.get SEC_STATUS_CMD_DONE 0 = 1 ∧ t.dev.get SEC_STATUS_CMD_BUSY 0 = 0 ∧ t.dev.get SEC_STATUS_CMD_ERR 0 = 0
      ∧ Frame (orKey (regsIn [.SEC_STATUS]) (fieldsAt [(SEC_LC_STATUS_LAST, 0)])) (varsAt [(.secOp, 0)]) [.fuse, .secDig] s t)
  ∧ (∀ (s : State), (s.dev.on SEC_STATUS_CMD_BUSY 0 = false ∨ s.dev.v .lcCmd 0 ≠ 0) → Completes .secCommandDone s fun t => Still s t)
  ∧ (∀ (s : State), s.dev.attErr ≠ 0 → Completes .attStart s fun t => t.dev.get SEC_STATUS_ATT_RESULT 0 = 2 ∧ t.dev.get SEC_STATUS_ATT_ERR 0 = s.dev.attErr
        ∧ Frame (fieldsAt [(SEC_STATUS_ATT_RESULT, 0), (SEC_STATUS_ATT_ERR, 0)]) noKey [] s t)
  ∧ (∀ (s : State), s.dev.attErr = 0 → Completes .attStart s fun t => t.dev.get SEC_STATUS_ATT_BUSY 0 = 1 ∧ t.dev.attRep = s.dev.attHead
        ∧ t.dev.v .attDst 0 = (s.dev.get SEC_ATT_DST_LO_ADDR 0 + s.dev.get SEC_ATT_DST_HI_ADDR 0 % 256 * 2 ^ 32 : Nat) ∧ Frame (fieldsAt [(SEC_STATUS_ATT_BUSY, 0)]) (varsAt [(.attDst, 0)]) [.attRep] s t)
  ∧ (∀ (s : State) (y : List Byte), s.dev.on SEC_STATUS_ATT_BUSY 0 = true →
      y = s.dev.attRep ++ exactly 49856 (Config.identitySign s.dev.identityBytes s.dev.attRep (Config.freeValue s.dev.fresh)) → Completes .attDone s fun t =>
        t.mem = (s.putUnits (s.dev.v .attDst 0).toNat y).mem ∧ t.dev.get SEC_STATUS_ATT_BUSY 0 = 0 ∧ t.dev.get SEC_STATUS_ATT_RESULT 0 = 1 ∧ t.dev.get SEC_STATUS_ATT_ERR 0 = 0 ∧ t.dev.get SEC_STATUS_ATT_DONE 0 = 1 ∧ t.dev.attRep = [] ∧ t.pending = s.pending
        ∧ Keeps (fieldsAt [(SEC_STATUS_ATT_BUSY, 0), (SEC_STATUS_ATT_RESULT, 0), (SEC_STATUS_ATT_ERR, 0), (SEC_STATUS_ATT_DONE, 0)]) noKey [.attRep, .fresh] (s.putUnits (s.dev.v .attDst 0).toNat y).dev t.dev)
  ∧ (∀ (s : State) (a : Nat), s.dev.on SEC_STATUS_ATT_BUSY 0 = true → s.dev.v .attDst 0 = (a : Nat) → a % 64 = 0 → sramBase ≤ a → a + 50640 ≤ shadowBase → s.dev.attRep.length = 784 → s.dev.on MEM_STATUS_ZFILL 0 = false →
      (∀ i < 64, s.dev.v .mspare i = 0) → Completes .attDone s fun t => t.mem.readBytes a 784 = s.dev.attRep ∧ Elsewhere a 50640 s t
        ∧ t.mem.readBytes (a + 784) 49856 = exactly 49856 (Config.identitySign s.dev.identityBytes s.dev.attRep (Config.freeValue s.dev.fresh)))
  ∧ (∀ (s : State), s.dev.on SEC_STATUS_ATT_BUSY 0 = false → Completes .attDone s fun t => Still s t)

/-- SEC_LC_GO consumes the challenge; while a command or a load runs it is refused BUSY, with a source outside management SRAM SOURCE, each
shown in LAST (the model's choice, assumption 89); else the token is read: a token that does not stand leaves its code in LAST and waits to
be reported; ADDKEY1 and REVOKE keep the key and slot for the end of the command; a transition programs the state and its keys, ends a
report and a capture, abandons the Stone's queue, puts transmitters in electrical idle, holds the cores, and begins the wipes.
LC_TRANSITION_WIPE_DONE in a transition ends them: memories and the Stone's regions hold zero, LC_WIPED is programmed, and a WARM reset
follows with a cause that is a free value (assumption 32); otherwise it does nothing. (Rests on R252, R355, R356, R361, R364 to R369.) -/
def Obligations.LifeCycle : Prop :=
  (∀ (s : State) (mr : BitVec 3) (k : Fin 5) (e : Nat), (s.dev.on SEC_STATUS_CMD_BUSY 0 = true ∨ s.dev.on SEED_STATUS_BUSY 0 = true ∨ s.dev.secSrcOk 30000 = false) →
      e = (if s.dev.on SEC_STATUS_CMD_BUSY 0 || s.dev.on SEED_STATUS_BUSY 0 then 9 else 8) → Completes (.secLcGo mr k) s fun t => t.dev.get SEC_STATUS_CMD_ERR 0 = e
      ∧ (∀ w < 8, t.dev.get SEC_CHAL_CHAL w = 0) ∧ t.dev.get SEC_STATUS_CMD_DONE 0 = 1 ∧ t.dev.get SEC_LC_STATUS_LAST 0 = e ∧ t.dev.get SEC_CMD_OP 0 = 5 ∧ t.dev.get SEC_CMD_MR 0 = mr.toNat
      ∧ Frame (orKey (regsIn [.SEC_CMD, .SEC_STATUS, .SEC_CHAL]) (fieldsAt [(SEC_LC_STATUS_LAST, 0)])) noKey [] s t)
  ∧ (∀ (s : State) (mr : BitVec 3) (k : Fin 5) (x : State × List Byte × Bool) (e cmd : Nat), s.dev.on SEC_STATUS_CMD_BUSY 0 = false → s.dev.on SEED_STATUS_BUSY 0 = false → s.dev.secSrcOk 30000 = true →
      x = (s.put ((s.dev.set SEC_CMD_OP 0 5).set SEC_CMD_MR 0 mr.toNat)).fetch s.dev.secSrc 30000 → e = x.1.dev.tokenErr x.2.1 → cmd = field x.2.1 6 1 → Completes (.secLcGo mr k) s fun t =>
        t.dev.get SEC_STATUS_CMD_BUSY 0 = 1 ∧ t.dev.v .secOp 0 = 5 ∧ t.dev.v .secRes 0 = (e : Nat) ∧ (∀ w < 8, t.dev.get SEC_CHAL_CHAL w = 0) ∧ t.dev.get SEC_LC_STATUS_CMD 0 = cmd % 8 ∧ t.pending = s.pending
        ∧ (e ≠ 0 → t.dev.get SEC_LC_STATUS_LAST 0 = e % 16 ∧ t.dev.fuse = s.dev.fuse ∧ t.dev.v .lcCmd 0 = s.dev.v .lcCmd 0 ∧ t.mem = x.1.mem)
        ∧ (e = 0 → (s.dev.on SEC_STATUS_ATT_BUSY 0 = true → t.dev.get SEC_STATUS_ATT_BUSY 0 = 0 ∧ t.dev.get SEC_STATUS_ATT_RESULT 0 = 3 ∧ t.dev.get SEC_STATUS_ATT_DONE 0 = 1))
        ∧ (e = 0 → (cmd = 3 ∨ cmd = 4) → t.dev.secDig = slice x.2.1 0x30 64 ∧ t.dev.v .secMr 0 = (field x.2.1 7 1 : Nat) ∧ t.dev.fuse = s.dev.fuse ∧ t.dev.v .lcCmd 0 = s.dev.v .lcCmd 0 ∧ t.mem = x.1.mem)
        ∧ (e = 0 → cmd ≠ 3 → cmd ≠ 4 → transits s.dev cmd (slice x.2.1 0x30 64) t.dev ∧ t.mem.marked = []))
  ∧ (∀ (s : State) (mr : BitVec 3) (k : Fin 5) (e : Nat) (m : List Byte), s.dev.on SEC_STATUS_CMD_BUSY 0 = false → s.dev.on SEED_STATUS_BUSY 0 = false → s.dev.secSrcOk 30000 = true →
      s.dev.merge = [] → s.dev.on MEM_STATUS_ZFILL 0 = false → (∀ i < 64, s.dev.v .mspare i = 0) → m = s.mem.readBytes s.dev.secSrc 30000 → e = s.dev.tokenErr m → e ≠ 0 →
      Completes (.secLcGo mr k) s fun t => t.dev.get SEC_LC_STATUS_LAST 0 = e % 16 ∧ t.dev.v .secRes 0 = (e : Nat) ∧ Frame (regsIn [.SEC_CMD, .SEC_STATUS, .SEC_CHAL, .SEC_LC_STATUS]) (varsIn [.secOp, .secRes]) [] s t)
  ∧ (∀ (s : State), s.dev.v .lcCmd 0 ≠ 0 → Completes .lcTransitionWipeDone s fun t => t.dev.fuse = { s.dev.fuse with wiped := s.dev.fuse.lc } ∧ t.mem.marked = [] ∧ t.dev.v .lcCmd 0 = 0
      ∧ t.dev.devGen = (s.dev.devGen + 1) % 256 ∧ t.dev.get RIND_REC_CAUSE 0 = s.dev.freeNat 8 ∧ t.dev.get SEC_LC_STATUS_LAST 0 = 0 ∧ t.dev.get SEC_LC_STATUS_CMD 0 = s.dev.get SEC_LC_STATUS_CMD 0
      ∧ (s.dev.flag .lcCap 0 = true → t.dev.get CAP_STATUS_STATE 0 = capDONE ∧ t.dev.get CAP_STATUS_END_REASON 0 = 6) ∧ (∀ i < 12, t.dev.v .jFail i = 0 ∧ t.dev.v .jLevel i = 0) ∧ t.dev.on MEM_STATUS_ZFILL 0 = true
      ∧ t.dev.retVars = [] ∧ t.dev.retRegs = [] ∧ t.pending = s.pending)
  ∧ (∀ (s : State), s.dev.v .lcCmd 0 ≠ 0 → s.dev.stnCur = none → Completes .lcTransitionWipeDone s fun t =>
      (∀ x, sramBase ≤ x → x < sramBase + 0x80_0000 → t.mem.read x = 0) ∧ (∀ x, capBase ≤ x → x < capBase + 0x300_0000 → t.mem.read x = 0)
      ∧ (∀ x, (lcRegions (decide (s.dev.fuse.lc = 4))).any (fun r => decide (pageAddr r.1 ≤ x ∧ x < pageAddr (r.1 + r.2))) = true → t.mem.read x = 0) ∧ (∀ x, pageAddr 0x300 ≤ x → x < pageAddr 0x301 → t.mem.read x = 0)
      ∧ (s.dev.get MEM_STATUS_TRAINED 0 ≠ 0 → ∀ x, lpBase ≤ x → x < spareBase → t.mem.read x = 0))
  ∧ (∀ (s : State), s.dev.v .lcCmd 0 = 0 → Completes .lcTransitionWipeDone s fun t => Still s t)

/-- PWR_GO_SLEEP, PWR_GO_DEEP and PWR_GO_OFF store SLEEP_EN and begin an entry under the conditions of R372 (from SLEEP without them, and not to
SLEEP), or set GO_REJ. SLEEP_AUTO_ENTRY and DEEP_TIMER begin one when theirs hold, or do nothing. IDLE_ENTRY, from RUN with PWR_IDLE_T and
no core held, shows IDLE with every core waiting, otherwise nothing; IDLE_EXIT wakes a core and shows RUN if it was IDLE.
LOW_POWER_ENTRY_DONE, with an entry and the Stone idle, ends it: from RUN or IDLE the image is retained, the datapath switched off, the
capture store lost; SLEEP is counted; DEEP and OFF switch management off and clear the bitmap, OFF with the image; otherwise it does
nothing. (Rests on R225, R241, R351, R369 to R374.) -/
def Obligations.PowerEntry : Prop :=
  (∀ (s : State) (en quiet : Bool), Completes (.pwrGoSleep en quiet) s fun t => goAsked s.dev 1 en quiet t.dev
      ∧ Frame (fieldsAt [(PWR_STATUS_ENTERING, 0), (PWR_CTRL_SLEEP_EN, 0), (PWR_STATUS_GO_REJ, 0)]) (varsIn [.pwrTarget, .pwrFrom]) [] s t)
  ∧ (∀ (s : State) (en quiet : Bool), Completes (.pwrGoDeep en quiet) s fun t => goAsked s.dev 2 en quiet t.dev
      ∧ Frame (fieldsAt [(PWR_STATUS_ENTERING, 0), (PWR_CTRL_SLEEP_EN, 0), (PWR_STATUS_GO_REJ, 0)]) (varsIn [.pwrTarget, .pwrFrom]) [] s t)
  ∧ (∀ (s : State) (en quiet : Bool), Completes (.pwrGoOff en quiet) s fun t => goAsked s.dev 3 en quiet t.dev
      ∧ Frame (fieldsAt [(PWR_STATUS_ENTERING, 0), (PWR_CTRL_SLEEP_EN, 0), (PWR_STATUS_GO_REJ, 0)]) (varsIn [.pwrTarget, .pwrFrom]) [] s t)
  ∧ (∀ (s : State), s.dev.on PWR_CTRL_SLEEP_EN 0 = true → s.dev.entryFree = true → s.dev.v .pwrState 0 = 0 → s.dev.sleepOk true = true → Completes .sleepAutoEntry s fun t =>
        t.dev.get PWR_STATUS_ENTERING 0 = 1 ∧ t.dev.v .pwrTarget 0 = 1 ∧ t.dev.v .pwrFrom 0 = (s.dev.get PWR_STATUS_STATE 0 : Nat) ∧ Frame (fieldsAt [(PWR_STATUS_ENTERING, 0)]) (varsIn [.pwrTarget, .pwrFrom]) [] s t)
  ∧ (∀ (s : State), (s.dev.on PWR_CTRL_SLEEP_EN 0 = false ∨ s.dev.entryFree = false ∨ s.dev.v .pwrState 0 ≠ 0 ∨ s.dev.sleepOk true = false) → Completes .sleepAutoEntry s fun t => Still s t)
  ∧ (∀ (s : State), s.dev.v .pwrState 0 = 1 → s.dev.entryFree = true → s.dev.get PWR_DEEP_T_S 0 ≠ 0 → Completes .deepTimer s fun t => t.dev.get PWR_STATUS_ENTERING 0 = 1 ∧ t.dev.v .pwrTarget 0 = 2
        ∧ t.dev.v .pwrFrom 0 = (s.dev.get PWR_STATUS_STATE 0 : Nat) ∧ Frame (fieldsAt [(PWR_STATUS_ENTERING, 0)]) (varsIn [.pwrTarget, .pwrFrom]) [] s t)
  ∧ (∀ (s : State), (s.dev.v .pwrState 0 ≠ 1 ∨ s.dev.entryFree = false ∨ s.dev.get PWR_DEEP_T_S 0 = 0) → Completes .deepTimer s fun t => Still s t)
  ∧ (∀ (s : State), s.dev.get PWR_STATUS_STATE 0 = 0 → s.dev.get PWR_IDLE_T_US 0 ≠ 0 → (∀ c < 4, s.dev.flag .coreHeld c = false) → Completes .idleEntry s fun t => t.dev.get PWR_STATUS_STATE 0 = 1
        ∧ (∀ c < 4, t.dev.v .coreWfi c = 1) ∧ Frame (fieldsAt [(PWR_STATUS_STATE, 0)]) (varsIn [.coreWfi]) [] s t)
  ∧ (∀ (s : State), (s.dev.get PWR_STATUS_STATE 0 ≠ 0 ∨ s.dev.get PWR_IDLE_T_US 0 = 0 ∨ (List.range 4).any (fun c => s.dev.flag .coreHeld c) = true) → Completes .idleEntry s fun t => Still s t)
  ∧ (∀ (s : State) (c : Fin 4), Completes (.idleExit c) s fun t => t.dev.get PWR_STATUS_STATE 0 = (if s.dev.get PWR_STATUS_STATE 0 = 1 then 0 else s.dev.get PWR_STATUS_STATE 0) ∧ t.dev.v .coreWfi c = 0
        ∧ Frame (fieldsAt [(PWR_STATUS_STATE, 0)]) (varsAt [(.coreWfi, c)]) [] s t)
  ∧ (∀ (s : State), (s.dev.v .pwrTarget 0 = 0 ∨ s.dev.stnCur.isSome = true ∨ s.dev.stnQ ≠ []) → Completes .lowPowerEntryDone s fun t => Still s t)
  ∧ (∀ (s : State), s.dev.v .pwrTarget 0 = 1 → s.dev.v .pwrState 0 = 0 → s.dev.stnCur = none → s.dev.stnQ = [] → Completes .lowPowerEntryDone s fun t => t.dev.v .pwrState 0 = 1
        ∧ t.dev.get PWR_STATUS_STATE 0 = 2 ∧ t.dev.get PWR_STATUS_ENTERING 0 = 0 ∧ t.dev.v .pwrTarget 0 = 0 ∧ t.dev.get RIND_PWR_RET_VALID 0 = 1 ∧ t.dev.get RIND_PWR_LAST_STATE 0 = 1
        ∧ (∀ n < 8, (t.dev.get RIND_PWR_RET_LANES 0).testBit n = s.dev.on LL_EQ_STATUS_SNAP_VALID n)
        ∧ t.dev.get PWR_CNT_SLEEPS 0 = min (s.dev.get PWR_CNT_SLEEPS 0 + 1) (2 ^ PWR_CNT_SLEEPS.w - 1) ∧ pathOff t.dev ∧ (∀ p < 3, s.dev.on BRM_PCTRL_EN p = true → t.dev.get BRM_PSTATUS_STATE p = 1)
        ∧ t.mem.marked = s.mem.marked ∧ (∀ a, a < capBase ∨ capBase + 0x300_0000 ≤ a → t.mem.read a = s.mem.read a) ∧ t.pending = s.pending)
  ∧ (∀ (s : State) (n : Nat), s.dev.v .pwrTarget 0 = (n : Nat) → (n = 2 ∨ n = 3) → s.dev.v .pwrState 0 = 0 → s.dev.stnCur = none → s.dev.stnQ = [] → Completes .lowPowerEntryDone s fun t => t.dev.v .pwrState 0 = (n : Nat)
        ∧ t.dev.get PWR_STATUS_ENTERING 0 = 0 ∧ t.dev.v .pwrTarget 0 = 0 ∧ t.dev.get RIND_PWR_RET_VALID 0 = (if n = 2 then 1 else 0) ∧ (n = 3 → t.dev.retVars = [] ∧ t.dev.retRegs = []) ∧ t.dev.get RIND_PWR_LAST_STATE 0 = n
        ∧ pathOff t.dev ∧ t.dev.flag .offMgmt 0 = true ∧ t.mem.marked = [] ∧ (∀ a, a < capBase ∨ capBase + 0x300_0000 ≤ a → t.mem.read a = s.mem.read a) ∧ t.pending = s.pending)
  ∧ (∀ (s : State) (n : Nat), s.dev.v .pwrTarget 0 = (n : Nat) → (n = 2 ∨ n = 3) → s.dev.v .pwrState 0 = 1 → s.dev.stnCur = none → s.dev.stnQ = [] → Completes .lowPowerEntryDone s fun t => t.dev.v .pwrState 0 = (n : Nat)
        ∧ t.dev.flag .offMgmt 0 = true ∧ t.mem.marked = [] ∧ t.dev.get RIND_PWR_LAST_STATE 0 = n ∧ t.dev.v .pwrTarget 0 = 0 ∧ t.dev.get PWR_STATUS_ENTERING 0 = 0
        ∧ t.dev.retVars = (if n = 2 then s.dev.retVars else []) ∧ t.dev.retRegs = (if n = 2 then s.dev.retRegs else []) ∧ t.dev.get RIND_PWR_RET_VALID 0 = (if n = 2 then s.dev.get RIND_PWR_RET_VALID 0 else 0)
        ∧ (∀ a, t.mem.read a = s.mem.read a) ∧ t.pending = s.pending
        ∧ Keeps (fieldsAt [(PWR_STATUS_ENTERING, 0), (RIND_PWR_LAST_STATE, 0), (RIND_PWR_RET_VALID, 0), (RIND_PWR_RET_LANES, 0)]) (varsIn [.pwrTarget, .pwrState, .offMgmt]) [.retVars, .retRegs] s.dev t.dev)

/-- WAKE_PIN, RIND_WAKE_TIMER, BRAMBLE_WAKE_BEACON and PCIE_DETECT_WAKE, when enabled, and PWR_GO_WAKE, which stores SLEEP_EN, abort an entry
(from its step 5 on the bunches and the clocking domain restart), begin a wake from SLEEP or, the first two, from DEEP and OFF, once VDD is
good; otherwise, or not enabled, they do nothing. SLEEP_BEACON_TIMER in SLEEP, no wake running, sends a sleep beacon on every enabled port.
WAKE_STEP_READY starts the next step in the form WAKE_FAIL tells; the last one from SLEEP restarts the bunches, from DEEP and OFF resets the
device with cause WAKE. WAKE_STEP_TIMEOUT records a failure of the normal form and tries the other once, with RETRY_EV; then the device goes
to OFF with FAULT_N. Without a wake both do nothing. PWR_GO_RUN_CLK stores SLEEP_EN and asks for the PLL clock, RUN_CLK_SWITCH_DONE brings
it. VDD_LOSS clears VDD_GOOD and, outside DEEP and OFF, leads to OFF. VDD_RETURN is a POR after that OFF; else it sets VDD_GOOD and starts a
wake that waited. (Rests on R348, R374, R376 to R381.) -/
def Obligations.PowerWake : Prop :=
  (∀ (s : State) (k : Fin 8), s.dev.on RIND_WAKE_WAKE_EN 0 = true → Completes (.wakePin k) s fun t => wakeHeard s.dev 1 k t.dev)
  ∧ (∀ (s : State) (k : Fin 8), s.dev.get RIND_WAKE_WAKE_T 0 ≠ 0 → Completes (.rindWakeTimer k) s fun t => wakeHeard s.dev 2 k t.dev)
  ∧ (∀ (s : State) (p : Fin 3) (k : Fin 8), s.dev.on BRM_PCTRL_EN p = true → Completes (.brambleWakeBeacon p k) s fun t => wakeHeard s.dev 3 k t.dev)
  ∧ (∀ (s : State) (k : Fin 8), s.dev.on BRM_FCTRL_ROOT 0 = true → Completes (.pcieDetectWake k) s fun t => wakeHeard s.dev 4 k t.dev)
  ∧ (∀ (s : State) (en : Bool) (k : Fin 8), Completes (.pwrGoWake en k) s fun t => wakeHeard s.dev 5 k t.dev ∧ t.dev.on PWR_CTRL_SLEEP_EN 0 = en)
  ∧ (∀ (s : State) (k : Fin 8) (p : Fin 3) (en : Bool) (c : Instr) (src : Nat), (c, src) ∈ [(Instr.wakePin k, 1), (.rindWakeTimer k, 2), (.brambleWakeBeacon p k, 3), (.pcieDetectWake k, 4), (.pwrGoWake en k, 5)] →
      s.dev.v .pwrTarget 0 ≠ 0 → (s.dev.v .pwrFrom 0 = 2 ∨ k.val < 5) → Completes c s fun t =>
        Frame (fieldsAt [(PWR_CTRL_SLEEP_EN, 0), (PWR_STATUS_ENTERING, 0), (PWR_STATUS_STATE, 0), (PWR_STATUS_ABORT_EV, 0), (PWR_CNT_ABORTS, 0), (RIND_PWR_RET_VALID, 0), (RIND_PWR_RET_LANES, 0)])
            (varsIn [.pwrTarget]) [.retVars, .retRegs] s t)
  ∧ (∀ (s : State) (k : Fin 8) (p : Fin 3) (en : Bool) (c : Instr) (src : Nat), (c, src) ∈ [(Instr.wakePin k, 1), (.rindWakeTimer k, 2), (.brambleWakeBeacon p k, 3), (.pcieDetectWake k, 4), (.pwrGoWake en k, 5)] →
      s.dev.v .pwrTarget 0 ≠ 0 → Completes c s fun t => (∀ a, a < capBase ∨ capBase + 0x300_0000 ≤ a → t.mem.read a = s.mem.read a) ∧ t.mem.marked = s.mem.marked ∧ t.pending = s.pending)
  ∧ (∀ (s : State) (k : Fin 8) (p : Fin 3) (en : Bool) (c : Instr) (src : Nat), (c, src) ∈ [(Instr.wakePin k, 1), (.rindWakeTimer k, 2), (.brambleWakeBeacon p k, 3), (.pcieDetectWake k, 4), (.pwrGoWake en k, 5)] →
      s.dev.v .pwrTarget 0 = 0 → Completes c s fun t => Frame (fieldsAt [(PWR_CTRL_SLEEP_EN, 0), (PWR_STATUS_WAKE_SRC, 0), (RIND_PWR_LAST_SRC, 0), (RIND_PWR_FAULT, 0)]) (varsIn [.wakeStep, .wakeAlt, .wakeRetry, .faultN, .wakeHeld]) [] s t)
  ∧ (∀ (s : State) (k : Fin 8), s.dev.on RIND_WAKE_WAKE_EN 0 = false → Completes (.wakePin k) s fun t => Still s t)
  ∧ (∀ (s : State) (k : Fin 8), s.dev.get RIND_WAKE_WAKE_T 0 = 0 → Completes (.rindWakeTimer k) s fun t => Still s t)
  ∧ (∀ (s : State) (p : Fin 3) (k : Fin 8), s.dev.on BRM_PCTRL_EN p = false → Completes (.brambleWakeBeacon p k) s fun t => Still s t)
  ∧ (∀ (s : State) (k : Fin 8), s.dev.on BRM_FCTRL_ROOT 0 = false → Completes (.pcieDetectWake k) s fun t => Still s t)
  ∧ (∀ (s : State) (k : Fin 8) (p : Fin 3) (c : Instr) (src : Nat), (c, src) ∈ [(Instr.wakePin k, 1), (.rindWakeTimer k, 2), (.brambleWakeBeacon p k, 3), (.pcieDetectWake k, 4)] →
      s.dev.v .pwrTarget 0 = 0 → canWake s.dev src = false → Completes c s fun t => Still s t)
  ∧ (∀ (s : State), s.dev.v .pwrState 0 = 1 → s.dev.v .wakeStep 0 = 0 → Completes .sleepBeaconTimer s fun t => (∀ p < 3, s.dev.on BRM_PCTRL_EN p = true → Out.beacon p false ∈ t.dev.out) ∧ Still s t)
  ∧ (∀ (s : State), (s.dev.v .pwrState 0 ≠ 1 ∨ s.dev.v .wakeStep 0 ≠ 0) → Completes .sleepBeaconTimer s fun t => Still s t)
  ∧ (∀ (s : State) (w : Nat), s.dev.v .wakeStep 0 = (w + 1 : Nat) → w < 6 → Completes .wakeStepReady s fun t => t.dev.v .wakeStep 0 = (w + 2 : Nat) ∧ t.dev.v .wakeRetry 0 = 0
        ∧ t.dev.flag .wakeAlt 0 = (s.dev.get RIND_REC_WAKE_FAIL 0).testBit (w + 1) ∧ Frame noKey (varsIn [.wakeStep, .wakeAlt, .wakeRetry]) [] s t)
  ∧ (∀ (s : State), 7 ≤ s.dev.v .wakeStep 0 → s.dev.v .pwrState 0 = 1 → Completes .wakeStepReady s fun t => t.dev.v .wakeStep 0 = 0 ∧ t.dev.v .pwrState 0 = 0 ∧ t.dev.get PWR_STATUS_STATE 0 = 0
        ∧ t.dev.get PWR_STATUS_WAKE_EV 0 = 1 ∧ (∀ b < 2, t.dev.v .bnReload b = 2) ∧ (∀ b < 2, t.dev.flag .offBunch b = false) ∧ t.dev.flag .offClk 0 = false ∧ t.dev.flag .lpSelf 0 = false
        ∧ t.mem = s.mem ∧ t.pending = s.pending)
  ∧ (∀ (s : State), 7 ≤ s.dev.v .wakeStep 0 → s.dev.v .pwrState 0 ≠ 1 → Completes .wakeStepReady s fun t => t.dev.get RIND_REC_CAUSE 0 = 6 ∧ t.dev.v .pwrState 0 = 0 ∧ t.dev.flag .offMgmt 0 = false
        ∧ t.dev.on MEM_STATUS_ZFILL 0 = true ∧ t.dev.devGen = 0 ∧ t.mem.marked = [] ∧ t.dev.retVars = s.dev.retVars ∧ t.dev.retRegs = s.dev.retRegs ∧ t.dev.fuse = s.dev.fuse ∧ t.pending = s.pending ∧ (∀ a, t.mem.read a = s.mem.read a))
  ∧ (∀ (s : State) (c : Instr), c ∈ [Instr.wakeStepReady, .wakeStepTimeout] → s.dev.v .wakeStep 0 = 0 → Completes c s fun t => Still s t)
  ∧ (∀ (s : State) (w : Nat) (alt : Bool), s.dev.v .wakeStep 0 = (w + 1 : Nat) → w < 7 → s.dev.flag .wakeRetry 0 = false → s.dev.flag .wakeAlt 0 = alt → Completes .wakeStepTimeout s fun t =>
        t.dev.flag .wakeAlt 0 = !alt ∧ t.dev.flag .wakeRetry 0 = true ∧ (t.dev.get RIND_REC_WAKE_FAIL 0).testBit w = (!alt || (s.dev.get RIND_REC_WAKE_FAIL 0).testBit w) ∧ (s.dev.v .pwrState 0 = 1 → t.dev.get PWR_STATUS_RETRY_EV 0 = 1)
        ∧ (s.dev.v .pwrState 0 ≠ 1 → t.dev.flag .retryPend 0 = true) ∧ Frame (fieldsAt [(RIND_REC_WAKE_FAIL, 0), (PWR_STATUS_RETRY_EV, 0)]) (varsIn [.wakeAlt, .wakeRetry, .retryPend]) [] s t)
  ∧ (∀ (s : State) (w : Nat), s.dev.v .wakeStep 0 = (w + 1 : Nat) → w < 7 → s.dev.flag .wakeRetry 0 = true → Completes .wakeStepTimeout s fun t => t.dev.v .pwrState 0 = 5 ∧ t.dev.get RIND_PWR_FAULT 0 = 1 ∧ t.dev.get RIND_PWR_LAST_STATE 0 = 5
        ∧ (s.dev.flag .wakeAlt 0 = false → (t.dev.get RIND_REC_WAKE_FAIL 0).testBit w = true) ∧ t.dev.flag .offMgmt 0 = true
        ∧ t.dev.v .faultN 0 = 1 ∧ t.dev.v .wakeStep 0 = 0 ∧ t.dev.get RIND_PWR_RET_VALID 0 = 0 ∧ t.mem.marked = [] ∧ (∀ a, t.mem.read a = s.mem.read a) ∧ t.pending = s.pending
        ∧ Keeps (regsIn [.RIND_PWR, .RIND_REC]) (varsIn [.wakeStep, .pwrState, .faultN, .offMgmt]) [.retVars, .retRegs] s.dev t.dev)
  ∧ (∀ (s : State) (en : Bool), Completes (.pwrGoRunClk en) s fun t => t.dev.flag .runClk 0 = (s.dev.flag .runClk 0 || (!(s.dev.on PWR_STATUS_PLL_CLK 0) && decide (s.dev.v .pwrState 0 = 0))) ∧ t.dev.on PWR_CTRL_SLEEP_EN 0 = en
        ∧ Frame (fieldsAt [(PWR_CTRL_SLEEP_EN, 0)]) (varsAt [(.runClk, 0)]) [] s t)
  ∧ (∀ (s : State), s.dev.flag .runClk 0 = true → Completes .runClkSwitchDone s fun t => t.dev.get PWR_STATUS_PLL_CLK 0 = 1 ∧ t.dev.flag .runClk 0 = false
        ∧ Frame (fieldsAt [(PWR_STATUS_PLL_CLK, 0)]) (varsAt [(.runClk, 0)]) [] s t)
  ∧ (∀ (s : State), s.dev.flag .runClk 0 = false → Completes .runClkSwitchDone s fun t => Still s t)
  ∧ (∀ (s : State) (k : Fin 6) (mask : List Bool), s.dev.v .pwrState 0 < 2 → Completes (.vddLoss k mask) s fun t => t.dev.v .pwrState 0 = 4 ∧ t.dev.get RIND_PWR_LAST_STATE 0 = 4
        ∧ t.dev.get RIND_PWR_VDD_GOOD 0 = 0 ∧ t.dev.flag .offMgmt 0 = true ∧ t.dev.v .pwrTarget 0 = 0 ∧ t.dev.v .wakeStep 0 = 0 ∧ t.mem.marked = [] ∧ t.dev.stnQ = [] ∧ t.dev.stnCur = none ∧ t.pending = s.pending
        ∧ (∀ a, t.mem.read a = (s.stnPowerLoss k mask).mem.read a) ∧ Keeps (fieldsAt [(RIND_PWR_LAST_STATE, 0), (RIND_PWR_VDD_GOOD, 0)]) (varsIn [.pwrTarget, .wakeStep, .pwrState, .offMgmt, .wear, .undoNext, .undoSeq]) [.stnQ, .stnCur, .undo] s.dev t.dev)
  ∧ (∀ (s : State) (k : Fin 6) (mask : List Bool), s.dev.v .pwrState 0 < 2 → s.dev.stnCur = none → Completes (.vddLoss k mask) s fun t => (∀ a, t.mem.read a = s.mem.read a)
        ∧ Keeps (fieldsAt [(RIND_PWR_LAST_STATE, 0), (RIND_PWR_VDD_GOOD, 0)]) (varsIn [.pwrTarget, .wakeStep, .pwrState, .offMgmt]) [.stnQ] s.dev t.dev)
  ∧ (∀ (s : State) (k : Fin 6) (mask : List Bool), 2 ≤ s.dev.v .pwrState 0 → Completes (.vddLoss k mask) s fun t => t.dev.get RIND_PWR_VDD_GOOD 0 = 0
        ∧ Frame (fieldsAt [(RIND_PWR_VDD_GOOD, 0)]) noKey [] s t)
  ∧ (∀ (s : State), s.dev.v .pwrState 0 = 4 → Completes .vddReturn s fun t => t.dev.get RIND_REC_CAUSE 0 = 1 ∧ t.dev.v .pwrState 0 = 0 ∧ t.dev.v .faultN 0 = 0 ∧ t.dev.on MEM_STATUS_ZFILL 0 = true ∧ t.dev.get RIND_PWR_VDD_GOOD 0 = 1
        ∧ t.dev.flag .offMgmt 0 = false ∧ t.mem.marked = [] ∧ t.dev.devGen = 0 ∧ t.dev.fuse = s.dev.fuse ∧ t.pending = s.pending ∧ (∀ a, t.mem.read a = s.mem.read a))
  ∧ (∀ (s : State) (src : Nat), s.dev.v .pwrState 0 ≠ 4 → s.dev.v .wakeHeld 0 = (src : Nat) → src ≠ 0 → src < 8 → Completes .vddReturn s fun t => t.dev.get RIND_PWR_VDD_GOOD 0 = 1 ∧ wakeBegun s.dev src t.dev
        ∧ Frame (fieldsAt [(RIND_PWR_VDD_GOOD, 0), (PWR_STATUS_WAKE_SRC, 0), (RIND_PWR_LAST_SRC, 0), (RIND_PWR_FAULT, 0)]) (varsIn [.wakeStep, .wakeAlt, .wakeRetry, .faultN, .wakeHeld]) [] s t)
  ∧ (∀ (s : State), s.dev.v .pwrState 0 ≠ 4 → s.dev.v .wakeHeld 0 = 0 → Completes .vddReturn s fun t => t.dev.get RIND_PWR_VDD_GOOD 0 = 1 ∧ Frame (fieldsAt [(RIND_PWR_VDD_GOOD, 0)]) noKey [] s t)

/-- In SLEEP a THM_SAMPLE at or above the shutdown threshold sets STOP_EV and drives THERM_N low; any sample leaves the device in SLEEP with the
datapath off, as the entry to SLEEP (LOW_POWER_ENTRY_DONE) had left it, and sends no gasp; in DEEP and OFF THM_SAMPLE does nothing. (States
R395.) -/
def Obligations.SleepSample : Prop :=
  (∀ (s : State) (r : List Int) (k : Fin 5), s.dev.flag .offMgmt 0 = false → s.dev.v .pwrState 0 = 1 → Completes (.thmSample r k) s fun t =>
      (t.dev.thmTh 2 ≤ t.dev.thmMax → t.dev.get THM_STATUS_STOP_EV 0 = 1 ∧ t.dev.thermN = true) ∧ t.dev.v .pwrState 0 = 1 ∧ t.dev.v .pwrTarget 0 = s.dev.v .pwrTarget 0
      ∧ t.dev.v .thmSt 0 = s.dev.v .thmSt 0 ∧ (∀ n < 8, t.dev.v .slGasp n = s.dev.v .slGasp n) ∧ t.dev.sloeFw = s.dev.sloeFw ∧ (∀ b < 2, t.dev.v .offBunch b = s.dev.v .offBunch b) ∧ t.dev.v .offClk 0 = s.dev.v .offClk 0
      ∧ Frame (orKey (regsIn [.THM_TS, .THM_MAX, .THM_STATUS, .THM_EXCL, .THM_CNT]) (fieldsIn [SEED_PROF_ACTIVE])) (varsIn [.tsSame, .tsCode, .tsXf, .tsGood, .tsSeen, .thmLvl, .eqProf, .mpNext]) [.fresh] s t)
  ∧ (∀ (s : State), s.dev.v .pwrTarget 0 = 1 → s.dev.v .pwrState 0 = 0 → s.dev.stnCur = none → s.dev.stnQ = [] → Completes .lowPowerEntryDone s fun t => t.dev.v .pwrState 0 = 1 ∧ pathOff t.dev)
  ∧ (∀ (s : State) (r : List Int) (k : Fin 5), s.dev.flag .offMgmt 0 = true → Completes (.thmSample r k) s fun t => Still s t)

/-- THM_SAMPLE reports its readings, the sensors excluded, their maximum (half a code, and which of equals, are free values, assumption 35), the
levels, the profile and the interval. Before B0 it lets boot go on or waits for a cool sample; at work one at the shutdown threshold begins
the orderly stop, a hard one completes it at once; in thermal shutdown 64 cool ones with AUTO_RESTART are a WARM reset. THM_STOP_COMPLETE in
the stop, when all is done or it is late, switches the datapath off and holds the cores; otherwise it does nothing. THM_PROFILE_STEP raises
the profile under the throttle level, lowers it below that less HYST, never under its floor, and otherwise keeps it. THM_TH_WRITE sets the
thresholds, SHUT only unlocked; out of order they are rejected. (Rests on R33, R80, R130, R385 to R394.) -/
def Obligations.ThermalControl : Prop :=
  (∀ (s : State) (r : List Int) (k : Fin 5), s.dev.flag .offMgmt 0 = false → (s.dev.v .pwrState 0 = 1 ∨ s.dev.v .thmSt 0 = 0 ∨ s.dev.v .thmSt 0 = 1 ∨ s.dev.v .thmSt 0 = 2 ∨ s.dev.v .thmSt 0 = 4) → Completes (.thmSample r k) s fun t => sampled s.dev r t.dev)
  ∧ (∀ (s : State) (v : Int) (k : Fin 5), s.dev.flag .offMgmt 0 = false → s.dev.v .pwrState 0 = 0 → s.dev.v .thmSt 0 = 1 → s.dev.get THM_EXCL_EXCL 0 = 0 → s.dev.flag .tsSeen 0 = false → -320 ≤ v → v ≤ 1200 →
      v < s.dev.thmTh 2 → s.dev.thmTh 0 < s.dev.thmTh 1 → s.dev.thmTh 1 < s.dev.thmTh 2 →
      Completes (.thmSample (List.replicate 12 v) k) s fun t => t.dev.geti THM_MAX_TEMP 0 = v ∧ (∀ i < 12, t.dev.geti THM_TS_READING i = v) ∧ t.dev.get THM_EXCL_EXCL 0 = 0
        ∧ t.dev.get THM_STATUS_NONE_TRUSTED 0 = 0 ∧ t.dev.get THM_MAX_SRC 0 < 12 ∧ t.dev.v .thmSt 0 = 1
        ∧ t.dev.on THM_STATUS_FAST 0 = decide ((if v < s.dev.thmTh 0 then s.dev.thmTh 0 else if v < s.dev.thmTh 1 then s.dev.thmTh 1 else s.dev.thmTh 2) - v ≤ 40)
        ∧ t.dev.get THM_STATUS_LEVEL 0 = (if t.dev.flag .thmLvl 2 then 3 else if t.dev.flag .thmLvl 1 then 2 else if t.dev.flag .thmLvl 0 then 1 else 0)
        ∧ Frame (orKey (regsIn [.THM_TS, .THM_MAX, .THM_STATUS, .THM_EXCL, .THM_CNT]) (fieldsIn [SEED_PROF_ACTIVE])) (varsIn [.tsSame, .tsCode, .tsXf, .tsGood, .tsSeen, .thmLvl, .eqProf, .mpNext]) [.fresh] s t)
  ∧ (∀ (s : State) (r : List Int) (k : Fin 5), s.dev.flag .offMgmt 0 = false → s.dev.v .pwrState 0 ≠ 1 → (s.dev.v .thmSt 0 = 0 ∨ s.dev.v .thmSt 0 = 4) → Completes (.thmSample r k) s fun t =>
      (t.dev.thmMax < t.dev.thmTh 2 - t.dev.thmHyst → t.dev.v .thmSt 0 = 1 ∧ (s.dev.v .thmSt 0 = 4 → (∀ b < 2, t.dev.flag .offBunch b = false) ∧ t.dev.flag .offClk 0 = false ∧ t.dev.flag .coreHeld 0 = false))
      ∧ (t.dev.thmTh 2 - t.dev.thmHyst ≤ t.dev.thmMax → t.dev.v .thmSt 0 = 4 ∧ (∀ b < 2, t.dev.flag .offBunch b = true) ∧ t.dev.flag .offClk 0 = true ∧ t.dev.flag .coreHeld 0 = true ∧ t.dev.thermN = true
        ∧ t.dev.get THM_STATUS_LEVEL 0 = 3 ∧ (t.dev.thmTh 2 ≤ t.dev.thmMax → t.dev.get THM_STATUS_STOP_EV 0 = 1)) ∧ t.mem = s.mem ∧ t.pending = s.pending)
  ∧ (∀ (s : State) (r : List Int) (k : Fin 5), s.dev.flag .offMgmt 0 = false → s.dev.v .pwrState 0 ≠ 1 → s.dev.v .thmSt 0 = 1 → Completes (.thmSample r k) s fun t =>
      (t.dev.thmMax < t.dev.thmTh 2 → t.dev.v .thmSt 0 = 1 ∧ t.mem = s.mem) ∧ (t.dev.thmTh 2 ≤ t.dev.thmMax → stopBegun s.dev t.dev)
      ∧ (t.dev.thmTh 2 ≤ t.dev.thmMax → t.dev.thmMax < t.dev.thmHard → t.dev.v .thmSt 0 = 2 ∧ t.dev.get THM_STATUS_STOPPING 0 = 1 ∧ t.dev.get THM_STATUS_HARD 0 = 0 ∧ (∀ m < 16, t.dev.get HL_STATUS_TX_EIDLE m = 1)
        ∧ (s.dev.capOn = true → t.dev.capOn = false ∧ t.dev.get CAP_STATUS_END_REASON 0 = 5)
        ∧ (if s.dev.on SLOE_GASP_EN_THERM 0 then (∀ n < 8, s.dev.slSends n = true → t.dev.v .slGasp n = 1) ∧ ∀ b < 2, t.dev.v .thermMute b = 1 else ∀ b < 2, t.dev.v .thermSq b = 1))
      ∧ (t.dev.thmTh 2 ≤ t.dev.thmMax → t.dev.thmHard ≤ t.dev.thmMax → t.dev.get THM_STATUS_HARD 0 = 1 ∧ stopDone t.dev) ∧ t.pending = s.pending)
  ∧ (∀ (s : State) (r : List Int) (k : Fin 5), s.dev.flag .offMgmt 0 = false → s.dev.v .pwrState 0 ≠ 1 → s.dev.v .thmSt 0 = 2 → Completes (.thmSample r k) s fun t =>
      (t.dev.thmMax < t.dev.thmHard → t.dev.v .thmSt 0 = 2 ∧ t.mem = s.mem) ∧ (t.dev.thmHard ≤ t.dev.thmMax → t.dev.get THM_STATUS_HARD 0 = 1 ∧ stopDone t.dev) ∧ t.pending = s.pending)
  ∧ (∀ (s : State) (v : Int) (k : Fin 5) (n : Nat), s.dev.flag .offMgmt 0 = false → s.dev.v .pwrState 0 = 0 → s.dev.v .thmSt 0 = 3 → s.dev.get THM_EXCL_EXCL 0 = 0 → s.dev.flag .tsSeen 0 = false → -320 ≤ v → v ≤ 1200 →
      s.dev.v .thmCool 0 = (n : Nat) → Completes (.thmSample (List.replicate 12 v) k) s fun t => t.pending = s.pending
        ∧ (if v < s.dev.thmTh 0 - s.dev.thmHyst ∧ s.dev.on THM_CTRL_AUTO_RESTART 0 then
            if 64 ≤ n + 1 then t.dev.get RIND_REC_CAUSE 0 = causeTHERMAL ∧ t.dev.v .bootNext 0 = 0 ∧ t.dev.on MEM_STATUS_ZFILL 0 = true ∧ t.dev.devGen = (s.dev.devGen + 1) % 256 ∧ t.dev.fuse = s.dev.fuse
            else t.dev.v .thmCool 0 = (n + 1 : Nat) ∧ t.dev.v .thmSt 0 = 3
          else t.dev.v .thmCool 0 = 0 ∧ t.dev.v .thmSt 0 = 3))
  ∧ (∀ (s : State) (late : Bool), s.dev.v .thmSt 0 = 2 → (late = true ∨ s.dev.thmIdle = true) → Completes (.thmStopComplete late) s fun t => stopDone t.dev
        ∧ (∀ a, a < capBase ∨ capBase + 0x300_0000 ≤ a → t.mem.read a = s.mem.read a) ∧ t.mem.marked = s.mem.marked ∧ t.pending = s.pending)
  ∧ (∀ (s : State) (late : Bool), (s.dev.v .thmSt 0 ≠ 2 ∨ late = false ∧ s.dev.thmIdle = false) → Completes (.thmStopComplete late) s fun t => Still s t)
  ∧ (∀ (s : State) (p q : Nat), p = s.dev.get SEED_PROF_ACTIVE 0 → q = (if s.dev.flag .thmLvl 1 then max (min 3 (p + 1)) s.dev.thmFloor else max (p - 1) s.dev.thmFloor) →
      (s.dev.flag .thmLvl 1 = true ∨ s.dev.thmMax < s.dev.thmTh 1 - s.dev.thmHyst) → Completes .thmProfileStep s fun t =>
        t.dev.get SEED_PROF_ACTIVE 0 = q ∧ t.dev.get THM_STATUS_PROFILE 0 = q ∧ t.dev.get THM_STATUS_THROT_EV 0 = (if p = q then s.dev.get THM_STATUS_THROT_EV 0 else 1)
        ∧ (p ≠ q → ∀ n < 8, (s.dev.mode n).isSome = true → s.dev.flag .offBunch (n / 4) = false → t.dev.v .eqProf n = 1)
        ∧ Frame (fieldsAt [(SEED_PROF_ACTIVE, 0), (THM_STATUS_PROFILE, 0), (THM_STATUS_THROT_EV, 0)]) (varsIn [.eqProf, .mpNext]) [] s t)
  ∧ (∀ (s : State), s.dev.flag .thmLvl 1 = false → s.dev.thmTh 1 - s.dev.thmHyst ≤ s.dev.thmMax → Completes .thmProfileStep s fun t => Still s t)
  ∧ (∀ (s : State) (w : Word) (a b c : Nat), a = w.toNat % 256 → b = w.toNat / 2 ^ 8 % 256 → c = (if s.dev.rwlLocked THM_TH_SHUT then s.dev.get THM_TH_SHUT 0 else w.toNat / 2 ^ 16 % 256) → a < b → b < clampN 110 125 c →
      Completes (.thmThWrite w) s fun t => t.dev.get THM_TH_WARN 0 = a ∧ t.dev.get THM_TH_THROT 0 = b ∧ t.dev.get THM_TH_SHUT 0 = c ∧ t.dev.get THM_TH_HYST 0 = w.toNat / 2 ^ 24 % 2 ^ THM_TH_HYST.w ∧ Frame (regsIn [.THM_TH]) noKey [] s t)
  ∧ (∀ (s : State) (w : Word) (a b c : Nat), a = w.toNat % 256 → b = w.toNat / 2 ^ 8 % 256 → c = (if s.dev.rwlLocked THM_TH_SHUT then s.dev.get THM_TH_SHUT 0 else w.toNat / 2 ^ 16 % 256) → (b ≤ a ∨ clampN 110 125 c ≤ b) →
      Completes (.thmThWrite w) s fun t => t.dev.get THM_STATUS_TH_REJ 0 = 1 ∧ Frame (fieldsAt [(THM_STATUS_TH_REJ, 0)]) noKey [] s t)
end

