-- ==== Sys2Proof/Laws/Map.lean ====
section
/-! SUPPORT. The sparse table: a read after a write, and that writing keeps the keys rising. -/

namespace Sys2Proof.Machine

/-- Inserting under a key shows the value there. -/
theorem tabFind_insert_same {α : Type} (m : Tab α) (k : Key) (v : α) : tabFind (tabInsert m k v) k = some v := by
  induction m with
  | nil => simp [tabInsert, tabFind]
  | cons e m ih =>
    simp only [tabInsert]
    split
    · simp [tabFind]
    · rename_i h
      split
      · simp [tabFind]
      · simp [tabFind, h, ih]

/-- Inserting under a key leaves every other key. -/
theorem tabFind_insert_other {α : Type} (m : Tab α) (k j : Key) (v : α) (h : k ≠ j) :
    tabFind (tabInsert m k v) j = tabFind m j := by
  induction m with
  | nil => simp [tabInsert, tabFind, h]
  | cons e m ih =>
    simp only [tabInsert]
    split
    · rename_i he
      subst he
      simp [tabFind, h]
    · split
      · simp [tabFind, h]
      · simp only [tabFind, ih]

/-- A key taken out is not found. -/
theorem tabFind_erase_same {α : Type} (m : Tab α) (k : Key) : tabFind (tabErase m k) k = none := by
  induction m with
  | nil => rfl
  | cons e m ih =>
    simp only [tabErase, List.filter_cons] at *
    split
    · rename_i h
      simp only [decide_eq_true_eq, ne_eq] at h
      rw [tabFind, if_neg h]
      exact ih
    · exact ih

/-- Taking a key out leaves every other key. -/
theorem tabFind_erase_other {α : Type} (m : Tab α) (k j : Key) (h : k ≠ j) : tabFind (tabErase m k) j = tabFind m j := by
  induction m with
  | nil => rfl
  | cons e m ih =>
    simp only [tabErase, List.filter_cons] at *
    split
    · simp only [tabFind, ih]
    · rename_i he
      have : e.1 = k := by simpa using he
      subst this
      conv => rhs; rw [tabFind, if_neg h]
      exact ih

/-- A read of the key just written gives the value written. -/
theorem tabGet_set_same {α : Type} [DecidableEq α] (m : Tab α) (k : Key) (v d : α) : tabGet (tabSet m k v d) k d = v := by
  unfold tabSet tabGet
  split
  · rename_i h
    simp [tabFind_erase_same, h]
  · simp [tabFind_insert_same]

/-- A read of any other key gives what it gave. -/
theorem tabGet_set_other {α : Type} [DecidableEq α] (m : Tab α) (k j : Key) (v d e : α) (h : k ≠ j) :
    tabGet (tabSet m k v d) j e = tabGet m j e := by
  unfold tabSet tabGet
  split
  · rw [tabFind_erase_other m k j h]
  · rw [tabFind_insert_other m k j v h]

end Sys2Proof.Machine
end

