-- ==== Sys2Proof/Laws/State.lean ====
section
/-! SUPPORT. What each named update of the state leaves in each of its fields. -/

namespace Sys2Proof.Machine

/-! ### Register fields -/

/-- A field just written reads as the value cut to its width. -/
@[simp] theorem Dev.get_set_same (d : Dev) (f : Fld) (n v : Nat) : (d.set f n v).get f n = v % 2 ^ f.w :=
  tabGet_set_same _ _ _ _

/-- Writing a field leaves the fields of other registers and other places. -/
theorem Dev.get_set_field (d : Dev) (f g : Fld) (n m v : Nat) (h : f.reg.ctorIdx * 32 + f.lo ≠ g.reg.ctorIdx * 32 + g.lo) :
    (d.set f n v).get g m = d.get g m :=
  tabGet_set_other _ _ _ _ _ _ (fun e => h (congrArg Prod.fst e))

/-- Writing an instance leaves every other instance. -/
theorem Dev.get_set_inst (d : Dev) (f g : Fld) (n m v : Nat) (h : n ≠ m) : (d.set f n v).get g m = d.get g m :=
  tabGet_set_other _ _ _ _ _ _ (fun e => h (congrArg Prod.snd e))

/-- A hidden variable just written reads as written. -/
@[simp] theorem Dev.v_sv_same (d : Dev) (x : Var) (n : Nat) (i : Int) : (d.sv x n i).v x n = i := tabGet_set_same _ _ _ _

/-- Writing a variable leaves the others. -/
theorem Dev.v_sv_var (d : Dev) (x y : Var) (n m : Nat) (i : Int) (h : x.ctorIdx ≠ y.ctorIdx) : (d.sv x n i).v y m = d.v y m :=
  tabGet_set_other _ _ _ _ _ _ (fun e => h (congrArg Prod.fst e))

/-- Writing an instance of a variable leaves every other instance. -/
theorem Dev.v_sv_inst (d : Dev) (x y : Var) (n m : Nat) (i : Int) (h : n ≠ m) : (d.sv x n i).v y m = d.v y m :=
  tabGet_set_other _ _ _ _ _ _ (fun e => h (congrArg Prod.snd e))

@[simp] theorem Dev.get_sv (d : Dev) (x : Var) (n : Nat) (i : Int) (g : Fld) (m : Nat) : (d.sv x n i).get g m = d.get g m := rfl
@[simp] theorem Dev.v_set (d : Dev) (f : Fld) (n v : Nat) (y : Var) (m : Nat) : (d.set f n v).v y m = d.v y m := rfl
@[simp] theorem Dev.get_emit (d : Dev) (x : Out) (g : Fld) (m : Nat) : (d.emit x).get g m = d.get g m := rfl
@[simp] theorem Dev.v_emit (d : Dev) (x : Out) (y : Var) (m : Nat) : (d.emit x).v y m = d.v y m := rfl
@[simp] theorem Dev.get_drew (d : Dev) (g : Fld) (m : Nat) : d.drew.get g m = d.get g m := rfl
@[simp] theorem Dev.v_drew (d : Dev) (y : Var) (m : Nat) : d.drew.v y m = d.v y m := rfl

/-! ### Updates in terms of the two writes -/

theorem Dev.put_eq (d : Dev) (f : Fld) (n : Nat) (b : Bool) : d.put f n b = d.set f n (b2n b) := rfl
theorem Dev.ev_eq (d : Dev) (f : Fld) (n : Nat) : d.ev f n = d.set f n 1 := rfl
theorem Dev.seti_eq (d : Dev) (f : Fld) (n : Nat) (i : Int) : d.seti f n i = d.set f n (twos f.w i) := rfl
theorem Dev.sflag_eq (d : Dev) (x : Var) (n : Nat) (b : Bool) : d.sflag x n b = d.sv x n (if b then 1 else 0) := rfl
theorem Dev.count_eq (d : Dev) (f : Fld) (n k : Nat) : d.count f n k = d.set f n (min (d.get f n + k) (2 ^ f.w - 1)) := rfl
theorem Dev.evIf_eq (d : Dev) (c : Bool) (f : Fld) (n : Nat) : d.evIf c f n = if c then d.set f n 1 else d := rfl

/-! ### Fields of the record -/

@[simp] theorem Dev.set_vars (d : Dev) (f : Fld) (n v : Nat) : (d.set f n v).vars = d.vars := rfl
@[simp] theorem Dev.set_out (d : Dev) (f : Fld) (n v : Nat) : (d.set f n v).out = d.out := rfl
@[simp] theorem Dev.set_fresh (d : Dev) (f : Fld) (n v : Nat) : (d.set f n v).fresh = d.fresh := rfl
@[simp] theorem Dev.set_bunch0 (d : Dev) (f : Fld) (n v : Nat) : (d.set f n v).bunch0 = d.bunch0 := rfl
@[simp] theorem Dev.set_bunch1 (d : Dev) (f : Fld) (n v : Nat) : (d.set f n v).bunch1 = d.bunch1 := rfl
@[simp] theorem Dev.set_cws (d : Dev) (f : Fld) (n v : Nat) : (d.set f n v).cws = d.cws := rfl
@[simp] theorem Dev.set_eqPips (d : Dev) (f : Fld) (n v : Nat) : (d.set f n v).eqPips = d.eqPips := rfl
@[simp] theorem Dev.set_finals (d : Dev) (f : Fld) (n v : Nat) : (d.set f n v).finals = d.finals := rfl
@[simp] theorem Dev.set_sb (d : Dev) (f : Fld) (n v : Nat) : (d.set f n v).sb = d.sb := rfl
@[simp] theorem Dev.set_loopBits (d : Dev) (f : Fld) (n v : Nat) : (d.set f n v).loopBits = d.loopBits := rfl
@[simp] theorem Dev.set_sloeFw (d : Dev) (f : Fld) (n v : Nat) : (d.set f n v).sloeFw = d.sloeFw := rfl
@[simp] theorem Dev.set_sloeTx (d : Dev) (f : Fld) (n v : Nat) : (d.set f n v).sloeTx = d.sloeTx := rfl
@[simp] theorem Dev.set_sq (d : Dev) (f : Fld) (n v : Nat) : (d.set f n v).sq = d.sq := rfl
@[simp] theorem Dev.set_reloads (d : Dev) (f : Fld) (n v : Nat) : (d.set f n v).reloads = d.reloads := rfl
@[simp] theorem Dev.set_trg (d : Dev) (f : Fld) (n v : Nat) : (d.set f n v).trg = d.trg := rfl
@[simp] theorem Dev.set_events (d : Dev) (f : Fld) (n v : Nat) : (d.set f n v).events = d.events := rfl
@[simp] theorem Dev.set_capQ (d : Dev) (f : Fld) (n v : Nat) : (d.set f n v).capQ = d.capQ := rfl
@[simp] theorem Dev.set_capGaps (d : Dev) (f : Fld) (n v : Nat) : (d.set f n v).capGaps = d.capGaps := rfl
@[simp] theorem Dev.set_capRecs (d : Dev) (f : Fld) (n v : Nat) : (d.set f n v).capRecs = d.capRecs := rfl
@[simp] theorem Dev.set_trigbQ (d : Dev) (f : Fld) (n v : Nat) : (d.set f n v).trigbQ = d.trigbQ := rfl
@[simp] theorem Dev.set_busEvs (d : Dev) (f : Fld) (n v : Nat) : (d.set f n v).busEvs = d.busEvs := rfl
@[simp] theorem Dev.set_merge (d : Dev) (f : Fld) (n v : Nat) : (d.set f n v).merge = d.merge := rfl
@[simp] theorem Dev.set_ueLog (d : Dev) (f : Fld) (n v : Nat) : (d.set f n v).ueLog = d.ueLog := rfl
@[simp] theorem Dev.set_ceStreak (d : Dev) (f : Fld) (n v : Nat) : (d.set f n v).ceStreak = d.ceStreak := rfl
@[simp] theorem Dev.set_ueSeen (d : Dev) (f : Fld) (n v : Nat) : (d.set f n v).ueSeen = d.ueSeen := rfl
@[simp] theorem Dev.set_watch (d : Dev) (f : Fld) (n v : Nat) : (d.set f n v).watch = d.watch := rfl
@[simp] theorem Dev.set_brmFifo (d : Dev) (f : Fld) (n v : Nat) : (d.set f n v).brmFifo = d.brmFifo := rfl
@[simp] theorem Dev.set_txWait (d : Dev) (f : Fld) (n v : Nat) : (d.set f n v).txWait = d.txWait := rfl
@[simp] theorem Dev.set_replay (d : Dev) (f : Fld) (n v : Nat) : (d.set f n v).replay = d.replay := rfl
@[simp] theorem Dev.set_tracked (d : Dev) (f : Fld) (n v : Nat) : (d.set f n v).tracked = d.tracked := rfl
@[simp] theorem Dev.set_ownReqs (d : Dev) (f : Fld) (n v : Nat) : (d.set f n v).ownReqs = d.ownReqs := rfl
@[simp] theorem Dev.set_brCur (d : Dev) (f : Fld) (n v : Nat) : (d.set f n v).brCur = d.brCur := rfl
@[simp] theorem Dev.set_brRes (d : Dev) (f : Fld) (n v : Nat) : (d.set f n v).brRes = d.brRes := rfl
@[simp] theorem Dev.set_brWait (d : Dev) (f : Fld) (n v : Nat) : (d.set f n v).brWait = d.brWait := rfl
@[simp] theorem Dev.set_i3cRes (d : Dev) (f : Fld) (n v : Nat) : (d.set f n v).i3cRes = d.i3cRes := rfl
@[simp] theorem Dev.set_portWait (d : Dev) (f : Fld) (n v : Nat) : (d.set f n v).portWait = d.portWait := rfl
@[simp] theorem Dev.set_undo (d : Dev) (f : Fld) (n v : Nat) : (d.set f n v).undo = d.undo := rfl
@[simp] theorem Dev.set_stnCur (d : Dev) (f : Fld) (n v : Nat) : (d.set f n v).stnCur = d.stnCur := rfl
@[simp] theorem Dev.set_stnQ (d : Dev) (f : Fld) (n v : Nat) : (d.set f n v).stnQ = d.stnQ := rfl
@[simp] theorem Dev.set_fuse (d : Dev) (f : Fld) (n v : Nat) : (d.set f n v).fuse = d.fuse := rfl
@[simp] theorem Dev.set_mrs (d : Dev) (f : Fld) (n v : Nat) : (d.set f n v).mrs = d.mrs := rfl
@[simp] theorem Dev.set_seedBuf (d : Dev) (f : Fld) (n v : Nat) : (d.set f n v).seedBuf = d.seedBuf := rfl
@[simp] theorem Dev.set_seedNew (d : Dev) (f : Fld) (n v : Nat) : (d.set f n v).seedNew = d.seedNew := rfl
@[simp] theorem Dev.set_secDig (d : Dev) (f : Fld) (n v : Nat) : (d.set f n v).secDig = d.secDig := rfl
@[simp] theorem Dev.set_attRep (d : Dev) (f : Fld) (n v : Nat) : (d.set f n v).attRep = d.attRep := rfl
@[simp] theorem Dev.set_retVars (d : Dev) (f : Fld) (n v : Nat) : (d.set f n v).retVars = d.retVars := rfl
@[simp] theorem Dev.set_retRegs (d : Dev) (f : Fld) (n v : Nat) : (d.set f n v).retRegs = d.retRegs := rfl

@[simp] theorem Dev.sv_regs (d : Dev) (x : Var) (n : Nat) (i : Int) : (d.sv x n i).regs = d.regs := rfl
@[simp] theorem Dev.sv_out (d : Dev) (x : Var) (n : Nat) (i : Int) : (d.sv x n i).out = d.out := rfl
@[simp] theorem Dev.sv_fresh (d : Dev) (x : Var) (n : Nat) (i : Int) : (d.sv x n i).fresh = d.fresh := rfl
@[simp] theorem Dev.sv_bunch0 (d : Dev) (x : Var) (n : Nat) (i : Int) : (d.sv x n i).bunch0 = d.bunch0 := rfl
@[simp] theorem Dev.sv_bunch1 (d : Dev) (x : Var) (n : Nat) (i : Int) : (d.sv x n i).bunch1 = d.bunch1 := rfl
@[simp] theorem Dev.sv_cws (d : Dev) (x : Var) (n : Nat) (i : Int) : (d.sv x n i).cws = d.cws := rfl
@[simp] theorem Dev.sv_eqPips (d : Dev) (x : Var) (n : Nat) (i : Int) : (d.sv x n i).eqPips = d.eqPips := rfl
@[simp] theorem Dev.sv_finals (d : Dev) (x : Var) (n : Nat) (i : Int) : (d.sv x n i).finals = d.finals := rfl
@[simp] theorem Dev.sv_sb (d : Dev) (x : Var) (n : Nat) (i : Int) : (d.sv x n i).sb = d.sb := rfl
@[simp] theorem Dev.sv_loopBits (d : Dev) (x : Var) (n : Nat) (i : Int) : (d.sv x n i).loopBits = d.loopBits := rfl
@[simp] theorem Dev.sv_sloeFw (d : Dev) (x : Var) (n : Nat) (i : Int) : (d.sv x n i).sloeFw = d.sloeFw := rfl
@[simp] theorem Dev.sv_sloeTx (d : Dev) (x : Var) (n : Nat) (i : Int) : (d.sv x n i).sloeTx = d.sloeTx := rfl
@[simp] theorem Dev.sv_sq (d : Dev) (x : Var) (n : Nat) (i : Int) : (d.sv x n i).sq = d.sq := rfl
@[simp] theorem Dev.sv_reloads (d : Dev) (x : Var) (n : Nat) (i : Int) : (d.sv x n i).reloads = d.reloads := rfl
@[simp] theorem Dev.sv_trg (d : Dev) (x : Var) (n : Nat) (i : Int) : (d.sv x n i).trg = d.trg := rfl
@[simp] theorem Dev.sv_events (d : Dev) (x : Var) (n : Nat) (i : Int) : (d.sv x n i).events = d.events := rfl
@[simp] theorem Dev.sv_capQ (d : Dev) (x : Var) (n : Nat) (i : Int) : (d.sv x n i).capQ = d.capQ := rfl
@[simp] theorem Dev.sv_capGaps (d : Dev) (x : Var) (n : Nat) (i : Int) : (d.sv x n i).capGaps = d.capGaps := rfl
@[simp] theorem Dev.sv_capRecs (d : Dev) (x : Var) (n : Nat) (i : Int) : (d.sv x n i).capRecs = d.capRecs := rfl
@[simp] theorem Dev.sv_trigbQ (d : Dev) (x : Var) (n : Nat) (i : Int) : (d.sv x n i).trigbQ = d.trigbQ := rfl
@[simp] theorem Dev.sv_busEvs (d : Dev) (x : Var) (n : Nat) (i : Int) : (d.sv x n i).busEvs = d.busEvs := rfl
@[simp] theorem Dev.sv_merge (d : Dev) (x : Var) (n : Nat) (i : Int) : (d.sv x n i).merge = d.merge := rfl
@[simp] theorem Dev.sv_ueLog (d : Dev) (x : Var) (n : Nat) (i : Int) : (d.sv x n i).ueLog = d.ueLog := rfl
@[simp] theorem Dev.sv_ceStreak (d : Dev) (x : Var) (n : Nat) (i : Int) : (d.sv x n i).ceStreak = d.ceStreak := rfl
@[simp] theorem Dev.sv_ueSeen (d : Dev) (x : Var) (n : Nat) (i : Int) : (d.sv x n i).ueSeen = d.ueSeen := rfl
@[simp] theorem Dev.sv_watch (d : Dev) (x : Var) (n : Nat) (i : Int) : (d.sv x n i).watch = d.watch := rfl
@[simp] theorem Dev.sv_brmFifo (d : Dev) (x : Var) (n : Nat) (i : Int) : (d.sv x n i).brmFifo = d.brmFifo := rfl
@[simp] theorem Dev.sv_txWait (d : Dev) (x : Var) (n : Nat) (i : Int) : (d.sv x n i).txWait = d.txWait := rfl
@[simp] theorem Dev.sv_replay (d : Dev) (x : Var) (n : Nat) (i : Int) : (d.sv x n i).replay = d.replay := rfl
@[simp] theorem Dev.sv_tracked (d : Dev) (x : Var) (n : Nat) (i : Int) : (d.sv x n i).tracked = d.tracked := rfl
@[simp] theorem Dev.sv_ownReqs (d : Dev) (x : Var) (n : Nat) (i : Int) : (d.sv x n i).ownReqs = d.ownReqs := rfl
@[simp] theorem Dev.sv_brCur (d : Dev) (x : Var) (n : Nat) (i : Int) : (d.sv x n i).brCur = d.brCur := rfl
@[simp] theorem Dev.sv_brRes (d : Dev) (x : Var) (n : Nat) (i : Int) : (d.sv x n i).brRes = d.brRes := rfl
@[simp] theorem Dev.sv_brWait (d : Dev) (x : Var) (n : Nat) (i : Int) : (d.sv x n i).brWait = d.brWait := rfl
@[simp] theorem Dev.sv_i3cRes (d : Dev) (x : Var) (n : Nat) (i : Int) : (d.sv x n i).i3cRes = d.i3cRes := rfl
@[simp] theorem Dev.sv_portWait (d : Dev) (x : Var) (n : Nat) (i : Int) : (d.sv x n i).portWait = d.portWait := rfl
@[simp] theorem Dev.sv_undo (d : Dev) (x : Var) (n : Nat) (i : Int) : (d.sv x n i).undo = d.undo := rfl
@[simp] theorem Dev.sv_stnCur (d : Dev) (x : Var) (n : Nat) (i : Int) : (d.sv x n i).stnCur = d.stnCur := rfl
@[simp] theorem Dev.sv_stnQ (d : Dev) (x : Var) (n : Nat) (i : Int) : (d.sv x n i).stnQ = d.stnQ := rfl
@[simp] theorem Dev.sv_fuse (d : Dev) (x : Var) (n : Nat) (i : Int) : (d.sv x n i).fuse = d.fuse := rfl
@[simp] theorem Dev.sv_mrs (d : Dev) (x : Var) (n : Nat) (i : Int) : (d.sv x n i).mrs = d.mrs := rfl
@[simp] theorem Dev.sv_seedBuf (d : Dev) (x : Var) (n : Nat) (i : Int) : (d.sv x n i).seedBuf = d.seedBuf := rfl
@[simp] theorem Dev.sv_seedNew (d : Dev) (x : Var) (n : Nat) (i : Int) : (d.sv x n i).seedNew = d.seedNew := rfl
@[simp] theorem Dev.sv_secDig (d : Dev) (x : Var) (n : Nat) (i : Int) : (d.sv x n i).secDig = d.secDig := rfl
@[simp] theorem Dev.sv_attRep (d : Dev) (x : Var) (n : Nat) (i : Int) : (d.sv x n i).attRep = d.attRep := rfl
@[simp] theorem Dev.sv_retVars (d : Dev) (x : Var) (n : Nat) (i : Int) : (d.sv x n i).retVars = d.retVars := rfl
@[simp] theorem Dev.sv_retRegs (d : Dev) (x : Var) (n : Nat) (i : Int) : (d.sv x n i).retRegs = d.retRegs := rfl

@[simp] theorem Dev.emit_regs (d : Dev) (x : Out) : (d.emit x).regs = d.regs := rfl
@[simp] theorem Dev.emit_vars (d : Dev) (x : Out) : (d.emit x).vars = d.vars := rfl
@[simp] theorem Dev.emit_fresh (d : Dev) (x : Out) : (d.emit x).fresh = d.fresh := rfl
@[simp] theorem Dev.emit_bunch0 (d : Dev) (x : Out) : (d.emit x).bunch0 = d.bunch0 := rfl
@[simp] theorem Dev.emit_bunch1 (d : Dev) (x : Out) : (d.emit x).bunch1 = d.bunch1 := rfl
@[simp] theorem Dev.emit_cws (d : Dev) (x : Out) : (d.emit x).cws = d.cws := rfl
@[simp] theorem Dev.emit_eqPips (d : Dev) (x : Out) : (d.emit x).eqPips = d.eqPips := rfl
@[simp] theorem Dev.emit_finals (d : Dev) (x : Out) : (d.emit x).finals = d.finals := rfl
@[simp] theorem Dev.emit_sb (d : Dev) (x : Out) : (d.emit x).sb = d.sb := rfl
@[simp] theorem Dev.emit_loopBits (d : Dev) (x : Out) : (d.emit x).loopBits = d.loopBits := rfl
@[simp] theorem Dev.emit_sloeFw (d : Dev) (x : Out) : (d.emit x).sloeFw = d.sloeFw := rfl
@[simp] theorem Dev.emit_sloeTx (d : Dev) (x : Out) : (d.emit x).sloeTx = d.sloeTx := rfl
@[simp] theorem Dev.emit_sq (d : Dev) (x : Out) : (d.emit x).sq = d.sq := rfl
@[simp] theorem Dev.emit_reloads (d : Dev) (x : Out) : (d.emit x).reloads = d.reloads := rfl
@[simp] theorem Dev.emit_trg (d : Dev) (x : Out) : (d.emit x).trg = d.trg := rfl
@[simp] theorem Dev.emit_events (d : Dev) (x : Out) : (d.emit x).events = d.events := rfl
@[simp] theorem Dev.emit_capQ (d : Dev) (x : Out) : (d.emit x).capQ = d.capQ := rfl
@[simp] theorem Dev.emit_capGaps (d : Dev) (x : Out) : (d.emit x).capGaps = d.capGaps := rfl
@[simp] theorem Dev.emit_capRecs (d : Dev) (x : Out) : (d.emit x).capRecs = d.capRecs := rfl
@[simp] theorem Dev.emit_trigbQ (d : Dev) (x : Out) : (d.emit x).trigbQ = d.trigbQ := rfl
@[simp] theorem Dev.emit_busEvs (d : Dev) (x : Out) : (d.emit x).busEvs = d.busEvs := rfl
@[simp] theorem Dev.emit_merge (d : Dev) (x : Out) : (d.emit x).merge = d.merge := rfl
@[simp] theorem Dev.emit_ueLog (d : Dev) (x : Out) : (d.emit x).ueLog = d.ueLog := rfl
@[simp] theorem Dev.emit_ceStreak (d : Dev) (x : Out) : (d.emit x).ceStreak = d.ceStreak := rfl
@[simp] theorem Dev.emit_ueSeen (d : Dev) (x : Out) : (d.emit x).ueSeen = d.ueSeen := rfl
@[simp] theorem Dev.emit_watch (d : Dev) (x : Out) : (d.emit x).watch = d.watch := rfl
@[simp] theorem Dev.emit_brmFifo (d : Dev) (x : Out) : (d.emit x).brmFifo = d.brmFifo := rfl
@[simp] theorem Dev.emit_txWait (d : Dev) (x : Out) : (d.emit x).txWait = d.txWait := rfl
@[simp] theorem Dev.emit_replay (d : Dev) (x : Out) : (d.emit x).replay = d.replay := rfl
@[simp] theorem Dev.emit_tracked (d : Dev) (x : Out) : (d.emit x).tracked = d.tracked := rfl
@[simp] theorem Dev.emit_ownReqs (d : Dev) (x : Out) : (d.emit x).ownReqs = d.ownReqs := rfl
@[simp] theorem Dev.emit_brCur (d : Dev) (x : Out) : (d.emit x).brCur = d.brCur := rfl
@[simp] theorem Dev.emit_brRes (d : Dev) (x : Out) : (d.emit x).brRes = d.brRes := rfl
@[simp] theorem Dev.emit_brWait (d : Dev) (x : Out) : (d.emit x).brWait = d.brWait := rfl
@[simp] theorem Dev.emit_i3cRes (d : Dev) (x : Out) : (d.emit x).i3cRes = d.i3cRes := rfl
@[simp] theorem Dev.emit_portWait (d : Dev) (x : Out) : (d.emit x).portWait = d.portWait := rfl
@[simp] theorem Dev.emit_undo (d : Dev) (x : Out) : (d.emit x).undo = d.undo := rfl
@[simp] theorem Dev.emit_stnCur (d : Dev) (x : Out) : (d.emit x).stnCur = d.stnCur := rfl
@[simp] theorem Dev.emit_stnQ (d : Dev) (x : Out) : (d.emit x).stnQ = d.stnQ := rfl
@[simp] theorem Dev.emit_fuse (d : Dev) (x : Out) : (d.emit x).fuse = d.fuse := rfl
@[simp] theorem Dev.emit_mrs (d : Dev) (x : Out) : (d.emit x).mrs = d.mrs := rfl
@[simp] theorem Dev.emit_seedBuf (d : Dev) (x : Out) : (d.emit x).seedBuf = d.seedBuf := rfl
@[simp] theorem Dev.emit_seedNew (d : Dev) (x : Out) : (d.emit x).seedNew = d.seedNew := rfl
@[simp] theorem Dev.emit_secDig (d : Dev) (x : Out) : (d.emit x).secDig = d.secDig := rfl
@[simp] theorem Dev.emit_attRep (d : Dev) (x : Out) : (d.emit x).attRep = d.attRep := rfl
@[simp] theorem Dev.emit_retVars (d : Dev) (x : Out) : (d.emit x).retVars = d.retVars := rfl
@[simp] theorem Dev.emit_retRegs (d : Dev) (x : Out) : (d.emit x).retRegs = d.retRegs := rfl

@[simp] theorem Dev.drew_regs (d : Dev) : (d.drew).regs = d.regs := rfl
@[simp] theorem Dev.drew_vars (d : Dev) : (d.drew).vars = d.vars := rfl
@[simp] theorem Dev.drew_out (d : Dev) : (d.drew).out = d.out := rfl
@[simp] theorem Dev.drew_bunch0 (d : Dev) : (d.drew).bunch0 = d.bunch0 := rfl
@[simp] theorem Dev.drew_bunch1 (d : Dev) : (d.drew).bunch1 = d.bunch1 := rfl
@[simp] theorem Dev.drew_cws (d : Dev) : (d.drew).cws = d.cws := rfl
@[simp] theorem Dev.drew_eqPips (d : Dev) : (d.drew).eqPips = d.eqPips := rfl
@[simp] theorem Dev.drew_finals (d : Dev) : (d.drew).finals = d.finals := rfl
@[simp] theorem Dev.drew_sb (d : Dev) : (d.drew).sb = d.sb := rfl
@[simp] theorem Dev.drew_loopBits (d : Dev) : (d.drew).loopBits = d.loopBits := rfl
@[simp] theorem Dev.drew_sloeFw (d : Dev) : (d.drew).sloeFw = d.sloeFw := rfl
@[simp] theorem Dev.drew_sloeTx (d : Dev) : (d.drew).sloeTx = d.sloeTx := rfl
@[simp] theorem Dev.drew_sq (d : Dev) : (d.drew).sq = d.sq := rfl
@[simp] theorem Dev.drew_reloads (d : Dev) : (d.drew).reloads = d.reloads := rfl
@[simp] theorem Dev.drew_trg (d : Dev) : (d.drew).trg = d.trg := rfl
@[simp] theorem Dev.drew_events (d : Dev) : (d.drew).events = d.events := rfl
@[simp] theorem Dev.drew_capQ (d : Dev) : (d.drew).capQ = d.capQ := rfl
@[simp] theorem Dev.drew_capGaps (d : Dev) : (d.drew).capGaps = d.capGaps := rfl
@[simp] theorem Dev.drew_capRecs (d : Dev) : (d.drew).capRecs = d.capRecs := rfl
@[simp] theorem Dev.drew_trigbQ (d : Dev) : (d.drew).trigbQ = d.trigbQ := rfl
@[simp] theorem Dev.drew_busEvs (d : Dev) : (d.drew).busEvs = d.busEvs := rfl
@[simp] theorem Dev.drew_merge (d : Dev) : (d.drew).merge = d.merge := rfl
@[simp] theorem Dev.drew_ueLog (d : Dev) : (d.drew).ueLog = d.ueLog := rfl
@[simp] theorem Dev.drew_ceStreak (d : Dev) : (d.drew).ceStreak = d.ceStreak := rfl
@[simp] theorem Dev.drew_ueSeen (d : Dev) : (d.drew).ueSeen = d.ueSeen := rfl
@[simp] theorem Dev.drew_watch (d : Dev) : (d.drew).watch = d.watch := rfl
@[simp] theorem Dev.drew_brmFifo (d : Dev) : (d.drew).brmFifo = d.brmFifo := rfl
@[simp] theorem Dev.drew_txWait (d : Dev) : (d.drew).txWait = d.txWait := rfl
@[simp] theorem Dev.drew_replay (d : Dev) : (d.drew).replay = d.replay := rfl
@[simp] theorem Dev.drew_tracked (d : Dev) : (d.drew).tracked = d.tracked := rfl
@[simp] theorem Dev.drew_ownReqs (d : Dev) : (d.drew).ownReqs = d.ownReqs := rfl
@[simp] theorem Dev.drew_brCur (d : Dev) : (d.drew).brCur = d.brCur := rfl
@[simp] theorem Dev.drew_brRes (d : Dev) : (d.drew).brRes = d.brRes := rfl
@[simp] theorem Dev.drew_brWait (d : Dev) : (d.drew).brWait = d.brWait := rfl
@[simp] theorem Dev.drew_i3cRes (d : Dev) : (d.drew).i3cRes = d.i3cRes := rfl
@[simp] theorem Dev.drew_portWait (d : Dev) : (d.drew).portWait = d.portWait := rfl
@[simp] theorem Dev.drew_undo (d : Dev) : (d.drew).undo = d.undo := rfl
@[simp] theorem Dev.drew_stnCur (d : Dev) : (d.drew).stnCur = d.stnCur := rfl
@[simp] theorem Dev.drew_stnQ (d : Dev) : (d.drew).stnQ = d.stnQ := rfl
@[simp] theorem Dev.drew_fuse (d : Dev) : (d.drew).fuse = d.fuse := rfl
@[simp] theorem Dev.drew_mrs (d : Dev) : (d.drew).mrs = d.mrs := rfl
@[simp] theorem Dev.drew_seedBuf (d : Dev) : (d.drew).seedBuf = d.seedBuf := rfl
@[simp] theorem Dev.drew_seedNew (d : Dev) : (d.drew).seedNew = d.seedNew := rfl
@[simp] theorem Dev.drew_secDig (d : Dev) : (d.drew).secDig = d.secDig := rfl
@[simp] theorem Dev.drew_attRep (d : Dev) : (d.drew).attRep = d.attRep := rfl
@[simp] theorem Dev.drew_retVars (d : Dev) : (d.drew).retVars = d.retVars := rfl
@[simp] theorem Dev.drew_retRegs (d : Dev) : (d.drew).retRegs = d.retRegs := rfl

@[simp] theorem Dev.emit_out (d : Dev) (x : Out) : (d.emit x).out = d.out ++ [x] := rfl
@[simp] theorem Dev.drew_fresh (d : Dev) : d.drew.fresh = d.fresh + 1 := rfl

end Sys2Proof.Machine
end

