-- ==== Sys2Proof/Laws/Frame.lean ====
section
/-! SUPPORT. How the frame of a command is built from the frames of the updates it makes. -/

namespace Sys2Proof.Machine

variable {r x r' x' : Key → Prop} {ps : List Part} {d e : Dev}

theorem Part.refl (p : Part) (d : Dev) : p.same d d := by cases p <;> rfl

theorem Part.trans {p : Part} {a b c : Dev} (h : p.same a b) (k : p.same b c) : p.same a c := by cases p <;> exact Eq.trans k h

theorem Keeps.refl (r x : Key → Prop) (ps : List Part) (d : Dev) : Keeps r x ps d d :=
  ⟨fun _ _ _ _ => rfl, fun _ _ _ _ => rfl, fun p _ => p.refl d, List.prefix_refl _⟩

theorem Keeps.trans {a b c : Dev} (h : Keeps r x ps a b) (k : Keeps r x ps b c) : Keeps r x ps a c :=
  ⟨fun f n u v => (k.regs f n u v).trans (h.regs f n u v), fun y n u v => (k.vars y n u v).trans (h.vars y n u v),
    fun p m => Part.trans (h.rest p m) (k.rest p m), h.sent.trans k.sent⟩

/-- A frame may allow more. -/
theorem Keeps.mono (h : Keeps r' x' [] d e) (hr : ∀ k, r' k → r k) (hx : ∀ k, x' k → x k) : Keeps r x ps d e :=
  ⟨fun f n u w => h.regs f n u (fun m => w (hr _ m)), fun y n u w => h.vars y n u (fun m => w (hx _ m)), fun p _ => h.rest p (by simp), h.sent⟩

/-- A field that is allowed may be set. -/
theorem Keeps.set (h : Keeps r x ps d e) (f : Fld) (n v : Nat) (m : r (fkey f n)) : Keeps r x ps d (e.set f n v) :=
  ⟨fun g k u w => (tabGet_set_other _ (fkey f n) (fkey g k) _ _ _ (fun c => w (c ▸ m))).trans (h.regs g k u w), h.vars, fun p m => Part.trans (h.rest p m) (by cases p <;> rfl), h.sent⟩

/-- A variable that is allowed may be set. -/
theorem Keeps.sv (h : Keeps r x ps d e) (y : Var) (n : Nat) (i : Int) (m : x (vkey y n)) : Keeps r x ps d (e.sv y n i) :=
  ⟨h.regs, fun z k u w => (tabGet_set_other _ (vkey y n) (vkey z k) _ _ _ (fun c => w (c ▸ m))).trans (h.vars z k u w),
    fun p m => Part.trans (h.rest p m) (by cases p <;> rfl), h.sent⟩

/-- A message may be sent. -/
theorem Keeps.emit (h : Keeps r x ps d e) (o : Out) : Keeps r x ps d (e.emit o) :=
  ⟨h.regs, h.vars, fun p m => Part.trans (h.rest p m) (by cases p <;> rfl), h.sent.trans (List.prefix_append ..)⟩

/-- A change of the parts named. -/
theorem Keeps.record {e' : Dev} (h : Keeps r x ps d e) (hr : e'.regs = e.regs) (hv : e'.vars = e.vars) (hq : ∀ p, p ∉ ps → p.same e e')
    (ho : e'.out = e.out) : Keeps r x ps d e' :=
  ⟨fun f n u w => (show tabGet e'.regs _ _ = _ by rw [hr]; exact h.regs f n u w),
    fun y n u w => (show tabGet e'.vars _ _ = _ by rw [hv]; exact h.vars y n u w), fun p m => Part.trans (h.rest p m) (hq p m), ho ▸ h.sent⟩

theorem Keeps.ite {e' : Dev} {c : Prop} [Decidable c] (h : c → Keeps r x ps d e) (k : ¬c → Keeps r x ps d e') :
    Keeps r x ps d (if c then e else e') := by
  split
  · exact h ‹_›
  · exact k ‹_›

theorem Keeps.when (h : Keeps r x ps d e) (c : Bool) (g : Dev → Dev) (k : c = true → Keeps r x ps d (g e)) : Keeps r x ps d (e.when c g) :=
  Keeps.ite k (fun _ => h)

theorem Keeps.evIf (h : Keeps r x ps d e) (c : Bool) (f : Fld) (n : Nat) (m : r (fkey f n)) : Keeps r x ps d (e.evIf c f n) :=
  Keeps.ite (fun _ => h.set f n 1 m) (fun _ => h)

theorem Keeps.put (h : Keeps r x ps d e) (f : Fld) (n : Nat) (b : Bool) (m : r (fkey f n)) : Keeps r x ps d (e.put f n b) := h.set f n _ m

theorem Keeps.ev (h : Keeps r x ps d e) (f : Fld) (n : Nat) (m : r (fkey f n)) : Keeps r x ps d (e.ev f n) := h.set f n _ m

theorem Keeps.seti (h : Keeps r x ps d e) (f : Fld) (n : Nat) (i : Int) (m : r (fkey f n)) : Keeps r x ps d (e.seti f n i) := h.set f n _ m

theorem Keeps.count (h : Keeps r x ps d e) (f : Fld) (n k : Nat) (m : r (fkey f n)) : Keeps r x ps d (e.count f n k) := h.set f n _ m

theorem Keeps.setBit (h : Keeps r x ps d e) (f : Fld) (n k : Nat) (b : Bool) (m : r (fkey f n)) : Keeps r x ps d (e.setBit f n k b) :=
  h.set f n _ m

theorem Keeps.sflag (h : Keeps r x ps d e) (y : Var) (n : Nat) (b : Bool) (m : x (vkey y n)) : Keeps r x ps d (e.sflag y n b) := h.sv y n _ m

theorem Keeps.each {α : Type} (h : Keeps r x ps d e) (l : List α) (g : α → Dev → Dev)
    (k : ∀ a ∈ l, ∀ c, Keeps r x ps d c → Keeps r x ps d (g a c)) : Keeps r x ps d (e.each l g) := by
  unfold Dev.each
  induction l generalizing e with
  | nil => exact h
  | cons a l ih => exact ih (k a (by simp) e h) (fun b hb => k b (by simp [hb]))

/-- A field of a register named is a field of the registers named. -/
theorem regsIn_fkey (rs : List Reg) (f : Fld) (n : Nat) (h : f.reg.ctorIdx ∈ rs.map Reg.ctorIdx) (hl : f.lo < 32) :
    regsIn rs (fkey f n) := by
  unfold regsIn fkey
  rwa [show (f.reg.ctorIdx * 32 + f.lo) / 32 = f.reg.ctorIdx by omega]

/-- A field of a register named with its instance is a field of the registers named. -/
theorem regsAt_fkey (rs : List (Reg × Nat)) (f : Fld) (n : Nat) (h : (f.reg.ctorIdx, n) ∈ rs.map (fun r => (r.1.ctorIdx, r.2)))
    (hl : f.lo < 32) : regsAt rs (fkey f n) := by
  unfold regsAt fkey
  rwa [show (f.reg.ctorIdx * 32 + f.lo) / 32 = f.reg.ctorIdx by omega]

/-- An instance of a field named is among the fields named. -/
theorem fieldsIn_fkey (fs : List Fld) (f : Fld) (n : Nat) (h : f.reg.ctorIdx * 32 + f.lo ∈ fs.map (fun g => g.reg.ctorIdx * 32 + g.lo)) :
    fieldsIn fs (fkey f n) := h

/-- A list of registers with more in it names more. -/
theorem regsIn_sub {rs rs' : List Reg} (h : ∀ a ∈ rs.map Reg.ctorIdx, a ∈ rs'.map Reg.ctorIdx) (k : Key) (m : regsIn rs k) : regsIn rs' k :=
  h _ m

/-- A list of variables with more in it names more. -/
theorem varsIn_sub {xs xs' : List Var} (h : ∀ a ∈ xs.map Var.ctorIdx, a ∈ xs'.map Var.ctorIdx) (k : Key) (m : varsIn xs k) : varsIn xs' k :=
  h _ m

/-- An instance of a variable named is among the variables named. -/
theorem varsIn_vkey (xs : List Var) (y : Var) (n : Nat) (h : y.ctorIdx ∈ xs.map Var.ctorIdx) : varsIn xs (vkey y n) := h

theorem tabFind_filter {α : Type} (m : Tab α) (p : Key → Bool) (k : Key) :
    tabFind (m.filter (fun e => !(p e.1))) k = if p k then none else tabFind m k := by
  induction m with
  | nil => simp [tabFind]
  | cons e m ih =>
    by_cases he : e.1 = k
    · by_cases hp : p k
      · simp [he, hp, ih]
      · simp [he, hp, tabFind]
    · by_cases hp : p e.1
      · simp [hp, ih, tabFind, he]
      · simp [hp, ih, tabFind, he]

/-- A field after some fields and variables have been dropped. -/
theorem Dev.get_drop (d : Dev) (p q : Key → Bool) (f : Fld) (n : Nat) :
    (d.drop p q).get f n = if p (fkey f n) then rstAt f.rst n else d.get f n := by
  unfold Dev.get Dev.drop tabGet
  rw [tabFind_filter]
  split <;> rfl

/-- A variable after some fields and variables have been dropped. -/
theorem Dev.v_drop (d : Dev) (p q : Key → Bool) (x : Var) (n : Nat) :
    (d.drop p q).v x n = if q (vkey x n) then varRst x n else d.v x n := by
  unfold Dev.v Dev.drop tabGet
  rw [tabFind_filter]
  split <;> rfl

/-- Fields and variables that are allowed may be dropped. -/
theorem Keeps.drop (h : Keeps r x ps d e) (p q : Key → Bool) (hp : ∀ k, p k = true → r k) (hq : ∀ k, q k = true → x k) :
    Keeps r x ps d (e.drop p q) :=
  ⟨fun f n u w => by
      rw [Dev.get_drop]
      split
      · exact absurd (hp _ ‹_›) w
      · exact h.regs f n u w,
    fun y n u w => by
      rw [Dev.v_drop]
      split
      · exact absurd (hq _ ‹_›) w
      · exact h.vars y n u w,
    fun p' m => Part.trans (h.rest p' m) (by cases p' <;> rfl), h.sent⟩

end Sys2Proof.Machine
end

