-- ==== Sys2Proof/Laws/Link.lean ====
section
/-! SUPPORT. What follows in the same mclk when a condition of a lane or a port changes stays within the fields and variables of
the link. -/

namespace Sys2Proof.Machine

/-- Within the fields and variables of the link. -/
abbrev Linked (d e : Dev) : Prop := Keeps linked (varsIn linkVars) [] d e

variable {d e : Dev}

theorem Linked.set (h : Linked d e) (f : Fld) (n v : Nat) (m : f.reg.ctorIdx * 32 + f.lo ∈ linkFields.map (fun g => g.reg.ctorIdx * 32 + g.lo)) :
    Linked d (e.set f n v) := Keeps.set h f n v m

theorem Linked.evIf (h : Linked d e) (c : Bool) (f : Fld) (n : Nat) (m : f.reg.ctorIdx * 32 + f.lo ∈ linkFields.map (fun g => g.reg.ctorIdx * 32 + g.lo)) :
    Linked d (e.evIf c f n) := Keeps.evIf h c f n m

theorem Linked.sv (h : Linked d e) (y : Var) (n : Nat) (i : Int) (m : y.ctorIdx ∈ linkVars.map Var.ctorIdx) : Linked d (e.sv y n i) :=
  Keeps.sv h y n i m

theorem Linked.cdrUnlock (h : Linked d e) (n : Nat) : Linked d (e.cdrUnlock n) :=
  (((h.evIf _ LL_CDR_STATUS_LOCK_LOST n (by decide)).set LL_CDR_STATUS_LOCKED n 0 (by decide))).sv .cdrStable n 0
    (by decide)

theorem Linked.cdrRefresh (h : Linked d e) (n : Nat) : Linked d (e.cdrRefresh n) := by
  unfold Dev.cdrRefresh
  have k := Keeps.when (h.set LL_CDR_STATUS_HOLDING n (b2n (e.on BN_LINK_STATUS_LOS n || e.get LL_CDR_CTRL_MODE n == 1)) (by decide))
    (e.on BN_LINK_STATUS_LOS n || e.get LL_CDR_CTRL_MODE n == 1) (fun x => x.sv .eqHoldPip n 1)
    (fun _ => Linked.sv (h.set LL_CDR_STATUS_HOLDING n _ (by decide)) .eqHoldPip n 1 (by decide))
  exact Keeps.ite (fun _ => Linked.cdrUnlock k n) (fun _ => k)

theorem Linked.followers (h : Linked d e) (sl : Nat) : Linked d (e.followers sl) := by
  have upd (x : Dev) (k : Linked d x) (i : Nat) (f : Option Int) :
      Linked d (match f with
        | some y => (x.sv .folEver i 1).sv .folFreq i (10 * y)
        | none => x.sv .folFreq i (if x.flag .folEver i then x.v .folNow i else 0)) := by
    cases f
    · exact k.sv .folFreq _ _ (by decide)
    · exact (k.sv .folEver _ _ (by decide)).sv .folFreq _ _ (by decide)
  unfold Dev.followers
  refine upd _ (upd _ (Linked.set (Keeps.each h _ _ ?_) BN_PORT_STATUS_TX_REF_LINE _ _ (by decide)) _ _) _ _
  exact fun n _ c k => ((Linked.set k LL_CDR_STATUS_RX_REF n _ (by decide)).set LL_CDR_STATUS_TX_REF_VALID n _ (by decide)).set LL_CDR_STATUS_TX_REF_HL n _ (by decide)

theorem Linked.enterState (h : Linked d e) (n st : Nat) : Linked d (e.enterState n st) := by
  have k1 : Linked d (if e.get BN_LINK_STATUS_STATE n = stUP then
      ((e.ev BN_LINK_STATUS_UP_LOST n).count BN_LINK_CNT_UP_LOSS n 1).sv .lkStable n 0 else e) :=
    Keeps.ite (fun _ => ((h.set BN_LINK_STATUS_UP_LOST n 1 (by decide)).set BN_LINK_CNT_UP_LOSS n _ (by decide)).sv .lkStable n 0 (by decide)) (fun _ => h)
  unfold Dev.enterState
  refine Keeps.ite (fun _ => h) (fun _ => ?_)
  generalize (if e.get BN_LINK_STATUS_STATE n = stUP then
      ((e.ev BN_LINK_STATUS_UP_LOST n).count BN_LINK_CNT_UP_LOSS n 1).sv .lkStable n 0 else e) = a at k1
  have k2 : Linked d (((a.set BN_LINK_STATUS_STATE n st).sv .lkTimer n (a.stateTimer n st)).when (st == stEQACQ)
      (fun e => e.sv .eqAcq n 1)) := by
    have k := (k1.set BN_LINK_STATUS_STATE n st (by decide)).sv .lkTimer n (a.stateTimer n st) (by decide)
    exact Keeps.when k _ _ (fun _ => k.sv .eqAcq n 1 (by decide))
  exact Keeps.ite (fun _ => Keeps.ite (fun _ => k2.set BN_LINK_STATUS_ATTEMPTS n 0 (by decide))
    (fun _ => k2.sv .lkStable n 1 (by decide))) (fun _ => k2)

theorem Linked.fillDir (h : Linked d e) (dir : Dir) (sl : Nat) : Linked d (e.fillDir dir sl) := by
  have cut (x : Dev) (k : Linked d x) (c : Bool) :
      Linked d (if c then ((x.count GBX_LL_CNT_CUTS sl 1).sv .frameOn (2 * sl + dir.ix) 0).emit (.blocks sl dir .error 1) else x) :=
    Keeps.ite (fun _ => Keeps.emit ((k.set GBX_LL_CNT_CUTS sl _ (by decide)).sv .frameOn _ _ (by decide)) _) (fun _ => k)
  unfold Dev.fillDir
  cases dir
  all_goals
    refine Linked.evIf (Linked.set (cut _ (Keeps.each h _ _ fun m _ c k => ?_) _) _ _ _ (by decide)) _ _ _ (by decide)
    exact Keeps.ite (fun _ => Keeps.ite (fun _ => Linked.sv k .fillRun _ _ (by decide)) (fun _ => k))
      (fun _ => Linked.sv k .fillRun _ _ (by decide))

theorem Linked.fillRefresh (h : Linked d e) (sl : Nat) : Linked d (e.fillRefresh sl) :=
  Keeps.ite (fun _ => (h.fillDir .rx sl).fillDir .tx sl) (fun _ => h)

theorem Linked.hlRefresh (h : Linked d e) (m : Nat) : Linked d (e.hlRefresh m) :=
  Keeps.ite (fun _ => ((h.set HL_STATUS_TX_EIDLE m 1 (by decide)).set HL_STATUS_TX_READY m 0 (by decide)).sv .hlExit
    m 0 (by decide)) (fun _ => Keeps.ite (fun _ => h) (fun _ => (h.set HL_STATUS_TX_EIDLE m 0 (by decide)).sv .hlExit m 1 (by decide)))

theorem Linked.portRefresh (h : Linked d e) (sl : Nat) : Linked d (e.portRefresh sl) := by
  have k := (((h.evIf (e.on BN_PORT_STATUS_RX_UP sl && !(e.rxUp sl)) BN_PORT_STATUS_RX_DOWN_EV sl (by decide)).evIf
      (e.on BN_PORT_STATUS_TX_UP sl && !(e.txUp sl)) BN_PORT_STATUS_TX_DOWN_EV sl (by decide)).set BN_PORT_STATUS_RX_UP sl
      (b2n (e.rxUp sl)) (by decide)).set BN_PORT_STATUS_TX_UP sl (b2n (e.txUp sl)) (by decide)
  unfold Dev.portRefresh
  exact Keeps.ite (fun _ => Keeps.each (k.sv .portHold sl 0 (by decide)) _ _ (fun m _ c q => Linked.hlRefresh q m)) (fun _ => k)

/-- What a change of a lane's conditions brings with it stays within the link. -/
theorem Linked.laneReact (h : Linked d e) (n : Nat) : Linked d (e.laneReact n) := by
  have follow (x : Dev) (k : Linked d x) (o : Option Nat) : Linked d (match o with | some sl => x.followers sl | none => x) := by
    cases o
    · exact k
    · exact k.followers _
  have port (x : Dev) (k : Linked d x) (o : Option Nat) :
      Linked d (match o with | some sl => (x.portRefresh sl).fillRefresh sl | none => x) := by
    cases o
    · exact k
    · exact (k.portRefresh _).fillRefresh _
  exact port _ ((follow _ (h.cdrRefresh n) _).enterState n _) _

/-- What a change of a port's conditions brings with it stays within the link. -/
theorem Linked.portReact (h : Linked d e) (sl : Nat) : Linked d (e.portReact sl) :=
  Linked.fillRefresh (Linked.portRefresh (Keeps.each (h.followers sl) _ _ (fun n _ _ k => Linked.enterState k n _)) sl) sl

/-- What a change of a host lane's conditions brings with it stays within the link. -/
theorem Linked.hostReact (h : Linked d e) (m : Nat) : Linked d (e.hostReact m) := by
  unfold Dev.hostReact
  split
  · exact h.portReact _
  · exact h

end Sys2Proof.Machine
end

