-- ==== Sys2Proof/Laws/Lane.lean ====
section
/-! SUPPORT. What the operations shared by lane enable, disable and reset may change. -/

namespace Sys2Proof.Machine

variable {r x : Key → Prop} {ps : List Part} {d e : Dev}

/-- What follows in the link of lane `n` widens a frame by the link only. -/
theorem Keeps.laneReact (h : Keeps r x ps d e) (n : Nat) (hr : ∀ k, linked k → r k) (hx : ∀ k, varsIn linkVars k → x k) :
    Keeps r x ps d (e.laneReact n) := h.trans ((Linked.laneReact (Keeps.refl _ _ _ e) n).mono hr hx)

theorem Keeps.hostReact (h : Keeps r x ps d e) (m : Nat) (hr : ∀ k, linked k → r k) (hx : ∀ k, varsIn linkVars k → x k) :
    Keeps r x ps d (e.hostReact m) := h.trans ((Linked.hostReact (Keeps.refl _ _ _ e) m).mono hr hx)

theorem Keeps.portReact (h : Keeps r x ps d e) (sl : Nat) (hr : ∀ k, linked k → r k) (hx : ∀ k, varsIn linkVars k → x k) :
    Keeps r x ps d (e.portReact sl) := h.trans ((Linked.portReact (Keeps.refl _ _ _ e) sl).mono hr hx)

/-- A field outside the link reads through what follows in the link. -/
theorem get_laneReact (d : Dev) (n : Nat) (f : Fld) (m : Nat) (c : calmField f) (h : f.reg.ctorIdx * 32 + f.lo ∉ linkFields.map (fun g => g.reg.ctorIdx * 32 + g.lo)) :
    (d.laneReact n).get f m = d.get f m :=
  (Linked.laneReact (Keeps.refl _ _ _ d) n).regs f m c h

theorem v_laneReact (d : Dev) (n : Nat) (y : Var) (m : Nat) (c : calmVar y) (h : y.ctorIdx ∉ linkVars.map Var.ctorIdx) :
    (d.laneReact n).v y m = d.v y m := (Linked.laneReact (Keeps.refl _ _ _ d) n).vars y m c h

theorem get_hostReact (d : Dev) (n : Nat) (f : Fld) (m : Nat) (c : calmField f) (h : f.reg.ctorIdx * 32 + f.lo ∉ linkFields.map (fun g => g.reg.ctorIdx * 32 + g.lo)) :
    (d.hostReact n).get f m = d.get f m :=
  (Linked.hostReact (Keeps.refl _ _ _ d) n).regs f m c h

theorem v_hostReact (d : Dev) (n : Nat) (y : Var) (m : Nat) (c : calmVar y) (h : y.ctorIdx ∉ linkVars.map Var.ctorIdx) :
    (d.hostReact n).v y m = d.v y m := (Linked.hostReact (Keeps.refl _ _ _ d) n).vars y m c h

theorem get_portReact (d : Dev) (n : Nat) (f : Fld) (m : Nat) (c : calmField f) (h : f.reg.ctorIdx * 32 + f.lo ∉ linkFields.map (fun g => g.reg.ctorIdx * 32 + g.lo)) :
    (d.portReact n).get f m = d.get f m :=
  (Linked.portReact (Keeps.refl _ _ _ d) n).regs f m c h

theorem v_portReact (d : Dev) (n : Nat) (y : Var) (m : Nat) (c : calmVar y) (h : y.ctorIdx ∉ linkVars.map Var.ctorIdx) :
    (d.portReact n).v y m = d.v y m := (Linked.portReact (Keeps.refl _ _ _ d) n).vars y m c h

/-- The squelch sources of a lane stay within LL_TX_STATUS. -/
theorem Keeps.txRefresh (h : Keeps r x ps d e) (n : Nat) (hr : ∀ k, regsIn [.LL_TX_STATUS] k → r k) (hx : ∀ k, varsIn [.txExit] k → x k) :
    Keeps r x ps d (e.txRefresh n) := by
  have f (g : Fld) (m : g.reg.ctorIdx ∈ [Reg.LL_TX_STATUS].map Reg.ctorIdx) (l : g.lo < 32) : r (fkey g n) := hr _ (regsIn_fkey _ g n m l)
  have v : x (vkey .txExit n) := hx _ (varsIn_vkey _ _ n (by decide))
  unfold Dev.txRefresh
  have k1 : Keeps r x ps d (if (e.on LL_TX_CTRL_EIDLE n || !(e.on BN_LINK_CTRL_EN n) || e.flag .lcIdle 0) then
      (e.set LL_TX_STATUS_READY n 0).sv .txExit n 0 else if e.on LL_TX_STATUS_READY n then e else e.sv .txExit n 1) :=
    Keeps.ite (fun _ => (h.set _ _ _ (f _ (by decide) (by decide))).sv _ _ _ v) (fun _ => Keeps.ite (fun _ => h) (fun _ => h.sv _ _ _ v))
  exact Keeps.ite (fun _ => k1.set _ _ _ (f LL_TX_STATUS_SQ_SRC (by decide) (by decide)))
    (fun _ => (k1.set _ _ _ (f LL_TX_STATUS_SQ_SRC (by decide) (by decide))).set LL_TX_STATUS_SQ_ACTIVE n 1 (f _ (by decide) (by decide)))

/-- The registers of the Sloe receivers. -/
def sloeRxRegs : List Reg := [.SLOE_RX_STATUS, .SLOE_RX_CNT0, .SLOE_RX_CNT1, .SLOE_RX_CNT2]

theorem Keeps.slCount (h : Keeps r x ps d e) (n st : Nat) (hr : ∀ k, regsIn sloeRxRegs k → r k) : Keeps r x ps d (e.slCount n st) := by
  have f (g : Fld) (m : g.reg.ctorIdx ∈ sloeRxRegs.map Reg.ctorIdx) (l : g.lo < 32) : r (fkey g n) := hr _ (regsIn_fkey _ g n m l)
  unfold Dev.slCount
  split <;> first | exact h | exact h.count _ _ _ (f _ (by decide) (by decide))

theorem Keeps.slRxEnd (h : Keeps r x ps d e) (n st : Nat) (hr : ∀ k, regsIn sloeRxRegs k → r k) (hx : ∀ k, varsIn [.slFrozen, .slReacq] k → x k) :
    Keeps r x ps d (e.slRxEnd n st) := by
  have f (g : Fld) (m : g.reg.ctorIdx ∈ sloeRxRegs.map Reg.ctorIdx) (l : g.lo < 32) : r (fkey g n) := hr _ (regsIn_fkey _ g n m l)
  exact (((Keeps.slCount (h.set SLOE_RX_STATUS_LAST n st (f _ (by decide) (by decide))) n st hr).set SLOE_RX_STATUS_STATE n _
    (f _ (by decide) (by decide))).sv .slFrozen n 0 (hx _ (varsIn_vkey _ _ n (by decide)))).sv .slReacq n 0 (hx _ (varsIn_vkey _ _ n (by decide)))

theorem Keeps.sloeRxDrop (h : Keeps r x ps d e) (n : Nat) (hr : ∀ k, regsIn sloeRxRegs k → r k) (hx : ∀ k, varsIn [.slFrozen, .slReacq] k → x k) :
    Keeps r x ps d (e.sloeRxDrop n) := Keeps.ite (fun _ => h.slRxEnd n 11 hr hx) (fun _ => h)

theorem Keeps.trOff (h : Keeps r x ps d e) (n : Nat) (hr : ∀ k, regsIn [.SLOE_TR_STATUS] k → r k) : Keeps r x ps d (e.trOff n) :=
  h.each _ _ (fun t _ _ hc => Keeps.ite (fun _ => hc.set SLOE_TR_STATUS_TRACKING t 0 (hr _ (regsIn_fkey _ _ t (by decide) (by decide))))
    (fun _ => hc))

theorem Keeps.sloeRefresh (h : Keeps r x ps d e) (n : Nat) (hr : ∀ k, regsIn (sloeRxRegs ++ [.SLOE_TR_STATUS]) k → r k)
    (hx : ∀ k, varsIn [.slFrozen, .slReacq] k → x k) : Keeps r x ps d (e.sloeRefresh n) := by
  have f (g : Fld) (m : g.reg.ctorIdx ∈ (sloeRxRegs ++ [Reg.SLOE_TR_STATUS]).map Reg.ctorIdx) (l : g.lo < 32) : r (fkey g n) := hr _ (regsIn_fkey _ g n m l)
  have hr1 (k : Key) (m : regsIn sloeRxRegs k) : r k := hr k (by
    unfold regsIn at *; rw [List.map_append]; exact List.mem_append_left _ m)
  have hr2 (k : Key) (m : regsIn [.SLOE_TR_STATUS] k) : r k := hr k (by
    unfold regsIn at *; rw [List.map_append]; exact List.mem_append_right _ m)
  have k := (h.put SLOE_RX_STATUS_CFG_ERR n ((e.mode n).isSome && !(e.slCfgOk n)) (f _ (by decide) (by decide))).when
    (!((e.put SLOE_RX_STATUS_CFG_ERR n ((e.mode n).isSome && !(e.slCfgOk n))).slHears n)) (fun c => c.trOff n)
    (fun _ => (h.put SLOE_RX_STATUS_CFG_ERR n _ (f _ (by decide) (by decide))).trOff n hr2)
  unfold Dev.sloeRefresh
  exact Keeps.ite (fun _ => Keeps.ite (fun _ => (k.set _ _ _ (f _ (by decide) (by decide))).sv .slFrozen n 0 (hx _ (varsIn_vkey _ _ n (by decide))))
    (fun _ => k)) (fun _ => (k.sloeRxDrop n hr1 hx).set _ _ _ (f _ (by decide) (by decide)))

end Sys2Proof.Machine
end

