-- ==== Sys2Proof/Laws/Memory.lean ====
section
/-! SUPPORT. The memories' canonical form is kept by every operation on them, and a read after a write gives what was written. -/

namespace Sys2Proof.Machine

/-! ### The order of the listed bytes -/

/-- The rising order as a pairwise one. -/
theorem cellsSorted_iff (m : List Host.Cell) : cellsSorted m = true ↔ m.Pairwise (fun a b => a.1 < b.1) := by
  induction m with
  | nil => simp [cellsSorted]
  | cons c m ih =>
    cases m with
    | nil => simp [cellsSorted]
    | cons d m =>
      simp only [cellsSorted, Bool.and_eq_true, decide_eq_true_eq, ih]
      constructor
      · rintro ⟨h, hp⟩
        refine List.pairwise_cons.2 ⟨fun x hx => ?_, hp⟩
        rcases List.mem_cons.1 hx with rfl | hx
        · exact h
        · exact Nat.lt_trans h ((List.pairwise_cons.1 hp).1 x hx)
      · intro h
        have h' := List.pairwise_cons.1 h
        exact ⟨h'.1 d (by simp), h'.2⟩

/-- The members of a list after an insertion. -/
theorem mem_cellInsert {m : List Host.Cell} {a : Nat} {b : Byte} {x : Host.Cell} (h : x ∈ cellInsert m a b) : x = (a, b) ∨ x ∈ m := by
  induction m with
  | nil => simpa [cellInsert] using h
  | cons c m ih =>
    simp only [cellInsert] at h
    split at h
    · rcases List.mem_cons.1 h with h | h
      · exact .inl h
      · exact .inr (List.mem_cons_of_mem _ h)
    · split at h
      · exact List.mem_cons.1 h
      · rcases List.mem_cons.1 h with h | h
        · exact .inr (h ▸ List.mem_cons_self)
        · exact (ih h).imp id (List.mem_cons_of_mem _)

/-- An insertion keeps the rising order. -/
theorem pairwise_cellInsert {m : List Host.Cell} (a : Nat) (b : Byte) (h : m.Pairwise (fun x y => x.1 < y.1)) :
    (cellInsert m a b).Pairwise (fun x y => x.1 < y.1) := by
  induction m with
  | nil => simp [cellInsert]
  | cons c m ih =>
    have h' := List.pairwise_cons.1 h
    simp only [cellInsert]
    split
    · rename_i e
      exact List.pairwise_cons.2 ⟨fun x hx => e ▸ h'.1 x hx, h'.2⟩
    · split
      · rename_i l
        refine List.pairwise_cons.2 ⟨fun x hx => ?_, h⟩
        rcases List.mem_cons.1 hx with rfl | hx
        · exact l
        · exact Nat.lt_trans l (h'.1 x hx)
      · rename_i ne nl
        refine List.pairwise_cons.2 ⟨fun x hx => ?_, ih h'.2⟩
        rcases mem_cellInsert hx with rfl | hx
        · show c.1 < a
          omega
        · exact h'.1 x hx

/-! ### The canonical form -/

/-- The canonical form: rising addresses, and no byte listed that an unlisted address would read as. -/
theorem Memory.wf_iff (m : Memory) :
    m.wf = true ↔ m.cells.Pairwise (fun a b => a.1 < b.1) ∧ ∀ c ∈ m.cells, c.2 ≠ baseByte m.fills m.lost c.1 := by
  simp [Memory.wf, cellsSorted_iff, List.all_eq_true]

/-- Dropping listed bytes and keeping what unlisted addresses read as keeps the form. -/
theorem Memory.wf_filter (m : Memory) (p : Host.Cell → Bool) (ps ms : List Nat) (h : m.wf = true) :
    ({ m with cells := m.cells.filter p, poison := ps, marked := ms } : Memory).wf = true := by
  rw [Memory.wf_iff] at *
  exact ⟨h.1.filter p, fun c hc => h.2 c (List.mem_filter.1 hc).1⟩

/-- The memory with nothing listed is in canonical form. -/
theorem Memory.wf_empty : Memory.empty.wf = true := rfl

/-- A write of one byte keeps the form. -/
theorem Memory.wf_write (m : Memory) (a : Nat) (b : Byte) (h : m.wf = true) : (m.write a b).wf = true := by
  unfold Memory.write
  split
  · exact Memory.wf_filter m _ m.poison m.marked h
  · rename_i hb
    rw [Memory.wf_iff] at *
    refine ⟨pairwise_cellInsert a b h.1, fun c hc => ?_⟩
    rcases mem_cellInsert hc with rfl | hc
    · exact hb
    · exact h.2 c hc

/-- A write of consecutive bytes keeps the form. -/
theorem Memory.wf_writeBytes (m : Memory) (a : Nat) (l : List Byte) (h : m.wf = true) : (m.writeBytes a l).wf = true := by
  induction l generalizing m a with
  | nil => exact h
  | cons b l ih => exact ih _ _ (Memory.wf_write m a b h)

/-- Zeroing a range keeps the form. -/
theorem Memory.wf_clear (m : Memory) (lo hi : Nat) (h : m.wf = true) : (m.clear lo hi).wf = true :=
  Memory.wf_filter m _ _ m.marked h

/-- The poison, mark and unmark bookkeeping keeps the form. -/
theorem Memory.wf_setPoison (m : Memory) (u : Nat) (h : m.wf = true) : (m.setPoison u).wf = true := by
  unfold Memory.setPoison
  split <;> exact h

theorem Memory.wf_clearPoison (m : Memory) (u : Nat) (h : m.wf = true) : (m.clearPoison u).wf = true := h

theorem Memory.wf_mark (m : Memory) (g : Nat) (h : m.wf = true) : (m.mark g).wf = true := by
  unfold Memory.mark
  split <;> exact h

theorem Memory.wf_unmark (m : Memory) (g : Nat) (h : m.wf = true) : (m.unmark g).wf = true := h

/-- A byte outside the capture store and LPDDR6 that nothing lists reads zero. -/
theorem baseByte_low (fills : List GranFill) (lost a : Nat) (hc : ¬ (capBase ≤ a ∧ a < capBase + 0x300_0000)) (hl : a < lpBase ∨ spareBase ≤ a) :
    baseByte fills lost a = 0 := by
  simp [baseByte, hc, hl]

/-- What an unlisted byte outside the capture store reads as does not depend on the loss of that store. -/
theorem baseByte_lost (fills : List GranFill) (x y a : Nat) (h : a < capBase ∨ capBase + 0x300_0000 ≤ a) :
    baseByte fills x a = baseByte fills y a := by
  have : ¬ (capBase ≤ a ∧ a < capBase + 0x300_0000) := by omega
  simp [baseByte, this]

/-- The loss and the zero-fill of the capture store keep the form. -/
theorem Memory.wf_capLost (m : Memory) (k : Nat) (h : m.wf = true) :
    ({ m.clear capBase (capBase + 0x300_0000) with lost := k } : Memory).wf = true := by
  rw [Memory.wf_iff] at *
  refine ⟨h.1.filter _, fun c hc => ?_⟩
  have hc' := List.mem_filter.1 hc
  have ho : c.1 < capBase ∨ capBase + 0x300_0000 ≤ c.1 := by simpa using hc'.2
  show c.2 ≠ baseByte m.fills k c.1
  rw [baseByte_lost m.fills k m.lost c.1 ho]
  exact h.2 c hc'.1

theorem Memory.wf_loseCap (m : Memory) (k : Nat) (h : m.wf = true) : (m.loseCap k).wf = true := Memory.wf_capLost m (k + 1) h

theorem Memory.wf_zeroCap (m : Memory) (h : m.wf = true) : m.zeroCap.wf = true := Memory.wf_capLost m 0 h

/-- The life-cycle wipe of LPDDR6 keeps the form. -/
theorem Memory.wf_wipeLp (m : Memory) (h : m.wf = true) : m.wipeLp.wf = true := by
  rw [Memory.wf_iff] at *
  refine ⟨h.1.filter _, fun c hc => ?_⟩
  have hc' := List.mem_filter.1 hc
  have ho : c.1 < lpBase ∨ spareBase ≤ c.1 := by simpa using hc'.2
  have := h.2 c hc'.1
  show c.2 ≠ baseByte [] m.lost c.1
  simpa [baseByte, ho] using this

/-- Filtering a list of fills by granule does not change what is found for another granule. -/
theorem find_fill_other (fills : List GranFill) (g k : Nat) (h : k ≠ g) :
    (fills.filter (fun f => f.granule != g)).find? (fun f => f.granule == k) = fills.find? (fun f => f.granule == k) := by
  induction fills with
  | nil => rfl
  | cons f fs ih =>
    simp only [List.filter_cons]
    by_cases hf : f.granule = g
    · have : ¬ g = k := fun e => h e.symm
      simp [hf, ih, this]
    · simp only [bne_iff_ne, ne_eq, hf, not_false_eq_true, if_true, List.find?_cons, ih]

/-- A byte outside a granule reads what it read when the fills of that granule change. -/
theorem baseByte_fill (m : Memory) (g pat a : Nat) (addr : Bool) (h : a < granBase g ∨ granBase (g + 1) ≤ a) :
    baseByte (m.fillGranule g pat addr).fills m.lost a = baseByte m.fills m.lost a := by
  unfold baseByte
  split
  · rfl
  · split
    · rfl
    · rename_i hl
      have hk : granuleOf a ≠ g := by
        unfold granBase at h
        unfold granuleOf
        simp only [lpBase, spareBase] at *
        omega
      have e : (m.fillGranule g pat addr).fills.find? (fun x => x.granule == granuleOf a)
          = m.fills.find? (fun x => x.granule == granuleOf a) := by
        unfold Memory.fillGranule
        show List.find? _ (ite _ _ _) = _
        split
        · exact find_fill_other m.fills g _ hk
        · have : (g == granuleOf a) = false := beq_eq_false_iff_ne.2 (fun e => hk e.symm)
          rw [List.find?_cons]
          simp only [this]
          exact find_fill_other m.fills g _ hk
      rw [e]

/-- A FILL of a granule keeps the form. -/
theorem Memory.wf_fillGranule (m : Memory) (g pat : Nat) (addr : Bool) (h : m.wf = true) : (m.fillGranule g pat addr).wf = true := by
  rw [Memory.wf_iff] at *
  refine ⟨h.1.filter _, fun c hc => ?_⟩
  have hc' := List.mem_filter.1 hc
  have ho : c.1 < granBase g ∨ granBase (g + 1) ≤ c.1 := by simpa using hc'.2
  have e := baseByte_fill m g pat c.1 addr ho
  show c.2 ≠ baseByte (m.fillGranule g pat addr).fills m.lost c.1
  rw [e]
  exact h.2 c hc'.1

/-! ### Read after write -/

/-- The address just inserted is found. -/
theorem cellFind_insert_same (m : List Host.Cell) (a : Nat) (b : Byte) : cellFind (cellInsert m a b) a = some b := by
  induction m with
  | nil => simp [cellInsert, cellFind]
  | cons c m ih =>
    simp only [cellInsert]
    split
    · simp [cellFind]
    · rename_i h
      split
      · simp [cellFind]
      · rw [cellFind, if_neg h]
        exact ih

/-- Another address is found as before. -/
theorem cellFind_insert_other (m : List Host.Cell) (a x : Nat) (b : Byte) (h : a ≠ x) : cellFind (cellInsert m a b) x = cellFind m x := by
  induction m with
  | nil => simp [cellInsert, cellFind, h]
  | cons c m ih =>
    simp only [cellInsert]
    split
    · rename_i e
      have : ¬ c.1 = x := fun q => h (e ▸ q)
      simp [cellFind, h, this]
    · split
      · simp [cellFind, h]
      · simp only [cellFind, ih]

/-- An address taken out is not found, and the others are as before. -/
theorem cellFind_erase_same (m : List Host.Cell) (a : Nat) : cellFind (cellErase m a) a = none := by
  induction m with
  | nil => rfl
  | cons c m ih =>
    simp only [cellErase, List.filter_cons] at *
    split
    · rename_i h
      rw [cellFind, if_neg (by simpa using h)]
      exact ih
    · exact ih

theorem cellFind_erase_other (m : List Host.Cell) (a x : Nat) (h : a ≠ x) : cellFind (cellErase m a) x = cellFind m x := by
  induction m with
  | nil => rfl
  | cons c m ih =>
    simp only [cellErase, List.filter_cons] at *
    split
    · simp only [cellFind, ih]
    · rename_i e
      have e' : c.1 = a := by simpa using e
      conv => rhs; rw [cellFind, if_neg (fun q => h (e' ▸ q))]
      exact ih

/-- A read of the byte just written gives it. -/
theorem Memory.read_write_same (m : Memory) (a : Nat) (b : Byte) : (m.write a b).read a = b := by
  unfold Memory.write Memory.read
  split
  · rename_i h
    simp [cellFind_erase_same, h]
  · simp [cellFind_insert_same]

/-- A read of any other byte gives what it gave. -/
theorem Memory.read_write_other (m : Memory) (a x : Nat) (b : Byte) (h : a ≠ x) : (m.write a b).read x = m.read x := by
  unfold Memory.write Memory.read
  split
  · simp [cellFind_erase_other m.cells a x h]
  · simp [cellFind_insert_other m.cells a x b h]

/-- Bytes outside those written read as before. -/
theorem Memory.read_writeBytes_other (m : Memory) (a x : Nat) (l : List Byte) (h : x < a ∨ a + l.length ≤ x) :
    (m.writeBytes a l).read x = m.read x := by
  induction l generalizing m a with
  | nil => rfl
  | cons b l ih =>
    simp only [List.length_cons] at h
    rw [Memory.writeBytes, ih _ _ (by omega), Memory.read_write_other _ _ _ _ (by omega)]

end Sys2Proof.Machine
end

