-- ==== Sys2Proof/Laws/Parts.lean ====
section
/-! SUPPORT. A part of the state that a frame names may be replaced. -/

namespace Sys2Proof.Machine

variable {r x : Key → Prop} {ps : List Part} {d e : Dev}

theorem Keeps.fresh (h : Keeps r x ps d e) (l : Nat) (m : Part.fresh ∈ ps) : Keeps r x ps d { e with fresh := l } :=
  h.record rfl rfl (fun p n => by cases p <;> first | rfl | exact absurd m n) rfl

theorem Keeps.bunch0 (h : Keeps r x ps d e) (l : BunchDesc) (m : Part.bunch0 ∈ ps) : Keeps r x ps d { e with bunch0 := l } :=
  h.record rfl rfl (fun p n => by cases p <;> first | rfl | exact absurd m n) rfl

theorem Keeps.bunch1 (h : Keeps r x ps d e) (l : BunchDesc) (m : Part.bunch1 ∈ ps) : Keeps r x ps d { e with bunch1 := l } :=
  h.record rfl rfl (fun p n => by cases p <;> first | rfl | exact absurd m n) rfl

theorem Keeps.cws (h : Keeps r x ps d e) (l : List Codeword) (m : Part.cws ∈ ps) : Keeps r x ps d { e with cws := l } :=
  h.record rfl rfl (fun p n => by cases p <;> first | rfl | exact absurd m n) rfl

theorem Keeps.eqPips (h : Keeps r x ps d e) (l : List EqPip) (m : Part.eqPips ∈ ps) : Keeps r x ps d { e with eqPips := l } :=
  h.record rfl rfl (fun p n => by cases p <;> first | rfl | exact absurd m n) rfl

theorem Keeps.finals (h : Keeps r x ps d e) (l : List CwFinal) (m : Part.finals ∈ ps) : Keeps r x ps d { e with finals := l } :=
  h.record rfl rfl (fun p n => by cases p <;> first | rfl | exact absurd m n) rfl

theorem Keeps.sb (h : Keeps r x ps d e) (l : List SbLane) (m : Part.sb ∈ ps) : Keeps r x ps d { e with sb := l } :=
  h.record rfl rfl (fun p n => by cases p <;> first | rfl | exact absurd m n) rfl

theorem Keeps.loopBits (h : Keeps r x ps d e) (l : List LoopBits) (m : Part.loopBits ∈ ps) : Keeps r x ps d { e with loopBits := l } :=
  h.record rfl rfl (fun p n => by cases p <;> first | rfl | exact absurd m n) rfl

theorem Keeps.sloeFw (h : Keeps r x ps d e) (l : List SloePkt) (m : Part.sloeFw ∈ ps) : Keeps r x ps d { e with sloeFw := l } :=
  h.record rfl rfl (fun p n => by cases p <;> first | rfl | exact absurd m n) rfl

theorem Keeps.sloeTx (h : Keeps r x ps d e) (l : List SloeTx) (m : Part.sloeTx ∈ ps) : Keeps r x ps d { e with sloeTx := l } :=
  h.record rfl rfl (fun p n => by cases p <;> first | rfl | exact absurd m n) rfl

theorem Keeps.sq (h : Keeps r x ps d e) (l : List (List Nat)) (m : Part.sq ∈ ps) : Keeps r x ps d { e with sq := l } :=
  h.record rfl rfl (fun p n => by cases p <;> first | rfl | exact absurd m n) rfl

theorem Keeps.reloads (h : Keeps r x ps d e) (l : List TileReload) (m : Part.reloads ∈ ps) : Keeps r x ps d { e with reloads := l } :=
  h.record rfl rfl (fun p n => by cases p <;> first | rfl | exact absurd m n) rfl

theorem Keeps.events (h : Keeps r x ps d e) (l : List (Nat × Int)) (m : Part.events ∈ ps) : Keeps r x ps d { e with events := l } :=
  h.record rfl rfl (fun p n => by cases p <;> first | rfl | exact absurd m n) rfl

theorem Keeps.capQ (h : Keeps r x ps d e) (l : List CapWait) (m : Part.capQ ∈ ps) : Keeps r x ps d { e with capQ := l } :=
  h.record rfl rfl (fun p n => by cases p <;> first | rfl | exact absurd m n) rfl

theorem Keeps.capGaps (h : Keeps r x ps d e) (l : List CapGap) (m : Part.capGaps ∈ ps) : Keeps r x ps d { e with capGaps := l } :=
  h.record rfl rfl (fun p n => by cases p <;> first | rfl | exact absurd m n) rfl

theorem Keeps.capRecs (h : Keeps r x ps d e) (l : List Nat) (m : Part.capRecs ∈ ps) : Keeps r x ps d { e with capRecs := l } :=
  h.record rfl rfl (fun p n => by cases p <;> first | rfl | exact absurd m n) rfl

theorem Keeps.trigbQ (h : Keeps r x ps d e) (l : List (Nat × Nat)) (m : Part.trigbQ ∈ ps) : Keeps r x ps d { e with trigbQ := l } :=
  h.record rfl rfl (fun p n => by cases p <;> first | rfl | exact absurd m n) rfl

theorem Keeps.busEvs (h : Keeps r x ps d e) (l : List (Nat × Nat × Bool)) (m : Part.busEvs ∈ ps) : Keeps r x ps d { e with busEvs := l } :=
  h.record rfl rfl (fun p n => by cases p <;> first | rfl | exact absurd m n) rfl

theorem Keeps.merge (h : Keeps r x ps d e) (l : List MergeEnt) (m : Part.merge ∈ ps) : Keeps r x ps d { e with merge := l } :=
  h.record rfl rfl (fun p n => by cases p <;> first | rfl | exact absurd m n) rfl

theorem Keeps.ueLog (h : Keeps r x ps d e) (l : List UeEnt) (m : Part.ueLog ∈ ps) : Keeps r x ps d { e with ueLog := l } :=
  h.record rfl rfl (fun p n => by cases p <;> first | rfl | exact absurd m n) rfl

theorem Keeps.ceStreak (h : Keeps r x ps d e) (l : List (Nat × Nat)) (m : Part.ceStreak ∈ ps) : Keeps r x ps d { e with ceStreak := l } :=
  h.record rfl rfl (fun p n => by cases p <;> first | rfl | exact absurd m n) rfl

theorem Keeps.ueSeen (h : Keeps r x ps d e) (l : List Nat) (m : Part.ueSeen ∈ ps) : Keeps r x ps d { e with ueSeen := l } :=
  h.record rfl rfl (fun p n => by cases p <;> first | rfl | exact absurd m n) rfl

theorem Keeps.watch (h : Keeps r x ps d e) (l : List (Nat × Nat)) (m : Part.watch ∈ ps) : Keeps r x ps d { e with watch := l } :=
  h.record rfl rfl (fun p n => by cases p <;> first | rfl | exact absurd m n) rfl

theorem Keeps.ownReqs (h : Keeps r x ps d e) (l : List OwnReq) (m : Part.ownReqs ∈ ps) : Keeps r x ps d { e with ownReqs := l } :=
  h.record rfl rfl (fun p n => by cases p <;> first | rfl | exact absurd m n) rfl

theorem Keeps.brCur (h : Keeps r x ps d e) (l : Option BrReq) (m : Part.brCur ∈ ps) : Keeps r x ps d { e with brCur := l } :=
  h.record rfl rfl (fun p n => by cases p <;> first | rfl | exact absurd m n) rfl

theorem Keeps.brRes (h : Keeps r x ps d e) (l : Option (Nat × List Nat)) (m : Part.brRes ∈ ps) : Keeps r x ps d { e with brRes := l } :=
  h.record rfl rfl (fun p n => by cases p <;> first | rfl | exact absurd m n) rfl

theorem Keeps.brWait (h : Keeps r x ps d e) (l : List BrReq) (m : Part.brWait ∈ ps) : Keeps r x ps d { e with brWait := l } :=
  h.record rfl rfl (fun p n => by cases p <;> first | rfl | exact absurd m n) rfl

theorem Keeps.i3cRes (h : Keeps r x ps d e) (l : Option (Nat × List Nat)) (m : Part.i3cRes ∈ ps) : Keeps r x ps d { e with i3cRes := l } :=
  h.record rfl rfl (fun p n => by cases p <;> first | rfl | exact absurd m n) rfl

theorem Keeps.portWait (h : Keeps r x ps d e) (l : List WaitReq) (m : Part.portWait ∈ ps) : Keeps r x ps d { e with portWait := l } :=
  h.record rfl rfl (fun p n => by cases p <;> first | rfl | exact absurd m n) rfl

theorem Keeps.undo (h : Keeps r x ps d e) (l : List UndoDesc) (m : Part.undo ∈ ps) : Keeps r x ps d { e with undo := l } :=
  h.record rfl rfl (fun p n => by cases p <;> first | rfl | exact absurd m n) rfl

theorem Keeps.stnCur (h : Keeps r x ps d e) (l : Option StnRun) (m : Part.stnCur ∈ ps) : Keeps r x ps d { e with stnCur := l } :=
  h.record rfl rfl (fun p n => by cases p <;> first | rfl | exact absurd m n) rfl

theorem Keeps.stnQ (h : Keeps r x ps d e) (l : List StnEnt) (m : Part.stnQ ∈ ps) : Keeps r x ps d { e with stnQ := l } :=
  h.record rfl rfl (fun p n => by cases p <;> first | rfl | exact absurd m n) rfl

theorem Keeps.fuse (h : Keeps r x ps d e) (l : Fuses) (m : Part.fuse ∈ ps) : Keeps r x ps d { e with fuse := l } :=
  h.record rfl rfl (fun p n => by cases p <;> first | rfl | exact absurd m n) rfl

theorem Keeps.mrs (h : Keeps r x ps d e) (l : List (List Byte)) (m : Part.mrs ∈ ps) : Keeps r x ps d { e with mrs := l } :=
  h.record rfl rfl (fun p n => by cases p <;> first | rfl | exact absurd m n) rfl

theorem Keeps.seedBuf (h : Keeps r x ps d e) (l : List Byte) (m : Part.seedBuf ∈ ps) : Keeps r x ps d { e with seedBuf := l } :=
  h.record rfl rfl (fun p n => by cases p <;> first | rfl | exact absurd m n) rfl

theorem Keeps.seedNew (h : Keeps r x ps d e) (l : List BunchDesc) (m : Part.seedNew ∈ ps) : Keeps r x ps d { e with seedNew := l } :=
  h.record rfl rfl (fun p n => by cases p <;> first | rfl | exact absurd m n) rfl

theorem Keeps.secDig (h : Keeps r x ps d e) (l : List Byte) (m : Part.secDig ∈ ps) : Keeps r x ps d { e with secDig := l } :=
  h.record rfl rfl (fun p n => by cases p <;> first | rfl | exact absurd m n) rfl

theorem Keeps.attRep (h : Keeps r x ps d e) (l : List Byte) (m : Part.attRep ∈ ps) : Keeps r x ps d { e with attRep := l } :=
  h.record rfl rfl (fun p n => by cases p <;> first | rfl | exact absurd m n) rfl

theorem Keeps.retVars (h : Keeps r x ps d e) (l : Tab Int) (m : Part.retVars ∈ ps) : Keeps r x ps d { e with retVars := l } :=
  h.record rfl rfl (fun p n => by cases p <;> first | rfl | exact absurd m n) rfl

theorem Keeps.retRegs (h : Keeps r x ps d e) (l : Tab Nat) (m : Part.retRegs ∈ ps) : Keeps r x ps d { e with retRegs := l } :=
  h.record rfl rfl (fun p n => by cases p <;> first | rfl | exact absurd m n) rfl

theorem Keeps.trg (h : Keeps r x ps d e) (l : List TrgSet) : Keeps r x ps d { e with trg := l } :=
  h.record rfl rfl (fun p n => by cases p <;> rfl) rfl

theorem Keeps.brmFifo (h : Keeps r x ps d e) (l : List BrmBlock) : Keeps r x ps d { e with brmFifo := l } :=
  h.record rfl rfl (fun p n => by cases p <;> rfl) rfl

theorem Keeps.txWait (h : Keeps r x ps d e) (l : List TxEnt) : Keeps r x ps d { e with txWait := l } :=
  h.record rfl rfl (fun p n => by cases p <;> rfl) rfl

theorem Keeps.replay (h : Keeps r x ps d e) (l : List (Nat × Nat × Pkt)) : Keeps r x ps d { e with replay := l } :=
  h.record rfl rfl (fun p n => by cases p <;> rfl) rfl

theorem Keeps.tracked (h : Keeps r x ps d e) (l : List (Nat × Pkt)) : Keeps r x ps d { e with tracked := l } :=
  h.record rfl rfl (fun p n => by cases p <;> rfl) rfl

end Sys2Proof.Machine
end

