-- ==== Sys2Proof/Laws/Reset.lean ====
section
/-! SUPPORT. Which fields and variables a reset covers, said of a field or variable and its instance. -/

namespace Sys2Proof.Machine

set_option maxRecDepth 20000 in
theorem regAt_all : (List.range 341).all (fun i => (regAt i).ctorIdx == i) = true := by decide +kernel

set_option maxRecDepth 20000 in
theorem varAt_all : (List.range 362).all (fun i => (varAt i).ctorIdx == i) = true := by decide +kernel

theorem Reg.ctorIdx_lt (r : Reg) : r.ctorIdx < 341 := by cases r <;> decide

theorem Var.ctorIdx_lt (x : Var) : x.ctorIdx < 362 := by cases x <;> decide

/-- The register of a register's number. -/
theorem regAt_ctorIdx (r : Reg) : regAt r.ctorIdx = r := by
  have h := List.all_eq_true.mp regAt_all r.ctorIdx (List.mem_range.mpr r.ctorIdx_lt)
  rw [← Reg.ofNat_ctorIdx (regAt r.ctorIdx), beq_iff_eq.mp h, Reg.ofNat_ctorIdx]

/-- The variable of a variable's number. -/
theorem varAt_ctorIdx (x : Var) : varAt x.ctorIdx = x := by
  have h := List.all_eq_true.mp varAt_all x.ctorIdx (List.mem_range.mpr x.ctorIdx_lt)
  rw [← Var.ofNat_ctorIdx (varAt x.ctorIdx), beq_iff_eq.mp h, Var.ofNat_ctorIdx]

/-- The reset domain of a field is its register's. -/
theorem keyPlace_fkey (f : Fld) (n : Nat) (h : f.lo < 32) : keyPlace (fkey f n) = placeOf f.reg := by
  unfold keyPlace fkey
  rw [show (f.reg.ctorIdx * 32 + f.lo) / 32 = f.reg.ctorIdx by omega, regAt_ctorIdx]

/-- The reset domain of a variable. -/
theorem varPlace_vkey (x : Var) (n : Nat) : varPlace (varAt (vkey x n).1) = varPlace x := by rw [show (vkey x n).1 = x.ctorIdx from rfl, varAt_ctorIdx]

/-- A field of a register with `per` instances in each line lane lies in lane `n` when its instance does. -/
theorem regOfLine_fkey (f : Fld) (i n per : Nat) (h : f.lo < 32) (p : placeOf f.reg = .line per) : regOfLine n (fkey f i) = (i / per == n) := by
  unfold regOfLine
  rw [keyPlace_fkey f i h, p]
  rfl

theorem regOfHost_fkey (f : Fld) (i m per : Nat) (h : f.lo < 32) (p : placeOf f.reg = .host per) : regOfHost m (fkey f i) = (i / per == m) := by
  unfold regOfHost
  rw [keyPlace_fkey f i h, p]
  rfl

theorem varOfLine_vkey (x : Var) (i n per : Nat) (p : varPlace x = .line per) : varOfLine n (vkey x i) = (i / per == n) := by
  unfold varOfLine
  rw [varPlace_vkey, p]
  rfl

theorem varOfHost_vkey (x : Var) (i m per : Nat) (p : varPlace x = .host per) : varOfHost m (vkey x i) = (i / per == m) := by
  unfold varOfHost
  rw [varPlace_vkey, p]
  rfl

end Sys2Proof.Machine
end

