-- ==== Sys2Proof/Laws/Settle.lean ====
section
/-! SUPPORT. What the end of a command may change: the counters of the monitors, the messages an interrupt sends, and nothing
else. -/

namespace Sys2Proof.Machine

/-- `e` differs from `d` only where the end of a command may change it. -/
abbrev Calm (d e : Dev) : Prop := Keeps noKey noKey [] d e

theorem Calm.refl (d : Dev) : Calm d d := Keeps.refl ..

theorem Calm.trans {a b c : Dev} (h : Calm a b) (k : Calm b c) : Calm a c := Keeps.trans h k

/-- Changes of the message queues, the output and the comparator sets are calm. -/
theorem Calm.queues (d : Dev) (o : List Out) (t : List TrgSet) (b : List BrmBlock) (w : List TxEnt) (r : List (Nat × Nat × Pkt)) (k : List (Nat × Pkt)) :
    Calm d { d with out := d.out ++ o, trg := t, brmFifo := b, txWait := w, replay := r, tracked := k } :=
  ⟨fun _ _ _ _ => rfl, fun _ _ _ _ => rfl, fun p _ => (by cases p <;> rfl), List.prefix_append ..⟩

theorem Calm.waiting (d : Dev) (t : List TrgSet) (b : List BrmBlock) (w : List TxEnt) (r : List (Nat × Nat × Pkt)) (k : List (Nat × Pkt)) :
    Calm d { d with trg := t, brmFifo := b, txWait := w, replay := r, tracked := k } :=
  ⟨fun _ _ _ _ => rfl, fun _ _ _ _ => rfl, fun p _ => (by cases p <;> rfl), List.prefix_refl _⟩

theorem Calm.emit (d : Dev) (x : Out) : Calm d (d.emit x) := Calm.queues d _ d.trg d.brmFifo d.txWait d.replay d.tracked

theorem Calm.set (d : Dev) (f : Fld) (n v : Nat) (hl : f.lo < 32)
    (h : f.reg.ctorIdx = Reg.PRF_CNT.ctorIdx ∨ f.reg.ctorIdx = Reg.PRF_OVF.ctorIdx ∨ f.reg.ctorIdx = Reg.BRM_FIRQ_LO.ctorIdx
      ∨ f.reg.ctorIdx = Reg.BRM_FIRQ_HI.ctorIdx) : Calm d (d.set f n v) :=
  ⟨fun g m q _ => Dev.get_set_field d f g n m v (by
      obtain ⟨q1, q2, q3, q4, q5⟩ := q
      omega),
    fun _ _ _ _ => rfl, fun p _ => (by cases p <;> rfl), List.prefix_refl _⟩

theorem Calm.sv (d : Dev) (x : Var) (n : Nat) (i : Int)
    (h : x.ctorIdx = Var.msixPba.ctorIdx ∨ x.ctorIdx = Var.llTxSeq.ctorIdx ∨ x.ctorIdx = Var.crUseH.ctorIdx ∨ x.ctorIdx = Var.crUseD.ctorIdx
      ∨ x.ctorIdx = Var.crGivH.ctorIdx ∨ x.ctorIdx = Var.crGivD.ctorIdx) : Calm d (d.sv x n i) :=
  ⟨fun _ _ _ _ => rfl, fun y m q _ => Dev.v_sv_var d x y n m i (by
      obtain ⟨q1, q2, q3, q4, q5, q6⟩ := q
      omega),
    fun p _ => (by cases p <;> rfl), List.prefix_refl _⟩

theorem Calm.foldl {α : Type} (l : List α) (g : Dev → α → Dev) (h : ∀ x a, Calm x (g x a)) (d : Dev) : Calm d (l.foldl g d) := by
  induction l generalizing d with
  | nil => exact Calm.refl d
  | cons a l ih => exact (h d a).trans (ih _)

/-! ### Messages -/

theorem Calm.linkOut (d : Dev) (p : Nat) (k : Bool) (b : List Byte) : Calm d (d.linkOut p k b) :=
  (Calm.waiting d d.trg _ d.txWait d.replay d.tracked).trans (Calm.emit _ _)

theorem Calm.grant (d : Dev) (p c h u : Nat) : Calm d (d.grant p c h u) :=
  ((Calm.sv d _ _ _ (by simp)).trans (Calm.sv _ _ _ _ (by simp))).trans (Calm.linkOut _ _ _ _)

theorem Calm.giveBack (d : Dev) (p : Nat) (k : Pkt) : Calm d (d.giveBack p k) := by
  unfold Dev.giveBack
  split
  · exact Calm.grant ..
  · exact Calm.refl d

theorem Calm.sendNow (d : Dev) (p : Nat) (k : Pkt) : Calm d (d.sendNow p k) := by
  have h (a b c : Int) (m : Nat) : Calm d (((d.sv .llTxSeq p a).sv .crUseH m b).sv .crUseD m c) :=
    ((Calm.sv d .llTxSeq _ _ (by simp)).trans (Calm.sv _ .crUseH _ _ (by simp))).trans (Calm.sv _ .crUseD _ _ (by simp))
  exact (h _ _ _ _).trans ((Calm.waiting _ _ _ _ _ _).trans (Calm.linkOut _ _ _ _))

theorem Calm.pumpOne (p : Nat) (acc : Dev × List TxEnt × List Nat) (e : TxEnt) : Calm acc.1 (Dev.pumpOne p acc e).1 := by
  unfold Dev.pumpOne
  simp only
  split
  · split
    · exact (Calm.sendNow _ _ _).trans (Calm.giveBack _ _ _)
    · exact Calm.sendNow _ _ _
  · exact Calm.refl _

theorem Calm.pumpFold (p : Nat) (l : List TxEnt) (acc : Dev × List TxEnt × List Nat) : Calm acc.1 (l.foldl (Dev.pumpOne p) acc).1 := by
  induction l generalizing acc with
  | nil => exact Calm.refl _
  | cons e l ih => exact (Calm.pumpOne p acc e).trans (ih _)

theorem Calm.pump (d : Dev) (p : Nat) : Calm d (d.pump p) := by
  unfold Dev.pump
  split
  · exact (Calm.pumpFold p d.txWait (d, [], [])).trans (Calm.waiting _ _ _ _ _ _)
  · exact Calm.refl d

theorem Calm.sendPort (d : Dev) (p : Nat) (i : Option Nat) (k : Pkt) : Calm d (d.sendPort p i k) :=
  (Calm.waiting d d.trg d.brmFifo _ d.replay d.tracked).trans (Calm.pump _ _)

theorem Calm.sendTo (d : Dev) (v : Nat) (k : Pkt) : Calm d (d.sendTo v k) := by
  unfold Dev.sendTo
  split
  · exact Calm.sendPort ..
  · exact Calm.refl d

theorem Calm.msixSend (d : Dev) (v : Nat) : Calm d (d.msixSend v) := by
  unfold Dev.msixSend
  split
  · exact Calm.sv d _ _ _ (by simp)
  · exact Calm.emit d _

theorem Calm.rootIrq (d : Dev) (a b : Nat) : Calm d (d.rootIrq a b) := by
  unfold Dev.rootIrq
  split
  · exact (Calm.set d BRM_FIRQ_LO_DEV _ _ (by decide) (by simp [BRM_FIRQ_LO_DEV])).trans (Calm.msixSend _ _)
  · exact (Calm.set d BRM_FIRQ_HI_DEV _ _ (by decide) (by simp [BRM_FIRQ_HI_DEV])).trans (Calm.msixSend _ _)

theorem Calm.fleetIrq (d : Dev) (n vec : Nat) : Calm d (d.fleetIrq n vec) := by
  unfold Dev.fleetIrq
  split
  · exact Calm.rootIrq ..
  · exact Calm.sendTo ..

theorem Calm.deliver (d : Dev) (n : Nat) (e : Dev) : Calm e (d.deliver n e) := by
  have h : ∀ c : Bool, Calm e (if c then e.msixSend (e.get IRQ_SRC_CFG_VEC n) else e) := fun c => by
    cases c
    · exact Calm.refl e
    · exact Calm.msixSend ..
  unfold Dev.deliver
  simp only
  split
  · exact (h _).trans (Calm.fleetIrq _ _ _)
  · exact h _

/-! ### Monitors -/

theorem Calm.prfSet (d : Dev) (u k v : Nat) : Calm d (d.prfSet u k v) :=
  (Calm.set d PRF_CNT_COUNT _ _ (by decide) (by simp [PRF_CNT_COUNT])).trans (Calm.set _ PRF_CNT_COUNT _ _ (by decide) (by simp [PRF_CNT_COUNT]))

theorem Calm.prfAdd (d : Dev) (u k n : Nat) : Calm d (d.prfAdd u k n) := by
  unfold Dev.prfAdd
  simp only
  split
  · exact (Calm.prfSet d _ _ _).trans (Calm.set _ PRF_OVF_OVF _ _ (by decide) (by simp [PRF_OVF_OVF]))
  · exact Calm.prfSet ..

theorem Calm.prfSettle (d e : Dev) : Calm e (prfSettle d e) := by
  unfold Sys2Proof.Machine.prfSettle
  split
  · exact Calm.refl e
  · refine Calm.foldl _ _ (fun x a => ?_) e
    simp only
    split
    · exact Calm.refl x
    · split
      · exact Calm.refl x
      · exact Calm.prfAdd ..

/-- The end of a command changes only what it may: the counts, the messages, and a comparator set whose source is gone. -/
theorem Calm.settle (d e : Dev) : Calm e (settle d e) := by
  have first (f : Dev) (h : Calm e f) (l : List Nat) : Calm e (l.foldl (fun x n => d.deliver n x) f) :=
    h.trans (Calm.foldl l _ (fun x n => Calm.deliver d n x) f)
  have last (f : Dev) (h : Calm e f) (c : Bool) : Calm e (if c then d.deliver 31 f else f) := by
    cases c
    · exact h
    · exact h.trans (Calm.deliver ..)
  have pin (f : Dev) (h : Calm e f) (c : Bool) : Calm e (if c then f.emit .ibi else f) := by
    cases c
    · exact h
    · exact h.trans (Calm.emit ..)
  unfold Sys2Proof.Machine.settle
  refine pin _ (last _ (first _ ?_ _) _) _
  exact (Calm.waiting e _ e.brmFifo e.txWait e.replay e.tracked).trans (Calm.prfSettle _ _)

/-! ### What statements cite -/

/-- A field that no monitor and no interrupt message owns reads after the end of a command as before it. -/
theorem settle_get (d e : Dev) (f : Fld) (n : Nat) (h : calmField f) : (settle d e).get f n = e.get f n := (Calm.settle d e).regs f n h id

/-- A hidden variable that no message owns reads after the end of a command as before it. -/
theorem settle_v (d e : Dev) (x : Var) (n : Nat) (h : calmVar x) : (settle d e).v x n = e.v x n := (Calm.settle d e).vars x n h id

@[simp] theorem settle_fresh (d e : Dev) : (settle d e).fresh = e.fresh :=
  (Calm.settle d e).rest .fresh (by simp)
@[simp] theorem settle_bunch0 (d e : Dev) : (settle d e).bunch0 = e.bunch0 :=
  (Calm.settle d e).rest .bunch0 (by simp)
@[simp] theorem settle_bunch1 (d e : Dev) : (settle d e).bunch1 = e.bunch1 :=
  (Calm.settle d e).rest .bunch1 (by simp)
@[simp] theorem settle_cws (d e : Dev) : (settle d e).cws = e.cws :=
  (Calm.settle d e).rest .cws (by simp)
@[simp] theorem settle_eqPips (d e : Dev) : (settle d e).eqPips = e.eqPips :=
  (Calm.settle d e).rest .eqPips (by simp)
@[simp] theorem settle_finals (d e : Dev) : (settle d e).finals = e.finals :=
  (Calm.settle d e).rest .finals (by simp)
@[simp] theorem settle_sb (d e : Dev) : (settle d e).sb = e.sb :=
  (Calm.settle d e).rest .sb (by simp)
@[simp] theorem settle_loopBits (d e : Dev) : (settle d e).loopBits = e.loopBits :=
  (Calm.settle d e).rest .loopBits (by simp)
@[simp] theorem settle_sloeFw (d e : Dev) : (settle d e).sloeFw = e.sloeFw :=
  (Calm.settle d e).rest .sloeFw (by simp)
@[simp] theorem settle_sloeTx (d e : Dev) : (settle d e).sloeTx = e.sloeTx :=
  (Calm.settle d e).rest .sloeTx (by simp)
@[simp] theorem settle_sq (d e : Dev) : (settle d e).sq = e.sq :=
  (Calm.settle d e).rest .sq (by simp)
@[simp] theorem settle_reloads (d e : Dev) : (settle d e).reloads = e.reloads :=
  (Calm.settle d e).rest .reloads (by simp)
@[simp] theorem settle_events (d e : Dev) : (settle d e).events = e.events :=
  (Calm.settle d e).rest .events (by simp)
@[simp] theorem settle_capQ (d e : Dev) : (settle d e).capQ = e.capQ :=
  (Calm.settle d e).rest .capQ (by simp)
@[simp] theorem settle_capGaps (d e : Dev) : (settle d e).capGaps = e.capGaps :=
  (Calm.settle d e).rest .capGaps (by simp)
@[simp] theorem settle_capRecs (d e : Dev) : (settle d e).capRecs = e.capRecs :=
  (Calm.settle d e).rest .capRecs (by simp)
@[simp] theorem settle_trigbQ (d e : Dev) : (settle d e).trigbQ = e.trigbQ :=
  (Calm.settle d e).rest .trigbQ (by simp)
@[simp] theorem settle_busEvs (d e : Dev) : (settle d e).busEvs = e.busEvs :=
  (Calm.settle d e).rest .busEvs (by simp)
@[simp] theorem settle_merge (d e : Dev) : (settle d e).merge = e.merge :=
  (Calm.settle d e).rest .merge (by simp)
@[simp] theorem settle_ueLog (d e : Dev) : (settle d e).ueLog = e.ueLog :=
  (Calm.settle d e).rest .ueLog (by simp)
@[simp] theorem settle_ceStreak (d e : Dev) : (settle d e).ceStreak = e.ceStreak :=
  (Calm.settle d e).rest .ceStreak (by simp)
@[simp] theorem settle_ueSeen (d e : Dev) : (settle d e).ueSeen = e.ueSeen :=
  (Calm.settle d e).rest .ueSeen (by simp)
@[simp] theorem settle_watch (d e : Dev) : (settle d e).watch = e.watch :=
  (Calm.settle d e).rest .watch (by simp)
@[simp] theorem settle_ownReqs (d e : Dev) : (settle d e).ownReqs = e.ownReqs :=
  (Calm.settle d e).rest .ownReqs (by simp)
@[simp] theorem settle_brCur (d e : Dev) : (settle d e).brCur = e.brCur :=
  (Calm.settle d e).rest .brCur (by simp)
@[simp] theorem settle_brRes (d e : Dev) : (settle d e).brRes = e.brRes :=
  (Calm.settle d e).rest .brRes (by simp)
@[simp] theorem settle_brWait (d e : Dev) : (settle d e).brWait = e.brWait :=
  (Calm.settle d e).rest .brWait (by simp)
@[simp] theorem settle_i3cRes (d e : Dev) : (settle d e).i3cRes = e.i3cRes :=
  (Calm.settle d e).rest .i3cRes (by simp)
@[simp] theorem settle_portWait (d e : Dev) : (settle d e).portWait = e.portWait :=
  (Calm.settle d e).rest .portWait (by simp)
@[simp] theorem settle_undo (d e : Dev) : (settle d e).undo = e.undo :=
  (Calm.settle d e).rest .undo (by simp)
@[simp] theorem settle_stnCur (d e : Dev) : (settle d e).stnCur = e.stnCur :=
  (Calm.settle d e).rest .stnCur (by simp)
@[simp] theorem settle_stnQ (d e : Dev) : (settle d e).stnQ = e.stnQ :=
  (Calm.settle d e).rest .stnQ (by simp)
@[simp] theorem settle_fuse (d e : Dev) : (settle d e).fuse = e.fuse :=
  (Calm.settle d e).rest .fuse (by simp)
@[simp] theorem settle_mrs (d e : Dev) : (settle d e).mrs = e.mrs :=
  (Calm.settle d e).rest .mrs (by simp)
@[simp] theorem settle_seedBuf (d e : Dev) : (settle d e).seedBuf = e.seedBuf :=
  (Calm.settle d e).rest .seedBuf (by simp)
@[simp] theorem settle_seedNew (d e : Dev) : (settle d e).seedNew = e.seedNew :=
  (Calm.settle d e).rest .seedNew (by simp)
@[simp] theorem settle_secDig (d e : Dev) : (settle d e).secDig = e.secDig :=
  (Calm.settle d e).rest .secDig (by simp)
@[simp] theorem settle_attRep (d e : Dev) : (settle d e).attRep = e.attRep :=
  (Calm.settle d e).rest .attRep (by simp)
@[simp] theorem settle_retVars (d e : Dev) : (settle d e).retVars = e.retVars :=
  (Calm.settle d e).rest .retVars (by simp)
@[simp] theorem settle_retRegs (d e : Dev) : (settle d e).retRegs = e.retRegs :=
  (Calm.settle d e).rest .retRegs (by simp)

/-- What was sent before the end of a command stays sent. -/
theorem settle_sent (d e : Dev) (x : Out) (h : x ∈ e.out) : x ∈ (settle d e).out := (Calm.settle d e).sent.subset h

/-- A command that touches no addressed memory has the frame of what it does before its end. -/
theorem frame_settle {r x : Key → Prop} {ps : List Part} {s : State} {e : Dev} (h : Keeps r x ps s.dev e) :
    Frame r x ps s { s with dev := settle s.dev e } :=
  ⟨rfl, rfl, h.trans ((Calm.settle s.dev e).mono (fun _ => False.elim) (fun _ => False.elim))⟩

end Sys2Proof.Machine
end

