-- ==== Sys2Proof/Machine/Balls.lean ====
section
/-! DEFINITION. The levels of the device's single-ended outputs, and which of them float while their domain is off (R72, R74, R240,
R300, R382, R389, R400). A released open-drain ball and a ball at high impedance are both none: the board holds their level. -/

namespace Sys2Proof.Machine

/-- The single-ended outputs whose level the state gives at every moment. -/
inductive Ball where
  | faultN
  | irqN
  | thermN
  | tpo (k : Nat)
  | oeRstN
  | oeGpio (k : Nat)
deriving DecidableEq, Repr

/-- An open-drain output: low, or released. -/
def openDrain (low : Bool) : Option Bool := if low then some false else none

/-- The level the device drives onto a ball, none where it drives none (R382). FAULT_N is the Rind's and works in every state; the
others float while management is off; a pulse output shows its inactive level while no pulse runs. -/
def Dev.ballOut (d : Dev) (b : Ball) : Option Bool :=
  match b with
  | .faultN => openDrain (d.flag .faultN 0)
  | .irqN => if d.flag .offMgmt 0 then none else openDrain d.irqPin
  | .thermN => if d.flag .offMgmt 0 then none else openDrain d.thermN
  | .tpo k => if d.flag .offMgmt 0 then none else some (d.flag .tpoOn k == d.on TIME_TPO_CTRL_POL k)
  | .oeRstN => d.oeRstN
  | .oeGpio k => d.oeDrive k

end Sys2Proof.Machine
end

