-- ==== Sys2Proof/Tests/Slice0.lean ====
section
/-! SUPPORT. Tests: ill-formed commands that the check refuses, worked examples of the spec, and for every statement with hypotheses a
state and operands that meet all of each clause's hypotheses together. -/

set_option maxRecDepth 100000
set_option Elab.async false

namespace Sys2Proof.Machine

/-- A state with its device changed. -/
def State.withDev (s : State) (f : Dev → Dev) : State := { s with dev := f s.dev }

/-- A state with these codewords in the reorder stages. -/
def State.withCws (s : State) (l : List Codeword) : State := { s with dev := { s.dev with cws := l } }

/-- A state with its memory changed. -/
def State.withMem (s : State) (f : Memory → Memory) : State := { s with mem := f s.mem }

end Sys2Proof.Machine

namespace Sys2Proof.Tests

open Sys2Proof.Machine

/-! ### Small states -/

/-- A lane description. -/
def laneD (hs : List Nat) (ll : Bool) : LaneDesc :=
  { hosts := hs, taps := 8, quads := 2, mlse := false, slots := 4, maxp := 5, p2 := 1, p3 := 2, p4 := 3, dl := 6, depth := 8, lowLat := ll, rank := 5,
    hb := 1, firEn := false, dcEn := false, shifts := [8, 8, 8, 8, 8, 8, 8], firSet := [] }

/-- Bunch 0 with two ports. -/
def richB0 : BunchDesc :=
  { ports := [⟨0, .g800, .l400s, 0, 4, 0, 2, true, false⟩, ⟨1, .g400, .l400e, 4, 2, 2, 1, false, true⟩],
    lanes := [laneD [0, 1] false, laneD [2, 3] false, laneD [4, 5] true, .unused], profiles := [] }

/-- Bunch 1 with one port. -/
def richB1 : BunchDesc :=
  { ports := [⟨0, .g400, .l400e, 0, 4, 0, 1, false, false⟩], lanes := [laneD [0, 1, 2, 3] false, .unused, .unused, .unused], profiles := [] }

/-- The device after reset with ports described. -/
def rich : Dev := { Dev.reset with bunch0 := richB0, bunch1 := richB1 }

/-- A device with fields and hidden variables set, memory and queue empty. -/
def stOf (d : Dev) (fs : List (Fld × Nat × Nat)) (xs : List (Var × Nat × Int)) : State :=
  { State.reset with dev := xs.foldl (fun d x => d.sv x.1 x.2.1 x.2.2) (fs.foldl (fun d f => d.set f.1 f.2.1 f.2.2) d) }

/-- A codeword of lane `n`. -/
def cw0 (n : Nat) : Codeword :=
  { lane := n, id := 1, arrive := 1, bch := false, lsb := false, partner := none, soft := [], work := [], best := none, passes := 0, run := none,
    place := [], maxp := 3, verify := false, fin := false, failed := false, rel := none, spec := false, word := [], played := false }

/-- A description of a bunch without ports. -/
def tinyDesc : BunchDesc :=
  { ports := [], lanes := [.unused, .unused, .unused, .unused], profiles := [[⟨0, false, 0⟩, ⟨0, false, 0⟩, ⟨0, false, 0⟩, ⟨0, false, 0⟩]] }

/-- The start of a seed image for bunch 0 with that description, up to its key. -/
def tinyImage : List Byte :=
  let rows := allRows [(0, tinyDesc)]
  let bud := leBytes 4 rows.length ++ rows.flatMap (fun r => leBytes 1 r.bunch ++ leBytes 1 r.profile ++ leBytes 1 r.resource ++ leBytes 1 r.lane
    ++ leBytes 4 r.demand ++ leBytes 4 r.capacity ++ leBytes 4 0)
  let bo := 0x40 + 16 * 7
  let sig := (bo + bud.length + 15) / 16 * 16
  let hdr := leBytes 4 0x44454553 ++ leBytes 2 1 ++ leBytes 1 1 ++ leBytes 1 0 ++ leBytes 4 (sig + sigLen) ++ leBytes 4 5 ++ leBytes 4 bo
    ++ leBytes 4 bud.length ++ leBytes 2 7 ++ leBytes 2 0 ++ leBytes 4 sig ++ leBytes 4 0x103208 ++ leBytes 28 0
  let dir := (List.range 7).flatMap (fun i => leBytes 1 (0x10 + i) ++ leBytes 1 0 ++ leBytes 14 0)
  exactly sig (hdr ++ dir ++ bud) ++ leBytes 4 0x47534E4C ++ leBytes 1 1 ++ leBytes 1 1 ++ leBytes 10 0 ++ List.replicate 64 9

/-- A pip kept with `k` soft values. -/
def pip0 (n k : Nat) : EqPip := { lane := n, pip := 0, start := 0, raw := [], pre := 0, dec := 0, xs := [], ys := [], syms := [], soft := List.replicate k 0 }

/-- A lane description with D = 1 and a pip to take codewords from. -/
def deep1 (d : Dev) : Dev := { d with bunch0 := { richB0 with lanes := [{ laneD [0,1] false with depth := 1 }, laneD [2,3] false, laneD [4,5] true, .unused] }, eqPips := [pip0 0 288] }

/-- Bunch 0 with one L200 port. -/
def allL200 (d : Dev) : Dev := { d with bunch0 := { richB0 with ports := [⟨0, .g800, .l200, 0, 4, 0, 4, true, false⟩] } }

/-- The start of a firmware or application image, up to its key. -/
def fwImage (app : Bool) : List Byte :=
  let sig := 0x80
  leBytes 4 (if app then 0x50414E4C else 0x57464E4C) ++ leBytes 2 1 ++ leBytes 1 0 ++ leBytes 1 0 ++ leBytes 4 (sig + sigLen) ++ leBytes 4 5 ++ leBytes 4 0x40 ++ leBytes 4 sig ++ leBytes 4 0x103208 ++ leBytes 36 0
    ++ (List.range 64).map (fun i => BitVec.ofNat 8 (i + 1)) ++ leBytes 4 0x47534E4C ++ leBytes 1 1 ++ leBytes 1 (if app then 1 else 0) ++ leBytes 10 0 ++ List.replicate 64 9

/-- A token of that command. -/
def tokImage (cmd : Nat) : List Byte :=
  exactly 30000 (leBytes 4 0x434C4E4C ++ leBytes 2 1 ++ leBytes 1 cmd ++ leBytes 1 0 ++ leBytes 8 0 ++ (List.range 8).flatMap (fun _ => leBytes 4 9) ++ leBytes 64 0 ++ leBytes 16 0
    ++ leBytes 4 0x47534E4C ++ leBytes 1 1 ++ leBytes 1 0 ++ leBytes 10 0 ++ List.replicate 64 9)

/-- The signer of the image is the vendor and the first owner. -/
def vend (m : List Byte) (d : Dev) : Dev := { d with fuse := { d.fuse with vendor := sigKeyHash m (field m 0x14 4), owner0 := some (sigKeyHash m (field m 0x14 4)) } }

/-- The signer of the image owns the device. -/
def owned (m : List Byte) (d : Dev) : Dev := { d with fuse := { d.fuse with lc := 2, wiped := 2, owner0 := some (sigKeyHash m (field m 0x1C 4)) } }

/-- A load in VERIFY of that image, on a device that its signer owns. -/
def seeded (cmd : Int) : State :=
  stOf { Dev.reset with fuse := { fusesBlank with lc := 2, owner0 := some (sigKeyHash tinyImage (field tinyImage 0x1C 4)) }, seedBuf := tinyImage, bunch1 := richB1 }
    [(SEED_STATUS_BUSY, 0, 1), (SEED_STATUS_PHASE, 0, 2)] [(.seedCmd, 0, cmd), (.seedBad, 0, 0)]

/-- The state accepts its signer. -/
theorem seeded_owner (cmd : Int) : (seeded cmd).dev.ownerOk (field tinyImage 7 1) tinyImage (field tinyImage 0x1C 4) = true := by
  have h : field tinyImage 7 1 = 0 := by decide +kernel
  have h1 : sigClass tinyImage (field tinyImage 0x1C 4) = 1 := by decide +kernel
  have h2 : sigIndex tinyImage (field tinyImage 0x1C 4) = 0 := by decide +kernel
  have hl : (seeded cmd).dev.lc = 2 := rfl
  have ho : (seeded cmd).dev.ownerHash 0 = some (sigKeyHash tinyImage (field tinyImage 0x1C 4)) := rfl
  have hu : (seeded cmd).dev.ownerUsable 0 = true := rfl
  simp [Dev.ownerOk, h, h1, h2, hl, ho, hu]

/-- A token's source with its COMMAND byte SCRAP and all else zero. -/
def tokByte : State :=
  (stOf { Dev.reset with fuse := { fusesBlank with lc := 1 } } [(MEM_STATUS_ZFILL, 0, 0), (SEC_SRC_LO_ADDR, 0, 0x1000_1000), (SEC_SRC_HI_ADDR, 0, 0)] []).withMem
    (fun m => m.writeBytes 0x1000_1006 [6])

/-- A packet of one dword. -/
def onePkt : Pkt :=
  { typ := 2, be := 15, len := 1, req := 0, unit := 1, tag := 3, gen := 0, code := 0, addr := 64, status := 0, data := [7] }

/-- What a command leaves, or the state it began from. -/
def after (c : Instr) (s : State) : State := match exec c s with | .next t => t | _ => s

/-- What a write takes with it when nothing else goes on. -/
def anyEnv : WrEnv := { ab := [], k := 0, quiet := true, wake := 0, user := false, lines := 0, find := .clean }

/-! ### Ill-formed commands -/

theorem test_wf_access_size : (Instr.registerWrite 0 3 0 0 anyEnv).wf = false := by decide
theorem test_wf_access_value : (Instr.registerWrite 0 1 256 0 anyEnv).wf = false := by decide
theorem test_wf_access_addr : (Instr.readClear (2 ^ 40) 4 0 anyEnv).wf = false := by decide
theorem test_wf_read_initiator : (Instr.fabricRead 12 0 4 .clean anyEnv).wf = false := by decide
theorem test_wf_trim_range : (Instr.sliceTrimWrite 0 128 0 0).wf = false := by decide
theorem test_wf_fg_trims : (Instr.adcFgDone 0 []).wf = false := by decide
theorem test_wf_gain_percent : (Instr.afeGainUpdate 0 129).wf = false := by decide
theorem test_wf_spi_bytes : (Instr.spiOeTransactionEnd (List.replicate 65 0)).wf = false := by decide
theorem test_wf_host_value : (Instr.hlRxControlWrite 0 true (2 ^ 32)).wf = false := by decide
theorem test_wf_check_window : (Instr.hlPatCheckWindow 0 (List.replicate 1025 0)).wf = false := by decide
theorem test_wf_los_mean : (Instr.losWindowEnd 0 32769).wf = false := by decide
theorem test_wf_sideband_count : (Instr.sbFirstStageOutput 0 0 [128]).wf = false := by decide
theorem test_wf_sloe_shift : (Instr.sloeReceptionEnd 0 [(true, 4096)] 0 0).wf = false := by decide
theorem test_wf_answer_time : (Instr.calAnswerReceived 65536).wf = false := by decide
theorem test_wf_write_empty : (Instr.memoryWrite 0 0 [] .clean).wf = false := by decide
theorem test_wf_flush_addr : (Instr.mergeFlush (2 ^ 40) .clean).wf = false := by decide
theorem test_wf_cap_block : (Instr.brmCapReceived 0 []).wf = false := by decide
theorem test_wf_pkt_length : Pkt.wf { onePkt with data := [7, 8] } = false := by decide
theorem test_wf_pkt_address : Pkt.wf { onePkt with addr := 65 } = false := by decide
theorem test_wf_pkt_good : Pkt.wf onePkt = true := by decide
theorem test_wf_pcie_data : (Instr.pcieWrite false 0 255 [] false anyEnv).wf = false := by decide
theorem test_wf_i3c_data : (Instr.i3cPrivateWrite 0 [] .clean anyEnv).wf = false := by decide
theorem test_wf_sensors : (Instr.thmSample [] 0).wf = false := by decide

/-! ### Worked examples of the spec -/

/-- R202: the check values over "123456789". -/
theorem test_crc8_check : crc8 [0x31, 0x32, 0x33, 0x34, 0x35, 0x36, 0x37, 0x38, 0x39] = 0xF4 := by decide +kernel
theorem test_crc16_check : crc16 [0x31, 0x32, 0x33, 0x34, 0x35, 0x36, 0x37, 0x38, 0x39] = 0x29B1 := by decide +kernel

/-- R109: a payload in which only the last bit is 1 has the remainder 0x6F63 and encodes to a word of zero syndrome. -/
theorem test_bch_remainder : bchRem (List.replicate 127 false ++ [true]) = 0x6F63 := by decide +kernel
theorem test_bch_syndrome : bchSyndromes (bchEncode (List.replicate 127 false ++ [true])) = (0, 0) := by decide +kernel

/-- R79: at reset entry 31 of the quadratic pair list is (5, 8), entry 0 (-2, -2). -/
theorem test_pairs_reset : Dev.reset.eqPair 3 31 = (5, 8) ∧ Dev.reset.eqPair 3 0 = (-2, -2) := by decide +kernel

/-- R202's example: a packet of 40 bytes at SF9 has 16 + 2 + 16 + 80 symbols. -/
theorem test_sloe_symbols : (sloeSymbols 9 8 0x35 (sloeHeader 40 1 false false 5 9) (sloePayload (List.replicate 40 3))).length = 114 := by decide +kernel

/-- R5's example: the line-lane block of LL6 begins at 0x0248_0000. -/
theorem test_layout_ll6 : regFind 0x248_000C = some (.LL_CDR_PHASE, 6) := by decide +kernel

/-- R231's example: with DRIFT = 50 the bound after 600 s of holdover is 3000.6 ns. -/
theorem test_holdover_bound :
    ((stOf Dev.reset [(TIME_HOLD_DRIFT, 0, 50), (TIME_DSTAT_HOLDOVER, 0, 1)] [(.tHold, 0, 749999999999)]).dev.tclkDom 0).get TIME_BOUND_NS 0 = 3000 := by
  decide +kernel

/-- R260's example: r = 311.70 ns gives d = 27.85 ns. -/
theorem test_calibration_d : (after (.calAnswerReceived 311700) (stOf Dev.reset [(TRG_ALIGN_DMAX, 0, 3000)] [(.trgCal, 0, 2)])).dev.get TRG_ALIGN_D 0 = 2785 := by
  decide +kernel

/-- R388's example: TS3 at 131 °C counts as 106.0 °C for two samples, then it is excluded and 97.5 °C is the maximum. -/
def ts3 (s : State) : State := after (.thmSample ((List.range 12).map (fun i => if i = 3 then 1048 else if i = 10 then 780 else 768)) 0) s
theorem test_sensor_capped : (ts3 (stOf Dev.reset [] [(.thmSt, 0, 1)])).dev.geti THM_MAX_TEMP 0 = 848 := by decide +kernel
theorem test_sensor_excluded :
    (ts3 (ts3 (ts3 (stOf Dev.reset [] [(.thmSt, 0, 1)])))).dev.get THM_EXCL_EXCL 0 = 8
      ∧ (ts3 (ts3 (ts3 (stOf Dev.reset [] [(.thmSt, 0, 1)])))).dev.geti THM_MAX_TEMP 0 = 780 := by decide +kernel

/-- R70: a START with TXLEN above 64 is refused with LEN. -/
theorem test_spi_len : (after (.spiOeStart 0x00410000#32) State.reset).dev.get SPI_OE_STATUS_ERR 0 = 2 := by decide +kernel

/-! ### The hypotheses of the statements can be met -/

theorem witness_StepRunsFront : ∃ (c : Instr) (rest : List Instr) (s : State), s.pending = c :: rest := ⟨.capArm, [], { State.reset with pending := [.capArm] }, rfl⟩

theorem witness_SoundKept : ∃ s t : State, Sound s ∧ step s = .next t := ⟨State.reset, State.reset.idle, ⟨by decide, by decide⟩, rfl⟩

theorem witness_FusesOneWay : ∃ (c : Instr) (s t : State), exec c s = .next t := ⟨.seedAbort, State.reset, _, rfl⟩

theorem witness_IdleStep :
    (∃ s : State, s.pending = [] ∧ s.dev.flag .offClk 0 = false) ∧ (∃ s : State, s.pending = [] ∧ s.dev.flag .offClk 0 = true) :=
  ⟨⟨stOf Dev.reset [] [(.offClk, 0, 0)], by decide +kernel⟩, ⟨stOf Dev.reset [] [(.offClk, 0, 1)], by decide +kernel⟩⟩

/-- The hypotheses of `Obligations.InnerCode`. -/
theorem witness_InnerCode : (∃ msg : List Bool, msg.length = 128) ∧ (∃ (msg : List Bool) (i j : Nat), msg.length = 128 ∧ i < 144 ∧ j < 144)
    ∧ ∃ (n t : Nat) (block : List (List Bool)), t < block.length * n :=
  ⟨⟨List.replicate 128 true, rfl⟩, ⟨List.replicate 128 true, 143, 0, rfl, by decide, by decide⟩, ⟨144, 287, [[true], [false]], by decide⟩⟩


/-- The hypotheses of `Obligations.CalibrationSteps`, clause by clause. -/
theorem witness_CalibrationSteps :
    (∃ (s : State) (n : Fin 8) (slice : Fin 96), s.dev.flag .ofsDone (n * 96 + slice) = true ∧ s.dev.on LL_ADC_STATUS_READY n = true ∧ s.dev.on LL_ADC_CTRL_OFS_EN n = true)
    ∧ (∃ (s : State) (n : Fin 8) (slice : Fin 96), s.dev.flag .ofsDone (n * 96 + slice) = true ∧ (s.dev.on LL_ADC_STATUS_READY n && s.dev.on LL_ADC_CTRL_OFS_EN n) = false)
    ∧ (∃ (s : State) (n : Fin 8) (slice : Fin 96), s.dev.flag .ofsDone (n * 96 + slice) = false)
    ∧ (∃ (s : State) (n : Fin 8) (slice : Fin 96) (x : Int), x = (s.dev.gainStats n).length * s.dev.v .gainRes (n * 96 + slice) - (s.dev.gainStats n).sum ∧ s.dev.flag .gainDone (n * 96 + slice) = true ∧ s.dev.on LL_ADC_STATUS_READY n = true ∧ s.dev.on LL_ADC_CTRL_GAIN_EN n = true ∧ ((∃ k < 96, k ≠ slice.val ∧ s.dev.flag .visGain (n * 96 + k) = false)))
    ∧ (∃ (s : State) (n : Fin 8) (slice : Fin 96) (g : Int) (m : Int), g = max (-128) (min 127 (s.dev.v .sliceGain (n * 96 + slice) - gainDir (s.dev.v .gainRes (n * 96 + slice)) (s.dev.gainStats n))) ∧ m = rdiv (((List.range 96).map (fun k => if k = slice.val then g else s.dev.v .sliceGain (n * 96 + k))).sum) 96 ∧ s.dev.flag .gainDone (n * 96 + slice) = true ∧ s.dev.on LL_ADC_STATUS_READY n = true ∧ s.dev.on LL_ADC_CTRL_GAIN_EN n = true ∧ ((∀ k < 96, k ≠ slice.val → s.dev.flag .visGain (n * 96 + k) = true)))
    ∧ (∃ (s : State) (n : Fin 8) (slice : Fin 96), s.dev.flag .gainDone (n * 96 + slice) = true ∧ (s.dev.on LL_ADC_STATUS_READY n && s.dev.on LL_ADC_CTRL_GAIN_EN n) = false)
    ∧ (∃ (s : State) (n : Fin 8) (slice : Fin 96), s.dev.flag .gainDone (n * 96 + slice) = false)
    ∧ (∃ (s : State) (n : Fin 8) (slice : Fin 96), s.dev.flag .skewDone (n * 96 + slice) = true ∧ s.dev.skewRuns n = true ∧ ((∃ k < 96, k ≠ slice.val ∧ s.dev.flag .visSkew (n * 96 + k) = false)))
    ∧ (∃ (s : State) (n : Fin 8) (slice : Fin 96) (g : Int) (m : Int), g = max (-200) (min 200 (s.dev.v .sliceSkew (n * 96 + slice) - s.dev.v .skewRes (n * 96 + slice))) ∧ m = rdiv (((List.range 96).map (fun k => if k = slice.val then g else s.dev.v .sliceSkew (n * 96 + k))).sum) 96 ∧ s.dev.flag .skewDone (n * 96 + slice) = true ∧ s.dev.skewRuns n = true ∧ ((∀ k < 96, k ≠ slice.val → s.dev.flag .visSkew (n * 96 + k) = true)))
    ∧ (∃ (s : State) (n : Fin 8) (slice : Fin 96), s.dev.flag .skewDone (n * 96 + slice) = true ∧ s.dev.skewRuns n = false)
    ∧ (∃ (s : State) (n : Fin 8) (slice : Fin 96), s.dev.flag .skewDone (n * 96 + slice) = false) :=
   ⟨⟨(fun (n : Fin 8) => fun (slice : Fin 96) => stOf Dev.reset [(LL_ADC_STATUS_READY, n, 1), (LL_ADC_CTRL_OFS_EN, n, 1)] [(.ofsDone, (n * 96 + slice), 1), (.ofsDone, (n * 96 + slice), 1), (.ofsRes, (n * 96 + slice), -1)]) (7) (95), 7, 95, by decide +kernel⟩,
    ⟨(fun (n : Fin 8) => fun (slice : Fin 96) => stOf Dev.reset [(LL_ADC_STATUS_READY, n, 0)] [(.ofsDone, (n * 96 + slice), 1), (.ofsDone, (n * 96 + slice), 1)]) (7) (95), 7, 95, by decide +kernel⟩,
    ⟨(fun (n : Fin 8) => fun (slice : Fin 96) => stOf Dev.reset [] [(.ofsDone, (n * 96 + slice), 0), (.ofsDone, (n * 96 + slice), 0)]) (7) (95), 7, 95, by decide +kernel⟩,
    ⟨(fun (n : Fin 8) => fun (slice : Fin 96) => stOf Dev.reset [(LL_ADC_STATUS_READY, n, 1), (LL_ADC_CTRL_GAIN_EN, n, 1), (LL_ADC_STATUS_READY, n, 1), (LL_ADC_STATUS_FG_BUSY, n, 0)] [(.gainDone, (n * 96 + slice), 1), (.gainDone, (n * 96 + slice), 1), (.visGain, (n * 96 + 7), 0), (.gainRes, (n * 96 + slice), 9000), (.gainRes, (n * 96 + 8), 9900)]) (7) (3), 7, 3, _, rfl, by decide +kernel⟩,
    ⟨(fun (n : Fin 8) => fun (slice : Fin 96) => ((stOf Dev.reset [(LL_ADC_STATUS_READY, n, 1), (LL_ADC_CTRL_GAIN_EN, n, 1), (LL_ADC_STATUS_READY, n, 1), (LL_ADC_STATUS_FG_BUSY, n, 0)] [(.gainDone, (n * 96 + slice), 1), (.gainDone, (n * 96 + slice), 1), (.gainRes, (n * 96 + slice), 9000), (.gainRes, (n * 96 + 8), 9900)])).withDev (fun d => d.each (List.range 96) (fun k e => e.sv .visGain (n * 96 + k) 1))) (7) (3), 7, 3, _, _, rfl, rfl, by decide +kernel⟩,
    ⟨(fun (n : Fin 8) => fun (slice : Fin 96) => stOf Dev.reset [(LL_ADC_STATUS_READY, n, 0)] [(.gainDone, (n * 96 + slice), 1), (.gainDone, (n * 96 + slice), 1)]) (7) (95), 7, 95, by decide +kernel⟩,
    ⟨(fun (n : Fin 8) => fun (slice : Fin 96) => stOf Dev.reset [] [(.gainDone, (n * 96 + slice), 0), (.gainDone, (n * 96 + slice), 0)]) (7) (95), 7, 95, by decide +kernel⟩,
    ⟨(fun (n : Fin 8) => fun (slice : Fin 96) => stOf Dev.reset [(LL_ADC_STATUS_READY, n, 1), (LL_ADC_STATUS_FG_BUSY, n, 0), (LL_ADC_CTRL_SKEW_EN, n, 1), (LL_CDR_STATUS_LOCKED, n, 1), (LL_EQ_STATUS_CONV, n, 1)] [(.skewDone, (n * 96 + slice), 1), (.skewDone, (n * 96 + slice), 1), (.visSkew, (n * 96 + 7), 0), (.skewRes, (n * 96 + slice), -1)]) (7) (3), 7, 3, by decide +kernel⟩,
    ⟨(fun (n : Fin 8) => fun (slice : Fin 96) => ((stOf Dev.reset [(LL_ADC_STATUS_READY, n, 1), (LL_ADC_STATUS_FG_BUSY, n, 0), (LL_ADC_CTRL_SKEW_EN, n, 1), (LL_CDR_STATUS_LOCKED, n, 1), (LL_EQ_STATUS_CONV, n, 1)] [(.skewDone, (n * 96 + slice), 1), (.skewDone, (n * 96 + slice), 1), (.skewRes, (n * 96 + slice), 1)])).withDev (fun d => d.each (List.range 96) (fun k e => e.sv .visSkew (n * 96 + k) 1))) (7) (3), 7, 3, _, _, rfl, rfl, by decide +kernel⟩,
    ⟨(fun (n : Fin 8) => fun (slice : Fin 96) => stOf Dev.reset [(LL_ADC_STATUS_READY, n, 0)] [(.skewDone, (n * 96 + slice), 1), (.skewDone, (n * 96 + slice), 1)]) (7) (95), 7, 95, by decide +kernel⟩,
    ⟨(fun (n : Fin 8) => fun (slice : Fin 96) => stOf Dev.reset [] [(.skewDone, (n * 96 + slice), 0), (.skewDone, (n * 96 + slice), 0)]) (7) (95), 7, 95, by decide +kernel⟩⟩

/-- The hypotheses of `Obligations.AdcControl`, clause by clause. -/
theorem witness_AdcControl :
    (∃ (s : State) (n : Fin 8) (k : Nat), s.dev.get LL_ADC_SLICE_SEL_SLICE n = k ∧ k < 96)
    ∧ (∃ (s : State) (n : Fin 8) (k : Nat), s.dev.get LL_ADC_SLICE_SEL_SLICE n = k ∧ 96 ≤ k)
    ∧ (∃ (s : State) (n : Fin 8), s.dev.flag .adcUp n = true)
    ∧ (∃ (s : State) (n : Fin 8), s.dev.flag .adcUp n = false)
    ∧ (∃ (s : State) (n : Fin 8) (pct : Nat) (g : Nat) (g' : Nat), g = min (s.dev.get LL_ADC_STATUS_GAIN_NOW n) 12 ∧ g' = (if pct < 96 then min (g + 1) 12 else if 120 < pct then g - 1 else g) ∧ s.dev.on LL_ADC_STATUS_READY n = true ∧ s.dev.on LL_ADC_STATUS_FG_BUSY n = false ∧ s.dev.on LL_ADC_CTRL_AFE_AUTO n = true ∧ s.dev.get BN_LINK_STATUS_STATE n < 3)
    ∧ (∃ (s : State) (n : Fin 8), ((s.dev.on LL_ADC_STATUS_READY n = false ∨ s.dev.on LL_ADC_STATUS_FG_BUSY n = true ∨ s.dev.on LL_ADC_CTRL_AFE_AUTO n = false ∨ 3 ≤ s.dev.get BN_LINK_STATUS_STATE n)))
    ∧ (∃ (s : State) (n : Fin 8), s.dev.on BN_LINK_CTRL_EN n = true ∧ s.dev.on LL_ADC_STATUS_READY n = true ∧ s.dev.get BN_LINK_STATUS_STATE n = 0 ∧ s.dev.on LL_ADC_STATUS_FG_BUSY n = false)
    ∧ (∃ (s : State) (n : Fin 8), ((s.dev.on BN_LINK_CTRL_EN n = false ∨ s.dev.on LL_ADC_STATUS_READY n = false ∨ s.dev.get BN_LINK_STATUS_STATE n ≠ 0 ∨ s.dev.on LL_ADC_STATUS_FG_BUSY n = true)))
    ∧ (∃ (s : State) (n : Fin 8), s.dev.on LL_ADC_STATUS_FG_BUSY n = true ∧ s.dev.flag .fgDisable n = false)
    ∧ (∃ (s : State) (n : Fin 8), s.dev.on LL_ADC_STATUS_FG_BUSY n = true ∧ s.dev.flag .fgDisable n = true)
    ∧ (∃ (s : State) (n : Fin 8), s.dev.on LL_ADC_STATUS_FG_BUSY n = false) :=
   ⟨⟨(fun (n : Fin 8) => fun (k : Nat) => stOf Dev.reset [(LL_ADC_SLICE_SEL_SLICE, n, k)] []) (7) (5), 7, 5, by decide +kernel⟩,
    ⟨(fun (n : Fin 8) => fun (k : Nat) => stOf Dev.reset [(LL_ADC_SLICE_SEL_SLICE, n, k)] []) (7) (100), 7, 100, by decide +kernel⟩,
    ⟨(fun (n : Fin 8) => stOf Dev.reset [] [(.adcUp, n, 1)]) (7), 7, by decide +kernel⟩,
    ⟨(fun (n : Fin 8) => stOf Dev.reset [] [(.adcUp, n, 0)]) (7), 7, by decide +kernel⟩,
    ⟨(fun (n : Fin 8) => stOf Dev.reset [(LL_ADC_STATUS_READY, n, 1), (LL_ADC_STATUS_FG_BUSY, n, 0), (LL_ADC_CTRL_AFE_AUTO, n, 1), (BN_LINK_STATUS_STATE, n, 1)] []) (7), 7, 5, _, _, rfl, rfl, by decide +kernel⟩,
    ⟨(fun (n : Fin 8) => stOf Dev.reset [(LL_ADC_STATUS_READY, n, 0)] []) (7), 7, by decide +kernel⟩,
    ⟨(fun (n : Fin 8) => stOf Dev.reset [(BN_LINK_CTRL_EN, n, 1), (LL_ADC_STATUS_READY, n, 1), (BN_LINK_STATUS_STATE, n, 0), (LL_ADC_STATUS_FG_BUSY, n, 0)] []) (7), 7, by decide +kernel⟩,
    ⟨(fun (n : Fin 8) => stOf Dev.reset [(LL_ADC_STATUS_READY, n, 0)] []) (7), 7, by decide +kernel⟩,
    ⟨(fun (n : Fin 8) => stOf Dev.reset [(LL_ADC_STATUS_FG_BUSY, n, 1)] [(.fgDisable, n, 0)]) (7), 7, by decide +kernel⟩,
    ⟨(fun (n : Fin 8) => stOf Dev.reset [(LL_ADC_STATUS_FG_BUSY, n, 1)] [(.fgDisable, n, 1)]) (7), 7, by decide +kernel⟩,
    ⟨(fun (n : Fin 8) => stOf Dev.reset [(LL_ADC_STATUS_FG_BUSY, n, 0)] []) (7), 7, by decide +kernel⟩⟩

/-- The hypotheses of `Obligations.ClockRecovery`, clause by clause. -/
theorem witness_ClockRecovery :
    (∃ (s : State) (n : Fin 8) (est : Int) (tol : Int), est = rdiv (s.dev.v .cdrMean n * 10 ^ 9) (4096 * s.dev.symsPerDpclk n * 2 ^ 40) ∧ tol = 1000 * (max 1 (s.dev.get LL_CDR_CTRL_LOCK_TOL n) : Nat) ∧ s.dev.on LL_ADC_STATUS_READY n = true ∧ s.dev.flag .cdrDone n = true)
    ∧ (∃ (s : State) (n : Fin 8), ((s.dev.on LL_ADC_STATUS_READY n = false ∨ s.dev.flag .cdrDone n = false)))
    ∧ (∃ (s : State) (n : Fin 8), s.dev.get LL_CDR_CTRL_MODE n = 2)
    ∧ (∃ (s : State) (n : Fin 8), s.dev.get LL_CDR_CTRL_MODE n ≠ 2) :=
   ⟨⟨(fun (n : Fin 8) => stOf Dev.reset [(LL_ADC_STATUS_READY, n, 1)] [(.cdrDone, n, 1), (.cdrDone, n, 1), (.cdrMean, n, 4398046511104)]) (7), 7, _, _, rfl, rfl, by decide +kernel⟩,
    ⟨(fun (n : Fin 8) => stOf Dev.reset [] [(.cdrDone, n, 0)]) (7), 7, by decide +kernel⟩,
    ⟨(fun (n : Fin 8) => stOf Dev.reset [(LL_CDR_CTRL_MODE, n, 2)] []) (7), 7, by decide +kernel⟩,
    ⟨stOf Dev.reset [] [], 7, by decide +kernel⟩⟩

/-- The hypotheses of `Obligations.BoardPorts`, clause by clause. -/
theorem witness_BoardPorts :
    (∃ (s : State) (ctrl : Word) (w : Nat) (tx : Nat) (rx : Nat), w = ctrl.toNat ∧ tx = w / 2 ^ 16 % 128 ∧ rx = w / 2 ^ 24 % 128 ∧ s.dev.on SPI_OE_STATUS_BUSY 0 = false ∧ tx ≤ 64 ∧ rx ≤ 64 ∧ ((w / 2 ^ 10 % 2 = 1 → 1 ≤ tx)) ∧ 1 ≤ tx + rx)
    ∧ (∃ (s : State) (len : Nat), len = (if s.dev.on SPI_OE_CTRL_DUPLEX 0 then s.dev.get SPI_OE_CTRL_TXLEN 0 else s.dev.get SPI_OE_CTRL_RXLEN 0) ∧ s.dev.on SPI_OE_STATUS_BUSY 0 = true ∧ s.dev.flag .speBusyPoll 0 = false)
    ∧ (∃ (s : State), ((s.dev.on SPI_OE_STATUS_BUSY 0 = false ∨ s.dev.flag .speBusyPoll 0 = true)))
    ∧ (∃ (s : State), s.dev.on SPI_OE_STATUS_BUSY 0 = true ∧ s.dev.flag .speBusyPoll 0 = true)
    ∧ (∃ (s : State), ((s.dev.on SPI_OE_STATUS_BUSY 0 = false ∨ s.dev.flag .speBusyPoll 0 = false)))
    ∧ (∃ (s : State), s.dev.on SPI_OE_STATUS_BUSY 0 = true ∧ s.dev.flag .speFirst 0 = true)
    ∧ (∃ (s : State), ((s.dev.on SPI_OE_STATUS_BUSY 0 = false ∨ s.dev.flag .speFirst 0 = false)))
    ∧ (∃ (s : State) (us : Nat), s.dev.flag .oeLow 0 = true ∧ s.dev.flag .oeTaken 0 = false ∧ s.dev.get SPI_OE_ALARM_DEBOUNCE 0 ≤ us)
    ∧ (∃ (s : State) (us : Nat), ((s.dev.flag .oeLow 0 = false ∨ s.dev.flag .oeTaken 0 = true ∨ us < s.dev.get SPI_OE_ALARM_DEBOUNCE 0)))
    ∧ (∃ (s : State) (k : Fin 4) (level : Bool), s.dev.flag .oePin k ≠ level ∧ (s.dev.get SPI_OE_PINS_GPIO_OE 0).testBit k = false ∧ (s.dev.get SPI_OE_PINS_GPIO_IRQ_EN 0).testBit k = true)
    ∧ (∃ (s : State) (k : Fin 4) (level : Bool), ((s.dev.flag .oePin k = level ∨ (s.dev.get SPI_OE_PINS_GPIO_OE 0).testBit k = true ∨ (s.dev.get SPI_OE_PINS_GPIO_IRQ_EN 0).testBit k = false))) :=
   ⟨⟨stOf Dev.reset [(SPI_OE_STATUS_BUSY, 0, 0)] [], 0x03020340#32, _, _, _, rfl, rfl, rfl, by decide +kernel⟩,
    ⟨stOf Dev.reset [(SPI_OE_STATUS_BUSY, 0, 1), (SPI_OE_POLL_TO_TIMEOUT, 0, 5), (SPI_OE_POLL_MASK, 0, 0xF), (SPI_OE_POLL_VALUE, 0, 7), (SPI_OE_POLL_BYTE, 0, 1), (SPI_OE_CTRL_DUPLEX, 0, 0), (SPI_OE_CTRL_RXLEN, 0, 2)] [(.speBusyPoll, 0, 0)], _, rfl, by decide +kernel⟩,
    ⟨stOf Dev.reset [] [(.speBusyPoll, 0, 1)], by decide +kernel⟩,
    ⟨stOf Dev.reset [(SPI_OE_STATUS_BUSY, 0, 1)] [(.speBusyPoll, 0, 1)], by decide +kernel⟩,
    ⟨stOf Dev.reset [] [(.speBusyPoll, 0, 0)], by decide +kernel⟩,
    ⟨stOf Dev.reset [(SPI_OE_STATUS_BUSY, 0, 1)] [(.speFirst, 0, 1)], by decide +kernel⟩,
    ⟨stOf Dev.reset [] [(.speFirst, 0, 0)], by decide +kernel⟩,
    ⟨stOf Dev.reset [(SPI_OE_ALARM_DEBOUNCE, 0, 3)] [(.oeLow, 0, 1), (.oeTaken, 0, 0)], 5, by decide +kernel⟩,
    ⟨stOf Dev.reset [] [(.oeLow, 0, 0)], 0, by decide +kernel⟩,
    ⟨stOf Dev.reset [(SPI_OE_PINS_GPIO_OE, 0, 0), (SPI_OE_PINS_GPIO_IRQ_EN, 0, 15)] [(.oePin, 1, 0)], 1, true, by decide +kernel⟩,
    ⟨stOf Dev.reset [(SPI_OE_PINS_GPIO_OE, 0, 0), (SPI_OE_PINS_GPIO_IRQ_EN, 0, 13)] [(.oePin, 1, 0)], 1, true, by decide +kernel⟩⟩

/-- The hypotheses of `Obligations.OpticalStartRefused`, clause by clause. -/
theorem witness_OpticalStartRefused :
    (∃ (s : State) (ctrl : Word), s.dev.on SPI_OE_STATUS_BUSY 0 = false ∧ ((64 < ctrl.toNat / 2 ^ 16 % 128 ∨ 64 < ctrl.toNat / 2 ^ 24 % 128 ∨ (ctrl.toNat / 2 ^ 10 % 2 = 0 ∧ ctrl.toNat / 2 ^ 16 % 128 + ctrl.toNat / 2 ^ 24 % 128 = 0) ∨ (ctrl.toNat / 2 ^ 10 % 2 = 1 ∧ ctrl.toNat / 2 ^ 16 % 128 = 0))))
    ∧ (∃ (s : State), s.dev.on SPI_OE_STATUS_BUSY 0 = true)
    ∧ (∃ (s : State) (init : Nat) (a : Nat) (n : Nat) (r : Reg) (env : WrEnv), s.dev.on SPI_OE_STATUS_BUSY 0 = true ∧ regFind a = some (r, n) ∧ region a = .regs ∧ a % 4 = 0 ∧ ((r = .SPI_OE_TXBUF ∨ r = .SPI_OE_CTRL)) ∧ s.dev.isOff a = false ∧ s.dev.heldAt a = none ∧ ((4 ≤ init ∨ env.user = false))) :=
   ⟨⟨stOf Dev.reset [(SPI_OE_STATUS_BUSY, 0, 0)] [], 0x00410000#32, by decide +kernel⟩,
    ⟨stOf Dev.reset [(SPI_OE_STATUS_BUSY, 0, 1)] [], by decide +kernel⟩,
    ⟨stOf Dev.reset [(SPI_OE_STATUS_BUSY, 0, 1)] [(.offMgmt, 0, 0), (.offBunch, 0, 0), (.offBunch, 1, 0), (.bnReload, 0, 0), (.bnReload, 1, 0)], 3, 0x88044, 1, .SPI_OE_TXBUF, { ab := [], k := 0, quiet := true, wake := 0, user := false, lines := 0, find := .clean }, by decide +kernel⟩⟩

/-- The hypotheses of `Obligations.Equaliser`, clause by clause. -/
theorem witness_Equaliser :
    (∃ (s : State) (n : Fin 8), s.dev.flag .rxGrid n = true)
    ∧ (∃ (s : State) (n : Fin 8), s.dev.flag .rxGrid n = true ∧ s.dev.flag .eqPendReinit n = true ∧ s.dev.flag .eqProf n = false ∧ 1 ≤ s.dev.get LL_EQ_STATUS_LIN_NOW n ∧ s.dev.get LL_EQ_STATUS_LIN_NOW n ≤ 112)
    ∧ (∃ (s : State) (n : Fin 8), s.dev.flag .rxGrid n = true ∧ (s.dev.eqHeld n || s.dev.flag .eqHoldPip n) = true ∧ ((∀ x ∈ [Var.eqPendReinit, .eqPendRestore, .eqProf], s.dev.v x n = 0)) ∧ ((∀ k < 180, s.dev.v .eqWr (180 * n + k) ≠ 1)) ∧ s.dev.quadsOn n = true)
    ∧ (∃ (s : State) (n : Fin 8), s.dev.flag .rxGrid n = false)
    ∧ (∃ (s : State) (n : Fin 8) (k : Nat), s.dev.get LL_EQ_COEF_SEL_INDEX n = k ∧ ((k < 112 ∧ k < s.dev.get LL_EQ_STATUS_LIN_NOW n ∨ 112 ≤ k ∧ k < 112 + min 32 (s.dev.get LL_EQ_STATUS_QUAD_NOW n) ∨ 144 ≤ k ∧ k < 180)))
    ∧ (∃ (s : State) (n : Fin 8) (k : Nat), s.dev.get LL_EQ_COEF_SEL_INDEX n = k ∧ ((k < 112 ∧ s.dev.get LL_EQ_STATUS_LIN_NOW n ≤ k ∨ 112 ≤ k ∧ k < 144 ∧ 112 + s.dev.get LL_EQ_STATUS_QUAD_NOW n ≤ k ∨ 180 ≤ k)))
    ∧ (∃ (s : State) (n : Fin 8) (k : Nat), s.dev.get LL_EQ_SNAP_INT_SHIFT n = k ∧ k ≠ 0 ∧ 0 < s.dev.v .eqSnapCnt n ∧ s.dev.v .eqSnapCnt n % (2 ^ max 8 (min 20 k) : Nat) = 0 ∧ s.dev.on LL_EQ_STATUS_CONV n = true ∧ s.dev.snrGe n (s.dev.get LL_EQ_CONV_SNR_MIN n : Nat) = true ∧ s.dev.flag .eqUe n = false)
    ∧ (∃ (s : State) (n : Fin 8), ((s.dev.get LL_EQ_SNAP_INT_SHIFT n = 0 ∨ s.dev.v .eqSnapCnt n ≤ 0 ∨ s.dev.v .eqSnapCnt n % (2 ^ max 8 (min 20 (s.dev.get LL_EQ_SNAP_INT_SHIFT n)) : Nat) ≠ 0 ∨ s.dev.on LL_EQ_STATUS_CONV n = false ∨ s.dev.snrGe n (s.dev.get LL_EQ_CONV_SNR_MIN n : Nat) = false ∨ s.dev.flag .eqUe n = true)))
    ∧ (∃ (s : State) (n : Fin 8), s.dev.on LL_EQ_QCTRL_HIST_BUSY n = true ∧ (2 ^ (s.dev.get LL_EQ_QCTRL_WIN n + 4) : Nat) ≤ s.dev.v .eqHpips n)
    ∧ (∃ (s : State) (n : Fin 8), ((s.dev.on LL_EQ_QCTRL_HIST_BUSY n = false ∨ s.dev.v .eqHpips n < (2 ^ (s.dev.get LL_EQ_QCTRL_WIN n + 4) : Nat)))) :=
   ⟨⟨(fun (n : Fin 8) => stOf Dev.reset [] [(.rxGrid, n, 1)]) (7), 7, by decide +kernel⟩,
    ⟨(fun (n : Fin 8) => stOf Dev.reset [(LL_EQ_STATUS_LIN_NOW, n, 1), (LL_EQ_STATUS_LIN_NOW, n, 20)] [(.rxGrid, n, 1), (.eqPendReinit, n, 1), (.eqProf, n, 0)]) (7), 7, by decide +kernel⟩,
    ⟨(fun (n : Fin 8) => ((stOf Dev.reset [(LL_CDR_STATUS_HOLDING, n, 1), (LL_EQ_CTRL_QUAD_EARLY, n, 1)] [(.rxGrid, n, 1)])).withDev (fun d => ((d.each (List.range 180) (fun k e => e.sv .eqWr (180 * n + k) 0)).sv .eqPendReinit n 0).sv .eqPendRestore n 0 |>.sv .eqProf n 0)) (7), 7, by decide +kernel⟩,
    ⟨(fun (n : Fin 8) => stOf Dev.reset [] [(.rxGrid, n, 0)]) (7), 7, by decide +kernel⟩,
    ⟨(fun (n : Fin 8) => fun (k : Nat) => stOf Dev.reset [(LL_EQ_COEF_SEL_INDEX, n, k), (LL_EQ_COEF_SEL_INDEX, n, 5), (LL_EQ_STATUS_LIN_NOW, n, 20)] []) (7) (5), 7, 5, by decide +kernel⟩,
    ⟨(fun (n : Fin 8) => fun (k : Nat) => stOf Dev.reset [(LL_EQ_COEF_SEL_INDEX, n, k), (LL_EQ_STATUS_LIN_NOW, n, 20)] []) (7) (100), 7, 100, by decide +kernel⟩,
    ⟨(fun (n : Fin 8) => fun (k : Nat) => stOf Dev.reset [(LL_EQ_SNAP_INT_SHIFT, n, k), (LL_EQ_STATUS_CONV, n, 1)] [(.eqUe, n, 0), (.eqSnapCnt, n, 1024), (.eqMse, n, 0)]) (7) (9), 7, 9, by decide +kernel⟩,
    ⟨(fun (n : Fin 8) => stOf Dev.reset [(LL_EQ_SNAP_INT_SHIFT, n, 0)] []) (7), 7, by decide +kernel⟩,
    ⟨(fun (n : Fin 8) => stOf Dev.reset [(LL_EQ_QCTRL_HIST_BUSY, n, 1), (LL_EQ_QCTRL_WIN, n, 1)] [(.eqHpips, n, 32)]) (7), 7, by decide +kernel⟩,
    ⟨(fun (n : Fin 8) => stOf Dev.reset [(LL_EQ_QCTRL_HIST_BUSY, n, 0)] []) (7), 7, by decide +kernel⟩⟩

/-- The hypotheses of `Obligations.TransmitShaping`, clause by clause. -/
theorem witness_TransmitShaping :
    (∃ (s : State) (n : Fin 8) (sl : Nat), s.dev.slotOfLine n = some sl ∧ s.dev.flag .txGrid sl = true)
    ∧ (∃ (s : State) (n : Fin 8) (sl : Nat), s.dev.slotOfLine n = some sl ∧ s.dev.flag .txGrid sl = false)
    ∧ (∃ (s : State) (n : Fin 8), s.dev.slotOfLine n = none)
    ∧ (∃ (s : State) (n : Fin 8), s.dev.flag .txExit n = true)
    ∧ (∃ (s : State) (n : Fin 8), s.dev.flag .txExit n = false) :=
   ⟨⟨(fun (sl : Nat) => stOf rich [] [(.txGrid, sl, 1)]) (0), 0, 0, by decide +kernel⟩,
    ⟨(fun (sl : Nat) => stOf rich [] [(.txGrid, sl, 0)]) (0), 0, 0, by decide +kernel⟩,
    ⟨stOf Dev.reset [] [], 7, by decide +kernel⟩,
    ⟨(fun (n : Fin 8) => stOf Dev.reset [] [(.txExit, n, 1)]) (7), 7, by decide +kernel⟩,
    ⟨(fun (n : Fin 8) => stOf Dev.reset [] [(.txExit, n, 0)]) (7), 7, by decide +kernel⟩⟩

/-- The hypotheses of `Obligations.DecoderPool`, clause by clause. -/
theorem witness_DecoderPool :
    (∃ (s : State) (n : Fin 8) (cyc : Nat) (m : LineMode), s.dev.mode n = some m ∧ m ≠ .l100 ∧ s.dev.on DEC_STATUS_CW_LOCK n = true ∧ s.dev.nextBlock n cyc m ≠ [])
    ∧ (∃ (s : State) (n : Fin 8) (cyc : Nat), ((s.dev.mode n = none ∨ s.dev.mode n = some .l100 ∨ s.dev.on DEC_STATUS_CW_LOCK n = false ∨ ∃ m, s.dev.mode n = some m ∧ s.dev.nextBlock n cyc m = [])))
    ∧ (∃ (s : State) (n : Fin 8) (cyc : Nat) (c : Codeword), s.dev.laneSlots n < (s.dev.lane n).slots ∧ s.dev.nextPass n cyc = some c)
    ∧ (∃ (s : State) (n : Fin 8) (cyc : Nat), (((s.dev.lane n).slots ≤ s.dev.laneSlots n ∨ s.dev.nextPass n cyc = none)))
    ∧ (∃ (s : State) (n : Fin 8) (cyc : Nat) (id : Nat) (pass : Nat) (c : Codeword), s.dev.cws.find? (fun x => x.lane == n.val && x.id == id) = some c ∧ c.run = some (pass, cyc) ∧ cyc + 6 ≤ s.dev.deadline c)
    ∧ (∃ (s : State) (n : Fin 8) (cyc : Nat) (id : Nat) (pass : Nat) (c : Codeword), s.dev.cws.find? (fun x => x.lane == n.val && x.id == id) = some c ∧ c.run = some (pass, cyc) ∧ s.dev.deadline c < cyc + 6)
    ∧ (∃ (s : State) (n : Fin 8) (cyc : Nat) (id : Nat), ((∀ c, s.dev.cws.find? (fun x => x.lane == n.val && x.id == id) = some c → ∀ r, c.run = some r → cyc ≠ r.2 + 6)))
    ∧ (∃ (s : State) (n : Fin 8) (cyc : Nat) (c : Codeword), s.dev.headCw n = some c ∧ s.dev.lowLat n = true ∧ s.dev.relOk n cyc = true ∧ c.fin = true ∧ 0 ≤ s.dev.v .cwHigh n)
    ∧ (∃ (s : State) (n : Fin 8) (cyc : Nat) (c : Codeword), s.dev.headCw n = some c ∧ s.dev.lowLat n = true ∧ s.dev.relOk n cyc = true ∧ c.fin = false ∧ c.verify = true ∧ s.dev.on DEC_CTRL_SPEC_EN n = true ∧ 0 ≤ s.dev.v .cwHigh n)
    ∧ (∃ (s : State) (n : Fin 8) (cyc : Nat), ((s.dev.headCw n = none ∨ s.dev.lowLat n = false ∨ s.dev.relOk n cyc = false ∨ ∃ c, s.dev.headCw n = some c ∧ c.fin = false ∧ (c.verify = false ∨ s.dev.on DEC_CTRL_SPEC_EN n = false))))
    ∧ (∃ (s : State) (n : Fin 8) (cyc : Nat) (c : Codeword) (d : Dev), d = s.dev.dueResults n cyc ∧ d.cws.find? (fun x => x.lane == n.val && x.rel.isSome && !x.fin && decide (d.deadline x ≤ cyc)) = some c)
    ∧ (∃ (s : State) (n : Fin 8) (cyc : Nat) (c : Codeword) (d : Dev), d = s.dev.dueResults n cyc ∧ ((∀ x ∈ d.cws, x.lane = n.val → x.rel.isSome = true → d.deadline x ≤ cyc → x.fin = true)) ∧ d.headCw n = some c ∧ d.deadline c ≤ cyc ∧ d.relOk n cyc = true)
    ∧ (∃ (s : State) (n : Fin 8) (cyc : Nat) (d : Dev), d = s.dev.dueResults n cyc ∧ ((∀ x ∈ d.cws, x.lane = n.val → x.rel.isSome = true → d.deadline x ≤ cyc → x.fin = true)) ∧ ((∀ c, d.headCw n = some c → cyc < d.deadline c ∨ d.relOk n cyc = false))) :=
   ⟨⟨(fun (n : Fin 8) => ((stOf rich [(DEC_STATUS_CW_LOCK, n, 1)] [(.cwSym, n, 0)])).withDev (fun d => { d with eqPips := [pip0 0 2000] })) (0), 0, 5, .l400s, by decide +kernel⟩,
    ⟨stOf Dev.reset [] [], 7, 5, by decide +kernel⟩,
    ⟨((stOf rich [] [])).withCws [cw0 0], 0, 5, cw0 0, by decide +kernel⟩,
    ⟨stOf Dev.reset [] [], 7, 5, by decide +kernel⟩,
    ⟨(fun (n : Fin 8) => ((stOf rich [(DEC_STATUS_D_NOW, n, 300)] [])).withCws [{ cw0 0 with run := some (5, 5) }]) (0), 0, 5, 1, 5, { cw0 0 with run := some (5, 5) }, by decide +kernel⟩,
    ⟨((stOf rich [] [])).withCws [{ cw0 0 with run := some (5, 30000) }], 0, 30000, 1, 5, { cw0 0 with run := some (5, 30000) }, by decide +kernel⟩,
    ⟨stOf Dev.reset [] [], 7, 5, 5, by decide +kernel⟩,
    ⟨(fun (n : Fin 8) => ((stOf rich [] [(.cwHigh, n, 0), (.cwHigh, n, 0)])).withCws [{ cw0 2 with fin := true }]) (2), 2, 30000, { cw0 2 with fin := true }, by decide +kernel⟩,
    ⟨(fun (n : Fin 8) => ((stOf rich [(DEC_CTRL_SPEC_EN, n, 1), (DEC_CTRL_SPEC_EN, n, 1)] [(.cwHigh, n, 0), (.cwHigh, n, 0)])).withCws [{ cw0 2 with verify := true }]) (2), 2, 30000, { cw0 2 with verify := true }, by decide +kernel⟩,
    ⟨stOf Dev.reset [] [], 7, 5, by decide +kernel⟩,
    ⟨((stOf rich [] [])).withCws [{ cw0 0 with rel := some 5 }], 0, 30000, { cw0 0 with rel := some 5 }, _, rfl, by decide +kernel⟩,
    ⟨((stOf rich [] [])).withCws [cw0 0], 0, 30000, cw0 0, _, rfl, by decide +kernel⟩,
    ⟨stOf rich [] [], 0, 5, _, rfl, by decide +kernel⟩⟩

/-- The hypotheses of `Obligations.CodewordSync`, clause by clause. -/
theorem witness_CodewordSync :
    (∃ (s : State) (n : Fin 8) (i : Nat) (p : Nat), p = (s.dev.v .huntPos n).toNat ∧ s.dev.on DEC_STATUS_HUNTING n = true ∧ s.dev.v .cwPend n = 0 ∧ s.dev.mode n ≠ some .l200 ∧ s.dev.huntReady n = true ∧ s.dev.v .huntConf n = 0 ∧ i < 8 ∧ p + i < s.dev.blockSyms n ∧ max 1 (min 128 (s.dev.get DEC_LOCK_LOCK_MIN n)) ≤ s.dev.huntCount n (p + i) ∧ ((∀ j < i, s.dev.huntCount n (p + j) < max 1 (min 128 (s.dev.get DEC_LOCK_LOCK_MIN n)))))
    ∧ (∃ (s : State) (n : Fin 8) (p : Nat), p = (s.dev.v .huntPos n).toNat ∧ s.dev.on DEC_STATUS_HUNTING n = true ∧ s.dev.v .cwPend n = 0 ∧ s.dev.mode n ≠ some .l200 ∧ s.dev.huntReady n = true ∧ 0 ≤ s.dev.v .huntPos n ∧ ((s.dev.v .huntConf n = 0 ∧ (∀ j < 8, p + j < s.dev.blockSyms n → s.dev.huntCount n (p + j) < max 1 (min 128 (s.dev.get DEC_LOCK_LOCK_MIN n))) ∨ s.dev.v .huntConf n ≠ 0 ∧ s.dev.huntCount n (s.dev.v .huntCand n).toNat < max 1 (min 128 (s.dev.get DEC_LOCK_LOCK_MIN n)))))
    ∧ (∃ (s : State) (n : Fin 8), s.dev.on DEC_STATUS_HUNTING n = true ∧ s.dev.v .cwPend n = 0 ∧ s.dev.mode n ≠ some .l200 ∧ s.dev.huntReady n = true ∧ s.dev.v .huntConf n ≠ 0 ∧ max 1 (min 128 (s.dev.get DEC_LOCK_LOCK_MIN n)) ≤ s.dev.huntCount n (s.dev.v .huntCand n).toNat)
    ∧ (∃ (s : State) (n : Fin 8), s.dev.on DEC_STATUS_HUNTING n = true ∧ s.dev.v .cwPend n = 0 ∧ s.dev.mode n = some .l200)
    ∧ (∃ (s : State) (n : Fin 8) (verdict : Bool), ((s.dev.on DEC_STATUS_HUNTING n = false ∨ s.dev.v .cwPend n ≠ 0 ∨ s.dev.mode n = some .l200 ∧ verdict = false ∨ s.dev.mode n ≠ some .l200 ∧ s.dev.huntReady n = false)))
    ∧ (∃ (s : State) (n : Fin 8), s.dev.on DEC_STATUS_CW_LOCK n = true ∧ s.dev.lossHeld n = false ∧ s.dev.mode n ≠ some .l200 ∧ 128 ≤ s.dev.v .lockArr n)
    ∧ (∃ (s : State) (n : Fin 8), s.dev.on DEC_STATUS_CW_LOCK n = true ∧ s.dev.lossHeld n = false ∧ s.dev.mode n = some .l200)
    ∧ (∃ (s : State) (n : Fin 8) (verdict : Bool), ((s.dev.on DEC_STATUS_CW_LOCK n = false ∨ s.dev.lossHeld n = true ∨ s.dev.mode n = some .l200 ∧ verdict = false ∨ s.dev.mode n ≠ some .l200 ∧ s.dev.v .lockArr n < 128)))
    ∧ (∃ (s : State) (n : Fin 8), ((s.dev.mode n = some .l400e ∨ s.dev.mode n = some .l400s)) ∧ s.dev.v .cwPend n ≠ 2)
    ∧ (∃ (s : State) (n : Fin 8), ((s.dev.mode n ≠ some .l400e ∧ s.dev.mode n ≠ some .l400s ∨ s.dev.v .cwPend n = 2)))
    ∧ (∃ (s : State) (n : Fin 8), s.dev.flag .rxGrid n = true)
    ∧ (∃ (s : State) (n : Fin 8), s.dev.flag .rxGrid n = false)
    ∧ (∃ (s : State) (n : Fin 8) (v : BitVec 3) (sl : Nat) (x : Nat), x = min (max 2 (min 6 v.toNat)) (s.dev.get DEC_STATUS_SEED_D n) ∧ s.dev.hasCode n = true ∧ s.dev.slotOfLine n = some sl)
    ∧ (∃ (s : State) (n : Fin 8), s.dev.hasCode n = false)
    ∧ (∃ (s : State) (n : Fin 8) (v : BitVec 3) (x : Nat), x = min (min 4 v.toNat) (s.dev.get DEC_STATUS_SEED_MAXP n) ∧ s.dev.hasCode n = true)
    ∧ (∃ (s : State) (n : Fin 8), s.dev.hasCode n = false) :=
   ⟨⟨(fun (n : Fin 8) => ((stOf rich [(DEC_STATUS_HUNTING, n, 1), (DEC_LOCK_LOCK_MIN, n, 1)] [(.cwPend, n, 0), (.huntConf, n, 0), (.huntSym, n, 0), (.huntPos, n, 0)])).withDev deep1) (0), 0, 0, _, rfl, by decide +kernel⟩,
    ⟨(fun (n : Fin 8) => ((stOf rich [(DEC_STATUS_HUNTING, n, 1), (DEC_LOCK_LOCK_MIN, n, 100)] [(.cwPend, n, 0), (.huntPos, n, 0), (.huntSym, n, 0), (.huntPos, n, 136), (.huntConf, n, 1)])).withDev deep1) (0), 0, _, rfl, by decide +kernel⟩,
    ⟨(fun (n : Fin 8) => ((stOf rich [(DEC_STATUS_HUNTING, n, 1), (DEC_LOCK_LOCK_MIN, n, 1)] [(.cwPend, n, 0), (.huntSym, n, 0), (.huntCand, n, 0), (.huntConf, n, 1)])).withDev deep1) (0), 0, by decide +kernel⟩,
    ⟨(fun (n : Fin 8) => ((stOf rich [(DEC_STATUS_HUNTING, n, 1)] [(.cwPend, n, 0)])).withDev allL200) (0), 0, by decide +kernel⟩,
    ⟨stOf Dev.reset [] [], 7, true, by decide +kernel⟩,
    ⟨(fun (n : Fin 8) => stOf rich [(DEC_STATUS_CW_LOCK, n, 1), (LL_CDR_STATUS_HOLDING, n, 0), (LL_ADC_STATUS_FG_BUSY, n, 0)] [(.lockArr, n, 128)]) (0), 0, by decide +kernel⟩,
    ⟨(fun (n : Fin 8) => ((stOf rich [(DEC_STATUS_CW_LOCK, n, 1), (LL_CDR_STATUS_HOLDING, n, 0), (LL_ADC_STATUS_FG_BUSY, n, 0)] [])).withDev allL200) (0), 0, by decide +kernel⟩,
    ⟨stOf Dev.reset [] [], 7, true, by decide +kernel⟩,
    ⟨(fun (n : Fin 8) => stOf rich [] [(.cwPend, n, 0)]) (0), 0, by decide +kernel⟩,
    ⟨((stOf rich [] [])).withDev allL200, 0, by decide +kernel⟩,
    ⟨(fun (n : Fin 8) => stOf rich [] [(.rxGrid, n, 1)]) (0), 0, by decide +kernel⟩,
    ⟨(fun (n : Fin 8) => stOf Dev.reset [] [(.rxGrid, n, 0)]) (7), 7, by decide +kernel⟩,
    ⟨stOf rich [] [], 0, 7#3, 0, _, rfl, by decide +kernel⟩,
    ⟨stOf rich [] [], 3, by decide +kernel⟩,
    ⟨stOf rich [] [], 0, 7#3, _, rfl, by decide +kernel⟩,
    ⟨stOf rich [] [], 3, by decide +kernel⟩⟩

/-- The hypotheses of `Obligations.HostReceiver`, clause by clause. -/
theorem witness_HostReceiver :
    (∃ (s : State) (m : Fin 16), s.dev.get HL_RX_TAP_SEL_INDEX m < 16)
    ∧ (∃ (s : State) (m : Fin 16), s.dev.get HL_RX_TAP_SEL_INDEX m = 16)
    ∧ (∃ (s : State) (m : Fin 16), 16 < s.dev.get HL_RX_TAP_SEL_INDEX m)
    ∧ (∃ (s : State) (m : Fin 16), s.dev.on HL_STATUS_ENABLED m = true)
    ∧ (∃ (s : State) (m : Fin 16), s.dev.on HL_STATUS_ENABLED m = true)
    ∧ (∃ (s : State) (m : Fin 16), s.dev.on HL_STATUS_ENABLED m = false)
    ∧ (∃ (s : State) (m : Fin 16) (est : Int) (e : Int) (x : Int) (fr : Bool), e = (if s.dev.on HL_STATUS_SIG_DET m then max (-300000) (min 300000 est) else s.dev.v .hlEst m) ∧ x = absI (e - s.dev.v .hlEst m) ∧ fr = freqRange (s.dev.on HL_STATUS_FREQ_RANGE m) e ∧ s.dev.on HL_STATUS_ENABLED m = true)
    ∧ (∃ (s : State) (m : Fin 16), s.dev.on HL_STATUS_ENABLED m = false) :=
   ⟨⟨stOf Dev.reset [] [], 15, by decide +kernel⟩,
    ⟨(fun (m : Fin 16) => stOf Dev.reset [(HL_RX_TAP_SEL_INDEX, m, 16)] []) (15), 15, by decide +kernel⟩,
    ⟨(fun (m : Fin 16) => stOf Dev.reset [(HL_RX_TAP_SEL_INDEX, m, 20)] []) (15), 15, by decide +kernel⟩,
    ⟨(fun (m : Fin 16) => stOf Dev.reset [(HL_STATUS_ENABLED, m, 1)] []) (15), 15, by decide +kernel⟩,
    ⟨(fun (m : Fin 16) => stOf Dev.reset [(HL_STATUS_ENABLED, m, 1)] []) (15), 15, by decide +kernel⟩,
    ⟨(fun (m : Fin 16) => stOf Dev.reset [(HL_STATUS_ENABLED, m, 0)] []) (15), 15, by decide +kernel⟩,
    ⟨(fun (m : Fin 16) => stOf Dev.reset [(HL_STATUS_ENABLED, m, 1)] []) (15), 15, 7, _, _, _, rfl, rfl, rfl, by decide +kernel⟩,
    ⟨(fun (m : Fin 16) => stOf Dev.reset [(HL_STATUS_ENABLED, m, 0)] []) (15), 15, by decide +kernel⟩⟩

/-- The hypotheses of `Obligations.HostTransmitter`, clause by clause. -/
theorem witness_HostTransmitter :
    (∃ (s : State) (m : Fin 16), s.dev.training m = false)
    ∧ (∃ (s : State) (m : Fin 16), s.dev.training m = true)
    ∧ (∃ (s : State) (m : Fin 16), s.dev.training m = false)
    ∧ (∃ (s : State) (m : Fin 16), s.dev.training m = true)
    ∧ (∃ (s : State) (m : Fin 16) (x : Fin 4) (c : Nat) (y : Nat), c = s.dev.get HL_PAT_CHK m ∧ y = (hlDecode (s.dev.on HL_CTRL_POL_RX m) (s.dev.on HL_CTRL_RX_PRECODE m) (s.dev.v .hlPreRx m).toNat [x.val]).1.headD 0 ∧ 1 ≤ c ∧ c ≤ 2 ∧ s.dev.on HL_PAT_CHK_LOCK m = false)
    ∧ (∃ (s : State) (m : Fin 16) (x : Fin 4) (y : Nat), y = (hlDecode (s.dev.on HL_CTRL_POL_RX m) (s.dev.on HL_CTRL_RX_PRECODE m) (s.dev.v .hlPreRx m).toNat [x.val]).1.headD 0 ∧ s.dev.get HL_PAT_CHK m = 3 ∧ s.dev.on HL_PAT_CHK_LOCK m = false)
    ∧ (∃ (s : State) (m : Fin 16) (x : Fin 4) (y : Nat) (z : Nat), y = (hlDecode (s.dev.on HL_CTRL_POL_RX m) (s.dev.on HL_CTRL_RX_PRECODE m) (s.dev.v .hlPreRx m).toNat [x.val]).1.headD 0 ∧ z = (if s.dev.get HL_PAT_CHK m = 3 then s.dev.userSym m (s.dev.v .hlChkReg m).toNat else (prbsSym (s.dev.get HL_PAT_CHK m == 2) (s.dev.v .hlChkReg m).toNat).1) ∧ s.dev.chkOn m = true ∧ s.dev.on HL_PAT_CHK_LOCK m = true)
    ∧ (∃ (s : State) (m : Fin 16), s.dev.chkOn m = true)
    ∧ (∃ (s : State) (m : Fin 16), s.dev.chkOn m = false)
    ∧ (∃ (s : State) (m : Fin 16), s.dev.flag .hlExit m = true)
    ∧ (∃ (s : State) (m : Fin 16), s.dev.flag .hlExit m = false) :=
   ⟨⟨(fun (m : Fin 16) => stOf Dev.reset [(HL_TRAIN_STATUS_STATE, m, 0), (HL_TX_COEF0_CM3, m, 0), (HL_TX_COEF0_CM2, m, 0), (HL_TX_COEF0_CM1, m, 2 ^ HL_TX_COEF0_CM1.w - 4), (HL_TX_COEF0_CP1, m, 2 ^ HL_TX_COEF0_CP1.w - 2), (HL_TX_COEF1_CP2, m, 0)] []) (15), 15, by decide +kernel⟩,
    ⟨(fun (m : Fin 16) => stOf Dev.reset [(HL_TRAIN_STATUS_STATE, m, 3)] []) (15), 15, by decide +kernel⟩,
    ⟨stOf Dev.reset [] [], 15, by decide +kernel⟩,
    ⟨(fun (m : Fin 16) => stOf Dev.reset [(HL_TRAIN_STATUS_STATE, m, 3)] []) (15), 15, by decide +kernel⟩,
    ⟨(fun (m : Fin 16) => stOf Dev.reset [(HL_PAT_CHK_LOCK, m, 0), (HL_PAT_CHK, m, 2)] []) (15), 15, 2, _, _, rfl, rfl, by decide +kernel⟩,
    ⟨(fun (m : Fin 16) => stOf Dev.reset [(HL_PAT_CHK, m, 3), (HL_PAT_CHK_LOCK, m, 0), (HL_PAT_CHK, m, 3)] []) (15), 15, 2, _, rfl, by decide +kernel⟩,
    ⟨(fun (m : Fin 16) => stOf Dev.reset [(HL_PAT_CHK_LOCK, m, 1), (HL_PAT_CHK, m, 1)] []) (15), 15, 2, _, _, rfl, rfl, by decide +kernel⟩,
    ⟨(fun (m : Fin 16) => stOf Dev.reset [(HL_PAT_CHK, m, 1)] []) (15), 15, by decide +kernel⟩,
    ⟨(fun (m : Fin 16) => stOf Dev.reset [(HL_PAT_CHK, m, 0)] []) (15), 15, by decide +kernel⟩,
    ⟨(fun (m : Fin 16) => stOf Dev.reset [] [(.hlExit, m, 1)]) (15), 15, by decide +kernel⟩,
    ⟨(fun (m : Fin 16) => stOf Dev.reset [] [(.hlExit, m, 0)]) (15), 15, by decide +kernel⟩⟩

/-- The hypotheses of `Obligations.HostTraining`, clause by clause. -/
theorem witness_HostTraining :
    (∃ (s : State) (m : Fin 16), s.dev.trainHeld m = false)
    ∧ (∃ (s : State) (m : Fin 16), s.dev.trainHeld m = true)
    ∧ (∃ (s : State) (m : Fin 16), s.dev.get HL_TRAIN_STATUS_STATE m = 2)
    ∧ (∃ (s : State) (m : Fin 16), s.dev.get HL_TRAIN_STATUS_STATE m = 6 ∧ s.dev.trainHeld m = false)
    ∧ (∃ (s : State) (m : Fin 16), s.dev.get HL_TRAIN_STATUS_STATE m = 6 ∧ s.dev.trainHeld m = true)
    ∧ (∃ (s : State) (m : Fin 16) (locked : Bool), s.dev.get HL_TRAIN_STATUS_STATE m ≠ (if locked then 2 else 6))
    ∧ (∃ (s : State) (m : Fin 16), ((s.dev.get HL_TRAIN_STATUS_STATE m < 3 ∨ 5 < s.dev.get HL_TRAIN_STATUS_STATE m)))
    ∧ (∃ (s : State) (m : Fin 16), 3 ≤ s.dev.get HL_TRAIN_STATUS_STATE m ∧ s.dev.get HL_TRAIN_STATUS_STATE m ≤ 5)
    ∧ (∃ (s : State) (m : Fin 16), 3 ≤ s.dev.get HL_TRAIN_STATUS_STATE m ∧ s.dev.get HL_TRAIN_STATUS_STATE m ≤ 5)
    ∧ (∃ (s : State) (m : Fin 16) (x : TapName) (up : Bool) (i : Nat) (c : List Int), c = (s.dev.hlApplied m).set i (s.dev.v .hlCoef (5 * m + i) + (if up then 1 else -1)) ∧ 3 ≤ s.dev.get HL_TRAIN_STATUS_STATE m ∧ s.dev.get HL_TRAIN_STATUS_STATE m ≤ 5 ∧ tapIx x = some i)
    ∧ (∃ (s : State) (m : Fin 16), 3 ≤ s.dev.get HL_TRAIN_STATUS_STATE m ∧ s.dev.get HL_TRAIN_STATUS_STATE m ≤ 5)
    ∧ (∃ (s : State) (m : Fin 16) (resp : TrainResp), s.dev.get HL_TRAIN_STATUS_STATE m = 3 ∧ s.dev.v .hlPhase m = 1 ∧ resp ≠ .notSupported)
    ∧ (∃ (s : State) (m : Fin 16), s.dev.get HL_TRAIN_STATUS_STATE m = 3 ∧ s.dev.v .hlPhase m = 1)
    ∧ (∃ (s : State) (m : Fin 16) (resp : TrainResp), s.dev.get HL_TRAIN_STATUS_STATE m = 3 ∧ ((s.dev.v .hlPhase m = 8 ∨ s.dev.v .hlPhase m = 5 ∨ s.dev.v .hlPhase m = 3 ∧ resp = .updated)))
    ∧ (∃ (s : State) (m : Fin 16) (resp : TrainResp), s.dev.get HL_TRAIN_STATUS_STATE m = 3 ∧ s.dev.v .hlPhase m = 3 ∧ resp ≠ .updated ∧ 0 ≤ s.dev.v .hlTap m)
    ∧ (∃ (s : State) (m : Fin 16), ((s.dev.get HL_TRAIN_STATUS_STATE m ≠ 3 ∨ (∀ p ∈ [(1 : Int), 8, 3, 5], s.dev.v .hlPhase m ≠ p))))
    ∧ (∃ (s : State) (m : Fin 16), s.dev.get HL_TRAIN_STATUS_STATE m = 3 ∧ s.dev.v .hlPhase m = 2)
    ∧ (∃ (s : State) (m : Fin 16) (mse : Nat), s.dev.get HL_TRAIN_STATUS_STATE m = 3 ∧ s.dev.v .hlPhase m = 4 ∧ 0 ≤ s.dev.v .hlTap m ∧ s.dev.v .hlBest m + 5 * s.dev.get HL_TRAIN_CFG_THRESH m < (hostSnr mse : Int))
    ∧ (∃ (s : State) (m : Fin 16) (mse : Nat), s.dev.get HL_TRAIN_STATUS_STATE m = 3 ∧ s.dev.v .hlPhase m = 4 ∧ (hostSnr mse : Int) ≤ s.dev.v .hlBest m + 5 * s.dev.get HL_TRAIN_CFG_THRESH m)
    ∧ (∃ (s : State) (m : Fin 16), s.dev.get HL_TRAIN_STATUS_STATE m = 3 ∧ s.dev.v .hlPhase m = 6 ∧ 0 ≤ s.dev.v .hlTap m)
    ∧ (∃ (s : State) (m : Fin 16), s.dev.get HL_TRAIN_STATUS_STATE m = 3 ∧ ((∀ p ∈ [(2 : Int), 4, 6], s.dev.v .hlPhase m ≠ p)))
    ∧ (∃ (s : State) (m : Fin 16), s.dev.get HL_TRAIN_STATUS_STATE m ≠ 3)
    ∧ (∃ (s : State) (m : Fin 16), ((s.dev.get HL_TRAIN_STATUS_STATE m = 3 ∨ s.dev.get HL_TRAIN_STATUS_STATE m = 4)))
    ∧ (∃ (s : State) (m : Fin 16), s.dev.get HL_TRAIN_STATUS_STATE m ≠ 3 ∧ s.dev.get HL_TRAIN_STATUS_STATE m ≠ 4)
    ∧ (∃ (s : State) (m : Fin 16), s.dev.get HL_TRAIN_STATUS_STATE m = 5)
    ∧ (∃ (s : State) (m : Fin 16), s.dev.get HL_TRAIN_STATUS_STATE m ≠ 5)
    ∧ (∃ (s : State) (m : Fin 16), s.dev.get HL_TRAIN_TMO_MS m ≠ 0 ∧ 2 ≤ s.dev.get HL_TRAIN_STATUS_STATE m ∧ s.dev.get HL_TRAIN_STATUS_STATE m ≤ 4)
    ∧ (∃ (s : State) (m : Fin 16), ((s.dev.get HL_TRAIN_TMO_MS m = 0 ∨ s.dev.get HL_TRAIN_STATUS_STATE m < 2 ∨ 4 < s.dev.get HL_TRAIN_STATUS_STATE m)))
    ∧ (∃ (s : State) (m : Fin 16), s.dev.flag .hlHoldoff m = true ∧ s.dev.get HL_TRAIN_STATUS_STATE m = 7)
    ∧ (∃ (s : State) (m : Fin 16), ((s.dev.flag .hlHoldoff m = false ∨ s.dev.get HL_TRAIN_STATUS_STATE m ≠ 7))) :=
   ⟨⟨(fun (m : Fin 16) => stOf Dev.reset [(HL_CTRL_PROFILE, m, 0), (HL_CTRL_TRAIN_EN, m, 1), (HL_PAT_GEN, m, 0)] []) (15), 15, by decide +kernel⟩,
    ⟨(fun (m : Fin 16) => stOf Dev.reset [(HL_PAT_GEN, m, 1)] []) (3), 3, by decide +kernel⟩,
    ⟨(fun (m : Fin 16) => stOf Dev.reset [(HL_TRAIN_STATUS_STATE, m, 2)] []) (15), 15, by decide +kernel⟩,
    ⟨(fun (m : Fin 16) => stOf Dev.reset [(HL_TRAIN_STATUS_STATE, m, 6)] []) (15), 15, by decide +kernel⟩,
    ⟨(fun (m : Fin 16) => stOf Dev.reset [(HL_TRAIN_STATUS_STATE, m, 6), (HL_CTRL_PROFILE, m, 1)] []) (15), 15, by decide +kernel⟩,
    ⟨stOf Dev.reset [] [], 15, true, by decide +kernel⟩,
    ⟨(fun (m : Fin 16) => stOf Dev.reset [(HL_TRAIN_STATUS_STATE, m, 2)] []) (15), 15, by decide +kernel⟩,
    ⟨(fun (m : Fin 16) => stOf Dev.reset [(HL_TRAIN_STATUS_STATE, m, 3)] []) (15), 15, by decide +kernel⟩,
    ⟨(fun (m : Fin 16) => stOf Dev.reset [(HL_TRAIN_STATUS_STATE, m, 3), (HL_TRAIN_STATUS_STATE, m, 3)] []) (15), 15, by decide +kernel⟩,
    ⟨(fun (m : Fin 16) => stOf Dev.reset [(HL_TRAIN_STATUS_STATE, m, 3), (HL_TRAIN_STATUS_STATE, m, 3)] []) (15), 15, .c1, true, 3, _, rfl, by decide +kernel⟩,
    ⟨(fun (m : Fin 16) => stOf Dev.reset [(HL_TRAIN_STATUS_STATE, m, 3)] []) (15), 15, by decide +kernel⟩,
    ⟨(fun (m : Fin 16) => stOf Dev.reset [(HL_TRAIN_STATUS_STATE, m, 3)] [(.hlPhase, m, 1)]) (15), 15, .updated, by decide +kernel⟩,
    ⟨(fun (m : Fin 16) => stOf Dev.reset [(HL_TRAIN_STATUS_STATE, m, 3)] [(.hlPhase, m, 1)]) (15), 15, by decide +kernel⟩,
    ⟨(fun (m : Fin 16) => stOf Dev.reset [(HL_TRAIN_STATUS_STATE, m, 3)] [(.hlPhase, m, 5)]) (15), 15, .atMax, by decide +kernel⟩,
    ⟨(fun (m : Fin 16) => stOf Dev.reset [(HL_TRAIN_STATUS_STATE, m, 3)] [(.hlPhase, m, 3), (.hlTap, m, 0), (.hlTap, m, 1)]) (15), 15, .atMax, by decide +kernel⟩,
    ⟨(fun (m : Fin 16) => stOf Dev.reset [(HL_TRAIN_STATUS_STATE, m, 2)] []) (15), 15, by decide +kernel⟩,
    ⟨(fun (m : Fin 16) => stOf Dev.reset [(HL_TRAIN_STATUS_STATE, m, 3)] [(.hlPhase, m, 2)]) (15), 15, by decide +kernel⟩,
    ⟨(fun (m : Fin 16) => stOf Dev.reset [(HL_TRAIN_STATUS_STATE, m, 3), (HL_TRAIN_CFG_THRESH, m, 1)] [(.hlPhase, m, 4), (.hlTap, m, 0), (.hlTap, m, 3), (.hlBest, m, 0)]) (15), 15, 2 ^ 38, by decide +kernel⟩,
    ⟨(fun (m : Fin 16) => stOf Dev.reset [(HL_TRAIN_STATUS_STATE, m, 3)] [(.hlPhase, m, 4), (.hlBest, m, 5000)]) (15), 15, 5 * 2 ^ 38, by decide +kernel⟩,
    ⟨(fun (m : Fin 16) => stOf Dev.reset [(HL_TRAIN_STATUS_STATE, m, 3)] [(.hlPhase, m, 6), (.hlTap, m, 0), (.hlTap, m, 1)]) (15), 15, by decide +kernel⟩,
    ⟨(fun (m : Fin 16) => stOf Dev.reset [(HL_TRAIN_STATUS_STATE, m, 3)] [(.hlPhase, m, 7)]) (15), 15, by decide +kernel⟩,
    ⟨stOf Dev.reset [] [], 15, by decide +kernel⟩,
    ⟨(fun (m : Fin 16) => stOf Dev.reset [(HL_TRAIN_STATUS_STATE, m, 3)] []) (3), 3, by decide +kernel⟩,
    ⟨stOf Dev.reset [] [], 15, by decide +kernel⟩,
    ⟨(fun (m : Fin 16) => stOf Dev.reset [(HL_TRAIN_STATUS_STATE, m, 5)] []) (15), 15, by decide +kernel⟩,
    ⟨stOf Dev.reset [] [], 15, by decide +kernel⟩,
    ⟨(fun (m : Fin 16) => stOf Dev.reset [(HL_TRAIN_STATUS_STATE, m, 2)] []) (15), 15, by decide +kernel⟩,
    ⟨stOf Dev.reset [] [], 15, by decide +kernel⟩,
    ⟨(fun (m : Fin 16) => stOf Dev.reset [(HL_TRAIN_STATUS_STATE, m, 7)] [(.hlHoldoff, m, 1)]) (15), 15, by decide +kernel⟩,
    ⟨stOf Dev.reset [] [], 15, by decide +kernel⟩⟩

/-- The hypotheses of `Obligations.MarkersAndOuterCode`, clause by clause. -/
theorem witness_MarkersAndOuterCode :
    (∃ (s : State) (m : Fin 16) (sl : Nat), s.dev.slotOfHost m = some sl ∧ (s.dev.portAt sl).isSome = true)
    ∧ (∃ (s : State) (m : Fin 16) (sl : Nat), s.dev.slotOfHost m = some sl ∧ (s.dev.portAt sl).isSome = true)
    ∧ (∃ (s : State) (m : Fin 16), s.dev.slotOfHost m = none)
    ∧ (∃ (s : State) (sl : Fin 8) (p : PortDesc), s.dev.portAt sl = some p ∧ (p.term || s.dev.on PCS_CTRL_MON_EN sl) = true)
    ∧ (∃ (s : State) (sl : Fin 8) (p : PortDesc), s.dev.portAt sl = some p ∧ (p.term || s.dev.on PCS_CTRL_MON_EN sl) = true)
    ∧ (∃ (s : State) (sl : Fin 8), ((s.dev.portAt sl = none ∨ s.dev.term sl = false ∧ s.dev.on PCS_CTRL_MON_EN sl = false))) :=
   ⟨⟨stOf rich [] [], 1, 0, by decide +kernel⟩,
    ⟨stOf rich [] [], 1, 0, by decide +kernel⟩,
    ⟨stOf rich [] [], 15, by decide +kernel⟩,
    ⟨stOf rich [] [], 0, ⟨0, .g800, .l400s, 0, 4, 0, 2, true, false⟩, by decide +kernel⟩,
    ⟨stOf rich [] [], 0, ⟨0, .g800, .l400s, 0, 4, 0, 2, true, false⟩, by decide +kernel⟩,
    ⟨(fun (sl : Fin 8) => stOf rich [(PCS_CTRL_MON_EN, sl, 0)] []) (2), 2, by decide +kernel⟩⟩

/-- The hypotheses of `Obligations.PlayOut`, clause by clause. -/
theorem witness_PlayOut :
    (∃ (s : State) (n : Fin 8) (sl : Nat) (p : PortDesc) (c : Codeword) (id : Nat) (del : Nat) (shrink : Nat) (others : List (Nat × Nat)) (x : Nat) (k : Nat), x = (if p.term && portEarly p then s.dev.get GBX_LL_OFS_NOW sl - s.dev.ofsEff sl else 0) ∧ k = (if x = 0 then 0 else if shrink = 0 then del else min del (x * del / shrink)) ∧ s.dev.slotOfLine n = some sl ∧ s.dev.portAt sl = some p ∧ s.dev.playable n id p.term others = true ∧ s.dev.cws.find? (fun y => y.lane == n.val && y.id == id) = some c ∧ s.dev.get GBX_LL_OFS_NOW sl < 2 ^ GBX_LL_OFS_NOW.w)
    ∧ (∃ (s : State) (n : Fin 8) (sl : Nat) (p : PortDesc) (id : Nat) (ins : Nat) (grow : Nat) (others : List (Nat × Nat)) (k : Nat), k = (if grow = 0 then ins else min ins ((s.dev.ofsMax sl - s.dev.get GBX_LL_OFS_NOW sl) * ins / grow)) ∧ s.dev.slotOfLine n = some sl ∧ s.dev.portAt sl = some p ∧ s.dev.playable n id p.term others = false ∧ portEarly p = true ∧ p.term = true ∧ k ≠ 0 ∧ s.dev.get GBX_LL_OFS_NOW sl + k * grow / ins < 2 ^ GBX_LL_OFS_NOW.w)
    ∧ (∃ (s : State) (n : Fin 8) (sl : Nat) (p : PortDesc) (id : Nat) (others : List (Nat × Nat)), s.dev.slotOfLine n = some sl ∧ s.dev.portAt sl = some p ∧ s.dev.playable n id p.term others = false ∧ portEarly p = true ∧ p.term = false ∧ s.dev.get GBX_LL_OFS_NOW sl < s.dev.ofsMax sl ∧ s.dev.ofsMax sl < 2 ^ GBX_LL_OFS_NOW.w)
    ∧ (∃ (s : State) (n : Fin 8) (sl : Nat) (p : PortDesc) (id : Nat) (ins : Nat) (grow : Nat) (others : List (Nat × Nat)), s.dev.slotOfLine n = some sl ∧ s.dev.portAt sl = some p ∧ s.dev.playable n id p.term others = false ∧ ((portEarly p = false ∨ p.term = false ∧ s.dev.ofsMax sl ≤ s.dev.get GBX_LL_OFS_NOW sl ∨ p.term = true ∧ (if grow = 0 then ins else min ins ((s.dev.ofsMax sl - s.dev.get GBX_LL_OFS_NOW sl) * ins / grow)) = 0)))
    ∧ (∃ (s : State) (n : Fin 8), s.dev.slotOfLine n = none)
    ∧ (∃ (s : State) (sl : Fin 8) (p : PortDesc), s.dev.portAt sl = some p ∧ portEarly p = true ∧ p.term = false ∧ s.dev.on BN_PORT_STATUS_RX_UP sl = true ∧ s.dev.get GBX_LL_OFS_NOW sl ≠ s.dev.ofsEff sl ∧ s.dev.ofsEff sl < 2 ^ GBX_LL_OFS_NOW.w)
    ∧ (∃ (s : State) (sl : Fin 8), ((∀ p, s.dev.portAt sl = some p → portEarly p = false ∨ p.term = true ∨ s.dev.on BN_PORT_STATUS_RX_UP sl = false ∨ s.dev.get GBX_LL_OFS_NOW sl = s.dev.ofsEff sl)))
    ∧ (∃ (s : State) (sl : Fin 8) (d : Dev), d = s.dev.each (s.dev.linesOf sl) (fun n e => e.sv .stepLeft n 0) ∧ d.fillCause .rx sl = false ∧ ((s.dev.term sl = true → s.dev.on GBX_PSTATUS_RX_DESKEWED sl = true)))
    ∧ (∃ (s : State) (sl : Fin 8), s.dev.fillCause .tx sl = false ∧ ((s.dev.term sl = true → s.dev.on GBX_PSTATUS_TX_DESKEWED sl = true)))
    ∧ (∃ (s : State) (sl : Fin 8) (dir : Dir) (d : Dev), d = (match dir with | .rx => s.dev.each (s.dev.linesOf sl) (fun n e => e.sv .stepLeft n 0) | .tx => s.dev) ∧ d.fillCause dir sl = true ∧ (s.dev.portAt sl).isSome = true ∧ s.dev.flag .portStart sl = true)
    ∧ (∃ (s : State) (sl : Fin 8) (dir : Dir) (d : Dev), d = (match dir with | .rx => s.dev.each (s.dev.linesOf sl) (fun n e => e.sv .stepLeft n 0) | .tx => s.dev) ∧ ((d.fillCause dir sl = false ∧ s.dev.term sl = true ∧ s.dev.on (match dir with | .rx => GBX_PSTATUS_RX_DESKEWED | .tx => GBX_PSTATUS_TX_DESKEWED) sl = false ∨ d.fillCause dir sl = true ∧ ((s.dev.portAt sl).isSome = false ∨ s.dev.flag .portStart sl = false)))) :=
   ⟨⟨(fun (sl : Nat) => ((stOf ((fun (d : Dev) => { d with bunch0 := { richB0 with ports := [⟨0, .g800, .l400s, 0, 4, 0, 2, true, true⟩] } }) rich) [(GBX_LL_OFS_NOW, sl, 100), (DEC_STATUS_D_NOW, 0, 2), (DEC_STATUS_D_NOW, 2, 2), (GBX_LL_OFS, sl, 90)] [])).withCws [{ cw0 0 with fin := true, rel := some 1, word := [true] }]) (0), 0, 0, ⟨0, .g800, .l400s, 0, 4, 0, 2, true, true⟩, { cw0 0 with fin := true, rel := some 1, word := [true] }, 1, 3, 2, [], _, _, rfl, rfl, by decide +kernel⟩,
    ⟨(fun (sl : Nat) => stOf ((fun (d : Dev) => { d with bunch0 := { richB0 with ports := [⟨0, .g800, .l400s, 0, 4, 0, 2, true, true⟩] } }) rich) [(GBX_LL_OFS_NOW, sl, 10), (DEC_STATUS_D_NOW, 0, 2), (DEC_STATUS_D_NOW, 2, 2)] []) (0), 0, 0, ⟨0, .g800, .l400s, 0, 4, 0, 2, true, true⟩, 5, 3, 4, [], _, rfl, by decide +kernel⟩,
    ⟨(fun (sl : Nat) => stOf rich [(GBX_LL_OFS_NOW, sl, 10), (DEC_STATUS_D_NOW, 2, 2)] []) (2), 2, 2, ⟨1, .g400, .l400e, 4, 2, 2, 1, false, true⟩, 5, [], by decide +kernel⟩,
    ⟨stOf rich [] [], 0, 0, ⟨0, .g800, .l400s, 0, 4, 0, 2, true, false⟩, 5, 5, 5, [], by decide +kernel⟩,
    ⟨stOf rich [] [], 3, by decide +kernel⟩,
    ⟨(fun (sl : Fin 8) => stOf rich [(BN_PORT_STATUS_RX_UP, sl, 1), (GBX_LL_OFS_NOW, sl, 100), (DEC_STATUS_D_NOW, 2, 2), (GBX_LL_OFS, sl, 90)] []) (2), 2, ⟨1, .g400, .l400e, 4, 2, 2, 1, false, true⟩, by decide +kernel⟩,
    ⟨stOf rich [] [], 7, by decide +kernel⟩,
    ⟨(fun (sl : Fin 8) => ((stOf rich [(GBX_PSTATUS_RX_AM_LOCK, sl, 15)] [])).withDev (fun d => ((d.each (List.range 16) (fun m e => (e.sv .amDelay (2 * m) 0).sv .amDelay (2 * m + 1) 0)).sv .decUnl 2 0).sv .loopNow 2 0)) (2), 2, _, rfl, by decide +kernel⟩,
    ⟨(fun (sl : Fin 8) => stOf rich [(GBX_PSTATUS_TX_DESKEWED, sl, 1)] [(.loopNow, sl, 3)]) (0), 0, by decide +kernel⟩,
    ⟨(fun (sl : Fin 8) => stOf rich [(GBX_PSTATUS_RX_AM_LOCK, sl, 0)] [(.portStart, sl, 1)]) (2), 2, .rx, _, rfl, by decide +kernel⟩,
    ⟨(fun (sl : Fin 8) => stOf rich [(GBX_PSTATUS_RX_AM_LOCK, sl, 0)] [(.portStart, sl, 0)]) (2), 2, .rx, _, rfl, by decide +kernel⟩⟩

/-- The hypotheses of `Obligations.LaneLink`, clause by clause. -/
theorem witness_LaneLink :
    (∃ (s : State) (n : Fin 8) (sl : Nat), s.dev.slotOfLine n = some sl ∧ s.dev.on BN_LINK_CTRL_EN n = false)
    ∧ (∃ (s : State) (n : Fin 8), ((s.dev.slotOfLine n = none ∨ s.dev.on BN_LINK_CTRL_EN n = true)))
    ∧ (∃ (s : State) (n : Fin 8), s.dev.on LL_ADC_STATUS_FG_BUSY n = true)
    ∧ (∃ (s : State) (n : Fin 8), s.dev.on LL_ADC_STATUS_FG_BUSY n = false)
    ∧ (∃ (s : State) (n : Fin 8) (st : Nat) (locked : Bool), locked = (s.dev.on LL_CDR_STATUS_LOCKED n && !(s.dev.on BN_LINK_STATUS_LOS n) && s.dev.get LL_CDR_CTRL_MODE n != 1 && s.dev.get LL_CDR_CTRL_MODE n != 2 && !(s.dev.on LL_CDR_STATUS_FREQ_RANGE n) && !(s.dev.on LL_CDR_STATUS_MISMATCH n)) ∧ s.dev.get BN_LINK_STATUS_STATE n = st ∧ s.dev.upWhen n st = true)
    ∧ (∃ (s : State) (n : Fin 8), s.dev.upWhen n (s.dev.get BN_LINK_STATUS_STATE n) = false)
    ∧ (∃ (s : State) (n : Fin 8) (locked : Bool), locked = (s.dev.on LL_CDR_STATUS_LOCKED n && !(s.dev.on BN_LINK_STATUS_LOS n) && s.dev.get LL_CDR_CTRL_MODE n != 1 && s.dev.get LL_CDR_CTRL_MODE n != 2 && !(s.dev.on LL_CDR_STATUS_FREQ_RANGE n) && !(s.dev.on LL_CDR_STATUS_MISMATCH n)) ∧ s.dev.flag .lkTimer n = true ∧ s.dev.get BN_LINK_STATUS_STATE n = 2)
    ∧ (∃ (s : State) (n : Fin 8), ((s.dev.flag .lkTimer n = false ∨ s.dev.get BN_LINK_STATUS_STATE n ≠ 2)))
    ∧ (∃ (s : State) (n : Fin 8) (st : Nat) (locked : Bool), locked = (s.dev.on LL_CDR_STATUS_LOCKED n && !(s.dev.on BN_LINK_STATUS_LOS n) && s.dev.get LL_CDR_CTRL_MODE n != 1 && s.dev.get LL_CDR_CTRL_MODE n != 2 && !(s.dev.on LL_CDR_STATUS_FREQ_RANGE n) && !(s.dev.on LL_CDR_STATUS_MISMATCH n)) ∧ s.dev.flag .lkTimer n = true ∧ s.dev.get BN_LINK_STATUS_STATE n = st ∧ ((st = 1 ∨ st = 3 ∨ st = 4)) ∧ s.dev.upWhen n st = true)
    ∧ (∃ (s : State) (n : Fin 8) (st : Nat), s.dev.flag .lkTimer n = true ∧ s.dev.get BN_LINK_STATUS_STATE n = st ∧ ((st = 1 ∨ st = 3 ∨ st = 4)) ∧ s.dev.upWhen n st = false ∧ s.dev.on BN_LINK_CTRL_RETRAIN n = false)
    ∧ (∃ (s : State) (n : Fin 8) (st : Nat), s.dev.flag .lkTimer n = true ∧ s.dev.get BN_LINK_STATUS_STATE n = st ∧ ((st = 1 ∨ st = 3 ∨ st = 4)) ∧ s.dev.upWhen n st = false ∧ s.dev.on BN_LINK_CTRL_RETRAIN n = true ∧ max 1 (s.dev.get BN_LINK_CTRL_RETRY_MAX n) ≤ s.dev.get BN_LINK_STATUS_ATTEMPTS n)
    ∧ (∃ (s : State) (n : Fin 8) (st : Nat) (k : Nat), k = s.dev.get BN_LINK_STATUS_ATTEMPTS n + 1 ∧ s.dev.flag .lkTimer n = true ∧ s.dev.get BN_LINK_STATUS_STATE n = st ∧ ((st = 1 ∨ st = 3 ∨ st = 4)) ∧ s.dev.upWhen n st = false ∧ s.dev.on BN_LINK_CTRL_RETRAIN n = true ∧ k ≤ max 1 (s.dev.get BN_LINK_CTRL_RETRY_MAX n))
    ∧ (∃ (s : State) (n : Fin 8), ((s.dev.flag .lkTimer n = false ∨ s.dev.get BN_LINK_STATUS_STATE n ≠ 1 ∧ s.dev.get BN_LINK_STATUS_STATE n ≠ 3 ∧ s.dev.get BN_LINK_STATUS_STATE n ≠ 4))) :=
   ⟨⟨(fun (n : Fin 8) => stOf rich [(BN_LINK_CTRL_EN, n, 0)] []) (0), 0, 0, by decide +kernel⟩,
    ⟨stOf rich [] [], 6, by decide +kernel⟩,
    ⟨(fun (n : Fin 8) => stOf Dev.reset [(LL_ADC_STATUS_FG_BUSY, n, 1)] []) (7), 7, by decide +kernel⟩,
    ⟨(fun (n : Fin 8) => stOf Dev.reset [(LL_ADC_STATUS_FG_BUSY, n, 0)] []) (7), 7, by decide +kernel⟩,
    ⟨(fun (n : Fin 8) => fun (st : Nat) => stOf rich [(BN_LINK_STATUS_STATE, n, st), (BN_LINK_CTRL_EN, n, 1), (LL_ADC_STATUS_READY, n, 1), (LL_ADC_STATUS_FG_BUSY, n, 0), (BN_LINK_STATUS_LOS, n, 0), (BN_LINK_STATUS_STOPPED, n, 0), (LL_EQ_STATUS_CONV, n, 1), (LL_CDR_STATUS_LOCKED, n, 1)] [(.lkHoldoff, n, 0), (.lkTileHold, n, 0)]) (0) (3), 0, 3, _, rfl, by decide +kernel⟩,
    ⟨(fun (n : Fin 8) => stOf Dev.reset [(BN_LINK_STATUS_STATE, n, 3), (LL_EQ_STATUS_CONV, n, 0)] []) (7), 7, by decide +kernel⟩,
    ⟨(fun (n : Fin 8) => stOf rich [(BN_LINK_STATUS_STATE, n, 2), (BN_LINK_CTRL_EN, n, 1), (LL_ADC_STATUS_READY, n, 1), (LL_ADC_STATUS_FG_BUSY, n, 0), (BN_LINK_STATUS_LOS, n, 0), (BN_LINK_STATUS_STOPPED, n, 0)] [(.lkTimer, n, 1), (.lkHoldoff, n, 0), (.lkTileHold, n, 0)]) (0), 0, _, rfl, by decide +kernel⟩,
    ⟨(fun (n : Fin 8) => stOf Dev.reset [(BN_LINK_STATUS_STATE, n, 3)] []) (7), 7, by decide +kernel⟩,
    ⟨(fun (n : Fin 8) => fun (st : Nat) => stOf rich [(BN_LINK_STATUS_STATE, n, st), (BN_LINK_CTRL_EN, n, 1), (LL_ADC_STATUS_READY, n, 1), (LL_ADC_STATUS_FG_BUSY, n, 0), (BN_LINK_STATUS_LOS, n, 0), (BN_LINK_STATUS_STOPPED, n, 0), (LL_EQ_STATUS_CONV, n, 1), (LL_CDR_STATUS_LOCKED, n, 1)] [(.lkTimer, n, 1), (.lkHoldoff, n, 0), (.lkTileHold, n, 0)]) (0) (3), 0, 3, _, rfl, by decide +kernel⟩,
    ⟨(fun (n : Fin 8) => fun (st : Nat) => stOf rich [(BN_LINK_STATUS_STATE, n, st), (BN_LINK_CTRL_RETRAIN, n, 0), (LL_EQ_STATUS_CONV, n, 0)] [(.lkTimer, n, 1)]) (0) (3), 0, 3, by decide +kernel⟩,
    ⟨(fun (n : Fin 8) => fun (st : Nat) => stOf rich [(BN_LINK_STATUS_STATE, n, st), (BN_LINK_CTRL_RETRAIN, n, 1), (BN_LINK_STATUS_ATTEMPTS, n, 15), (BN_LINK_CTRL_RETRY_MAX, n, 3), (LL_CDR_STATUS_LOCKED, n, 0)] [(.lkTimer, n, 1)]) (0) (1), 0, 1, by decide +kernel⟩,
    ⟨(fun (n : Fin 8) => fun (st : Nat) => stOf rich [(BN_LINK_STATUS_STATE, n, st), (BN_LINK_CTRL_RETRAIN, n, 1), (BN_LINK_STATUS_ATTEMPTS, n, 2), (BN_LINK_CTRL_RETRY_MAX, n, 9), (LL_CDR_STATUS_LOCKED, n, 0)] [(.lkTimer, n, 1)]) (0) (1), 0, 1, _, rfl, by decide +kernel⟩,
    ⟨(fun (n : Fin 8) => stOf Dev.reset [(BN_LINK_STATUS_STATE, n, 2)] []) (7), 7, by decide +kernel⟩⟩

/-- The hypotheses of `Obligations.RetrainAndLoopback`, clause by clause. -/
theorem witness_RetrainAndLoopback :
    (∃ (s : State) (n : Fin 8), s.dev.on BN_LINK_CTRL_EN n = true)
    ∧ (∃ (s : State) (n : Fin 8), s.dev.on BN_LINK_CTRL_EN n = false)
    ∧ (∃ (s : State) (n : Fin 8), s.dev.flag .lkStable n = true)
    ∧ (∃ (s : State) (n : Fin 8), s.dev.flag .lkStable n = false)
    ∧ (∃ (s : State) (n : Fin 8) (mean : Nat) (g : Nat) (below : Bool) (above : Bool), g = s.dev.get LL_ADC_STATUS_GAIN_NOW n ∧ below = gainExceeds g (min (s.dev.v .losOffTh n).toNat (s.dev.v .losOnTh n).toNat * 256) mean ∧ above = !(gainExceeds g ((s.dev.v .losOnTh n).toNat * 256) mean) ∧ s.dev.on LL_ADC_STATUS_READY n = true ∧ s.dev.on LL_ADC_STATUS_FG_BUSY n = false)
    ∧ (∃ (s : State) (n : Fin 8), ((s.dev.on LL_ADC_STATUS_READY n = false ∨ s.dev.on LL_ADC_STATUS_FG_BUSY n = true)))
    ∧ (∃ (s : State) (sl : Fin 8), (s.dev.portAt sl).isSome = true)
    ∧ (∃ (s : State) (sl : Fin 8), s.dev.portAt sl = none)
    ∧ (∃ (s : State) (sl : Fin 8) (new : Nat), new = s.dev.get BN_PORT_CTRL_LOOP sl ∧ s.dev.flag .loopPend sl = true)
    ∧ (∃ (s : State) (sl : Fin 8), s.dev.flag .loopPend sl = false) :=
   ⟨⟨(fun (n : Fin 8) => stOf Dev.reset [(BN_LINK_CTRL_EN, n, 1)] []) (7), 7, by decide +kernel⟩,
    ⟨(fun (n : Fin 8) => stOf Dev.reset [(BN_LINK_CTRL_EN, n, 0)] []) (7), 7, by decide +kernel⟩,
    ⟨(fun (n : Fin 8) => stOf Dev.reset [] [(.lkStable, n, 1)]) (7), 7, by decide +kernel⟩,
    ⟨(fun (n : Fin 8) => stOf Dev.reset [] [(.lkStable, n, 0)]) (7), 7, by decide +kernel⟩,
    ⟨(fun (n : Fin 8) => stOf rich [(LL_ADC_STATUS_READY, n, 1), (LL_ADC_STATUS_FG_BUSY, n, 0), (BN_LINK_STATUS_LOS, n, 0)] [(.losOnTh, n, 12), (.losOffTh, n, 6), (.losAs, n, 2), (.losOn, n, 1)]) (0), 0, 3, _, _, _, rfl, rfl, rfl, by decide +kernel⟩,
    ⟨(fun (n : Fin 8) => stOf Dev.reset [(LL_ADC_STATUS_READY, n, 0)] []) (7), 7, by decide +kernel⟩,
    ⟨stOf rich [] [], 0, by decide +kernel⟩,
    ⟨stOf rich [] [], 7, by decide +kernel⟩,
    ⟨(fun (sl : Fin 8) => stOf rich [(BN_PORT_CTRL_LOOP, sl, 2)] [(.loopPend, sl, 1)]) (0), 0, _, rfl, by decide +kernel⟩,
    ⟨(fun (sl : Fin 8) => stOf Dev.reset [] [(.loopPend, sl, 0)]) (7), 7, by decide +kernel⟩⟩

/-- The hypotheses of `Obligations.PartResets`, clause by clause. -/
theorem witness_PartResets :
    (∃ (s : State) (b : Fin 2), s.dev.reseeding b = true)
    ∧ (∃ (s : State) (b : Fin 2), s.dev.reseeding b = false)
    ∧ (∃ (s : State) (b : Fin 2), s.dev.flag .bnHeld b = true ∧ s.dev.reseeding b = false)
    ∧ (∃ (s : State) (b : Fin 2), ((s.dev.flag .bnHeld b = false ∨ s.dev.reseeding b = true))) :=
   ⟨⟨{ (stOf Dev.reset [] []) with dev := ((((stOf Dev.reset [] [])).dev.set SEED_STATUS_PHASE 0 5).set SEED_STATUS_BUSY 0 1).sv .seedCmd 0 3 }, 1, by decide +kernel⟩,
    ⟨stOf Dev.reset [] [], 1, by decide +kernel⟩,
    ⟨(fun (b : Fin 2) => stOf Dev.reset [] [(.bnHeld, b, 1)]) (1), 1, by decide +kernel⟩,
    ⟨stOf Dev.reset [] [], 1, by decide +kernel⟩⟩

/-- The hypotheses of `Obligations.DeviceResets`, clause by clause. -/
theorem witness_DeviceResets :
    (∃ (s : State) (mask : BitVec 4), mask ≠ 0)
    ∧ (∃ (s : State), s.dev.get TOP_DISC_ABORT 0 < 2 ^ TOP_DISC_ABORT.w) :=
   ⟨⟨stOf Dev.reset [] [], 5#4, by decide +kernel⟩,
    ⟨stOf Dev.reset [] [], by decide +kernel⟩⟩

/-- The hypotheses of `Obligations.SidebandChain`, clause by clause. -/
theorem witness_SidebandChain :
    (∃ (s : State) (n : Fin 8) (volts : List Int) (e : SbLane) (codes : List Int), codes = s.dev.adcCodes n volts ∧ s.dev.sbOf n = some e ∧ volts.length = 1024 ∧ e.cicFill = false)
    ∧ (∃ (s : State) (n : Fin 8) (volts : List Int) (e : SbLane) (codes : List Int), codes = s.dev.adcCodes n volts ∧ s.dev.sbOf n = some e ∧ volts.length = 1024 ∧ e.cicFill = true)
    ∧ (∃ (s : State) (n : Fin 8) (volts : List Int), ((s.dev.sbOf n = none ∨ volts.length ≠ 1024)))
    ∧ (∃ (s : State) (n : Fin 8) (e : SbLane) (w : SbIn), s.dev.sbOf n = some e ∧ e.wait = [w] ∧ w.sync = false ∧ w.change = false ∧ s.dev.get SB_STAGES_RANK n = 0 ∧ s.dev.get SB_STAGES_HB n = 0 ∧ s.dev.on SB_STAGES_FIR_EN n = false ∧ s.dev.on SB_STAGES_DC_EN n = false ∧ s.dev.on SB_LSTATUS_APPLY_PEND n = false)
    ∧ (∃ (s : State) (n : Fin 8) (e : SbLane) (w : SbIn), s.dev.sbOf n = some e ∧ e.wait = [w] ∧ w.sync = false ∧ w.change = false ∧ s.dev.get SB_STAGES_RANK n = 0 ∧ s.dev.get SB_STAGES_HB n = 0 ∧ s.dev.on SB_STAGES_FIR_EN n = false ∧ s.dev.on SB_STAGES_DC_EN n = false ∧ s.dev.get SB_FAST_LOG2 n = 0 ∧ e.fastCnt = 0 ∧ e.fastSum = 0)
    ∧ (∃ (s : State) (n : Fin 8) (e : SbLane) (w : SbIn), s.dev.sbOf n = some e ∧ e.wait = [w] ∧ w.sync = false ∧ w.change = false ∧ s.dev.get SB_STAGES_HB n = 0 ∧ s.dev.on SB_LSTATUS_APPLY_PEND n = true)
    ∧ (∃ (s : State) (n : Fin 8) (e : SbLane), s.dev.sbOf n = some e)
    ∧ (∃ (s : State) (n : Fin 8), s.dev.sbOf n = none)
    ∧ (∃ (s : State) (n : Fin 8) (e : SbLane) (sum : Nat) (cnt : Nat), s.dev.sbOf n = some e ∧ e.pwrDone = some (sum, cnt))
    ∧ (∃ (s : State) (n : Fin 8), s.dev.sbOf n = none)
    ∧ (∃ (s : State) (n : Fin 8) (e : SbLane), s.dev.sbOf n = some e ∧ e.pwrDone = none)
    ∧ (∃ (s : State) (n : Fin 8) (e : SbLane) (m : Nat), s.dev.sbOf n = some e ∧ e.nfDone = some m)
    ∧ (∃ (s : State) (n : Fin 8), s.dev.sbOf n = none)
    ∧ (∃ (s : State) (n : Fin 8) (e : SbLane), s.dev.sbOf n = some e ∧ e.nfDone = none) :=
   ⟨⟨{ (stOf Dev.reset [] []) with dev := { ((stOf Dev.reset [] [])).dev with sb := [{ SbLane.start 3 with cicFill := false, sync := false }] } }, 3, (List.replicate 1024 5000000), { SbLane.start 3 with cicFill := false, sync := false }, _, rfl, by decide +kernel⟩,
    ⟨{ (stOf Dev.reset [] []) with dev := { ((stOf Dev.reset [] [])).dev with sb := [(SbLane.start 3)] } }, 3, (List.replicate 1024 5000000), (SbLane.start 3), _, rfl, by decide +kernel⟩,
    ⟨stOf Dev.reset [] [], 7, [3, -4, 127], by decide +kernel⟩,
    ⟨(fun (n : Fin 8) => { (stOf Dev.reset [(SB_STAGES_RANK, n, 0), (SB_STAGES_HB, n, 0), (SB_STAGES_FIR_EN, n, 0), (SB_STAGES_DC_EN, n, 0), (SB_LSTATUS_APPLY_PEND, n, 0)] []) with dev := { ((stOf Dev.reset [(SB_STAGES_RANK, n, 0), (SB_STAGES_HB, n, 0), (SB_STAGES_FIR_EN, n, 0), (SB_STAGES_DC_EN, n, 0), (SB_LSTATUS_APPLY_PEND, n, 0)] [])).dev with sb := [{ SbLane.start 3 with wait := [{ value := 100, ball := 5000000000, sync := false, change := false }], sat := true, hold := List.replicate 7 false, fastCnt := 0, fastSum := 0 }] } }) (3), 3, { SbLane.start 3 with wait := [{ value := 100, ball := 5000000000, sync := false, change := false }], sat := true, hold := List.replicate 7 false, fastCnt := 0, fastSum := 0 }, { value := 100, ball := 5000000000, sync := false, change := false }, by decide +kernel⟩,
    ⟨(fun (n : Fin 8) => { (stOf Dev.reset [(SB_STAGES_RANK, n, 0), (SB_STAGES_HB, n, 0), (SB_STAGES_FIR_EN, n, 0), (SB_STAGES_DC_EN, n, 0), (SB_FAST_LOG2, n, 0)] []) with dev := { ((stOf Dev.reset [(SB_STAGES_RANK, n, 0), (SB_STAGES_HB, n, 0), (SB_STAGES_FIR_EN, n, 0), (SB_STAGES_DC_EN, n, 0), (SB_FAST_LOG2, n, 0)] [])).dev with sb := [{ SbLane.start 3 with wait := [{ value := 100, ball := 5000000000, sync := false, change := false }], sat := true, hold := List.replicate 7 false, fastCnt := 0, fastSum := 0 }] } }) (3), 3, { SbLane.start 3 with wait := [{ value := 100, ball := 5000000000, sync := false, change := false }], sat := true, hold := List.replicate 7 false, fastCnt := 0, fastSum := 0 }, { value := 100, ball := 5000000000, sync := false, change := false }, by decide +kernel⟩,
    ⟨(fun (n : Fin 8) => { (stOf Dev.reset [(SB_STAGES_HB, n, 0), (SB_LSTATUS_APPLY_PEND, n, 1)] []) with dev := { ((stOf Dev.reset [(SB_STAGES_HB, n, 0), (SB_LSTATUS_APPLY_PEND, n, 1)] [])).dev with sb := [{ SbLane.start 3 with wait := [{ value := 100, ball := 5000000000, sync := false, change := false }], sat := true, hold := List.replicate 7 false, fastCnt := 0, fastSum := 0 }] } }) (3), 3, { SbLane.start 3 with wait := [{ value := 100, ball := 5000000000, sync := false, change := false }], sat := true, hold := List.replicate 7 false, fastCnt := 0, fastSum := 0 }, { value := 100, ball := 5000000000, sync := false, change := false }, by decide +kernel⟩,
    ⟨{ (stOf Dev.reset [] []) with dev := { ((stOf Dev.reset [] [])).dev with sb := [{ SbLane.start 3 with wait := List.replicate 10 { value := 100, ball := 5000000000, sync := false, change := false } }] } }, 3, { SbLane.start 3 with wait := List.replicate 10 { value := 100, ball := 5000000000, sync := false, change := false } }, by decide +kernel⟩,
    ⟨stOf Dev.reset [] [], 7, by decide +kernel⟩,
    ⟨{ (stOf Dev.reset [] []) with dev := { ((stOf Dev.reset [] [])).dev with sb := [{ SbLane.start 3 with pwrDone := some (100000, 65536) }] } }, 3, { SbLane.start 3 with pwrDone := some (100000, 65536) }, 100000, 65536, by decide +kernel⟩,
    ⟨stOf Dev.reset [] [], 7, by decide +kernel⟩,
    ⟨{ (stOf Dev.reset [] []) with dev := { ((stOf Dev.reset [] [])).dev with sb := [(SbLane.start 3)] } }, 3, (SbLane.start 3), by decide +kernel⟩,
    ⟨{ (stOf Dev.reset [] []) with dev := { ((stOf Dev.reset [] [])).dev with sb := [{ SbLane.start 3 with nfDone := some 1000 }] } }, 3, { SbLane.start 3 with nfDone := some 1000 }, 1000, by decide +kernel⟩,
    ⟨stOf Dev.reset [] [], 7, by decide +kernel⟩,
    ⟨{ (stOf Dev.reset [] []) with dev := { ((stOf Dev.reset [] [])).dev with sb := [(SbLane.start 3)] } }, 3, (SbLane.start 3), by decide +kernel⟩⟩

/-- The hypotheses of `Obligations.SloeTransmit`, clause by clause. -/
theorem witness_SloeTransmit :
    (∃ (s : State) (n : Fin 8) (ctrl : Word) (len : Nat) (typ : Nat), len = ctrl.toNat % 2 ^ SLOE_TX_CTRL_LEN.w ∧ typ = ctrl.toNat / 2 ^ 8 % 2 ^ SLOE_TX_CTRL_TYPE.w ∧ s.dev.on SLOE_TX_STATUS_BUSY n = false ∧ s.dev.on SLOE_LCFG_TX_EN n = true ∧ s.dev.on BN_LINK_CTRL_EN n = true ∧ (((typ ≠ 4 ∧ typ ≠ 5) ∨ 16 ≤ len)))
    ∧ (∃ (s : State) (n : Fin 8) (ctrl : Word) (len : Nat) (typ : Nat), len = ctrl.toNat % 2 ^ SLOE_TX_CTRL_LEN.w ∧ typ = ctrl.toNat / 2 ^ 8 % 2 ^ SLOE_TX_CTRL_TYPE.w ∧ s.dev.on SLOE_TX_STATUS_BUSY n = false ∧ ((s.dev.on SLOE_LCFG_TX_EN n = false ∨ s.dev.on BN_LINK_CTRL_EN n = false ∨ ((typ = 4 ∨ typ = 5) ∧ len < 16))))
    ∧ (∃ (s : State) (n : Fin 8), s.dev.on SLOE_TX_STATUS_BUSY n = true)
    ∧ (∃ (s : State) (n : Fin 8) (hdr : List Byte) (body : List Byte) (syms : List (Bool × Nat)), hdr = sloeHeader 1 2 false false (s.dev.get SLOE_ID_TX_ID n) 0 ∧ body = sloePayload [BitVec.ofInt 8 (s.dev.v .slGasp n)] ∧ syms = sloeSymbols (s.dev.slSF n) 4 (s.dev.v .slSync n).toNat hdr body ∧ s.dev.slSends n = true ∧ s.dev.v .slGasp n ≠ 0)
    ∧ (∃ (s : State) (n : Fin 8) (hdr : List Byte) (syms : List (Bool × Nat)), hdr = sloeHeader 0 6 false false (s.dev.get SLOE_ID_TX_ID n) (s.dev.v .slAck n - 1).toNat ∧ syms = sloeSymbols (s.dev.slSF n) (clampN 4 32 (s.dev.get SLOE_DET_PRE_PAIRS n)) (s.dev.v .slSync n).toNat hdr [] ∧ s.dev.slSends n = true ∧ s.dev.v .slGasp n = 0 ∧ s.dev.v .slCur n = 0 ∧ s.dev.v .slAck n ≠ 0)
    ∧ (∃ (s : State) (n : Fin 8) (hdr : List Byte) (body : List Byte) (syms : List (Bool × Nat)), hdr = sloeHeader 2 3 false false (s.dev.get SLOE_ID_TX_ID n) 0 ∧ body = sloePayload [BitVec.ofInt 8 (s.dev.v .slTrig n - 1), 0] ∧ syms = sloeSymbols (s.dev.slSF n) (clampN 4 32 (s.dev.get SLOE_DET_PRE_PAIRS n)) (s.dev.v .slSync n).toNat hdr body ∧ s.dev.slSends n = true ∧ s.dev.v .slGasp n = 0 ∧ s.dev.v .slCur n = 0 ∧ s.dev.v .slAck n = 0 ∧ s.dev.v .slTrig n ≠ 0)
    ∧ (∃ (s : State) (n : Fin 8) (p : SloePkt) (hdr : List Byte) (body : List Byte) (syms : List (Bool × Nat)), hdr = sloeHeader p.payload.length p.typ p.ackReq p.retx (s.dev.get SLOE_ID_TX_ID n) p.seq ∧ body = sloePayload p.payload ∧ syms = sloeSymbols (s.dev.slSF n) (clampN 4 32 (s.dev.get SLOE_DET_PRE_PAIRS n)) (s.dev.v .slSync n).toNat hdr body ∧ s.dev.slSends n = true ∧ s.dev.v .slGasp n = 0 ∧ s.dev.v .slCur n = 0 ∧ s.dev.v .slAck n = 0 ∧ s.dev.v .slTrig n = 0 ∧ s.dev.flag .slFw n = true ∧ s.dev.sloeFw.find? (fun q => q.lane == n.val) = some p ∧ p.typ ≠ 4 ∧ p.typ ≠ 5)
    ∧ (∃ (s : State) (n : Fin 8) (lead : Nat) (age : Nat) (p : SloePkt) (sc : Nat) (mark : Nat) (body : List Byte) (hdr : List Byte) (syms : List (Bool × Nat)), sc = byte0Scale (fb p.payload 0) ∧ mark = timeBits (s.dev.scale sc - (age : Int)) ∧ body = stampPayload p.payload (timeBits (s.dev.scale sc + (lead : Int))) mark (s.dev.markOk n .tx) ∧ hdr = sloeHeader body.length p.typ p.ackReq p.retx (s.dev.get SLOE_ID_TX_ID n) p.seq ∧ syms = sloeSymbols (s.dev.slSF n) (clampN 4 32 (s.dev.get SLOE_DET_PRE_PAIRS n)) (s.dev.v .slSync n).toNat hdr (sloePayload body) ∧ s.dev.slSends n = true ∧ s.dev.v .slGasp n = 0 ∧ s.dev.v .slCur n = 0 ∧ s.dev.v .slAck n = 0 ∧ s.dev.v .slTrig n = 0 ∧ s.dev.flag .slFw n = true ∧ s.dev.sloeFw.find? (fun q => q.lane == n.val) = some p ∧ ((p.typ = 4 ∨ p.typ = 5)))
    ∧ (∃ (s : State) (n : Fin 8), ((s.dev.slSends n = false ∨ (s.dev.v .slGasp n = 0 ∧ s.dev.v .slCur n ≠ 0) ∨ (s.dev.v .slGasp n = 0 ∧ s.dev.v .slAck n = 0 ∧ s.dev.v .slTrig n = 0 ∧ (s.dev.flag .slFw n = false ∨ s.dev.sloeFw.find? (fun q => q.lane == n.val) = none)))))
    ∧ (∃ (s : State) (n : Fin 8), s.dev.v .slCur n = 4 ∧ (s.dev.sloeFw.find? (fun x => x.lane == n.val)).any (fun p => p.ackReq) = true)
    ∧ (∃ (s : State) (n : Fin 8), s.dev.v .slCur n = 4 ∧ (s.dev.sloeFw.find? (fun x => x.lane == n.val)).any (fun p => p.ackReq) = false)
    ∧ (∃ (s : State) (n : Fin 8), s.dev.v .slCur n ≠ 0 ∧ s.dev.v .slCur n ≠ 4)
    ∧ (∃ (s : State) (n : Fin 8), s.dev.v .slCur n = 0)
    ∧ (∃ (s : State) (n : Fin 8), s.dev.flag .slOpen n = true ∧ s.dev.get SLOE_TX_STATUS_TRY n < s.dev.get SLOE_TX_CTRL_RETRIES n)
    ∧ (∃ (s : State) (n : Fin 8), s.dev.flag .slOpen n = true ∧ s.dev.get SLOE_TX_CTRL_RETRIES n ≤ s.dev.get SLOE_TX_STATUS_TRY n)
    ∧ (∃ (s : State) (n : Fin 8), s.dev.flag .slOpen n = false) :=
   ⟨⟨(fun (n : Fin 8) => stOf Dev.reset [(SLOE_TX_STATUS_BUSY, n, 0), (SLOE_LCFG_TX_EN, n, 1), (BN_LINK_CTRL_EN, n, 1)] []) (7), 7, 0x0105#32, _, _, rfl, rfl, by decide +kernel⟩,
    ⟨(fun (n : Fin 8) => stOf Dev.reset [(SLOE_TX_STATUS_BUSY, n, 0)] []) (7), 7, 0x0105#32, _, _, rfl, rfl, by decide +kernel⟩,
    ⟨(fun (n : Fin 8) => stOf Dev.reset [(SLOE_TX_STATUS_BUSY, n, 1)] []) (7), 7, by decide +kernel⟩,
    ⟨(fun (n : Fin 8) => stOf Dev.reset [(SLOE_LCFG_TX_EN, n, 1), (BN_LINK_CTRL_EN, n, 1), (SLOE_TX_STATUS_BUSY, n, 1)] [(.slGasp, n, 2), (.slCur, n, 4)]) (7), 7, _, _, _, rfl, rfl, rfl, by decide +kernel⟩,
    ⟨(fun (n : Fin 8) => stOf Dev.reset [(SLOE_LCFG_TX_EN, n, 1), (BN_LINK_CTRL_EN, n, 1)] [(.slGasp, n, 0), (.slCur, n, 0), (.slAck, n, 8)]) (7), 7, _, _, rfl, rfl, by decide +kernel⟩,
    ⟨(fun (n : Fin 8) => stOf Dev.reset [(SLOE_LCFG_TX_EN, n, 1), (BN_LINK_CTRL_EN, n, 1)] [(.slGasp, n, 0), (.slCur, n, 0), (.slAck, n, 0), (.slTrig, n, 8)]) (7), 7, _, _, _, rfl, rfl, rfl, by decide +kernel⟩,
    ⟨(fun (n : Fin 8) => { (stOf Dev.reset [(SLOE_LCFG_TX_EN, n, 1), (BN_LINK_CTRL_EN, n, 1)] [(.slGasp, n, 0), (.slCur, n, 0), (.slAck, n, 0), (.slTrig, n, 0), (.slFw, n, 1)]) with dev := { ((stOf Dev.reset [(SLOE_LCFG_TX_EN, n, 1), (BN_LINK_CTRL_EN, n, 1)] [(.slGasp, n, 0), (.slCur, n, 0), (.slAck, n, 0), (.slTrig, n, 0), (.slFw, n, 1)])).dev with sloeFw := [{ lane := 3, typ := 1, ackReq := true, retx := true, seq := 1, payload := [1#8, 2#8] }] } }) (3), 3, { lane := 3, typ := 1, ackReq := true, retx := true, seq := 1, payload := [1#8, 2#8] }, _, _, _, rfl, rfl, rfl, by decide +kernel⟩,
    ⟨(fun (n : Fin 8) => { (stOf Dev.reset [(SLOE_LCFG_TX_EN, n, 1), (BN_LINK_CTRL_EN, n, 1)] [(.slGasp, n, 0), (.slCur, n, 0), (.slAck, n, 0), (.slTrig, n, 0), (.slFw, n, 1)]) with dev := { ((stOf Dev.reset [(SLOE_LCFG_TX_EN, n, 1), (BN_LINK_CTRL_EN, n, 1)] [(.slGasp, n, 0), (.slCur, n, 0), (.slAck, n, 0), (.slTrig, n, 0), (.slFw, n, 1)])).dev with sloeFw := [{ lane := 3, typ := 4, ackReq := true, retx := true, seq := 1, payload := (List.replicate 30 1#8) }] } }) (3), 3, 5, 5, { lane := 3, typ := 4, ackReq := true, retx := true, seq := 1, payload := (List.replicate 30 1#8) }, _, _, _, _, _, rfl, rfl, rfl, rfl, rfl, by decide +kernel⟩,
    ⟨(fun (n : Fin 8) => stOf Dev.reset [] [(.slCur, n, 4)]) (7), 7, by decide +kernel⟩,
    ⟨(fun (n : Fin 8) => { (stOf Dev.reset [] [(.slCur, n, 4)]) with dev := { ((stOf Dev.reset [] [(.slCur, n, 4)])).dev with sloeFw := [{ lane := 3, typ := 1, ackReq := true, retx := true, seq := 1, payload := [] }] } }) (3), 3, by decide +kernel⟩,
    ⟨(fun (n : Fin 8) => { (stOf Dev.reset [] [(.slCur, n, 4)]) with dev := { ((stOf Dev.reset [] [(.slCur, n, 4)])).dev with sloeFw := [{ lane := 3, typ := 1, ackReq := false, retx := true, seq := 1, payload := [] }] } }) (3), 3, by decide +kernel⟩,
    ⟨(fun (n : Fin 8) => stOf Dev.reset [] [(.slCur, n, 3)]) (7), 7, by decide +kernel⟩,
    ⟨(fun (n : Fin 8) => stOf Dev.reset [] [(.slCur, n, 0)]) (7), 7, by decide +kernel⟩,
    ⟨(fun (n : Fin 8) => { (stOf Dev.reset [(SLOE_TX_CTRL_RETRIES, n, 3), (SLOE_TX_STATUS_TRY, n, 1)] [(.slOpen, n, 1)]) with dev := { ((stOf Dev.reset [(SLOE_TX_CTRL_RETRIES, n, 3), (SLOE_TX_STATUS_TRY, n, 1)] [(.slOpen, n, 1)])).dev with sloeFw := [{ lane := 3, typ := 1, ackReq := false, retx := true, seq := 1, payload := [] }] } }) (3), 3, by decide +kernel⟩,
    ⟨(fun (n : Fin 8) => { (stOf Dev.reset [(SLOE_TX_CTRL_RETRIES, n, 3), (SLOE_TX_STATUS_TRY, n, 3)] [(.slOpen, n, 1)]) with dev := { ((stOf Dev.reset [(SLOE_TX_CTRL_RETRIES, n, 3), (SLOE_TX_STATUS_TRY, n, 3)] [(.slOpen, n, 1)])).dev with sloeFw := [{ lane := 3, typ := 1, ackReq := false, retx := true, seq := 1, payload := [] }] } }) (3), 3, by decide +kernel⟩,
    ⟨(fun (n : Fin 8) => stOf Dev.reset [] [(.slOpen, n, 0)]) (7), 7, by decide +kernel⟩⟩

/-- The hypotheses of `Obligations.SloeReceiver`, clause by clause. -/
theorem witness_SloeReceiver :
    (∃ (s : State) (n : Fin 8) (m : Int), s.dev.get SLOE_RX_STATUS_STATE n = 1 ∧ s.dev.slDetect n ≤ m)
    ∧ (∃ (s : State) (n : Fin 8) (m : Int), m < s.dev.slDetect n)
    ∧ (∃ (s : State) (n : Fin 8) (m : Int), ((s.dev.get SLOE_RX_STATUS_STATE n = 2 ∨ s.dev.get SLOE_RX_STATUS_STATE n = 3)) ∧ s.dev.slDetect n ≤ m)
    ∧ (∃ (s : State) (n : Fin 8) (m : Int), s.dev.get SLOE_RX_STATUS_STATE n = 4 ∧ s.dev.slDetect n ≤ m ∧ s.dev.on SLOE_CAPTURE_EN 0 = true ∧ s.dev.v .slMetric n + 10 * (s.dev.get SLOE_CAPTURE_MARGIN 0 : Nat) ≤ m)
    ∧ (∃ (s : State) (n : Fin 8) (m : Int), ((s.dev.get SLOE_RX_STATUS_STATE n = 0 ∨ 4 < s.dev.get SLOE_RX_STATUS_STATE n ∨ (s.dev.get SLOE_RX_STATUS_STATE n = 4 ∧ (s.dev.on SLOE_CAPTURE_EN 0 = false ∨ m < s.dev.v .slMetric n + 10 * (s.dev.get SLOE_CAPTURE_MARGIN 0 : Nat))))))
    ∧ (∃ (s : State) (n : Fin 8), s.dev.get SLOE_RX_STATUS_STATE n = 2 ∧ s.dev.flag .slReacq n = false)
    ∧ (∃ (s : State) (n : Fin 8), s.dev.get SLOE_RX_STATUS_STATE n = 2 ∧ s.dev.flag .slReacq n = true)
    ∧ (∃ (s : State) (n : Fin 8), s.dev.get SLOE_RX_STATUS_STATE n ≠ 2)
    ∧ (∃ (s : State) (n : Fin 8), s.dev.get SLOE_RX_STATUS_STATE n = 2)
    ∧ (∃ (s : State) (n : Fin 8), s.dev.get SLOE_RX_STATUS_STATE n ≠ 2)
    ∧ (∃ (s : State) (n : Fin 8) (wave : Bool) (det : Bool), (wave = decide (s.dev.v .slSf n ≠ (s.dev.get SLOE_LCFG_SF n : Nat) ∨ s.dev.v .slBw n ≠ (s.dev.get SLOE_LCFG_BW n : Nat) ∨ s.dev.v .slFc n ≠ (s.dev.get SLOE_LCFG_CENTRE n : Nat) ∨ s.dev.v .slSync n ≠ (s.dev.get SLOE_LCFG_SYNC n : Nat))) ∧ (det = decide (s.dev.v .slOfs n ≠ s.dev.geti SLOE_DET_DET_OFS n ∨ s.dev.v .slPairs n ≠ (s.dev.get SLOE_DET_DET_PAIRS n : Nat))) ∧ ((wave = true ∨ det = true)))
    ∧ (∃ (s : State) (n : Fin 8), ((s.dev.get SLOE_LCFG_SF n : Nat) : Int) = s.dev.v .slSf n ∧ ((s.dev.get SLOE_LCFG_BW n : Nat) : Int) = s.dev.v .slBw n ∧ ((s.dev.get SLOE_LCFG_CENTRE n : Nat) : Int) = s.dev.v .slFc n ∧ ((s.dev.get SLOE_LCFG_SYNC n : Nat) : Int) = s.dev.v .slSync n ∧ s.dev.geti SLOE_DET_DET_OFS n = s.dev.v .slOfs n ∧ ((s.dev.get SLOE_DET_DET_PAIRS n : Nat) : Int) = s.dev.v .slPairs n)
    ∧ (∃ (s : State) (n : Fin 8), s.dev.get SLOE_RX_STATUS_STATE n = 1)
    ∧ (∃ (s : State) (n : Fin 8), s.dev.get SLOE_RX_STATUS_STATE n ≠ 1)
    ∧ (∃ (s : State) (k : Fin 2) (cover : Fin 17), s.dev.on SLOE_TR_CTRL_EN k = true ∧ s.dev.slHears (s.dev.get SLOE_TR_CTRL_LANE k) = true ∧ 8 ≤ cover.val)
    ∧ (∃ (s : State) (k : Fin 2) (cover : Fin 17), s.dev.on SLOE_TR_CTRL_EN k = true ∧ s.dev.slHears (s.dev.get SLOE_TR_CTRL_LANE k) = true ∧ cover.val < 8)
    ∧ (∃ (s : State) (k : Fin 2), ((s.dev.on SLOE_TR_CTRL_EN k = false ∨ s.dev.slHears (s.dev.get SLOE_TR_CTRL_LANE k) = false))) :=
   ⟨⟨(fun (n : Fin 8) => stOf Dev.reset [(SLOE_RX_STATUS_STATE, n, 1)] []) (7), 7, 500, by decide +kernel⟩,
    ⟨stOf Dev.reset [] [], 7, -500, by decide +kernel⟩,
    ⟨(fun (n : Fin 8) => stOf Dev.reset [(SLOE_RX_STATUS_STATE, n, 3)] []) (7), 7, 500, by decide +kernel⟩,
    ⟨(fun (n : Fin 8) => stOf Dev.reset [(SLOE_RX_STATUS_STATE, n, 4), (SLOE_CAPTURE_EN, 0, 1)] []) (7), 7, 500, by decide +kernel⟩,
    ⟨(fun (n : Fin 8) => stOf Dev.reset [(SLOE_RX_STATUS_STATE, n, 0)] []) (7), 7, 500, by decide +kernel⟩,
    ⟨(fun (n : Fin 8) => stOf Dev.reset [(SLOE_RX_STATUS_STATE, n, 2)] [(.slReacq, n, 0)]) (7), 7, by decide +kernel⟩,
    ⟨(fun (n : Fin 8) => stOf Dev.reset [(SLOE_RX_STATUS_STATE, n, 2)] [(.slReacq, n, 1)]) (7), 7, by decide +kernel⟩,
    ⟨(fun (n : Fin 8) => stOf Dev.reset [(SLOE_RX_STATUS_STATE, n, 3)] []) (7), 7, by decide +kernel⟩,
    ⟨(fun (n : Fin 8) => stOf Dev.reset [(SLOE_RX_STATUS_STATE, n, 2)] []) (7), 7, by decide +kernel⟩,
    ⟨(fun (n : Fin 8) => stOf Dev.reset [(SLOE_RX_STATUS_STATE, n, 3)] []) (7), 7, by decide +kernel⟩,
    ⟨(fun (n : Fin 8) => stOf Dev.reset [(SLOE_LCFG_SF, n, 9), (SLOE_RX_STATUS_STATE, n, 3), (SLOE_TX_STATUS_BUSY, n, 1)] [(.slSf, n, 7)]) (7), 7, _, _, rfl, rfl, by decide +kernel⟩,
    ⟨(fun (n : Fin 8) => stOf Dev.reset [(SLOE_LCFG_SF, n, 0), (SLOE_LCFG_BW, n, 0), (SLOE_LCFG_CENTRE, n, 0), (SLOE_LCFG_SYNC, n, 0), (SLOE_DET_DET_OFS, n, 0), (SLOE_DET_DET_PAIRS, n, 0)] [(.slSf, n, 0), (.slBw, n, 0), (.slFc, n, 0), (.slSync, n, 0), (.slOfs, n, 0), (.slPairs, n, 0)]) (7), 7, by decide +kernel⟩,
    ⟨(fun (n : Fin 8) => stOf Dev.reset [(SLOE_RX_STATUS_STATE, n, 1)] []) (7), 7, by decide +kernel⟩,
    ⟨(fun (n : Fin 8) => stOf Dev.reset [(SLOE_RX_STATUS_STATE, n, 3)] []) (7), 7, by decide +kernel⟩,
    ⟨(fun (k : Fin 2) => stOf Dev.reset [(SLOE_TR_CTRL_EN, k, 1), (SLOE_TR_CTRL_LANE, k, 3), (SB_LSTATUS_RUNNING, 3, 1), (SLOE_RX_STATUS_CFG_ERR, 3, 0)] []) (1), 1, 9, by decide +kernel⟩,
    ⟨(fun (k : Fin 2) => stOf Dev.reset [(SLOE_TR_CTRL_EN, k, 1), (SLOE_TR_CTRL_LANE, k, 3), (SB_LSTATUS_RUNNING, 3, 1), (SLOE_RX_STATUS_CFG_ERR, 3, 0)] []) (1), 1, 7, by decide +kernel⟩,
    ⟨(fun (k : Fin 2) => stOf Dev.reset [(SLOE_TR_CTRL_EN, k, 0)] []) (1), 1, by decide +kernel⟩⟩

/-- The hypotheses of `Obligations.SloeHeaderCheck`, clause by clause. -/
theorem witness_SloeHeaderCheck :
    (∃ (s : State) (n : Fin 8) (shifts : List Nat) (h : List Byte), readHeader (s.dev.slSF n) shifts = h ∧ s.dev.get SLOE_RX_STATUS_STATE n = 3 ∧ crc8 (h.take 5) ≠ fb h 5)
    ∧ (∃ (s : State) (n : Fin 8) (shifts : List Nat) (h : List Byte), readHeader (s.dev.slSF n) shifts = h ∧ s.dev.get SLOE_RX_STATUS_STATE n = 3 ∧ crc8 (h.take 5) = fb h 5 ∧ s.dev.on SLOE_RX_MATCH n = true ∧ fb h 2 + 256 * fb h 3 ≠ s.dev.get SLOE_ID_EXPECT n)
    ∧ (∃ (s : State) (n : Fin 8) (shifts : List Nat) (h : List Byte), readHeader (s.dev.slSF n) shifts = h ∧ s.dev.get SLOE_RX_STATUS_STATE n = 3 ∧ crc8 (h.take 5) = fb h 5 ∧ ((s.dev.on SLOE_RX_MATCH n = false ∨ fb h 2 + 256 * fb h 3 = s.dev.get SLOE_ID_EXPECT n)) ∧ s.dev.get SLOE_RX_MAXLEN n < fb h 0) :=
   ⟨⟨(fun (n : Fin 8) => stOf Dev.reset [(SLOE_RX_STATUS_STATE, n, 3)] [(.slSf, n, 6)]) (7), 7, (((sloeSymbols 6 0 0 [1#8, 2#8, 3#8, 4#8, 5#8, 6#8] []).drop 2).map (fun x => x.2)), readHeader 6 (((sloeSymbols 6 0 0 [1#8, 2#8, 3#8, 4#8, 5#8, 6#8] []).drop 2).map (fun x => x.2)), by decide +kernel⟩,
    ⟨(fun (n : Fin 8) => stOf Dev.reset [(SLOE_RX_STATUS_STATE, n, 3), (SLOE_RX_MATCH, n, 1), (SLOE_ID_EXPECT, n, 7)] [(.slSf, n, 6)]) (7), 7, (((sloeSymbols 6 0 0 (sloeHeader 40 1 false false 5 9) []).drop 2).map (fun x => x.2)), readHeader 6 (((sloeSymbols 6 0 0 (sloeHeader 40 1 false false 5 9) []).drop 2).map (fun x => x.2)), by decide +kernel⟩,
    ⟨(fun (n : Fin 8) => stOf Dev.reset [(SLOE_RX_STATUS_STATE, n, 3), (SLOE_RX_MAXLEN, n, 20), (SLOE_RX_MATCH, n, 0)] [(.slSf, n, 6)]) (7), 7, (((sloeSymbols 6 0 0 (sloeHeader 40 1 false false 5 9) []).drop 2).map (fun x => x.2)), readHeader 6 (((sloeSymbols 6 0 0 (sloeHeader 40 1 false false 5 9) []).drop 2).map (fun x => x.2)), by decide +kernel⟩⟩

/-- The hypotheses of `Obligations.SloeReception`, clause by clause. -/
theorem witness_SloeReception :
    (∃ (s : State) (n : Fin 8) (shifts : List Nat) (h : List Byte), h = readHeader (s.dev.slSF n) shifts ∧ s.dev.get SLOE_RX_STATUS_STATE n = 3 ∧ crc8 (h.take 5) = fb h 5 ∧ ((s.dev.on SLOE_RX_MATCH n = false ∨ fb h 2 + 256 * fb h 3 = s.dev.get SLOE_ID_EXPECT n)) ∧ fb h 0 ≤ s.dev.get SLOE_RX_MAXLEN n ∧ fb h 0 ≠ 0)
    ∧ (∃ (s : State) (n : Fin 8) (shifts : List Nat) (h : List Byte), h = readHeader (s.dev.slSF n) shifts ∧ s.dev.get SLOE_RX_STATUS_STATE n = 3 ∧ crc8 (h.take 5) = fb h 5 ∧ ((s.dev.on SLOE_RX_MATCH n = false ∨ fb h 2 + 256 * fb h 3 = s.dev.get SLOE_ID_EXPECT n)) ∧ fb h 0 ≤ s.dev.get SLOE_RX_MAXLEN n ∧ fb h 1 % 64 = 6 ∧ s.dev.flag .slOpen n = true ∧ fb h 4 = s.dev.get SLOE_TX_STATUS_SEQ n)
    ∧ (∃ (s : State) (n : Fin 8) (shifts : List Nat) (h : List Byte) (typ : Nat) (dup : Bool), h = readHeader (s.dev.slSF n) shifts ∧ typ = fb h 1 % 64 ∧ dup = (decide (fb h 1 / 128 % 2 = 1) && s.dev.flag .slLastOn n && s.dev.v .slLastSrc n == ((fb h 2 + 256 * fb h 3 : Nat) : Int) && s.dev.v .slLastSeq n == (fb h 4 : Int) && s.dev.v .slLastType n == (typ : Int)) ∧ s.dev.get SLOE_RX_STATUS_STATE n = 3 ∧ crc8 (h.take 5) = fb h 5 ∧ ((s.dev.on SLOE_RX_MATCH n = false ∨ fb h 2 + 256 * fb h 3 = s.dev.get SLOE_ID_EXPECT n)) ∧ fb h 0 = 0)
    ∧ (∃ (s : State) (n : Fin 8), s.dev.get SLOE_RX_STATUS_STATE n ≠ 3)
    ∧ (∃ (s : State) (n : Fin 8) (syms : List (Bool × Nat)) (len : Nat) (b : List Byte), len = (s.dev.v .slHLen n).toNat ∧ b = readPayload (s.dev.slSF n) syms ∧ s.dev.get SLOE_RX_STATUS_STATE n = 4 ∧ crc16 (b.take len) ≠ fb b len + 256 * fb b (len + 1))
    ∧ (∃ (s : State) (n : Fin 8) (syms : List (Bool × Nat)) (len : Nat) (typ : Nat) (b : List Byte) (dup : Bool), len = (s.dev.v .slHLen n).toNat ∧ typ = (s.dev.v .slHType n).toNat % 64 ∧ b = readPayload (s.dev.slSF n) syms ∧ dup = (decide ((s.dev.v .slHType n).toNat / 128 % 2 = 1) && s.dev.flag .slLastOn n && s.dev.v .slLastSrc n == s.dev.v .slHSrc n && s.dev.v .slLastSeq n == ((s.dev.v .slHSeq n).toNat : Int) && s.dev.v .slLastType n == (typ : Int)) ∧ s.dev.get SLOE_RX_STATUS_STATE n = 4 ∧ crc16 (b.take len) = fb b len + 256 * fb b (len + 1) ∧ ((typ = 6 ∨ (dup = true ∧ typ ≠ 4 ∧ typ ≠ 5) ∨ s.dev.on SLOE_RX_STATUS_VALID n = true)))
    ∧ (∃ (s : State) (n : Fin 8) (syms : List (Bool × Nat)) (len : Nat) (typ : Nat) (b : List Byte) (dup : Bool), len = (s.dev.v .slHLen n).toNat ∧ typ = (s.dev.v .slHType n).toNat % 64 ∧ b = readPayload (s.dev.slSF n) syms ∧ dup = (decide ((s.dev.v .slHType n).toNat / 128 % 2 = 1) && s.dev.flag .slLastOn n && s.dev.v .slLastSrc n == s.dev.v .slHSrc n && s.dev.v .slLastSeq n == ((s.dev.v .slHSeq n).toNat : Int) && s.dev.v .slLastType n == (typ : Int)) ∧ s.dev.get SLOE_RX_STATUS_STATE n = 4 ∧ crc16 (b.take len) = fb b len + 256 * fb b (len + 1) ∧ typ ≠ 6 ∧ ((dup = false ∨ typ = 4 ∨ typ = 5)) ∧ s.dev.on SLOE_RX_STATUS_VALID n = false)
    ∧ (∃ (s : State) (n : Fin 8), s.dev.get SLOE_RX_STATUS_STATE n ≠ 4) :=
   ⟨⟨(fun (n : Fin 8) => stOf Dev.reset [(SLOE_RX_STATUS_STATE, n, 3), (SLOE_RX_MAXLEN, n, 20), (SLOE_RX_MATCH, n, 0)] [(.slSf, n, 6)]) (7), 7, (((sloeSymbols 6 0 0 (sloeHeader 4 1 true false 5 9) []).drop 2).map (fun x => x.2)), _, rfl, by decide +kernel⟩,
    ⟨(fun (n : Fin 8) => stOf Dev.reset [(SLOE_RX_STATUS_STATE, n, 3), (SLOE_RX_MAXLEN, n, 20), (SLOE_RX_MATCH, n, 0), (SLOE_TX_STATUS_SEQ, n, 9)] [(.slOpen, n, 1), (.slSf, n, 6)]) (7), 7, (((sloeSymbols 6 0 0 (sloeHeader 0 6 true false 5 9) []).drop 2).map (fun x => x.2)), _, rfl, by decide +kernel⟩,
    ⟨(fun (n : Fin 8) => stOf Dev.reset [(SLOE_RX_STATUS_STATE, n, 3), (SLOE_RX_MAXLEN, n, 20), (SLOE_RX_MATCH, n, 0)] [(.slSf, n, 6)]) (7), 7, (((sloeSymbols 6 0 0 (sloeHeader 0 1 true false 5 9) []).drop 2).map (fun x => x.2)), _, _, _, rfl, rfl, rfl, by decide +kernel⟩,
    ⟨(fun (n : Fin 8) => stOf Dev.reset [(SLOE_RX_STATUS_STATE, n, 4)] []) (7), 7, by decide +kernel⟩,
    ⟨(fun (n : Fin 8) => stOf Dev.reset [(SLOE_RX_STATUS_STATE, n, 4)] [(.slSf, n, 6), (.slHLen, n, 2)]) (7), 7, ((sloeSymbols 6 0 0 [] (sloePayload [1#8, 2#8, 3#8])).drop 2), _, _, rfl, rfl, by decide +kernel⟩,
    ⟨(fun (n : Fin 8) => stOf Dev.reset [(SLOE_RX_STATUS_STATE, n, 4), (SLOE_RX_STATUS_VALID, n, 1)] [(.slSf, n, 6), (.slHLen, n, 3), (.slHType, n, 66)]) (7), 7, ((sloeSymbols 6 0 0 [] (sloePayload [1#8, 2#8, 3#8])).drop 2), _, _, _, _, rfl, rfl, rfl, rfl, by decide +kernel⟩,
    ⟨(fun (n : Fin 8) => stOf Dev.reset [(SLOE_RX_STATUS_STATE, n, 4), (SLOE_RX_STATUS_VALID, n, 0), (SLOE_RX_ACK_AUTO, n, 1)] [(.slSf, n, 6), (.slHLen, n, 3), (.slHType, n, 66), (.slHSeq, n, 9)]) (7), 7, ((sloeSymbols 6 0 0 [] (sloePayload [1#8, 2#8, 3#8])).drop 2), _, _, _, _, rfl, rfl, rfl, rfl, by decide +kernel⟩,
    ⟨(fun (n : Fin 8) => stOf Dev.reset [(SLOE_RX_STATUS_STATE, n, 3)] []) (7), 7, by decide +kernel⟩⟩

/-- The hypotheses of `Obligations.TimeDomains`, clause by clause. -/
theorem witness_TimeDomains :
    (∃ (s : State) (k : Fin 2) (x : Int), x = bitsTime (s.dev.wide TIME_SET_TIME (3 * k)))
    ∧ (∃ (s : State) (k : Fin 2) (x : Int), x = s.dev.wide64 TIME_STEP_LO_VALUE TIME_STEP_HI_VALUE k)
    ∧ (∃ (s : State) (k : Fin 2), tWrapAt - tSec ≤ s.dev.time k)
    ∧ (∃ (s : State) (k : Fin 2), s.dev.time k < tWrapAt - tSec)
    ∧ (∃ (s : State) (k : Fin 2), s.dev.get TIME_CTRL_ACTIVE 0 = k.val)
    ∧ (∃ (s : State) (k : Fin 2), s.dev.get TIME_CTRL_ACTIVE 0 ≠ k ∧ s.dev.on TIME_DSTAT_VALID k = true ∧ tTick < absI (s.dev.v .tDom k - s.dev.v .tAct 0))
    ∧ (∃ (s : State) (k : Fin 2), s.dev.get TIME_CTRL_ACTIVE 0 ≠ k ∧ s.dev.on TIME_DSTAT_VALID k = true ∧ absI (s.dev.v .tDom k - s.dev.v .tAct 0) ≤ tTick)
    ∧ (∃ (s : State) (k : Fin 2), s.dev.get TIME_CTRL_ACTIVE 0 ≠ k ∧ s.dev.on TIME_DSTAT_VALID k = false)
    ∧ (∃ (s : State), s.dev.on TIME_STATUS_SLEWING 0 = true ∧ absI s.dev.actRem ≤ tTick)
    ∧ (∃ (s : State), ((s.dev.on TIME_STATUS_SLEWING 0 = false ∨ tTick < absI s.dev.actRem))) :=
   ⟨⟨(fun (k : Fin 2) => stOf Dev.reset [(TIME_SET_TIME, 3*k, 5)] []) (1), 1, _, rfl⟩,
    ⟨stOf Dev.reset [] [], 1, _, rfl⟩,
    ⟨(fun (k : Fin 2) => stOf Dev.reset [] [(.tDom, k, (2 ^ 48 - 1) * tSec * tUnit)]) (1), 1, by decide +kernel⟩,
    ⟨stOf Dev.reset [] [], 1, by decide +kernel⟩,
    ⟨(fun (k : Fin 2) => stOf Dev.reset [(TIME_CTRL_ACTIVE, 0, k.val), (TIME_CTRL_ACTIVE, 0, 1)] []) (1), 1, by decide +kernel⟩,
    ⟨(fun (k : Fin 2) => stOf Dev.reset [(TIME_DSTAT_VALID, k, 1), (TIME_CTRL_ACTIVE, 0, 0)] [(.tDom, k, 100 * tSec * tUnit), (.tAct, 0, 0)]) (1), 1, by decide +kernel⟩,
    ⟨(fun (k : Fin 2) => stOf Dev.reset [(TIME_DSTAT_VALID, k, 1), (TIME_CTRL_ACTIVE, 0, 0)] [(.tDom, k, 3), (.tAct, 0, 0)]) (1), 1, by decide +kernel⟩,
    ⟨(fun (k : Fin 2) => stOf Dev.reset [(TIME_DSTAT_VALID, k, 0), (TIME_CTRL_ACTIVE, 0, 0)] []) (1), 1, by decide +kernel⟩,
    ⟨stOf Dev.reset [(TIME_STATUS_SLEWING, 0, 1)] [(.tDom, 0, 3), (.tDom, 1, 3), (.tAct, 0, 0)], by decide +kernel⟩,
    ⟨stOf Dev.reset [(TIME_STATUS_SLEWING, 0, 0)] [], by decide +kernel⟩⟩

/-- The hypotheses of `Obligations.TimeServoAndPulses`, clause by clause. -/
theorem witness_TimeServoAndPulses :
    (∃ (s : State) (k : Fin 2) (hi : Word) (th : Int), th = sext 64 (s.dev.get TIME_MEAS_LO_THETA k + hi.toNat * 2 ^ 32) ∧ s.dev.get TIME_DCFG_SRC k = 3 ∧ s.dev.stepTh k < absI th)
    ∧ (∃ (s : State) (k : Fin 2) (hi : Word) (th : Int) (tau : Nat), th = sext 64 (s.dev.get TIME_MEAS_LO_THETA k + hi.toNat * 2 ^ 32) ∧ tau = max 1 (s.dev.get TIME_MEAS_INT_MS k) * 1000000 ∧ s.dev.get TIME_DCFG_SRC k = 3 ∧ absI th ≤ s.dev.stepTh k)
    ∧ (∃ (s : State) (k : Fin 2), s.dev.get TIME_DCFG_SRC k ≠ 3)
    ∧ (∃ (s : State) (falling : Bool), s.dev.on TIME_PPS_EDGE 0 = falling ∧ s.dev.get TIME_DCFG_SRC 0 ≠ 1 ∧ s.dev.get TIME_DCFG_SRC 1 ≠ 1)
    ∧ (∃ (s : State) (k : Fin 2) (falling : Bool) (sub : Nat) (th : Int), th = secFrac (s.dev.time k + sub - 163840 - s.dev.ppsCable) ∧ s.dev.on TIME_PPS_EDGE 0 = falling ∧ s.dev.get TIME_DCFG_SRC k = 1 ∧ s.dev.get TIME_DCFG_SRC (1 - k) ≠ 1 ∧ absI th ≤ s.dev.stepTh k)
    ∧ (∃ (s : State) (k : Fin 2) (falling : Bool) (sub : Nat) (th : Int), th = secFrac (s.dev.time k + sub - 163840 - s.dev.ppsCable) ∧ s.dev.on TIME_PPS_EDGE 0 = falling ∧ s.dev.get TIME_DCFG_SRC k = 1 ∧ s.dev.get TIME_DCFG_SRC (1 - k) ≠ 1 ∧ s.dev.stepTh k < absI th)
    ∧ (∃ (s : State) (falling : Bool), s.dev.on TIME_PPS_EDGE 0 = falling ∧ s.dev.get TIME_DCFG_SRC 0 = 1 ∧ s.dev.get TIME_DCFG_SRC 1 = 1)
    ∧ (∃ (s : State) (falling : Bool), s.dev.on TIME_PPS_EDGE 0 = (!falling))
    ∧ (∃ (s : State) (k : Fin 2), s.dev.expected k ≠ 0 ∧ ((max 1 (s.dev.get TIME_DCFG_HOLD_N k) * s.dev.expected k : Nat) : Int) * 5 ≤ s.dev.v .tSince k * 4 ∧ s.dev.on TIME_DSTAT_HOLDOVER k = false)
    ∧ (∃ (s : State) (k : Fin 2), ((s.dev.expected k = 0 ∨ s.dev.v .tSince k * 4 < ((max 1 (s.dev.get TIME_DCFG_HOLD_N k) * s.dev.expected k : Nat) : Int) * 5 ∨ s.dev.on TIME_DSTAT_HOLDOVER k = true)))
    ∧ (∃ (s : State) (k : Fin 4), s.dev.on TIME_TPO_CTRL_EN k = true ∧ s.dev.flag .tpoDone k = false ∧ s.dev.on TIME_TPO_CTRL_MODE k = true ∧ s.dev.v .tpoNext k ≤ s.dev.tpoTime k + 52429 + 196608)
    ∧ (∃ (s : State) (k : Fin 4), s.dev.on TIME_TPO_CTRL_EN k = true ∧ s.dev.flag .tpoDone k = false ∧ s.dev.on TIME_TPO_CTRL_MODE k = false ∧ s.dev.v .tpoNext k ≤ s.dev.tpoTime k + 52429 + 196608)
    ∧ (∃ (s : State) (k : Fin 4), ((s.dev.on TIME_TPO_CTRL_EN k = false ∨ s.dev.flag .tpoDone k = true ∨ s.dev.tpoTime k + 52429 + 196608 < s.dev.v .tpoNext k)))
    ∧ (∃ (s : State) (k : Fin 4), s.dev.flag .tpoOn k = true ∧ s.dev.v .tpoEnd k ≤ s.dev.tpoTime k + 52429 + 196608)
    ∧ (∃ (s : State) (k : Fin 4), ((s.dev.flag .tpoOn k = false ∨ s.dev.tpoTime k + 52429 + 196608 < s.dev.v .tpoEnd k))) :=
   ⟨⟨(fun (k : Fin 2) => stOf Dev.reset [(TIME_DCFG_SRC, k, 3)] []) (1), 1, 1000#32, _, rfl, by decide +kernel⟩,
    ⟨(fun (k : Fin 2) => stOf Dev.reset [(TIME_DCFG_SRC, k, 3), (TIME_MEAS_LO_THETA, k, 1000), (TIME_DCFG_STEP_TH, k, 10)] []) (1), 1, 0#32, _, _, rfl, rfl, by decide +kernel⟩,
    ⟨(fun (k : Fin 2) => stOf Dev.reset [(TIME_DCFG_SRC, k, 2)] []) (1), 1, by decide +kernel⟩,
    ⟨stOf Dev.reset [(TIME_PPS_EDGE, 0, 1), (TIME_DCFG_SRC, 0, 2), (TIME_DCFG_SRC, 1, 2)] [], true, by decide +kernel⟩,
    ⟨(fun (k : Fin 2) => stOf Dev.reset [(TIME_DCFG_SRC, k, 1), (TIME_PPS_EDGE, 0, 1), (TIME_DCFG_SRC, 0, 2), (TIME_DCFG_STEP_TH, k, 5)] [(.tDom, 0, 1000000 * tUnit), (.tDom, 1, 1000000 * tUnit)]) (1), 1, true, 5, _, rfl, by decide +kernel⟩,
    ⟨(fun (k : Fin 2) => stOf Dev.reset [(TIME_DCFG_SRC, k, 1), (TIME_PPS_EDGE, 0, 1), (TIME_DCFG_SRC, 0, 2), (TIME_DCFG_STEP_TH, k, 0)] [(.tDom, 0, 1000000 * tUnit), (.tDom, 1, 1000000 * tUnit)]) (1), 1, true, 5, _, rfl, by decide +kernel⟩,
    ⟨stOf Dev.reset [(TIME_DCFG_SRC, 0, 1), (TIME_DCFG_SRC, 1, 1), (TIME_PPS_EDGE, 0, 1), (TIME_DCFG_STEP_TH, 0, 5), (TIME_DCFG_STEP_TH, 1, 0)] [(.tDom, 0, 1000000 * tUnit), (.tDom, 1, 1000000 * tUnit)], true, by decide +kernel⟩,
    ⟨stOf Dev.reset [(TIME_PPS_EDGE, 0, 1)] [], false, by decide +kernel⟩,
    ⟨(fun (k : Fin 2) => stOf Dev.reset [(TIME_DSTAT_HOLDOVER, k, 0), (TIME_DCFG_SRC, k, 1)] [(.tSince, k, 1000000000000)]) (1), 1, by decide +kernel⟩,
    ⟨(fun (k : Fin 2) => stOf Dev.reset [(TIME_DCFG_SRC, k, 0)] []) (1), 1, by decide +kernel⟩,
    ⟨(fun (k : Fin 4) => stOf Dev.reset [(TIME_TPO_CTRL_EN, k, 1), (TIME_TPO_CTRL_MODE, k, 1)] [(.tpoDone, k, 0), (.tpoNext, k, -5)]) (3), 3, by decide +kernel⟩,
    ⟨(fun (k : Fin 4) => stOf Dev.reset [(TIME_TPO_CTRL_EN, k, 1), (TIME_TPO_CTRL_MODE, k, 0)] [(.tpoDone, k, 0), (.tpoNext, k, -5)]) (3), 3, by decide +kernel⟩,
    ⟨(fun (k : Fin 4) => stOf Dev.reset [(TIME_TPO_CTRL_EN, k, 0)] []) (3), 3, by decide +kernel⟩,
    ⟨(fun (k : Fin 4) => stOf Dev.reset [] [(.tpoOn, k, 1), (.tpoEnd, k, -5)]) (3), 3, by decide +kernel⟩,
    ⟨(fun (k : Fin 4) => stOf Dev.reset [] [(.tpoOn, k, 0)]) (3), 3, by decide +kernel⟩⟩

/-- The hypotheses of `Obligations.PtpRewriter`, clause by clause. -/
theorem witness_PtpRewriter :
    (∃ (s : State) (sl : Fin 8), s.dev.portAt sl = none)
    ∧ (∃ (s : State) (sl : Fin 8) (dir : Dir) (p : PortDesc) (f : List Byte) (act : Nat) (fill : Bool), act = (if dir = .rx then s.dev.get PCS_CTRL_PTP_RX sl else s.dev.get PCS_CTRL_PTP_TX sl) ∧ fill = (if dir = .rx then s.dev.on GBX_PSTATUS_RX_FILL sl else s.dev.on GBX_PSTATUS_TX_FILL sl) ∧ s.dev.portAt sl = some p ∧ ((p.term = false ∨ act = 0 ∨ act = 3 ∨ fill = true ∨ s.dev.scaleOk (s.dev.get TIME_PCFG_DOM p.num) = false ∨ s.dev.ptpAt sl f = none)))
    ∧ (∃ (s : State) (sl : Fin 8) (p : PortDesc) (f : List Byte) (at0 : Nat) (udp : Option (Nat × Bool)), s.dev.portAt sl = some p ∧ s.dev.ptpAt sl f = some (at0, udp) ∧ s.dev.ptpSel sl f at0 = false)
    ∧ (∃ (s : State) (sl : Fin 8) (dir : Dir) (p : PortDesc) (f : List Byte) (dep : Int) (at0 : Nat) (udp : Option (Nat × Bool)) (act : Nat) (fill : Bool) (n : Nat) (x : Int) (w : Nat), act = (if dir = .rx then s.dev.get PCS_CTRL_PTP_RX sl else s.dev.get PCS_CTRL_PTP_TX sl) ∧ fill = (if dir = .rx then s.dev.on GBX_PSTATUS_RX_FILL sl else s.dev.on GBX_PSTATUS_TX_FILL sl) ∧ n = 4 * (sl / 4) + p.l0 ∧ x = (if dir = .tx ∧ s.dev.on TIME_PCFG_OPT_IN_CF p.num = true then dep + ((s.dev.get TIME_LOPT_OPT_TX n * 256 : Nat) : Int) else dep) ∧ w = p.num + 8 * dir.ix + 16 * (fb f at0 % 16) + 256 * fb f (at0 + 4) + 65536 * fbe f (at0 + 30) 2 ∧ s.dev.portAt sl = some p ∧ p.term = true ∧ act = 1 ∧ fill = false ∧ s.dev.scaleOk (s.dev.get TIME_PCFG_DOM p.num) = true ∧ s.dev.ptpAt sl f = some (at0, udp) ∧ s.dev.ptpSel sl f at0 = true ∧ ((fb f at0 % 16 ≠ 0 ∨ fb f (at0 + 6) / 2 % 2 = 1)) ∧ s.dev.sq.length < 64)
    ∧ (∃ (s : State) (sl : Fin 8) (dir : Dir) (p : PortDesc) (f : List Byte) (at0 : Nat) (udp : Option (Nat × Bool)) (act : Nat) (fill : Bool), act = (if dir = .rx then s.dev.get PCS_CTRL_PTP_RX sl else s.dev.get PCS_CTRL_PTP_TX sl) ∧ fill = (if dir = .rx then s.dev.on GBX_PSTATUS_RX_FILL sl else s.dev.on GBX_PSTATUS_TX_FILL sl) ∧ s.dev.portAt sl = some p ∧ p.term = true ∧ act = 1 ∧ fill = false ∧ s.dev.scaleOk (s.dev.get TIME_PCFG_DOM p.num) = true ∧ s.dev.ptpAt sl f = some (at0, udp) ∧ s.dev.ptpSel sl f at0 = true ∧ ((fb f at0 % 16 ≠ 0 ∨ fb f (at0 + 6) / 2 % 2 = 1)) ∧ 64 ≤ s.dev.sq.length)
    ∧ (∃ (s : State) (sl : Fin 8) (dir : Dir) (p : PortDesc) (f : List Byte) (dep : Int) (at0 : Nat) (udp : Option (Nat × Bool)) (act : Nat) (fill : Bool) (n : Nat) (x : Int) (g : List Byte) (cnt : Fld), act = (if dir = .rx then s.dev.get PCS_CTRL_PTP_RX sl else s.dev.get PCS_CTRL_PTP_TX sl) ∧ fill = (if dir = .rx then s.dev.on GBX_PSTATUS_RX_FILL sl else s.dev.on GBX_PSTATUS_TX_FILL sl) ∧ n = 4 * (sl / 4) + p.l0 ∧ x = (if dir = .tx ∧ s.dev.on TIME_PCFG_OPT_IN_CF p.num = true then dep + ((s.dev.get TIME_LOPT_OPT_TX n * 256 : Nat) : Int) else dep) ∧ g = fput (fput (cfAdd f at0 ((timeBits x % 65536 : Nat) : Int)) (at0 + 34) 6 (timeBits x / 2 ^ 46)) (at0 + 40) 4 (timeBits x / 65536 % 2 ^ 30) ∧ cnt = (if dir = .rx then PCS_PTP_CNT_RX else PCS_PTP_CNT_TX) ∧ s.dev.portAt sl = some p ∧ p.term = true ∧ act = 1 ∧ fill = false ∧ s.dev.scaleOk (s.dev.get TIME_PCFG_DOM p.num) = true ∧ s.dev.ptpAt sl f = some (at0, udp) ∧ s.dev.ptpSel sl f at0 = true ∧ fb f at0 % 16 = 0 ∧ fb f (at0 + 6) / 2 % 2 = 0 ∧ at0 + 44 ≤ 256)
    ∧ (∃ (s : State) (sl : Fin 8) (dir : Dir) (p : PortDesc) (f : List Byte) (arr : Int) (dep : Int) (at0 : Nat) (udp : Option (Nat × Bool)) (act : Nat) (fill : Bool) (n : Nat) (x : Int) (v : Int) (cnt : Fld), act = (if dir = .rx then s.dev.get PCS_CTRL_PTP_RX sl else s.dev.get PCS_CTRL_PTP_TX sl) ∧ fill = (if dir = .rx then s.dev.on GBX_PSTATUS_RX_FILL sl else s.dev.on GBX_PSTATUS_TX_FILL sl) ∧ n = 4 * (sl / 4) + p.l0 ∧ x = (if dir = .tx ∧ s.dev.on TIME_PCFG_OPT_IN_CF p.num = true then dep + ((s.dev.get TIME_LOPT_OPT_TX n * 256 : Nat) : Int) else dep) ∧ v = (if dir = .rx ∧ s.dev.on TIME_PCFG_OPT_IN_CF p.num = true then x - arr + ((s.dev.get TIME_LOPT_OPT_RX n * 256 : Nat) : Int) else x - arr) ∧ cnt = (if dir = .rx then PCS_PTP_CNT_RX else PCS_PTP_CNT_TX) ∧ s.dev.portAt sl = some p ∧ p.term = true ∧ act = 2 ∧ fill = false ∧ s.dev.scaleOk (s.dev.get TIME_PCFG_DOM p.num) = true ∧ s.dev.ptpAt sl f = some (at0, udp) ∧ s.dev.ptpSel sl f at0 = true ∧ at0 + 16 ≤ 256)
    ∧ (∃ (d : Dev) (sl : Nat) (f : List Byte) (at0 : Nat) (udp : Option (Nat × Bool)), d.ptpAt sl f = some (at0, udp)) :=
   ⟨⟨stOf Dev.reset [] [], 7, by decide +kernel⟩,
    ⟨(fun (sl : Fin 8) => stOf rich [(PCS_CTRL_MATCH_L2, sl, 1), (PCS_CTRL_MSG_MASK, sl, 15), (TIME_PCFG_DOM, 0, 1), (TIME_DSTAT_VALID, 0, 1), (GBX_PSTATUS_RX_FILL, sl, 0), (GBX_PSTATUS_TX_FILL, sl, 0), (PCS_CTRL_PTP_RX, sl, 0), (PCS_CTRL_PTP_TX, sl, 0)] []) (0), 0, .rx, ⟨0, .g800, .l400s, 0, 4, 0, 2, true, false⟩, (List.replicate 12 (0#8) ++ [0x88#8, 0xF7#8, 1#8, 0x12#8] ++ List.replicate 50 (5#8)), _, _, rfl, rfl, by decide +kernel⟩,
    ⟨(fun (sl : Fin 8) => stOf rich [(PCS_CTRL_MATCH_L2, sl, 1), (PCS_CTRL_MSG_MASK, sl, 15), (TIME_PCFG_DOM, 0, 1), (TIME_DSTAT_VALID, 0, 1), (GBX_PSTATUS_RX_FILL, sl, 0), (GBX_PSTATUS_TX_FILL, sl, 0), (PCS_CTRL_PTP_RX, sl, 1), (PCS_CTRL_PTP_TX, sl, 1)] []) (0), 0, ⟨0, .g800, .l400s, 0, 4, 0, 2, true, false⟩, (List.replicate 12 (0#8) ++ [0x88#8, 0xF7#8, 9#8, 0x12#8] ++ List.replicate 50 (5#8)), 14, none, by decide +kernel⟩,
    ⟨(fun (sl : Fin 8) => stOf rich [(PCS_CTRL_MATCH_L2, sl, 1), (PCS_CTRL_MSG_MASK, sl, 15), (TIME_PCFG_DOM, 0, 1), (TIME_DSTAT_VALID, 0, 1), (GBX_PSTATUS_RX_FILL, sl, 0), (GBX_PSTATUS_TX_FILL, sl, 0), (PCS_CTRL_PTP_RX, sl, 1), (PCS_CTRL_PTP_TX, sl, 1)] []) (0), 0, .rx, ⟨0, .g800, .l400s, 0, 4, 0, 2, true, false⟩, (List.replicate 12 (0#8) ++ [0x88#8, 0xF7#8, 1#8, 0x12#8] ++ List.replicate 50 (5#8)), 7, 14, none, _, _, _, _, _, rfl, rfl, rfl, rfl, rfl, by decide +kernel⟩,
    ⟨(fun (sl : Fin 8) => { (stOf rich [(PCS_CTRL_MATCH_L2, sl, 1), (PCS_CTRL_MSG_MASK, sl, 15), (TIME_PCFG_DOM, 0, 1), (TIME_DSTAT_VALID, 0, 1), (GBX_PSTATUS_RX_FILL, sl, 0), (GBX_PSTATUS_TX_FILL, sl, 0), (PCS_CTRL_PTP_RX, sl, 1), (PCS_CTRL_PTP_TX, sl, 1)] []) with dev := { ((stOf rich [(PCS_CTRL_MATCH_L2, sl, 1), (PCS_CTRL_MSG_MASK, sl, 15), (TIME_PCFG_DOM, 0, 1), (TIME_DSTAT_VALID, 0, 1), (GBX_PSTATUS_RX_FILL, sl, 0), (GBX_PSTATUS_TX_FILL, sl, 0), (PCS_CTRL_PTP_RX, sl, 1), (PCS_CTRL_PTP_TX, sl, 1)] [])).dev with sq := List.replicate 64 [1, 2, 3, 4] } }) (0), 0, .rx, ⟨0, .g800, .l400s, 0, 4, 0, 2, true, false⟩, (List.replicate 12 (0#8) ++ [0x88#8, 0xF7#8, 1#8, 0x12#8] ++ List.replicate 50 (5#8)), 14, none, _, _, rfl, rfl, by decide +kernel⟩,
    ⟨(fun (sl : Fin 8) => stOf rich [(PCS_CTRL_MATCH_L2, sl, 1), (PCS_CTRL_MSG_MASK, sl, 15), (TIME_PCFG_DOM, 0, 1), (TIME_DSTAT_VALID, 0, 1), (GBX_PSTATUS_RX_FILL, sl, 0), (GBX_PSTATUS_TX_FILL, sl, 0), (PCS_CTRL_PTP_RX, sl, 1), (PCS_CTRL_PTP_TX, sl, 1)] []) (0), 0, .rx, ⟨0, .g800, .l400s, 0, 4, 0, 2, true, false⟩, (List.replicate 12 (0#8) ++ [0x88#8, 0xF7#8, 0#8, 0x12#8] ++ List.replicate 50 (5#8)), 7, 14, none, _, _, _, _, _, _, rfl, rfl, rfl, rfl, rfl, rfl, by decide +kernel⟩,
    ⟨(fun (sl : Fin 8) => stOf rich [(PCS_CTRL_MATCH_L2, sl, 1), (PCS_CTRL_MSG_MASK, sl, 15), (TIME_PCFG_DOM, 0, 1), (TIME_DSTAT_VALID, 0, 1), (GBX_PSTATUS_RX_FILL, sl, 0), (GBX_PSTATUS_TX_FILL, sl, 0), (PCS_CTRL_PTP_RX, sl, 2), (PCS_CTRL_PTP_TX, sl, 2), (TIME_PCFG_OPT_IN_CF, 0, 1)] []) (0), 0, .rx, ⟨0, .g800, .l400s, 0, 4, 0, 2, true, false⟩, (List.replicate 12 (0#8) ++ [0x88#8, 0xF7#8, 0#8, 0x12#8] ++ List.replicate 50 (5#8)), 7, 7, 14, none, _, _, _, _, _, _, rfl, rfl, rfl, rfl, rfl, rfl, by decide +kernel⟩,
    ⟨Dev.reset, 7, List.replicate 12 0 ++ [0x88, 0xF7] ++ List.replicate 60 0, 14, none, by decide +kernel⟩⟩

/-- The hypotheses of `Obligations.TriggersAndSequencer`, clause by clause. -/
theorem witness_TriggersAndSequencer :
    (∃ (s : State) (n : Fin 8) (k : Fin 4) (c : Fin 72) (kp : EqPip) (w : Nat) (at0 : Nat) (vals : List Int) (r : TrgSet × Nat × Option Nat), w = s.dev.symsPerDpclk n ∧ at0 = 72 * kp.pip + c ∧ vals = ((if s.dev.on LL_TRG_CFG_SRC (4 * n + k) then kp.ys else kp.raw).drop (c * w)).take w ∧ r = s.dev.trgRun n k vals (((kp.syms.drop (c * w)).take w).map (fun x => ((x + 3) / 2).toNat)) (s.dev.trgOf n k) ∧ s.dev.trgAvail n k = true ∧ s.dev.lastPip n = some kp ∧ (s.dev.trgOf n k).next ≤ at0)
    ∧ (∃ (s : State) (n : Fin 8) (k : Fin 4) (c : Fin 72) (kp : EqPip) (w : Nat) (vals : List Int), w = s.dev.symsPerDpclk n ∧ vals = ((if s.dev.on LL_TRG_CFG_SRC (4 * n + k) then kp.ys else kp.raw).drop (c * w)).take w ∧ s.dev.trgAvail n k = true ∧ s.dev.lastPip n = some kp ∧ (s.dev.trgOf n k).next ≤ 72 * kp.pip + c ∧ s.dev.get LL_TRG_CFG_TYPE (4 * n + k) = 0 ∧ s.dev.on LL_TRG_CFG_LONGER (4 * n + k) = true ∧ s.dev.get LL_TRG_CFG_MODE (4 * n + k) = 0 ∧ ((∀ v ∈ vals, s.dev.geti LL_TRG_TH_TH0 (4 * n + k) < v)) ∧ (s.dev.trgOf n k).run ≤ max 1 (s.dev.get LL_TRG_N_N (4 * n + k)) ∧ max 1 (s.dev.get LL_TRG_N_N (4 * n + k)) < (s.dev.trgOf n k).run + vals.length)
    ∧ (∃ (s : State) (n : Fin 8) (k : Fin 4), s.dev.trgAvail n k = false)
    ∧ (∃ (s : State) (n : Fin 8) (k : Fin 4) (c : Fin 72), s.dev.trgAvail n k = true ∧ (s.dev.lastPip n).all (fun kp => decide (72 * kp.pip + c.val < (s.dev.trgOf n k).next)) = true)
    ∧ (∃ (s : State) (input : Fin 67) (stamp : Int) (c : Nat) (m : Int) (st : Nat), c = tmScale (s.dev.get CAP_EVF_TM_DOM 0) ∧ m = bitsTime (s.dev.wide CAP_TMATCH_TIME 0) ∧ st = (s.dev.v .capSt 0).toNat ∧ (((input.val ≠ 64 ∧ s.dev.events.find? (fun e => e.1 == input.val) = some (input.val, stamp)) ∨ (input.val = 64 ∧ s.dev.flag .capTm 0 = false ∧ s.dev.scaleOk c = true ∧ m ≤ s.dev.scale c ∧ stamp = (if c = 0 then m else s.dev.actTime)))) ∧ s.dev.capOn = true ∧ st ≠ 3 ∧ (!(s.dev.on CAP_SEQ_CTRL_NEXT st)) = true ∧ s.dev.seqSel st input = true ∧ s.dev.seqIn st stamp = true)
    ∧ (∃ (s : State) (input : Fin 67) (stamp : Int) (c : Nat) (m : Int) (st : Nat), c = tmScale (s.dev.get CAP_EVF_TM_DOM 0) ∧ m = bitsTime (s.dev.wide CAP_TMATCH_TIME 0) ∧ st = (s.dev.v .capSt 0).toNat ∧ (((input.val ≠ 64 ∧ s.dev.events.find? (fun e => e.1 == input.val) = some (input.val, stamp)) ∨ (input.val = 64 ∧ s.dev.flag .capTm 0 = false ∧ s.dev.scaleOk c = true ∧ m ≤ s.dev.scale c ∧ stamp = (if c = 0 then m else s.dev.actTime)))) ∧ ((s.dev.capOn = false ∨ s.dev.seqSel st input = false ∨ s.dev.seqIn st stamp = false)))
    ∧ (∃ (s : State) (input : Fin 67) (stamp : Int) (c : Nat) (m : Int) (st : Nat), c = tmScale (s.dev.get CAP_EVF_TM_DOM 0) ∧ m = bitsTime (s.dev.wide CAP_TMATCH_TIME 0) ∧ st = (s.dev.v .capSt 0).toNat ∧ (((input.val ≠ 64 ∧ s.dev.events.find? (fun e => e.1 == input.val) = some (input.val, stamp)) ∨ (input.val = 64 ∧ s.dev.flag .capTm 0 = false ∧ s.dev.scaleOk c = true ∧ m ≤ s.dev.scale c ∧ stamp = (if c = 0 then m else s.dev.actTime)))) ∧ s.dev.capOn = true ∧ ((st = 3 ∨ s.dev.on CAP_SEQ_CTRL_NEXT st = true)) ∧ s.dev.seqSel st input = true ∧ s.dev.seqIn st stamp = true)
    ∧ (∃ (s : State) (input : Fin 67) (c : Nat), c = tmScale (s.dev.get CAP_EVF_TM_DOM 0) ∧ (((input.val ≠ 64 ∧ s.dev.events.find? (fun e => e.1 == input.val) = none) ∨ (input.val = 64 ∧ (s.dev.flag .capTm 0 = true ∨ s.dev.scaleOk c = false ∨ s.dev.scale c < bitsTime (s.dev.wide CAP_TMATCH_TIME 0))))))
    ∧ (∃ (s : State) (w : Nat), w = s.dev.get CAP_SEQ_CTRL_WINDOW (s.dev.v .capSt 0).toNat ∧ s.dev.capOn = true ∧ s.dev.v .capSt 0 ≠ 0 ∧ w ≠ 0 ∧ s.dev.v .capEntry 0 + ((w + 1000) * 65536 : Nat) ≤ s.dev.actTime)
    ∧ (∃ (s : State) (w : Nat), w = s.dev.get CAP_SEQ_CTRL_WINDOW (s.dev.v .capSt 0).toNat ∧ ((s.dev.capOn = false ∨ s.dev.v .capSt 0 = 0 ∨ w = 0 ∨ s.dev.actTime < s.dev.v .capEntry 0 + ((w + 1000) * 65536 : Nat))))
    ∧ (∃ (s : State), s.dev.get CAP_STATUS_STATE 0 = 1)
    ∧ (∃ (s : State) (pos : Nat) (base : Nat), pos = (s.dev.v .capPos 0).toNat ∧ base = (s.dev.capRecs.find? (fun r => decide (pos ≤ r + min (s.dev.get CAP_PRE_UNITS 0) (capUnits - 1)))).getD pos ∧ s.dev.get CAP_STATUS_STATE 0 = 1 ∧ s.dev.capQ = [])
    ∧ (∃ (s : State) (pos : Nat), pos = (s.dev.v .capPos 0).toNat ∧ s.dev.get CAP_STATUS_STATE 0 = 2 ∧ s.dev.capRoom 1 = true)
    ∧ (∃ (s : State), ((s.dev.capOn = false ∨ (s.dev.get CAP_STATUS_STATE 0 = 2 ∧ s.dev.capRoom 1 = false)))) :=
   ⟨⟨(fun (n : Fin 8) => fun (k : Fin 4) => { (stOf rich [(LL_TRG_CFG_TYPE, (4 * n + k), 0), (LL_TRG_CFG_LONGER, (4 * n + k), 1), (LL_TRG_CFG_MODE, (4 * n + k), 0), (LL_TRG_CFG_EN, (4 * n + k), 1), (LL_TRG_N_N, (4 * n + k), 3), (LL_TRG_TH_TH0, (4 * n + k), 5), (LL_ADC_STATUS_READY, n, 1), (LL_TRG_CFG_SRC, (4 * n + k), 0)] []) with dev := { ((stOf rich [(LL_TRG_CFG_TYPE, (4 * n + k), 0), (LL_TRG_CFG_LONGER, (4 * n + k), 1), (LL_TRG_CFG_MODE, (4 * n + k), 0), (LL_TRG_CFG_EN, (4 * n + k), 1), (LL_TRG_N_N, (4 * n + k), 3), (LL_TRG_TH_TH0, (4 * n + k), 5), (LL_ADC_STATUS_READY, n, 1), (LL_TRG_CFG_SRC, (4 * n + k), 0)] [])).dev with eqPips := [{ lane := 0, pip := 2, start := 1000000, raw := List.replicate 2000 100, pre := 0, dec := 0, xs := [], ys := List.replicate 2000 100, syms := [], soft := [] }], trg := [⟨0, 1, 3, none, 0, false, [], 0⟩] } }) (0) (1), 0, 1, 2, { lane := 0, pip := 2, start := 1000000, raw := List.replicate 2000 100, pre := 0, dec := 0, xs := [], ys := List.replicate 2000 100, syms := [], soft := [] }, _, _, _, _, rfl, rfl, rfl, rfl, by decide +kernel⟩,
    ⟨(fun (n : Fin 8) => fun (k : Fin 4) => { (stOf rich [(LL_TRG_CFG_TYPE, (4 * n + k), 0), (LL_TRG_CFG_LONGER, (4 * n + k), 1), (LL_TRG_CFG_MODE, (4 * n + k), 0), (LL_TRG_CFG_TYPE, (4 * n + k), 0), (LL_TRG_CFG_LONGER, (4 * n + k), 1), (LL_TRG_CFG_MODE, (4 * n + k), 0), (LL_TRG_CFG_EN, (4 * n + k), 1), (LL_TRG_N_N, (4 * n + k), 3), (LL_TRG_TH_TH0, (4 * n + k), 5), (LL_ADC_STATUS_READY, n, 1), (LL_TRG_CFG_SRC, (4 * n + k), 0)] []) with dev := { ((stOf rich [(LL_TRG_CFG_TYPE, (4 * n + k), 0), (LL_TRG_CFG_LONGER, (4 * n + k), 1), (LL_TRG_CFG_MODE, (4 * n + k), 0), (LL_TRG_CFG_TYPE, (4 * n + k), 0), (LL_TRG_CFG_LONGER, (4 * n + k), 1), (LL_TRG_CFG_MODE, (4 * n + k), 0), (LL_TRG_CFG_EN, (4 * n + k), 1), (LL_TRG_N_N, (4 * n + k), 3), (LL_TRG_TH_TH0, (4 * n + k), 5), (LL_ADC_STATUS_READY, n, 1), (LL_TRG_CFG_SRC, (4 * n + k), 0)] [])).dev with eqPips := [{ lane := 0, pip := 2, start := 1000000, raw := List.replicate 2000 100, pre := 0, dec := 0, xs := [], ys := List.replicate 2000 100, syms := [], soft := [] }], trg := [⟨0, 1, 3, none, 0, false, [], 0⟩] } }) (0) (1), 0, 1, 2, { lane := 0, pip := 2, start := 1000000, raw := List.replicate 2000 100, pre := 0, dec := 0, xs := [], ys := List.replicate 2000 100, syms := [], soft := [] }, _, _, rfl, rfl, by decide +kernel⟩,
    ⟨(fun (n : Fin 8) => fun (k : Fin 4) => stOf Dev.reset [(LL_TRG_CFG_EN, (4 * n + k), 0)] []) (7) (1), 7, 1, by decide +kernel⟩,
    ⟨(fun (n : Fin 8) => fun (k : Fin 4) => { (stOf rich [(LL_TRG_CFG_TYPE, (4 * n + k), 0), (LL_TRG_CFG_LONGER, (4 * n + k), 1), (LL_TRG_CFG_MODE, (4 * n + k), 0), (LL_TRG_CFG_EN, (4 * n + k), 1), (LL_TRG_N_N, (4 * n + k), 3), (LL_TRG_TH_TH0, (4 * n + k), 5), (LL_ADC_STATUS_READY, n, 1), (LL_TRG_CFG_SRC, (4 * n + k), 0)] []) with dev := { ((stOf rich [(LL_TRG_CFG_TYPE, (4 * n + k), 0), (LL_TRG_CFG_LONGER, (4 * n + k), 1), (LL_TRG_CFG_MODE, (4 * n + k), 0), (LL_TRG_CFG_EN, (4 * n + k), 1), (LL_TRG_N_N, (4 * n + k), 3), (LL_TRG_TH_TH0, (4 * n + k), 5), (LL_ADC_STATUS_READY, n, 1), (LL_TRG_CFG_SRC, (4 * n + k), 0)] [])).dev with eqPips := [{ lane := 0, pip := 2, start := 1000000, raw := List.replicate 2000 100, pre := 0, dec := 0, xs := [], ys := List.replicate 2000 100, syms := [], soft := [] }], trg := [⟨0, 1, 3, none, 0, false, [], 900⟩] } }) (0) (1), 0, 1, 2, by decide +kernel⟩,
    ⟨{ (stOf Dev.reset [(CAP_STATUS_STATE, 0, 1), (CAP_SEQ_CTRL_WINDOW, 1, 0), (CAP_CTRL_MODE, 0, 0), (CAP_SEQ_M_MASK, 3, 32), (CAP_SEQ_CTRL_NEXT, 1, 0)] [(.capEntry, 0, 50), (.capSt, 0, 1)]) with dev := { ((stOf Dev.reset [(CAP_STATUS_STATE, 0, 1), (CAP_SEQ_CTRL_WINDOW, 1, 0), (CAP_CTRL_MODE, 0, 0), (CAP_SEQ_M_MASK, 3, 32), (CAP_SEQ_CTRL_NEXT, 1, 0)] [(.capEntry, 0, 50), (.capSt, 0, 1)])).dev with events := [(7, 10), (5, 100), (5, 200)] } }, 5, 100, _, _, _, rfl, rfl, rfl, by decide +kernel⟩,
    ⟨{ (stOf Dev.reset [(CAP_STATUS_STATE, 0, 1), (CAP_SEQ_CTRL_WINDOW, 1, 0), (CAP_CTRL_MODE, 0, 0), (CAP_SEQ_M_MASK, 3, 0)] [(.capSt, 0, 1)]) with dev := { ((stOf Dev.reset [(CAP_STATUS_STATE, 0, 1), (CAP_SEQ_CTRL_WINDOW, 1, 0), (CAP_CTRL_MODE, 0, 0), (CAP_SEQ_M_MASK, 3, 0)] [(.capSt, 0, 1)])).dev with events := [(7, 10), (5, 100), (5, 200)] } }, 5, 100, _, _, _, rfl, rfl, rfl, by decide +kernel⟩,
    ⟨{ (stOf Dev.reset [(CAP_STATUS_STATE, 0, 1), (CAP_SEQ_CTRL_WINDOW, 1, 0), (CAP_CTRL_MODE, 0, 0), (CAP_SEQ_M_MASK, 3, 32), (CAP_SEQ_CTRL_NEXT, 1, 1), (CAP_CTRL_SLOE_OUT, 0, 5), (CAP_CTRL_FLEET_OUT, 0, 1)] [(.capEntry, 0, 50), (.capSt, 0, 1)]) with dev := { ((stOf Dev.reset [(CAP_STATUS_STATE, 0, 1), (CAP_SEQ_CTRL_WINDOW, 1, 0), (CAP_CTRL_MODE, 0, 0), (CAP_SEQ_M_MASK, 3, 32), (CAP_SEQ_CTRL_NEXT, 1, 1), (CAP_CTRL_SLOE_OUT, 0, 5), (CAP_CTRL_FLEET_OUT, 0, 1)] [(.capEntry, 0, 50), (.capSt, 0, 1)])).dev with events := [(7, 10), (5, 100), (5, 200)] } }, 5, 100, _, _, _, rfl, rfl, rfl, by decide +kernel⟩,
    ⟨{ (stOf Dev.reset [] []) with dev := { ((stOf Dev.reset [] [])).dev with events := [(7, 10), (5, 100), (5, 200)] } }, 6, _, rfl, by decide +kernel⟩,
    ⟨stOf Dev.reset [(CAP_STATUS_STATE, 0, 1), (CAP_SEQ_CTRL_WINDOW, 2, 7)] [(.capSt, 0, 2), (.capEntry, 0, -100000000)], _, rfl, by decide +kernel⟩,
    ⟨stOf Dev.reset [] [(.capSt, 0, 0)], _, rfl, by decide +kernel⟩,
    ⟨stOf Dev.reset [(CAP_STATUS_STATE, 0, 1)] [], by decide +kernel⟩,
    ⟨{ (stOf Dev.reset [(CAP_STATUS_STATE, 0, 1)] [(.capPos, 0, 9)]) with dev := { ((stOf Dev.reset [(CAP_STATUS_STATE, 0, 1)] [(.capPos, 0, 9)])).dev with capRecs := [3, 5, 7], capQ := [] } }, _, _, rfl, rfl, by decide +kernel⟩,
    ⟨stOf Dev.reset [(CAP_STATUS_STATE, 0, 2)] [(.capPos, 0, 9), (.capBase, 0, 5)], _, rfl, by decide +kernel⟩,
    ⟨stOf Dev.reset [(CAP_STATUS_STATE, 0, 4)] [], by decide +kernel⟩⟩

/-- The hypotheses of `Obligations.CaptureRun`, clause by clause. -/
theorem witness_CaptureRun :
    (∃ (s : State), s.dev.armErr = 0)
    ∧ (∃ (s : State), s.dev.armErr ≠ 0)
    ∧ (∃ (s : State) (st : Fin 16) (units : Nat) (w : CapWait) (m : Nat) (pay : List Byte) (pos : Nat) (i : Nat), m = min (min units (recMax w.src)) w.vals.length ∧ pay = capEncode w.src (w.vals.take m) ∧ pos = (s.dev.v .capPos 0).toNat ∧ i = (s.dev.v .capIdx st).toNat ∧ s.dev.capOn = true ∧ s.dev.capLive st = true ∧ s.dev.capFull = false ∧ s.dev.capQ = [w] ∧ w.stream = st.val ∧ 0 < m ∧ s.dev.capGaps = [] ∧ s.dev.capRoom (recUnits (32 + pay.length) + 1) = true)
    ∧ (∃ (s : State) (st : Fin 16) (missing : Nat) (w : CapWait) (i : Nat), i = (s.dev.v .capIdx st).toNat ∧ s.dev.capOn = true ∧ s.dev.capLive st = true ∧ s.dev.capFull = false ∧ s.dev.capQ = [w] ∧ w.stream = st.val ∧ w.vals.length ≤ missing ∧ 0 < w.vals.length ∧ s.dev.capGaps = [])
    ∧ (∃ (s : State) (st : Fin 16) (missing : Nat) (i : Nat), i = (s.dev.v .capIdx st).toNat ∧ s.dev.capOn = true ∧ s.dev.capLive st = true ∧ s.dev.capFull = false ∧ s.dev.capQ = [] ∧ s.dev.capAvail st = false ∧ 0 < missing ∧ s.dev.capGaps = [])
    ∧ (∃ (s : State) (st : Fin 16), ((s.dev.capOn = false ∨ s.dev.capLive st = false ∨ s.dev.capFull = true)))
    ∧ (∃ (s : State), s.dev.capOn = true)
    ∧ (∃ (s : State) (pos : Nat) (base : Nat), pos = (s.dev.v .capPos 0).toNat ∧ base = (s.dev.v .capBase 0).toNat ∧ s.dev.get CAP_STATUS_STATE 0 = 2 ∧ s.dev.capGaps = [] ∧ s.dev.capQ = [] ∧ s.dev.flag .capDrain 0 = false ∧ base ≤ pos ∧ pos - base < capUnits)
    ∧ (∃ (s : State), s.dev.capOn = false)
    ∧ (∃ (s : State), s.dev.capFull = true)
    ∧ (∃ (s : State) (pos : Nat) (base : Nat), pos = (s.dev.v .capPos 0).toNat ∧ base = (s.dev.v .capBase 0).toNat ∧ s.dev.capFull = true ∧ s.dev.capGaps = [] ∧ s.dev.capQ = [] ∧ s.dev.flag .capDrain 0 = false ∧ base ≤ pos ∧ pos - base < capUnits)
    ∧ (∃ (s : State), s.dev.capFull = false)
    ∧ (∃ (s : State) (pos : Nat) (base : Nat) (ofs : Nat) (g : Nat), pos = (s.dev.v .capPos 0).toNat ∧ base = (s.dev.v .capBase 0).toNat ∧ ofs = (s.dev.v .capDrained 0).toNat - base ∧ g = ofs / 16384 ∧ ((s.dev.get CAP_STATUS_STATE 0 = 2 ∨ s.dev.get CAP_STATUS_STATE 0 = 3)) ∧ s.dev.flag .capDrain 0 = true ∧ base ≤ (s.dev.v .capDrained 0).toNat ∧ g + 1 < (s.dev.v .capRegSize 0).toNat ∧ base + (g + 1) * 16384 ≤ pos)
    ∧ (∃ (s : State) (pos : Nat) (base : Nat) (g : Nat), pos = (s.dev.v .capPos 0).toNat ∧ base = (s.dev.v .capBase 0).toNat ∧ g = ((s.dev.v .capDrained 0).toNat - base) / 16384 ∧ ((s.dev.get CAP_STATUS_STATE 0 = 2 ∨ s.dev.get CAP_STATUS_STATE 0 = 3)) ∧ s.dev.flag .capDrain 0 = true ∧ g + 1 < (s.dev.v .capRegSize 0).toNat ∧ pos < base + (g + 1) * 16384)
    ∧ (∃ (s : State) (base : Nat) (g : Nat), base = (s.dev.v .capBase 0).toNat ∧ g = ((s.dev.v .capDrained 0).toNat - base) / 16384 ∧ s.dev.get CAP_STATUS_STATE 0 = 2 ∧ s.dev.flag .capDrain 0 = true ∧ (s.dev.v .capRegSize 0).toNat ≤ g + 1 ∧ base + s.dev.capLimit < (s.dev.v .capPos 0).toNat)
    ∧ (∃ (s : State) (base : Nat) (g : Nat), base = (s.dev.v .capBase 0).toNat ∧ g = ((s.dev.v .capDrained 0).toNat - base) / 16384 ∧ s.dev.flag .capDrain 0 = true ∧ (s.dev.v .capRegSize 0).toNat ≤ g + 1 ∧ (s.dev.v .capPos 0).toNat ≤ base + s.dev.capLimit)
    ∧ (∃ (s : State), ((s.dev.flag .capDrain 0 = false ∨ (s.dev.get CAP_STATUS_STATE 0 ≠ 2 ∧ s.dev.get CAP_STATUS_STATE 0 ≠ 3))))
    ∧ (∃ (s : State), s.dev.get CAP_STATUS_STATE 0 = 3)
    ∧ (∃ (s : State), s.dev.get CAP_STATUS_STATE 0 ≠ 3) :=
   ⟨⟨stOf rich [(CAP_STATUS_STATE, 0, 0), (CAP_CTRL_DRAIN, 0, 0), (CAP_LEN_UNITS, 0, 100), (CAP_PRE_UNITS, 0, 10), (CAP_STREAM_EN, 0, 0), (CAP_STREAM_EN, 1, 0), (CAP_STREAM_EN, 2, 1), (CAP_STREAM_EN, 3, 0), (CAP_STREAM_EN, 4, 0), (CAP_STREAM_EN, 5, 0), (CAP_STREAM_EN, 6, 0), (CAP_STREAM_EN, 7, 0), (CAP_STREAM_EN, 8, 0), (CAP_STREAM_EN, 9, 0), (CAP_STREAM_EN, 10, 0), (CAP_STREAM_EN, 11, 0), (CAP_STREAM_EN, 12, 0), (CAP_STREAM_EN, 13, 0), (CAP_STREAM_EN, 14, 0), (CAP_STREAM_EN, 15, 0), (CAP_STREAM_SOURCE, 2, 1), (CAP_STREAM_LANE, 2, 1)] [], by decide +kernel⟩,
    ⟨stOf Dev.reset [(CAP_STATUS_STATE, 0, 2)] [], by decide +kernel⟩,
    ⟨{ (stOf Dev.reset [(CAP_STATUS_STATE, 0, 1), (CAP_STREAM_SOURCE, 2, 0), (CAP_STREAM_LANE, 2, 1), (CAP_STREAM_EN, 2, 1)] [(.capPos, 0, 5), (.capIdx, 2, 7)]) with dev := { ((stOf Dev.reset [(CAP_STATUS_STATE, 0, 1), (CAP_STREAM_SOURCE, 2, 0), (CAP_STREAM_LANE, 2, 1), (CAP_STREAM_EN, 2, 1)] [(.capPos, 0, 5), (.capIdx, 2, 7)])).dev with capQ := [{ stream := 2, src := 0, lane := 1, stamp := 777, skip := 0, vals := [1, 2, 3] }], capGaps := [] } }, 2, 2, { stream := 2, src := 0, lane := 1, stamp := 777, skip := 0, vals := [1, 2, 3] }, _, _, _, _, rfl, rfl, rfl, rfl, by decide +kernel⟩,
    ⟨{ (stOf Dev.reset [(CAP_STATUS_STATE, 0, 1), (CAP_STREAM_SOURCE, 2, 0), (CAP_STREAM_LANE, 2, 1), (CAP_STREAM_EN, 2, 1)] [(.capPos, 0, 5), (.capIdx, 2, 7)]) with dev := { ((stOf Dev.reset [(CAP_STATUS_STATE, 0, 1), (CAP_STREAM_SOURCE, 2, 0), (CAP_STREAM_LANE, 2, 1), (CAP_STREAM_EN, 2, 1)] [(.capPos, 0, 5), (.capIdx, 2, 7)])).dev with capQ := [{ stream := 2, src := 0, lane := 1, stamp := 777, skip := 0, vals := [1, 2, 3] }], capGaps := [] } }, 2, 7, { stream := 2, src := 0, lane := 1, stamp := 777, skip := 0, vals := [1, 2, 3] }, _, rfl, by decide +kernel⟩,
    ⟨{ (stOf Dev.reset [(CAP_STATUS_STATE, 0, 1), (CAP_STREAM_SOURCE, 2, 0), (CAP_STREAM_LANE, 2, 1), (CAP_STREAM_EN, 2, 1), (LL_ADC_STATUS_READY, 1, 0)] [(.capPos, 0, 5), (.capIdx, 2, 7)]) with dev := { ((stOf Dev.reset [(CAP_STATUS_STATE, 0, 1), (CAP_STREAM_SOURCE, 2, 0), (CAP_STREAM_LANE, 2, 1), (CAP_STREAM_EN, 2, 1), (LL_ADC_STATUS_READY, 1, 0)] [(.capPos, 0, 5), (.capIdx, 2, 7)])).dev with capQ := [], capGaps := [] } }, 2, 7, _, rfl, by decide +kernel⟩,
    ⟨stOf Dev.reset [(CAP_STREAM_EN, 2, 0)] [], 2, by decide +kernel⟩,
    ⟨stOf Dev.reset [(CAP_STATUS_STATE, 0, 2)] [(.capPos, 0, 9), (.capBase, 0, 5), (.capDrain, 0, 1), (.capRegBase, 0, 3), (.capRegSize, 0, 2)], by decide +kernel⟩,
    ⟨stOf Dev.reset [(CAP_STATUS_STATE, 0, 2)] [(.capDrain, 0, 0), (.capPos, 0, 9), (.capBase, 0, 5)], _, _, rfl, rfl, by decide +kernel⟩,
    ⟨stOf Dev.reset [(CAP_STATUS_STATE, 0, 4)] [], by decide +kernel⟩,
    ⟨stOf Dev.reset [(CAP_STATUS_STATE, 0, 2), (CAP_LEN_UNITS, 0, 3)] [(.capPos, 0, 9), (.capBase, 0, 5)], by decide +kernel⟩,
    ⟨stOf Dev.reset [(CAP_STATUS_STATE, 0, 2), (CAP_LEN_UNITS, 0, 3)] [(.capDrain, 0, 0), (.capPos, 0, 9), (.capBase, 0, 5)], _, _, rfl, rfl, by decide +kernel⟩,
    ⟨stOf Dev.reset [(CAP_STATUS_STATE, 0, 1)] [], by decide +kernel⟩,
    ⟨stOf Dev.reset [(CAP_STATUS_STATE, 0, 3)] [(.capDrain, 0, 1), (.capPos, 0, 16400), (.capBase, 0, 5), (.capDrained, 0, 16385), (.capRegSize, 0, 10), (.capRegBase, 0, 3)], _, _, _, _, rfl, rfl, rfl, rfl, by decide +kernel⟩,
    ⟨stOf Dev.reset [(CAP_STATUS_STATE, 0, 3)] [(.capDrain, 0, 1), (.capPos, 0, 5000), (.capBase, 0, 5), (.capDrained, 0, 1000), (.capRegSize, 0, 10), (.capRegBase, 0, 3)], _, _, _, rfl, rfl, rfl, by decide +kernel⟩,
    ⟨{ (stOf Dev.reset [(CAP_STATUS_STATE, 0, 2)] [(.capDrain, 0, 1), (.capPos, 0, 16380), (.capBase, 0, 5), (.capDrained, 0, 16300), (.capRegSize, 0, 1), (.capRegBase, 0, 3)]) with dev := { ((stOf Dev.reset [(CAP_STATUS_STATE, 0, 2)] [(.capDrain, 0, 1), (.capPos, 0, 16380), (.capBase, 0, 5), (.capDrained, 0, 16300), (.capRegSize, 0, 1), (.capRegBase, 0, 3)])).dev with capRecs := [16300, 16310, 16320, 16370] } }, _, _, rfl, rfl, by decide +kernel⟩,
    ⟨stOf Dev.reset [] [(.capDrain, 0, 1), (.capPos, 0, 10), (.capBase, 0, 5), (.capDrained, 0, 6), (.capRegSize, 0, 1), (.capRegBase, 0, 3)], _, _, rfl, rfl, by decide +kernel⟩,
    ⟨stOf Dev.reset [] [(.capDrain, 0, 0)], by decide +kernel⟩,
    ⟨stOf Dev.reset [(CAP_STATUS_STATE, 0, 3)] [(.capPos, 0, 9), (.capBase, 0, 5), (.capDrained, 0, 5), (.capRegSize, 0, 10), (.capRegBase, 0, 3)], by decide +kernel⟩,
    ⟨stOf Dev.reset [(CAP_STATUS_STATE, 0, 2)] [], by decide +kernel⟩⟩

/-- The hypotheses of `Obligations.TriggerBus`, clause by clause. -/
theorem witness_TriggerBus :
    (∃ (s : State) (w : Word) (typ : Nat) (tag : Nat), typ = w.toNat % 4 ∧ tag = (if typ = 1 then 0 else if typ = 2 then w.toNat / 4 % 2 else w.toNat / 4 % 64) ∧ w.toNat.testBit 8 = true ∧ typ ≠ 3 ∧ s.dev.on TRG_CTRL_ROLE 0 = true ∧ s.dev.trigbQ.length < 4)
    ∧ (∃ (s : State) (w : Word), w.toNat.testBit 8 = true ∧ ((w.toNat % 4 = 3 ∨ s.dev.on TRG_CTRL_ROLE 0 = false ∨ 4 ≤ s.dev.trigbQ.length)))
    ∧ (∃ (s : State) (w : Word), w.toNat.testBit 8 = false)
    ∧ (∃ (s : State) (typ : Nat) (tag : Nat) (rest : List (Nat × Nat)), s.dev.trigbQ = (typ, tag) :: rest ∧ typ ≠ 3)
    ∧ (∃ (s : State) (tag : Nat) (rest : List (Nat × Nat)), s.dev.trigbQ = (3, tag) :: rest)
    ∧ (∃ (s : State), s.dev.trigbQ = [])
    ∧ (∃ (s : State) (bits : BitVec 11) (bad : Bool), bad = ((List.range 9).foldl (fun a k => a != bits.getMsbD (1 + k)) false || bits.getMsbD 10) ∧ s.dev.on TRG_CTRL_EN 0 = true ∧ bad = true)
    ∧ (∃ (s : State) (bits : BitVec 11) (bad : Bool) (typ : Nat) (tag : Nat), bad = ((List.range 9).foldl (fun a k => a != bits.getMsbD (1 + k)) false || bits.getMsbD 10) ∧ typ = bits.toNat / 2 ^ 8 % 4 ∧ tag = bits.toNat / 2 ^ 2 % 64 ∧ s.dev.on TRG_CTRL_EN 0 = true ∧ bad = false ∧ typ ≠ 3)
    ∧ (∃ (s : State) (bits : BitVec 11) (bad : Bool) (typ : Nat) (tag : Nat), bad = ((List.range 9).foldl (fun a k => a != bits.getMsbD (1 + k)) false || bits.getMsbD 10) ∧ typ = bits.toNat / 2 ^ 8 % 4 ∧ tag = bits.toNat / 2 ^ 2 % 64 ∧ s.dev.on TRG_CTRL_EN 0 = true ∧ bad = false ∧ typ = 3)
    ∧ (∃ (s : State), s.dev.on TRG_CTRL_EN 0 = false)
    ∧ (∃ (s : State) (tag : Nat) (un : Bool) (rest : List (Nat × Nat × Bool)), s.dev.busEvs = (0, tag, un) :: rest ∧ tag = s.dev.get CAP_CTRL_BUS_TAG 0)
    ∧ (∃ (s : State) (tag : Nat) (un : Bool) (rest : List (Nat × Nat × Bool)), s.dev.busEvs = (0, tag, un) :: rest ∧ tag ≠ s.dev.get CAP_CTRL_BUS_TAG 0)
    ∧ (∃ (s : State) (tag : Nat) (un : Bool) (rest : List (Nat × Nat × Bool)), s.dev.busEvs = (1, tag, un) :: rest ∧ s.dev.on SB_CTRL_TRG_SYNC 0 = true)
    ∧ (∃ (s : State) (tag : Nat) (un : Bool) (rest : List (Nat × Nat × Bool)), s.dev.busEvs = (1, tag, un) :: rest ∧ s.dev.on SB_CTRL_TRG_SYNC 0 = false)
    ∧ (∃ (s : State) (typ : Nat) (tag : Nat) (un : Bool) (rest : List (Nat × Nat × Bool)), s.dev.busEvs = (typ, tag, un) :: rest ∧ 2 ≤ typ)
    ∧ (∃ (s : State), s.dev.busEvs = []) :=
   ⟨⟨stOf Dev.reset [(TRG_CTRL_ROLE, 0, 1)] [], 0x1FE#32, _, _, rfl, rfl, by decide +kernel⟩,
    ⟨stOf Dev.reset [] [], 0x1FF#32, by decide +kernel⟩,
    ⟨stOf Dev.reset [] [], 0x0FE#32, by decide +kernel⟩,
    ⟨{ (stOf Dev.reset [] []) with dev := { ((stOf Dev.reset [] [])).dev with trigbQ := [(1, 2)] } }, 1, 2, [], by decide +kernel⟩,
    ⟨{ (stOf Dev.reset [] []) with dev := { ((stOf Dev.reset [] [])).dev with trigbQ := [(3, 2), (1, 1)] } }, 2, [(1, 1)], by decide +kernel⟩,
    ⟨stOf Dev.reset [] [], by decide +kernel⟩,
    ⟨stOf Dev.reset [(TRG_CTRL_EN, 0, 1)] [], 0b10000000100#11, _, rfl, by decide +kernel⟩,
    ⟨stOf Dev.reset [(TRG_CTRL_EN, 0, 1)] [], 0b10000000110#11, _, _, _, rfl, rfl, rfl, by decide +kernel⟩,
    ⟨stOf Dev.reset [(TRG_CTRL_EN, 0, 1)] [], 0b11100000000#11, _, _, _, rfl, rfl, rfl, by decide +kernel⟩,
    ⟨stOf Dev.reset [(TRG_CTRL_EN, 0, 0)] [], by decide +kernel⟩,
    ⟨{ (stOf Dev.reset [(CAP_CTRL_BUS_TAG, 0, 3), (CAP_CTRL_MODE, 0, 1), (CAP_STATUS_STATE, 0, 1)] []) with dev := { ((stOf Dev.reset [(CAP_CTRL_BUS_TAG, 0, 3), (CAP_CTRL_MODE, 0, 1), (CAP_STATUS_STATE, 0, 1)] [])).dev with busEvs := [(0, 3, true)] } }, 3, true, [], by decide +kernel⟩,
    ⟨{ (stOf Dev.reset [(CAP_CTRL_BUS_TAG, 0, 4)] []) with dev := { ((stOf Dev.reset [(CAP_CTRL_BUS_TAG, 0, 4)] [])).dev with busEvs := [(0, 3, true)] } }, 3, true, [], by decide +kernel⟩,
    ⟨{ (stOf Dev.reset [(SB_CTRL_TRG_SYNC, 0, 1)] []) with dev := { ((stOf Dev.reset [(SB_CTRL_TRG_SYNC, 0, 1)] [])).dev with busEvs := [(1, 0, true)] } }, 0, true, [], by decide +kernel⟩,
    ⟨{ (stOf Dev.reset [(SB_CTRL_TRG_SYNC, 0, 0)] []) with dev := { ((stOf Dev.reset [(SB_CTRL_TRG_SYNC, 0, 0)] [])).dev with busEvs := [(1, 0, true)] } }, 0, true, [], by decide +kernel⟩,
    ⟨{ (stOf Dev.reset [] []) with dev := { ((stOf Dev.reset [] [])).dev with busEvs := [(2, 1, true)] } }, 2, 1, true, [], by decide +kernel⟩,
    ⟨stOf Dev.reset [] [], by decide +kernel⟩⟩

/-- The hypotheses of `Obligations.BusCalibration`, clause by clause. -/
theorem witness_BusCalibration :
    (∃ (s : State), s.dev.on TRG_CTRL_ROLE 0 = true ∧ s.dev.on TRG_STATUS_CAL_BUSY 0 = false ∧ s.dev.trigbQ.length < 4)
    ∧ (∃ (s : State), s.dev.on TRG_CTRL_ROLE 0 = true ∧ s.dev.on TRG_STATUS_CAL_BUSY 0 = false ∧ 4 ≤ s.dev.trigbQ.length)
    ∧ (∃ (s : State), ((s.dev.on TRG_CTRL_ROLE 0 = false ∨ s.dev.on TRG_STATUS_CAL_BUSY 0 = true)))
    ∧ (∃ (s : State), s.dev.v .trgCal 0 = 1)
    ∧ (∃ (s : State), s.dev.v .trgCal 0 = 4)
    ∧ (∃ (s : State) (r : Nat) (x : Int), x = rdiv ((r : Int) - 256000) 20 ∧ s.dev.v .trgCal 0 = 2 ∧ 0 ≤ x ∧ x ≤ (s.dev.dmax : Int))
    ∧ (∃ (s : State) (r : Nat) (x : Int), x = rdiv ((r : Int) - 256000) 20 ∧ s.dev.v .trgCal 0 = 2 ∧ ((x < 0 ∨ (s.dev.dmax : Int) < x)))
    ∧ (∃ (s : State), s.dev.v .trgCal 0 = 2)
    ∧ (∃ (s : State), s.dev.v .trgCal 0 = 3)
    ∧ (∃ (s : State), s.dev.v .trgCal 0 ≠ 1)
    ∧ (∃ (s : State), s.dev.v .trgCal 0 ≠ 4)
    ∧ (∃ (s : State), s.dev.v .trgCal 0 ≠ 2)
    ∧ (∃ (s : State), s.dev.v .trgCal 0 ≠ 2 ∧ s.dev.v .trgCal 0 ≠ 3) :=
   ⟨⟨stOf Dev.reset [(TRG_CTRL_ROLE, 0, 1), (TRG_STATUS_CAL_BUSY, 0, 0)] [], by decide +kernel⟩,
    ⟨(fun (dev : Fin 64) => { (stOf Dev.reset [(TRG_CTRL_ROLE, 0, 1), (TRG_STATUS_CAL_BUSY, 0, 0)] []) with dev := { ((stOf Dev.reset [(TRG_CTRL_ROLE, 0, 1), (TRG_STATUS_CAL_BUSY, 0, 0)] [])).dev with trigbQ := [(1, 2), (1, 2), (1, 2), (1, 2)] } }) (63), by decide +kernel⟩,
    ⟨stOf Dev.reset [] [], by decide +kernel⟩,
    ⟨stOf Dev.reset [] [(.trgCal, 0, 1)], by decide +kernel⟩,
    ⟨stOf Dev.reset [] [(.trgCal, 0, 4)], by decide +kernel⟩,
    ⟨stOf Dev.reset [(TRG_ALIGN_DMAX, 0, 500)] [(.trgCal, 0, 2)], 256100, _, rfl, by decide +kernel⟩,
    ⟨stOf Dev.reset [(TRG_ALIGN_DMAX, 0, 500)] [(.trgCal, 0, 2)], 956100, _, rfl, by decide +kernel⟩,
    ⟨stOf Dev.reset [] [(.trgCal, 0, 2)], by decide +kernel⟩,
    ⟨stOf Dev.reset [] [(.trgCal, 0, 3)], by decide +kernel⟩,
    ⟨stOf Dev.reset [] [], by decide +kernel⟩,
    ⟨stOf Dev.reset [] [], by decide +kernel⟩,
    ⟨stOf Dev.reset [] [], by decide +kernel⟩,
    ⟨stOf Dev.reset [] [], by decide +kernel⟩⟩

/-- The hypotheses of `Obligations.MemoryErasureAndFill`, clause by clause. -/
theorem witness_MemoryErasureAndFill :
    (∃ (s : State), s.dev.on MEM_STATUS_ZFILL 0 = true)
    ∧ (∃ (s : State), s.dev.on MEM_STATUS_ZFILL 0 = false)
    ∧ (∃ (s : State), s.dev.on MEM_STATUS_WIPE 0 = true)
    ∧ (∃ (s : State), s.dev.on MEM_STATUS_WIPE 0 = false)
    ∧ (∃ (s : State), s.dev.fillErr = 0)
    ∧ (∃ (s : State), s.dev.fillErr ≠ 0)
    ∧ (∃ (s : State) (g : Nat), g = s.dev.get MEM_FILL_STATUS_NEXT 0 ∧ s.dev.on MEM_FILL_STATUS_BUSY 0 = true)
    ∧ (∃ (s : State) (g : Nat), g = s.dev.get MEM_FILL_STATUS_NEXT 0 ∧ s.dev.on MEM_FILL_STATUS_BUSY 0 = true ∧ g < 0x2_0000 ∧ s.dev.divertedIn g = [])
    ∧ (∃ (s : State), s.dev.on MEM_FILL_STATUS_BUSY 0 = false)
    ∧ (∃ (s : State), s.dev.on MEM_FILL_STATUS_BUSY 0 = true)
    ∧ (∃ (s : State) (lines : Nat) (g : Nat), g = s.dev.get MEM_FILL_STATUS_NEXT 0 ∧ s.dev.on MEM_FILL_STATUS_BUSY 0 = true ∧ g < 0x2_0000 ∧ s.dev.divertedIn g = [] ∧ lines ≤ 16384)
    ∧ (∃ (s : State), s.dev.on MEM_FILL_STATUS_BUSY 0 = false) :=
   ⟨⟨stOf Dev.reset [(MEM_STATUS_ZFILL, 0, 1)] [], by decide +kernel⟩,
    ⟨stOf Dev.reset [(MEM_STATUS_ZFILL, 0, 0)] [], by decide +kernel⟩,
    ⟨stOf Dev.reset [(MEM_STATUS_WIPE, 0, 1)] [], by decide +kernel⟩,
    ⟨stOf Dev.reset [(MEM_STATUS_WIPE, 0, 0)] [], by decide +kernel⟩,
    ⟨stOf Dev.reset [(MEM_STATUS_FITTED, 0, 3), (MEM_STATUS_TRAINED, 0, 3), (MEM_GRANULES_COUNT, 0, 8000), (MEM_STATUS_WIPE, 0, 0), (MEM_FILL_STATUS_BUSY, 0, 0), (MEM_FILL_COUNT_GRANULE, 0, 5), (MEM_FILL_BASE_GRANULE, 0, 7), (CAP_STATUS_STATE, 0, 0)] [], by decide +kernel⟩,
    ⟨stOf Dev.reset [(MEM_FILL_STATUS_BUSY, 0, 1)] [], by decide +kernel⟩,
    ⟨stOf Dev.reset [(MEM_FILL_STATUS_BUSY, 0, 1), (MEM_FILL_STATUS_NEXT, 0, 7)] [(.remap, 0, 0), (.remap, 1, 0), (.remap, 2, 0), (.remap, 3, 0), (.remap, 4, 0), (.remap, 5, 0), (.remap, 6, 0), (.remap, 7, 0), (.remap, 8, 0), (.remap, 9, 0), (.remap, 10, 0), (.remap, 11, 0), (.remap, 12, 0), (.remap, 13, 0), (.remap, 14, 0), (.remap, 15, 0), (.fillEnd, 0, 8)], _, rfl, by decide +kernel⟩,
    ⟨stOf Dev.reset [(MEM_FILL_STATUS_BUSY, 0, 1), (MEM_FILL_STATUS_NEXT, 0, 7)] [(.remap, 0, 0), (.remap, 1, 0), (.remap, 2, 0), (.remap, 3, 0), (.remap, 4, 0), (.remap, 5, 0), (.remap, 6, 0), (.remap, 7, 0), (.remap, 8, 0), (.remap, 9, 0), (.remap, 10, 0), (.remap, 11, 0), (.remap, 12, 0), (.remap, 13, 0), (.remap, 14, 0), (.remap, 15, 0), (.fillEnd, 0, 8)], _, rfl, by decide +kernel⟩,
    ⟨stOf Dev.reset [(MEM_FILL_STATUS_BUSY, 0, 0)] [], by decide +kernel⟩,
    ⟨stOf Dev.reset [(MEM_FILL_STATUS_BUSY, 0, 1), (MEM_FILL_STATUS_NEXT, 0, 7)] [(.remap, 0, 0), (.remap, 1, 0), (.remap, 2, 0), (.remap, 3, 0), (.remap, 4, 0), (.remap, 5, 0), (.remap, 6, 0), (.remap, 7, 0), (.remap, 8, 0), (.remap, 9, 0), (.remap, 10, 0), (.remap, 11, 0), (.remap, 12, 0), (.remap, 13, 0), (.remap, 14, 0), (.remap, 15, 0)], by decide +kernel⟩,
    ⟨stOf Dev.reset [(MEM_FILL_STATUS_BUSY, 0, 1), (MEM_FILL_STATUS_NEXT, 0, 7)] [(.remap, 0, 0), (.remap, 1, 0), (.remap, 2, 0), (.remap, 3, 0), (.remap, 4, 0), (.remap, 5, 0), (.remap, 6, 0), (.remap, 7, 0), (.remap, 8, 0), (.remap, 9, 0), (.remap, 10, 0), (.remap, 11, 0), (.remap, 12, 0), (.remap, 13, 0), (.remap, 14, 0), (.remap, 15, 0)], 3, _, rfl, by decide +kernel⟩,
    ⟨stOf Dev.reset [(MEM_FILL_STATUS_BUSY, 0, 0)] [], by decide +kernel⟩⟩

/-- The hypotheses of `Obligations.MemoryWrites`, clause by clause. -/
theorem witness_MemoryWrites :
    (∃ (s : State) (a : Nat), region a ≠ .regs ∧ ((region a = .unmapped ∨ s.dev.isOff a = true)) ∧ s.dev.on TOP_ACCESS_INFO_OFF_EV 0 = false ∧ s.dev.on TOP_ACCESS_INFO_UNMAP_EV 0 = false)
    ∧ (∃ (s : State) (a : Nat), region a ≠ .regs ∧ ((region a = .unmapped ∨ s.dev.isOff a = true)) ∧ ((s.dev.on TOP_ACCESS_INFO_OFF_EV 0 = true ∨ s.dev.on TOP_ACCESS_INFO_UNMAP_EV 0 = true)))
    ∧ (∃ (s : State) (init : Fin 16) (a : Nat), ((region a = .regs ∨ (region a = .rom ∧ s.dev.isOff a = false) ∨ (region a = .sram ∧ s.dev.isOff a = false ∧ shadowBase ≤ a ∧ init.val ≠ 8))))
    ∧ (∃ (s : State) (a : Nat), region a = .stone ∧ s.dev.isOff a = false)
    ∧ (∃ (s : State) (init : Fin 16) (a : Nat) (data : List Byte), ((region a = .sram ∨ region a = .cap ∨ region a = .lp)) ∧ s.dev.isOff a = false ∧ ((region a = .sram → a < shadowBase ∨ init.val = 8)) ∧ data ≠ [] ∧ a % unitSize a + data.length ≤ unitSize a ∧ ((s.dev.filling (unitOf a) = true ∨ (region a = .lp ∧ s.dev.isRsvd (unitOf a) = true))) ∧ s.dev.on MEM_ACC_LOG_HI_ACC_EV 0 = false)
    ∧ (∃ (s : State) (init : Fin 16) (a : Nat) (data : List Byte), ((region a = .sram ∨ region a = .cap ∨ region a = .lp)) ∧ s.dev.isOff a = false ∧ ((region a = .sram → a < shadowBase ∨ init.val = 8)) ∧ a % unitSize a = 0 ∧ data.length = unitSize a ∧ s.dev.filling a = false ∧ ((region a = .lp → s.dev.isRsvd a = false)))
    ∧ (∃ (s : State) (init : Fin 16) (a : Nat) (data : List Byte) (u : Nat), u = unitOf a ∧ ((region a = .sram ∨ region a = .lp)) ∧ s.dev.isOff a = false ∧ ((region a = .sram → a < shadowBase ∨ init.val = 8)) ∧ data ≠ [] ∧ a % unitSize a + data.length ≤ unitSize a ∧ data.length < unitSize a ∧ s.dev.filling u = false ∧ ((region a = .lp → s.dev.isRsvd u = false)) ∧ s.dev.merge.find? (fun e => e.unit == u) = none ∧ (s.dev.merge.filter (fun e => e.lp == decide (region u = .lp))).length < (if region u = .lp then 16 else 4))
    ∧ (∃ (s : State) (init : Fin 16) (a : Nat) (data : List Byte) (e : MergeEnt) (rest : List MergeEnt) (u : Nat), u = unitOf a ∧ ((region a = .sram ∨ region a = .lp)) ∧ s.dev.isOff a = false ∧ ((region a = .sram → a < shadowBase ∨ init.val = 8)) ∧ data ≠ [] ∧ a % unitSize a + data.length ≤ unitSize a ∧ data.length < unitSize a ∧ s.dev.filling u = false ∧ ((region a = .lp → s.dev.isRsvd u = false)) ∧ s.dev.merge.find? (fun x => x.unit == u) = none ∧ s.dev.merge.filter (fun x => x.lp == decide (region u = .lp)) = e :: rest ∧ (if region u = .lp then 16 else 4) ≤ (e :: rest).length)
    ∧ (∃ (s : State) (init : Fin 16) (a : Nat) (data : List Byte) (e : MergeEnt) (u : Nat) (b : List (Option Byte)), u = unitOf a ∧ b = overlay e.bytes (unitPart a data u (unitSize a)) ∧ ((region a = .sram ∨ region a = .lp)) ∧ s.dev.isOff a = false ∧ ((region a = .sram → a < shadowBase ∨ init.val = 8)) ∧ data ≠ [] ∧ a % unitSize a + data.length ≤ unitSize a ∧ data.length < unitSize a ∧ s.dev.filling u = false ∧ ((region a = .lp → s.dev.isRsvd u = false)) ∧ s.dev.merge.find? (fun x => x.unit == u) = some e ∧ b.all (·.isSome) = false)
    ∧ (∃ (s : State) (init : Fin 16) (a : Nat) (data : List Byte) (e : MergeEnt) (u : Nat) (b : List (Option Byte)), u = unitOf a ∧ b = overlay e.bytes (unitPart a data u (unitSize a)) ∧ ((region a = .sram ∨ region a = .lp)) ∧ s.dev.isOff a = false ∧ ((region a = .sram → a < shadowBase ∨ init.val = 8)) ∧ data ≠ [] ∧ a % unitSize a + data.length ≤ unitSize a ∧ data.length < unitSize a ∧ s.dev.filling u = false ∧ ((region a = .lp → s.dev.isRsvd u = false)) ∧ s.dev.merge.find? (fun x => x.unit == u) = some e ∧ b.all (·.isSome) = true)
    ∧ (∃ (s : State) (a : Nat) (data : List Byte), region a = .cap ∧ s.dev.isOff a = false ∧ data ≠ [] ∧ a % 8 + data.length ≤ 8 ∧ data.length < 8 ∧ s.dev.filling (unitOf a) = false)
    ∧ (∃ (s : State) (a : Nat), s.dev.merge.find? (fun e => e.unit == unitOf a) = none)
    ∧ (∃ (s : State) (a : Nat) (e : MergeEnt) (u : Nat) (k : Nat), u = unitOf a ∧ k = s.dev.phys u ∧ s.dev.merge.find? (fun e => e.unit == unitOf a) = some e ∧ ((e.bytes.all (·.isSome) = true ∨ (region u = .lp ∧ s.mem.marked.contains (granuleOf u) = false))))
    ∧ (∃ (s : State) (a : Nat) (f : EccFind) (e : MergeEnt) (u : Nat) (k : Nat), u = unitOf a ∧ k = s.dev.phys u ∧ s.dev.merge.find? (fun e => e.unit == unitOf a) = some e ∧ e.bytes.all (·.isSome) = false ∧ ((region u = .lp → s.mem.marked.contains (granuleOf u) = true)) ∧ ((k ∈ s.mem.poison ∨ f = .clean)))
    ∧ (∃ (s : State) (a : Nat) (e : MergeEnt) (u : Nat) (k : Nat), u = unitOf a ∧ k = s.dev.phys u ∧ s.dev.merge.find? (fun e => e.unit == unitOf a) = some e ∧ e.bytes.all (·.isSome) = false ∧ ((region u = .lp → s.mem.marked.contains (granuleOf u) = true)) ∧ k ∉ s.mem.poison)
    ∧ (∃ (s : State) (a : Nat) (e : MergeEnt) (u : Nat) (k : Nat), u = unitOf a ∧ k = s.dev.phys u ∧ s.dev.merge.find? (fun e => e.unit == unitOf a) = some e ∧ e.bytes.all (·.isSome) = false ∧ ((region u = .lp → s.mem.marked.contains (granuleOf u) = true)) ∧ k ∉ s.mem.poison)
    ∧ (∃ (s : State) (a : Nat) (e : MergeEnt) (u : Nat) (k : Nat), u = unitOf a ∧ k = s.dev.phys u ∧ s.dev.merge.find? (fun e => e.unit == unitOf a) = some e ∧ e.bytes.all (·.isSome) = false ∧ ((region u = .lp → s.mem.marked.contains (granuleOf u) = true)) ∧ k ∉ s.mem.poison)
    ∧ (∃ (s : State) (target : Fin 31) (init : Fin 31) (tg : Byte) (ig : Byte), s.dev.genOf target = tg.toNat ∧ s.dev.genOf init = ig.toNat)
    ∧ (∃ (s : State) (target : Fin 31) (init : Fin 31) (tg : Byte) (ig : Byte), ((s.dev.genOf target ≠ tg.toNat ∨ s.dev.genOf init ≠ ig.toNat))) :=
   ⟨⟨stOf Dev.reset [(TOP_ACCESS_INFO_OFF_EV, 0, 0), (TOP_ACCESS_INFO_UNMAP_EV, 0, 0)] [], 0x1800_0000, by decide +kernel⟩,
    ⟨stOf Dev.reset [(TOP_ACCESS_INFO_OFF_EV, 0, 1)] [], 0x1800_0000, by decide +kernel⟩,
    ⟨stOf Dev.reset [] [(.mspare, 0, 0), (.mspare, 1, 0), (.mspare, 2, 0), (.mspare, 3, 0), (.mspare, 4, 0), (.mspare, 5, 0), (.mspare, 6, 0), (.mspare, 7, 0), (.mspare, 8, 0), (.mspare, 9, 0), (.mspare, 10, 0), (.mspare, 11, 0), (.mspare, 12, 0), (.mspare, 13, 0), (.mspare, 14, 0), (.mspare, 15, 0), (.offMgmt, 0, 0), (.offBunch, 0, 0), (.lpSelf, 0, 0), (.remap, 0, 0), (.remap, 1, 0), (.remap, 2, 0), (.remap, 3, 0), (.remap, 4, 0), (.remap, 5, 0), (.remap, 6, 0), (.remap, 7, 0), (.remap, 8, 0), (.remap, 9, 0), (.remap, 10, 0), (.remap, 11, 0), (.remap, 12, 0), (.remap, 13, 0), (.remap, 14, 0), (.remap, 15, 0)], 2, 0x6000_0000, by decide +kernel⟩,
    ⟨stOf Dev.reset [] [(.mspare, 0, 0), (.mspare, 1, 0), (.mspare, 2, 0), (.mspare, 3, 0), (.mspare, 4, 0), (.mspare, 5, 0), (.mspare, 6, 0), (.mspare, 7, 0), (.mspare, 8, 0), (.mspare, 9, 0), (.mspare, 10, 0), (.mspare, 11, 0), (.mspare, 12, 0), (.mspare, 13, 0), (.mspare, 14, 0), (.mspare, 15, 0), (.offMgmt, 0, 0), (.offBunch, 0, 0), (.lpSelf, 0, 0), (.remap, 0, 0), (.remap, 1, 0), (.remap, 2, 0), (.remap, 3, 0), (.remap, 4, 0), (.remap, 5, 0), (.remap, 6, 0), (.remap, 7, 0), (.remap, 8, 0), (.remap, 9, 0), (.remap, 10, 0), (.remap, 11, 0), (.remap, 12, 0), (.remap, 13, 0), (.remap, 14, 0), (.remap, 15, 0)], stoneBase, by decide +kernel⟩,
    ⟨stOf Dev.reset [(MEM_ACC_LOG_HI_ACC_EV, 0, 0), (MEM_STATUS_ZFILL, 0, 1)] [(.mspare, 0, 0), (.mspare, 1, 0), (.mspare, 2, 0), (.mspare, 3, 0), (.mspare, 4, 0), (.mspare, 5, 0), (.mspare, 6, 0), (.mspare, 7, 0), (.mspare, 8, 0), (.mspare, 9, 0), (.mspare, 10, 0), (.mspare, 11, 0), (.mspare, 12, 0), (.mspare, 13, 0), (.mspare, 14, 0), (.mspare, 15, 0), (.offMgmt, 0, 0), (.offBunch, 0, 0), (.lpSelf, 0, 0), (.remap, 0, 0), (.remap, 1, 0), (.remap, 2, 0), (.remap, 3, 0), (.remap, 4, 0), (.remap, 5, 0), (.remap, 6, 0), (.remap, 7, 0), (.remap, 8, 0), (.remap, 9, 0), (.remap, 10, 0), (.remap, 11, 0), (.remap, 12, 0), (.remap, 13, 0), (.remap, 14, 0), (.remap, 15, 0)], 2, sramBase + 64, [1#8,2#8,3#8,4#8,5#8,6#8,7#8,8#8], by decide +kernel⟩,
    ⟨stOf Dev.reset [(MEM_STATUS_ZFILL, 0, 0), (MEM_STATUS_FITTED, 0, 3), (MEM_STATUS_TRAINED, 0, 3), (MEM_GRANULES_COUNT, 0, 8000), (MEM_STATUS_WIPE, 0, 0)] [(.mspare, 0, 0), (.mspare, 1, 0), (.mspare, 2, 0), (.mspare, 3, 0), (.mspare, 4, 0), (.mspare, 5, 0), (.mspare, 6, 0), (.mspare, 7, 0), (.mspare, 8, 0), (.mspare, 9, 0), (.mspare, 10, 0), (.mspare, 11, 0), (.mspare, 12, 0), (.mspare, 13, 0), (.mspare, 14, 0), (.mspare, 15, 0), (.offMgmt, 0, 0), (.offBunch, 0, 0), (.lpSelf, 0, 0), (.remap, 0, 0), (.remap, 1, 0), (.remap, 2, 0), (.remap, 3, 0), (.remap, 4, 0), (.remap, 5, 0), (.remap, 6, 0), (.remap, 7, 0), (.remap, 8, 0), (.remap, 9, 0), (.remap, 10, 0), (.remap, 11, 0), (.remap, 12, 0), (.remap, 13, 0), (.remap, 14, 0), (.remap, 15, 0)], 2, sramBase + 64, [1#8,2#8,3#8,4#8,5#8,6#8,7#8,8#8], by decide +kernel⟩,
    ⟨{ (stOf Dev.reset [(MEM_STATUS_ZFILL, 0, 0), (MEM_STATUS_FITTED, 0, 3), (MEM_STATUS_TRAINED, 0, 3), (MEM_GRANULES_COUNT, 0, 8000), (MEM_STATUS_WIPE, 0, 0)] [(.mspare, 0, 0), (.mspare, 1, 0), (.mspare, 2, 0), (.mspare, 3, 0), (.mspare, 4, 0), (.mspare, 5, 0), (.mspare, 6, 0), (.mspare, 7, 0), (.mspare, 8, 0), (.mspare, 9, 0), (.mspare, 10, 0), (.mspare, 11, 0), (.mspare, 12, 0), (.mspare, 13, 0), (.mspare, 14, 0), (.mspare, 15, 0), (.offMgmt, 0, 0), (.offBunch, 0, 0), (.lpSelf, 0, 0), (.remap, 0, 0), (.remap, 1, 0), (.remap, 2, 0), (.remap, 3, 0), (.remap, 4, 0), (.remap, 5, 0), (.remap, 6, 0), (.remap, 7, 0), (.remap, 8, 0), (.remap, 9, 0), (.remap, 10, 0), (.remap, 11, 0), (.remap, 12, 0), (.remap, 13, 0), (.remap, 14, 0), (.remap, 15, 0)]) with dev := { ((stOf Dev.reset [(MEM_STATUS_ZFILL, 0, 0), (MEM_STATUS_FITTED, 0, 3), (MEM_STATUS_TRAINED, 0, 3), (MEM_GRANULES_COUNT, 0, 8000), (MEM_STATUS_WIPE, 0, 0)] [(.mspare, 0, 0), (.mspare, 1, 0), (.mspare, 2, 0), (.mspare, 3, 0), (.mspare, 4, 0), (.mspare, 5, 0), (.mspare, 6, 0), (.mspare, 7, 0), (.mspare, 8, 0), (.mspare, 9, 0), (.mspare, 10, 0), (.mspare, 11, 0), (.mspare, 12, 0), (.mspare, 13, 0), (.mspare, 14, 0), (.mspare, 15, 0), (.offMgmt, 0, 0), (.offBunch, 0, 0), (.lpSelf, 0, 0), (.remap, 0, 0), (.remap, 1, 0), (.remap, 2, 0), (.remap, 3, 0), (.remap, 4, 0), (.remap, 5, 0), (.remap, 6, 0), (.remap, 7, 0), (.remap, 8, 0), (.remap, 9, 0), (.remap, 10, 0), (.remap, 11, 0), (.remap, 12, 0), (.remap, 13, 0), (.remap, 14, 0), (.remap, 15, 0)])).dev with merge := [] } }, 2, lpBase + 65, [1#8, 2#8], _, rfl, by decide +kernel⟩,
    ⟨{ (stOf Dev.reset [(MEM_STATUS_ZFILL, 0, 0), (MEM_STATUS_FITTED, 0, 3), (MEM_STATUS_TRAINED, 0, 3), (MEM_GRANULES_COUNT, 0, 8000), (MEM_STATUS_WIPE, 0, 0)] [(.mspare, 0, 0), (.mspare, 1, 0), (.mspare, 2, 0), (.mspare, 3, 0), (.mspare, 4, 0), (.mspare, 5, 0), (.mspare, 6, 0), (.mspare, 7, 0), (.mspare, 8, 0), (.mspare, 9, 0), (.mspare, 10, 0), (.mspare, 11, 0), (.mspare, 12, 0), (.mspare, 13, 0), (.mspare, 14, 0), (.mspare, 15, 0), (.offMgmt, 0, 0), (.offBunch, 0, 0), (.lpSelf, 0, 0), (.remap, 0, 0), (.remap, 1, 0), (.remap, 2, 0), (.remap, 3, 0), (.remap, 4, 0), (.remap, 5, 0), (.remap, 6, 0), (.remap, 7, 0), (.remap, 8, 0), (.remap, 9, 0), (.remap, 10, 0), (.remap, 11, 0), (.remap, 12, 0), (.remap, 13, 0), (.remap, 14, 0), (.remap, 15, 0)]) with dev := { ((stOf Dev.reset [(MEM_STATUS_ZFILL, 0, 0), (MEM_STATUS_FITTED, 0, 3), (MEM_STATUS_TRAINED, 0, 3), (MEM_GRANULES_COUNT, 0, 8000), (MEM_STATUS_WIPE, 0, 0)] [(.mspare, 0, 0), (.mspare, 1, 0), (.mspare, 2, 0), (.mspare, 3, 0), (.mspare, 4, 0), (.mspare, 5, 0), (.mspare, 6, 0), (.mspare, 7, 0), (.mspare, 8, 0), (.mspare, 9, 0), (.mspare, 10, 0), (.mspare, 11, 0), (.mspare, 12, 0), (.mspare, 13, 0), (.mspare, 14, 0), (.mspare, 15, 0), (.offMgmt, 0, 0), (.offBunch, 0, 0), (.lpSelf, 0, 0), (.remap, 0, 0), (.remap, 1, 0), (.remap, 2, 0), (.remap, 3, 0), (.remap, 4, 0), (.remap, 5, 0), (.remap, 6, 0), (.remap, 7, 0), (.remap, 8, 0), (.remap, 9, 0), (.remap, 10, 0), (.remap, 11, 0), (.remap, 12, 0), (.remap, 13, 0), (.remap, 14, 0), (.remap, 15, 0)])).dev with merge := [⟨sramBase + 0, false, unitPart (sramBase + 0) [7#8] (sramBase + 0) 8⟩, ⟨sramBase + 8, false, unitPart (sramBase + 8) [7#8] (sramBase + 8) 8⟩, ⟨sramBase + 16, false, unitPart (sramBase + 16) [7#8] (sramBase + 16) 8⟩, ⟨sramBase + 24, false, unitPart (sramBase + 24) [7#8] (sramBase + 24) 8⟩] } }, 2, sramBase + 65, [1#8, 2#8], ⟨sramBase + 0, false, unitPart (sramBase + 0) [7#8] (sramBase + 0) 8⟩, [⟨sramBase + 8, false, unitPart (sramBase + 8) [7#8] (sramBase + 8) 8⟩, ⟨sramBase + 16, false, unitPart (sramBase + 16) [7#8] (sramBase + 16) 8⟩, ⟨sramBase + 24, false, unitPart (sramBase + 24) [7#8] (sramBase + 24) 8⟩], _, rfl, by decide +kernel⟩,
    ⟨{ (stOf Dev.reset [(MEM_STATUS_ZFILL, 0, 0), (MEM_STATUS_FITTED, 0, 3), (MEM_STATUS_TRAINED, 0, 3), (MEM_GRANULES_COUNT, 0, 8000), (MEM_STATUS_WIPE, 0, 0)] [(.mspare, 0, 0), (.mspare, 1, 0), (.mspare, 2, 0), (.mspare, 3, 0), (.mspare, 4, 0), (.mspare, 5, 0), (.mspare, 6, 0), (.mspare, 7, 0), (.mspare, 8, 0), (.mspare, 9, 0), (.mspare, 10, 0), (.mspare, 11, 0), (.mspare, 12, 0), (.mspare, 13, 0), (.mspare, 14, 0), (.mspare, 15, 0), (.offMgmt, 0, 0), (.offBunch, 0, 0), (.lpSelf, 0, 0), (.remap, 0, 0), (.remap, 1, 0), (.remap, 2, 0), (.remap, 3, 0), (.remap, 4, 0), (.remap, 5, 0), (.remap, 6, 0), (.remap, 7, 0), (.remap, 8, 0), (.remap, 9, 0), (.remap, 10, 0), (.remap, 11, 0), (.remap, 12, 0), (.remap, 13, 0), (.remap, 14, 0), (.remap, 15, 0)]) with dev := { ((stOf Dev.reset [(MEM_STATUS_ZFILL, 0, 0), (MEM_STATUS_FITTED, 0, 3), (MEM_STATUS_TRAINED, 0, 3), (MEM_GRANULES_COUNT, 0, 8000), (MEM_STATUS_WIPE, 0, 0)] [(.mspare, 0, 0), (.mspare, 1, 0), (.mspare, 2, 0), (.mspare, 3, 0), (.mspare, 4, 0), (.mspare, 5, 0), (.mspare, 6, 0), (.mspare, 7, 0), (.mspare, 8, 0), (.mspare, 9, 0), (.mspare, 10, 0), (.mspare, 11, 0), (.mspare, 12, 0), (.mspare, 13, 0), (.mspare, 14, 0), (.mspare, 15, 0), (.offMgmt, 0, 0), (.offBunch, 0, 0), (.lpSelf, 0, 0), (.remap, 0, 0), (.remap, 1, 0), (.remap, 2, 0), (.remap, 3, 0), (.remap, 4, 0), (.remap, 5, 0), (.remap, 6, 0), (.remap, 7, 0), (.remap, 8, 0), (.remap, 9, 0), (.remap, 10, 0), (.remap, 11, 0), (.remap, 12, 0), (.remap, 13, 0), (.remap, 14, 0), (.remap, 15, 0)])).dev with merge := [⟨sramBase + 0, false, unitPart (sramBase + 0) [7#8] (sramBase + 0) 8⟩, ⟨sramBase + 8, false, unitPart (sramBase + 8) [7#8] (sramBase + 8) 8⟩, ⟨sramBase + 16, false, unitPart (sramBase + 16) [7#8] (sramBase + 16) 8⟩, ⟨sramBase + 24, false, unitPart (sramBase + 24) [7#8] (sramBase + 24) 8⟩] } }, 2, sramBase + 9, [1#8, 2#8], ⟨sramBase + 8, false, unitPart (sramBase + 8) [7#8] (sramBase + 8) 8⟩, _, _, rfl, rfl, by decide +kernel⟩,
    ⟨{ (stOf Dev.reset [(MEM_STATUS_ZFILL, 0, 0), (MEM_STATUS_FITTED, 0, 3), (MEM_STATUS_TRAINED, 0, 3), (MEM_GRANULES_COUNT, 0, 8000), (MEM_STATUS_WIPE, 0, 0)] [(.mspare, 0, 0), (.mspare, 1, 0), (.mspare, 2, 0), (.mspare, 3, 0), (.mspare, 4, 0), (.mspare, 5, 0), (.mspare, 6, 0), (.mspare, 7, 0), (.mspare, 8, 0), (.mspare, 9, 0), (.mspare, 10, 0), (.mspare, 11, 0), (.mspare, 12, 0), (.mspare, 13, 0), (.mspare, 14, 0), (.mspare, 15, 0), (.offMgmt, 0, 0), (.offBunch, 0, 0), (.lpSelf, 0, 0), (.remap, 0, 0), (.remap, 1, 0), (.remap, 2, 0), (.remap, 3, 0), (.remap, 4, 0), (.remap, 5, 0), (.remap, 6, 0), (.remap, 7, 0), (.remap, 8, 0), (.remap, 9, 0), (.remap, 10, 0), (.remap, 11, 0), (.remap, 12, 0), (.remap, 13, 0), (.remap, 14, 0), (.remap, 15, 0)]) with dev := { ((stOf Dev.reset [(MEM_STATUS_ZFILL, 0, 0), (MEM_STATUS_FITTED, 0, 3), (MEM_STATUS_TRAINED, 0, 3), (MEM_GRANULES_COUNT, 0, 8000), (MEM_STATUS_WIPE, 0, 0)] [(.mspare, 0, 0), (.mspare, 1, 0), (.mspare, 2, 0), (.mspare, 3, 0), (.mspare, 4, 0), (.mspare, 5, 0), (.mspare, 6, 0), (.mspare, 7, 0), (.mspare, 8, 0), (.mspare, 9, 0), (.mspare, 10, 0), (.mspare, 11, 0), (.mspare, 12, 0), (.mspare, 13, 0), (.mspare, 14, 0), (.mspare, 15, 0), (.offMgmt, 0, 0), (.offBunch, 0, 0), (.lpSelf, 0, 0), (.remap, 0, 0), (.remap, 1, 0), (.remap, 2, 0), (.remap, 3, 0), (.remap, 4, 0), (.remap, 5, 0), (.remap, 6, 0), (.remap, 7, 0), (.remap, 8, 0), (.remap, 9, 0), (.remap, 10, 0), (.remap, 11, 0), (.remap, 12, 0), (.remap, 13, 0), (.remap, 14, 0), (.remap, 15, 0)])).dev with merge := [⟨sramBase + 0, false, unitPart (sramBase + 0) [7#8] (sramBase + 0) 8⟩, ⟨sramBase + 8, false, unitPart (sramBase + 8) [7#8] (sramBase + 8) 8⟩, ⟨sramBase + 16, false, unitPart (sramBase + 16) [7#8] (sramBase + 16) 8⟩, ⟨sramBase + 24, false, unitPart (sramBase + 24) [7#8] (sramBase + 24) 8⟩] } }, 2, sramBase + 9, [1#8, 2#8, 3#8, 4#8, 5#8, 6#8, 7#8], ⟨sramBase + 8, false, unitPart (sramBase + 8) [7#8] (sramBase + 8) 8⟩, _, _, rfl, rfl, by decide +kernel⟩,
    ⟨stOf Dev.reset [(MEM_STATUS_ZFILL, 0, 0), (MEM_STATUS_FITTED, 0, 3), (MEM_STATUS_TRAINED, 0, 3), (MEM_GRANULES_COUNT, 0, 8000), (MEM_STATUS_WIPE, 0, 0)] [(.mspare, 0, 0), (.mspare, 1, 0), (.mspare, 2, 0), (.mspare, 3, 0), (.mspare, 4, 0), (.mspare, 5, 0), (.mspare, 6, 0), (.mspare, 7, 0), (.mspare, 8, 0), (.mspare, 9, 0), (.mspare, 10, 0), (.mspare, 11, 0), (.mspare, 12, 0), (.mspare, 13, 0), (.mspare, 14, 0), (.mspare, 15, 0), (.offMgmt, 0, 0), (.offBunch, 0, 0), (.lpSelf, 0, 0), (.remap, 0, 0), (.remap, 1, 0), (.remap, 2, 0), (.remap, 3, 0), (.remap, 4, 0), (.remap, 5, 0), (.remap, 6, 0), (.remap, 7, 0), (.remap, 8, 0), (.remap, 9, 0), (.remap, 10, 0), (.remap, 11, 0), (.remap, 12, 0), (.remap, 13, 0), (.remap, 14, 0), (.remap, 15, 0)], capBase + 65, [1#8, 2#8], by decide +kernel⟩,
    ⟨{ (stOf Dev.reset [] []) with dev := { ((stOf Dev.reset [] [])).dev with merge := [] } }, sramBase + 65, by decide +kernel⟩,
    ⟨{ (stOf Dev.reset [(MEM_STATUS_ZFILL, 0, 0), (MEM_STATUS_FITTED, 0, 3), (MEM_STATUS_TRAINED, 0, 3), (MEM_GRANULES_COUNT, 0, 8000), (MEM_STATUS_WIPE, 0, 0)] [(.mspare, 0, 0), (.mspare, 1, 0), (.mspare, 2, 0), (.mspare, 3, 0), (.mspare, 4, 0), (.mspare, 5, 0), (.mspare, 6, 0), (.mspare, 7, 0), (.mspare, 8, 0), (.mspare, 9, 0), (.mspare, 10, 0), (.mspare, 11, 0), (.mspare, 12, 0), (.mspare, 13, 0), (.mspare, 14, 0), (.mspare, 15, 0), (.offMgmt, 0, 0), (.offBunch, 0, 0), (.lpSelf, 0, 0), (.remap, 0, 0), (.remap, 1, 0), (.remap, 2, 0), (.remap, 3, 0), (.remap, 4, 0), (.remap, 5, 0), (.remap, 6, 0), (.remap, 7, 0), (.remap, 8, 0), (.remap, 9, 0), (.remap, 10, 0), (.remap, 11, 0), (.remap, 12, 0), (.remap, 13, 0), (.remap, 14, 0), (.remap, 15, 0)]) with dev := { ((stOf Dev.reset [(MEM_STATUS_ZFILL, 0, 0), (MEM_STATUS_FITTED, 0, 3), (MEM_STATUS_TRAINED, 0, 3), (MEM_GRANULES_COUNT, 0, 8000), (MEM_STATUS_WIPE, 0, 0)] [(.mspare, 0, 0), (.mspare, 1, 0), (.mspare, 2, 0), (.mspare, 3, 0), (.mspare, 4, 0), (.mspare, 5, 0), (.mspare, 6, 0), (.mspare, 7, 0), (.mspare, 8, 0), (.mspare, 9, 0), (.mspare, 10, 0), (.mspare, 11, 0), (.mspare, 12, 0), (.mspare, 13, 0), (.mspare, 14, 0), (.mspare, 15, 0), (.offMgmt, 0, 0), (.offBunch, 0, 0), (.lpSelf, 0, 0), (.remap, 0, 0), (.remap, 1, 0), (.remap, 2, 0), (.remap, 3, 0), (.remap, 4, 0), (.remap, 5, 0), (.remap, 6, 0), (.remap, 7, 0), (.remap, 8, 0), (.remap, 9, 0), (.remap, 10, 0), (.remap, 11, 0), (.remap, 12, 0), (.remap, 13, 0), (.remap, 14, 0), (.remap, 15, 0)])).dev with merge := [⟨lpBase + 64, true, unitPart (lpBase + 64) [7#8] (lpBase + 64) 64⟩] } }, lpBase + 65, ⟨lpBase + 64, true, unitPart (lpBase + 64) [7#8] (lpBase + 64) 64⟩, _, _, rfl, rfl, by decide +kernel⟩,
    ⟨{ (stOf Dev.reset [(MEM_STATUS_ZFILL, 0, 0), (MEM_STATUS_FITTED, 0, 3), (MEM_STATUS_TRAINED, 0, 3), (MEM_GRANULES_COUNT, 0, 8000), (MEM_STATUS_WIPE, 0, 0)] [(.mspare, 0, 0), (.mspare, 1, 0), (.mspare, 2, 0), (.mspare, 3, 0), (.mspare, 4, 0), (.mspare, 5, 0), (.mspare, 6, 0), (.mspare, 7, 0), (.mspare, 8, 0), (.mspare, 9, 0), (.mspare, 10, 0), (.mspare, 11, 0), (.mspare, 12, 0), (.mspare, 13, 0), (.mspare, 14, 0), (.mspare, 15, 0), (.offMgmt, 0, 0), (.offBunch, 0, 0), (.lpSelf, 0, 0), (.remap, 0, 0), (.remap, 1, 0), (.remap, 2, 0), (.remap, 3, 0), (.remap, 4, 0), (.remap, 5, 0), (.remap, 6, 0), (.remap, 7, 0), (.remap, 8, 0), (.remap, 9, 0), (.remap, 10, 0), (.remap, 11, 0), (.remap, 12, 0), (.remap, 13, 0), (.remap, 14, 0), (.remap, 15, 0)]) with dev := { ((stOf Dev.reset [(MEM_STATUS_ZFILL, 0, 0), (MEM_STATUS_FITTED, 0, 3), (MEM_STATUS_TRAINED, 0, 3), (MEM_GRANULES_COUNT, 0, 8000), (MEM_STATUS_WIPE, 0, 0)] [(.mspare, 0, 0), (.mspare, 1, 0), (.mspare, 2, 0), (.mspare, 3, 0), (.mspare, 4, 0), (.mspare, 5, 0), (.mspare, 6, 0), (.mspare, 7, 0), (.mspare, 8, 0), (.mspare, 9, 0), (.mspare, 10, 0), (.mspare, 11, 0), (.mspare, 12, 0), (.mspare, 13, 0), (.mspare, 14, 0), (.mspare, 15, 0), (.offMgmt, 0, 0), (.offBunch, 0, 0), (.lpSelf, 0, 0), (.remap, 0, 0), (.remap, 1, 0), (.remap, 2, 0), (.remap, 3, 0), (.remap, 4, 0), (.remap, 5, 0), (.remap, 6, 0), (.remap, 7, 0), (.remap, 8, 0), (.remap, 9, 0), (.remap, 10, 0), (.remap, 11, 0), (.remap, 12, 0), (.remap, 13, 0), (.remap, 14, 0), (.remap, 15, 0)])).dev with merge := [⟨sramBase + 0, false, unitPart (sramBase + 0) [7#8] (sramBase + 0) 8⟩, ⟨sramBase + 8, false, unitPart (sramBase + 8) [7#8] (sramBase + 8) 8⟩, ⟨sramBase + 16, false, unitPart (sramBase + 16) [7#8] (sramBase + 16) 8⟩, ⟨sramBase + 24, false, unitPart (sramBase + 24) [7#8] (sramBase + 24) 8⟩] } }, sramBase + 9, .clean, ⟨sramBase + 8, false, unitPart (sramBase + 8) [7#8] (sramBase + 8) 8⟩, _, _, rfl, rfl, by decide +kernel⟩,
    ⟨{ (stOf Dev.reset [(MEM_STATUS_ZFILL, 0, 0), (MEM_STATUS_FITTED, 0, 3), (MEM_STATUS_TRAINED, 0, 3), (MEM_GRANULES_COUNT, 0, 8000), (MEM_STATUS_WIPE, 0, 0)] [(.mspare, 0, 0), (.mspare, 1, 0), (.mspare, 2, 0), (.mspare, 3, 0), (.mspare, 4, 0), (.mspare, 5, 0), (.mspare, 6, 0), (.mspare, 7, 0), (.mspare, 8, 0), (.mspare, 9, 0), (.mspare, 10, 0), (.mspare, 11, 0), (.mspare, 12, 0), (.mspare, 13, 0), (.mspare, 14, 0), (.mspare, 15, 0), (.offMgmt, 0, 0), (.offBunch, 0, 0), (.lpSelf, 0, 0), (.remap, 0, 0), (.remap, 1, 0), (.remap, 2, 0), (.remap, 3, 0), (.remap, 4, 0), (.remap, 5, 0), (.remap, 6, 0), (.remap, 7, 0), (.remap, 8, 0), (.remap, 9, 0), (.remap, 10, 0), (.remap, 11, 0), (.remap, 12, 0), (.remap, 13, 0), (.remap, 14, 0), (.remap, 15, 0)]) with dev := { ((stOf Dev.reset [(MEM_STATUS_ZFILL, 0, 0), (MEM_STATUS_FITTED, 0, 3), (MEM_STATUS_TRAINED, 0, 3), (MEM_GRANULES_COUNT, 0, 8000), (MEM_STATUS_WIPE, 0, 0)] [(.mspare, 0, 0), (.mspare, 1, 0), (.mspare, 2, 0), (.mspare, 3, 0), (.mspare, 4, 0), (.mspare, 5, 0), (.mspare, 6, 0), (.mspare, 7, 0), (.mspare, 8, 0), (.mspare, 9, 0), (.mspare, 10, 0), (.mspare, 11, 0), (.mspare, 12, 0), (.mspare, 13, 0), (.mspare, 14, 0), (.mspare, 15, 0), (.offMgmt, 0, 0), (.offBunch, 0, 0), (.lpSelf, 0, 0), (.remap, 0, 0), (.remap, 1, 0), (.remap, 2, 0), (.remap, 3, 0), (.remap, 4, 0), (.remap, 5, 0), (.remap, 6, 0), (.remap, 7, 0), (.remap, 8, 0), (.remap, 9, 0), (.remap, 10, 0), (.remap, 11, 0), (.remap, 12, 0), (.remap, 13, 0), (.remap, 14, 0), (.remap, 15, 0)])).dev with merge := [⟨sramBase + 0, false, unitPart (sramBase + 0) [7#8] (sramBase + 0) 8⟩, ⟨sramBase + 8, false, unitPart (sramBase + 8) [7#8] (sramBase + 8) 8⟩, ⟨sramBase + 16, false, unitPart (sramBase + 16) [7#8] (sramBase + 16) 8⟩, ⟨sramBase + 24, false, unitPart (sramBase + 24) [7#8] (sramBase + 24) 8⟩] } }, sramBase + 9, ⟨sramBase + 8, false, unitPart (sramBase + 8) [7#8] (sramBase + 8) 8⟩, _, _, rfl, rfl, by decide +kernel⟩,
    ⟨{ (stOf Dev.reset [(MEM_STATUS_ZFILL, 0, 0), (MEM_STATUS_FITTED, 0, 3), (MEM_STATUS_TRAINED, 0, 3), (MEM_GRANULES_COUNT, 0, 8000), (MEM_STATUS_WIPE, 0, 0)] [(.mspare, 0, 0), (.mspare, 1, 0), (.mspare, 2, 0), (.mspare, 3, 0), (.mspare, 4, 0), (.mspare, 5, 0), (.mspare, 6, 0), (.mspare, 7, 0), (.mspare, 8, 0), (.mspare, 9, 0), (.mspare, 10, 0), (.mspare, 11, 0), (.mspare, 12, 0), (.mspare, 13, 0), (.mspare, 14, 0), (.mspare, 15, 0), (.offMgmt, 0, 0), (.offBunch, 0, 0), (.lpSelf, 0, 0), (.remap, 0, 0), (.remap, 1, 0), (.remap, 2, 0), (.remap, 3, 0), (.remap, 4, 0), (.remap, 5, 0), (.remap, 6, 0), (.remap, 7, 0), (.remap, 8, 0), (.remap, 9, 0), (.remap, 10, 0), (.remap, 11, 0), (.remap, 12, 0), (.remap, 13, 0), (.remap, 14, 0), (.remap, 15, 0)]) with dev := { ((stOf Dev.reset [(MEM_STATUS_ZFILL, 0, 0), (MEM_STATUS_FITTED, 0, 3), (MEM_STATUS_TRAINED, 0, 3), (MEM_GRANULES_COUNT, 0, 8000), (MEM_STATUS_WIPE, 0, 0)] [(.mspare, 0, 0), (.mspare, 1, 0), (.mspare, 2, 0), (.mspare, 3, 0), (.mspare, 4, 0), (.mspare, 5, 0), (.mspare, 6, 0), (.mspare, 7, 0), (.mspare, 8, 0), (.mspare, 9, 0), (.mspare, 10, 0), (.mspare, 11, 0), (.mspare, 12, 0), (.mspare, 13, 0), (.mspare, 14, 0), (.mspare, 15, 0), (.offMgmt, 0, 0), (.offBunch, 0, 0), (.lpSelf, 0, 0), (.remap, 0, 0), (.remap, 1, 0), (.remap, 2, 0), (.remap, 3, 0), (.remap, 4, 0), (.remap, 5, 0), (.remap, 6, 0), (.remap, 7, 0), (.remap, 8, 0), (.remap, 9, 0), (.remap, 10, 0), (.remap, 11, 0), (.remap, 12, 0), (.remap, 13, 0), (.remap, 14, 0), (.remap, 15, 0)])).dev with merge := [⟨sramBase + 0, false, unitPart (sramBase + 0) [7#8] (sramBase + 0) 8⟩, ⟨sramBase + 8, false, unitPart (sramBase + 8) [7#8] (sramBase + 8) 8⟩, ⟨sramBase + 16, false, unitPart (sramBase + 16) [7#8] (sramBase + 16) 8⟩, ⟨sramBase + 24, false, unitPart (sramBase + 24) [7#8] (sramBase + 24) 8⟩] } }, sramBase + 9, ⟨sramBase + 8, false, unitPart (sramBase + 8) [7#8] (sramBase + 8) 8⟩, _, _, rfl, rfl, by decide +kernel⟩,
    ⟨{ (stOf Dev.reset [(MEM_STATUS_ZFILL, 0, 0), (MEM_STATUS_FITTED, 0, 3), (MEM_STATUS_TRAINED, 0, 3), (MEM_GRANULES_COUNT, 0, 8000), (MEM_STATUS_WIPE, 0, 0)] [(.mspare, 0, 0), (.mspare, 1, 0), (.mspare, 2, 0), (.mspare, 3, 0), (.mspare, 4, 0), (.mspare, 5, 0), (.mspare, 6, 0), (.mspare, 7, 0), (.mspare, 8, 0), (.mspare, 9, 0), (.mspare, 10, 0), (.mspare, 11, 0), (.mspare, 12, 0), (.mspare, 13, 0), (.mspare, 14, 0), (.mspare, 15, 0), (.offMgmt, 0, 0), (.offBunch, 0, 0), (.lpSelf, 0, 0), (.remap, 0, 0), (.remap, 1, 0), (.remap, 2, 0), (.remap, 3, 0), (.remap, 4, 0), (.remap, 5, 0), (.remap, 6, 0), (.remap, 7, 0), (.remap, 8, 0), (.remap, 9, 0), (.remap, 10, 0), (.remap, 11, 0), (.remap, 12, 0), (.remap, 13, 0), (.remap, 14, 0), (.remap, 15, 0)]) with dev := { ((stOf Dev.reset [(MEM_STATUS_ZFILL, 0, 0), (MEM_STATUS_FITTED, 0, 3), (MEM_STATUS_TRAINED, 0, 3), (MEM_GRANULES_COUNT, 0, 8000), (MEM_STATUS_WIPE, 0, 0)] [(.mspare, 0, 0), (.mspare, 1, 0), (.mspare, 2, 0), (.mspare, 3, 0), (.mspare, 4, 0), (.mspare, 5, 0), (.mspare, 6, 0), (.mspare, 7, 0), (.mspare, 8, 0), (.mspare, 9, 0), (.mspare, 10, 0), (.mspare, 11, 0), (.mspare, 12, 0), (.mspare, 13, 0), (.mspare, 14, 0), (.mspare, 15, 0), (.offMgmt, 0, 0), (.offBunch, 0, 0), (.lpSelf, 0, 0), (.remap, 0, 0), (.remap, 1, 0), (.remap, 2, 0), (.remap, 3, 0), (.remap, 4, 0), (.remap, 5, 0), (.remap, 6, 0), (.remap, 7, 0), (.remap, 8, 0), (.remap, 9, 0), (.remap, 10, 0), (.remap, 11, 0), (.remap, 12, 0), (.remap, 13, 0), (.remap, 14, 0), (.remap, 15, 0)])).dev with merge := [⟨sramBase + 0, false, unitPart (sramBase + 0) [7#8] (sramBase + 0) 8⟩, ⟨sramBase + 8, false, unitPart (sramBase + 8) [7#8] (sramBase + 8) 8⟩, ⟨sramBase + 16, false, unitPart (sramBase + 16) [7#8] (sramBase + 16) 8⟩, ⟨sramBase + 24, false, unitPart (sramBase + 24) [7#8] (sramBase + 24) 8⟩] } }, sramBase + 9, ⟨sramBase + 8, false, unitPart (sramBase + 8) [7#8] (sramBase + 8) 8⟩, _, _, rfl, rfl, by decide +kernel⟩,
    ⟨stOf Dev.reset [(TOP_GEN_GEN, 0, 0), (TOP_GEN_GEN, 1, 0)] [], 1, 3, 0#8, 0#8, by decide +kernel⟩,
    ⟨stOf Dev.reset [(TOP_GEN_GEN, 0, 0), (TOP_GEN_GEN, 1, 0)] [], 1, 3, 0#8, 1#8, by decide +kernel⟩⟩

/-- The hypotheses of `Obligations.ScrubVisits`, clause by clause. -/
theorem witness_ScrubVisits :
    (∃ (s : State) (m : Fin 9) (loc : Nat) (f : EccFind), ((s.scrubSkips m loc = true ∨ ((m.val = 1 ∨ m.val = 6) ∧ s.mem.poison.contains (s.dev.phys (unitOf loc)) = true) ∨ (m.val ≠ 0 ∧ f = .clean) ∨ (m.val ≠ 0 ∧ m.val ≠ 1 ∧ m.val ≠ 6 ∧ (match f with | .aliased _ => true | _ => false) = true))))
    ∧ (∃ (s : State) (m : Fin 9) (loc : Nat), s.scrubSkips m loc = true)
    ∧ (∃ (s : State) (loc : Nat) (f : EccFind), s.scrubSkips 0 loc = false ∧ ((s.mem.poison.contains (s.dev.phys (unitOf loc)) = true ∨ f = .clean)))
    ∧ (∃ (s : State) (m : Fin 9) (loc : Nat), s.scrubSkips m loc = false ∧ ((m.val = 0 ∨ m.val = 1 ∨ m.val = 6)) ∧ s.mem.poison.contains (s.dev.phys (unitOf loc)) = false)
    ∧ (∃ (s : State) (m : Fin 9) (loc : Nat) (g : Nat), (g = (if m.val = 3 ∨ m.val = 4 then 2 else m.val)) ∧ s.scrubSkips m loc = false ∧ m.val ≠ 0 ∧ (((m.val = 1 ∨ m.val = 6) → s.mem.poison.contains (s.dev.phys (unitOf loc)) = false)))
    ∧ (∃ (s : State) (loc : Nat) (u : Nat), u = unitOf loc ∧ s.scrubSkips 0 loc = false ∧ s.mem.poison.contains (s.dev.phys u) = false)
    ∧ (∃ (s : State) (m : Fin 9) (loc : Nat), s.scrubSkips m loc = false ∧ (((m.val = 0 ∨ m.val = 1 ∨ m.val = 6) → s.mem.poison.contains (s.dev.phys (unitOf loc)) = false)))
    ∧ (∃ (s : State) (loc : Nat), s.scrubSkips 3 loc = false ∧ s.dev.ueLog.length < 16)
    ∧ (∃ (s : State) (loc : Nat), s.scrubSkips 2 loc = false ∧ s.dev.ueLog.length < 16 ∧ s.dev.loading (loc / 4096 % 2) = false)
    ∧ (∃ (s : State) (loc : Nat), s.scrubSkips 7 loc = false ∧ s.dev.ueLog.length < 16)
    ∧ (∃ (s : State) (loc : Nat), s.scrubSkips 6 loc = false ∧ s.mem.poison.contains (s.dev.phys (unitOf loc)) = false ∧ s.dev.ueLog.length < 16 ∧ s.dev.hitsRegion (granuleOf loc) 1 = false ∧ s.dev.watch = [])
    ∧ (∃ (s : State) (loc : Nat), s.scrubSkips 0 loc = false ∧ s.mem.poison.contains (s.dev.phys (unitOf loc)) = false ∧ s.dev.ueLog.length < 16 ∧ s.dev.ueSeen.contains (unitOf loc) = false) :=
   ⟨⟨stOf Dev.reset [] [], 8, 5, .clean, by decide +kernel⟩,
    ⟨stOf Dev.reset [] [], 8, 5, by decide +kernel⟩,
    ⟨stOf Dev.reset [(MEM_STATUS_ZFILL, 0, 0), (ECC_SCRUB0_MSRAM, 0, 1)] [(.mspare, 0, 0), (.mspare, 1, 0), (.mspare, 2, 0), (.mspare, 3, 0), (.mspare, 4, 0), (.mspare, 5, 0), (.mspare, 6, 0), (.mspare, 7, 0), (.mspare, 8, 0), (.mspare, 9, 0), (.mspare, 10, 0), (.mspare, 11, 0), (.mspare, 12, 0), (.mspare, 13, 0), (.mspare, 14, 0), (.mspare, 15, 0), (.offMgmt, 0, 0), (.offBunch, 0, 0), (.lpSelf, 0, 0), (.remap, 0, 0), (.remap, 1, 0), (.remap, 2, 0), (.remap, 3, 0), (.remap, 4, 0), (.remap, 5, 0), (.remap, 6, 0), (.remap, 7, 0), (.remap, 8, 0), (.remap, 9, 0), (.remap, 10, 0), (.remap, 11, 0), (.remap, 12, 0), (.remap, 13, 0), (.remap, 14, 0), (.remap, 15, 0)], sramBase + 64, .clean, by decide +kernel⟩,
    ⟨stOf Dev.reset [(MEM_STATUS_ZFILL, 0, 0), (ECC_SCRUB0_CAP, 0, 1)] [(.offBunch, 0, 0)], 1, capBase + 64, by decide +kernel⟩,
    ⟨stOf Dev.reset [(MEM_STATUS_ZFILL, 0, 0), (ECC_SCRUB0_CAP, 0, 1)] [(.offBunch, 0, 0)], 1, capBase + 64, _, rfl, by decide +kernel⟩,
    ⟨{ (stOf Dev.reset [(MEM_STATUS_ZFILL, 0, 0), (ECC_SCRUB0_MSRAM, 0, 1)] [(.mspare, 0, 0), (.mspare, 1, 0), (.mspare, 2, 0), (.mspare, 3, 0), (.mspare, 4, 0), (.mspare, 5, 0), (.mspare, 6, 0), (.mspare, 7, 0), (.mspare, 8, 0), (.mspare, 9, 0), (.mspare, 10, 0), (.mspare, 11, 0), (.mspare, 12, 0), (.mspare, 13, 0), (.mspare, 14, 0), (.mspare, 15, 0), (.offMgmt, 0, 0), (.offBunch, 0, 0), (.lpSelf, 0, 0), (.remap, 0, 0), (.remap, 1, 0), (.remap, 2, 0), (.remap, 3, 0), (.remap, 4, 0), (.remap, 5, 0), (.remap, 6, 0), (.remap, 7, 0), (.remap, 8, 0), (.remap, 9, 0), (.remap, 10, 0), (.remap, 11, 0), (.remap, 12, 0), (.remap, 13, 0), (.remap, 14, 0), (.remap, 15, 0)]) with dev := { ((stOf Dev.reset [(MEM_STATUS_ZFILL, 0, 0), (ECC_SCRUB0_MSRAM, 0, 1)] [(.mspare, 0, 0), (.mspare, 1, 0), (.mspare, 2, 0), (.mspare, 3, 0), (.mspare, 4, 0), (.mspare, 5, 0), (.mspare, 6, 0), (.mspare, 7, 0), (.mspare, 8, 0), (.mspare, 9, 0), (.mspare, 10, 0), (.mspare, 11, 0), (.mspare, 12, 0), (.mspare, 13, 0), (.mspare, 14, 0), (.mspare, 15, 0), (.offMgmt, 0, 0), (.offBunch, 0, 0), (.lpSelf, 0, 0), (.remap, 0, 0), (.remap, 1, 0), (.remap, 2, 0), (.remap, 3, 0), (.remap, 4, 0), (.remap, 5, 0), (.remap, 6, 0), (.remap, 7, 0), (.remap, 8, 0), (.remap, 9, 0), (.remap, 10, 0), (.remap, 11, 0), (.remap, 12, 0), (.remap, 13, 0), (.remap, 14, 0), (.remap, 15, 0)])).dev with ceStreak := [(sramBase + 64, 2)] } }, sramBase + 64, _, rfl, by decide +kernel⟩,
    ⟨stOf Dev.reset [(MEM_STATUS_ZFILL, 0, 0), (ECC_SCRUB0_CAP, 0, 1)] [(.offBunch, 0, 0)], 1, capBase + 64, by decide +kernel⟩,
    ⟨stOf Dev.reset [(MEM_STATUS_ZFILL, 0, 0), (ECC_SCRUB0_TILE, 0, 1), (SEED_STATUS_BUSY, 0, 0)] [], 64, by decide +kernel⟩,
    ⟨stOf Dev.reset [(MEM_STATUS_ZFILL, 0, 0), (ECC_SCRUB0_TILE, 0, 1), (SEED_STATUS_BUSY, 0, 0)] [], 64, by decide +kernel⟩,
    ⟨stOf Dev.reset [(MEM_STATUS_ZFILL, 0, 0), (ECC_SCRUB0_TILE, 0, 1), (SEED_STATUS_BUSY, 0, 0)] [], 64, by decide +kernel⟩,
    ⟨{ (stOf Dev.reset [(MEM_STATUS_FITTED, 0, 3), (MEM_STATUS_TRAINED, 0, 3), (MEM_GRANULES_COUNT, 0, 8000), (MEM_STATUS_WIPE, 0, 0), (MEM_STATUS_WIPE, 0, 0), (ECC_SCRUB1_HOURS, 0, 1)] [(.lpSelf, 0, 0), (.capDrain, 0, 0)]) with mem := { Memory.empty with marked := [0] } }, lpBase + 64, by decide +kernel⟩,
    ⟨stOf Dev.reset [(MEM_STATUS_ZFILL, 0, 0), (ECC_SCRUB0_MSRAM, 0, 1)] [(.mspare, 0, 0), (.mspare, 1, 0), (.mspare, 2, 0), (.mspare, 3, 0), (.mspare, 4, 0), (.mspare, 5, 0), (.mspare, 6, 0), (.mspare, 7, 0), (.mspare, 8, 0), (.mspare, 9, 0), (.mspare, 10, 0), (.mspare, 11, 0), (.mspare, 12, 0), (.mspare, 13, 0), (.mspare, 14, 0), (.mspare, 15, 0), (.offMgmt, 0, 0), (.offBunch, 0, 0), (.lpSelf, 0, 0), (.remap, 0, 0), (.remap, 1, 0), (.remap, 2, 0), (.remap, 3, 0), (.remap, 4, 0), (.remap, 5, 0), (.remap, 6, 0), (.remap, 7, 0), (.remap, 8, 0), (.remap, 9, 0), (.remap, 10, 0), (.remap, 11, 0), (.remap, 12, 0), (.remap, 13, 0), (.remap, 14, 0), (.remap, 15, 0)], sramBase + 64, by decide +kernel⟩⟩

/-- The hypotheses of `Obligations.ClaimsAndMonitors`, clause by clause. -/
theorem witness_ClaimsAndMonitors :
    (∃ (s : State) (c : Fin 4) (n : Nat), s.dev.claimOf c = n ∧ n ≠ 0x1FF)
    ∧ (∃ (s : State) (c : Fin 4), s.dev.claimOf c = 0x1FF)
    ∧ (∃ (s : State) (u : Fin 6), s.dev.prfOff u = false ∧ s.dev.on PRF_CTRL_FREEZE 0 = false)
    ∧ (∃ (s : State) (u : Fin 6), ((s.dev.prfOff u = true ∨ s.dev.on PRF_CTRL_FREEZE 0 = true)))
    ∧ (∃ (s : State), s.dev.on PRF_SNAP_CTRL_EN 0 = false ∧ s.snapErr = 0)
    ∧ (∃ (s : State), s.dev.on PRF_SNAP_CTRL_EN 0 = false ∧ s.snapErr ≠ 0)
    ∧ (∃ (s : State), s.dev.on PRF_SNAP_CTRL_EN 0 = true)
    ∧ (∃ (s : State) (base : Nat) (wp : Nat), base = s.dev.snapBase ∧ wp = s.dev.get PRF_SNAP_WP_OFS 0 ∧ s.dev.on PRF_SNAP_CTRL_EN 0 = true ∧ (((wp + 512) % max 512 (s.dev.get PRF_SNAP_SIZE_VALUE 0) ≠ s.dev.get PRF_SNAP_RP_OFS 0 ∨ s.dev.on PRF_SNAP_CTRL_MODE 0 = true)) ∧ base % 512 = 0 ∧ wp % 512 = 0 ∧ ((∀ i < 64, s.dev.phys (base + wp + 8 * i) = base + wp + 8 * i)))
    ∧ (∃ (s : State) (nx : Nat), nx = (s.dev.get PRF_SNAP_WP_OFS 0 + 512) % max 512 (s.dev.get PRF_SNAP_SIZE_VALUE 0) ∧ s.dev.on PRF_SNAP_CTRL_EN 0 = true ∧ nx ≠ s.dev.get PRF_SNAP_RP_OFS 0)
    ∧ (∃ (s : State) (nx : Nat), nx = (s.dev.get PRF_SNAP_WP_OFS 0 + 512) % max 512 (s.dev.get PRF_SNAP_SIZE_VALUE 0) ∧ s.dev.on PRF_SNAP_CTRL_EN 0 = true ∧ s.dev.on PRF_SNAP_CTRL_MODE 0 = true ∧ nx = s.dev.get PRF_SNAP_RP_OFS 0)
    ∧ (∃ (s : State), s.dev.on PRF_SNAP_CTRL_EN 0 = true ∧ s.dev.on PRF_SNAP_CTRL_MODE 0 = false ∧ (s.dev.get PRF_SNAP_WP_OFS 0 + 512) % max 512 (s.dev.get PRF_SNAP_SIZE_VALUE 0) = s.dev.get PRF_SNAP_RP_OFS 0)
    ∧ (∃ (s : State), s.dev.on PRF_SNAP_CTRL_EN 0 = false) :=
   ⟨⟨stOf Dev.reset [(IRQ_SRC_CFG_PRIO, 2, 5), (IRQ_SRC_CFG_PRIO, 3, 5), (IRQ_SRC_CFG_CORES, 2, 15), (IRQ_SRC_CFG_CORES, 3, 15), (IRQ_SW_PEND, 0, 12), (IRQ_THR_THR, 2, 1)] [], 3, 2, by decide +kernel⟩,
    ⟨stOf Dev.reset [] [], 3, by decide +kernel⟩,
    ⟨stOf Dev.reset [(PRF_CTRL_FREEZE, 0, 0)] [], 5, by decide +kernel⟩,
    ⟨stOf Dev.reset [(PRF_CTRL_FREEZE, 0, 1)] [], 2, by decide +kernel⟩,
    ⟨stOf Dev.reset [(PRF_SNAP_CTRL_EN, 0, 0), (PRF_SNAP_BASE_LO_VALUE, 0, 0x10001000), (PRF_SNAP_BASE_HI_VALUE, 0, 0), (PRF_SNAP_SIZE_VALUE, 0, 4096)] [], by decide +kernel⟩,
    ⟨stOf Dev.reset [(PRF_SNAP_CTRL_EN, 0, 0), (PRF_SNAP_BASE_LO_VALUE, 0, 0x10001000), (PRF_SNAP_BASE_HI_VALUE, 0, 0), (PRF_SNAP_SIZE_VALUE, 0, 100)] [], by decide +kernel⟩,
    ⟨stOf Dev.reset [(PRF_SNAP_CTRL_EN, 0, 1)] [], by decide +kernel⟩,
    ⟨stOf Dev.reset [(PRF_SNAP_CTRL_EN, 0, 1), (PRF_SNAP_BASE_LO_VALUE, 0, 0x10001000), (PRF_SNAP_BASE_HI_VALUE, 0, 0), (PRF_SNAP_SIZE_VALUE, 0, 4096), (PRF_SNAP_WP_OFS, 0, 512), (PRF_SNAP_RP_OFS, 0, 0)] [(.mspare, 0, 0), (.mspare, 1, 0), (.mspare, 2, 0), (.mspare, 3, 0), (.mspare, 4, 0), (.mspare, 5, 0), (.mspare, 6, 0), (.mspare, 7, 0), (.mspare, 8, 0), (.mspare, 9, 0), (.mspare, 10, 0), (.mspare, 11, 0), (.mspare, 12, 0), (.mspare, 13, 0), (.mspare, 14, 0), (.mspare, 15, 0)], 0x10001000, 512, by decide +kernel⟩,
    ⟨stOf Dev.reset [(PRF_SNAP_CTRL_EN, 0, 1), (PRF_SNAP_BASE_LO_VALUE, 0, 0x10001000), (PRF_SNAP_BASE_HI_VALUE, 0, 0), (PRF_SNAP_SIZE_VALUE, 0, 4096), (PRF_SNAP_WP_OFS, 0, 512), (PRF_SNAP_RP_OFS, 0, 0)] [], _, rfl, by decide +kernel⟩,
    ⟨stOf Dev.reset [(PRF_SNAP_CTRL_EN, 0, 1), (PRF_SNAP_CTRL_MODE, 0, 1), (PRF_SNAP_BASE_LO_VALUE, 0, 0x10001000), (PRF_SNAP_BASE_HI_VALUE, 0, 0), (PRF_SNAP_SIZE_VALUE, 0, 4096), (PRF_SNAP_WP_OFS, 0, 1024), (PRF_SNAP_RP_OFS, 0, 1536)] [], _, rfl, by decide +kernel⟩,
    ⟨stOf Dev.reset [(PRF_SNAP_CTRL_EN, 0, 1), (PRF_SNAP_CTRL_MODE, 0, 0), (PRF_SNAP_BASE_LO_VALUE, 0, 0x10001000), (PRF_SNAP_BASE_HI_VALUE, 0, 0), (PRF_SNAP_SIZE_VALUE, 0, 4096), (PRF_SNAP_WP_OFS, 0, 1024), (PRF_SNAP_RP_OFS, 0, 1536)] [], by decide +kernel⟩,
    ⟨stOf Dev.reset [(PRF_SNAP_CTRL_EN, 0, 0)] [], by decide +kernel⟩⟩

/-- The hypotheses of `Obligations.BramblePorts`, clause by clause. -/
theorem witness_BramblePorts :
    (∃ (s : State) (p : Fin 3), s.dev.get BRM_PSTATUS_STATE p = 0)
    ∧ (∃ (s : State) (p : Fin 3), s.dev.get BRM_PSTATUS_STATE p ≠ 0)
    ∧ (∃ (s : State) (p : Fin 3), s.dev.brmActive p = false)
    ∧ (∃ (s : State) (p : Fin 3), s.dev.brmActive p = true)
    ∧ (∃ (s : State) (p : Fin 3), s.dev.get BRM_PSTATUS_STATE p = 1)
    ∧ (∃ (s : State) (p : Fin 3), s.dev.get BRM_PSTATUS_STATE p ≠ 1)
    ∧ (∃ (s : State) (p : Fin 3), s.dev.get BRM_PSTATUS_STATE p = 2 ∧ s.dev.brmMask p ≠ 0)
    ∧ (∃ (s : State) (p : Fin 3), ((s.dev.get BRM_PSTATUS_STATE p ≠ 2 ∨ s.dev.brmMask p = 0)))
    ∧ (∃ (s : State) (p : Fin 3), s.dev.get BRM_PSTATUS_STATE p ≠ 3)
    ∧ (∃ (s : State) (p : Fin 3), s.dev.get BRM_PSTATUS_STATE p = 3)
    ∧ (∃ (s : State) (p : Fin 3) (b : List Byte), s.dev.get BRM_PSTATUS_STATE p = 3 ∧ ((s.dev.capServes p b = false ∨ fb b 2 / 4 % 4 = (if p.val = 0 then 0 else 1))))
    ∧ (∃ (s : State) (p : Fin 3) (b : List Byte) (n : Int), n = (if s.dev.v .capLast p = (capKey b : Nat) then s.dev.v .capSame p + 1 else 1) ∧ s.dev.get BRM_PSTATUS_STATE p = 3 ∧ s.dev.capServes p b = true ∧ fb b 2 / 4 % 4 ≠ (if p.val = 0 then 0 else 1) ∧ ((n < 8 ∨ (Nat.land (s.dev.brmMask p) (fb b 1 / 64) ≠ 0 ∧ fb b 2 % 2 = 0))))
    ∧ (∃ (s : State) (p : Fin 3) (b : List Byte) (n : Int), n = (if s.dev.v .capLast p = (capKey b : Nat) then s.dev.v .capSame p + 1 else 1) ∧ s.dev.get BRM_PSTATUS_STATE p = 3 ∧ s.dev.capServes p b = true ∧ fb b 2 / 4 % 4 ≠ (if p.val = 0 then 0 else 1) ∧ 8 ≤ n ∧ Nat.land (s.dev.brmMask p) (fb b 1 / 64) = 0)
    ∧ (∃ (s : State) (p : Fin 3) (b : List Byte) (n : Int) (set_ : Nat), n = (if s.dev.v .capLast p = (capKey b : Nat) then s.dev.v .capSame p + 1 else 1) ∧ set_ = Nat.land (s.dev.brmMask p) (fb b 1 / 64) ∧ s.dev.get BRM_PSTATUS_STATE p = 3 ∧ s.dev.capServes p b = true ∧ fb b 2 / 4 % 4 ≠ (if p.val = 0 then 0 else 1) ∧ 8 ≤ n ∧ set_ ≠ 0 ∧ fb b 2 % 2 = 1)
    ∧ (∃ (s : State) (p : Fin 3), ((s.dev.get BRM_PSTATUS_STATE p = 2 ∨ s.dev.get BRM_PSTATUS_STATE p = 3)))
    ∧ (∃ (s : State) (p : Fin 3), s.dev.get BRM_PSTATUS_STATE p ≠ 2 ∧ s.dev.get BRM_PSTATUS_STATE p ≠ 3)
    ∧ (∃ (s : State) (p : Fin 3), ((s.dev.get BRM_PSTATUS_STATE p = 2 ∨ s.dev.get BRM_PSTATUS_STATE p = 3)))
    ∧ (∃ (s : State) (p : Fin 3), s.dev.brmActive p = true)
    ∧ (∃ (s : State) (p : Fin 3), s.dev.get BRM_PSTATUS_STATE p = 1)
    ∧ (∃ (s : State) (p : Fin 3), ((s.dev.get BRM_PSTATUS_STATE p = 0 ∨ 5 ≤ s.dev.get BRM_PSTATUS_STATE p)))
    ∧ (∃ (s : State) (p : Fin 3) (loop : Fin 4) (up : Bool), s.dev.brmActive p = false ∧ s.dev.get BRM_PSTATUS_STATE p ≠ 0 ∧ ((p.val ≠ 0 ∨ up = false)) ∧ s.dev.get BRM_PCTRL_LOOP p ≠ loop.val)
    ∧ (∃ (s : State) (p : Fin 3) (loop : Fin 4) (up : Bool), s.dev.brmActive p = true ∧ ((p.val ≠ 0 ∨ up = false)) ∧ s.dev.get BRM_PCTRL_LOOP p ≠ loop.val)
    ∧ (∃ (s : State) (p : Fin 3) (loop : Fin 4) (up : Bool), ((s.dev.get BRM_PSTATUS_STATE p = 0 ∨ s.dev.get BRM_PCTRL_LOOP p = loop.val)) ∧ ((p.val ≠ 0 ∨ up = false))) :=
   ⟨⟨(fun (p : Fin 3) => stOf Dev.reset [(BRM_PSTATUS_STATE, p, 0)] []) (2), 2, by decide +kernel⟩,
    ⟨stOf Dev.reset [(BRM_PSTATUS_STATE, 1, 2)] [], 1, by decide +kernel⟩,
    ⟨stOf Dev.reset [(BRM_PSTATUS_STATE, 1, 2)] [], 2, by decide +kernel⟩,
    ⟨stOf Dev.reset [(BRM_PSTATUS_STATE, 1, 4)] [], 1, by decide +kernel⟩,
    ⟨(fun (p : Fin 3) => stOf Dev.reset [(BRM_PSTATUS_STATE, p, 1)] []) (2), 2, by decide +kernel⟩,
    ⟨stOf Dev.reset [(BRM_PSTATUS_STATE, 1, 2)] [], 2, by decide +kernel⟩,
    ⟨(fun (p : Fin 3) => stOf Dev.reset [(BRM_PSTATUS_STATE, p, 2), (BRM_PCTRL_LANES, 1, 1), (BRM_PSTATUS_COMPAT, 1, 0), (BRM_LSTATUS_MARKER_LOCK, 2, 1)] []) (1), 1, by decide +kernel⟩,
    ⟨stOf Dev.reset [(BRM_LSTATUS_MARKER_LOCK, 2, 0), (BRM_LSTATUS_MARKER_LOCK, 3, 0)] [], 2, by decide +kernel⟩,
    ⟨stOf Dev.reset [(BRM_PSTATUS_STATE, 1, 2)] [], 2, by decide +kernel⟩,
    ⟨(fun (p : Fin 3) => stOf Dev.reset [(BRM_PSTATUS_STATE, p, 3), (BRM_PCTRL_LANES, 1, 1), (BRM_PSTATUS_COMPAT, 1, 0), (BRM_LSTATUS_MARKER_LOCK, 2, 1)] []) (2), 2, by decide +kernel⟩,
    ⟨(fun (p : Fin 3) => stOf Dev.reset [(BRM_PSTATUS_STATE, p, 3), (BRM_PCTRL_LANES, 1, 1), (BRM_PSTATUS_COMPAT, 1, 0), (BRM_LSTATUS_MARKER_LOCK, 2, 1)] []) (2), 2, [0x11#8, 0x51#8, 0x05#8, 0x08#8, 0x32#8, 0x10#8, 0#8, 0#8], by decide +kernel⟩,
    ⟨(fun (p : Fin 3) => stOf Dev.reset [(BRM_PSTATUS_STATE, p, 3), (BRM_PCTRL_LANES, 1, 1), (BRM_PSTATUS_COMPAT, 1, 0), (BRM_LSTATUS_MARKER_LOCK, 2, 1)] [(.capLast, 1, (capKey [0x11#8, 0x51#8, 0x01#8, 0x08#8, 0x32#8, 0x10#8, 0#8, 0#8] : Nat)), (.capSame, 1, 5)]) (2), 2, [0x11#8, 0x51#8, 0x01#8, 0x08#8, 0x32#8, 0x10#8, 0#8, 0#8], _, rfl, by decide +kernel⟩,
    ⟨(fun (p : Fin 3) => stOf Dev.reset [(BRM_PSTATUS_STATE, p, 3), (BRM_PCTRL_LANES, 1, 1), (BRM_PSTATUS_COMPAT, 1, 0), (BRM_LSTATUS_MARKER_LOCK, 2, 1)] [(.capLast, 1, (capKey [0x11#8, 0x11#8, 0x01#8, 0x08#8, 0x32#8, 0x10#8, 0#8, 0#8] : Nat)), (.capSame, 1, 7)]) (1), 1, [0x11#8, 0x11#8, 0x01#8, 0x08#8, 0x32#8, 0x10#8, 0#8, 0#8], _, rfl, by decide +kernel⟩,
    ⟨(fun (p : Fin 3) => stOf Dev.reset [(BRM_PSTATUS_STATE, p, 3), (BRM_PCTRL_LANES, 1, 1), (BRM_PSTATUS_COMPAT, 1, 0), (BRM_LSTATUS_MARKER_LOCK, 2, 1)] [(.capLast, 1, (capKey [0x11#8, 0x51#8, 0x01#8, 0x08#8, 0x32#8, 0x10#8, 0#8, 0#8] : Nat)), (.capSame, 1, 7)]) (1), 1, [0x11#8, 0x51#8, 0x01#8, 0x08#8, 0x32#8, 0x10#8, 0#8, 0#8], _, _, rfl, rfl, by decide +kernel⟩,
    ⟨stOf Dev.reset [(BRM_PSTATUS_STATE, 1, 2)] [], 1, by decide +kernel⟩,
    ⟨stOf Dev.reset [(BRM_PSTATUS_STATE, 1, 4)] [], 2, by decide +kernel⟩,
    ⟨stOf Dev.reset [(BRM_PSTATUS_STATE, 1, 2)] [], 1, by decide +kernel⟩,
    ⟨stOf Dev.reset [(BRM_PSTATUS_STATE, 1, 4)] [], 1, by decide +kernel⟩,
    ⟨(fun (p : Fin 3) => stOf Dev.reset [(BRM_PSTATUS_STATE, p, 1)] []) (2), 2, by decide +kernel⟩,
    ⟨stOf Dev.reset [(BRM_PSTATUS_STATE, 1, 5)] [], 2, by decide +kernel⟩,
    ⟨stOf Dev.reset [(BRM_PSTATUS_STATE, 1, 2), (BRM_PCTRL_LOOP, 1, 0)] [], 1, 2, true, by decide +kernel⟩,
    ⟨stOf Dev.reset [(BRM_PSTATUS_STATE, 1, 4), (BRM_PCTRL_LOOP, 1, 0)] [], 1, 2, true, by decide +kernel⟩,
    ⟨stOf Dev.reset [(BRM_PSTATUS_STATE, 1, 0)] [], 2, 2, true, by decide +kernel⟩⟩

/-- The hypotheses of `Obligations.BrambleLocks`, clause by clause. -/
theorem witness_BrambleLocks :
    (∃ (s : State) (p : Fin 3), s.dev.get BRM_PSTATUS_STATE p < 2)
    ∧ (∃ (s : State) (p : Fin 3) (l : Fin 2) (b : List Byte) (skewed : Bool) (pass : Bool), pass = (markerOk (decide ((s.dev.brmOffered p).length = 2)) l b && (!(s.dev.flag .mkSeen (2 * p + l)) || s.dev.v .mkCount (2 * p + l) == ((fb b 2 + 255) % 256 : Nat))) ∧ 2 ≤ s.dev.get BRM_PSTATUS_STATE p ∧ ((skewed = true ∨ (pass = false ∧ 2 ≤ s.dev.v .mkBad (2 * p + l)))))
    ∧ (∃ (s : State) (p : Fin 3) (l : Fin 2) (b : List Byte) (pass : Bool), pass = (markerOk (decide ((s.dev.brmOffered p).length = 2)) l b && (!(s.dev.flag .mkSeen (2 * p + l)) || s.dev.v .mkCount (2 * p + l) == ((fb b 2 + 255) % 256 : Nat))) ∧ 2 ≤ s.dev.get BRM_PSTATUS_STATE p ∧ pass = false ∧ s.dev.v .mkBad (2 * p + l) < 2)
    ∧ (∃ (s : State) (p : Fin 3) (l : Fin 2) (b : List Byte) (spaced : Bool) (pass : Bool) (lock : Bool), pass = (markerOk (decide ((s.dev.brmOffered p).length = 2)) l b && (!(s.dev.flag .mkSeen (2 * p + l)) || s.dev.v .mkCount (2 * p + l) == ((fb b 2 + 255) % 256 : Nat))) ∧ lock = (s.dev.flag .mkRun (2 * p + l) && spaced && !(s.dev.flag .lfHold (2 * p + l))) ∧ 2 ≤ s.dev.get BRM_PSTATUS_STATE p ∧ pass = true)
    ∧ (∃ (s : State) (p : Fin 3) (ppm : Int), s.dev.on BRM_PSTATUS_COMPAT p = false ∧ 50 < absI ppm)
    ∧ (∃ (s : State) (p : Fin 3) (ppm : Int), ((s.dev.on BRM_PSTATUS_COMPAT p = true ∨ absI ppm ≤ 50)))
    ∧ (∃ (s : State), s.dev.on BRM_CLK_SRC_NOW 0 = true ∧ s.dev.on BRM_CLK_LOCKED 0 = true ∧ s.dev.on BRM_CLK_HOLD 0 = false)
    ∧ (∃ (s : State), ((s.dev.on BRM_CLK_SRC_NOW 0 = false ∨ s.dev.on BRM_CLK_LOCKED 0 = false ∨ s.dev.on BRM_CLK_HOLD 0 = true)))
    ∧ (∃ (s : State), s.dev.on BRM_CLK_SRC_NOW 0 = true ∧ s.dev.on BRM_PSTATUS_COMPAT 0 = false)
    ∧ (∃ (s : State), ((s.dev.on BRM_CLK_SRC_NOW 0 = false ∨ s.dev.on BRM_PSTATUS_COMPAT 0 = true))) :=
   ⟨⟨stOf Dev.reset [(BRM_PSTATUS_STATE, 1, 1)] [], 2, by decide +kernel⟩,
    ⟨(fun (p : Fin 3) => stOf Dev.reset [(BRM_PSTATUS_STATE, p, 2), (BRM_PSTATUS_STATE, 1, 4), (BRM_PSTATUS_LANE_SET, 1, 3)] [(.mkBad, 2, 2), (.mkBad, 3, 2)]) (1), 1, 1, [0x4C#8, 0x00#8, 7#8, 0x5A#8, 0x5A#8, 0x3C#8, 0xC3#8, 0x96#8], false, _, rfl, by decide +kernel⟩,
    ⟨(fun (p : Fin 3) => stOf Dev.reset [(BRM_PSTATUS_STATE, p, 2), (BRM_PSTATUS_STATE, 1, 2)] [(.mkBad, 2, 1), (.mkBad, 3, 1)]) (2), 2, 1, [0x4C#8, 0x00#8, 7#8, 0x5A#8, 0x5A#8, 0x3C#8, 0xC3#8, 0x96#8], _, rfl, by decide +kernel⟩,
    ⟨(fun (p : Fin 3) => stOf Dev.reset [(BRM_PSTATUS_STATE, p, 2), (BRM_PCTRL_LANES, 1, 0), (BRM_PSTATUS_STATE, 1, 2)] [(.mkRun, 2, 1), (.mkSeen, 2, 0), (.lfHold, 2, 0)]) (2), 2, 0, [0x4B#8, 0x00#8, 7#8, 0x5A#8, 0xA5#8, 0x3C#8, 0xC3#8, 0x96#8], true, _, _, rfl, rfl, by decide +kernel⟩,
    ⟨(fun (p : Fin 3) => stOf Dev.reset [(BRM_PSTATUS_COMPAT, p, 0), (BRM_PSTATUS_STATE, 1, 4), (BRM_PSTATUS_LANE_SET, 1, 3)] []) (2), 2, -51, by decide +kernel⟩,
    ⟨stOf Dev.reset [] [], 2, 50, by decide +kernel⟩,
    ⟨stOf Dev.reset [(BRM_CLK_SRC_NOW, 0, 1), (BRM_CLK_LOCKED, 0, 1), (BRM_CLK_HOLD, 0, 0)] [], by decide +kernel⟩,
    ⟨stOf Dev.reset [(BRM_CLK_SRC_NOW, 0, 0)] [], by decide +kernel⟩,
    ⟨stOf Dev.reset [(BRM_CLK_SRC_NOW, 0, 1), (BRM_PSTATUS_COMPAT, 0, 0)] [], by decide +kernel⟩,
    ⟨stOf Dev.reset [(BRM_CLK_SRC_NOW, 0, 0)] [], by decide +kernel⟩⟩

/-- The hypotheses of `Obligations.LinkRetry`, clause by clause. -/
theorem witness_LinkRetry :
    (∃ (s : State) (p : Fin 3) (seq : Fin 4096) (keep : List (Nat × Nat × Pkt)), keep = s.dev.replay.filter (fun r => !(r.1 == p.val && decide (((seq.val : Int) - (r.2.1 : Nat)) % 4096 < 2048))) ∧ s.dev.brmActive p = true)
    ∧ (∃ (s : State) (p : Fin 3) (ok : Bool), ((ok = false ∨ s.dev.brmActive p = false)))
    ∧ (∃ (s : State) (p : Fin 3) (seq : Fin 4096) (d : Dev), d = s.dev.ackTo p seq ∧ s.dev.brmActive p = true ∧ d.replay.any (fun r => r.1 == p.val) = true ∧ d.v .llRepl p < 3)
    ∧ (∃ (s : State) (p : Fin 3) (seq : Fin 4096) (d : Dev), d = s.dev.ackTo p seq ∧ s.dev.brmActive p = true ∧ d.replay.any (fun r => r.1 == p.val) = true ∧ 3 ≤ d.v .llRepl p)
    ∧ (∃ (s : State) (p : Fin 3) (seq : Fin 4096) (d : Dev), d = s.dev.ackTo p seq ∧ s.dev.brmActive p = true ∧ d.replay.any (fun r => r.1 == p.val) = false)
    ∧ (∃ (s : State) (p : Fin 3) (ok : Bool), ((ok = false ∨ s.dev.brmActive p = false)))
    ∧ (∃ (s : State) (p : Fin 3), s.dev.brmActive p = true ∧ s.dev.replay.any (fun r => r.1 == p.val) = true ∧ s.dev.v .llRepl p < 3)
    ∧ (∃ (s : State) (p : Fin 3), s.dev.brmActive p = true ∧ s.dev.replay.any (fun r => r.1 == p.val) = true ∧ 3 ≤ s.dev.v .llRepl p)
    ∧ (∃ (s : State) (p : Fin 3), ((s.dev.brmActive p = false ∨ s.dev.replay.any (fun r => r.1 == p.val) = false)))
    ∧ (∃ (s : State) (p : Fin 3) (c : Fin 3) (h : Fin 65536) (u : Fin 65536) (d : Dev), d = ((s.dev.sv .crOn (3 * p + c) 1).sv .crGotH (3 * p + c) (h.val : Nat)).sv .crGotD (3 * p + c) (u.val : Nat) ∧ s.dev.brmActive p = true)
    ∧ (∃ (s : State) (p : Fin 3) (c : Fin 3) (h : Fin 65536) (u : Fin 65536) (k : Pkt), s.dev.brmActive p = true ∧ s.dev.txWait = [⟨p, none, k⟩] ∧ pktCls k = c ∧ s.dev.replayOk p k = true ∧ s.dev.trackOk p k = true ∧ 1 ≤ ((h.val : Int) - s.dev.v .crUseH (3 * p + c)) % 65536 ∧ (pktDataUnits k : Int) ≤ ((u.val : Int) - s.dev.v .crUseD (3 * p + c)) % 65536)
    ∧ (∃ (s : State) (p : Fin 3) (ok : Bool), ((ok = false ∨ s.dev.brmActive p = false)))
    ∧ (∃ (s : State) (p : Fin 3), s.dev.brmActive p = true ∧ 0 < s.dev.v .llAcc p)
    ∧ (∃ (s : State) (p : Fin 3), ((s.dev.brmActive p = false ∨ s.dev.v .llAcc p ≤ 0))) :=
   ⟨⟨((stOf Dev.reset [(BRM_PSTATUS_STATE, 1, 4)] [(.crOn, 3, 1), (.crGotH, 3, 20), (.crGotD, 3, 20), (.crUseH, 3, 1), (.crUseD, 3, 1), (.crOn, 5, 1), (.crGotH, 5, 20), (.crGotD, 5, 20), (.crUseH, 5, 1), (.crUseD, 5, 1)])).withDev (fun d => { d with replay := [(1, 5, { typ := 2, be := 15, len := 1, req := 0, unit := 1, tag := 3, gen := 0, code := 0, addr := 64, status := 0, data := [7] }), (0, 5, { typ := 2, be := 15, len := 1, req := 0, unit := 1, tag := 3, gen := 0, code := 0, addr := 64, status := 0, data := [7] })], txWait := [⟨1, some 2, { typ := 2, be := 15, len := 1, req := 0, unit := 1, tag := 3, gen := 0, code := 0, addr := 64, status := 0, data := [7] }⟩] }), 1, 6, _, rfl, by decide +kernel⟩,
    ⟨((stOf Dev.reset [] [])).withDev (fun d => { d with replay := [(1, 5, { typ := 2, be := 15, len := 1, req := 0, unit := 1, tag := 3, gen := 0, code := 0, addr := 64, status := 0, data := [7] }), (0, 5, { typ := 2, be := 15, len := 1, req := 0, unit := 1, tag := 3, gen := 0, code := 0, addr := 64, status := 0, data := [7] })], txWait := [⟨1, some 2, { typ := 2, be := 15, len := 1, req := 0, unit := 1, tag := 3, gen := 0, code := 0, addr := 64, status := 0, data := [7] }⟩] }), 2, false, by decide +kernel⟩,
    ⟨((stOf Dev.reset [(BRM_PSTATUS_STATE, 1, 4)] [(.llRepl, 1, 1)])).withDev (fun d => { d with replay := [(1, 5, { typ := 2, be := 15, len := 1, req := 0, unit := 1, tag := 3, gen := 0, code := 0, addr := 64, status := 0, data := [7] }), (0, 5, { typ := 1, be := 15, len := 1, req := 0, unit := 1, tag := 3, gen := 0, code := 0, addr := 64, status := 0, data := [] })] }), 1, 4, _, rfl, by decide +kernel⟩,
    ⟨((stOf Dev.reset [(BRM_PSTATUS_STATE, 1, 4)] [(.llRepl, 1, 3)])).withDev (fun d => { d with replay := [(1, 5, { typ := 2, be := 15, len := 1, req := 0, unit := 1, tag := 3, gen := 0, code := 0, addr := 64, status := 0, data := [7] }), (0, 5, { typ := 1, be := 15, len := 1, req := 0, unit := 1, tag := 3, gen := 0, code := 0, addr := 64, status := 0, data := [] })] }), 1, 4, _, rfl, by decide +kernel⟩,
    ⟨((stOf Dev.reset [(BRM_PSTATUS_STATE, 1, 4)] [])).withDev (fun d => { d with replay := [(1, 5, { typ := 2, be := 15, len := 1, req := 0, unit := 1, tag := 3, gen := 0, code := 0, addr := 64, status := 0, data := [7] }), (0, 5, { typ := 1, be := 15, len := 1, req := 0, unit := 1, tag := 3, gen := 0, code := 0, addr := 64, status := 0, data := [] })] }), 1, 6, _, rfl, by decide +kernel⟩,
    ⟨((stOf Dev.reset [] [])).withDev (fun d => { d with replay := [(1, 5, { typ := 2, be := 15, len := 1, req := 0, unit := 1, tag := 3, gen := 0, code := 0, addr := 64, status := 0, data := [7] }), (0, 5, { typ := 1, be := 15, len := 1, req := 0, unit := 1, tag := 3, gen := 0, code := 0, addr := 64, status := 0, data := [] })] }), 2, false, by decide +kernel⟩,
    ⟨((stOf Dev.reset [(BRM_PSTATUS_STATE, 1, 4)] [(.llRepl, 1, 2)])).withDev (fun d => { d with replay := [(1, 5, { typ := 2, be := 15, len := 1, req := 0, unit := 1, tag := 3, gen := 0, code := 0, addr := 64, status := 0, data := [7] }), (0, 5, { typ := 1, be := 15, len := 1, req := 0, unit := 1, tag := 3, gen := 0, code := 0, addr := 64, status := 0, data := [] })] }), 1, by decide +kernel⟩,
    ⟨(fun (p : Fin 3) => ((stOf Dev.reset [(BRM_PSTATUS_STATE, 1, 4)] [(.llRepl, p, 3)])).withDev (fun d => { d with replay := [(1, 5, { typ := 2, be := 15, len := 1, req := 0, unit := 1, tag := 3, gen := 0, code := 0, addr := 64, status := 0, data := [7] }), (0, 5, { typ := 1, be := 15, len := 1, req := 0, unit := 1, tag := 3, gen := 0, code := 0, addr := 64, status := 0, data := [] })] })) (1), 1, by decide +kernel⟩,
    ⟨stOf Dev.reset [(BRM_PSTATUS_STATE, 1, 4)] [], 2, by decide +kernel⟩,
    ⟨((stOf Dev.reset [(BRM_PSTATUS_STATE, 1, 4)] [])).withDev (fun d => { d with replay := [(1, 5, { typ := 2, be := 15, len := 1, req := 0, unit := 1, tag := 3, gen := 0, code := 0, addr := 64, status := 0, data := [7] }), (0, 5, { typ := 2, be := 15, len := 1, req := 0, unit := 1, tag := 3, gen := 0, code := 0, addr := 64, status := 0, data := [7] })], txWait := [⟨1, some 2, { typ := 2, be := 15, len := 1, req := 0, unit := 1, tag := 3, gen := 0, code := 0, addr := 64, status := 0, data := [7] }⟩] }), 1, 0, 40, 40, _, rfl, by decide +kernel⟩,
    ⟨((stOf Dev.reset [(BRM_PSTATUS_STATE, 1, 4)] [])).withDev (fun d => { d with txWait := [⟨1, none, { typ := 2, be := 15, len := 1, req := 0, unit := 1, tag := 3, gen := 0, code := 0, addr := 64, status := 0, data := [7] }⟩] }), 1, 0, 40, 40, { typ := 2, be := 15, len := 1, req := 0, unit := 1, tag := 3, gen := 0, code := 0, addr := 64, status := 0, data := [7] }, by decide +kernel⟩,
    ⟨stOf Dev.reset [] [], 2, false, by decide +kernel⟩,
    ⟨stOf Dev.reset [(BRM_PSTATUS_STATE, 1, 4)] [(.llAcc, 1, 3)], 1, by decide +kernel⟩,
    ⟨stOf Dev.reset [(BRM_PSTATUS_STATE, 1, 4)] [(.llAcc, 1, 0)], 2, by decide +kernel⟩⟩

/-- The hypotheses of `Obligations.FleetMessages`, clause by clause. -/
theorem witness_FleetMessages :
    (∃ (s : State) (p : Fin 3) (seq : Fin 4096) (good : Bool) (k : Pkt), ((taken s.dev p seq good = false ∨ pktIsCpl k = false)))
    ∧ (∃ (s : State) (p : Fin 3) (seq : Fin 4096) (good : Bool) (k : Pkt), ((taken s.dev p seq good = false ∨ k.typ ≠ 4)))
    ∧ (∃ (s : State) (p : Fin 3) (seq : Fin 4096) (good : Bool) (k : Pkt), ((taken s.dev p seq good = false ∨ k.typ ≠ 3 ∨ k.code ≠ 2)))
    ∧ (∃ (s : State) (p : Fin 3) (seq : Fin 4096) (good : Bool) (k : Pkt), ((taken s.dev p seq good = false ∨ k.typ ≠ 3 ∨ k.code ≠ 3)))
    ∧ (∃ (s : State) (p : Fin 3) (seq : Fin 4096) (good : Bool) (k : Pkt), ((taken s.dev p seq good = false ∨ k.typ ≠ 3 ∨ k.code ≠ 4)))
    ∧ (∃ (s : State) (p : Fin 3) (seq : Fin 4096) (k : Pkt), taken s.dev p seq true = true ∧ pktIsCpl k = true ∧ k.req = s.dev.devNum ∧ k.gen ≠ s.dev.devGen)
    ∧ (∃ (s : State) (p : Fin 3) (seq : Fin 4096) (k : Pkt), taken s.dev p seq true = true ∧ pktIsCpl k = true ∧ k.req = s.dev.devNum ∧ k.gen = s.dev.devGen ∧ s.dev.ownReqs.find? (fun r => r.unit == k.unit && r.tag == k.tag) = none)
    ∧ (∃ (s : State) (p : Fin 3) (seq : Fin 4096) (k : Pkt) (dev : Nat), taken s.dev p seq true = true ∧ pktIsCpl k = true ∧ k.req = s.dev.devNum ∧ k.gen = s.dev.devGen ∧ s.dev.ownReqs.find? (fun r => r.unit == k.unit && r.tag == k.tag) = some ⟨k.unit, k.tag, dev⟩ ∧ k.unit ≠ 2)
    ∧ (∃ (s : State) (p : Fin 3) (seq : Fin 4096) (k : Pkt) (dev : Nat), taken s.dev p seq true = true ∧ pktIsCpl k = true ∧ k.req = s.dev.devNum ∧ k.gen = s.dev.devGen ∧ s.dev.ownReqs.find? (fun r => r.unit == k.unit && r.tag == k.tag) = some ⟨k.unit, k.tag, dev⟩ ∧ k.unit = 2)
    ∧ (∃ (s : State) (p : Fin 3) (q : Fin 3) (seq : Fin 4096) (k : Pkt), taken s.dev p seq true = true ∧ pktIsCpl k = true ∧ k.req ≠ s.dev.devNum ∧ s.dev.route k.req = .port q)
    ∧ (∃ (s : State) (p : Fin 3) (seq : Fin 4096) (k : Pkt), taken s.dev p seq true = true ∧ pktIsCpl k = true ∧ k.req ≠ s.dev.devNum ∧ s.dev.route k.req = .none)
    ∧ (∃ (s : State) (unit : Fin 4) (tag : Fin 1024) (dev : Nat), s.dev.ownReqs.find? (fun r => r.unit == unit.val && r.tag == tag.val) = some ⟨unit, tag, dev⟩ ∧ unit.val ≠ 2)
    ∧ (∃ (s : State) (tag : Fin 1024) (dev : Nat), s.dev.ownReqs.find? (fun r => r.unit == 2 && r.tag == tag.val) = some ⟨2, tag, dev⟩)
    ∧ (∃ (s : State) (unit : Fin 4) (tag : Fin 1024), s.dev.ownReqs.any (fun r => r.unit == unit.val && r.tag == tag.val) = false)
    ∧ (∃ (s : State), s.dev.on BRM_FCTRL_ROOT 0 = true ∧ s.dev.ownReqs = [] ∧ s.dev.tracked = [] ∧ s.dev.txWait.any (fun e => pktCls e.pkt == 1) = false)
    ∧ (∃ (s : State), s.dev.on BRM_FCTRL_ROOT 0 = true ∧ ((s.dev.ownReqs ≠ [] ∨ s.dev.tracked ≠ [] ∨ s.dev.txWait.any (fun e => pktCls e.pkt == 1) = true)))
    ∧ (∃ (s : State), s.dev.on BRM_FCTRL_ROOT 0 = false)
    ∧ (∃ (s : State) (p : Fin 3) (seq : Fin 4096) (k : Pkt), taken s.dev p seq true = true ∧ k.typ = 4 ∧ ((k.code ≠ 1 ∨ p.val ≠ 0 ∨ s.dev.on BRM_FCTRL_ROOT 0 = true)))
    ∧ (∃ (s : State) (seq : Fin 4096) (k : Pkt), taken s.dev 0 seq true = true ∧ k.typ = 4 ∧ k.code = 1 ∧ s.dev.on BRM_FCTRL_ROOT 0 = false ∧ 64 ≤ k.data.headD 0 % 128)
    ∧ (∃ (s : State) (seq : Fin 4096) (k : Pkt) (base : Nat) (depth : Nat), base = k.data.headD 0 % 128 ∧ depth = k.data.headD 0 / 2 ^ 8 % 8 ∧ taken s.dev 0 seq true = true ∧ k.typ = 4 ∧ k.code = 1 ∧ s.dev.on BRM_FCTRL_ROOT 0 = false ∧ base < 64)
    ∧ (∃ (s : State) (p : Fin 3) (q : Fin 3) (seq : Fin 4096) (k : Pkt), taken s.dev p seq true = true ∧ k.typ = 3 ∧ k.code = 2 ∧ s.dev.route (fleetDev k.addr) = .port q)
    ∧ (∃ (s : State) (p : Fin 3) (seq : Fin 4096) (k : Pkt), taken s.dev p seq true = true ∧ k.typ = 3 ∧ k.code = 2 ∧ s.dev.route (fleetDev k.addr) = .none)
    ∧ (∃ (s : State) (p : Fin 3) (seq : Fin 4096) (k : Pkt) (sender : Nat) (vec : Nat), sender = k.data.headD 0 % 64 ∧ vec = k.data.headD 0 / 2 ^ 16 % 64 ∧ taken s.dev p seq true = true ∧ k.typ = 3 ∧ k.code = 2 ∧ s.dev.route (fleetDev k.addr) = .here ∧ s.dev.on BRM_FCTRL_ROOT 0 = true)
    ∧ (∃ (s : State) (p : Fin 3) (seq : Fin 4096) (k : Pkt), taken s.dev p seq true = true ∧ k.typ = 3 ∧ k.code = 2 ∧ s.dev.route (fleetDev k.addr) = .here ∧ s.dev.on BRM_FCTRL_ROOT 0 = false)
    ∧ (∃ (s : State) (p : Fin 3) (q : Fin 3) (seq : Fin 4096) (k : Pkt), taken s.dev p seq true = true ∧ k.typ = 3 ∧ k.code = 3 ∧ s.dev.route (fleetDev k.addr) = .port q)
    ∧ (∃ (s : State) (p : Fin 3) (seq : Fin 4096) (k : Pkt), taken s.dev p seq true = true ∧ k.typ = 3 ∧ k.code = 3 ∧ s.dev.route (fleetDev k.addr) = .none)
    ∧ (∃ (s : State) (p : Fin 3) (seq : Fin 4096) (k : Pkt), taken s.dev p seq true = true ∧ k.typ = 3 ∧ k.code = 3 ∧ s.dev.route (fleetDev k.addr) = .here ∧ s.dev.on TRG_CTRL_ROLE 0 = true ∧ s.dev.trigbQ.length < 4)
    ∧ (∃ (s : State) (p : Fin 3) (seq : Fin 4096) (k : Pkt), taken s.dev p seq true = true ∧ k.typ = 3 ∧ k.code = 3 ∧ s.dev.route (fleetDev k.addr) = .here ∧ ((s.dev.on TRG_CTRL_ROLE 0 = false ∨ 4 ≤ s.dev.trigbQ.length)))
    ∧ (∃ (s : State) (p : Fin 3) (seq : Fin 4096) (k : Pkt), taken s.dev p seq true = true ∧ k.typ = 3 ∧ k.code = 4 ∧ s.dev.on BRM_FSTATUS_NUMBERED 0 = false)
    ∧ (∃ (s : State) (p : Fin 3) (seq : Fin 4096) (k : Pkt) (x : Int), x = bitsTime (k.data.getD 1 0 + k.data.getD 2 0 * 2 ^ 32 + k.data.getD 3 0 * 2 ^ 64) ∧ taken s.dev p seq true = true ∧ k.typ = 3 ∧ k.code = 4 ∧ s.dev.on BRM_FSTATUS_NUMBERED 0 = true)
    ∧ (∃ (s : State) (p : Fin 3) (seq : Fin 4096) (k : Pkt), taken s.dev p seq true = true ∧ k.typ = 3 ∧ k.code = 4 ∧ s.dev.on BRM_FSTATUS_NUMBERED 0 = true ∧ s.dev.get TIME_DCFG_SRC 0 ≠ 2 ∧ s.dev.get TIME_DCFG_SRC 1 ≠ 2)
    ∧ (∃ (s : State) (j : Nat) (w : Nat) (k : Pkt), j = (s.dev.v .tmsgPend 0 - 1).toNat ∧ w = timeBits (s.dev.v .busTime j) ∧ k = { s.dev.message 4 0 0 with addr := 2 ^ 46, len := 4, be := 0xFF, data := [j, w % 2 ^ 32, w / 2 ^ 32 % 2 ^ 32, w / 2 ^ 64] } ∧ s.dev.on BRM_FCTRL_ROOT 0 = true ∧ s.dev.on BRM_FCTRL_TMSG_AUTO 0 = true ∧ s.dev.v .tmsgPend 0 ≠ 0)
    ∧ (∃ (s : State), ((s.dev.on BRM_FCTRL_ROOT 0 = false ∨ s.dev.on BRM_FCTRL_TMSG_AUTO 0 = false ∨ s.dev.v .tmsgPend 0 = 0))) :=
   ⟨⟨stOf Dev.reset [(BRM_PSTATUS_STATE, 1, 4)] [], 2, 4095, false, { typ := 6, be := 0, len := 1, req := 3, unit := 1, tag := 3, gen := 0, code := 0, addr := 0, status := 0, data := [77] }, by decide +kernel⟩,
    ⟨stOf Dev.reset [(BRM_PSTATUS_STATE, 1, 4)] [(.llRxSeq, 1, 3), (.llRxSeq, 0, 3)], 2, 4095, true, { typ := 6, be := 0, len := 1, req := 3, unit := 1, tag := 3, gen := 0, code := 0, addr := 0, status := 0, data := [77] }, by decide +kernel⟩,
    ⟨stOf Dev.reset [(BRM_PSTATUS_STATE, 1, 4)] [(.llRxSeq, 1, 3), (.llRxSeq, 0, 3)], 2, 4095, true, { typ := 6, be := 0, len := 1, req := 3, unit := 1, tag := 3, gen := 0, code := 0, addr := 0, status := 0, data := [77] }, by decide +kernel⟩,
    ⟨stOf Dev.reset [(BRM_PSTATUS_STATE, 1, 4)] [(.llRxSeq, 1, 3), (.llRxSeq, 0, 3)], 2, 4095, true, { typ := 6, be := 0, len := 1, req := 3, unit := 1, tag := 3, gen := 0, code := 0, addr := 0, status := 0, data := [77] }, by decide +kernel⟩,
    ⟨stOf Dev.reset [(BRM_PSTATUS_STATE, 1, 4)] [(.llRxSeq, 1, 3), (.llRxSeq, 0, 3)], 2, 4095, true, { typ := 6, be := 0, len := 1, req := 3, unit := 1, tag := 3, gen := 0, code := 0, addr := 0, status := 0, data := [77] }, by decide +kernel⟩,
    ⟨stOf Dev.reset [(BRM_PSTATUS_STATE, 1, 4), (BRM_FSTATUS_DEVNUM, 0, 3), (BRM_FSTATUS_NUMBERED, 0, 1), (TOP_GEN_GEN, 0, 0)] [(.llRxSeq, 1, 3), (.llRxSeq, 0, 3)], 1, 3, { typ := 6, be := 0, len := 1, req := 3, unit := 1, tag := 3, gen := 1, code := 0, addr := 0, status := 0, data := [77] }, by decide +kernel⟩,
    ⟨stOf Dev.reset [(BRM_PSTATUS_STATE, 1, 4), (BRM_FSTATUS_DEVNUM, 0, 3), (BRM_FSTATUS_NUMBERED, 0, 1), (TOP_GEN_GEN, 0, 0)] [(.llRxSeq, 1, 3), (.llRxSeq, 0, 3)], 1, 3, { typ := 6, be := 0, len := 1, req := 3, unit := 1, tag := 3, gen := 0, code := 0, addr := 0, status := 0, data := [77] }, by decide +kernel⟩,
    ⟨((stOf Dev.reset [(BRM_PSTATUS_STATE, 1, 4), (BRM_FSTATUS_DEVNUM, 0, 3), (BRM_FSTATUS_NUMBERED, 0, 1), (TOP_GEN_GEN, 0, 0)] [(.llRxSeq, 1, 3), (.llRxSeq, 0, 3)])).withDev (fun d => { d with ownReqs := [⟨0, 3, 5⟩, ⟨1, 3, 6⟩, ⟨2, 0, 4⟩] }), 1, 3, { typ := 6, be := 0, len := 1, req := 3, unit := 0, tag := 3, gen := 0, code := 0, addr := 0, status := 6, data := [77] }, 5, by decide +kernel⟩,
    ⟨((stOf Dev.reset [(BRM_PSTATUS_STATE, 1, 4), (BRM_FSTATUS_DEVNUM, 0, 3), (BRM_FSTATUS_NUMBERED, 0, 1), (TOP_GEN_GEN, 0, 0)] [(.llRxSeq, 1, 3), (.llRxSeq, 0, 3), (.enStep, 0, 1)])).withDev (fun d => { d with ownReqs := [⟨0, 3, 5⟩, ⟨1, 3, 6⟩, ⟨2, 0, 4⟩] }), 1, 3, { typ := 6, be := 0, len := 1, req := 3, unit := 2, tag := 0, gen := 0, code := 0, addr := 0, status := 0, data := [77] }, 4, by decide +kernel⟩,
    ⟨stOf Dev.reset [(BRM_PSTATUS_STATE, 1, 4), (BRM_FSTATUS_DEVNUM, 0, 3), (BRM_FSTATUS_NUMBERED, 0, 1), (TOP_GEN_GEN, 0, 0), (BRM_ROUTE_S0, 0, 4)] [(.llRxSeq, 1, 3), (.llRxSeq, 0, 3)], 1, 1, 3, { typ := 6, be := 0, len := 1, req := 5, unit := 1, tag := 3, gen := 0, code := 0, addr := 0, status := 0, data := [77] }, by decide +kernel⟩,
    ⟨stOf Dev.reset [(BRM_PSTATUS_STATE, 1, 4), (BRM_FSTATUS_DEVNUM, 0, 3), (BRM_FSTATUS_NUMBERED, 0, 1), (TOP_GEN_GEN, 0, 0), (BRM_FSTATUS_NUMBERED, 0, 0)] [(.llRxSeq, 1, 3), (.llRxSeq, 0, 3)], 1, 3, { typ := 6, be := 0, len := 1, req := 5, unit := 1, tag := 3, gen := 0, code := 0, addr := 0, status := 0, data := [77] }, by decide +kernel⟩,
    ⟨((stOf Dev.reset [] [])).withDev (fun d => { d with ownReqs := [⟨0, 3, 5⟩, ⟨1, 3, 6⟩, ⟨2, 0, 4⟩] }), 0, 3, 5, by decide +kernel⟩,
    ⟨((stOf Dev.reset [] [(.enStep, 0, 1)])).withDev (fun d => { d with ownReqs := [⟨0, 3, 5⟩, ⟨1, 3, 6⟩, ⟨2, 0, 4⟩] }), 0, 4, by decide +kernel⟩,
    ⟨stOf Dev.reset [] [], 3, 1023, by decide +kernel⟩,
    ⟨stOf Dev.reset [(BRM_FCTRL_ROOT, 0, 1), (BRM_PSTATUS_STATE, 2, 4), (BRM_PSTATUS_STATE, 1, 3)] [], by decide +kernel⟩,
    ⟨((stOf Dev.reset [(BRM_FCTRL_ROOT, 0, 1)] [])).withDev (fun d => { d with ownReqs := [⟨0, 3, 5⟩, ⟨1, 3, 6⟩, ⟨2, 0, 4⟩] }), by decide +kernel⟩,
    ⟨stOf Dev.reset [(BRM_FCTRL_ROOT, 0, 0)] [], by decide +kernel⟩,
    ⟨stOf Dev.reset [(BRM_PSTATUS_STATE, 1, 4)] [(.llRxSeq, 1, 3), (.llRxSeq, 0, 3)], 1, 3, { typ := 4, be := 15, len := 1, req := 2, unit := 2, tag := 0, gen := 0, code := 1, addr := 0, status := 0, data := [7] }, by decide +kernel⟩,
    ⟨stOf Dev.reset [(BRM_FCTRL_ROOT, 0, 0), (BRM_PSTATUS_STATE, 0, 4)] [(.llRxSeq, 1, 3), (.llRxSeq, 0, 3)], 3, { typ := 4, be := 15, len := 1, req := 2, unit := 2, tag := 0, gen := 0, code := 1, addr := 0, status := 0, data := [70] }, by decide +kernel⟩,
    ⟨stOf Dev.reset [(BRM_FCTRL_ROOT, 0, 0), (BRM_PSTATUS_STATE, 0, 4), (BRM_PSTATUS_STATE, 1, 1), (BRM_PSTATUS_STATE, 2, 2)] [(.llRxSeq, 1, 3), (.llRxSeq, 0, 3)], 3, { typ := 4, be := 15, len := 1, req := 2, unit := 2, tag := 0, gen := 0, code := 1, addr := 0, status := 0, data := [519] }, _, _, rfl, rfl, by decide +kernel⟩,
    ⟨stOf Dev.reset [(BRM_PSTATUS_STATE, 1, 4), (BRM_FSTATUS_DEVNUM, 0, 3), (BRM_FSTATUS_NUMBERED, 0, 1), (TOP_GEN_GEN, 0, 0), (BRM_FSTATUS_DEVNUM, 0, 2), (BRM_ROUTE_S0, 0, 4)] [(.llRxSeq, 1, 3), (.llRxSeq, 0, 3)], 1, 1, 3, { typ := 3, be := 15, len := 1, req := 4, unit := 3, tag := 0, gen := 0, code := 2, addr := 3 * 2 ^ 40, status := 0, data := [4 + 2^8*9 + 2^16*5] }, by decide +kernel⟩,
    ⟨stOf Dev.reset [(BRM_PSTATUS_STATE, 1, 4), (BRM_FSTATUS_DEVNUM, 0, 3), (BRM_FSTATUS_NUMBERED, 0, 1), (TOP_GEN_GEN, 0, 0), (BRM_FSTATUS_NUMBERED, 0, 0)] [(.llRxSeq, 1, 3), (.llRxSeq, 0, 3)], 1, 3, { typ := 3, be := 15, len := 1, req := 4, unit := 3, tag := 0, gen := 0, code := 2, addr := 3 * 2 ^ 40, status := 0, data := [4 + 2^8*9 + 2^16*5] }, by decide +kernel⟩,
    ⟨stOf Dev.reset [(BRM_FCTRL_ROOT, 0, 1), (BRM_PSTATUS_STATE, 1, 4), (BRM_FSTATUS_DEVNUM, 0, 3), (BRM_FSTATUS_NUMBERED, 0, 1), (TOP_GEN_GEN, 0, 0)] [(.llRxSeq, 1, 3), (.llRxSeq, 0, 3), (.msixTab, 23, 0)], 1, 3, { typ := 3, be := 15, len := 1, req := 4, unit := 3, tag := 0, gen := 0, code := 2, addr := 3 * 2 ^ 40, status := 0, data := [4 + 2^8*9 + 2^16*5] }, _, _, rfl, rfl, by decide +kernel⟩,
    ⟨stOf Dev.reset [(BRM_FCTRL_ROOT, 0, 0), (BRM_PSTATUS_STATE, 1, 4), (BRM_FSTATUS_DEVNUM, 0, 3), (BRM_FSTATUS_NUMBERED, 0, 1), (TOP_GEN_GEN, 0, 0)] [(.llRxSeq, 1, 3), (.llRxSeq, 0, 3)], 1, 3, { typ := 3, be := 15, len := 1, req := 4, unit := 3, tag := 0, gen := 0, code := 2, addr := 3 * 2 ^ 40, status := 0, data := [4 + 2^8*9 + 2^16*5] }, by decide +kernel⟩,
    ⟨stOf Dev.reset [(BRM_PSTATUS_STATE, 1, 4), (BRM_FSTATUS_DEVNUM, 0, 3), (BRM_FSTATUS_NUMBERED, 0, 1), (TOP_GEN_GEN, 0, 0), (BRM_FSTATUS_DEVNUM, 0, 2), (BRM_ROUTE_S0, 0, 4)] [(.llRxSeq, 1, 3), (.llRxSeq, 0, 3)], 1, 1, 3, { typ := 3, be := 15, len := 1, req := 4, unit := 3, tag := 0, gen := 0, code := 3, addr := 3 * 2 ^ 40, status := 0, data := [4 + 2^8*9 + 2^16*5] }, by decide +kernel⟩,
    ⟨stOf Dev.reset [(BRM_PSTATUS_STATE, 1, 4), (BRM_FSTATUS_DEVNUM, 0, 3), (BRM_FSTATUS_NUMBERED, 0, 1), (TOP_GEN_GEN, 0, 0), (BRM_FSTATUS_NUMBERED, 0, 0)] [(.llRxSeq, 1, 3), (.llRxSeq, 0, 3)], 1, 3, { typ := 3, be := 15, len := 1, req := 4, unit := 3, tag := 0, gen := 0, code := 3, addr := 3 * 2 ^ 40, status := 0, data := [4 + 2^8*9 + 2^16*5] }, by decide +kernel⟩,
    ⟨stOf Dev.reset [(TRG_CTRL_ROLE, 0, 1), (BRM_PSTATUS_STATE, 1, 4), (BRM_FSTATUS_DEVNUM, 0, 3), (BRM_FSTATUS_NUMBERED, 0, 1), (TOP_GEN_GEN, 0, 0)] [(.llRxSeq, 1, 3), (.llRxSeq, 0, 3)], 1, 3, { typ := 3, be := 15, len := 1, req := 4, unit := 3, tag := 0, gen := 0, code := 3, addr := 3 * 2 ^ 40, status := 0, data := [9] }, by decide +kernel⟩,
    ⟨stOf Dev.reset [(BRM_PSTATUS_STATE, 1, 4), (BRM_FSTATUS_DEVNUM, 0, 3), (BRM_FSTATUS_NUMBERED, 0, 1), (TOP_GEN_GEN, 0, 0)] [(.llRxSeq, 1, 3), (.llRxSeq, 0, 3)], 1, 3, { typ := 3, be := 15, len := 1, req := 4, unit := 3, tag := 0, gen := 0, code := 3, addr := 3 * 2 ^ 40, status := 0, data := [9] }, by decide +kernel⟩,
    ⟨stOf Dev.reset [(BRM_FSTATUS_NUMBERED, 0, 0), (BRM_PSTATUS_STATE, 1, 4), (BRM_FSTATUS_DEVNUM, 0, 3), (BRM_FSTATUS_NUMBERED, 0, 1), (TOP_GEN_GEN, 0, 0), (BRM_FSTATUS_NUMBERED, 0, 0)] [(.llRxSeq, 1, 3), (.llRxSeq, 0, 3)], 1, 3, { typ := 3, be := 15, len := 1, req := 4, unit := 3, tag := 0, gen := 0, code := 4, addr := 3 * 2 ^ 40, status := 0, data := [2, 1, 1, 1] }, by decide +kernel⟩,
    ⟨stOf Dev.reset [(BRM_FSTATUS_NUMBERED, 0, 1), (BRM_PSTATUS_STATE, 1, 4), (BRM_FSTATUS_DEVNUM, 0, 3), (BRM_FSTATUS_NUMBERED, 0, 1), (TOP_GEN_GEN, 0, 0), (TIME_DCFG_SRC, 0, 2), (TIME_DCFG_SRC, 1, 2)] [(.llRxSeq, 1, 3), (.llRxSeq, 0, 3), (.busTimeOn, 0, 2), (.busAge, 0, 5), (.busTau, 0, 1000)], 1, 3, { typ := 3, be := 15, len := 1, req := 4, unit := 3, tag := 0, gen := 0, code := 4, addr := 3 * 2 ^ 40, status := 0, data := [2, 1, 1, 1] }, _, rfl, by decide +kernel⟩,
    ⟨stOf Dev.reset [(BRM_FSTATUS_NUMBERED, 0, 1), (BRM_PSTATUS_STATE, 1, 4), (BRM_FSTATUS_DEVNUM, 0, 3), (BRM_FSTATUS_NUMBERED, 0, 1), (TOP_GEN_GEN, 0, 0), (TIME_DCFG_SRC, 1, 0), (TIME_DCFG_SRC, 0, 0)] [(.llRxSeq, 1, 3), (.llRxSeq, 0, 3)], 1, 3, { typ := 3, be := 15, len := 1, req := 4, unit := 3, tag := 0, gen := 0, code := 4, addr := 3 * 2 ^ 40, status := 0, data := [2, 1, 1, 1] }, by decide +kernel⟩,
    ⟨stOf Dev.reset [(BRM_FCTRL_ROOT, 0, 1), (BRM_FCTRL_TMSG_AUTO, 0, 1), (BRM_PSTATUS_STATE, 1, 4), (BRM_FSTATUS_DEVNUM, 0, 3), (BRM_FSTATUS_NUMBERED, 0, 1), (TOP_GEN_GEN, 0, 0)] [(.tmsgPend, 0, 1), (.busTime, 0, 12345), (.crOn, 3, 1), (.crGotH, 3, 20), (.crGotD, 3, 20), (.crUseH, 3, 1), (.crUseD, 3, 1), (.crOn, 5, 1), (.crGotH, 5, 20), (.crGotD, 5, 20), (.crUseH, 5, 1), (.crUseD, 5, 1)], _, _, _, rfl, rfl, rfl, by decide +kernel⟩,
    ⟨stOf Dev.reset [] [(.tmsgPend, 0, 0)], by decide +kernel⟩⟩

/-- The hypotheses of `Obligations.UnmappedAccess`, clause by clause. -/
theorem witness_UnmappedAccess :
    (∃ (s : State) (init : Nat) (a : Nat) (env : WrEnv), region a = .unmapped ∧ a < sramBase ∧ a % 4 = 0 ∧ s.dev.userFault init a true env = false ∧ ((s.dev.isOff a = true ∨ s.dev.heldAt a = none)))
    ∧ (∃ (s : State) (init : Nat) (a : Nat) (size : Nat) (env : WrEnv), region a = .unmapped ∧ a < sramBase ∧ a % 4 + size ≤ 4 ∧ s.dev.userFault init a false env = false ∧ ((s.dev.isOff a = true ∨ s.dev.heldAt a = none)))
    ∧ (∃ (s : State) (init : Nat) (a : Nat) (size : Nat) (env : WrEnv), region a = .unmapped ∧ a < sramBase ∧ a % 4 + size ≤ 4 ∧ s.dev.userFault init a false env = false ∧ ((s.dev.isOff a = true ∨ s.dev.heldAt a = none)))
    ∧ (∃ (s : State) (a : Nat) (size : Nat), region a = .unmapped ∧ sramBase ≤ a ∧ 0 < size ∧ a % unitSize a + size ≤ unitSize a) :=
   ⟨⟨stOf Dev.reset [] [(.offMgmt, 0, 0), (.offBunch, 0, 0), (.offBunch, 1, 0), (.bnReload, 0, 0), (.bnReload, 1, 0), (.lpSelf, 0, 0)], 3, 0x12_0000, { ab := [], k := 0, quiet := true, wake := 0, user := false, lines := 0, find := .clean }, by decide +kernel⟩,
    ⟨stOf Dev.reset [] [(.offMgmt, 0, 0), (.offBunch, 0, 0), (.offBunch, 1, 0), (.bnReload, 0, 0), (.bnReload, 1, 0), (.lpSelf, 0, 0)], 3, 0x12_0002, 2, { ab := [], k := 0, quiet := true, wake := 0, user := false, lines := 0, find := .clean }, by decide +kernel⟩,
    ⟨stOf Dev.reset [] [(.offMgmt, 0, 0), (.offBunch, 0, 0), (.offBunch, 1, 0), (.bnReload, 0, 0), (.bnReload, 1, 0), (.lpSelf, 0, 0)], 3, 0x12_0002, 2, { ab := [], k := 0, quiet := true, wake := 0, user := false, lines := 0, find := .clean }, by decide +kernel⟩,
    ⟨stOf Dev.reset [] [], 0x7000_0004, 4, by decide +kernel⟩⟩

/-- The hypotheses of `Obligations.RegisterAccess`, clause by clause. -/
theorem witness_RegisterAccess :
    (∃ (s : State) (init : Nat) (a : Nat) (env : WrEnv) (r : Reg) (n : Nat) (f : Fld), regFind a = some (r, n) ∧ region a = .regs ∧ a % 4 = 0 ∧ s.dev.isOff a = false ∧ s.dev.heldAt a = none ∧ s.dev.userFault init a true env = false ∧ writeActs.contains r = false ∧ f ∈ fieldsOf r ∧ calmField f)
    ∧ (∃ (s : State) (init : Nat) (a : Nat) (env : WrEnv) (r : Reg) (n : Nat), regFind a = some (r, n) ∧ region a = .regs ∧ a % 4 = 0 ∧ s.dev.isOff a = false ∧ s.dev.heldAt a = none ∧ s.dev.userFault init a true env = false)
    ∧ (∃ (s : State) (init : Nat) (a : Nat) (env : WrEnv) (w : Window), regFind a = none ∧ windowAt a = some w ∧ region a = .regs ∧ a % 4 = 0 ∧ s.dev.isOff a = false ∧ s.dev.heldAt a = none ∧ s.dev.userFault init a true env = false)
    ∧ (∃ (s : State) (init : Nat) (a : Nat) (env : WrEnv), regFind a = none ∧ windowAt a = none ∧ region a = .regs ∧ a % 4 = 0 ∧ s.dev.isOff a = false ∧ s.dev.heldAt a = none ∧ s.dev.userFault init a true env = false)
    ∧ (∃ (s : State) (init : Nat) (a : Nat) (size : Nat) (env : WrEnv), a < sramBase ∧ ((s.dev.isOff a = true ∨ s.dev.heldAt a = none)) ∧ s.dev.userFault init a true env = false ∧ size ≠ 8 ∧ ((size ≠ 4 ∨ a % 4 ≠ 0)))
    ∧ (∃ (s : State) (init : Nat) (a : Nat) (size : Nat) (env : WrEnv), a < sramBase ∧ size ≠ 8 ∧ s.dev.userFault init a true env = true)
    ∧ (∃ (s : State) (init : Nat) (a : Nat) (size : Nat) (b : Nat) (env : WrEnv), a < sramBase ∧ size ≠ 8 ∧ s.dev.userFault init a true env = false ∧ s.dev.isOff a = false ∧ s.dev.heldAt a = some b)
    ∧ (∃ (s : State) (init : Nat) (a : Nat) (env : WrEnv), region a = .regs ∧ a % 4 = 0 ∧ s.dev.isOff a = true ∧ s.dev.userFault init a true env = false)
    ∧ (∃ (s : State) (a : Nat), a < sramBase)
    ∧ (∃ (s : State) (a : Nat), sramBase ≤ a)
    ∧ (∃ (s : State) (init : Nat) (a : Nat) (size : Nat) (env : WrEnv) (r : Reg) (n : Nat) (f : Fld), regFind (a / 4 * 4) = some (r, n) ∧ region a = .regs ∧ a % 4 + size ≤ 4 ∧ s.dev.isOff a = false ∧ s.dev.heldAt a = none ∧ s.dev.userFault init a false env = false ∧ readActs.contains r = false ∧ f ∈ fieldsOf r ∧ calmField f)
    ∧ (∃ (s : State) (init : Nat) (a : Nat) (size : Nat) (env : WrEnv) (r : Reg) (n : Nat), regFind (a / 4 * 4) = some (r, n) ∧ region a = .regs ∧ a % 4 + size ≤ 4 ∧ s.dev.isOff a = false ∧ s.dev.heldAt a = none ∧ s.dev.userFault init a false env = false)
    ∧ (∃ (s : State) (init : Nat) (a : Nat) (size : Nat) (env : WrEnv) (v : Nat), v = ((windowAt (a / 4 * 4)).map (fun w => s.dev.winView w)).getD 0 ∧ regFind (a / 4 * 4) = none ∧ region a = .regs ∧ a % 4 + size ≤ 4 ∧ s.dev.isOff a = false ∧ s.dev.heldAt a = none ∧ s.dev.userFault init a false env = false)
    ∧ (∃ (s : State) (init : Nat) (a : Nat) (size : Nat) (env : WrEnv), a < sramBase ∧ size ≠ 8 ∧ 4 < a % 4 + size ∧ ((s.dev.isOff a = true ∨ s.dev.heldAt a = none)) ∧ s.dev.userFault init a false env = false)
    ∧ (∃ (s : State) (init : Nat) (a : Nat) (size : Nat) (env : WrEnv), a < sramBase ∧ size ≠ 8 ∧ s.dev.userFault init a false env = true)
    ∧ (∃ (s : State) (init : Nat) (a : Nat) (size : Nat) (b : Nat) (env : WrEnv), a < sramBase ∧ size ≠ 8 ∧ s.dev.userFault init a false env = false ∧ s.dev.isOff a = false ∧ s.dev.heldAt a = some b)
    ∧ (∃ (s : State) (init : Nat) (a : Nat) (size : Nat) (env : WrEnv), region a = .regs ∧ a % 4 + size ≤ 4 ∧ s.dev.isOff a = true ∧ s.dev.userFault init a false env = false)
    ∧ (∃ (s : State) (a : Nat), a < sramBase)
    ∧ (∃ (s : State) (a : Nat), sramBase ≤ a)
    ∧ (∃ (s : State) (a : Nat), a < sramBase) :=
   ⟨⟨stOf Dev.reset [] [(.offMgmt, 0, 0), (.offBunch, 0, 0), (.offBunch, 1, 0), (.bnReload, 0, 0), (.bnReload, 1, 0), (.lpSelf, 0, 0)], 2, 0x3_0008, { ab := [], k := 0, quiet := true, wake := 0, user := false, lines := 0, find := .clean }, .IRQ_SRC_CFG, 2, IRQ_SRC_CFG_PRIO, by unfold calmField; decide +kernel⟩,
    ⟨stOf Dev.reset [] [(.offMgmt, 0, 0), (.offBunch, 0, 0), (.offBunch, 1, 0), (.bnReload, 0, 0), (.bnReload, 1, 0), (.lpSelf, 0, 0)], 2, 0x3_0008, { ab := [], k := 0, quiet := true, wake := 0, user := false, lines := 0, find := .clean }, .IRQ_SRC_CFG, 2, by decide +kernel⟩,
    ⟨stOf Dev.reset [] [(.offMgmt, 0, 0), (.offBunch, 0, 0), (.offBunch, 1, 0), (.bnReload, 0, 0), (.bnReload, 1, 0), (.lpSelf, 0, 0)], 2, 0x8_400C, { ab := [], k := 0, quiet := true, wake := 0, user := false, lines := 0, find := .clean }, .msixTab 3, by decide +kernel⟩,
    ⟨stOf Dev.reset [] [(.offMgmt, 0, 0), (.offBunch, 0, 0), (.offBunch, 1, 0), (.bnReload, 0, 0), (.bnReload, 1, 0), (.lpSelf, 0, 0)], 2, 0xF_3000, { ab := [], k := 0, quiet := true, wake := 0, user := false, lines := 0, find := .clean }, by decide +kernel⟩,
    ⟨stOf Dev.reset [] [(.offMgmt, 0, 0), (.offBunch, 0, 0), (.offBunch, 1, 0), (.bnReload, 0, 0), (.bnReload, 1, 0), (.lpSelf, 0, 0)], 5, 0x3_0009, 2, { ab := [], k := 0, quiet := true, wake := 0, user := false, lines := 0, find := .clean }, by decide +kernel⟩,
    ⟨stOf Dev.reset [] [], 3, 0x3_0009, 4, { ab := [], k := 0, quiet := true, wake := 0, user := true, lines := 0, find := .clean }, by decide +kernel⟩,
    ⟨stOf Dev.reset [] [(.offMgmt, 0, 0), (.offBunch, 0, 0), (.offBunch, 1, 0), (.bnReload, 0, 1), (.bnReload, 1, 0), (.lpSelf, 0, 0)], 3, 0x100_0004, 4, 0, { ab := [], k := 0, quiet := true, wake := 0, user := false, lines := 0, find := .clean }, by decide +kernel⟩,
    ⟨stOf Dev.reset [] [(.offMgmt, 0, 1)], 3, 0x3_0008, { ab := [], k := 0, quiet := true, wake := 0, user := false, lines := 0, find := .clean }, by decide +kernel⟩,
    ⟨stOf Dev.reset [] [(.offMgmt, 0, 0), (.offBunch, 0, 0), (.offBunch, 1, 0), (.bnReload, 0, 0), (.bnReload, 1, 0), (.lpSelf, 0, 0)], 0x3_0008, by decide +kernel⟩,
    ⟨stOf Dev.reset [] [], sramBase, by decide +kernel⟩,
    ⟨stOf Dev.reset [] [(.offMgmt, 0, 0), (.offBunch, 0, 0), (.offBunch, 1, 0), (.bnReload, 0, 0), (.bnReload, 1, 0), (.lpSelf, 0, 0)], 1, 0x1C, 2, { ab := [], k := 0, quiet := true, wake := 0, user := false, lines := 0, find := .clean }, .TOP_ACCESS_CNT, 0, TOP_ACCESS_CNT_COUNT, by unfold calmField; decide +kernel⟩,
    ⟨stOf Dev.reset [] [(.offMgmt, 0, 0), (.offBunch, 0, 0), (.offBunch, 1, 0), (.bnReload, 0, 0), (.bnReload, 1, 0), (.lpSelf, 0, 0)], 1, 0x3_0504, 4, { ab := [], k := 0, quiet := true, wake := 0, user := false, lines := 0, find := .clean }, .IRQ_CLAIM, 0, by decide +kernel⟩,
    ⟨stOf Dev.reset [] [(.offMgmt, 0, 0), (.offBunch, 0, 0), (.offBunch, 1, 0), (.bnReload, 0, 0), (.bnReload, 1, 0), (.lpSelf, 0, 0)], 2, 0x8_400C, 4, { ab := [], k := 0, quiet := true, wake := 0, user := false, lines := 0, find := .clean }, _, rfl, by decide +kernel⟩,
    ⟨stOf Dev.reset [] [(.offMgmt, 0, 0), (.offBunch, 0, 0), (.offBunch, 1, 0), (.bnReload, 0, 0), (.bnReload, 1, 0), (.lpSelf, 0, 0)], 5, 0x3_0003, 2, { ab := [], k := 0, quiet := true, wake := 0, user := false, lines := 0, find := .clean }, by decide +kernel⟩,
    ⟨stOf Dev.reset [] [], 3, 0x3_0008, 4, { ab := [], k := 0, quiet := true, wake := 0, user := true, lines := 0, find := .clean }, by decide +kernel⟩,
    ⟨stOf Dev.reset [] [(.offMgmt, 0, 0), (.offBunch, 0, 0), (.offBunch, 1, 0), (.bnReload, 0, 1), (.bnReload, 1, 0), (.lpSelf, 0, 0)], 3, 0x100_0004, 4, 0, { ab := [], k := 0, quiet := true, wake := 0, user := false, lines := 0, find := .clean }, by decide +kernel⟩,
    ⟨stOf Dev.reset [] [(.offMgmt, 0, 1)], 3, 0x3_0009, 2, { ab := [], k := 0, quiet := true, wake := 0, user := false, lines := 0, find := .clean }, by decide +kernel⟩,
    ⟨stOf Dev.reset [] [(.offMgmt, 0, 0), (.offBunch, 0, 0), (.offBunch, 1, 0), (.bnReload, 0, 0), (.bnReload, 1, 0), (.lpSelf, 0, 0)], 0x18, by decide +kernel⟩,
    ⟨stOf Dev.reset [] [], sramBase, by decide +kernel⟩,
    ⟨stOf Dev.reset [] [(.offMgmt, 0, 0), (.offBunch, 0, 0), (.offBunch, 1, 0), (.bnReload, 0, 0), (.bnReload, 1, 0), (.lpSelf, 0, 0)], 0x18, by decide +kernel⟩⟩

/-- The hypotheses of `Obligations.MemoryReads`, clause by clause. -/
theorem witness_MemoryReads :
    (∃ (s : State) (a : Nat) (n : Nat) (rs : RdStatus), rs = (if s.dev.filling a then .notInit else if region a = .lp ∧ s.dev.isRsvd a then .rsvd else .notInit) ∧ ((region a = .sram ∨ region a = .cap ∨ region a = .lp)) ∧ sramBase ≤ a ∧ s.dev.isOff a = false ∧ 0 < n ∧ a % unitSize a + n ≤ unitSize a ∧ ((s.dev.filling a = true ∨ (region a = .lp ∧ s.dev.isRsvd a = true) ∨ (region a = .lp ∧ s.mem.marked.contains (granuleOf a) = false ∧ s.dev.merge.any (fun e => e.unit == unitOf a) = false))))
    ∧ (∃ (s : State) (a : Nat) (n : Nat), ((region a = .sram ∨ region a = .cap ∨ region a = .lp)) ∧ sramBase ≤ a ∧ s.dev.isOff a = false ∧ 0 < n ∧ a % unitSize a + n ≤ unitSize a ∧ s.dev.filling a = false ∧ ((region a = .lp → s.dev.isRsvd a = false ∧ s.mem.marked.contains (granuleOf a) = true)) ∧ s.dev.merge.any (fun e => e.unit == unitOf a) = false ∧ s.mem.poison.contains (s.dev.phys (unitOf a)) = true)
    ∧ (∃ (s : State) (a : Nat) (n : Nat), ((region a = .sram ∨ region a = .cap ∨ region a = .lp)) ∧ sramBase ≤ a ∧ s.dev.isOff a = false ∧ 0 < n ∧ a % unitSize a + n ≤ unitSize a ∧ s.dev.filling a = false ∧ ((region a = .lp → s.dev.isRsvd a = false ∧ s.mem.marked.contains (granuleOf a) = true)) ∧ s.dev.merge.any (fun e => e.unit == unitOf a) = false ∧ s.mem.poison.contains (s.dev.phys (unitOf a)) = false)
    ∧ (∃ (s : State) (a : Nat) (n : Nat), ((region a = .sram ∨ region a = .cap ∨ region a = .lp)) ∧ sramBase ≤ a ∧ s.dev.isOff a = false ∧ 0 < n ∧ a % unitSize a + n ≤ unitSize a ∧ s.dev.filling a = false ∧ ((region a = .lp → s.dev.isRsvd a = false ∧ s.mem.marked.contains (granuleOf a) = true)) ∧ s.dev.merge.any (fun e => e.unit == unitOf a) = false ∧ s.mem.poison.contains (s.dev.phys (unitOf a)) = false)
    ∧ (∃ (s : State) (a : Nat) (n : Nat), ((region a = .sram ∨ region a = .cap ∨ region a = .lp)) ∧ sramBase ≤ a ∧ s.dev.isOff a = false ∧ 0 < n ∧ a % unitSize a + n ≤ unitSize a ∧ s.dev.filling a = false ∧ ((region a = .lp → s.dev.isRsvd a = false ∧ s.mem.marked.contains (granuleOf a) = true)) ∧ s.dev.merge.any (fun e => e.unit == unitOf a) = false ∧ s.mem.poison.contains (s.dev.phys (unitOf a)) = false)
    ∧ (∃ (s : State) (a : Nat) (n : Nat), ((region a = .sram ∨ region a = .cap ∨ region a = .lp)) ∧ sramBase ≤ a ∧ s.dev.isOff a = false ∧ 0 < n ∧ a % unitSize a + n ≤ unitSize a ∧ s.dev.filling a = false ∧ ((region a = .lp → s.dev.isRsvd a = false ∧ s.mem.marked.contains (granuleOf a) = true)) ∧ s.dev.merge.any (fun e => e.unit == unitOf a) = false ∧ s.mem.poison.contains (s.dev.phys (unitOf a)) = false)
    ∧ (∃ (s : State) (a : Nat) (n : Nat) (find : EccFind) (bad : Bool), bad = (s.flush (unitOf a) find).mem.poison.contains ((s.flush (unitOf a) find).dev.phys (unitOf a)) ∧ ((region a = .sram ∨ region a = .lp)) ∧ sramBase ≤ a ∧ s.dev.isOff a = false ∧ 0 < n ∧ a % unitSize a + n ≤ unitSize a ∧ s.dev.filling a = false ∧ ((region a = .lp → s.dev.isRsvd a = false ∧ (s.flush (unitOf a) find).mem.marked.contains (granuleOf a) = true)) ∧ s.dev.merge.any (fun e => e.unit == unitOf a) = true)
    ∧ (∃ (s : State) (a : Nat) (n : Nat) (find : EccFind), region a = .lp ∧ s.dev.isOff a = false ∧ 0 < n ∧ a % unitSize a + n ≤ unitSize a ∧ s.dev.filling a = false ∧ s.dev.isRsvd a = false ∧ (s.flush (unitOf a) find).mem.marked.contains (granuleOf a) = false ∧ s.dev.merge.any (fun e => e.unit == unitOf a) = true)
    ∧ (∃ (s : State) (a : Nat) (n : Nat), region a = .stone ∧ s.dev.isOff a = false ∧ 0 < n ∧ a % unitSize a + n ≤ unitSize a ∧ s.dev.stoneFree ((a - stoneBase) / 256) = true)
    ∧ (∃ (s : State) (a : Nat) (n : Nat) (find : EccFind), region a = .stone ∧ s.dev.isOff a = false ∧ 0 < n ∧ a % unitSize a + n ≤ unitSize a ∧ s.dev.stoneFree ((a - stoneBase) / 256) = false ∧ s.mem.poison.contains (a / 8 * 8) = false ∧ ((find = .clean ∨ find = .ce)))
    ∧ (∃ (s : State) (a : Nat) (n : Nat) (find : EccFind) (v : Nat), v = (if s.mem.poison.contains (a / 8 * 8) then leNat (s.mem.readBytes a n) else match find with | .ue x => decodedPart a n x | .aliased x => decodedPart a n x | _ => 0) ∧ region a = .stone ∧ s.dev.isOff a = false ∧ 0 < n ∧ a % unitSize a + n ≤ unitSize a ∧ s.dev.stoneFree ((a - stoneBase) / 256) = false ∧ ((s.mem.poison.contains (a / 8 * 8) = true ∨ (find ≠ .clean ∧ find ≠ .ce))))
    ∧ (∃ (s : State) (a : Nat) (n : Nat), region a = .rom ∧ s.dev.isOff a = false ∧ 0 < n ∧ a % unitSize a + n ≤ unitSize a)
    ∧ (∃ (s : State) (a : Nat) (n : Nat), region a = .rom ∧ s.dev.isOff a = false ∧ 0 < n ∧ a % unitSize a + n ≤ unitSize a)
    ∧ (∃ (s : State) (a : Nat) (n : Nat), region a = .rom ∧ s.dev.isOff a = false ∧ 0 < n ∧ a % unitSize a + n ≤ unitSize a)
    ∧ (∃ (s : State) (a : Nat) (n : Nat), region a = .rom ∧ s.dev.isOff a = false ∧ 0 < n ∧ a % unitSize a + n ≤ unitSize a)
    ∧ (∃ (s : State) (a : Nat) (n : Nat), region a ≠ .unmapped ∧ sramBase ≤ a ∧ s.dev.isOff a = true ∧ 0 < n ∧ a % unitSize a + n ≤ unitSize a)
    ∧ (∃ (s : State) (init : Nat) (a : Nat) (n : Nat) (find : EccFind) (r : State × RdStatus × Nat), r = s.memRead init a n find ∧ sramBase ≤ a) :=
   ⟨⟨stOf Dev.reset [(MEM_STATUS_ZFILL, 0, 1)] [(.offMgmt, 0, 0), (.offBunch, 0, 0), (.offBunch, 1, 0), (.bnReload, 0, 0), (.bnReload, 1, 0), (.lpSelf, 0, 0)], 0x1000_010A, 4, _, rfl, by decide +kernel⟩,
    ⟨(fun s => { s with mem := (s.mem.writeBytes (s.dev.phys 0x1000_0108) [1,2,3,4,5,6,7,8]).setPoison (s.dev.phys 0x1000_0108), dev := { s.dev with merge := [] } }) ((stOf Dev.reset [(MEM_STATUS_ZFILL, 0, 0)] [(.offMgmt, 0, 0), (.offBunch, 0, 0), (.offBunch, 1, 0), (.bnReload, 0, 0), (.bnReload, 1, 0), (.lpSelf, 0, 0)])), 0x1000_010A, 4, by decide +kernel⟩,
    ⟨(fun s => { s with mem := (s.mem.writeBytes (s.dev.phys 0x1000_0108) [1,2,3,4,5,6,7,8]), dev := { s.dev with merge := [] } }) ((stOf Dev.reset [(MEM_STATUS_ZFILL, 0, 0)] [(.offMgmt, 0, 0), (.offBunch, 0, 0), (.offBunch, 1, 0), (.bnReload, 0, 0), (.bnReload, 1, 0), (.lpSelf, 0, 0)])), 0x1000_010A, 4, by decide +kernel⟩,
    ⟨(fun s => { s with mem := (s.mem.writeBytes (s.dev.phys 0x1000_0108) [1,2,3,4,5,6,7,8]), dev := { s.dev with merge := [] } }) ((stOf Dev.reset [(MEM_STATUS_ZFILL, 0, 0)] [(.offMgmt, 0, 0), (.offBunch, 0, 0), (.offBunch, 1, 0), (.bnReload, 0, 0), (.bnReload, 1, 0), (.lpSelf, 0, 0)])), 0x1000_010A, 4, by decide +kernel⟩,
    ⟨(fun s => { s with mem := (s.mem.writeBytes (s.dev.phys 0x1000_0108) [1,2,3,4,5,6,7,8]), dev := { s.dev with merge := [] } }) ((stOf Dev.reset [(MEM_STATUS_ZFILL, 0, 0)] [(.offMgmt, 0, 0), (.offBunch, 0, 0), (.offBunch, 1, 0), (.bnReload, 0, 0), (.bnReload, 1, 0), (.lpSelf, 0, 0)])), 0x1000_010A, 4, by decide +kernel⟩,
    ⟨(fun s => { s with mem := (s.mem.writeBytes (s.dev.phys 0x1000_0108) [1,2,3,4,5,6,7,8]), dev := { s.dev with merge := [] } }) ((stOf Dev.reset [(MEM_STATUS_ZFILL, 0, 0)] [(.offMgmt, 0, 0), (.offBunch, 0, 0), (.offBunch, 1, 0), (.bnReload, 0, 0), (.bnReload, 1, 0), (.lpSelf, 0, 0)])), 0x1000_010A, 4, by decide +kernel⟩,
    ⟨(fun s => { s with mem := (s.mem.writeBytes (s.dev.phys 0x1000_0108) [1,2,3,4,5,6,7,8]), dev := { s.dev with merge := [⟨0x1000_0108, false, unitPart 0x1000_0108 [7#8] 0x1000_0108 8⟩] } }) ((stOf Dev.reset [(MEM_STATUS_ZFILL, 0, 0)] [(.offMgmt, 0, 0), (.offBunch, 0, 0), (.offBunch, 1, 0), (.bnReload, 0, 0), (.bnReload, 1, 0), (.lpSelf, 0, 0)])), 0x1000_010A, 4, .clean, _, rfl, by decide +kernel⟩,
    ⟨(fun s => { s with dev := { s.dev with merge := [⟨lpBase + 64, true, unitPart (lpBase + 64) [7#8] (lpBase + 64) 64⟩] } }) ((stOf Dev.reset [(MEM_STATUS_ZFILL, 0, 0), (MEM_STATUS_FITTED, 0, 3), (MEM_STATUS_TRAINED, 0, 3), (MEM_GRANULES_COUNT, 0, 8000), (MEM_STATUS_WIPE, 0, 0)] [(.offMgmt, 0, 0), (.offBunch, 0, 0), (.offBunch, 1, 0), (.bnReload, 0, 0), (.bnReload, 1, 0), (.lpSelf, 0, 0), (.remap, 0, 0), (.remap, 1, 0), (.remap, 2, 0), (.remap, 3, 0), (.remap, 4, 0), (.remap, 5, 0), (.remap, 6, 0), (.remap, 7, 0), (.remap, 8, 0), (.remap, 9, 0), (.remap, 10, 0), (.remap, 11, 0), (.remap, 12, 0), (.remap, 13, 0), (.remap, 14, 0), (.remap, 15, 0)])), lpBase + 66, 4, .clean, by decide +kernel⟩,
    ⟨{ (stOf Dev.reset [] [(.offMgmt, 0, 0), (.offBunch, 0, 0), (.offBunch, 1, 0), (.bnReload, 0, 0), (.bnReload, 1, 0), (.lpSelf, 0, 0)]) with dev := { ((stOf Dev.reset [] [(.offMgmt, 0, 0), (.offBunch, 0, 0), (.offBunch, 1, 0), (.bnReload, 0, 0), (.bnReload, 1, 0), (.lpSelf, 0, 0)])).dev with undo := [] } }, stoneBase + 4, 4, by decide +kernel⟩,
    ⟨{ (stOf Dev.reset [] [(.offMgmt, 0, 0), (.offBunch, 0, 0), (.offBunch, 1, 0), (.bnReload, 0, 0), (.bnReload, 1, 0), (.lpSelf, 0, 0)]) with dev := { ((stOf Dev.reset [] [(.offMgmt, 0, 0), (.offBunch, 0, 0), (.offBunch, 1, 0), (.bnReload, 0, 0), (.bnReload, 1, 0), (.lpSelf, 0, 0)])).dev with undo := [] } }, stoneBase + 0x10004, 4, .ce, by decide +kernel⟩,
    ⟨{ (stOf Dev.reset [] [(.offMgmt, 0, 0), (.offBunch, 0, 0), (.offBunch, 1, 0), (.bnReload, 0, 0), (.bnReload, 1, 0), (.lpSelf, 0, 0)]) with dev := { ((stOf Dev.reset [] [(.offMgmt, 0, 0), (.offBunch, 0, 0), (.offBunch, 1, 0), (.bnReload, 0, 0), (.bnReload, 1, 0), (.lpSelf, 0, 0)])).dev with undo := [] } }, stoneBase + 0x10004, 4, (.aliased 0x1122334455667788), _, rfl, by decide +kernel⟩,
    ⟨stOf Dev.reset [] [(.offMgmt, 0, 0), (.offBunch, 0, 0), (.offBunch, 1, 0), (.bnReload, 0, 0), (.bnReload, 1, 0), (.lpSelf, 0, 0)], 0x6000_0004, 4, by decide +kernel⟩,
    ⟨stOf Dev.reset [] [(.offMgmt, 0, 0), (.offBunch, 0, 0), (.offBunch, 1, 0), (.bnReload, 0, 0), (.bnReload, 1, 0), (.lpSelf, 0, 0)], 0x6000_0004, 4, by decide +kernel⟩,
    ⟨stOf Dev.reset [] [(.offMgmt, 0, 0), (.offBunch, 0, 0), (.offBunch, 1, 0), (.bnReload, 0, 0), (.bnReload, 1, 0), (.lpSelf, 0, 0)], 0x6000_0004, 4, by decide +kernel⟩,
    ⟨stOf Dev.reset [] [(.offMgmt, 0, 0), (.offBunch, 0, 0), (.offBunch, 1, 0), (.bnReload, 0, 0), (.bnReload, 1, 0), (.lpSelf, 0, 0)], 0x6000_0004, 4, by decide +kernel⟩,
    ⟨stOf Dev.reset [] [(.offMgmt, 0, 1)], 0x1000_010A, 4, by decide +kernel⟩,
    ⟨stOf Dev.reset [(MEM_STATUS_ZFILL, 0, 0)] [(.offMgmt, 0, 0), (.offBunch, 0, 0), (.offBunch, 1, 0), (.bnReload, 0, 0), (.bnReload, 1, 0), (.lpSelf, 0, 0)], 1, 0x1000_010E, 4, .ce, _, rfl, by decide +kernel⟩⟩

/-- The hypotheses of `Obligations.PacketRequests`, clause by clause. -/
theorem witness_PacketRequests :
    (∃ (s : State) (p : Fin 3) (seq : Fin 4096) (good : Bool) (k : Pkt), ((taken s.dev p seq good = false ∨ k.typ ≠ 1)))
    ∧ (∃ (s : State) (p : Fin 3) (seq : Fin 4096) (good : Bool) (k : Pkt), ((taken s.dev p seq good = false ∨ k.typ ≠ 2)))
    ∧ (∃ (s : State) (p : Fin 3) (seq : Fin 4096) (k : Pkt), taken s.dev p seq true = true ∧ k.typ = 1 ∧ ((s.dev.on BRM_FSTATUS_NUMBERED 0 = false ∨ pktBad k = true ∨ s.dev.route (fleetDev k.addr) = .none)))
    ∧ (∃ (s : State) (p : Fin 3) (q : Fin 3) (seq : Fin 4096) (k : Pkt), taken s.dev p seq true = true ∧ k.typ = 1 ∧ s.dev.on BRM_FSTATUS_NUMBERED 0 = true ∧ pktBad k = false ∧ s.dev.route (fleetDev k.addr) = .port q)
    ∧ (∃ (s : State) (p : Fin 3) (seq : Fin 4096) (k : Pkt) (b : Nat), taken s.dev p seq true = true ∧ k.typ = 1 ∧ s.dev.on BRM_FSTATUS_NUMBERED 0 = true ∧ pktBad k = false ∧ s.dev.route (fleetDev k.addr) = .here ∧ s.dev.isOff (k.addr % 2 ^ 40) = false ∧ s.dev.heldAt (k.addr % 2 ^ 40) = some b)
    ∧ (∃ (s : State) (p : Fin 3) (q : Fin 3) (seq : Fin 4096) (k : Pkt) (find : EccFind) (d : Dev) (x : State × RdStatus × List Nat), d = (s.dev.linkAccept p seq true).1 ∧ x = ((s.put d).put ((s.put d).dev.giveBack p k)).pktRead 7 k find ∧ taken s.dev p seq true = true ∧ k.typ = 1 ∧ s.dev.on BRM_FSTATUS_NUMBERED 0 = true ∧ pktBad k = false ∧ s.dev.route (fleetDev k.addr) = .here ∧ ((s.dev.isOff (k.addr % 2 ^ 40) = true ∨ s.dev.heldAt (k.addr % 2 ^ 40) = none)) ∧ s.dev.route k.req = .port q)
    ∧ (∃ (s : State) (p : Fin 3) (q : Fin 3) (seq : Fin 4096) (k : Pkt) (r : Reg) (m : Nat) (a : Nat), a = k.addr % 2 ^ 40 ∧ taken s.dev p seq true = true ∧ k.typ = 1 ∧ k.len = 1 ∧ k.be < 16 ∧ s.dev.on BRM_FSTATUS_NUMBERED 0 = true ∧ pktBad k = false ∧ s.dev.route (fleetDev k.addr) = .here ∧ a % 4 = 0 ∧ regFind a = some (r, m) ∧ region a = .regs ∧ s.dev.isOff a = false ∧ s.dev.heldAt a = none ∧ readActs.contains r = false ∧ (fieldsOf r).all (fun f => f.acc != .rc) = true ∧ s.dev.route k.req = .port q)
    ∧ (∃ (s : State) (p : Fin 3) (seq : Fin 4096) (k : Pkt), taken s.dev p seq true = true ∧ k.typ = 2 ∧ ((s.dev.on BRM_FSTATUS_NUMBERED 0 = false ∨ pktBad k = true ∨ (pktBroadcast k = false ∧ s.dev.route (fleetDev k.addr) = .none))))
    ∧ (∃ (s : State) (p : Fin 3) (q : Fin 3) (seq : Fin 4096) (k : Pkt), taken s.dev p seq true = true ∧ k.typ = 2 ∧ s.dev.on BRM_FSTATUS_NUMBERED 0 = true ∧ pktBad k = false ∧ pktBroadcast k = false ∧ s.dev.route (fleetDev k.addr) = .port q)
    ∧ (∃ (s : State) (p : Fin 3) (seq : Fin 4096) (k : Pkt), taken s.dev p seq true = true ∧ k.typ = 2 ∧ s.dev.on BRM_FSTATUS_NUMBERED 0 = true ∧ pktBad k = false ∧ pktBroadcast k = true ∧ p.val ≠ 0 ∧ s.dev.on BRM_FCTRL_ROOT 0 = false)
    ∧ (∃ (s : State) (p : Fin 3) (seq : Fin 4096) (k : Pkt) (d : Dev), d = (s.dev.linkAccept p seq true).1 ∧ taken s.dev p seq true = true ∧ k.typ = 2 ∧ s.dev.on BRM_FSTATUS_NUMBERED 0 = true ∧ pktBad k = false ∧ pktBroadcast k = true ∧ ((p.val = 0 ∨ s.dev.on BRM_FCTRL_ROOT 0 = true)))
    ∧ (∃ (s : State) (p : Fin 3) (seq : Fin 4096) (k : Pkt) (b : Nat), taken s.dev p seq true = true ∧ k.typ = 2 ∧ s.dev.on BRM_FSTATUS_NUMBERED 0 = true ∧ pktBad k = false ∧ pktBroadcast k = false ∧ s.dev.route (fleetDev k.addr) = .here ∧ s.dev.isOff (k.addr % 2 ^ 40) = false ∧ s.dev.heldAt (k.addr % 2 ^ 40) = some b)
    ∧ (∃ (s : State) (p : Fin 3) (seq : Fin 4096) (k : Pkt) (d : Dev), d = (s.dev.linkAccept p seq true).1 ∧ taken s.dev p seq true = true ∧ k.typ = 2 ∧ s.dev.on BRM_FSTATUS_NUMBERED 0 = true ∧ pktBad k = false ∧ pktBroadcast k = false ∧ s.dev.route (fleetDev k.addr) = .here ∧ ((s.dev.isOff (k.addr % 2 ^ 40) = true ∨ s.dev.heldAt (k.addr % 2 ^ 40) = none)))
    ∧ (∃ (s : State) (p : Fin 3) (seq : Fin 4096) (k : Pkt) (r : Reg) (m : Nat) (f : Fld) (a : Nat), a = k.addr % 2 ^ 40 ∧ taken s.dev p seq true = true ∧ k.typ = 2 ∧ k.len = 1 ∧ k.be = 15 ∧ s.dev.on BRM_FSTATUS_NUMBERED 0 = true ∧ pktBad k = false ∧ pktBroadcast k = false ∧ s.dev.route (fleetDev k.addr) = .here ∧ a % 4 = 0 ∧ regFind a = some (r, m) ∧ region a = .regs ∧ s.dev.isOff a = false ∧ s.dev.heldAt a = none ∧ writeActs.contains r = false ∧ f ∈ fieldsOf r ∧ calmField f)
    ∧ (∃ (s : State) (p : Fin 3) (seq : Fin 4096) (k : Pkt) (a : Nat), a = k.addr % 2 ^ 40 ∧ taken s.dev p seq true = true ∧ k.typ = 2 ∧ k.len = 1 ∧ k.be % 16 ≠ 15 ∧ s.dev.on BRM_FSTATUS_NUMBERED 0 = true ∧ pktBad k = false ∧ pktBroadcast k = false ∧ s.dev.route (fleetDev k.addr) = .here ∧ a < sramBase ∧ ((s.dev.isOff a = true ∨ s.dev.heldAt a = none)))
    ∧ (∃ (s : State) (b : Fin 2), s.dev.flag .bnReload b = true)
    ∧ (∃ (s : State) (b : Fin 2), s.dev.v .bnReload b = 1 ∧ s.dev.portWait = [])
    ∧ (∃ (s : State) (b : Fin 2), s.dev.flag .bnReload b = false) :=
   ⟨⟨stOf Dev.reset [(BRM_PSTATUS_STATE, 1, 4), (BRM_PSTATUS_STATE, 2, 4)] [(.llRxSeq, 1, 3), (.llRxSeq, 0, 3)], 2, 4095, false, { typ := 1, be := 15, len := 1, req := 6, unit := 1, tag := 3, gen := 2, code := 0, addr := 3 * 2 ^ 40 + 0x30520, status := 0, data := [] }, by decide +kernel⟩,
    ⟨stOf Dev.reset [(BRM_PSTATUS_STATE, 1, 4), (BRM_PSTATUS_STATE, 2, 4)] [(.llRxSeq, 1, 3), (.llRxSeq, 0, 3)], 2, 4095, false, { typ := 2, be := 15, len := 1, req := 6, unit := 1, tag := 3, gen := 2, code := 0, addr := 3 * 2 ^ 40 + 0x30520, status := 0, data := [] }, by decide +kernel⟩,
    ⟨stOf Dev.reset [(BRM_PSTATUS_STATE, 1, 4), (BRM_PSTATUS_STATE, 2, 4), (BRM_FSTATUS_NUMBERED, 0, 0)] [(.offMgmt, 0, 0), (.offBunch, 0, 0), (.offBunch, 1, 0), (.bnReload, 0, 0), (.bnReload, 1, 0), (.lpSelf, 0, 0), (.llRxSeq, 1, 3), (.llRxSeq, 0, 3), (.crOn, 0, 1), (.crGotH, 0, 20), (.crGotD, 0, 20), (.crUseH, 0, 1), (.crUseD, 0, 1), (.crOn, 1, 1), (.crGotH, 1, 20), (.crGotD, 1, 20), (.crUseH, 1, 1), (.crUseD, 1, 1), (.crOn, 2, 1), (.crGotH, 2, 20), (.crGotD, 2, 20), (.crUseH, 2, 1), (.crUseD, 2, 1), (.crOn, 3, 1), (.crGotH, 3, 20), (.crGotD, 3, 20), (.crUseH, 3, 1), (.crUseD, 3, 1), (.crOn, 4, 1), (.crGotH, 4, 20), (.crGotD, 4, 20), (.crUseH, 4, 1), (.crUseD, 4, 1), (.crOn, 5, 1), (.crGotH, 5, 20), (.crGotD, 5, 20), (.crUseH, 5, 1), (.crUseD, 5, 1), (.crOn, 6, 1), (.crGotH, 6, 20), (.crGotD, 6, 20), (.crUseH, 6, 1), (.crUseD, 6, 1), (.crOn, 7, 1), (.crGotH, 7, 20), (.crGotD, 7, 20), (.crUseH, 7, 1), (.crUseD, 7, 1), (.crOn, 8, 1), (.crGotH, 8, 20), (.crGotD, 8, 20), (.crUseH, 8, 1), (.crUseD, 8, 1)], 1, 3, { typ := 1, be := 15, len := 1, req := 6, unit := 1, tag := 3, gen := 2, code := 0, addr := 3 * 2 ^ 40 + 0x30520, status := 0, data := [] }, by decide +kernel⟩,
    ⟨stOf Dev.reset [(BRM_FSTATUS_NUMBERED, 0, 1), (BRM_PSTATUS_STATE, 1, 4), (BRM_PSTATUS_STATE, 2, 4), (BRM_FSTATUS_DEVNUM, 0, 3), (BRM_FSTATUS_NUMBERED, 0, 1), (TOP_GEN_GEN, 0, 0), (BRM_ROUTE_S0, 0, 2), (BRM_ROUTE_S1, 0, 2), (IRQ_THR_THR, 2, 5)] [(.llRxSeq, 1, 3), (.llRxSeq, 0, 3), (.crOn, 0, 1), (.crGotH, 0, 20), (.crGotD, 0, 20), (.crUseH, 0, 1), (.crUseD, 0, 1), (.crOn, 1, 1), (.crGotH, 1, 20), (.crGotD, 1, 20), (.crUseH, 1, 1), (.crUseD, 1, 1), (.crOn, 2, 1), (.crGotH, 2, 20), (.crGotD, 2, 20), (.crUseH, 2, 1), (.crUseD, 2, 1), (.crOn, 3, 1), (.crGotH, 3, 20), (.crGotD, 3, 20), (.crUseH, 3, 1), (.crUseD, 3, 1), (.crOn, 4, 1), (.crGotH, 4, 20), (.crGotD, 4, 20), (.crUseH, 4, 1), (.crUseD, 4, 1), (.crOn, 5, 1), (.crGotH, 5, 20), (.crGotD, 5, 20), (.crUseH, 5, 1), (.crUseD, 5, 1), (.crOn, 6, 1), (.crGotH, 6, 20), (.crGotD, 6, 20), (.crUseH, 6, 1), (.crUseD, 6, 1), (.crOn, 7, 1), (.crGotH, 7, 20), (.crGotD, 7, 20), (.crUseH, 7, 1), (.crUseD, 7, 1), (.crOn, 8, 1), (.crGotH, 8, 20), (.crGotD, 8, 20), (.crUseH, 8, 1), (.crUseD, 8, 1)], 1, 1, 3, { typ := 1, be := 15, len := 1, req := 6, unit := 1, tag := 3, gen := 2, code := 0, addr := 4 * 2 ^ 40 + 0x30520, status := 0, data := [] }, by decide +kernel⟩,
    ⟨stOf Dev.reset [(BRM_FSTATUS_NUMBERED, 0, 1), (BRM_PSTATUS_STATE, 1, 4), (BRM_PSTATUS_STATE, 2, 4), (BRM_FSTATUS_DEVNUM, 0, 3), (BRM_FSTATUS_NUMBERED, 0, 1), (TOP_GEN_GEN, 0, 0), (BRM_ROUTE_S0, 0, 2), (BRM_ROUTE_S1, 0, 2), (IRQ_THR_THR, 2, 5)] [(.offMgmt, 0, 0), (.offBunch, 0, 0), (.offBunch, 1, 0), (.bnReload, 0, 1), (.llRxSeq, 1, 3), (.llRxSeq, 0, 3)], 1, 3, { typ := 1, be := 15, len := 1, req := 6, unit := 1, tag := 3, gen := 2, code := 0, addr := 3 * 2 ^ 40 + 0x1000020, status := 0, data := [] }, 0, by decide +kernel⟩,
    ⟨stOf Dev.reset [(BRM_FSTATUS_NUMBERED, 0, 1), (BRM_PSTATUS_STATE, 1, 4), (BRM_PSTATUS_STATE, 2, 4), (BRM_FSTATUS_DEVNUM, 0, 3), (BRM_FSTATUS_NUMBERED, 0, 1), (TOP_GEN_GEN, 0, 0), (BRM_ROUTE_S0, 0, 2), (BRM_ROUTE_S1, 0, 2), (IRQ_THR_THR, 2, 5)] [(.offMgmt, 0, 0), (.offBunch, 0, 0), (.offBunch, 1, 0), (.bnReload, 0, 0), (.bnReload, 1, 0), (.lpSelf, 0, 0), (.llRxSeq, 1, 3), (.llRxSeq, 0, 3), (.crOn, 0, 1), (.crGotH, 0, 20), (.crGotD, 0, 20), (.crUseH, 0, 1), (.crUseD, 0, 1), (.crOn, 1, 1), (.crGotH, 1, 20), (.crGotD, 1, 20), (.crUseH, 1, 1), (.crUseD, 1, 1), (.crOn, 2, 1), (.crGotH, 2, 20), (.crGotD, 2, 20), (.crUseH, 2, 1), (.crUseD, 2, 1), (.crOn, 3, 1), (.crGotH, 3, 20), (.crGotD, 3, 20), (.crUseH, 3, 1), (.crUseD, 3, 1), (.crOn, 4, 1), (.crGotH, 4, 20), (.crGotD, 4, 20), (.crUseH, 4, 1), (.crUseD, 4, 1), (.crOn, 5, 1), (.crGotH, 5, 20), (.crGotD, 5, 20), (.crUseH, 5, 1), (.crUseD, 5, 1), (.crOn, 6, 1), (.crGotH, 6, 20), (.crGotD, 6, 20), (.crUseH, 6, 1), (.crUseD, 6, 1), (.crOn, 7, 1), (.crGotH, 7, 20), (.crGotD, 7, 20), (.crUseH, 7, 1), (.crUseD, 7, 1), (.crOn, 8, 1), (.crGotH, 8, 20), (.crGotD, 8, 20), (.crUseH, 8, 1), (.crUseD, 8, 1)], 1, 2, 3, { typ := 1, be := 15, len := 1, req := 6, unit := 1, tag := 3, gen := 2, code := 0, addr := 3 * 2 ^ 40 + 0x30520, status := 0, data := [] }, .clean, _, _, rfl, rfl, by decide +kernel⟩,
    ⟨stOf Dev.reset [(BRM_FSTATUS_NUMBERED, 0, 1), (BRM_PSTATUS_STATE, 1, 4), (BRM_PSTATUS_STATE, 2, 4), (BRM_FSTATUS_DEVNUM, 0, 3), (BRM_FSTATUS_NUMBERED, 0, 1), (TOP_GEN_GEN, 0, 0), (BRM_ROUTE_S0, 0, 2), (BRM_ROUTE_S1, 0, 2), (IRQ_THR_THR, 2, 5)] [(.offMgmt, 0, 0), (.offBunch, 0, 0), (.offBunch, 1, 0), (.bnReload, 0, 0), (.bnReload, 1, 0), (.lpSelf, 0, 0), (.llRxSeq, 1, 3), (.llRxSeq, 0, 3), (.crOn, 0, 1), (.crGotH, 0, 20), (.crGotD, 0, 20), (.crUseH, 0, 1), (.crUseD, 0, 1), (.crOn, 1, 1), (.crGotH, 1, 20), (.crGotD, 1, 20), (.crUseH, 1, 1), (.crUseD, 1, 1), (.crOn, 2, 1), (.crGotH, 2, 20), (.crGotD, 2, 20), (.crUseH, 2, 1), (.crUseD, 2, 1), (.crOn, 3, 1), (.crGotH, 3, 20), (.crGotD, 3, 20), (.crUseH, 3, 1), (.crUseD, 3, 1), (.crOn, 4, 1), (.crGotH, 4, 20), (.crGotD, 4, 20), (.crUseH, 4, 1), (.crUseD, 4, 1), (.crOn, 5, 1), (.crGotH, 5, 20), (.crGotD, 5, 20), (.crUseH, 5, 1), (.crUseD, 5, 1), (.crOn, 6, 1), (.crGotH, 6, 20), (.crGotD, 6, 20), (.crUseH, 6, 1), (.crUseD, 6, 1), (.crOn, 7, 1), (.crGotH, 7, 20), (.crGotD, 7, 20), (.crUseH, 7, 1), (.crUseD, 7, 1), (.crOn, 8, 1), (.crGotH, 8, 20), (.crGotD, 8, 20), (.crUseH, 8, 1), (.crUseD, 8, 1)], 1, 2, 3, { typ := 1, be := 15, len := 1, req := 6, unit := 1, tag := 3, gen := 2, code := 0, addr := 3 * 2 ^ 40 + 0x30520, status := 0, data := [] }, .IRQ_THR, 2, _, rfl, by decide +kernel⟩,
    ⟨stOf Dev.reset [(BRM_PSTATUS_STATE, 1, 4), (BRM_PSTATUS_STATE, 2, 4), (BRM_FSTATUS_NUMBERED, 0, 0)] [(.llRxSeq, 1, 3), (.llRxSeq, 0, 3)], 1, 3, { typ := 2, be := 15, len := 1, req := 6, unit := 1, tag := 3, gen := 2, code := 0, addr := 3 * 2 ^ 40 + 0x30520, status := 0, data := [5] }, by decide +kernel⟩,
    ⟨stOf Dev.reset [(BRM_FSTATUS_NUMBERED, 0, 1), (BRM_PSTATUS_STATE, 1, 4), (BRM_PSTATUS_STATE, 2, 4), (BRM_FSTATUS_DEVNUM, 0, 3), (BRM_FSTATUS_NUMBERED, 0, 1), (TOP_GEN_GEN, 0, 0), (BRM_ROUTE_S0, 0, 2), (BRM_ROUTE_S1, 0, 2), (IRQ_THR_THR, 2, 5)] [(.llRxSeq, 1, 3), (.llRxSeq, 0, 3), (.crOn, 0, 1), (.crGotH, 0, 20), (.crGotD, 0, 20), (.crUseH, 0, 1), (.crUseD, 0, 1), (.crOn, 1, 1), (.crGotH, 1, 20), (.crGotD, 1, 20), (.crUseH, 1, 1), (.crUseD, 1, 1), (.crOn, 2, 1), (.crGotH, 2, 20), (.crGotD, 2, 20), (.crUseH, 2, 1), (.crUseD, 2, 1), (.crOn, 3, 1), (.crGotH, 3, 20), (.crGotD, 3, 20), (.crUseH, 3, 1), (.crUseD, 3, 1), (.crOn, 4, 1), (.crGotH, 4, 20), (.crGotD, 4, 20), (.crUseH, 4, 1), (.crUseD, 4, 1), (.crOn, 5, 1), (.crGotH, 5, 20), (.crGotD, 5, 20), (.crUseH, 5, 1), (.crUseD, 5, 1), (.crOn, 6, 1), (.crGotH, 6, 20), (.crGotD, 6, 20), (.crUseH, 6, 1), (.crUseD, 6, 1), (.crOn, 7, 1), (.crGotH, 7, 20), (.crGotD, 7, 20), (.crUseH, 7, 1), (.crUseD, 7, 1), (.crOn, 8, 1), (.crGotH, 8, 20), (.crGotD, 8, 20), (.crUseH, 8, 1), (.crUseD, 8, 1)], 1, 1, 3, { typ := 2, be := 15, len := 1, req := 6, unit := 1, tag := 3, gen := 2, code := 0, addr := 4 * 2 ^ 40 + 0x30520, status := 0, data := [5] }, by decide +kernel⟩,
    ⟨stOf Dev.reset [(BRM_FSTATUS_NUMBERED, 0, 1), (BRM_FCTRL_ROOT, 0, 0), (BRM_PSTATUS_STATE, 1, 4), (BRM_PSTATUS_STATE, 2, 4), (BRM_FSTATUS_DEVNUM, 0, 3), (BRM_FSTATUS_NUMBERED, 0, 1), (TOP_GEN_GEN, 0, 0), (BRM_ROUTE_S0, 0, 2), (BRM_ROUTE_S1, 0, 2), (IRQ_THR_THR, 2, 5)] [(.llRxSeq, 1, 3), (.llRxSeq, 0, 3), (.crOn, 0, 1), (.crGotH, 0, 20), (.crGotD, 0, 20), (.crUseH, 0, 1), (.crUseD, 0, 1), (.crOn, 1, 1), (.crGotH, 1, 20), (.crGotD, 1, 20), (.crUseH, 1, 1), (.crUseD, 1, 1), (.crOn, 2, 1), (.crGotH, 2, 20), (.crGotD, 2, 20), (.crUseH, 2, 1), (.crUseD, 2, 1), (.crOn, 3, 1), (.crGotH, 3, 20), (.crGotD, 3, 20), (.crUseH, 3, 1), (.crUseD, 3, 1), (.crOn, 4, 1), (.crGotH, 4, 20), (.crGotD, 4, 20), (.crUseH, 4, 1), (.crUseD, 4, 1), (.crOn, 5, 1), (.crGotH, 5, 20), (.crGotD, 5, 20), (.crUseH, 5, 1), (.crUseD, 5, 1), (.crOn, 6, 1), (.crGotH, 6, 20), (.crGotD, 6, 20), (.crUseH, 6, 1), (.crUseD, 6, 1), (.crOn, 7, 1), (.crGotH, 7, 20), (.crGotD, 7, 20), (.crUseH, 7, 1), (.crUseD, 7, 1), (.crOn, 8, 1), (.crGotH, 8, 20), (.crGotD, 8, 20), (.crUseH, 8, 1), (.crUseD, 8, 1)], 1, 3, { typ := 2, be := 15, len := 1, req := 6, unit := 1, tag := 3, gen := 2, code := 0, addr := 2 ^ 46 + 0x30520, status := 0, data := [5] }, by decide +kernel⟩,
    ⟨stOf Dev.reset [(BRM_FSTATUS_NUMBERED, 0, 1), (BRM_PSTATUS_STATE, 1, 4), (BRM_PSTATUS_STATE, 2, 4), (BRM_FSTATUS_DEVNUM, 0, 3), (BRM_FSTATUS_NUMBERED, 0, 1), (TOP_GEN_GEN, 0, 0), (BRM_ROUTE_S0, 0, 2), (BRM_ROUTE_S1, 0, 2), (IRQ_THR_THR, 2, 5), (BRM_FCTRL_ROOT, 0, 1)] [(.offMgmt, 0, 0), (.offBunch, 0, 0), (.offBunch, 1, 0), (.bnReload, 0, 0), (.bnReload, 1, 0), (.lpSelf, 0, 0), (.llRxSeq, 1, 3), (.llRxSeq, 0, 3), (.crOn, 0, 1), (.crGotH, 0, 20), (.crGotD, 0, 20), (.crUseH, 0, 1), (.crUseD, 0, 1), (.crOn, 1, 1), (.crGotH, 1, 20), (.crGotD, 1, 20), (.crUseH, 1, 1), (.crUseD, 1, 1), (.crOn, 2, 1), (.crGotH, 2, 20), (.crGotD, 2, 20), (.crUseH, 2, 1), (.crUseD, 2, 1), (.crOn, 3, 1), (.crGotH, 3, 20), (.crGotD, 3, 20), (.crUseH, 3, 1), (.crUseD, 3, 1), (.crOn, 4, 1), (.crGotH, 4, 20), (.crGotD, 4, 20), (.crUseH, 4, 1), (.crUseD, 4, 1), (.crOn, 5, 1), (.crGotH, 5, 20), (.crGotD, 5, 20), (.crUseH, 5, 1), (.crUseD, 5, 1), (.crOn, 6, 1), (.crGotH, 6, 20), (.crGotD, 6, 20), (.crUseH, 6, 1), (.crUseD, 6, 1), (.crOn, 7, 1), (.crGotH, 7, 20), (.crGotD, 7, 20), (.crUseH, 7, 1), (.crUseD, 7, 1), (.crOn, 8, 1), (.crGotH, 8, 20), (.crGotD, 8, 20), (.crUseH, 8, 1), (.crUseD, 8, 1)], 1, 3, { typ := 2, be := 15, len := 1, req := 6, unit := 1, tag := 3, gen := 2, code := 0, addr := 2 ^ 46 + 0x30520, status := 0, data := [5] }, _, rfl, by decide +kernel⟩,
    ⟨stOf Dev.reset [(BRM_FSTATUS_NUMBERED, 0, 1), (BRM_PSTATUS_STATE, 1, 4), (BRM_PSTATUS_STATE, 2, 4), (BRM_FSTATUS_DEVNUM, 0, 3), (BRM_FSTATUS_NUMBERED, 0, 1), (TOP_GEN_GEN, 0, 0), (BRM_ROUTE_S0, 0, 2), (BRM_ROUTE_S1, 0, 2), (IRQ_THR_THR, 2, 5)] [(.offMgmt, 0, 0), (.offBunch, 0, 0), (.offBunch, 1, 0), (.bnReload, 0, 1), (.llRxSeq, 1, 3), (.llRxSeq, 0, 3)], 1, 3, { typ := 2, be := 15, len := 1, req := 6, unit := 1, tag := 3, gen := 2, code := 0, addr := 3 * 2 ^ 40 + 0x1000020, status := 0, data := [5] }, 0, by decide +kernel⟩,
    ⟨stOf Dev.reset [(BRM_FSTATUS_NUMBERED, 0, 1), (BRM_PSTATUS_STATE, 1, 4), (BRM_PSTATUS_STATE, 2, 4), (BRM_FSTATUS_DEVNUM, 0, 3), (BRM_FSTATUS_NUMBERED, 0, 1), (TOP_GEN_GEN, 0, 0), (BRM_ROUTE_S0, 0, 2), (BRM_ROUTE_S1, 0, 2), (IRQ_THR_THR, 2, 5)] [(.offMgmt, 0, 0), (.offBunch, 0, 0), (.offBunch, 1, 0), (.bnReload, 0, 0), (.bnReload, 1, 0), (.lpSelf, 0, 0), (.llRxSeq, 1, 3), (.llRxSeq, 0, 3), (.crOn, 0, 1), (.crGotH, 0, 20), (.crGotD, 0, 20), (.crUseH, 0, 1), (.crUseD, 0, 1), (.crOn, 1, 1), (.crGotH, 1, 20), (.crGotD, 1, 20), (.crUseH, 1, 1), (.crUseD, 1, 1), (.crOn, 2, 1), (.crGotH, 2, 20), (.crGotD, 2, 20), (.crUseH, 2, 1), (.crUseD, 2, 1), (.crOn, 3, 1), (.crGotH, 3, 20), (.crGotD, 3, 20), (.crUseH, 3, 1), (.crUseD, 3, 1), (.crOn, 4, 1), (.crGotH, 4, 20), (.crGotD, 4, 20), (.crUseH, 4, 1), (.crUseD, 4, 1), (.crOn, 5, 1), (.crGotH, 5, 20), (.crGotD, 5, 20), (.crUseH, 5, 1), (.crUseD, 5, 1), (.crOn, 6, 1), (.crGotH, 6, 20), (.crGotD, 6, 20), (.crUseH, 6, 1), (.crUseD, 6, 1), (.crOn, 7, 1), (.crGotH, 7, 20), (.crGotD, 7, 20), (.crUseH, 7, 1), (.crUseD, 7, 1), (.crOn, 8, 1), (.crGotH, 8, 20), (.crGotD, 8, 20), (.crUseH, 8, 1), (.crUseD, 8, 1)], 1, 3, { typ := 2, be := 15, len := 1, req := 6, unit := 1, tag := 3, gen := 2, code := 0, addr := 3 * 2 ^ 40 + 0x30520, status := 0, data := [6] }, _, rfl, by decide +kernel⟩,
    ⟨stOf Dev.reset [(BRM_FSTATUS_NUMBERED, 0, 1), (BRM_PSTATUS_STATE, 1, 4), (BRM_PSTATUS_STATE, 2, 4), (BRM_FSTATUS_DEVNUM, 0, 3), (BRM_FSTATUS_NUMBERED, 0, 1), (TOP_GEN_GEN, 0, 0), (BRM_ROUTE_S0, 0, 2), (BRM_ROUTE_S1, 0, 2), (IRQ_THR_THR, 2, 5)] [(.offMgmt, 0, 0), (.offBunch, 0, 0), (.offBunch, 1, 0), (.bnReload, 0, 0), (.bnReload, 1, 0), (.lpSelf, 0, 0), (.llRxSeq, 1, 3), (.llRxSeq, 0, 3), (.crOn, 0, 1), (.crGotH, 0, 20), (.crGotD, 0, 20), (.crUseH, 0, 1), (.crUseD, 0, 1), (.crOn, 1, 1), (.crGotH, 1, 20), (.crGotD, 1, 20), (.crUseH, 1, 1), (.crUseD, 1, 1), (.crOn, 2, 1), (.crGotH, 2, 20), (.crGotD, 2, 20), (.crUseH, 2, 1), (.crUseD, 2, 1), (.crOn, 3, 1), (.crGotH, 3, 20), (.crGotD, 3, 20), (.crUseH, 3, 1), (.crUseD, 3, 1), (.crOn, 4, 1), (.crGotH, 4, 20), (.crGotD, 4, 20), (.crUseH, 4, 1), (.crUseD, 4, 1), (.crOn, 5, 1), (.crGotH, 5, 20), (.crGotD, 5, 20), (.crUseH, 5, 1), (.crUseD, 5, 1), (.crOn, 6, 1), (.crGotH, 6, 20), (.crGotD, 6, 20), (.crUseH, 6, 1), (.crUseD, 6, 1), (.crOn, 7, 1), (.crGotH, 7, 20), (.crGotD, 7, 20), (.crUseH, 7, 1), (.crUseD, 7, 1), (.crOn, 8, 1), (.crGotH, 8, 20), (.crGotD, 8, 20), (.crUseH, 8, 1), (.crUseD, 8, 1)], 1, 3, { typ := 2, be := 15, len := 1, req := 6, unit := 1, tag := 3, gen := 2, code := 0, addr := 3 * 2 ^ 40 + 0x30520, status := 0, data := [6] }, .IRQ_THR, 2, IRQ_THR_THR, _, rfl, by unfold calmField; decide +kernel⟩,
    ⟨stOf Dev.reset [(BRM_FSTATUS_NUMBERED, 0, 1), (BRM_PSTATUS_STATE, 1, 4), (BRM_PSTATUS_STATE, 2, 4), (BRM_FSTATUS_DEVNUM, 0, 3), (BRM_FSTATUS_NUMBERED, 0, 1), (TOP_GEN_GEN, 0, 0), (BRM_ROUTE_S0, 0, 2), (BRM_ROUTE_S1, 0, 2), (IRQ_THR_THR, 2, 5)] [(.offMgmt, 0, 0), (.offBunch, 0, 0), (.offBunch, 1, 0), (.bnReload, 0, 0), (.bnReload, 1, 0), (.lpSelf, 0, 0), (.llRxSeq, 1, 3), (.llRxSeq, 0, 3), (.crOn, 0, 1), (.crGotH, 0, 20), (.crGotD, 0, 20), (.crUseH, 0, 1), (.crUseD, 0, 1), (.crOn, 1, 1), (.crGotH, 1, 20), (.crGotD, 1, 20), (.crUseH, 1, 1), (.crUseD, 1, 1), (.crOn, 2, 1), (.crGotH, 2, 20), (.crGotD, 2, 20), (.crUseH, 2, 1), (.crUseD, 2, 1), (.crOn, 3, 1), (.crGotH, 3, 20), (.crGotD, 3, 20), (.crUseH, 3, 1), (.crUseD, 3, 1), (.crOn, 4, 1), (.crGotH, 4, 20), (.crGotD, 4, 20), (.crUseH, 4, 1), (.crUseD, 4, 1), (.crOn, 5, 1), (.crGotH, 5, 20), (.crGotD, 5, 20), (.crUseH, 5, 1), (.crUseD, 5, 1), (.crOn, 6, 1), (.crGotH, 6, 20), (.crGotD, 6, 20), (.crUseH, 6, 1), (.crUseD, 6, 1), (.crOn, 7, 1), (.crGotH, 7, 20), (.crGotD, 7, 20), (.crUseH, 7, 1), (.crUseD, 7, 1), (.crOn, 8, 1), (.crGotH, 8, 20), (.crGotD, 8, 20), (.crUseH, 8, 1), (.crUseD, 8, 1)], 1, 3, { typ := 2, be := 3, len := 1, req := 6, unit := 1, tag := 3, gen := 2, code := 0, addr := 3 * 2 ^ 40 + 0x30520, status := 0, data := [6] }, _, rfl, by decide +kernel⟩,
    ⟨(fun (b : Fin 2) => stOf Dev.reset [] [(.bnReload, b, 1), (.bnReload, 0, 1)]) (1), 1, by decide +kernel⟩,
    ⟨(fun (b : Fin 2) => stOf Dev.reset [] [(.bnReload, b, 1)]) (1), 1, by decide +kernel⟩,
    ⟨(fun (b : Fin 2) => stOf Dev.reset [] [(.bnReload, b, 0)]) (1), 1, by decide +kernel⟩⟩

/-- The hypotheses of `Obligations.HostAndBridge`, clause by clause. -/
theorem witness_HostAndBridge :
    (∃ (s : State) (tag : Fin 1024), ((s.dev.pcieUp = false ∨ s.dev.ownReqs.any (fun r => r.unit == 0 && r.tag == tag.val) = true)))
    ∧ (∃ (s : State) (tag : Fin 1024) (bar2 : Bool) (ofs : Nat) (be : Nat) (len : Nat) (addr : Nat) (k : Pkt), addr = s.dev.barAddr bar2 ofs ∧ k = s.dev.ownPkt 1 0 tag addr be (len % 1024) [] ∧ s.dev.pcieUp = true ∧ s.dev.ownReqs.any (fun r => r.unit == 0 && r.tag == tag.val) = false ∧ ((pktBad k = true ∨ (bar2 = true ∧ s.dev.route (fleetDev addr) = .none))))
    ∧ (∃ (s : State) (tag : Fin 1024) (ofs : Nat) (be : Nat) (len : Nat) (q : Fin 3) (addr : Nat) (k : Pkt), addr = s.dev.barAddr true ofs ∧ k = s.dev.ownPkt 1 0 tag addr be (len % 1024) [] ∧ s.dev.pcieUp = true ∧ s.dev.ownReqs.any (fun r => r.unit == 0 && r.tag == tag.val) = false ∧ pktBad k = false ∧ s.dev.route (fleetDev addr) = .port q)
    ∧ (∃ (s : State) (tag : Fin 1024) (bar2 : Bool) (ofs : Nat) (be : Nat) (len : Nat) (addr : Nat) (k : Pkt), addr = s.dev.barAddr bar2 ofs ∧ k = s.dev.ownPkt 1 0 tag addr be (len % 1024) [] ∧ s.dev.pcieUp = true ∧ s.dev.ownReqs.any (fun r => r.unit == 0 && r.tag == tag.val) = false ∧ pktBad k = false ∧ ((bar2 = false ∨ s.dev.route (fleetDev addr) = .here)))
    ∧ (∃ (s : State) (tag : Fin 1024) (ofs : Nat) (m : Nat) (r : Reg) (a : Nat), a = ofs % 2 ^ 26 ∧ s.dev.pcieUp = true ∧ s.dev.ownReqs.any (fun x => x.unit == 0 && x.tag == tag.val) = false ∧ s.dev.devNum < 64 ∧ a % 4 = 0 ∧ regFind a = some (r, m) ∧ readActs.contains r = false ∧ (fieldsOf r).all (fun f => f.acc != .rc) = true ∧ r ≠ .PCI_STATUS ∧ region a = .regs ∧ s.dev.isOff a = false ∧ s.dev.heldAt a = none)
    ∧ (∃ (s : State) (data : List Nat) (poisoned : Bool), ((s.dev.pcieUp = false ∨ poisoned = true ∨ data = [])))
    ∧ (∃ (s : State) (bar2 : Bool) (ofs : Nat) (be : Nat) (data : List Nat) (addr : Nat) (k : Pkt), addr = s.dev.barAddr bar2 ofs ∧ k = s.dev.ownPkt 2 0 0 addr be (data.length % 1024) data ∧ s.dev.pcieUp = true ∧ data ≠ [] ∧ ((pktBad k = true ∨ (bar2 = true ∧ pktBroadcast k = false ∧ s.dev.route (fleetDev addr) = .none))))
    ∧ (∃ (s : State) (ofs : Nat) (be : Nat) (data : List Nat) (q : Fin 3) (addr : Nat) (k : Pkt), addr = s.dev.barAddr true ofs ∧ k = s.dev.ownPkt 2 0 0 addr be (data.length % 1024) data ∧ s.dev.pcieUp = true ∧ data ≠ [] ∧ pktBad k = false ∧ pktBroadcast k = false ∧ s.dev.route (fleetDev addr) = .port q)
    ∧ (∃ (s : State) (bar2 : Bool) (ofs : Nat) (be : Nat) (data : List Nat) (addr : Nat) (k : Pkt), addr = s.dev.barAddr bar2 ofs ∧ k = s.dev.ownPkt 2 0 0 addr be (data.length % 1024) data ∧ s.dev.pcieUp = true ∧ data ≠ [] ∧ pktBad k = false ∧ ((bar2 = false ∨ pktBroadcast k = true ∨ s.dev.route (fleetDev addr) = .here)))
    ∧ (∃ (s : State) (ofs : Nat) (m : Nat) (r : Reg) (f : Fld) (a : Nat), a = ofs % 2 ^ 26 ∧ s.dev.pcieUp = true ∧ s.dev.devNum < 64 ∧ a % 4 = 0 ∧ regFind a = some (r, m) ∧ writeActs.contains r = false ∧ f ∈ fieldsOf r ∧ calmField f ∧ region a = .regs ∧ s.dev.isOff a = false ∧ s.dev.heldAt a = none)
    ∧ (∃ (s : State), s.dev.on BRM_FCTRL_ROOT 0 = true)
    ∧ (∃ (s : State), s.dev.on BRM_FCTRL_ROOT 0 = false)
    ∧ (∃ (s : State) (up : Bool), s.dev.on BRM_FCTRL_ROOT 0 = true ∧ ((s.dev.flag .pcieOn 0 = true ∨ up = false)))
    ∧ (∃ (s : State) (up : Bool), ((s.dev.on BRM_FCTRL_ROOT 0 = false ∨ (s.dev.flag .pcieOn 0 = false ∧ up = true))))
    ∧ (∃ (s : State) (data : List Nat) (whole : Bool), ((whole = false ∨ data = [])))
    ∧ (∃ (s : State) (addr : BitVec 48) (data : List Nat) (r : BrReq), r = ⟨.spi, true, addr.toNat / 4 * 4, data.length, data, false⟩ ∧ data ≠ [] ∧ s.dev.brCur = none ∧ bridgeHere s.dev r = true)
    ∧ (∃ (s : State) (addr : BitVec 48) (data : List Nat) (r : BrReq), r = ⟨.spi, true, addr.toNat / 4 * 4, data.length, data, false⟩ ∧ data ≠ [] ∧ s.dev.brCur = none ∧ bridgeHere s.dev r = false)
    ∧ (∃ (s : State) (addr : BitVec 48) (m : Nat) (r : Reg) (f : Fld) (a : Nat), a = addr.toNat / 4 * 4 ∧ s.dev.brCur = none ∧ s.dev.on BRM_FSTATUS_NUMBERED 0 = false ∧ region a = .regs ∧ regFind a = some (r, m) ∧ writeActs.contains r = false ∧ r ≠ .SPI_I3C_STATUS ∧ f ∈ fieldsOf r ∧ calmField f ∧ s.dev.isOff a = false ∧ s.dev.heldAt a = none)
    ∧ (∃ (s : State) (data : List Nat), data ≠ [] ∧ s.dev.brCur.isSome = true ∧ s.dev.brWait.any (fun x => x.write) = true)
    ∧ (∃ (s : State) (data : List Nat), data ≠ [] ∧ s.dev.brCur.isSome = true ∧ s.dev.brWait.any (fun x => x.write) = false)
    ∧ (∃ (s : State) (addr : BitVec 48) (n : Byte) (drop : Bool) (r : BrReq), r = ⟨.spi, false, addr.toNat / 4 * 4, n.toNat + 1, [], drop⟩ ∧ s.dev.brCur = none ∧ bridgeHere s.dev r = true)
    ∧ (∃ (s : State) (addr : BitVec 48) (n : Byte) (drop : Bool) (r : BrReq), r = ⟨.spi, false, addr.toNat / 4 * 4, n.toNat + 1, [], drop⟩ ∧ s.dev.brCur = none ∧ bridgeHere s.dev r = false)
    ∧ (∃ (s : State) (addr : BitVec 48) (m : Nat) (r : Reg) (a : Nat), a = addr.toNat / 4 * 4 ∧ s.dev.brCur = none ∧ s.dev.on BRM_FSTATUS_NUMBERED 0 = false ∧ region a = .regs ∧ regFind a = some (r, m) ∧ readActs.contains r = false ∧ (fieldsOf r).all (fun f => f.acc != .rc) = true ∧ r ≠ .SPI_I3C_STATUS ∧ s.dev.isOff a = false ∧ s.dev.heldAt a = none)
    ∧ (∃ (s : State), s.dev.brCur.isSome = true)
    ∧ (∃ (s : State) (data : List Nat), ((s.dev.i3cUp = false ∨ data = [])))
    ∧ (∃ (s : State) (addr : BitVec 48) (data : List Nat) (r : BrReq), r = ⟨.i3c, true, addr.toNat / 4 * 4, data.length, data, false⟩ ∧ s.dev.i3cUp = true ∧ data ≠ [] ∧ s.dev.brCur = none ∧ bridgeHere s.dev r = true)
    ∧ (∃ (s : State) (addr : BitVec 48) (data : List Nat) (r : BrReq), r = ⟨.i3c, true, addr.toNat / 4 * 4, data.length, data, false⟩ ∧ s.dev.i3cUp = true ∧ data ≠ [] ∧ s.dev.brCur = none ∧ bridgeHere s.dev r = false)
    ∧ (∃ (s : State) (data : List Nat), s.dev.i3cUp = true ∧ data ≠ [] ∧ s.dev.brCur.isSome = true ∧ s.dev.brWait.any (fun x => x.write) = true)
    ∧ (∃ (s : State) (data : List Nat), s.dev.i3cUp = true ∧ data ≠ [] ∧ s.dev.brCur.isSome = true ∧ s.dev.brWait.any (fun x => x.write) = false)
    ∧ (∃ (s : State), s.dev.i3cUp = false)
    ∧ (∃ (s : State) (addr : BitVec 48) (n : Byte) (r : BrReq), r = ⟨.i3c, false, addr.toNat / 4 * 4, n.toNat + 1, [], false⟩ ∧ s.dev.i3cUp = true ∧ s.dev.brCur = none ∧ bridgeHere s.dev r = true)
    ∧ (∃ (s : State) (addr : BitVec 48) (n : Byte) (r : BrReq), r = ⟨.i3c, false, addr.toNat / 4 * 4, n.toNat + 1, [], false⟩ ∧ s.dev.i3cUp = true ∧ s.dev.brCur = none ∧ bridgeHere s.dev r = false)
    ∧ (∃ (s : State), s.dev.i3cUp = true ∧ s.dev.brCur.isSome = true)
    ∧ (∃ (s : State), s.dev.i3cUp = true)
    ∧ (∃ (s : State), s.dev.i3cUp = false)
    ∧ (∃ (s : State), s.dev.i3cUp = false)
    ∧ (∃ (s : State), s.dev.i3cUp = true)
    ∧ (∃ (s : State) (r : BrReq) (status : Nat) (data : List Nat), s.dev.brCur = some r ∧ s.dev.brRes = some (status, data) ∧ s.dev.brWait = [])
    ∧ (∃ (s : State) (r : BrReq) (q : BrReq) (rest : List BrReq) (status : Nat) (data : List Nat) (d : Dev), d = (({ s.dev with brCur := none, brRes := none } : Dev).set SPI_I3C_STATUS_BUSY 0 0).bridgeGive r status data ∧ s.dev.brCur = some r ∧ s.dev.brRes = some (status, data) ∧ s.dev.brWait = q :: rest)
    ∧ (∃ (s : State) (r : BrReq) (q : BrReq) (rest : List BrReq) (status : Nat) (data : List Nat), s.dev.brCur = some r ∧ s.dev.brRes = some (status, data) ∧ s.dev.brWait = q :: rest ∧ bridgeHere s.dev q = false)
    ∧ (∃ (s : State), ((s.dev.brCur = none ∨ s.dev.brRes = none))) :=
   ⟨⟨stOf Dev.reset [] [(.pcieOn, 0, 0)], 1023, by decide +kernel⟩,
    ⟨{ (stOf Dev.reset [(PCI_STATUS_LINK_UP, 0, 1), (BRM_FSTATUS_DEVNUM, 0, 3), (IRQ_THR_THR, 2, 5)] [(.pcieOn, 0, 1), (.winLog2, 0, 48)]) with dev := { ((stOf Dev.reset [(PCI_STATUS_LINK_UP, 0, 1), (BRM_FSTATUS_DEVNUM, 0, 3), (IRQ_THR_THR, 2, 5)] [(.pcieOn, 0, 1), (.winLog2, 0, 48)])).dev with ownReqs := [⟨1, 5, 2⟩] } }, 1023, true, 5, 16, 5, _, _, rfl, rfl, by decide +kernel⟩,
    ⟨{ (stOf Dev.reset [(PCI_STATUS_LINK_UP, 0, 1), (BRM_FSTATUS_DEVNUM, 0, 3), (IRQ_THR_THR, 2, 5), (BRM_FSTATUS_DEVNUM, 0, 3), (BRM_FSTATUS_NUMBERED, 0, 1), (TOP_GEN_GEN, 0, 0), (BRM_ROUTE_S0, 0, 2), (BRM_ROUTE_S1, 0, 2), (IRQ_THR_THR, 2, 5), (PCI_WIN_BASE, 0, 0)] [(.pcieOn, 0, 1), (.winLog2, 0, 48)]) with dev := { ((stOf Dev.reset [(PCI_STATUS_LINK_UP, 0, 1), (BRM_FSTATUS_DEVNUM, 0, 3), (IRQ_THR_THR, 2, 5), (BRM_FSTATUS_DEVNUM, 0, 3), (BRM_FSTATUS_NUMBERED, 0, 1), (TOP_GEN_GEN, 0, 0), (BRM_ROUTE_S0, 0, 2), (BRM_ROUTE_S1, 0, 2), (IRQ_THR_THR, 2, 5), (PCI_WIN_BASE, 0, 0)] [(.pcieOn, 0, 1), (.winLog2, 0, 48)])).dev with ownReqs := [⟨1, 5, 2⟩] } }, 1023, 4 * 2 ^ 40 + 0x30520, 15, 1, 1, _, _, rfl, rfl, by decide +kernel⟩,
    ⟨stOf Dev.reset [(PCI_STATUS_LINK_UP, 0, 1), (BRM_FSTATUS_DEVNUM, 0, 3), (IRQ_THR_THR, 2, 5)] [(.offMgmt, 0, 0), (.offBunch, 0, 0), (.offBunch, 1, 0), (.bnReload, 0, 0), (.bnReload, 1, 0), (.lpSelf, 0, 0), (.pcieOn, 0, 1), (.winLog2, 0, 48)], 1023, false, 0x30520, 15, 1, _, _, rfl, rfl, by decide +kernel⟩,
    ⟨{ (stOf Dev.reset [(PCI_STATUS_LINK_UP, 0, 1), (BRM_FSTATUS_DEVNUM, 0, 3), (IRQ_THR_THR, 2, 5)] [(.offMgmt, 0, 0), (.offBunch, 0, 0), (.offBunch, 1, 0), (.bnReload, 0, 0), (.bnReload, 1, 0), (.lpSelf, 0, 0), (.pcieOn, 0, 1), (.winLog2, 0, 48)]) with dev := { ((stOf Dev.reset [(PCI_STATUS_LINK_UP, 0, 1), (BRM_FSTATUS_DEVNUM, 0, 3), (IRQ_THR_THR, 2, 5)] [(.offMgmt, 0, 0), (.offBunch, 0, 0), (.offBunch, 1, 0), (.bnReload, 0, 0), (.bnReload, 1, 0), (.lpSelf, 0, 0), (.pcieOn, 0, 1), (.winLog2, 0, 48)])).dev with ownReqs := [⟨1, 5, 2⟩] } }, 1023, 0x30520, 2, .IRQ_THR, _, rfl, by decide +kernel⟩,
    ⟨stOf Dev.reset [] [], [100, 3], true, by decide +kernel⟩,
    ⟨stOf Dev.reset [(PCI_STATUS_LINK_UP, 0, 1), (BRM_FSTATUS_DEVNUM, 0, 3), (IRQ_THR_THR, 2, 5)] [(.pcieOn, 0, 1), (.winLog2, 0, 48)], true, 5, 16, [4], _, _, rfl, rfl, by decide +kernel⟩,
    ⟨stOf Dev.reset [(PCI_STATUS_LINK_UP, 0, 1), (BRM_FSTATUS_DEVNUM, 0, 3), (IRQ_THR_THR, 2, 5), (BRM_FSTATUS_DEVNUM, 0, 3), (BRM_FSTATUS_NUMBERED, 0, 1), (TOP_GEN_GEN, 0, 0), (BRM_ROUTE_S0, 0, 2), (BRM_ROUTE_S1, 0, 2), (IRQ_THR_THR, 2, 5), (PCI_WIN_BASE, 0, 0)] [(.pcieOn, 0, 1), (.winLog2, 0, 48)], 4 * 2 ^ 40 + 0x30520, 15, [4], 1, _, _, rfl, rfl, by decide +kernel⟩,
    ⟨stOf Dev.reset [(PCI_STATUS_LINK_UP, 0, 1), (BRM_FSTATUS_DEVNUM, 0, 3), (IRQ_THR_THR, 2, 5), (BRM_FSTATUS_DEVNUM, 0, 3), (BRM_FSTATUS_NUMBERED, 0, 1), (TOP_GEN_GEN, 0, 0), (BRM_ROUTE_S0, 0, 2), (BRM_ROUTE_S1, 0, 2), (IRQ_THR_THR, 2, 5), (BRM_PSTATUS_STATE, 1, 4), (BRM_PSTATUS_STATE, 2, 4), (PCI_WIN_BASE, 0, 0)] [(.offMgmt, 0, 0), (.offBunch, 0, 0), (.offBunch, 1, 0), (.bnReload, 0, 0), (.bnReload, 1, 0), (.lpSelf, 0, 0), (.pcieOn, 0, 1), (.winLog2, 0, 48)], true, 2 ^ 46 + 0x30520, 15, [4], _, _, rfl, rfl, by decide +kernel⟩,
    ⟨stOf Dev.reset [(PCI_STATUS_LINK_UP, 0, 1), (BRM_FSTATUS_DEVNUM, 0, 3), (IRQ_THR_THR, 2, 5)] [(.offMgmt, 0, 0), (.offBunch, 0, 0), (.offBunch, 1, 0), (.bnReload, 0, 0), (.bnReload, 1, 0), (.lpSelf, 0, 0), (.pcieOn, 0, 1), (.winLog2, 0, 48)], 0x30520, 2, .IRQ_THR, IRQ_THR_THR, _, rfl, by unfold calmField; decide +kernel⟩,
    ⟨stOf Dev.reset [(BRM_FCTRL_ROOT, 0, 1)] [], by decide +kernel⟩,
    ⟨stOf Dev.reset [(BRM_FCTRL_ROOT, 0, 0)] [], by decide +kernel⟩,
    ⟨stOf Dev.reset [(BRM_FCTRL_ROOT, 0, 1)] [(.pcieOn, 0, 1), (.winLog2, 0, 48)], true, by decide +kernel⟩,
    ⟨stOf Dev.reset [] [(.pcieOn, 0, 0)], true, by decide +kernel⟩,
    ⟨stOf Dev.reset [] [], [100, 3], false, by decide +kernel⟩,
    ⟨{ (stOf Dev.reset [(BRM_FSTATUS_NUMBERED, 0, 0), (IRQ_THR_THR, 2, 5)] [(.offMgmt, 0, 0), (.offBunch, 0, 0), (.offBunch, 1, 0), (.bnReload, 0, 0), (.bnReload, 1, 0), (.lpSelf, 0, 0)]) with dev := { ((stOf Dev.reset [(BRM_FSTATUS_NUMBERED, 0, 0), (IRQ_THR_THR, 2, 5)] [(.offMgmt, 0, 0), (.offBunch, 0, 0), (.offBunch, 1, 0), (.bnReload, 0, 0), (.bnReload, 1, 0), (.lpSelf, 0, 0)])).dev with brCur := none } }, 0x30520#48, [4], _, rfl, by decide +kernel⟩,
    ⟨{ (stOf Dev.reset [(BRM_FSTATUS_DEVNUM, 0, 3), (BRM_FSTATUS_NUMBERED, 0, 1), (TOP_GEN_GEN, 0, 0), (BRM_ROUTE_S0, 0, 2), (BRM_ROUTE_S1, 0, 2), (IRQ_THR_THR, 2, 5)] [(.offMgmt, 0, 0), (.offBunch, 0, 0), (.offBunch, 1, 0), (.bnReload, 0, 0), (.bnReload, 1, 0), (.lpSelf, 0, 0)]) with dev := { ((stOf Dev.reset [(BRM_FSTATUS_DEVNUM, 0, 3), (BRM_FSTATUS_NUMBERED, 0, 1), (TOP_GEN_GEN, 0, 0), (BRM_ROUTE_S0, 0, 2), (BRM_ROUTE_S1, 0, 2), (IRQ_THR_THR, 2, 5)] [(.offMgmt, 0, 0), (.offBunch, 0, 0), (.offBunch, 1, 0), (.bnReload, 0, 0), (.bnReload, 1, 0), (.lpSelf, 0, 0)])).dev with brCur := none } }, 0x40000030520#48, [4], _, rfl, by decide +kernel⟩,
    ⟨{ (stOf Dev.reset [(BRM_FSTATUS_NUMBERED, 0, 0), (BRM_FSTATUS_NUMBERED, 0, 0), (IRQ_THR_THR, 2, 5)] [(.offMgmt, 0, 0), (.offBunch, 0, 0), (.offBunch, 1, 0), (.bnReload, 0, 0), (.bnReload, 1, 0), (.lpSelf, 0, 0)]) with dev := { ((stOf Dev.reset [(BRM_FSTATUS_NUMBERED, 0, 0), (BRM_FSTATUS_NUMBERED, 0, 0), (IRQ_THR_THR, 2, 5)] [(.offMgmt, 0, 0), (.offBunch, 0, 0), (.offBunch, 1, 0), (.bnReload, 0, 0), (.bnReload, 1, 0), (.lpSelf, 0, 0)])).dev with brCur := none } }, 0x30520#48, 2, .IRQ_THR, IRQ_THR_THR, _, rfl, by unfold calmField; decide +kernel⟩,
    ⟨((stOf Dev.reset [] [])).withDev (fun d => { d with brCur := some ⟨.spi, false, 8, 2, [], false⟩, brWait := [⟨.i3c, true, 8, 2, [], false⟩] }), [100, 3], by decide +kernel⟩,
    ⟨((stOf Dev.reset [] [])).withDev (fun d => { d with brCur := some ⟨.spi, false, 8, 2, [], false⟩, brWait := [⟨.i3c, false, 8, 2, [], false⟩] }), [100, 3], by decide +kernel⟩,
    ⟨{ (stOf Dev.reset [(BRM_FSTATUS_NUMBERED, 0, 0), (IRQ_THR_THR, 2, 5)] [(.offMgmt, 0, 0), (.offBunch, 0, 0), (.offBunch, 1, 0), (.bnReload, 0, 0), (.bnReload, 1, 0), (.lpSelf, 0, 0)]) with dev := { ((stOf Dev.reset [(BRM_FSTATUS_NUMBERED, 0, 0), (IRQ_THR_THR, 2, 5)] [(.offMgmt, 0, 0), (.offBunch, 0, 0), (.offBunch, 1, 0), (.bnReload, 0, 0), (.bnReload, 1, 0), (.lpSelf, 0, 0)])).dev with brCur := none } }, 0x30520#48, 5#8, true, _, rfl, by decide +kernel⟩,
    ⟨{ (stOf Dev.reset [(BRM_FSTATUS_DEVNUM, 0, 3), (BRM_FSTATUS_NUMBERED, 0, 1), (TOP_GEN_GEN, 0, 0), (BRM_ROUTE_S0, 0, 2), (BRM_ROUTE_S1, 0, 2), (IRQ_THR_THR, 2, 5)] [(.offMgmt, 0, 0), (.offBunch, 0, 0), (.offBunch, 1, 0), (.bnReload, 0, 0), (.bnReload, 1, 0), (.lpSelf, 0, 0)]) with dev := { ((stOf Dev.reset [(BRM_FSTATUS_DEVNUM, 0, 3), (BRM_FSTATUS_NUMBERED, 0, 1), (TOP_GEN_GEN, 0, 0), (BRM_ROUTE_S0, 0, 2), (BRM_ROUTE_S1, 0, 2), (IRQ_THR_THR, 2, 5)] [(.offMgmt, 0, 0), (.offBunch, 0, 0), (.offBunch, 1, 0), (.bnReload, 0, 0), (.bnReload, 1, 0), (.lpSelf, 0, 0)])).dev with brCur := none } }, 0x40000030520#48, 5#8, true, _, rfl, by decide +kernel⟩,
    ⟨{ (stOf Dev.reset [(BRM_FSTATUS_NUMBERED, 0, 0), (BRM_FSTATUS_NUMBERED, 0, 0), (IRQ_THR_THR, 2, 5)] [(.offMgmt, 0, 0), (.offBunch, 0, 0), (.offBunch, 1, 0), (.bnReload, 0, 0), (.bnReload, 1, 0), (.lpSelf, 0, 0)]) with dev := { ((stOf Dev.reset [(BRM_FSTATUS_NUMBERED, 0, 0), (BRM_FSTATUS_NUMBERED, 0, 0), (IRQ_THR_THR, 2, 5)] [(.offMgmt, 0, 0), (.offBunch, 0, 0), (.offBunch, 1, 0), (.bnReload, 0, 0), (.bnReload, 1, 0), (.lpSelf, 0, 0)])).dev with brCur := none } }, 0x30520#48, 2, .IRQ_THR, _, rfl, by decide +kernel⟩,
    ⟨((stOf Dev.reset [] [])).withDev (fun d => { d with brCur := some ⟨.spi, false, 8, 2, [], false⟩, brWait := [⟨.i3c, true, 8, 2, [], false⟩] }), by decide +kernel⟩,
    ⟨stOf Dev.reset [(I3C_CFG_DYN_ADDR, 0, 0)] [], [100, 3], by decide +kernel⟩,
    ⟨{ (stOf Dev.reset [(BRM_FSTATUS_NUMBERED, 0, 0), (IRQ_THR_THR, 2, 5), (I3C_CFG_DYN_ADDR, 0, 9)] [(.offMgmt, 0, 0), (.offBunch, 0, 0), (.offBunch, 1, 0), (.bnReload, 0, 0), (.bnReload, 1, 0), (.lpSelf, 0, 0)]) with dev := { ((stOf Dev.reset [(BRM_FSTATUS_NUMBERED, 0, 0), (IRQ_THR_THR, 2, 5), (I3C_CFG_DYN_ADDR, 0, 9)] [(.offMgmt, 0, 0), (.offBunch, 0, 0), (.offBunch, 1, 0), (.bnReload, 0, 0), (.bnReload, 1, 0), (.lpSelf, 0, 0)])).dev with brCur := none } }, 0x30520#48, [4], _, rfl, by decide +kernel⟩,
    ⟨{ (stOf Dev.reset [(BRM_FSTATUS_DEVNUM, 0, 3), (BRM_FSTATUS_NUMBERED, 0, 1), (TOP_GEN_GEN, 0, 0), (BRM_ROUTE_S0, 0, 2), (BRM_ROUTE_S1, 0, 2), (IRQ_THR_THR, 2, 5), (I3C_CFG_DYN_ADDR, 0, 9)] [(.offMgmt, 0, 0), (.offBunch, 0, 0), (.offBunch, 1, 0), (.bnReload, 0, 0), (.bnReload, 1, 0), (.lpSelf, 0, 0)]) with dev := { ((stOf Dev.reset [(BRM_FSTATUS_DEVNUM, 0, 3), (BRM_FSTATUS_NUMBERED, 0, 1), (TOP_GEN_GEN, 0, 0), (BRM_ROUTE_S0, 0, 2), (BRM_ROUTE_S1, 0, 2), (IRQ_THR_THR, 2, 5), (I3C_CFG_DYN_ADDR, 0, 9)] [(.offMgmt, 0, 0), (.offBunch, 0, 0), (.offBunch, 1, 0), (.bnReload, 0, 0), (.bnReload, 1, 0), (.lpSelf, 0, 0)])).dev with brCur := none } }, 0x40000030520#48, [4], _, rfl, by decide +kernel⟩,
    ⟨((stOf Dev.reset [(I3C_CFG_DYN_ADDR, 0, 9)] [])).withDev (fun d => { d with brCur := some ⟨.spi, false, 8, 2, [], false⟩, brWait := [⟨.i3c, true, 8, 2, [], false⟩] }), [100, 3], by decide +kernel⟩,
    ⟨((stOf Dev.reset [(I3C_CFG_DYN_ADDR, 0, 9)] [])).withDev (fun d => { d with brCur := some ⟨.spi, false, 8, 2, [], false⟩, brWait := [⟨.i3c, false, 8, 2, [], false⟩] }), [100, 3], by decide +kernel⟩,
    ⟨stOf Dev.reset [(I3C_CFG_DYN_ADDR, 0, 0)] [], by decide +kernel⟩,
    ⟨{ (stOf Dev.reset [(BRM_FSTATUS_NUMBERED, 0, 0), (IRQ_THR_THR, 2, 5), (I3C_CFG_DYN_ADDR, 0, 9)] [(.offMgmt, 0, 0), (.offBunch, 0, 0), (.offBunch, 1, 0), (.bnReload, 0, 0), (.bnReload, 1, 0), (.lpSelf, 0, 0)]) with dev := { ((stOf Dev.reset [(BRM_FSTATUS_NUMBERED, 0, 0), (IRQ_THR_THR, 2, 5), (I3C_CFG_DYN_ADDR, 0, 9)] [(.offMgmt, 0, 0), (.offBunch, 0, 0), (.offBunch, 1, 0), (.bnReload, 0, 0), (.bnReload, 1, 0), (.lpSelf, 0, 0)])).dev with brCur := none } }, 0x30520#48, 5#8, _, rfl, by decide +kernel⟩,
    ⟨{ (stOf Dev.reset [(BRM_FSTATUS_DEVNUM, 0, 3), (BRM_FSTATUS_NUMBERED, 0, 1), (TOP_GEN_GEN, 0, 0), (BRM_ROUTE_S0, 0, 2), (BRM_ROUTE_S1, 0, 2), (IRQ_THR_THR, 2, 5), (I3C_CFG_DYN_ADDR, 0, 9)] [(.offMgmt, 0, 0), (.offBunch, 0, 0), (.offBunch, 1, 0), (.bnReload, 0, 0), (.bnReload, 1, 0), (.lpSelf, 0, 0)]) with dev := { ((stOf Dev.reset [(BRM_FSTATUS_DEVNUM, 0, 3), (BRM_FSTATUS_NUMBERED, 0, 1), (TOP_GEN_GEN, 0, 0), (BRM_ROUTE_S0, 0, 2), (BRM_ROUTE_S1, 0, 2), (IRQ_THR_THR, 2, 5), (I3C_CFG_DYN_ADDR, 0, 9)] [(.offMgmt, 0, 0), (.offBunch, 0, 0), (.offBunch, 1, 0), (.bnReload, 0, 0), (.bnReload, 1, 0), (.lpSelf, 0, 0)])).dev with brCur := none } }, 0x40000030520#48, 5#8, _, rfl, by decide +kernel⟩,
    ⟨((stOf Dev.reset [(I3C_CFG_DYN_ADDR, 0, 9)] [])).withDev (fun d => { d with brCur := some ⟨.spi, false, 8, 2, [], false⟩, brWait := [⟨.i3c, true, 8, 2, [], false⟩] }), by decide +kernel⟩,
    ⟨((stOf Dev.reset [(I3C_CFG_DYN_ADDR, 0, 9)] [])).withDev (fun d => { d with i3cRes := some (0, [4, 5]) }), by decide +kernel⟩,
    ⟨stOf Dev.reset [(I3C_CFG_DYN_ADDR, 0, 0)] [], by decide +kernel⟩,
    ⟨stOf Dev.reset [(I3C_CFG_DYN_ADDR, 0, 0)] [], by decide +kernel⟩,
    ⟨stOf Dev.reset [(I3C_CFG_DYN_ADDR, 0, 9)] [], by decide +kernel⟩,
    ⟨((stOf Dev.reset [] [])).withDev (fun d => { d with brCur := some ⟨.spi, false, 8, 2, [], false⟩, brRes := some (3, [9]), brWait := [] }), ⟨.spi, false, 8, 2, [], false⟩, 3, [9], by decide +kernel⟩,
    ⟨((stOf Dev.reset [(BRM_FSTATUS_NUMBERED, 0, 0), (IRQ_THR_THR, 2, 5)] [(.offMgmt, 0, 0), (.offBunch, 0, 0), (.offBunch, 1, 0), (.bnReload, 0, 0), (.bnReload, 1, 0), (.lpSelf, 0, 0)])).withDev (fun d => { d with brCur := some ⟨.spi, false, 8, 2, [], false⟩, brRes := some (3, [9]), brWait := [⟨.i3c, true, 0x30520, 1, [4], false⟩] }), ⟨.spi, false, 8, 2, [], false⟩, ⟨.i3c, true, 0x30520, 1, [4], false⟩, [], 3, [9], _, rfl, by decide +kernel⟩,
    ⟨((stOf Dev.reset [(BRM_FSTATUS_DEVNUM, 0, 3), (BRM_FSTATUS_NUMBERED, 0, 1), (TOP_GEN_GEN, 0, 0), (BRM_ROUTE_S0, 0, 2), (BRM_ROUTE_S1, 0, 2), (IRQ_THR_THR, 2, 5)] [(.offMgmt, 0, 0), (.offBunch, 0, 0), (.offBunch, 1, 0), (.bnReload, 0, 0), (.bnReload, 1, 0), (.lpSelf, 0, 0)])).withDev (fun d => { d with brCur := some ⟨.spi, false, 8, 2, [], false⟩, brRes := some (3, [9]), brWait := [⟨.i3c, true, 4 * 2 ^ 40 + 0x30520, 1, [4], false⟩] }), ⟨.spi, false, 8, 2, [], false⟩, ⟨.i3c, true, 4 * 2 ^ 40 + 0x30520, 1, [4], false⟩, [], 3, [9], by decide +kernel⟩,
    ⟨{ (stOf Dev.reset [] []) with dev := { ((stOf Dev.reset [] [])).dev with brCur := none } }, by decide +kernel⟩⟩

/-- The hypotheses of `Obligations.SeedChecks`, clause by clause. -/
theorem witness_SeedChecks :
    (∃ (s : State) (src : BitVec 2) (warm : Bool) (hold : Bool) (c : Instr), c ∈ [Instr.seedLoadFull src warm hold, .seedLoadBunch0 src warm hold, .seedLoadBunch1 src warm hold, .seedCheck src warm hold] ∧ s.dev.on SEED_STATUS_BUSY 0 = true)
    ∧ (∃ (s : State) (src : BitVec 2) (warm : Bool) (hold : Bool) (c : Instr), c ∈ [Instr.seedLoadFull src warm hold, .seedLoadBunch0 src warm hold, .seedLoadBunch1 src warm hold, .seedCheck src warm hold] ∧ s.dev.on SEED_STATUS_BUSY 0 = false ∧ s.dev.merge = [])
    ∧ (∃ (s : State), s.dev.on SEED_STATUS_BUSY 0 = true ∧ s.dev.get SEED_STATUS_PHASE 0 ≤ 4)
    ∧ (∃ (s : State), ((s.dev.on SEED_STATUS_BUSY 0 = false ∨ 5 ≤ s.dev.get SEED_STATUS_PHASE 0)))
    ∧ (∃ (s : State) (e : Nat), s.dev.on SEED_STATUS_BUSY 0 = true ∧ s.dev.get SEED_STATUS_PHASE 0 = 1 ∧ s.dev.v .seedHdr 0 = (e : Nat) ∧ e ≠ 0)
    ∧ (∃ (s : State), s.dev.on SEED_STATUS_BUSY 0 = true ∧ s.dev.get SEED_STATUS_PHASE 0 = 1 ∧ s.dev.v .seedHdr 0 = 0)
    ∧ (∃ (s : State), ((s.dev.on SEED_STATUS_BUSY 0 = false ∨ s.dev.get SEED_STATUS_PHASE 0 ≠ 1)))
    ∧ (∃ (s : State), s.dev.on SEED_STATUS_BUSY 0 = true ∧ s.dev.get SEED_STATUS_PHASE 0 = 2 ∧ s.dev.ownerOk (field s.dev.seedBuf 7 1) s.dev.seedBuf (field s.dev.seedBuf 0x1C 4) = false)
    ∧ (∃ (s : State), s.dev.on SEED_STATUS_BUSY 0 = true ∧ s.dev.get SEED_STATUS_PHASE 0 = 2 ∧ s.dev.ownerOk (field s.dev.seedBuf 7 1) s.dev.seedBuf (field s.dev.seedBuf 0x1C 4) = true ∧ ((s.dev.flag .seedBad 0 = true ∨ sigVerifies "LNI-SEED" s.dev.seedBuf (field s.dev.seedBuf 0x1C 4) = false)))
    ∧ (∃ (s : State) (d0 : BunchDesc) (d1 : BunchDesc) (cmd : Nat) (code : Nat) (row : Option (Nat)) (m : List Byte) (ver : Bool), m = s.dev.seedBuf ∧ ver = sigVerifies "LNI-SEED" m (field m 0x1C 4) ∧ s.dev.v .seedCmd 0 = (cmd : Nat) ∧ s.dev.on SEED_STATUS_BUSY 0 = true ∧ s.dev.get SEED_STATUS_PHASE 0 = 2 ∧ s.dev.ownerOk (field m 7 1) m (field m 0x1C 4) = true ∧ s.dev.flag .seedBad 0 = false ∧ seedFault s.dev m cmd d0 d1 = some (code, row))
    ∧ (∃ (s : State) (d0 : BunchDesc) (d1 : BunchDesc) (m : List Byte) (ver : Bool), m = s.dev.seedBuf ∧ ver = sigVerifies "LNI-SEED" m (field m 0x1C 4) ∧ s.dev.v .seedCmd 0 = 4 ∧ s.dev.on SEED_STATUS_BUSY 0 = true ∧ s.dev.get SEED_STATUS_PHASE 0 = 2 ∧ s.dev.ownerOk (field m 7 1) m (field m 0x1C 4) = true ∧ s.dev.flag .seedBad 0 = false ∧ seedFault s.dev m 4 d0 d1 = none)
    ∧ (∃ (s : State), ((s.dev.on SEED_STATUS_BUSY 0 = false ∨ s.dev.get SEED_STATUS_PHASE 0 ≠ 2))) :=
   ⟨⟨stOf Dev.reset [(SEED_STATUS_BUSY, 0, 1)] [], 1, true, true, .seedLoadFull 1 true true, by decide +kernel⟩,
    ⟨stOf Dev.reset [(SEED_STATUS_BUSY, 0, 0)] [], 2, true, true, .seedCheck 2 true true, by decide +kernel⟩,
    ⟨stOf Dev.reset [(SEED_STATUS_BUSY, 0, 1), (SEED_STATUS_PHASE, 0, 3)] [], by decide +kernel⟩,
    ⟨stOf Dev.reset [(SEED_STATUS_PHASE, 0, 6)] [], by decide +kernel⟩,
    ⟨(fun (e : Nat) => stOf Dev.reset [(SEED_STATUS_BUSY, 0, 1), (SEED_STATUS_PHASE, 0, 1)] [(.seedHdr, 0, (e : Nat))]) (5), 5, by decide +kernel⟩,
    ⟨stOf Dev.reset [(SEED_STATUS_BUSY, 0, 1), (SEED_STATUS_PHASE, 0, 1)] [(.seedHdr, 0, 0)], by decide +kernel⟩,
    ⟨stOf Dev.reset [(SEED_STATUS_PHASE, 0, 3)] [], by decide +kernel⟩,
    ⟨((stOf Dev.reset [(SEED_STATUS_BUSY, 0, 1), (SEED_STATUS_PHASE, 0, 2)] [])).withDev (fun d => { d with seedBuf := tinyImage }), by decide +kernel⟩,
    ⟨((stOf Dev.reset [(SEED_STATUS_BUSY, 0, 1), (SEED_STATUS_PHASE, 0, 2), (SEED_STATUS_BUSY, 0, 1), (SEED_STATUS_PHASE, 0, 2)] [(.seedBad, 0, 1)])).withDev (fun d => { (owned tinyImage d) with seedBuf := tinyImage, bunch1 := richB1 }), by decide +kernel⟩,
    ⟨(fun (cmd : Nat) => ((stOf Dev.reset [(SEED_STATUS_BUSY, 0, 1), (SEED_STATUS_PHASE, 0, 2), (SEED_STATUS_BUSY, 0, 1), (SEED_STATUS_PHASE, 0, 2)] [(.seedCmd, 0, (cmd : Nat)), (.seedBad, 0, 0)])).withDev (fun d => { (owned tinyImage d) with seedBuf := tinyImage, bunch1 := richB1 })) (4), richB0, tinyDesc, 4, 8, none, _, _, rfl, rfl, by decide +kernel⟩,
    ⟨((stOf Dev.reset [(SEED_STATUS_BUSY, 0, 1), (SEED_STATUS_PHASE, 0, 2)] [(.seedCmd, 0, 4), (.seedBad, 0, 0)])).withDev (fun d => { (owned tinyImage d) with seedBuf := tinyImage, bunch1 := richB1 }), tinyDesc, tinyDesc, _, _, rfl, rfl, by decide +kernel⟩,
    ⟨stOf Dev.reset [(SEED_STATUS_PHASE, 0, 3)] [], by decide +kernel⟩⟩

/-- The hypotheses of `Obligations.SeedApply`, clause by clause. -/
theorem witness_SeedApply :
    (∃ (s : State) (d0 : BunchDesc) (d1 : BunchDesc) (cmd : Nat) (m : List Byte) (ver : Bool), m = s.dev.seedBuf ∧ ver = sigVerifies "LNI-SEED" m (field m 0x1C 4) ∧ s.dev.v .seedCmd 0 = (cmd : Nat) ∧ cmd ≠ 4 ∧ s.dev.on SEED_STATUS_BUSY 0 = true ∧ s.dev.get SEED_STATUS_PHASE 0 = 2 ∧ s.dev.ownerOk (field m 7 1) m (field m 0x1C 4) = true ∧ s.dev.flag .seedBad 0 = false ∧ seedFault s.dev m cmd d0 d1 = none)
    ∧ (∃ (s : State) (cmd : Nat), s.dev.v .seedCmd 0 = (cmd : Nat) ∧ s.dev.capOn = false)
    ∧ (∃ (s : State) (cmd : Nat), s.dev.v .seedCmd 0 = (cmd : Nat) ∧ s.dev.on SEED_STATUS_BUSY 0 = true ∧ s.dev.get SEED_STATUS_PHASE 0 = 6 ∧ s.dev.get BOOT_STATUS_STEP 0 ≠ 7)
    ∧ (∃ (s : State) (cfg0 : List Byte) (cfg1 : List Byte) (cmd : Nat), s.dev.v .seedCmd 0 = (cmd : Nat) ∧ 1 ≤ cmd ∧ cmd ≤ 3 ∧ s.dev.on SEED_STATUS_BUSY 0 = true ∧ s.dev.get SEED_STATUS_PHASE 0 = 6 ∧ s.dev.on MEM_STATUS_ZFILL 0 = false ∧ s.dev.flag .offMgmt 0 = false ∧ cfg0.length % 8 = 0 ∧ cfg0.length ≤ 0x2_0000 ∧ cfg1.length % 8 = 0 ∧ cfg1.length ≤ 0x2_0000 ∧ s.dev.merge = [] ∧ ((∀ i < 64, s.dev.v .mspare i = 0)))
    ∧ (∃ (s : State) (cmd : Nat) (hold : Bool), hold = s.dev.flag .seedHold 0 ∧ s.dev.v .seedCmd 0 = (cmd : Nat) ∧ s.dev.on SEED_STATUS_BUSY 0 = true ∧ s.dev.get SEED_STATUS_PHASE 0 = 7)
    ∧ (∃ (s : State), ((s.dev.on SEED_STATUS_BUSY 0 = false ∨ s.dev.get SEED_STATUS_PHASE 0 ≠ 6)))
    ∧ (∃ (s : State), ((s.dev.on SEED_STATUS_BUSY 0 = false ∨ s.dev.get SEED_STATUS_PHASE 0 ≠ 7)))
    ∧ (∃ (s : State) (r : TileReload) (rest : List TileReload), s.dev.reloads = r :: rest)
    ∧ (∃ (s : State) (r : TileReload) (rest : List TileReload) (f : Fld), f = (if r.bunch = 0 then SEED_RELOAD_CNT_B0 else SEED_RELOAD_CNT_B1) ∧ s.dev.reloads = r :: rest)
    ∧ (∃ (s : State), s.dev.reloads = []) :=
   ⟨⟨(fun (cmd : Nat) => ((stOf Dev.reset [(SEED_STATUS_BUSY, 0, 1), (SEED_STATUS_PHASE, 0, 2)] [(.seedCmd, 0, (cmd : Nat)), (.seedBad, 0, 0)])).withDev (fun d => { (owned tinyImage d) with seedBuf := tinyImage, bunch1 := richB1 })) (2), tinyDesc, tinyDesc, 2, _, _, rfl, rfl, by decide +kernel⟩,
    ⟨(fun (cmd : Nat) => stOf Dev.reset [(CAP_STATUS_STATE, 0, 0)] [(.seedCmd, 0, (cmd : Nat))]) (1), 1, by decide +kernel⟩,
    ⟨(fun (cmd : Nat) => ((stOf Dev.reset [(SEED_STATUS_BUSY, 0, 1), (SEED_STATUS_PHASE, 0, 6), (BOOT_STATUS_STEP, 0, 3)] [(.seedCmd, 0, (cmd : Nat))])).withDev (fun d => { d with seedNew := [{ richB0 with ports := richB0.ports.drop 1 }, richB1], seedBuf := tinyImage })) (1), 1, by decide +kernel⟩,
    ⟨(fun (cmd : Nat) => ((stOf Dev.reset [(SEED_STATUS_BUSY, 0, 1), (SEED_STATUS_PHASE, 0, 6), (MEM_STATUS_ZFILL, 0, 0)] [(.seedCmd, 0, (cmd : Nat)), (.offMgmt, 0, 0)])).withDev (fun d => { d with seedNew := [{ richB0 with ports := richB0.ports.drop 1 }, richB1], seedBuf := tinyImage })) (1), (List.range 16).map (fun i => BitVec.ofNat 8 (i + 3)), (List.range 16).map (fun i => BitVec.ofNat 8 (i + 3)), 1, by decide +kernel⟩,
    ⟨(fun (cmd : Nat) => stOf Dev.reset [(SEED_STATUS_BUSY, 0, 1), (SEED_STATUS_PHASE, 0, 7)] [(.seedCmd, 0, (cmd : Nat))]) (1), 1, _, rfl, by decide +kernel⟩,
    ⟨stOf Dev.reset [(SEED_STATUS_PHASE, 0, 3)] [], by decide +kernel⟩,
    ⟨stOf Dev.reset [(SEED_STATUS_PHASE, 0, 3)] [], by decide +kernel⟩,
    ⟨((stOf Dev.reset [] [(.lkTileHold, 2, 1)])).withDev (fun d => { d with reloads := [⟨0, 7, some 2⟩, ⟨1, 5, none⟩] }), ⟨0, 7, some 2⟩, [⟨1, 5, none⟩], by decide +kernel⟩,
    ⟨((stOf Dev.reset [] [(.lkTileHold, 2, 1)])).withDev (fun d => { d with reloads := [⟨0, 7, some 2⟩, ⟨1, 5, none⟩] }), ⟨0, 7, some 2⟩, [⟨1, 5, none⟩], _, rfl, by decide +kernel⟩,
    ⟨stOf Dev.reset [] [], by decide +kernel⟩⟩

/-- The hypotheses of `Obligations.StoneWrites`, clause by clause. -/
theorem witness_StoneWrites :
    (∃ (s : State) (page : Fin 131072), s.dev.stnErr page ≠ 0)
    ∧ (∃ (s : State) (page : Fin 131072) (r : StnRun), s.dev.stnErr page = 0 ∧ s.dev.stnCur = some r)
    ∧ (∃ (s : State) (page : Fin 131072), s.dev.stnErr page = 0 ∧ s.dev.stnCur = none)
    ∧ (∃ (s : State) (page : Fin 131072) (journal : Bool) (rest : List StnEnt) (e : StnEnt) (q : List StnEnt), q = s.dev.stnQ ++ [⟨s.dev.stnSrc, page, journal⟩] ∧ q = e :: rest ∧ s.dev.stnErr page = 0 ∧ s.dev.stnCur = none ∧ s.dev.merge = [])
    ∧ (∃ (s : State), s.dev.stnCur = none)
    ∧ (∃ (s : State) (r : StnRun), s.dev.stnCur = some r ∧ s.dev.stnQ ≠ [])
    ∧ (∃ (s : State) (r : StnRun) (e : StnEnt) (rest : List StnEnt), s.dev.stnCur = some r ∧ r.ent.journal = false ∧ r.data.length = 256 ∧ s.dev.stnQ = e :: rest ∧ s.dev.merge = [])
    ∧ (∃ (s : State) (r : StnRun), s.dev.stnCur = some r ∧ r.ent.journal = false ∧ r.data.length = 256 ∧ s.dev.stnQ = [])
    ∧ (∃ (s : State) (r : StnRun) (u : Nat), s.dev.stnCur = some r ∧ r.ent.journal = true ∧ r.data.length = 256 ∧ s.dev.stnQ = [] ∧ s.dev.v .undoNext 0 = (u : Nat) ∧ u < 64 ∧ r.ent.page ≠ undoPage u)
    ∧ (∃ (s : State) (ofs : Fin 33554432), s.dev.isOff (stoneBase + ofs) = false)
    ∧ (∃ (s : State) (ofs : Fin 33554432), s.dev.isOff (stoneBase + ofs) = true) :=
   ⟨⟨stOf Dev.reset [] [], 5, by decide +kernel⟩,
    ⟨((stOf Dev.reset [(STN_SRC_LO_ADDR, 0, 0x10001000), (STN_SRC_HI_ADDR, 0, 0), (STN_STATUS_QCOUNT, 0, 0)] [])).withDev (fun d => { d with stnCur := some { ent := ⟨0x10002000, 0x12345, false⟩, data := (List.range 256).map (fun i => BitVec.ofNat 8 i), poison := [3] } }), 0x12345, { ent := ⟨0x10002000, 0x12345, false⟩, data := (List.range 256).map (fun i => BitVec.ofNat 8 i), poison := [3] }, by decide +kernel⟩,
    ⟨(fun s => { s with mem := s.mem.writeBytes 0x10001010 [1,2,3,4] }) ((stOf Dev.reset [(STN_SRC_LO_ADDR, 0, 0x10001000), (STN_SRC_HI_ADDR, 0, 0), (STN_STATUS_QCOUNT, 0, 0)] [])), 0x12345, by decide +kernel⟩,
    ⟨(fun s => { s with mem := s.mem.writeBytes 0x10001010 [1,2,3,4] }) ((stOf Dev.reset [(STN_SRC_LO_ADDR, 0, 0x10001000), (STN_SRC_HI_ADDR, 0, 0), (STN_STATUS_QCOUNT, 0, 0)] [])), 0x12345, true, [], ⟨0x10001000, 0x12345, true⟩, _, rfl, by decide +kernel⟩,
    ⟨((stOf Dev.reset [] [])).withDev (fun d => { d with stnCur := none }), by decide +kernel⟩,
    ⟨(fun s => { s with mem := s.mem.writeBytes (pageAddr 0x12345) [1,2,3,4] }) (((stOf Dev.reset [] [])).withDev (fun d => { d with stnCur := some { ent := ⟨0x10002000, 0x12345, true⟩, data := (List.range 256).map (fun i => BitVec.ofNat 8 i), poison := [3] }, stnQ := [⟨0x10001000, 0x12340, true⟩, ⟨0x10001000, 0x12341, true⟩] })), { ent := ⟨0x10002000, 0x12345, true⟩, data := (List.range 256).map (fun i => BitVec.ofNat 8 i), poison := [3] }, by decide +kernel⟩,
    ⟨(fun s => { s with mem := s.mem.writeBytes (pageAddr 0x12345) [1,2,3,4] }) (((stOf Dev.reset [] [])).withDev (fun d => { d with stnCur := some { ent := ⟨0x10002000, 0x12345, false⟩, data := (List.range 256).map (fun i => BitVec.ofNat 8 i), poison := [3] }, stnQ := [⟨0x10001000, 0x12340, true⟩, ⟨0x10001000, 0x12341, true⟩] })), { ent := ⟨0x10002000, 0x12345, false⟩, data := (List.range 256).map (fun i => BitVec.ofNat 8 i), poison := [3] }, ⟨0x10001000, 0x12340, true⟩, [⟨0x10001000, 0x12341, true⟩], by decide +kernel⟩,
    ⟨(fun s => { s with mem := s.mem.writeBytes (pageAddr 0x12345) [1,2,3,4] }) (((stOf Dev.reset [] [])).withDev (fun d => { d with stnCur := some { ent := ⟨0x10002000, 0x12345, false⟩, data := (List.range 256).map (fun i => BitVec.ofNat 8 i), poison := [3] }, stnQ := [] })), { ent := ⟨0x10002000, 0x12345, false⟩, data := (List.range 256).map (fun i => BitVec.ofNat 8 i), poison := [3] }, by decide +kernel⟩,
    ⟨(fun (u : Nat) => (fun s => { s with mem := s.mem.writeBytes (pageAddr 0x12345) [1,2,3,4] }) (((stOf Dev.reset [] [(.undoNext, 0, (u : Nat))])).withDev (fun d => { d with stnCur := some { ent := ⟨0x10002000, 0x12345, true⟩, data := (List.range 256).map (fun i => BitVec.ofNat 8 i), poison := [3] }, stnQ := [] }))) (5), { ent := ⟨0x10002000, 0x12345, true⟩, data := (List.range 256).map (fun i => BitVec.ofNat 8 i), poison := [3] }, 5, by decide +kernel⟩,
    ⟨stOf Dev.reset [] [(.offMgmt, 0, 0)], 0x100, by decide +kernel⟩,
    ⟨stOf Dev.reset [] [(.offMgmt, 0, 1)], 0x100, by decide +kernel⟩⟩

/-- The hypotheses of `Obligations.BootSequence`, clause by clause. -/
theorem witness_BootSequence :
    (∃ (s : State) (c : Instr) (i : Nat) (straps : BitVec 2) (ref : Bool) (up : Bool) (fac0 : Option FactoryRec) (fac1 : Option FactoryRec) (trained : BitVec 4) (fac : List (Int × Int × Int)) (cal : List (Option (List (Int × Int × Int)))), (c, i) ∈ [(Instr.bootB0 straps, 0), (.bootB1, 1), (.bootB2 ref up, 2), (.bootB3 fac0 fac1, 3), (.bootB4, 4), (.bootB5 trained, 5), (.bootB6 fac cal, 6), (.bootB7, 7), (.bootB8, 8), (.bootB9, 9), (.bootB10, 10), (.bootB11, 11)] ∧ s.dev.bootAt i = false)
    ∧ (∃ (s : State), s.dev.on MEM_STATUS_ZFILL 0 = true)
    ∧ (∃ (s : State), s.dev.bootAt 0 = true ∧ s.dev.on MEM_STATUS_ZFILL 0 = false)
    ∧ (∃ (s : State) (straps : BitVec 2) (n : Nat) (mode : Nat) (l : List Nat), mode = (if s.dev.flag .strapsTaken 0 then s.dev.get BOOT_STATUS_MODE 0 else straps.toNat) ∧ l = interruptedSteps s.logRecords n ∧ s.dev.bootAt 0 = true ∧ s.dev.on MEM_STATUS_ZFILL 0 = false ∧ s.dev.undo.all (fun x => !x.armed) = true ∧ s.dev.v .jAttempt 0 = (n : Nat))
    ∧ (∃ (s : State) (n : Nat), s.dev.bootAt 0 = true ∧ s.dev.on MEM_STATUS_ZFILL 0 = false ∧ s.dev.undo.all (fun x => !x.armed) = true ∧ s.dev.v .jAttempt 0 = (n : Nat) ∧ interruptedSteps s.logRecords n = [] ∧ s.dev.v .jFail 0 ≠ 3)
    ∧ (∃ (s : State), s.dev.bootAt 1 = true ∧ s.dev.fuse.lc = s.dev.fuse.wiped)
    ∧ (∃ (s : State), s.dev.bootAt 1 = true ∧ s.dev.fuse.lc ≠ s.dev.fuse.wiped)
    ∧ (∃ (s : State) (ref : Bool) (up : Bool) (l : Nat) (a : Bool) (b : Bool), a = (if s.dev.on BRM_CLK_SRC 0 != decide (l = 1) then up else ref) ∧ b = (if s.dev.on BRM_CLK_SRC 0 then ref else up) ∧ s.dev.bootAt 2 = true ∧ s.dev.v .bootLevel 0 = (l : Nat) ∧ l ≤ 1)
    ∧ (∃ (s : State) (r : List Byte) (bad : Bool), r = s.mem.readBytes cfgAddr 256 ∧ bad = (stonePoison s.mem (factoryAddr false) 0x1_0000 || stonePoison s.mem (factoryAddr true) 0x1_0000 || stonePoison s.mem cfgAddr 256) ∧ s.dev.bootAt 3 = true ∧ s.dev.v .bootLevel 0 = 0 ∧ s.dev.merge = [])
    ∧ (∃ (s : State) (l : Nat) (e : Option (Nat)) (f : Option (Nat)), e = imageFault s l ∧ f = imageFault s 1 ∧ s.dev.bootAt 4 = true ∧ s.dev.v .bootLevel 0 = (l : Nat) ∧ l ≤ 1 ∧ s.dev.merge = [])
    ∧ (∃ (s : State) (trained : BitVec 4) (l : Nat) (fit : Nat) (good : Bool), fit = s.dev.get MEM_STATUS_FITTED 0 ∧ good = (decide (l = 0) && (List.range 4).all (fun c => !(fit.testBit c) || trained.toNat.testBit c)) ∧ s.dev.bootAt 5 = true ∧ s.dev.v .bootLevel 0 = (l : Nat) ∧ l ≤ 1)
    ∧ (∃ (s : State) (l : Nat) (bad : Bool) (bad1 : Bool), bad = stonePoison s.mem (factoryAddr false) 0x1_0000 ∧ bad1 = (decide (l = 0) && stonePoison s.mem (pageAddr 0x200) 0x1_0000) ∧ s.dev.bootAt 6 = true ∧ s.dev.v .bootLevel 0 = (l : Nat) ∧ l ≤ 1 ∧ s.dev.merge = [])
    ∧ (∃ (s : State), s.dev.bootAt 7 = true ∧ s.dev.fuse.lc = 2 ∧ s.dev.v .bootLevel 0 < 2 ∧ s.dev.on SEED_STATUS_BUSY 0 = true)
    ∧ (∃ (s : State) (l : Nat), s.dev.bootAt 7 = true ∧ s.dev.fuse.lc = 2 ∧ s.dev.v .bootLevel 0 = (l : Nat) ∧ l < 2 ∧ s.dev.on SEED_STATUS_BUSY 0 = false ∧ s.dev.get SEED_STATUS_RESULT 0 = 1)
    ∧ (∃ (s : State) (code : Nat), code = (if s.dev.get SEED_STATUS_ERR 0 = 6 ∧ s.dev.flag .seedBad 0 then 3 else 4) ∧ s.dev.bootAt 7 = true ∧ s.dev.fuse.lc = 2 ∧ s.dev.v .bootLevel 0 = 0 ∧ s.dev.on SEED_STATUS_BUSY 0 = false ∧ s.dev.get SEED_STATUS_RESULT 0 ≠ 1 ∧ s.dev.merge = [])
    ∧ (∃ (s : State) (l : Nat) (own : Bool), own = decide (s.dev.fuse.lc = 2) ∧ s.dev.bootAt 7 = true ∧ s.dev.v .bootLevel 0 = (l : Nat) ∧ ((own = false ∨ 2 ≤ l ∨ l = 1 ∧ s.dev.on SEED_STATUS_BUSY 0 = false ∧ s.dev.get SEED_STATUS_RESULT 0 ≠ 1)))
    ∧ (∃ (s : State) (mode : Nat), mode = s.dev.get BOOT_STATUS_MODE 0 ∧ s.dev.bootAt 8 = true ∧ s.dev.v .bootLevel 0 = 0)
    ∧ (∃ (s : State) (mode : Nat), mode = s.dev.get BOOT_STATUS_MODE 0 ∧ s.dev.bootAt 9 = true ∧ s.dev.v .bootLevel 0 = 0 ∧ ((mode = 0 ∨ mode = 3 ∨ s.dev.brmActive 0 = true)))
    ∧ (∃ (s : State) (l : Nat) (mode : Nat), mode = s.dev.get BOOT_STATUS_MODE 0 ∧ s.dev.bootAt 9 = true ∧ s.dev.v .bootLevel 0 = (l : Nat) ∧ l ≤ 1 ∧ ((l = 1 ∨ mode ≠ 0 ∧ mode ≠ 3 ∧ s.dev.brmActive 0 = false)))
    ∧ (∃ (s : State), s.dev.bootAt 10 = true ∧ s.dev.v .bootLevel 0 = 0)
    ∧ (∃ (s : State) (e : Nat), s.dev.bootAt 11 = true ∧ s.dev.v .fwEntry 0 = (e : Nat))
    ∧ (∃ (s : State), s.dev.on BOOT_STATUS_STOPPED 0 = true)
    ∧ (∃ (s : State), s.dev.on BOOT_STATUS_STOPPED 0 = false)
    ∧ (∃ (s : State) (i : Nat), s.dev.bootAt i = true ∧ i < 12)
    ∧ (∃ (s : State) (i : Nat), s.dev.bootAt i = true ∧ 1 ≤ i ∧ i < 12)
    ∧ (∃ (s : State), s.dev.bootAt 0 = true)
    ∧ (∃ (s : State), ((∀ i < 12, s.dev.bootAt i = false)))
    ∧ (∃ (s : State) (u : Nat), s.dev.v .undoNext 0 = (u : Nat)) :=
   ⟨⟨stOf Dev.reset [] [(.bootNext, 0, 4)], .bootB5 0, 5, 1#2, true, true, none, none, 0, [(1, 2, 3)], [], by decide +kernel⟩,
    ⟨stOf Dev.reset [(MEM_STATUS_ZFILL, 0, 1)] [], by decide +kernel⟩,
    ⟨stOf Dev.reset [(MEM_STATUS_ZFILL, 0, 0), (BOOT_STATUS_STOPPED, 0, 0)] [(.bootNext, 0, 0), (.thmSt, 0, 1), (.lcCmd, 0, 0), (.offMgmt, 0, 0), (.jFail, 1, 0), (.jLevel, 1, 0), (.logPos, 0, 40), (.undoNext, 0, 1)], by decide +kernel⟩,
    ⟨(fun (n : Nat) => ((stOf Dev.reset [(MEM_STATUS_ZFILL, 0, 0), (BOOT_STATUS_STOPPED, 0, 0)] [(.jAttempt, 0, (n : Nat)), (.bootNext, 0, 0), (.thmSt, 0, 1), (.lcCmd, 0, 0), (.offMgmt, 0, 0), (.jFail, 1, 0), (.jLevel, 1, 0), (.logPos, 0, 40), (.undoNext, 0, 1)])).withDev (fun d => { d with undo := [] })) (3), 1#2, 3, _, _, rfl, rfl, by decide +kernel⟩,
    ⟨(fun (n : Nat) => ((stOf Dev.reset [(MEM_STATUS_ZFILL, 0, 0), (BOOT_STATUS_STOPPED, 0, 0)] [(.jAttempt, 0, (n : Nat)), (.bootNext, 0, 0), (.thmSt, 0, 1), (.lcCmd, 0, 0), (.offMgmt, 0, 0), (.jFail, 1, 0), (.jLevel, 1, 0), (.logPos, 0, 40), (.undoNext, 0, 1)])).withDev (fun d => { d with undo := [] })) (3), 3, by decide +kernel⟩,
    ⟨((stOf Dev.reset [(BOOT_STATUS_STOPPED, 0, 0)] [(.bootNext, 0, 1), (.thmSt, 0, 1), (.lcCmd, 0, 0), (.offMgmt, 0, 0), (.jFail, 2, 0), (.jLevel, 2, 0), (.logPos, 0, 40), (.undoNext, 0, 1)])).withDev (fun d => { d with fuse := { d.fuse with lc := 4, wiped := 4 } }), by decide +kernel⟩,
    ⟨((stOf Dev.reset [(BOOT_STATUS_STOPPED, 0, 0)] [(.bootNext, 0, 1), (.thmSt, 0, 1), (.lcCmd, 0, 0), (.offMgmt, 0, 0), (.jFail, 2, 0), (.jLevel, 2, 0), (.logPos, 0, 40), (.undoNext, 0, 1)])).withDev (fun d => { d with fuse := { d.fuse with lc := 3, wiped := 2 } }), by decide +kernel⟩,
    ⟨(fun (l : Nat) => stOf Dev.reset [(BOOT_STATUS_STOPPED, 0, 0)] [(.bootLevel, 0, (l : Nat)), (.bootNext, 0, 2), (.thmSt, 0, 1), (.lcCmd, 0, 0), (.offMgmt, 0, 0), (.jFail, 3, 0), (.jLevel, 3, 0), (.logPos, 0, 40), (.undoNext, 0, 1)]) (0), false, true, 0, _, _, rfl, rfl, by decide +kernel⟩,
    ⟨stOf Dev.reset [(BOOT_STATUS_STOPPED, 0, 0)] [(.bootLevel, 0, 0), (.bootNext, 0, 3), (.thmSt, 0, 1), (.lcCmd, 0, 0), (.offMgmt, 0, 0), (.jFail, 4, 0), (.jLevel, 4, 0), (.logPos, 0, 40), (.undoNext, 0, 1)], _, _, rfl, rfl, by decide +kernel⟩,
    ⟨(fun (l : Nat) => stOf Dev.reset [(BOOT_STATUS_STOPPED, 0, 0)] [(.bootLevel, 0, (l : Nat)), (.bootNext, 0, 4), (.thmSt, 0, 1), (.lcCmd, 0, 0), (.offMgmt, 0, 0), (.jFail, 5, 0), (.jLevel, 5, 0), (.logPos, 0, 40), (.undoNext, 0, 1)]) (0), 0, _, _, rfl, rfl, by decide +kernel⟩,
    ⟨(fun (l : Nat) => stOf Dev.reset [(BOOT_STATUS_STOPPED, 0, 0)] [(.bootLevel, 0, (l : Nat)), (.bootNext, 0, 5), (.thmSt, 0, 1), (.lcCmd, 0, 0), (.offMgmt, 0, 0), (.jFail, 6, 0), (.jLevel, 6, 0), (.logPos, 0, 40), (.undoNext, 0, 1)]) (0), 15#4, 0, _, _, rfl, rfl, by decide +kernel⟩,
    ⟨(fun (l : Nat) => stOf Dev.reset [(BOOT_STATUS_STOPPED, 0, 0), (SEED_STATUS_BUSY, 0, 0)] [(.bootLevel, 0, (l : Nat)), (.bootNext, 0, 6), (.thmSt, 0, 1), (.lcCmd, 0, 0), (.offMgmt, 0, 0), (.jFail, 7, 0), (.jLevel, 7, 0), (.logPos, 0, 40), (.undoNext, 0, 1)]) (0), 0, _, _, rfl, rfl, by decide +kernel⟩,
    ⟨((stOf Dev.reset [(SEED_STATUS_BUSY, 0, 1), (BOOT_STATUS_STOPPED, 0, 0)] [(.bootNext, 0, 7), (.thmSt, 0, 1), (.lcCmd, 0, 0), (.offMgmt, 0, 0), (.jFail, 8, 0), (.jLevel, 8, 0), (.logPos, 0, 40), (.undoNext, 0, 1)])).withDev (fun d => { d with fuse := { d.fuse with lc := 2, wiped := 2 } }), by decide +kernel⟩,
    ⟨(fun (l : Nat) => ((stOf Dev.reset [(SEED_STATUS_BUSY, 0, 0), (SEED_STATUS_RESULT, 0, 1), (BOOT_STATUS_STOPPED, 0, 0)] [(.bootLevel, 0, (l : Nat)), (.bootNext, 0, 7), (.thmSt, 0, 1), (.lcCmd, 0, 0), (.offMgmt, 0, 0), (.jFail, 8, 0), (.jLevel, 8, 0), (.logPos, 0, 40), (.undoNext, 0, 1)])).withDev (fun d => { d with fuse := { d.fuse with lc := 2, wiped := 2 } })) (1), 1, by decide +kernel⟩,
    ⟨((stOf Dev.reset [(SEED_STATUS_BUSY, 0, 0), (BOOT_STATUS_STOPPED, 0, 0)] [(.bootLevel, 0, 0), (.bootNext, 0, 7), (.thmSt, 0, 1), (.lcCmd, 0, 0), (.offMgmt, 0, 0), (.jFail, 8, 0), (.jLevel, 8, 0), (.logPos, 0, 40), (.undoNext, 0, 1)])).withDev (fun d => { d with fuse := { d.fuse with lc := 2, wiped := 2 } }), _, rfl, by decide +kernel⟩,
    ⟨(fun (l : Nat) => ((stOf Dev.reset [(BOOT_STATUS_STOPPED, 0, 0), (SEED_STATUS_BUSY, 0, 0), (SEED_STATUS_RESULT, 0, 2)] [(.bootLevel, 0, (l : Nat)), (.bootNext, 0, 7), (.thmSt, 0, 1), (.lcCmd, 0, 0), (.offMgmt, 0, 0), (.jFail, 8, 0), (.jLevel, 8, 0), (.logPos, 0, 40), (.undoNext, 0, 1)])).withDev (fun d => { d with fuse := { d.fuse with lc := 2, wiped := 2 } })) (1), 1, _, rfl, by decide +kernel⟩,
    ⟨stOf Dev.reset [(BOOT_STATUS_STOPPED, 0, 0)] [(.bootLevel, 0, 0), (.bootNext, 0, 8), (.thmSt, 0, 1), (.lcCmd, 0, 0), (.offMgmt, 0, 0), (.jFail, 9, 0), (.jLevel, 9, 0), (.logPos, 0, 40), (.undoNext, 0, 1)], _, rfl, by decide +kernel⟩,
    ⟨stOf Dev.reset [(BOOT_STATUS_STOPPED, 0, 0), (BOOT_STATUS_MODE, 0, 0)] [(.bootLevel, 0, 0), (.bootNext, 0, 9), (.thmSt, 0, 1), (.lcCmd, 0, 0), (.offMgmt, 0, 0), (.jFail, 10, 0), (.jLevel, 10, 0), (.logPos, 0, 40), (.undoNext, 0, 1)], _, rfl, by decide +kernel⟩,
    ⟨(fun (l : Nat) => stOf Dev.reset [(BOOT_STATUS_STOPPED, 0, 0)] [(.bootLevel, 0, (l : Nat)), (.bootNext, 0, 9), (.thmSt, 0, 1), (.lcCmd, 0, 0), (.offMgmt, 0, 0), (.jFail, 10, 0), (.jLevel, 10, 0), (.logPos, 0, 40), (.undoNext, 0, 1)]) (1), 1, _, rfl, by decide +kernel⟩,
    ⟨stOf Dev.reset [(BOOT_STATUS_STOPPED, 0, 0)] [(.bootLevel, 0, 0), (.bootNext, 0, 10), (.thmSt, 0, 1), (.lcCmd, 0, 0), (.offMgmt, 0, 0), (.jFail, 11, 0), (.jLevel, 11, 0), (.logPos, 0, 40), (.undoNext, 0, 1)], by decide +kernel⟩,
    ⟨(fun (e : Nat) => stOf Dev.reset [(BOOT_STATUS_STOPPED, 0, 0)] [(.fwEntry, 0, (e : Nat)), (.bootNext, 0, 11), (.thmSt, 0, 1), (.lcCmd, 0, 0), (.offMgmt, 0, 0), (.jFail, 12, 0), (.jLevel, 12, 0), (.logPos, 0, 40), (.undoNext, 0, 1)]) (0x1234), 0x1234, by decide +kernel⟩,
    ⟨stOf Dev.reset [(BOOT_STATUS_STOPPED, 0, 1)] [], by decide +kernel⟩,
    ⟨stOf Dev.reset [(BOOT_STATUS_STOPPED, 0, 0)] [], by decide +kernel⟩,
    ⟨stOf Dev.reset [(BOOT_STATUS_STOPPED, 0, 0)] [(.bootNext, 0, 5), (.thmSt, 0, 1), (.lcCmd, 0, 0), (.offMgmt, 0, 0), (.jFail, 6, 0), (.jLevel, 6, 0), (.logPos, 0, 40), (.undoNext, 0, 1)], 5, by decide +kernel⟩,
    ⟨stOf Dev.reset [(BOOT_STATUS_STOPPED, 0, 0)] [(.bootNext, 0, 5), (.thmSt, 0, 1), (.lcCmd, 0, 0), (.offMgmt, 0, 0), (.jFail, 6, 0), (.jLevel, 6, 0), (.logPos, 0, 40), (.undoNext, 0, 1)], 5, by decide +kernel⟩,
    ⟨stOf Dev.reset [(BOOT_STATUS_STOPPED, 0, 0)] [(.bootNext, 0, 0), (.thmSt, 0, 1), (.lcCmd, 0, 0), (.offMgmt, 0, 0), (.jFail, 1, 0), (.jLevel, 1, 0), (.logPos, 0, 40), (.undoNext, 0, 1)], by decide +kernel⟩,
    ⟨stOf Dev.reset [(BOOT_STATUS_STOPPED, 0, 1)] [], by decide +kernel⟩,
    ⟨(fun (u : Nat) => stOf Dev.reset [] [(.undoNext, 0, (u : Nat))]) (1), 1, by decide +kernel⟩⟩

/-- The hypotheses of `Obligations.SecCommands`, clause by clause. -/
theorem witness_SecCommands :
    (∃ (s : State) (mr : BitVec 3) (c : Instr) (op : Nat), (c, op) ∈ [(Instr.secVerifyFw mr, 1), (.secVerifyApp mr, 2), (.secExtend mr, 3), (.secChallenge mr, 4), (.secSvnBump mr, 6)] ∧ s.dev.on SEC_STATUS_CMD_BUSY 0 = true)
    ∧ (∃ (s : State) (mr : BitVec 3) (c : Instr) (op : Nat), (c, op) ∈ [(Instr.secVerifyFw mr, 1), (.secVerifyApp mr, 2), (.secExtend mr, 3)] ∧ s.dev.on SEC_STATUS_CMD_BUSY 0 = false ∧ s.dev.secSrcOk 64 = false ∧ ((op ≠ 3 ∨ 5 ≤ mr.toNat)))
    ∧ (∃ (s : State) (mr : BitVec 3) (x : State × List Byte × Nat), x = (s.put ((s.dev.set SEC_CMD_OP 0 1).set SEC_CMD_MR 0 mr.toNat)).secImage ∧ s.dev.on SEC_STATUS_CMD_BUSY 0 = false ∧ s.dev.secSrcOk 64 = true)
    ∧ (∃ (s : State) (mr : BitVec 3) (x : State × List Byte × Nat), x = (s.put ((s.dev.set SEC_CMD_OP 0 2).set SEC_CMD_MR 0 mr.toNat)).secImage ∧ s.dev.on SEC_STATUS_CMD_BUSY 0 = false ∧ s.dev.secSrcOk 64 = true)
    ∧ (∃ (s : State) (a : Nat) (room : Nat) (m : List Byte) (e : Nat), a = s.dev.secSrc ∧ room = sramBase + 0x80_0000 - a ∧ m = s.mem.readBytes a (clampN 64 (min room 0x40_0000) (field (s.mem.readBytes a 64) 8 4)) ∧ e = s.dev.imageErr true m room ∧ s.dev.on SEC_STATUS_CMD_BUSY 0 = false ∧ s.dev.secSrcOk 64 = true ∧ s.dev.merge = [] ∧ s.dev.on MEM_STATUS_ZFILL 0 = false ∧ ((∀ i < 64, s.dev.v .mspare i = 0)))
    ∧ (∃ (s : State) (a : Nat) (room : Nat) (m : List Byte) (e : Nat), a = s.dev.secSrc ∧ room = sramBase + 0x80_0000 - a ∧ m = s.mem.readBytes a (clampN 64 (min room 0x40_0000) (field (s.mem.readBytes a 64) 8 4)) ∧ e = s.dev.imageErr false m room ∧ s.dev.on SEC_STATUS_CMD_BUSY 0 = false ∧ s.dev.secSrcOk 64 = true ∧ s.dev.merge = [] ∧ s.dev.on MEM_STATUS_ZFILL 0 = false ∧ ((∀ i < 64, s.dev.v .mspare i = 0)))
    ∧ (∃ (s : State) (mr : BitVec 3), s.dev.on SEC_STATUS_CMD_BUSY 0 = false ∧ mr.toNat < 5)
    ∧ (∃ (s : State) (mr : BitVec 3) (x : State × List Byte × Bool), x = (s.put ((s.dev.set SEC_CMD_OP 0 3).set SEC_CMD_MR 0 mr.toNat)).fetch s.dev.secSrc 64 ∧ s.dev.on SEC_STATUS_CMD_BUSY 0 = false ∧ 5 ≤ mr.toNat ∧ s.dev.secSrcOk 64 = true)
    ∧ (∃ (s : State) (mr : BitVec 3) (a : Nat), a = s.dev.secSrc ∧ s.dev.on SEC_STATUS_CMD_BUSY 0 = false ∧ 5 ≤ mr.toNat ∧ s.dev.secSrcOk 64 = true ∧ s.dev.merge = [] ∧ s.dev.on MEM_STATUS_ZFILL 0 = false ∧ ((∀ i < 64, s.dev.v .mspare i = 0)))
    ∧ (∃ (s : State), s.dev.on SEC_STATUS_CMD_BUSY 0 = false)
    ∧ (∃ (s : State), s.dev.on SEC_STATUS_CMD_BUSY 0 = false)
    ∧ (∃ (s : State) (op : Nat) (k : Nat), k = (if op = 2 then 4 else (s.dev.v .secMr 0).toNat) ∧ s.dev.on SEC_STATUS_CMD_BUSY 0 = true ∧ s.dev.v .lcCmd 0 = 0 ∧ s.dev.v .secOp 0 = (op : Nat) ∧ ((op = 2 ∨ op = 3)) ∧ s.dev.v .secRes 0 = 0 ∧ k < 8)
    ∧ (∃ (s : State), s.dev.on SEC_STATUS_CMD_BUSY 0 = true ∧ s.dev.v .lcCmd 0 = 0 ∧ s.dev.v .secOp 0 = 4 ∧ s.dev.v .secRes 0 = 0)
    ∧ (∃ (s : State), s.dev.on SEC_STATUS_CMD_BUSY 0 = true ∧ s.dev.v .lcCmd 0 = 0 ∧ s.dev.v .secOp 0 = 6 ∧ s.dev.v .secRes 0 = 0)
    ∧ (∃ (s : State) (e : Nat) (op : Nat), s.dev.on SEC_STATUS_CMD_BUSY 0 = true ∧ s.dev.v .lcCmd 0 = 0 ∧ s.dev.v .secRes 0 = (e : Nat) ∧ s.dev.v .secOp 0 = (op : Nat) ∧ ((e ≠ 0 ∨ op < 2 ∨ 6 < op)))
    ∧ (∃ (s : State) (f : Fuses), f = (if s.dev.get SEC_LC_STATUS_CMD 0 = 3 then { s.dev.fuse with owner1 := some (shake256 s.dev.secDig 32) } else if s.dev.v .secMr 0 = 0 then { s.dev.fuse with rev0 := true } else { s.dev.fuse with rev1 := true }) ∧ s.dev.on SEC_STATUS_CMD_BUSY 0 = true ∧ s.dev.v .lcCmd 0 = 0 ∧ s.dev.v .secOp 0 = 5 ∧ s.dev.v .secRes 0 = 0)
    ∧ (∃ (s : State), ((s.dev.on SEC_STATUS_CMD_BUSY 0 = false ∨ s.dev.v .lcCmd 0 ≠ 0)))
    ∧ (∃ (s : State), s.dev.attErr ≠ 0)
    ∧ (∃ (s : State), s.dev.attErr = 0)
    ∧ (∃ (s : State) (y : List Byte), y = s.dev.attRep ++ exactly 49856 (Config.identitySign s.dev.identityBytes s.dev.attRep (Config.freeValue s.dev.fresh)) ∧ s.dev.on SEC_STATUS_ATT_BUSY 0 = true)
    ∧ (∃ (s : State) (a : Nat), s.dev.on SEC_STATUS_ATT_BUSY 0 = true ∧ s.dev.v .attDst 0 = (a : Nat) ∧ a % 64 = 0 ∧ sramBase ≤ a ∧ a + 50640 ≤ shadowBase ∧ s.dev.attRep.length = 784 ∧ s.dev.on MEM_STATUS_ZFILL 0 = false ∧ ((∀ i < 64, s.dev.v .mspare i = 0)))
    ∧ (∃ (s : State), s.dev.on SEC_STATUS_ATT_BUSY 0 = false) :=
   ⟨⟨stOf Dev.reset [(SEC_STATUS_CMD_BUSY, 0, 1)] [], 3, .secChallenge 3, 4, by decide +kernel⟩,
    ⟨stOf Dev.reset [(SEC_STATUS_CMD_BUSY, 0, 0), (SEC_SRC_LO_ADDR, 0, 0x10001004)] [], 3, .secVerifyApp 3, 2, by decide +kernel⟩,
    ⟨(fun (s : State) => { s with mem := s.mem.writeBytes 0x10001000 [1,2,3] }) (((stOf Dev.reset [(SEC_STATUS_CMD_BUSY, 0, 0), (SEC_SRC_LO_ADDR, 0, 0x10001000), (SEC_SRC_HI_ADDR, 0, 0), (MEM_STATUS_ZFILL, 0, 0), (TOP_ID_SREV, 0, 16)] [])).withDev (fun d => { d with vars := d.vars.filter (fun x => x.1.1 != Var.mspare.ctorIdx) })), 7#3, _, rfl, by decide +kernel⟩,
    ⟨(fun (s : State) => { s with mem := s.mem.writeBytes 0x10001000 [1,2,3] }) (((stOf Dev.reset [(SEC_STATUS_CMD_BUSY, 0, 0), (SEC_SRC_LO_ADDR, 0, 0x10001000), (SEC_SRC_HI_ADDR, 0, 0), (MEM_STATUS_ZFILL, 0, 0), (TOP_ID_SREV, 0, 16)] [])).withDev (fun d => { d with vars := d.vars.filter (fun x => x.1.1 != Var.mspare.ctorIdx) })), 7#3, _, rfl, by decide +kernel⟩,
    ⟨(fun (s : State) => { s with mem := s.mem.writeBytes 0x10001000 [1,2,3] }) (((stOf Dev.reset [(SEC_STATUS_CMD_BUSY, 0, 0), (MEM_STATUS_ZFILL, 0, 0), (SEC_SRC_LO_ADDR, 0, 0x10001000), (SEC_SRC_HI_ADDR, 0, 0), (MEM_STATUS_ZFILL, 0, 0), (TOP_ID_SREV, 0, 16)] [])).withDev (fun d => { d with vars := d.vars.filter (fun x => x.1.1 != Var.mspare.ctorIdx) })), _, _, _, _, rfl, rfl, rfl, rfl, by decide +kernel⟩,
    ⟨(fun (s : State) => { s with mem := s.mem.writeBytes 0x10001000 [1,2,3] }) (((stOf Dev.reset [(SEC_STATUS_CMD_BUSY, 0, 0), (MEM_STATUS_ZFILL, 0, 0), (SEC_SRC_LO_ADDR, 0, 0x10001000), (SEC_SRC_HI_ADDR, 0, 0), (MEM_STATUS_ZFILL, 0, 0), (TOP_ID_SREV, 0, 16)] [])).withDev (fun d => { d with vars := d.vars.filter (fun x => x.1.1 != Var.mspare.ctorIdx) })), _, _, _, _, rfl, rfl, rfl, rfl, by decide +kernel⟩,
    ⟨stOf Dev.reset [(SEC_STATUS_CMD_BUSY, 0, 0)] [], 4, by decide +kernel⟩,
    ⟨(fun (s : State) => { s with mem := s.mem.writeBytes 0x10001000 [1,2,3] }) (((stOf Dev.reset [(SEC_STATUS_CMD_BUSY, 0, 0), (SEC_SRC_LO_ADDR, 0, 0x10001000), (SEC_SRC_HI_ADDR, 0, 0), (MEM_STATUS_ZFILL, 0, 0), (TOP_ID_SREV, 0, 16)] [])).withDev (fun d => { d with vars := d.vars.filter (fun x => x.1.1 != Var.mspare.ctorIdx) })), 6, _, rfl, by decide +kernel⟩,
    ⟨(fun (s : State) => { s with mem := s.mem.writeBytes 0x10001000 [1,2,3] }) (((stOf Dev.reset [(SEC_STATUS_CMD_BUSY, 0, 0), (MEM_STATUS_ZFILL, 0, 0), (SEC_SRC_LO_ADDR, 0, 0x10001000), (SEC_SRC_HI_ADDR, 0, 0), (MEM_STATUS_ZFILL, 0, 0), (TOP_ID_SREV, 0, 16)] [])).withDev (fun d => { d with vars := d.vars.filter (fun x => x.1.1 != Var.mspare.ctorIdx) })), 6, _, rfl, by decide +kernel⟩,
    ⟨stOf Dev.reset [(SEC_STATUS_CMD_BUSY, 0, 0)] [], by decide +kernel⟩,
    ⟨stOf Dev.reset [(SEC_STATUS_CMD_BUSY, 0, 0)] [], by decide +kernel⟩,
    ⟨(fun (op : Nat) => ((stOf Dev.reset [(SEC_STATUS_CMD_BUSY, 0, 1)] [(.lcCmd, 0, 0), (.secOp, 0, (op : Nat)), (.secRes, 0, 0), (.secMr, 0, 5)])).withDev (fun d => { d with secDig := [7,8] })) (3), 3, _, rfl, by decide +kernel⟩,
    ⟨stOf Dev.reset [(SEC_STATUS_CMD_BUSY, 0, 1)] [(.lcCmd, 0, 0), (.secOp, 0, 4), (.secRes, 0, 0)], by decide +kernel⟩,
    ⟨stOf Dev.reset [(SEC_STATUS_CMD_BUSY, 0, 1)] [(.lcCmd, 0, 0), (.secOp, 0, 6), (.secRes, 0, 0)], by decide +kernel⟩,
    ⟨(fun (e : Nat) => fun (op : Nat) => stOf Dev.reset [(SEC_STATUS_CMD_BUSY, 0, 1)] [(.lcCmd, 0, 0), (.secRes, 0, (e : Nat)), (.secOp, 0, (op : Nat))]) (6) (3), 6, 3, by decide +kernel⟩,
    ⟨((stOf Dev.reset [(SEC_STATUS_CMD_BUSY, 0, 1)] [(.lcCmd, 0, 0), (.secOp, 0, 5), (.secRes, 0, 0)])).withDev (fun d => { d with secDig := [7,8] }), _, rfl, by decide +kernel⟩,
    ⟨stOf Dev.reset [] [(.lcCmd, 0, 1)], by decide +kernel⟩,
    ⟨stOf Dev.reset [(SEC_ATT_DST_LO_ADDR, 0, 0x10002000), (SEC_ATT_DST_HI_ADDR, 0, 0), (SEC_STATUS_ATT_BUSY, 0, 0)] [], by decide +kernel⟩,
    ⟨((stOf Dev.reset [(SEC_ATT_DST_LO_ADDR, 0, 0x10002000), (SEC_ATT_DST_HI_ADDR, 0, 0), (SEC_STATUS_ATT_BUSY, 0, 0)] [])).withDev (fun d => { d with fuse := { d.fuse with lc := 2 } }), by decide +kernel⟩,
    ⟨(((stOf Dev.reset [(SEC_STATUS_ATT_BUSY, 0, 1)] [(.attDst, 0, 0x10002000)])).withDev (fun d => { d with vars := d.vars.filter (fun x => x.1.1 != Var.mspare.ctorIdx) })).withDev (fun d => { d with attRep := (List.range 784).map (fun i => BitVec.ofNat 8 i) }), _, rfl, by decide +kernel⟩,
    ⟨(fun (a : Nat) => (((stOf Dev.reset [(SEC_STATUS_ATT_BUSY, 0, 1), (MEM_STATUS_ZFILL, 0, 0)] [(.attDst, 0, (a : Nat))])).withDev (fun d => { d with vars := d.vars.filter (fun x => x.1.1 != Var.mspare.ctorIdx) })).withDev (fun d => { d with attRep := (List.range 784).map (fun i => BitVec.ofNat 8 i) })) (0x10002000), 0x10002000, by decide +kernel⟩,
    ⟨stOf Dev.reset [(SEC_STATUS_ATT_BUSY, 0, 0)] [], by decide +kernel⟩⟩

/-- The hypotheses of `Obligations.LifeCycle`, clause by clause. -/
theorem witness_LifeCycle :
    (∃ (s : State) (e : Nat), e = (if s.dev.on SEC_STATUS_CMD_BUSY 0 || s.dev.on SEED_STATUS_BUSY 0 then 9 else 8) ∧ ((s.dev.on SEC_STATUS_CMD_BUSY 0 = true ∨ s.dev.on SEED_STATUS_BUSY 0 = true ∨ s.dev.secSrcOk 30000 = false)))
    ∧ (∃ (s : State) (mr : BitVec 3) (x : State × List Byte × Bool) (e : Nat) (cmd : Nat), x = (s.put ((s.dev.set SEC_CMD_OP 0 5).set SEC_CMD_MR 0 mr.toNat)).fetch s.dev.secSrc 30000 ∧ e = x.1.dev.tokenErr x.2.1 ∧ cmd = field x.2.1 6 1 ∧ s.dev.on SEC_STATUS_CMD_BUSY 0 = false ∧ s.dev.on SEED_STATUS_BUSY 0 = false ∧ s.dev.secSrcOk 30000 = true)
    ∧ (∃ (s : State) (m : List Byte) (e : Nat), m = s.mem.readBytes s.dev.secSrc 30000 ∧ e = s.dev.tokenErr m ∧ s.dev.on SEC_STATUS_CMD_BUSY 0 = false ∧ s.dev.on SEED_STATUS_BUSY 0 = false ∧ s.dev.secSrcOk 30000 = true ∧ s.dev.merge = [] ∧ s.dev.on MEM_STATUS_ZFILL 0 = false ∧ ((∀ i < 64, s.dev.v .mspare i = 0)) ∧ e ≠ 0)
    ∧ (∃ (s : State), s.dev.v .lcCmd 0 ≠ 0)
    ∧ (∃ (s : State), s.dev.v .lcCmd 0 ≠ 0 ∧ s.dev.stnCur = none)
    ∧ (∃ (s : State), s.dev.v .lcCmd 0 = 0) :=
   ⟨⟨stOf Dev.reset [(SEC_STATUS_CMD_BUSY, 0, 1)] [], _, rfl, by decide +kernel⟩,
    ⟨((stOf Dev.reset [(SEC_STATUS_CMD_BUSY, 0, 0), (SEED_STATUS_BUSY, 0, 0), (SEC_SRC_LO_ADDR, 0, 0x10001000), (SEC_SRC_HI_ADDR, 0, 0), (MEM_STATUS_ZFILL, 0, 0), (TOP_ID_SREV, 0, 16)] [])).withDev (fun d => { d with vars := d.vars.filter (fun x => x.1.1 != Var.mspare.ctorIdx) }), 7#3, _, _, _, rfl, rfl, rfl, by decide +kernel⟩,
    ⟨((stOf Dev.reset [(SEC_STATUS_CMD_BUSY, 0, 0), (SEED_STATUS_BUSY, 0, 0), (MEM_STATUS_ZFILL, 0, 0), (SEC_SRC_LO_ADDR, 0, 0x10001000), (SEC_SRC_HI_ADDR, 0, 0), (MEM_STATUS_ZFILL, 0, 0), (TOP_ID_SREV, 0, 16)] [])).withDev (fun d => { d with vars := d.vars.filter (fun x => x.1.1 != Var.mspare.ctorIdx) }), _, _, rfl, rfl, by decide +kernel⟩,
    ⟨stOf Dev.reset [] [(.lcCmd, 0, 5)], by decide +kernel⟩,
    ⟨stOf Dev.reset [] [(.lcCmd, 0, 5)], by decide +kernel⟩,
    ⟨stOf Dev.reset [] [(.lcCmd, 0, 0)], by decide +kernel⟩⟩

/-- The hypotheses of `Obligations.PowerEntry`, clause by clause. -/
theorem witness_PowerEntry :
    (∃ (s : State), s.dev.on PWR_CTRL_SLEEP_EN 0 = true ∧ s.dev.entryFree = true ∧ s.dev.v .pwrState 0 = 0 ∧ s.dev.sleepOk true = true)
    ∧ (∃ (s : State), ((s.dev.on PWR_CTRL_SLEEP_EN 0 = false ∨ s.dev.entryFree = false ∨ s.dev.v .pwrState 0 ≠ 0 ∨ s.dev.sleepOk true = false)))
    ∧ (∃ (s : State), s.dev.v .pwrState 0 = 1 ∧ s.dev.entryFree = true ∧ s.dev.get PWR_DEEP_T_S 0 ≠ 0)
    ∧ (∃ (s : State), ((s.dev.v .pwrState 0 ≠ 1 ∨ s.dev.entryFree = false ∨ s.dev.get PWR_DEEP_T_S 0 = 0)))
    ∧ (∃ (s : State), s.dev.get PWR_STATUS_STATE 0 = 0 ∧ s.dev.get PWR_IDLE_T_US 0 ≠ 0 ∧ ((∀ c < 4, s.dev.flag .coreHeld c = false)))
    ∧ (∃ (s : State), ((s.dev.get PWR_STATUS_STATE 0 ≠ 0 ∨ s.dev.get PWR_IDLE_T_US 0 = 0 ∨ (List.range 4).any (fun c => s.dev.flag .coreHeld c) = true)))
    ∧ (∃ (s : State), ((s.dev.v .pwrTarget 0 = 0 ∨ s.dev.stnCur.isSome = true ∨ s.dev.stnQ ≠ [])))
    ∧ (∃ (s : State), s.dev.v .pwrTarget 0 = 1 ∧ s.dev.v .pwrState 0 = 0 ∧ s.dev.stnCur = none ∧ s.dev.stnQ = [])
    ∧ (∃ (s : State) (n : Nat), s.dev.v .pwrTarget 0 = (n : Nat) ∧ ((n = 2 ∨ n = 3)) ∧ s.dev.v .pwrState 0 = 0 ∧ s.dev.stnCur = none ∧ s.dev.stnQ = [])
    ∧ (∃ (s : State) (n : Nat), s.dev.v .pwrTarget 0 = (n : Nat) ∧ ((n = 2 ∨ n = 3)) ∧ s.dev.v .pwrState 0 = 1 ∧ s.dev.stnCur = none ∧ s.dev.stnQ = []) :=
   ⟨⟨((stOf Dev.reset [(PWR_CTRL_SLEEP_EN, 0, 1)] [(.pwrState, 0, 0), (.pwrTarget, 0, 0), (.wakeStep, 0, 0), (.thmSt, 0, 1), (.pwrState, 0, 0)])).withDev (fun d => { d with ownReqs := [], regs := d.regs.filter (fun x => !(([Reg.BN_LINK_CTRL, .LL_ADC_STATUS, .PCI_STATUS, .CAP_STATUS, .MEM_FILL_STATUS, .SEED_STATUS, .SEC_STATUS] : List Reg).any (fun r => r.ctorIdx == x.1.1 / 32))) }), by decide +kernel⟩,
    ⟨stOf Dev.reset [(PWR_CTRL_SLEEP_EN, 0, 0)] [], by decide +kernel⟩,
    ⟨stOf Dev.reset [(PWR_DEEP_T_S, 0, 7)] [(.pwrState, 0, 1), (.pwrTarget, 0, 0), (.wakeStep, 0, 0), (.thmSt, 0, 1)], by decide +kernel⟩,
    ⟨stOf Dev.reset [(PWR_DEEP_T_S, 0, 0)] [], by decide +kernel⟩,
    ⟨stOf Dev.reset [(PWR_STATUS_STATE, 0, 0), (PWR_IDLE_T_US, 0, 7)] [(.coreHeld, 0, 0), (.coreHeld, 1, 0), (.coreHeld, 2, 0), (.coreHeld, 3, 0)], by decide +kernel⟩,
    ⟨stOf Dev.reset [(PWR_IDLE_T_US, 0, 0)] [], by decide +kernel⟩,
    ⟨((stOf Dev.reset [] [])).withDev (fun d => { d with stnQ := [⟨1, 2, true⟩] }), by decide +kernel⟩,
    ⟨stOf Dev.reset [] [(.pwrTarget, 0, 1), (.pwrState, 0, 0)], by decide +kernel⟩,
    ⟨(fun (n : Nat) => stOf Dev.reset [] [(.pwrTarget, 0, (n : Nat)), (.pwrState, 0, 0)]) (3), 3, by decide +kernel⟩,
    ⟨(fun (n : Nat) => stOf Dev.reset [] [(.pwrTarget, 0, (n : Nat)), (.pwrState, 0, 1)]) (3), 3, by decide +kernel⟩⟩

/-- The hypotheses of `Obligations.PowerWake`, clause by clause. -/
theorem witness_PowerWake :
    (∃ (s : State), s.dev.on RIND_WAKE_WAKE_EN 0 = true)
    ∧ (∃ (s : State), s.dev.get RIND_WAKE_WAKE_T 0 ≠ 0)
    ∧ (∃ (s : State) (p : Fin 3), s.dev.on BRM_PCTRL_EN p = true)
    ∧ (∃ (s : State), s.dev.on BRM_FCTRL_ROOT 0 = true)
    ∧ (∃ (s : State) (k : Fin 8) (p : Fin 3) (en : Bool) (c : Instr) (src : Nat), (c, src) ∈ [(Instr.wakePin k, 1), (.rindWakeTimer k, 2), (.brambleWakeBeacon p k, 3), (.pcieDetectWake k, 4), (.pwrGoWake en k, 5)] ∧ s.dev.v .pwrTarget 0 ≠ 0 ∧ ((s.dev.v .pwrFrom 0 = 2 ∨ k.val < 5)))
    ∧ (∃ (s : State) (k : Fin 8) (p : Fin 3) (en : Bool) (c : Instr) (src : Nat), (c, src) ∈ [(Instr.wakePin k, 1), (.rindWakeTimer k, 2), (.brambleWakeBeacon p k, 3), (.pcieDetectWake k, 4), (.pwrGoWake en k, 5)] ∧ s.dev.v .pwrTarget 0 ≠ 0)
    ∧ (∃ (s : State) (k : Fin 8) (p : Fin 3) (en : Bool) (c : Instr) (src : Nat), (c, src) ∈ [(Instr.wakePin k, 1), (.rindWakeTimer k, 2), (.brambleWakeBeacon p k, 3), (.pcieDetectWake k, 4), (.pwrGoWake en k, 5)] ∧ s.dev.v .pwrTarget 0 = 0)
    ∧ (∃ (s : State), s.dev.on RIND_WAKE_WAKE_EN 0 = false)
    ∧ (∃ (s : State), s.dev.get RIND_WAKE_WAKE_T 0 = 0)
    ∧ (∃ (s : State) (p : Fin 3), s.dev.on BRM_PCTRL_EN p = false)
    ∧ (∃ (s : State), s.dev.on BRM_FCTRL_ROOT 0 = false)
    ∧ (∃ (s : State) (k : Fin 8) (p : Fin 3) (c : Instr) (src : Nat), (c, src) ∈ [(Instr.wakePin k, 1), (.rindWakeTimer k, 2), (.brambleWakeBeacon p k, 3), (.pcieDetectWake k, 4)] ∧ s.dev.v .pwrTarget 0 = 0 ∧ canWake s.dev src = false)
    ∧ (∃ (s : State), s.dev.v .pwrState 0 = 1 ∧ s.dev.v .wakeStep 0 = 0)
    ∧ (∃ (s : State), ((s.dev.v .pwrState 0 ≠ 1 ∨ s.dev.v .wakeStep 0 ≠ 0)))
    ∧ (∃ (s : State) (w : Nat), s.dev.v .wakeStep 0 = (w + 1 : Nat) ∧ w < 6)
    ∧ (∃ (s : State), 7 ≤ s.dev.v .wakeStep 0 ∧ s.dev.v .pwrState 0 = 1)
    ∧ (∃ (s : State), 7 ≤ s.dev.v .wakeStep 0 ∧ s.dev.v .pwrState 0 ≠ 1)
    ∧ (∃ (s : State) (c : Instr), c ∈ [Instr.wakeStepReady, .wakeStepTimeout] ∧ s.dev.v .wakeStep 0 = 0)
    ∧ (∃ (s : State) (w : Nat) (alt : Bool), s.dev.v .wakeStep 0 = (w + 1 : Nat) ∧ w < 7 ∧ s.dev.flag .wakeRetry 0 = false ∧ s.dev.flag .wakeAlt 0 = alt)
    ∧ (∃ (s : State) (w : Nat), s.dev.v .wakeStep 0 = (w + 1 : Nat) ∧ w < 7 ∧ s.dev.flag .wakeRetry 0 = true)
    ∧ (∃ (s : State), s.dev.flag .runClk 0 = true)
    ∧ (∃ (s : State), s.dev.flag .runClk 0 = false)
    ∧ (∃ (s : State), s.dev.v .pwrState 0 < 2)
    ∧ (∃ (s : State), s.dev.v .pwrState 0 < 2 ∧ s.dev.stnCur = none)
    ∧ (∃ (s : State), 2 ≤ s.dev.v .pwrState 0)
    ∧ (∃ (s : State), s.dev.v .pwrState 0 = 4)
    ∧ (∃ (s : State) (src : Nat), s.dev.v .pwrState 0 ≠ 4 ∧ s.dev.v .wakeHeld 0 = (src : Nat) ∧ src ≠ 0 ∧ src < 8)
    ∧ (∃ (s : State), s.dev.v .pwrState 0 ≠ 4 ∧ s.dev.v .wakeHeld 0 = 0) :=
   ⟨⟨stOf Dev.reset [(RIND_WAKE_WAKE_EN, 0, 1)] [(.pwrTarget, 0, 0), (.wakeStep, 0, 0), (.pwrState, 0, 2)], by decide +kernel⟩,
    ⟨stOf Dev.reset [(RIND_WAKE_WAKE_T, 0, 4), (RIND_WAKE_WAKE_EN, 0, 1), (BRM_PCTRL_EN, 1, 1), (BRM_FCTRL_ROOT, 0, 1)] [(.pwrTarget, 0, 0), (.wakeStep, 0, 0), (.pwrState, 0, 1)], by decide +kernel⟩,
    ⟨(fun (p : Fin 3) => stOf Dev.reset [(BRM_PCTRL_EN, p, 1)] []) (2), 2, by decide +kernel⟩,
    ⟨stOf Dev.reset [(BRM_FCTRL_ROOT, 0, 1)] [(.pwrTarget, 0, 1)], by decide +kernel⟩,
    ⟨stOf Dev.reset [(RIND_WAKE_WAKE_T, 0, 4), (RIND_WAKE_WAKE_EN, 0, 1), (BRM_PCTRL_EN, 1, 1), (BRM_FCTRL_ROOT, 0, 1)] [(.pwrTarget, 0, 1)], 3, 1, true, .brambleWakeBeacon 1 3, 3, by decide +kernel⟩,
    ⟨stOf Dev.reset [(RIND_WAKE_WAKE_T, 0, 4), (RIND_WAKE_WAKE_EN, 0, 1), (BRM_PCTRL_EN, 1, 1), (BRM_FCTRL_ROOT, 0, 1)] [(.pwrTarget, 0, 1)], 6, 1, true, .brambleWakeBeacon 1 6, 3, by decide +kernel⟩,
    ⟨stOf Dev.reset [(RIND_WAKE_WAKE_T, 0, 4), (RIND_WAKE_WAKE_EN, 0, 1), (BRM_PCTRL_EN, 1, 1), (BRM_FCTRL_ROOT, 0, 1)] [(.pwrTarget, 0, 0), (.wakeStep, 0, 0), (.pwrState, 0, 1)], 3, 2, true, .wakePin 3, 1, by decide +kernel⟩,
    ⟨stOf Dev.reset [(RIND_WAKE_WAKE_EN, 0, 0)] [], by decide +kernel⟩,
    ⟨stOf Dev.reset [(RIND_WAKE_WAKE_T, 0, 0)] [], by decide +kernel⟩,
    ⟨(fun (p : Fin 3) => stOf Dev.reset [(BRM_PCTRL_EN, p, 0)] []) (2), 2, by decide +kernel⟩,
    ⟨stOf Dev.reset [(BRM_FCTRL_ROOT, 0, 0)] [], by decide +kernel⟩,
    ⟨stOf Dev.reset [(RIND_WAKE_WAKE_T, 0, 4), (RIND_WAKE_WAKE_EN, 0, 1), (BRM_PCTRL_EN, 1, 1), (BRM_FCTRL_ROOT, 0, 1)] [(.pwrTarget, 0, 0), (.wakeStep, 0, 2)], 3, 2, .wakePin 3, 1, by decide +kernel⟩,
    ⟨stOf Dev.reset [] [(.pwrState, 0, 1), (.wakeStep, 0, 0)], by decide +kernel⟩,
    ⟨stOf Dev.reset [] [(.wakeStep, 0, 2)], by decide +kernel⟩,
    ⟨(fun (w : Nat) => stOf Dev.reset [] [(.wakeStep, 0, (w + 1 : Nat))]) (3), 3, by decide +kernel⟩,
    ⟨stOf Dev.reset [] [(.wakeStep, 0, 7), (.pwrState, 0, 1), (.wakeStep, 0, 7)], by decide +kernel⟩,
    ⟨stOf Dev.reset [] [(.wakeStep, 0, 7), (.wakeStep, 0, 7), (.pwrState, 0, 2)], by decide +kernel⟩,
    ⟨stOf Dev.reset [] [(.wakeStep, 0, 0)], .wakeStepTimeout, by decide +kernel⟩,
    ⟨(fun (w : Nat) => stOf Dev.reset [] [(.wakeStep, 0, (w + 1 : Nat)), (.wakeRetry, 0, 0)]) (3), 3, false, by decide +kernel⟩,
    ⟨(fun (w : Nat) => stOf Dev.reset [] [(.wakeStep, 0, (w + 1 : Nat)), (.wakeRetry, 0, 1)]) (3), 3, by decide +kernel⟩,
    ⟨stOf Dev.reset [] [(.runClk, 0, 1)], by decide +kernel⟩,
    ⟨stOf Dev.reset [] [(.runClk, 0, 0)], by decide +kernel⟩,
    ⟨((stOf Dev.reset [] [(.pwrState, 0, 1), (.undoNext, 0, 4)])).withDev (fun d => { d with stnCur := some { ent := ⟨0x10002000, 0x12345, true⟩, data := (List.range 256).map (fun i => BitVec.ofNat 8 i), poison := [3] } }), by decide +kernel⟩,
    ⟨stOf Dev.reset [] [(.pwrState, 0, 1)], by decide +kernel⟩,
    ⟨stOf Dev.reset [] [(.pwrState, 0, 2), (.pwrState, 0, 3)], by decide +kernel⟩,
    ⟨stOf Dev.reset [] [(.pwrState, 0, 4)], by decide +kernel⟩,
    ⟨(fun (src : Nat) => stOf Dev.reset [] [(.wakeHeld, 0, (src : Nat)), (.pwrState, 0, 3)]) (1), 1, by decide +kernel⟩,
    ⟨stOf Dev.reset [] [(.wakeHeld, 0, 0), (.pwrState, 0, 3)], by decide +kernel⟩⟩

/-- The hypotheses of `Obligations.SleepSample`, clause by clause. -/
theorem witness_SleepSample :
    (∃ (s : State), s.dev.flag .offMgmt 0 = false ∧ s.dev.v .pwrState 0 = 1)
    ∧ (∃ (s : State), s.dev.v .pwrTarget 0 = 1 ∧ s.dev.v .pwrState 0 = 0 ∧ s.dev.stnCur = none ∧ s.dev.stnQ = [])
    ∧ (∃ (s : State), s.dev.flag .offMgmt 0 = true) :=
   ⟨⟨stOf Dev.reset [(THM_TH_WARN, 0, 95), (THM_TH_THROT, 0, 105), (THM_TH_SHUT, 0, 115), (THM_TH_HYST, 0, 4), (THM_CTRL_PROF_MIN, 0, 0), (THM_XCHK_HARD_OFS, 0, 5), (THM_XCHK_DIFF, 0, 10)] [(.offMgmt, 0, 0), (.pwrState, 0, 1)], by decide +kernel⟩,
    ⟨stOf Dev.reset [] [(.pwrTarget, 0, 1), (.pwrState, 0, 0)], by decide +kernel⟩,
    ⟨stOf Dev.reset [] [(.offMgmt, 0, 1)], by decide +kernel⟩⟩

/-- The hypotheses of `Obligations.ThermalControl`, clause by clause. -/
theorem witness_ThermalControl :
    (∃ (s : State), s.dev.flag .offMgmt 0 = false ∧ ((s.dev.v .pwrState 0 = 1 ∨ s.dev.v .thmSt 0 = 0 ∨ s.dev.v .thmSt 0 = 1 ∨ s.dev.v .thmSt 0 = 2 ∨ s.dev.v .thmSt 0 = 4)))
    ∧ (∃ (s : State) (v : Int), s.dev.flag .offMgmt 0 = false ∧ s.dev.v .pwrState 0 = 0 ∧ s.dev.v .thmSt 0 = 1 ∧ s.dev.get THM_EXCL_EXCL 0 = 0 ∧ s.dev.flag .tsSeen 0 = false ∧ -320 ≤ v ∧ v ≤ 1200 ∧ v < s.dev.thmTh 2 ∧ s.dev.thmTh 0 < s.dev.thmTh 1 ∧ s.dev.thmTh 1 < s.dev.thmTh 2)
    ∧ (∃ (s : State), s.dev.flag .offMgmt 0 = false ∧ s.dev.v .pwrState 0 ≠ 1 ∧ ((s.dev.v .thmSt 0 = 0 ∨ s.dev.v .thmSt 0 = 4)))
    ∧ (∃ (s : State), s.dev.flag .offMgmt 0 = false ∧ s.dev.v .pwrState 0 ≠ 1 ∧ s.dev.v .thmSt 0 = 1)
    ∧ (∃ (s : State), s.dev.flag .offMgmt 0 = false ∧ s.dev.v .pwrState 0 ≠ 1 ∧ s.dev.v .thmSt 0 = 2)
    ∧ (∃ (s : State) (v : Int) (n : Nat), s.dev.flag .offMgmt 0 = false ∧ s.dev.v .pwrState 0 = 0 ∧ s.dev.v .thmSt 0 = 3 ∧ s.dev.get THM_EXCL_EXCL 0 = 0 ∧ s.dev.flag .tsSeen 0 = false ∧ -320 ≤ v ∧ v ≤ 1200 ∧ s.dev.v .thmCool 0 = (n : Nat))
    ∧ (∃ (s : State) (late : Bool), s.dev.v .thmSt 0 = 2 ∧ ((late = true ∨ s.dev.thmIdle = true)))
    ∧ (∃ (s : State) (late : Bool), ((s.dev.v .thmSt 0 ≠ 2 ∨ late = false ∧ s.dev.thmIdle = false)))
    ∧ (∃ (s : State) (p : Nat) (q : Nat), p = s.dev.get SEED_PROF_ACTIVE 0 ∧ q = (if s.dev.flag .thmLvl 1 then max (min 3 (p + 1)) s.dev.thmFloor else max (p - 1) s.dev.thmFloor) ∧ ((s.dev.flag .thmLvl 1 = true ∨ s.dev.thmMax < s.dev.thmTh 1 - s.dev.thmHyst)))
    ∧ (∃ (s : State), s.dev.flag .thmLvl 1 = false ∧ s.dev.thmTh 1 - s.dev.thmHyst ≤ s.dev.thmMax)
    ∧ (∃ (s : State) (w : Word) (a : Nat) (b : Nat) (c : Nat), a = w.toNat % 256 ∧ b = w.toNat / 2 ^ 8 % 256 ∧ c = (if s.dev.rwlLocked THM_TH_SHUT then s.dev.get THM_TH_SHUT 0 else w.toNat / 2 ^ 16 % 256) ∧ a < b ∧ b < clampN 110 125 c)
    ∧ (∃ (s : State) (w : Word) (a : Nat) (b : Nat) (c : Nat), a = w.toNat % 256 ∧ b = w.toNat / 2 ^ 8 % 256 ∧ c = (if s.dev.rwlLocked THM_TH_SHUT then s.dev.get THM_TH_SHUT 0 else w.toNat / 2 ^ 16 % 256) ∧ ((b ≤ a ∨ clampN 110 125 c ≤ b))) :=
   ⟨⟨stOf Dev.reset [(THM_TH_WARN, 0, 95), (THM_TH_THROT, 0, 105), (THM_TH_SHUT, 0, 115), (THM_TH_HYST, 0, 4), (THM_CTRL_PROF_MIN, 0, 0), (THM_XCHK_HARD_OFS, 0, 5), (THM_XCHK_DIFF, 0, 10)] [(.offMgmt, 0, 0), (.thmSt, 0, 1)], by decide +kernel⟩,
    ⟨stOf Dev.reset [(THM_EXCL_EXCL, 0, 0), (THM_TH_WARN, 0, 95), (THM_TH_THROT, 0, 105), (THM_TH_SHUT, 0, 115), (THM_TH_HYST, 0, 4), (THM_CTRL_PROF_MIN, 0, 0), (THM_XCHK_HARD_OFS, 0, 5), (THM_XCHK_DIFF, 0, 10)] [(.offMgmt, 0, 0), (.pwrState, 0, 0), (.thmSt, 0, 1), (.tsSeen, 0, 0)], 845, by decide +kernel⟩,
    ⟨stOf Dev.reset [(THM_TH_WARN, 0, 95), (THM_TH_THROT, 0, 105), (THM_TH_SHUT, 0, 115), (THM_TH_HYST, 0, 4), (THM_CTRL_PROF_MIN, 0, 0), (THM_XCHK_HARD_OFS, 0, 5), (THM_XCHK_DIFF, 0, 10)] [(.offMgmt, 0, 0), (.thmSt, 0, 4), (.tsXf, 0, 0), (.tsXf, 1, 0), (.tsXf, 2, 0), (.tsXf, 3, 0), (.tsXf, 4, 0), (.tsXf, 5, 0), (.tsXf, 6, 0), (.tsXf, 7, 0), (.tsXf, 8, 0), (.tsXf, 9, 0), (.tsXf, 10, 0), (.tsXf, 11, 0)], by decide +kernel⟩,
    ⟨stOf Dev.reset [(THM_TH_WARN, 0, 95), (THM_TH_THROT, 0, 105), (THM_TH_SHUT, 0, 115), (THM_TH_HYST, 0, 4), (THM_CTRL_PROF_MIN, 0, 0), (THM_XCHK_HARD_OFS, 0, 5), (THM_XCHK_DIFF, 0, 10)] [(.offMgmt, 0, 0), (.thmSt, 0, 1)], by decide +kernel⟩,
    ⟨stOf Dev.reset [(THM_TH_WARN, 0, 95), (THM_TH_THROT, 0, 105), (THM_TH_SHUT, 0, 115), (THM_TH_HYST, 0, 4), (THM_CTRL_PROF_MIN, 0, 0), (THM_XCHK_HARD_OFS, 0, 5), (THM_XCHK_DIFF, 0, 10)] [(.offMgmt, 0, 0), (.thmSt, 0, 2)], by decide +kernel⟩,
    ⟨(fun (n : Nat) => stOf Dev.reset [(THM_EXCL_EXCL, 0, 0), (THM_TH_WARN, 0, 95), (THM_TH_THROT, 0, 105), (THM_TH_SHUT, 0, 115), (THM_TH_HYST, 0, 4), (THM_CTRL_PROF_MIN, 0, 0), (THM_XCHK_HARD_OFS, 0, 5), (THM_XCHK_DIFF, 0, 10), (THM_CTRL_AUTO_RESTART, 0, 1)] [(.offMgmt, 0, 0), (.pwrState, 0, 0), (.thmSt, 0, 3), (.tsSeen, 0, 0), (.thmCool, 0, (n : Nat))]) (63), 300, 63, by decide +kernel⟩,
    ⟨stOf Dev.reset [] [(.thmSt, 0, 2)], true, by decide +kernel⟩,
    ⟨stOf Dev.reset [] [(.thmSt, 0, 1)], true, by decide +kernel⟩,
    ⟨stOf Dev.reset [(THM_TH_WARN, 0, 95), (THM_TH_THROT, 0, 105), (THM_TH_SHUT, 0, 115), (THM_TH_HYST, 0, 4), (THM_CTRL_PROF_MIN, 0, 0), (THM_XCHK_HARD_OFS, 0, 5), (THM_XCHK_DIFF, 0, 10)] [(.thmLvl, 1, 1)], _, _, rfl, rfl, by decide +kernel⟩,
    ⟨stOf Dev.reset [(THM_TH_WARN, 0, 95), (THM_TH_THROT, 0, 105), (THM_TH_SHUT, 0, 115), (THM_TH_HYST, 0, 4), (THM_CTRL_PROF_MIN, 0, 0), (THM_XCHK_HARD_OFS, 0, 5), (THM_XCHK_DIFF, 0, 10), (THM_MAX_TEMP, 0, 835)] [(.thmLvl, 1, 0)], by decide +kernel⟩,
    ⟨stOf Dev.reset [(TOP_LOCK_LOCK, 0, 1)] [], BitVec.ofNat 32 (95 + 2^8*105 + 2^16*115 + 2^24*4), _, _, _, rfl, rfl, rfl, by decide +kernel⟩,
    ⟨stOf Dev.reset [] [], BitVec.ofNat 32 (105 + 2^8*105 + 2^16*115 + 2^24*4), _, _, _, rfl, rfl, rfl, by decide +kernel⟩⟩

end Sys2Proof.Tests
end

section
/-! SUPPORT. The end of a command sends messages of interrupts and of the link layer, and nothing else. -/

namespace Sys2Proof.Machine

/-- What the end of a command may send: the messages of an interrupt and the link layer's answers (R300, R324, R334, R339). -/
def Out.ofEnd : Out → Bool
  | .msix .. | .packet .. | .linkBlock .. | .ibi => true
  | _ => false

/-- What `e` has sent and `d` had not is what the end of a command may send. -/
structure EndSends (d e : Dev) : Prop where
  mem : ∀ o ∈ e.out, o ∈ d.out ∨ o.ofEnd = true

namespace EndSends

theorem of_out_eq {d e : Dev} (h : e.out = d.out) : EndSends d e := ⟨fun _ m => .inl (h ▸ m)⟩

theorem refl (d : Dev) : EndSends d d := of_out_eq rfl

theorem trans {a b c : Dev} (h : EndSends a b) (k : EndSends b c) : EndSends a c :=
  ⟨fun o m => (k.mem o m).elim (h.mem o) .inr⟩

/-- Only what had been sent matters of the state before. -/
theorem of_base {d b e : Dev} (h : EndSends b e) (k : b.out = d.out) : EndSends d e := (of_out_eq k).trans h

theorem emit (d : Dev) (o : Out) (h : o.ofEnd = true) : EndSends d (d.emit o) :=
  ⟨fun _ m => (List.mem_append.mp m).imp id (fun m => by rwa [List.mem_singleton.mp m])⟩

theorem foldl {α : Type} (l : List α) (g : Dev → α → Dev) (h : ∀ x a, EndSends x (g x a)) (d : Dev) : EndSends d (l.foldl g d) := by
  induction l generalizing d with
  | nil => exact refl d
  | cons a l ih => exact (h d a).trans (ih _)

/-! ### Messages -/

theorem linkOut (d : Dev) (p : Nat) (k : Bool) (b : List Byte) : EndSends d (d.linkOut p k b) := by
  refine of_base (emit _ _ ?_) rfl
  cases k <;> rfl

theorem grant (d : Dev) (p c h u : Nat) : EndSends d (d.grant p c h u) := of_base (linkOut ..) rfl

theorem giveBack (d : Dev) (p : Nat) (k : Pkt) : EndSends d (d.giveBack p k) := by
  unfold Dev.giveBack
  split
  · exact grant ..
  · exact refl d

theorem sendNow (d : Dev) (p : Nat) (k : Pkt) : EndSends d (d.sendNow p k) := of_base (linkOut ..) rfl

theorem pumpOne (p : Nat) (acc : Dev × List TxEnt × List Nat) (t : TxEnt) : EndSends acc.1 (Dev.pumpOne p acc t).1 := by
  unfold Dev.pumpOne
  simp only
  split
  · split
    · exact (sendNow _ _ _).trans (giveBack _ _ _)
    · exact sendNow _ _ _
  · exact refl _

theorem pumpFold (p : Nat) (l : List TxEnt) (acc : Dev × List TxEnt × List Nat) : EndSends acc.1 (l.foldl (Dev.pumpOne p) acc).1 := by
  induction l generalizing acc with
  | nil => exact refl _
  | cons t l ih => exact (pumpOne p acc t).trans (ih _)

theorem pump (d : Dev) (p : Nat) : EndSends d (d.pump p) := by
  unfold Dev.pump
  split
  · exact (pumpFold p d.txWait (d, [], [])).trans (of_out_eq rfl)
  · exact refl d

theorem sendPort (d : Dev) (p : Nat) (i : Option Nat) (k : Pkt) : EndSends d (d.sendPort p i k) := of_base (pump ..) rfl

theorem sendTo (d : Dev) (v : Nat) (k : Pkt) : EndSends d (d.sendTo v k) := by
  unfold Dev.sendTo
  split
  · exact sendPort ..
  · exact refl d

theorem msixSend (d : Dev) (v : Nat) : EndSends d (d.msixSend v) := by
  unfold Dev.msixSend
  split
  · exact of_out_eq rfl
  · exact emit d _ rfl

theorem rootIrq (d : Dev) (a b : Nat) : EndSends d (d.rootIrq a b) := by
  unfold Dev.rootIrq
  exact of_base (msixSend ..) (by split <;> rfl)

theorem fleetIrq (d : Dev) (n vec : Nat) : EndSends d (d.fleetIrq n vec) := by
  unfold Dev.fleetIrq
  split
  · exact rootIrq ..
  · exact sendTo ..

theorem deliver (d : Dev) (n : Nat) (e : Dev) : EndSends e (d.deliver n e) := by
  have msi (c : Bool) : EndSends e (if c then e.msixSend (e.get IRQ_SRC_CFG_VEC n) else e) := by
    cases c
    · exact refl e
    · exact msixSend ..
  unfold Dev.deliver
  simp only
  split
  · exact (msi _).trans (fleetIrq _ _ _)
  · exact msi _

/-! ### Monitors, and the end as a whole -/

theorem prfAdd (d : Dev) (u k n : Nat) : EndSends d (d.prfAdd u k n) := by
  have hset (v : Nat) : EndSends d (d.prfSet u k v) := of_out_eq rfl
  have hbit (e : Dev) (j : Nat) : EndSends e (e.setBit PRF_OVF_OVF u j true) := of_out_eq rfl
  unfold Dev.prfAdd
  simp only
  split
  · exact (hset _).trans (hbit _ _)
  · exact hset _

theorem prfSettle (d e : Dev) : EndSends e (prfSettle d e) := by
  unfold Sys2Proof.Machine.prfSettle
  split
  · exact refl e
  · refine foldl _ _ (fun x a => ?_) e
    simp only
    split
    · exact refl x
    · split
      · exact refl x
      · exact prfAdd ..

/-- The end of a command sends only interrupt messages and what the link layer sends with them. -/
theorem settle (d e : Dev) : EndSends e (settle d e) := by
  have first (f : Dev) (h : EndSends e f) (l : List Nat) : EndSends e (l.foldl (fun x n => d.deliver n x) f) :=
    h.trans (foldl l _ (fun x n => deliver d n x) f)
  have last (f : Dev) (h : EndSends e f) (c : Bool) : EndSends e (if c then d.deliver 31 f else f) := by
    cases c
    · exact h
    · exact h.trans (deliver ..)
  have pin (f : Dev) (h : EndSends e f) (c : Bool) : EndSends e (if c then f.emit .ibi else f) := by
    cases c
    · exact h
    · exact h.trans (emit _ _ rfl)
  have cleared (l : List TrgSet) : EndSends e { e with trg := l } := of_out_eq rfl
  unfold Sys2Proof.Machine.settle
  exact pin _ (last _ (first _ ((cleared _).trans (prfSettle ..)) _) _) _

end EndSends

/-- What the end of a command never sends had been sent before it. -/
theorem mem_out_of_mem_settle_out (d e : Dev) (o : Out) (h : o.ofEnd = false) (m : o ∈ (settle d e).out) : o ∈ e.out :=
  ((EndSends.settle d e).mem o m).resolve_right (by simp [h])

end Sys2Proof.Machine
end

section
/-! SUPPORT. Frames of commands made of several parts (`State.put`), and what a write of a whole register does before its own effect. -/

namespace Sys2Proof.Machine

variable {r x : Key → Prop} {ps : List Part} {s t : State}

theorem Frame.refl (r x : Key → Prop) (ps : List Part) (s : State) : Frame r x ps s s := ⟨rfl, rfl, Keeps.refl ..⟩

theorem Frame.trans {u : State} (h : Frame r x ps s t) (k : Frame r x ps t u) : Frame r x ps s u := by
  obtain ⟨hmem, hpend, hdev⟩ := h
  obtain ⟨kmem, kpend, kdev⟩ := k
  exact ⟨kmem.trans hmem, kpend.trans hpend, hdev.trans kdev⟩

/-- Whatever a frame allows, it allows that nothing changes. -/
theorem Still.frame (h : Still s t) : Frame r x ps s t := by
  obtain ⟨hmem, hpend, hdev⟩ := h
  exact ⟨hmem, hpend, hdev.mono (fun _ => False.elim) (fun _ => False.elim)⟩

/-- A part of a command has the frame of what it does before its end. -/
theorem frame_put {e : Dev} (h : Keeps r x ps s.dev e) : Frame r x ps s (s.put e) := frame_settle h

/-- A part of a command that does nothing is still. -/
theorem still_put_dev (s : State) : Still s (s.put s.dev) := frame_put (Keeps.refl ..)

/-- A field that no monitor and no interrupt message owns reads after a part of a command as before its end. -/
theorem get_put (s : State) (e : Dev) (f : Fld) (n : Nat) (h : calmField f) : (s.put e).dev.get f n = e.get f n := settle_get s.dev e f n h

/-- A still step keeps every field but those of the monitors and the fleet's interrupts. -/
theorem Still.get_eq (h : Still s t) (f : Fld) (n : Nat) (c : calmField f) : t.dev.get f n = s.dev.get f n := by
  obtain ⟨-, -, hdev⟩ := h
  exact hdev.regs f n c id

theorem Calm.coreEvent (d : Dev) (c ev k : Nat) (user : Bool) : Calm d (d.coreEvent c ev k user) := by
  unfold Dev.coreEvent
  split
  · exact Calm.refl d
  · exact Calm.foldl _ _ (fun x i => Calm.prfAdd x c (i % 8) k) d

/-- A core's monitor counts an access and leaves everything else. -/
theorem still_corePrf (s t : State) (init a n : Nat) (user : Bool) : Still t (s.corePrf t init a n user) := by
  unfold State.corePrf
  split
  · exact Frame.refl ..
  · exact frame_put ((Calm.coreEvent t.dev ..).trans (Calm.coreEvent ..))

/-- The registers lie below the memories (R288). -/
theorem lt_sramBase_of_region_regs {a : Nat} (h : region a = .regs) : a < sramBase := by
  refine Decidable.byContradiction (fun hge => ?_)
  have h3 : ¬ a < 0x300_0000 := fun hlt => hge (Nat.lt_trans hlt (by decide))
  have h1 : ¬ a < 0x100_0000 := fun hlt => h3 (Nat.lt_trans hlt (by decide))
  have h0 : ¬ a < 0x11_0000 := fun hlt => h1 (Nat.lt_trans hlt (by decide))
  unfold region at h
  simp only [h0, h1, h3, hge, if_false] at h
  iterate 9
    split at h
    · cases h
  cases h

/-- An initiator that is no core, or a core outside user mode, takes no user-mode fault (R287). -/
theorem userFault_eq_false (d : Dev) {init : Nat} (a : Nat) (write : Bool) {env : WrEnv} (h : 4 ≤ init ∨ env.user = false) :
    d.userFault init a write env = false := by
  unfold Dev.userFault
  rcases h with h | h
  · simp [Nat.not_lt.mpr h]
  · simp [h]

/-- A write of a whole register of a block that is on and not held in reset stores its plain fields, then acts as the register's rules say. -/
theorem exec_registerWrite_word {a init : Nat} {reg : Reg} {n : Nat} {env : WrEnv} (x : Nat) (hf : regFind a = some (reg, n))
    (hr : region a = .regs) (ha : a % 4 = 0) (ho : s.dev.isOff a = false) (hh : s.dev.heldAt a = none)
    (hu : s.dev.userFault init a true env = false) :
    exec (.registerWrite a 4 x init env) s = .next
      (s.corePrf ((s.put (s.dev.fieldsPut reg n (x % 2 ^ 32))).regAct s.dev reg n (x % 2 ^ 32) false env) init a 4 env.user) := by
  show execRegisterWrite a 4 x init env s = _
  simp [execRegisterWrite, State.halves, State.writeOne, State.regWrite, State.word32, lt_sramBase_of_region_regs hr, hf, hr, ha, ho, hh, hu]

/-- A register all of whose fields have rules of their own stores nothing as R8 says. -/
theorem fieldsPut_eq_self (d : Dev) (reg : Reg) (n x : Nat) (h : ∀ f ∈ fieldsOf reg, ownWrite f = true) : d.fieldsPut reg n x = d := by
  have hnil : (fieldsOf reg).filter (fun f => !(ownWrite f)) = [] := List.filter_eq_nil_iff.mpr (fun f m => by simp [h f m])
  rw [Dev.fieldsPut, hnil]
  rfl

end Sys2Proof.Machine
end

section
/-! The optical-engine port: a START that is refused or dropped (R70). -/

namespace Sys2Proof.Machine

/-- The fields of SPI_OE_STATUS belong to no monitor and no interrupt message. -/
theorem calmField_of_spiOeStatus {f : Fld} (h : f.reg = .SPI_OE_STATUS) (l : f.lo < 32) : calmField f := by
  unfold calmField
  rw [h]
  exact ⟨by decide, by decide, by decide, by decide, l⟩

/-! ### The fields of SPI_OE_CTRL after a write -/

/-- A write of SPI_OE_CTRL's fields stays within that register. -/
theorem Keeps.speCtrl {r x : Key → Prop} {ps : List Part} {d e : Dev} (h : Keeps r x ps d e) (w : Nat)
    (hr : ∀ k, regsIn [.SPI_OE_CTRL] k → r k) : Keeps r x ps d (e.speCtrl w) := by
  have own (f : Fld) (m : f.reg.ctorIdx ∈ [Reg.SPI_OE_CTRL].map Reg.ctorIdx) (l : f.lo < 32) : r (fkey f 0) := hr _ (regsIn_fkey _ f 0 m l)
  unfold Dev.speCtrl
  iterate 8 refine Keeps.set ?_ _ _ _ (own _ (by decide) (by decide))
  exact h

theorem get_speCtrl_txlen (d : Dev) (w : Nat) : (d.speCtrl w).get SPI_OE_CTRL_TXLEN 0 = w / 2 ^ 16 % 128 := by
  unfold Dev.speCtrl
  rw [Dev.get_set_field _ _ _ _ _ _ (by decide), Dev.get_set_same]
  rfl

theorem get_speCtrl_rxlen (d : Dev) (w : Nat) : (d.speCtrl w).get SPI_OE_CTRL_RXLEN 0 = w / 2 ^ 24 % 128 := Dev.get_set_same ..

theorem on_speCtrl_duplex (d : Dev) (w : Nat) : (d.speCtrl w).on SPI_OE_CTRL_DUPLEX 0 = decide (w / 2 ^ 10 % 2 = 1) := by
  have hget : (d.speCtrl w).get SPI_OE_CTRL_DUPLEX 0 = w / 2 ^ 10 % 2 := by
    unfold Dev.speCtrl
    rw [Dev.get_set_field _ _ _ _ _ _ (by decide), Dev.get_set_field _ _ _ _ _ _ (by decide), Dev.get_set_same]
    rfl
  rw [Dev.on, hget]
  rcases Nat.mod_two_eq_zero_or_one (w / 2 ^ 10) with h | h <;> rw [h] <;> rfl

/-- The words whose START is refused: a length above 64, or no byte to move (R70). -/
theorem speBad_speCtrl_iff (d : Dev) (w : Nat) : (d.speCtrl w).speBad = true ↔
    64 < w / 2 ^ 16 % 128 ∨ 64 < w / 2 ^ 24 % 128 ∨ (w / 2 ^ 10 % 2 = 0 ∧ w / 2 ^ 16 % 128 + w / 2 ^ 24 % 128 = 0)
      ∨ (w / 2 ^ 10 % 2 = 1 ∧ w / 2 ^ 16 % 128 = 0) := by
  unfold Dev.speBad
  rw [get_speCtrl_txlen, get_speCtrl_rxlen, on_speCtrl_duplex]
  rcases Nat.mod_two_eq_zero_or_one (w / 2 ^ 10) with h | h <;> rw [h] <;> simp [or_assoc]

/-! ### A START or a write while a transaction runs -/

/-- The state in which a START, or a write of SPI_OE_CTRL or SPI_OE_TXBUF, was dropped because of a running transaction. -/
def State.speBusy (s : State) : State := s.put (s.dev.set SPI_OE_STATUS_ERR 0 1)

theorem get_err_speBusy (s : State) : s.speBusy.dev.get SPI_OE_STATUS_ERR 0 = 1 := by
  rw [State.speBusy, get_put _ _ _ _ (calmField_of_spiOeStatus rfl (by decide)), Dev.get_set_same]
  rfl

theorem frame_speBusy (s : State) : Frame (fieldsAt [(SPI_OE_STATUS_ERR, 0)]) noKey [] s s.speBusy :=
  frame_put ((Keeps.refl ..).set _ _ _ (List.mem_singleton_self _))

theorem exec_spiOeStart_busy {s : State} (ctrl : Word) (hb : s.dev.on SPI_OE_STATUS_BUSY 0 = true) :
    exec (.spiOeStart ctrl) s = .next s.speBusy := by
  show execSpiOeStart ctrl s = _
  rw [execSpiOeStart, hb]
  rfl

/-- Neither SPI_OE_CTRL nor SPI_OE_TXBUF has a field that a write stores without regard to BUSY. -/
theorem fieldsPut_spiOe (d : Dev) {reg : Reg} (n x : Nat) (h : reg = .SPI_OE_TXBUF ∨ reg = .SPI_OE_CTRL) : d.fieldsPut reg n x = d := by
  refine fieldsPut_eq_self d reg n x ?_
  rcases h with rfl | rfl <;> decide

/-- A write of SPI_OE_TXBUF or SPI_OE_CTRL, with START or without, is dropped while a transaction runs. -/
theorem regAct_spiOe_busy {s : State} (old : Dev) {reg : Reg} (n x : Nat) (up : Bool) (env : WrEnv)
    (h : reg = .SPI_OE_TXBUF ∨ reg = .SPI_OE_CTRL) (hb : s.dev.on SPI_OE_STATUS_BUSY 0 = true) :
    s.regAct old reg n x up env = s.speBusy := by
  rcases h with rfl | rfl
  · simp only [State.regAct, hb, if_true]
    rfl
  · simp only [State.regAct, hb, if_true]
    split
    · show after (exec (.spiOeStart _) s) s = _
      rw [exec_spiOeStart_busy _ hb]
      rfl
    · rfl

theorem completes_spiOeStart_busy (s : State) (ctrl : Word) (hb : s.dev.on SPI_OE_STATUS_BUSY 0 = true) :
    Completes (.spiOeStart ctrl) s fun t =>
      t.dev.get SPI_OE_STATUS_ERR 0 = 1 ∧ Frame (fieldsAt [(SPI_OE_STATUS_ERR, 0)]) noKey [] s t :=
  ⟨s.speBusy, exec_spiOeStart_busy ctrl hb, get_err_speBusy s, frame_speBusy s⟩

theorem completes_registerWrite_spiOe_busy (s : State) (init a x n : Nat) (reg : Reg) (env : WrEnv)
    (hb : s.dev.on SPI_OE_STATUS_BUSY 0 = true) (hf : regFind a = some (reg, n)) (hr : region a = .regs) (ha : a % 4 = 0)
    (hreg : reg = .SPI_OE_TXBUF ∨ reg = .SPI_OE_CTRL) (ho : s.dev.isOff a = false) (hh : s.dev.heldAt a = none)
    (hi : 4 ≤ init ∨ env.user = false) :
    Completes (.registerWrite a 4 x init env) s fun t =>
      t.dev.get SPI_OE_STATUS_ERR 0 = 1 ∧ Frame (fieldsAt [(SPI_OE_STATUS_ERR, 0)]) noKey [] s t := by
  have hput : Still s (s.put s.dev) := still_put_dev s
  have hb' : (s.put s.dev).dev.on SPI_OE_STATUS_BUSY 0 = true := by
    rw [Dev.on, hput.get_eq _ _ (calmField_of_spiOeStatus rfl (by decide))]
    exact hb
  have hprf := still_corePrf s (s.put s.dev).speBusy init a 4 env.user
  refine ⟨_, exec_registerWrite_word x hf hr ha ho hh (userFault_eq_false s.dev a true hi), ?_⟩
  rw [fieldsPut_spiOe s.dev n _ hreg, regAct_spiOe_busy s.dev n _ false env hreg hb']
  constructor
  · rw [hprf.get_eq _ _ (calmField_of_spiOeStatus rfl (by decide)), get_err_speBusy]
  · exact (hput.frame.trans (frame_speBusy _)).trans hprf.frame

/-! ### A START that is refused -/

/-- The device in which a START of the word `w` was refused, at the end of the command. -/
def Dev.speRefused (d : Dev) (w : Nat) : Dev := ((d.speCtrl w).set SPI_OE_STATUS_ERR 0 2).ev SPI_OE_STATUS_DONE 0

theorem exec_spiOeStart_refused {s : State} {ctrl : Word} (hb : s.dev.on SPI_OE_STATUS_BUSY 0 = false)
    (hbad : (s.dev.speCtrl ctrl.toNat).speBad = true) :
    exec (.spiOeStart ctrl) s = .next (s.put (s.dev.speRefused ctrl.toNat)) := by
  show execSpiOeStart ctrl s = _
  simp only [execSpiOeStart, hb, hbad, if_true]
  rfl

theorem get_err_speRefused (d : Dev) (w : Nat) : (d.speRefused w).get SPI_OE_STATUS_ERR 0 = 2 := by
  rw [Dev.speRefused, Dev.ev_eq, Dev.get_set_field _ _ _ _ _ _ (by decide), Dev.get_set_same]
  rfl

theorem get_done_speRefused (d : Dev) (w : Nat) : (d.speRefused w).get SPI_OE_STATUS_DONE 0 = 1 := Dev.get_set_same ..

theorem get_busy_speRefused (d : Dev) (w : Nat) : (d.speRefused w).get SPI_OE_STATUS_BUSY 0 = d.get SPI_OE_STATUS_BUSY 0 := by
  rw [Dev.speRefused, Dev.ev_eq, Dev.get_set_field _ _ _ _ _ _ (by decide), Dev.get_set_field _ _ _ _ _ _ (by decide)]
  exact (Keeps.speCtrl (Keeps.refl _ noKey [] d) w (fun _ => id)).regs _ _ (calmField_of_spiOeStatus rfl (by decide))
    (by unfold regsIn; decide)

theorem keeps_speRefused (d : Dev) (w : Nat) : Keeps (regsIn [.SPI_OE_CTRL, .SPI_OE_STATUS]) noKey [] d (d.speRefused w) := by
  have status (f : Fld) (m : f.reg.ctorIdx ∈ [Reg.SPI_OE_CTRL, .SPI_OE_STATUS].map Reg.ctorIdx) (l : f.lo < 32) :=
    regsIn_fkey [.SPI_OE_CTRL, .SPI_OE_STATUS] f 0 m l
  have hctrl := Keeps.speCtrl (Keeps.refl (regsIn [.SPI_OE_CTRL, .SPI_OE_STATUS]) noKey [] d) w (regsIn_sub (by decide))
  exact (hctrl.set _ _ _ (status _ (by decide) (by decide))).ev _ _ (status _ (by decide) (by decide))

theorem completes_spiOeStart_refused (s : State) (ctrl : Word) (hb : s.dev.on SPI_OE_STATUS_BUSY 0 = false)
    (hbad : (s.dev.speCtrl ctrl.toNat).speBad = true) : Completes (.spiOeStart ctrl) s fun t =>
      t.dev.get SPI_OE_STATUS_ERR 0 = 2 ∧ t.dev.get SPI_OE_STATUS_DONE 0 = 1 ∧ t.dev.get SPI_OE_STATUS_BUSY 0 = 0
      ∧ (∀ x, ∀ c k u y, Out.spiOe c k u x y ∈ t.dev.out → Out.spiOe c k u x y ∈ s.dev.out)
      ∧ Frame (regsIn [.SPI_OE_CTRL, .SPI_OE_STATUS]) noKey [] s t := by
  have hbusy : s.dev.get SPI_OE_STATUS_BUSY 0 = 0 := by simpa [Dev.on] using hb
  refine ⟨_, exec_spiOeStart_refused hb hbad, ?_, ?_, ?_, ?_, frame_put (keeps_speRefused s.dev ctrl.toNat)⟩
  · rw [get_put _ _ _ _ (calmField_of_spiOeStatus rfl (by decide)), get_err_speRefused]
  · rw [get_put _ _ _ _ (calmField_of_spiOeStatus rfl (by decide)), get_done_speRefused]
  · rw [get_put _ _ _ _ (calmField_of_spiOeStatus rfl (by decide)), get_busy_speRefused, hbusy]
  · exact fun x c k u y m => mem_out_of_mem_settle_out s.dev (s.dev.speRefused ctrl.toNat) _ rfl m

/-! ### The statement -/

/-- Settles O12: a refused START leaves ERR = LEN, DONE and no transaction, as the end of a command sends none; a START or a write while
BUSY is 1 comes down to setting ERR = BUSY, on either way in. -/
theorem opticalStartRefused : Obligations.OpticalStartRefused := by
  unfold Obligations.OpticalStartRefused
  refine ⟨fun s ctrl hb hlen => ?_, completes_spiOeStart_busy, completes_registerWrite_spiOe_busy⟩
  exact completes_spiOeStart_refused s ctrl hb ((speBad_speCtrl_iff s.dev ctrl.toNat).mpr hlen)

end Sys2Proof.Machine
end

section
/-! The Sloe receiver: the end of a reception with a status and its count (R210, R217), and the checks of a received header (R214). -/

namespace Sys2Proof.Machine

/-! ### The end of a reception -/

/-- The fields of the Sloe receivers' registers belong to no monitor and no interrupt message. -/
theorem calmField_of_sloeRxRegs {f : Fld} (h : f.reg.ctorIdx ∈ sloeRxRegs.map Reg.ctorIdx) (l : f.lo < 32) : calmField f := by
  have other {i : Nat} (hi : i ∉ sloeRxRegs.map Reg.ctorIdx) : f.reg.ctorIdx ≠ i := fun e => hi (e ▸ h)
  exact ⟨other (by decide), other (by decide), other (by decide), other (by decide), l⟩

/-- `f` is the counter, in SLOE_RX_CNT0 to SLOE_RX_CNT2, of the receptions that end with `status` (R217). -/
structure SlCounter (status : Nat) (f : Fld) : Prop where
  reg_mem : f.reg.ctorIdx ∈ [Reg.SLOE_RX_CNT0, .SLOE_RX_CNT1, .SLOE_RX_CNT2].map Reg.ctorIdx
  lo_lt : f.lo < 32
  slCount_eq : ∀ (d : Dev) (n : Nat), d.slCount n status = d.count f n 1

theorem slCounter_crcHdr : SlCounter 3 SLOE_RX_CNT1_CRC_HDR := ⟨by decide, by decide, fun _ _ => rfl⟩

theorem slCounter_foreign : SlCounter 5 SLOE_RX_CNT2_FOREIGN := ⟨by decide, by decide, fun _ _ => rfl⟩

theorem slCounter_tooLong : SlCounter 6 SLOE_RX_CNT2_TOO_LONG := ⟨by decide, by decide, fun _ _ => rfl⟩

variable {status : Nat} {f : Fld}

theorem SlCounter.calm (h : SlCounter status f) : calmField f := calmField_of_sloeRxRegs (List.mem_cons_of_mem _ h.reg_mem) h.lo_lt

/-- A counter is no field of SLOE_RX_STATUS. -/
theorem SlCounter.ne_status (h : SlCounter status f) {g : Fld} (hg : g.reg = .SLOE_RX_STATUS) (l : g.lo < 32) :
    f.reg.ctorIdx * 32 + f.lo ≠ g.reg.ctorIdx * 32 + g.lo := by
  have hreg : f.reg.ctorIdx ≠ g.reg.ctorIdx := by
    rw [hg]
    exact fun e => absurd (e ▸ h.reg_mem) (by decide)
  have hlo := h.lo_lt
  omega

/-- A reception that ends with a counted status, in terms of the two writes. -/
theorem SlCounter.slRxEnd_eq (h : SlCounter status f) (d : Dev) (n : Nat) :
    d.slRxEnd n status = ((((d.set SLOE_RX_STATUS_LAST n status).count f n 1).set SLOE_RX_STATUS_STATE n slSEARCH).sv .slFrozen n 0).sv
      .slReacq n 0 := by
  rw [Dev.slRxEnd, h.slCount_eq]

theorem SlCounter.get_last_slRxEnd (h : SlCounter status f) (hs : status < 16) (d : Dev) (n : Nat) :
    (d.slRxEnd n status).get SLOE_RX_STATUS_LAST n = status := by
  rw [h.slRxEnd_eq, Dev.get_sv, Dev.get_sv, Dev.get_set_field _ _ _ _ _ _ (by decide), Dev.count_eq,
    Dev.get_set_field _ _ _ _ _ _ (h.ne_status rfl (by decide)), Dev.get_set_same]
  exact Nat.mod_eq_of_lt hs

theorem get_state_slRxEnd (d : Dev) (n st : Nat) : (d.slRxEnd n st).get SLOE_RX_STATUS_STATE n = 1 := by
  rw [Dev.slRxEnd, Dev.get_sv, Dev.get_sv, Dev.get_set_same]
  rfl

/-- The status is counted once, up to the counter's largest value. -/
theorem SlCounter.get_slRxEnd (h : SlCounter status f) (d : Dev) (n : Nat) :
    (d.slRxEnd n status).get f n = min (d.get f n + 1) (2 ^ f.w - 1) := by
  have hmax : min (d.get f n + 1) (2 ^ f.w - 1) < 2 ^ f.w :=
    Nat.lt_of_le_of_lt (Nat.min_le_right ..) (Nat.sub_lt (Nat.two_pow_pos f.w) Nat.one_pos)
  rw [h.slRxEnd_eq, Dev.get_sv, Dev.get_sv, Dev.get_set_field _ _ _ _ _ _ (h.ne_status rfl (by decide)).symm, Dev.count_eq,
    Dev.get_set_same, Dev.get_set_field _ _ _ _ _ _ (h.ne_status rfl (by decide)).symm, Nat.mod_eq_of_lt hmax]

/-- The end of a reception changes STATE, LAST and its one counter, and lets the gain loop run again: it stores nothing. -/
theorem SlCounter.keeps_slRxEnd (h : SlCounter status f) (d : Dev) (n : Nat) :
    Keeps (fieldsAt [(SLOE_RX_STATUS_STATE, n), (SLOE_RX_STATUS_LAST, n), (f, n)]) (varsAt [(.slFrozen, n), (.slReacq, n)]) []
      d (d.slRxEnd n status) := by
  rw [h.slRxEnd_eq]
  have hlast := (Keeps.refl (fieldsAt [(SLOE_RX_STATUS_STATE, n), (SLOE_RX_STATUS_LAST, n), (f, n)])
    (varsAt [(.slFrozen, n), (.slReacq, n)]) [] d).set SLOE_RX_STATUS_LAST n status (by simp [fieldsAt])
  have hcount := hlast.count f n 1 (by simp [fieldsAt])
  have hstate := hcount.set SLOE_RX_STATUS_STATE n slSEARCH (by simp [fieldsAt])
  exact (hstate.sv .slFrozen n 0 (by simp [varsAt])).sv .slReacq n 0 (by simp [varsAt])

/-- What a command does that only ends a reception. -/
theorem SlCounter.completes (h : SlCounter status f) (hs : status < 16) {c : Instr} {s : State} {n : Nat}
    (hc : exec c s = okDev s (s.dev.slRxEnd n status)) : Completes c s fun t =>
      t.dev.get SLOE_RX_STATUS_LAST n = status ∧ t.dev.get SLOE_RX_STATUS_STATE n = 1
      ∧ t.dev.get f n = min (s.dev.get f n + 1) (2 ^ f.w - 1)
      ∧ Frame (fieldsAt [(SLOE_RX_STATUS_STATE, n), (SLOE_RX_STATUS_LAST, n), (f, n)]) (varsAt [(.slFrozen, n), (.slReacq, n)]) [] s t := by
  refine ⟨_, hc, ?_, ?_, ?_, frame_settle (h.keeps_slRxEnd s.dev n)⟩
  · rw [settle_get _ _ _ _ (calmField_of_sloeRxRegs (by decide) (by decide)), h.get_last_slRxEnd hs]
  · rw [settle_get _ _ _ _ (calmField_of_sloeRxRegs (by decide) (by decide)), get_state_slRxEnd]
  · rw [settle_get _ _ _ _ h.calm, h.get_slRxEnd]

/-! ### The checks of a header, in their order -/

section HeaderChecks

variable {s : State} {n : Fin 8} {shifts : List Nat} {h : List Byte} (age mark : Nat)
  (hh : readHeader (s.dev.slSF n) shifts = h) (hst : s.dev.get SLOE_RX_STATUS_STATE n = slHEADER)

include hh hst

theorem exec_sloeHeaderDone_crcHdr (hcrc : crc8 (h.take 5) ≠ fb h 5) :
    exec (.sloeHeaderDone n shifts age mark) s = okDev s (s.dev.slRxEnd n 3) := by
  subst hh
  show execSloeHeaderDone n shifts age mark s = _
  rw [execSloeHeaderDone, if_neg (not_not_intro hst), if_pos hcrc]

theorem exec_sloeHeaderDone_foreign (hcrc : crc8 (h.take 5) = fb h 5) (hm : s.dev.on SLOE_RX_MATCH n = true)
    (hid : fb h 2 + 256 * fb h 3 ≠ s.dev.get SLOE_ID_EXPECT n) :
    exec (.sloeHeaderDone n shifts age mark) s = okDev s (s.dev.slRxEnd n 5) := by
  subst hh
  show execSloeHeaderDone n shifts age mark s = _
  rw [execSloeHeaderDone, if_neg (not_not_intro hst), if_neg (not_not_intro hcrc), if_pos ⟨hm, hid⟩]

theorem exec_sloeHeaderDone_tooLong (hcrc : crc8 (h.take 5) = fb h 5)
    (hid : s.dev.on SLOE_RX_MATCH n = false ∨ fb h 2 + 256 * fb h 3 = s.dev.get SLOE_ID_EXPECT n)
    (hlen : s.dev.get SLOE_RX_MAXLEN n < fb h 0) :
    exec (.sloeHeaderDone n shifts age mark) s = okDev s (s.dev.slRxEnd n 6) := by
  subst hh
  have hexpected : ¬(s.dev.on SLOE_RX_MATCH n = true ∧ fb (readHeader (s.dev.slSF n) shifts) 2 + 256 * fb (readHeader (s.dev.slSF n) shifts) 3
      ≠ s.dev.get SLOE_ID_EXPECT n) := fun ⟨hm, hne⟩ => hid.elim (fun hoff => absurd (hm.symm.trans hoff) (by decide)) hne
  show execSloeHeaderDone n shifts age mark s = _
  rw [execSloeHeaderDone, if_neg (not_not_intro hst), if_neg (not_not_intro hcrc), if_neg hexpected, if_pos hlen]

end HeaderChecks

/-! ### The statement -/

/-- Settles O29: whichever check fails first, the command comes down to ending the reception with that check's status. -/
theorem sloeHeaderCheck : Obligations.SloeHeaderCheck := by
  unfold Obligations.SloeHeaderCheck
  refine ⟨fun s n shifts age mark h hh hst hcrc => ?crcHdr, fun s n shifts age mark h hh hst hcrc hm hid => ?foreign,
    fun s n shifts age mark h hh hst hcrc hid hlen => ?tooLong⟩
  case crcHdr => exact slCounter_crcHdr.completes (by decide) (exec_sloeHeaderDone_crcHdr age mark hh hst hcrc)
  case foreign => exact slCounter_foreign.completes (by decide) (exec_sloeHeaderDone_foreign age mark hh hst hcrc hm hid)
  case tooLong => exact slCounter_tooLong.completes (by decide) (exec_sloeHeaderDone_tooLong age mark hh hst hcrc hid hlen)

end Sys2Proof.Machine
end

section
/-! SUPPORT. Which fields and variables the end of a command leaves alone, by the numbers of their registers and variables, and what a
frame gives back. -/

namespace Sys2Proof.Machine

/-- The registers that the end of a command may change (R300, R302, R334). -/
abbrev endRegs : List Reg := [.PRF_CNT, .PRF_OVF, .BRM_FIRQ_LO, .BRM_FIRQ_HI]

/-- The hidden variables that it may change (R323, R324, R337). -/
abbrev endVars : List Var := [.msixPba, .llTxSeq, .crUseH, .crUseD, .crGivH, .crGivD]

theorem calmField_of_reg {f : Fld} (h : f.reg.ctorIdx ∉ endRegs.map Reg.ctorIdx) (l : f.lo < 32) :
    calmField f := by
  simp only [List.map_cons, List.map_nil, List.mem_cons, List.not_mem_nil, or_false, not_or] at h
  obtain ⟨hcnt, hovf, hlo, hhi⟩ := h
  exact ⟨hcnt, hovf, hlo, hhi, l⟩

theorem calmVar_of_var {y : Var} (h : y.ctorIdx ∉ endVars.map Var.ctorIdx) : calmVar y := by
  simpa [calmVar] using h

/-- A frame gives back a field that it does not allow. -/
theorem Keeps.get_eq {r x : Key → Prop} {ps : List Part} {d e : Dev} (h : Keeps r x ps d e) (f : Fld) (n : Nat)
    (c : f.reg.ctorIdx ∉ endRegs.map Reg.ctorIdx) (l : f.lo < 32) (hr : ¬ r (fkey f n)) :
    e.get f n = d.get f n := h.regs f n (calmField_of_reg c l) hr

theorem Keeps.v_eq {xs : List Var} {r : Key → Prop} {ps : List Part} {d e : Dev} (h : Keeps r (varsIn xs) ps d e) (y : Var) (n : Nat)
    (c : y.ctorIdx ∉ (endVars ++ xs).map Var.ctorIdx) : e.v y n = d.v y n := by
  rw [List.map_append, List.mem_append, not_or] at c
  exact h.vars y n (calmVar_of_var c.1) c.2

end Sys2Proof.Machine
end

section
/-! The entry to SLEEP: what switches the datapath off, and what keeps it off (R369, R373). -/

namespace Sys2Proof.Machine

/-! ### A bunch is switched off -/

/-- Every key. -/
def anyKey (_ : Key) : Prop := True

/-- The same bunches are off in `e` as in `d`, and `e` holds no codeword that `d` does not. -/
structure Fades (d e : Dev) : Prop where
  cws : ∀ c ∈ e.cws, c ∈ d.cws
  offBunch : ∀ b, e.v .offBunch b = d.v .offBunch b

namespace Fades

variable {d e : Dev}

theorem refl (d : Dev) : Fades d d := ⟨fun _ => id, fun _ => rfl⟩

theorem trans {a b c : Dev} (h : Fades a b) (k : Fades b c) : Fades a c :=
  ⟨fun x m => h.cws x (k.cws x m), fun b => (k.offBunch b).trans (h.offBunch b)⟩

/-- Only the codewords and the hidden variables matter. -/
theorem record {e' : Dev} (h : Fades d e) (hc : e'.cws ⊆ e.cws) (hv : e'.vars = e.vars) : Fades d e' :=
  ⟨fun c m => h.cws c (hc m), fun b => (show tabGet e'.vars _ _ = _ by rw [hv]; exact h.offBunch b)⟩

theorem set (h : Fades d e) (f : Fld) (n v : Nat) : Fades d (e.set f n v) := h.record (List.Subset.refl _) rfl

theorem sv (h : Fades d e) (y : Var) (n : Nat) (i : Int) (hy : y.ctorIdx ≠ Var.offBunch.ctorIdx) : Fades d (e.sv y n i) :=
  ⟨h.cws, fun b => (Dev.v_sv_var e y .offBunch n b i hy).trans (h.offBunch b)⟩

theorem of_keeps {r : Key → Prop} {xs : List Var} {ps : List Part} (h : Keeps r (varsIn xs) ps d e) (hp : Part.cws ∉ ps)
    (hx : Var.offBunch.ctorIdx ∉ xs.map Var.ctorIdx) : Fades d e :=
  ⟨fun c m => (show e.cws = d.cws from h.rest .cws hp) ▸ m, fun b => h.vars .offBunch b (calmVar_of_var (by decide)) hx⟩

/-- The firmware packet of a lane ends. -/
theorem sloeTxDrop (d : Dev) (n : Nat) : Fades d (d.sloeTxDrop n) := by
  have hrefl : Keeps anyKey (varsIn [.slFw, .slOpen, .slCur]) [.sloeFw, .sloeTx] d d := Keeps.refl ..
  have own (y : Var) (m : y.ctorIdx ∈ [Var.slFw, .slOpen, .slCur].map Var.ctorIdx) := varsIn_vkey [.slFw, .slOpen, .slCur] y n m
  have hended : Keeps anyKey (varsIn [.slFw, .slOpen, .slCur]) [.sloeFw, .sloeTx] d (d.slTxEnd n 4) := by
    have hfw := (((hrefl.sloeFw (d.sloeFw.filter (fun p => p.lane != n)) (by simp)).set SLOE_TX_STATUS_BUSY n 0 trivial).set
      SLOE_TX_STATUS_RESULT n 4 trivial).ev SLOE_TX_STATUS_DONE n trivial
    have hopen := (hfw.sv .slFw n 0 (own _ (by decide))).sv .slOpen n 0 (own _ (by decide))
    have hidle := hopen.sv .slCur n 0 (own _ (by decide))
    exact ((hopen.when _ _ (fun _ => hidle.sloeTx _ (by simp))).count _ n _ trivial).count _ n _ trivial
  exact of_keeps (hrefl.when _ _ (fun _ => hended)) (by decide) (by decide)

theorem sloeRxDrop (d : Dev) (n : Nat) : Fades d (d.sloeRxDrop n) :=
  of_keeps ((Keeps.refl anyKey (varsIn [.slFrozen, .slReacq]) [] d).sloeRxDrop n (fun _ _ => trivial) (fun _ => id)) (by decide) (by decide)

theorem cwClear (d : Dev) (n : Nat) : Fades d (d.cwClear n) := by
  have hdiscard : Fades d { d with cws := d.cws.filter (fun c => c.lane != n) } := (refl d).record (fun _ m => (List.mem_filter.mp m).1) rfl
  have hpeak : Fades d (d.discardCws n) := ((hdiscard.sv .slotPeak _ _ (by decide)).set _ _ _).set _ _ _
  have hlock := ((hpeak.set DEC_STATUS_CW_LOCK n 0).set DEC_STATUS_HUNTING n 0).sv .cwPend n 0 (by decide)
  exact ((hlock.sv .lockBad n 0 (by decide)).sv .lockArr n 0 (by decide)).sv .lockZero n 0 (by decide)

theorem sbStop (h : Fades d e) (n : Nat) : Fades d (e.sbStop n) := by
  have hsb : Fades d { e with sb := e.sb.filter (fun x => x.lane != n) } := h.record (List.Subset.refl _) rfl
  exact (hsb.set SB_LSTATUS_RUNNING n 0).set SB_STATUS_ALIGNED 0 _

/-- The converter of a lane powers down. -/
theorem adcDown (d : Dev) (n : Nat) : Fades d (d.adcDown n) := by
  have hgrid := (((refl d).set LL_ADC_STATUS_READY n 0).sv .adcUp n 0 (by decide)).sv .rxGrid n 0 (by decide)
  have hclear := ((hgrid.trans (cwClear _ n)).sv .pipRel n 0 (by decide)).sv .pipDl n 0 (by decide)
  have hcdr := hclear.trans (of_keeps (Linked.cdrUnlock (Keeps.refl ..) n) (by decide) (by decide))
  have hoff := (hcdr.sbStop n).sv .decUnl n 0 (by decide)
  unfold Dev.adcDown
  exact hoff.trans (of_keeps ((Keeps.refl anyKey (varsIn [.slFrozen, .slReacq]) [] _).sloeRefresh n (fun _ _ => trivial) (fun _ => id))
    (by decide) (by decide))

theorem trRestart (d : Dev) (n : Nat) : Fades d (d.trRestart n) := by
  unfold Dev.trRestart
  exact of_keeps (xs := []) ((Keeps.refl anyKey (varsIn []) [] d).each _ _ (fun t _ _ k => Keeps.ite (fun _ => k.set _ t 0 trivial) (fun _ => k)))
    (by decide) (by decide)

theorem dropPips (d : Dev) (n : Nat) : Fades d (d.dropPips n) :=
  (((refl d).sv .eqDaWas n 0 (by decide)).sv .eqNoUpd n 0 (by decide)).record (List.Subset.refl _) rfl

theorem trg (h : Fades d e) (l : List TrgSet) : Fades d { e with trg := l } := h.record (List.Subset.refl _) rfl

theorem lineEnds (d : Dev) (n : Nat) : Fades d (d.lineEnds n) := by
  have hsloe := (sloeTxDrop d n).trans (sloeRxDrop _ n)
  have hpips := ((hsloe.trans (adcDown _ n)).trans (trRestart _ n)).trans (dropPips _ n)
  unfold Dev.lineEnds
  exact hpips.trg _

theorem each {α : Type} (h : Fades d e) (l : List α) (g : α → Dev → Dev) (k : ∀ a c, Fades c (g a c)) : Fades d (e.each l g) := by
  unfold Dev.each
  induction l generalizing e with
  | nil => exact h
  | cons a l ih => exact ih (h.trans (k a e))

end Fades

/-- The engines of a bunch's lanes and its loopbacks have ended; the bunch's state is still there. -/
def Dev.bunchEnds (d : Dev) (b : Nat) : Dev := (d.dropLoop (hostsOfBunch b)).each (linesOfBunch b) (fun n e => e.lineEnds n)

theorem fades_bunchEnds (d : Dev) (b : Nat) : Fades d (d.bunchEnds b) := by
  have hloop : Fades d (d.dropLoop (hostsOfBunch b)) := (Fades.refl d).record (List.Subset.refl _) rfl
  exact hloop.each _ _ (fun n c => Fades.lineEnds c n)

/-- A bunch that is switched off loses the codewords of its lanes. -/
theorem cws_bunchOff (d : Dev) (b : Nat) : (d.bunchOff b).cws = (d.bunchEnds b).cws.filter (fun c => c.lane / 4 != b) := by
  unfold Dev.bunchOff Dev.bunchEnds
  generalize (d.dropLoop (hostsOfBunch b)).each (linesOfBunch b) (fun n e => e.lineEnds n) = e
  rfl

/-- Of the hidden variables it loses its own, and it is off. -/
theorem v_bunchOff (d : Dev) (b : Nat) (y : Var) (n : Nat) :
    (d.bunchOff b).v y n = (((d.bunchEnds b).drop (fun _ => false) (varOfBunch b)).sv .offBunch b 1).v y n := by
  unfold Dev.bunchOff Dev.bunchEnds
  generalize (d.dropLoop (hostsOfBunch b)).each (linesOfBunch b) (fun n e => e.lineEnds n) = e
  rfl

/-- A variable of the Rind domain is none of a bunch. -/
theorem varOfBunch_of_rind {y : Var} (h : varPlace y = .rind) (b n : Nat) : varOfBunch b (vkey y n) = false := by
  unfold varOfBunch
  rw [varPlace_vkey, h]

theorem v_offBunch_bunchOff_same (d : Dev) (b : Nat) : (d.bunchOff b).v .offBunch b = 1 := by
  rw [v_bunchOff, Dev.v_sv_same]

theorem v_offBunch_bunchOff_other (d : Dev) {b c : Nat} (h : b ≠ c) : (d.bunchOff b).v .offBunch c = d.v .offBunch c := by
  rw [v_bunchOff, Dev.v_sv_inst _ _ _ _ _ _ h, Dev.v_drop, varOfBunch_of_rind rfl, if_neg Bool.false_ne_true, (fades_bunchEnds d b).offBunch c]

theorem mem_cws_bunchOff {d : Dev} {b : Nat} {c : Codeword} (h : c ∈ (d.bunchOff b).cws) : c ∈ d.cws ∧ c.lane / 4 ≠ b := by
  rw [cws_bunchOff, List.mem_filter] at h
  obtain ⟨hmem, hlane⟩ := h
  exact ⟨(fades_bunchEnds d b).cws c hmem, bne_iff_ne.mp hlane⟩

/-- With both bunches off no codeword of the device's eight lanes is left. -/
theorem cws_bunchOff_bunchOff {d : Dev} (h : ∀ c ∈ d.cws, c.lane < 8) : ((d.bunchOff 0).bunchOff 1).cws = [] := by
  refine List.eq_nil_iff_forall_not_mem.mpr (fun c hc => ?_)
  obtain ⟨hc1, hne1⟩ := mem_cws_bunchOff hc
  obtain ⟨hc0, hne0⟩ := mem_cws_bunchOff hc1
  have := h c hc0
  omega

theorem flag_offBunch_bunchOff_bunchOff (d : Dev) : ∀ b < 2, ((d.bunchOff 0).bunchOff 1).flag .offBunch b = true := by
  intro b hb
  have hv : ((d.bunchOff 0).bunchOff 1).v .offBunch b = 1 := by
    obtain rfl | rfl : b = 0 ∨ b = 1 := by omega
    · rw [v_offBunch_bunchOff_other _ (by decide), v_offBunch_bunchOff_same]
    · exact v_offBunch_bunchOff_same ..
  rw [Dev.flag, hv]
  rfl

/-! ### The shared domain is switched off -/

theorem v_sharedOff (s : State) (y : Var) (n : Nat) :
    s.sharedOff.dev.v y n = ((s.dev.drop regShared varShared).sv .offClk 0 1).v y n := rfl

theorem get_sharedOff (s : State) (f : Fld) (n : Nat) : s.sharedOff.dev.get f n = (s.dev.drop regShared varShared).get f n := rfl

theorem flag_sharedOff (s : State) {y : Var} {n : Nat} (hsh : varShared (vkey y n) = false) (hy : Var.offClk.ctorIdx ≠ y.ctorIdx) :
    s.sharedOff.dev.flag y n = s.dev.flag y n := by
  rw [Dev.flag, v_sharedOff, Dev.v_sv_var _ _ _ _ _ _ hy, Dev.v_drop, hsh, if_neg Bool.false_ne_true, Dev.flag]

theorem flag_offClk_sharedOff (s : State) : s.sharedOff.dev.flag .offClk 0 = true := by
  rw [Dev.flag, v_sharedOff, Dev.v_sv_same]
  rfl

theorem capOn_sharedOff (s : State) : s.sharedOff.dev.capOn = false := by
  have hstate : s.sharedOff.dev.get CAP_STATUS_STATE 0 = 0 := by
    rw [get_sharedOff, Dev.get_drop, if_pos (by decide +kernel)]
    rfl
  rw [Dev.capOn, hstate]
  rfl

theorem varShared_eq_false_of_rind {n : Nat} : varShared (vkey .offBunch n) = false ∧ varShared (vkey .lpSelf n) = false := by
  unfold varShared vkey
  simp only [varAt_ctorIdx]
  exact ⟨trivial, trivial⟩

/-- With its bunches off and LPDDR6 in self-refresh, the rest of the datapath goes with the shared domain and the PLL. -/
theorem pathOff_of_sharedOff {s : State} (hb : ∀ b < 2, s.dev.flag .offBunch b = true) (hl : s.dev.flag .lpSelf 0 = true) (hc : s.dev.cws = []) :
    pathOff (s.sharedOff.dev.set PWR_STATUS_PLL_CLK 0 0) := by
  refine ⟨fun b h => ?_, flag_offClk_sharedOff s, ?_, ?_, ?_, hc, rfl, rfl, rfl, rfl, rfl⟩
  · exact (flag_sharedOff s varShared_eq_false_of_rind.1 (by decide)).trans (hb b h)
  · exact (flag_sharedOff s varShared_eq_false_of_rind.2 (by decide)).trans hl
  · rw [Dev.get_set_same]
    rfl
  · rw [Dev.capOn, Dev.get_set_field _ _ _ _ _ _ (by decide)]
    exact capOn_sharedOff s

/-- Both bunches, LPDDR6's controller and the shared domain go: no codeword of the device's eight lanes is left, and nothing works. -/
theorem pathOff_of_bunches (s : State) {d : Dev} (h : ∀ c ∈ d.cws, c.lane < 8) :
    pathOff ((({ s with dev := ((d.bunchOff 0).bunchOff 1).sv .lpSelf 0 1 } : State).sharedOff.dev.set PWR_STATUS_PLL_CLK 0 0)) := by
  have hself : (((d.bunchOff 0).bunchOff 1).sv .lpSelf 0 1).flag .lpSelf 0 = true := by
    rw [Dev.flag, Dev.v_sv_same]
    rfl
  have hbunch : ∀ b < 2, (((d.bunchOff 0).bunchOff 1).sv .lpSelf 0 1).flag .offBunch b = true := fun b hb => by
    rw [Dev.flag, Dev.v_sv_var _ _ _ _ _ _ (by decide)]
    exact flag_offBunch_bunchOff_bunchOff d b hb
  have hcws : (((d.bunchOff 0).bunchOff 1).sv .lpSelf 0 1).cws = [] := (Dev.sv_cws ..).trans (cws_bunchOff_bunchOff h)
  exact pathOff_of_sharedOff (s := { s with dev := ((d.bunchOff 0).bunchOff 1).sv .lpSelf 0 1 }) hbunch hself hcws

/-! ### What leaves a datapath off -/

/-- Of the state that says whether the datapath works, a frame of these fields and variables, and of these parts, changes nothing. -/
theorem pathOff_of_keeps {r : Key → Prop} {xs : List Var} {ps : List Part} {d e : Dev} (h : Keeps r (varsIn xs) ps d e)
    (hr : ¬ r (fkey PWR_STATUS_PLL_CLK 0) ∧ ¬ r (fkey CAP_STATUS_STATE 0))
    (hx : ∀ y ∈ [Var.offBunch, .offClk, .lpSelf], y.ctorIdx ∉ xs.map Var.ctorIdx)
    (hp : ∀ p ∈ [Part.cws, .sb, .sloeFw, .capQ, .trigbQ, .busEvs], p ∉ ps) (hd : pathOff d) : pathOff e := by
  obtain ⟨hbunch, hclk, hself, hpll, hcap, hcws, hsb, hfw, hcapQ, htrigb, hbus⟩ := hd
  have hflag (y : Var) (n : Nat) (m : y ∈ [Var.offBunch, .offClk, .lpSelf]) (c : calmVar y) : e.flag y n = d.flag y n := by
    rw [Dev.flag, h.vars y n c (hx y m), Dev.flag]
  have hget (f : Fld) (c : calmField f) (m : ¬ r (fkey f 0)) : e.get f 0 = d.get f 0 := h.regs f 0 c m
  refine ⟨fun b hb => ?_, ?_, ?_, ?_, ?_, (h.rest .cws (hp _ (by decide))).trans hcws, (h.rest .sb (hp _ (by decide))).trans hsb,
    (h.rest .sloeFw (hp _ (by decide))).trans hfw, (h.rest .capQ (hp _ (by decide))).trans hcapQ,
    (h.rest .trigbQ (hp _ (by decide))).trans htrigb, (h.rest .busEvs (hp _ (by decide))).trans hbus⟩
  · exact (hflag .offBunch b (by decide) (calmVar_of_var (by decide))).trans (hbunch b hb)
  · exact (hflag .offClk 0 (by decide) (calmVar_of_var (by decide))).trans hclk
  · exact (hflag .lpSelf 0 (by decide) (calmVar_of_var (by decide))).trans hself
  · exact (hget PWR_STATUS_PLL_CLK (calmField_of_reg (by decide) (by decide)) hr.1).trans hpll
  · rw [Dev.capOn, hget CAP_STATUS_STATE (calmField_of_reg (by decide) (by decide)) hr.2]
    exact hcap

/-! ### The Bramble ports go into beacon mode -/

/-- The registers that a port's leaving of ACTIVE may change (R316, R330, R332, R336). -/
abbrev portRegs : List Reg :=
  [.BRM_PSTATUS, .BRM_PCNT, .BRM_LSTATUS, .BRM_FCNT, .BRM_FCNT2, .BRM_FSTATUS, .BRM_ROUTE, .PCI_STATUS, .PCI_CPL_LOG]

/-- The hidden variables that it may change. -/
abbrev portVars : List Var := [.capSame, .capAck, .enStep, .enPar, .mkRun, .mkSeen]

/-- `e` is `d` but for what becomes of the ports and the requests over them. -/
abbrev Parting (d e : Dev) : Prop := Keeps (regsIn portRegs) (varsIn portVars) [.ownReqs, .brRes] d e

namespace Parting

variable {d e : Dev}

theorem set (h : Parting d e) (f : Fld) (n v : Nat) (m : f.reg.ctorIdx ∈ portRegs.map Reg.ctorIdx) (l : f.lo < 32) : Parting d (e.set f n v) :=
  Keeps.set h f n v (regsIn_fkey _ f n m l)

theorem sv (h : Parting d e) (y : Var) (n : Nat) (i : Int) (m : y.ctorIdx ∈ portVars.map Var.ctorIdx) : Parting d (e.sv y n i) :=
  Keeps.sv h y n i (varsIn_vkey _ y n m)

theorem calm {e' : Dev} (h : Parting d e) (k : Calm e e') : Parting d e' :=
  h.trans (k.mono (fun _ => False.elim) (fun _ => False.elim))

theorem pcieTags (h : Parting d e) : Parting d e.pcieTags :=
  (h.set PCI_STATUS_TAGS 0 _ (by decide) (by decide)).set PCI_STATUS_TAGS_FULL 0 _ (by decide) (by decide)

theorem pcieDone (h : Parting d e) (tag dev status : Nat) (data : List Nat) : Parting d (e.pcieDone tag dev status data) := by
  have hsent := Keeps.emit h (.pcieCpl tag (pcieKind status) data)
  have hlog := (Parting.set hsent PCI_CPL_LOG_STATUS 0 status (by decide) (by decide)).set PCI_CPL_LOG_DEV 0 dev (by decide) (by decide)
  exact Keeps.ite (fun _ => hsent) (fun _ => (hlog.set PCI_CPL_LOG_TAG 0 tag (by decide) (by decide)).set PCI_STATUS_CPL_EV 0 1
    (by decide) (by decide))

theorem enumEnd (h : Parting d e) : Parting d e.enumEnd := by
  have hend := ((h.sv .enStep 0 0 (by decide)).set BRM_FSTATUS_ENUM_BUSY 0 0 (by decide) (by decide)).set BRM_FSTATUS_FLEET 0
    (1 + e.get BRM_ROUTE_S0 0 + e.get BRM_ROUTE_S1 0) (by decide) (by decide)
  unfold Dev.enumEnd
  exact Keeps.ite (fun _ => hend.set BRM_FSTATUS_ENUM_EV 0 1 (by decide) (by decide))
    (fun _ => Keeps.ite (fun _ => (hend.sv .enPar 0 0 (by decide)).calm (Calm.sendPort ..)) (fun _ => hend))

theorem enumOffer (h : Parting d e) (q : Nat) : Parting d (e.enumOffer q) := by
  unfold Dev.enumOffer
  refine Keeps.ite (fun _ => h) (fun _ => Keeps.ite (fun _ => h.set BRM_FSTATUS_DEPTH_EV 0 1 (by decide) (by decide)) (fun _ => ?_))
  exact ((Keeps.ownReqs h _ (by decide)).sv .enStep 0 _ (varsIn_vkey _ _ 0 (by decide))).trans
    ((Calm.sendPort ..).mono (fun _ => False.elim) (fun _ => False.elim))

theorem enumSecond (h : Parting d e) : Parting d e.enumSecond :=
  Keeps.ite (fun _ => h.enumOffer 2) (fun _ => (h.enumOffer 2).enumEnd)

theorem enumAnswer (h : Parting d e) (q status : Nat) (data : List Nat) : Parting d (e.enumAnswer q status data) := by
  have hseen := Parting.sv (Keeps.evIf h (status == 1) BRM_FSTATUS_OVF_EV 0 (regsIn_fkey _ _ 0 (by decide) (by decide))) .enStep 0 0 (by decide)
  unfold Dev.enumAnswer
  exact Keeps.ite (fun _ => h) (fun _ => Keeps.ite
    (fun _ => (hseen.set BRM_ROUTE_S0 0 _ (by decide) (by decide)).enumSecond)
    (fun _ => (hseen.set BRM_ROUTE_S1 0 _ (by decide) (by decide)).enumEnd))

/-- A completion reaches one of the device's own units. -/
theorem ownDone (h : Parting d e) (unit tag status : Nat) (data : List Nat) : Parting d (e.ownDone unit tag status data) := by
  unfold Dev.ownDone
  split
  · exact (h.set BRM_FCNT_LATE_CPL 0 _ (by decide) (by decide)).set BRM_FSTATUS_LATE_EV 0 1 (by decide) (by decide)
  · next r _ =>
    have hgone : Parting d { e with ownReqs := e.ownReqs.erase r } := Keeps.ownReqs h _ (by decide)
    exact Keeps.ite (fun _ => (hgone.pcieDone tag r.dev status data).pcieTags)
      (fun _ => Keeps.ite (fun _ => Keeps.brRes hgone _ (by decide))
        (fun _ => Keeps.ite (fun _ => hgone.enumAnswer (tag + 1) status data) (fun _ => hgone)))

theorem linkAbort (h : Parting d e) (p : Nat) : Parting d (e.linkAbort p) := by
  have hdropped : Parting d { e with
      tracked := e.tracked.filter (fun t => t.1 != p), replay := e.replay.filter (fun r => r.1 != p),
      brmFifo := e.brmFifo.filter (fun b => b.port != p),
      txWait := e.txWait.filter (fun t => !(p == 0 && t.port == 0 && pktIsCpl t.pkt)) } := h.calm (Calm.waiting ..)
  have hlost := Keeps.count hdropped BRM_FCNT2_P_LOST 0 (e.replay.filter (fun r => r.1 == p && pktCls r.2.2 == 0)).length
    (regsIn_fkey _ _ 0 (by decide) (by decide))
  unfold Dev.linkAbort
  refine Keeps.ite (fun _ => hlost) (fun _ => Keeps.each ?_ _ _ (fun t _ c k => ?_))
  · exact (Parting.set hlost BRM_FCNT2_ABORT_LINK 0 _ (by decide) (by decide)).set BRM_FSTATUS_LINK_ABORT_EV 0 1 (by decide) (by decide)
  · exact Keeps.ite (fun _ => Parting.ownDone k ..) (fun _ => Parting.calm k (Calm.sendTo ..))

theorem brmTo (h : Parting d e) (p st : Nat) : Parting d (e.brmTo p st) := by
  have hstate := (h.set BRM_PSTATUS_STATE p st (by decide) (by decide)).set BRM_PSTATUS_LANE_SET p 0 (by decide) (by decide)
  have hcaps := (hstate.sv .capSame p 0 (by decide)).sv .capAck p 0 (by decide)
  unfold Dev.brmTo
  exact Keeps.ite (fun _ => Parting.linkAbort ((hcaps.set BRM_PSTATUS_LINK_DOWN_EV p 1 (by decide) (by decide)).set BRM_PCNT_DOWNS p _
    (by decide) (by decide)) p) (fun _ => hcaps)

theorem laneUnlock (h : Parting d e) (i : Nat) : Parting d (e.laneUnlock i) := by
  have hlocks := (h.set BRM_LSTATUS_CDR_LOCK i 0 (by decide) (by decide)).set BRM_LSTATUS_BLOCK_LOCK i 0 (by decide) (by decide)
  have hmarks := (hlocks.set BRM_LSTATUS_MARKER_LOCK i 0 (by decide) (by decide)).set BRM_LSTATUS_DESKEWED i 0 (by decide) (by decide)
  exact (hmarks.sv .mkRun i 0 (by decide)).sv .mkSeen i 0 (by decide)

theorem beaconMode (h : Parting d e) : Parting d e.beaconMode :=
  Keeps.each h _ _ (fun p _ _ k => Keeps.ite (fun _ => ((Parting.brmTo k p brmDETECT).laneUnlock (2 * p)).laneUnlock (2 * p + 1)) (fun _ => k))

end Parting

theorem pathOff_beaconMode {d : Dev} (h : pathOff d) : pathOff d.beaconMode :=
  pathOff_of_keeps (Parting.beaconMode (Keeps.refl ..)) (by unfold regsIn; decide) (by decide) (by decide) h

theorem cws_retSave (d : Dev) : d.retSave.cws = d.cws := rfl

theorem dev_sleepSteps (s : State) : s.sleepSteps.dev =
    (({ s with dev := ((s.dev.retSave.bunchOff 0).bunchOff 1).sv .lpSelf 0 1 } : State).sharedOff.dev.set PWR_STATUS_PLL_CLK 0 0).beaconMode := by
  rw [State.sleepSteps]

/-- Steps 2 to 6 of an entry switch the datapath off. -/
theorem pathOff_sleepSteps {s : State} (h : ∀ c ∈ s.dev.cws, c.lane < 8) : pathOff s.sleepSteps.dev := by
  have hsaved : ∀ c ∈ s.dev.retSave.cws, c.lane < 8 := by rwa [cws_retSave]
  rw [dev_sleepSteps]
  exact pathOff_beaconMode (pathOff_of_bunches s hsaved)

/-! ### The entry ends -/

/-- The device in which an entry to SLEEP has ended, at the end of the command. -/
def Dev.entered (d : Dev) : Dev := ((d.entryEnd psSLEEP).set PWR_STATUS_STATE 0 2).count PWR_CNT_SLEEPS 0 1

theorem exec_lowPowerEntryDone_sleep {s : State} (ht : s.dev.v .pwrTarget 0 = 1) (hp : s.dev.v .pwrState 0 = 0) (hc : s.dev.stnCur = none)
    (hq : s.dev.stnQ = []) :
    exec .lowPowerEntryDone s = .next (s.commit { s.sleepSteps with dev := s.sleepSteps.dev.entered }) := by
  show execLowPowerEntryDone s = _
  simp [execLowPowerEntryDone, ht, hp, hc, hq, psSLEEP, ok, State.commit, Dev.entered]

theorem keeps_entered (d : Dev) :
    Keeps (fieldsIn [PWR_STATUS_ENTERING, RIND_PWR_LAST_STATE, PWR_STATUS_STATE, PWR_CNT_SLEEPS]) (varsIn [.pwrTarget, .pwrState]) []
      d d.entered := by
  have own (f : Fld) (m : f.reg.ctorIdx * 32 + f.lo ∈
      [PWR_STATUS_ENTERING, RIND_PWR_LAST_STATE, PWR_STATUS_STATE, PWR_CNT_SLEEPS].map (fun g => g.reg.ctorIdx * 32 + g.lo)) :=
    fieldsIn_fkey _ f 0 m
  have hstate := (((Keeps.refl _ _ [] d).set PWR_STATUS_ENTERING 0 0 (own _ (by decide))).sv .pwrTarget 0 0
    (varsIn_vkey [.pwrTarget, .pwrState] _ 0 (by decide))).sv .pwrState 0 1 (varsIn_vkey _ _ 0 (by decide))
  exact ((hstate.set RIND_PWR_LAST_STATE 0 psSLEEP (own _ (by decide))).set PWR_STATUS_STATE 0 2 (own _ (by decide))).count PWR_CNT_SLEEPS 0 1
    (own _ (by decide))

theorem pathOff_entered {d : Dev} (h : pathOff d) : pathOff d.entered :=
  pathOff_of_keeps (keeps_entered d) (by unfold fieldsIn; decide) (by decide) (by decide) h

theorem v_pwrState_entered (d : Dev) : d.entered.v .pwrState 0 = 1 := by
  unfold Dev.entered Dev.entryEnd
  rw [Dev.count_eq, Dev.v_set, Dev.v_set, Dev.v_set, Dev.v_sv_same]
  rfl

/-- The end of a command leaves a datapath off. -/
theorem pathOff_settle (d : Dev) {e : Dev} (h : pathOff e) : pathOff (settle d e) :=
  pathOff_of_keeps (r := noKey) (xs := []) (ps := []) ((Calm.settle d e).mono (fun _ => id) (fun _ => False.elim)) ⟨id, id⟩ (by decide)
    (by decide) h

theorem dev_commit (s t : State) : (s.commit t).dev = settle s.dev t.dev := rfl

/-- The entry to SLEEP ends with the datapath off, if every codeword held is one of the device's eight lanes. -/
theorem completes_lowPowerEntryDone_sleep (s : State) (hl : ∀ c ∈ s.dev.cws, c.lane < 8) (ht : s.dev.v .pwrTarget 0 = 1)
    (hp : s.dev.v .pwrState 0 = 0) (hc : s.dev.stnCur = none) (hq : s.dev.stnQ = []) :
    Completes .lowPowerEntryDone s fun t => t.dev.v .pwrState 0 = 1 ∧ pathOff t.dev := by
  have hstate : (settle s.dev s.sleepSteps.dev.entered).v .pwrState 0 = 1 := by
    rw [settle_v _ _ _ _ (calmVar_of_var (by decide)), v_pwrState_entered]
  have hpath : pathOff (settle s.dev s.sleepSteps.dev.entered) := pathOff_settle s.dev (pathOff_entered (pathOff_sleepSteps hl))
  refine ⟨_, exec_lowPowerEntryDone_sleep ht hp hc hq, ?_⟩
  simp only [dev_commit]
  exact ⟨hstate, hpath⟩

end Sys2Proof.Machine
end

section
/-! Temperature samples in SLEEP, DEEP and OFF (R395). -/

namespace Sys2Proof.Machine

/-! ### What a sample may change -/

/-- A sample's own registers (R386 to R390). -/
abbrev thmRegs : List Reg := [.THM_TS, .THM_MAX, .THM_STATUS, .THM_EXCL, .THM_CNT]

/-- The fields a sample may change: its own registers' and the active profile (R390). -/
abbrev thmFields : Key → Prop := orKey (regsIn thmRegs) (fieldsIn [SEED_PROF_ACTIVE])

/-- The hidden variables a sample may change. -/
abbrev thmVars : List Var := [.tsSame, .tsCode, .tsXf, .tsGood, .tsSeen, .thmLvl, .eqProf, .mpNext]

theorem thmFields_fkey (f : Fld) (n : Nat) (h : f.reg.ctorIdx ∈ thmRegs.map Reg.ctorIdx)
    (l : f.lo < 32) : thmFields (fkey f n) := .inl (regsIn_fkey _ f n h l)

/-- `e` is `d` but for what a sample may change. -/
abbrev Sampling (d e : Dev) : Prop := Keeps thmFields (varsIn thmVars) [.fresh] d e

namespace Sampling

variable {d e : Dev}

theorem tsCount (h : Sampling d e) (r : List Int) (i : Nat) (t : TsTest) : Sampling d (e.tsCount r i t) := by
  unfold Dev.tsCount
  refine Keeps.seti ?_ THM_TS_READING i _ (thmFields_fkey _ i (by decide) (by decide))
  have hsame := h.sv .tsSame i (if e.flag .tsSeen 0 && e.v .tsCode i == r.getD i 0 then min 4096 (e.v .tsSame i + 1) else 0)
    (varsIn_vkey _ _ i (by decide))
  have hcode := hsame.sv .tsCode i (r.getD i 0) (varsIn_vkey _ _ i (by decide))
  exact (hcode.sv .tsXf i _ (varsIn_vkey _ _ i (by decide))).sv .tsGood i _ (varsIn_vkey _ _ i (by decide))

theorem tsTrust (h : Sampling d e) (i : Nat) (t : TsTest) : Sampling d (e.tsTrust i t) := by
  have own (n : Nat) (f : Fld) (m : f.reg.ctorIdx ∈ thmRegs.map Reg.ctorIdx) (l : f.lo < 32) : thmFields (fkey f n) := thmFields_fkey f n m l
  unfold Dev.tsTrust
  refine Keeps.ite (fun _ => Keeps.ite (fun _ => ?trusted) (fun _ => ?excluded)) (fun _ => Keeps.ite (fun _ => ?excluding) (fun _ => ?suspected))
  case trusted =>
    exact ((h.setBit THM_EXCL_EXCL 0 i false (own 0 _ (by decide) (by decide))).set THM_TS_CAUSE i 0 (own i _ (by decide) (by decide))).setBit
      THM_EXCL_SUSPECT 0 i false (own 0 _ (by decide) (by decide))
  case excluded => exact h.setBit _ _ _ _ (own 0 _ (by decide) (by decide))
  case excluding =>
    have hbits := (h.setBit THM_EXCL_EXCL 0 i true (own 0 _ (by decide) (by decide))).setBit THM_EXCL_SUSPECT 0 i false
      (own 0 _ (by decide) (by decide))
    exact ((hbits.set THM_TS_CAUSE i _ (own i _ (by decide) (by decide))).ev THM_STATUS_EXCL_EV 0 (own 0 _ (by decide) (by decide))).sv
      .tsGood i 0 (varsIn_vkey _ _ i (by decide))
  case suspected => exact h.setBit _ _ _ _ (own 0 _ (by decide) (by decide))

theorem drew (h : Sampling d e) : Sampling d e.drew := Keeps.fresh h _ (List.mem_singleton_self _)

theorem thmReport (h : Sampling d e) (r : List Int) (tests : List TsTest) : Sampling d (e.thmReport r tests) := by
  have own (f : Fld) (m : f.reg.ctorIdx ∈ thmRegs.map Reg.ctorIdx) (l : f.lo < 32) :
      thmFields (fkey f 0) := thmFields_fkey f 0 m l
  have drewIf {c : Prop} [Decidable c] {a : Dev} (k : Sampling d a) : Sampling d (if c then a.drew else a) := Keeps.ite (fun _ => drew k) (fun _ => k)
  unfold Dev.thmReport
  exact drewIf (Keeps.set (drewIf ((h.put _ 0 _ (own _ (by decide) (by decide))).seti _ 0 _ (own _ (by decide) (by decide)))) THM_MAX_SRC 0 _
    (own _ (by decide) (by decide)))

end Sampling

/-! ### What follows from the temperature a sample reports -/

/-- The fields that change once THM_MAX stands: the levels' events and counts, and the profile (R389, R390). -/
abbrev thmActFields : Key → Prop := orKey (regsIn [.THM_STATUS, .THM_CNT]) (fieldsIn [SEED_PROF_ACTIVE])

theorem thmActFields_fkey (f : Fld) (m : f.reg.ctorIdx ∈ [Reg.THM_STATUS, .THM_CNT].map Reg.ctorIdx) (l : f.lo < 32) : thmActFields (fkey f 0) :=
  .inl (regsIn_fkey _ f 0 m l)

/-- `e` is `d` but for what follows from the thresholds, and for the variables named: THM_MAX and the thresholds stand. -/
abbrev Acting (xs : List Var) (d e : Dev) : Prop := Keeps thmActFields (varsIn xs) [] d e

namespace Acting

variable {xs : List Var} {d e : Dev}

theorem thmTh_eq (h : Acting xs d e) (i : Nat) : e.thmTh i = d.thmTh i := by
  have hth (f : Fld) (c : f.reg.ctorIdx ∉ endRegs.map Reg.ctorIdx) (l : f.lo < 32)
      (m : ¬ thmActFields (fkey f 0)) : e.get f 0 = d.get f 0 := h.get_eq f 0 c l m
  unfold Dev.thmTh
  rw [hth THM_TH_WARN (by decide) (by decide) (by unfold thmActFields orKey regsIn fieldsIn; decide),
    hth THM_TH_THROT (by decide) (by decide) (by unfold thmActFields orKey regsIn fieldsIn; decide),
    hth THM_TH_SHUT (by decide) (by decide) (by unfold thmActFields orKey regsIn fieldsIn; decide)]

theorem thmMax_eq (h : Acting xs d e) : e.thmMax = d.thmMax := by
  unfold Dev.thmMax Dev.geti
  rw [h.get_eq THM_MAX_TEMP 0 (by decide) (by decide) (by unfold thmActFields orKey regsIn fieldsIn; decide)]

theorem thmLevel (d : Dev) (i : Nat) : Acting [.thmLvl] d (d.thmLevel i) := by
  have hrefl : Acting [.thmLvl] d d := Keeps.refl ..
  have lvl (b : Int) : Acting [.thmLvl] d (d.sv .thmLvl i b) := hrefl.sv .thmLvl i b (varsIn_vkey _ _ i (by decide))
  unfold Dev.thmLevel
  refine Keeps.ite (fun _ => Keeps.ite (fun _ => hrefl) (fun _ => ?entered)) (fun _ => Keeps.ite (fun _ => lvl 0) (fun _ => hrefl))
  case entered =>
    refine Keeps.ite (fun _ => ?_) (fun _ => Keeps.ite (fun _ => ?_) (fun _ => lvl 1))
    · exact (lvl 1).ev _ 0 (thmActFields_fkey _ (by decide) (by decide))
    · exact ((lvl 1).ev _ 0 (thmActFields_fkey _ (by decide) (by decide))).count _ 0 1 (thmActFields_fkey _ (by decide) (by decide))

theorem thmProfile (d : Dev) (p : Nat) : Acting [.eqProf, .mpNext] d (d.thmProfile p) := by
  have hrefl : Acting [.eqProf, .mpNext] d d := Keeps.refl ..
  unfold Dev.thmProfile
  refine Keeps.ite (fun _ => hrefl.set _ 0 p (thmActFields_fkey _ (by decide) (by decide))) (fun _ => Keeps.each ?_ _ _ (fun n _ _ k => ?_))
  · exact ((hrefl.set SEED_PROF_ACTIVE 0 p (.inr (List.mem_singleton_self _))).set _ 0 p (thmActFields_fkey _ (by decide) (by decide))).ev _ 0
      (thmActFields_fkey _ (by decide) (by decide))
  · exact (k.sv .eqProf n 1 (varsIn_vkey _ _ n (by decide))).sv .mpNext n _ (varsIn_vkey _ _ n (by decide))

theorem thmFast (h : Acting xs d e) : Acting xs d e.thmFast := h.put _ 0 _ (thmActFields_fkey _ (by decide) (by decide))

theorem thmShow (h : Acting xs d e) : Acting xs d e.thmShow := h.set _ 0 _ (thmActFields_fkey _ (by decide) (by decide))

theorem sampling (h : Acting xs d e) (hx : ∀ a ∈ xs.map Var.ctorIdx, a ∈ thmVars.map Var.ctorIdx) : Sampling d e :=
  h.mono (fun _ => Or.imp_left (regsIn_sub (by decide) _)) (varsIn_sub hx)

end Acting

/-- A level is entered, or kept, at or above its threshold. -/
theorem flag_thmLevel_of_le {d : Dev} {i : Nat} (h : d.thmTh i ≤ d.thmMax) : (d.thmLevel i).flag .thmLvl i = true := by
  unfold Dev.thmLevel
  rw [if_pos h]
  split
  · assumption
  · have hset : (d.sv .thmLvl i 1).flag .thmLvl i = true := by rw [Dev.flag, Dev.v_sv_same]; rfl
    split
    · exact hset
    · split <;> exact hset

/-! ### The steps of a sample -/

/-- Steps 1 to 4 of R386: the readings, the sensors trusted and the temperature reported. -/
def Dev.thmSensed (d : Dev) (r : List Int) : Dev :=
  let tests := (List.range 12).map (fun i => d.tsTest r i)
  let at_ := fun (i : Nat) => tests.getD i ⟨none, false, false, false⟩
  let d1 := (d.each (List.range 12) (fun i e => e.tsCount r i (at_ i))).sv .tsSeen 0 1
  (d1.each (List.range 12) (fun i e => e.tsTrust i (at_ i))).thmReport r tests

/-- The levels that a reported temperature enters or leaves (R389). -/
def Dev.thmLevels (d : Dev) : Dev := d.each [0, 1, 2] (fun i e => e.thmLevel i)

/-- What follows the levels: the profile, no lower than 1 where the throttle level has just been entered, and the interval
(R388, R390). -/
def Dev.thmFollow (d : Dev) (entered : Bool) : Dev :=
  let p := d.get SEED_PROF_ACTIVE 0
  (d.thmProfile (max (if entered then max p 1 else p) d.thmFloor)).thmFast

/-- The device before the thresholds decide on a stop. -/
def Dev.thmJudged (d : Dev) (r : List Int) : Dev :=
  (d.thmSensed r).thmLevels.thmFollow ((d.thmSensed r).thmLevels.flag .thmLvl 1 && !((d.thmSensed r).flag .thmLvl 1))

theorem State.thmSample_eq (s : State) (r : List Int) (k : Nat) :
    s.thmSample r k = { ({ s with dev := s.dev.thmJudged r } : State).thmDecide k with
      dev := (({ s with dev := s.dev.thmJudged r } : State).thmDecide k).dev.thmShow } := rfl

theorem sampling_thmSensed (d : Dev) (r : List Int) : Sampling d (d.thmSensed r) := by
  have hcount := Keeps.each (Keeps.refl thmFields (varsIn thmVars) [.fresh] d) (List.range 12)
    (fun i e => e.tsCount r i (((List.range 12).map (fun i => d.tsTest r i)).getD i ⟨none, false, false, false⟩))
    (fun i _ _ k => Sampling.tsCount k r i _)
  have hseen := hcount.sv .tsSeen 0 1 (varsIn_vkey _ _ 0 (by decide))
  exact Sampling.thmReport (hseen.each (List.range 12) _ (fun i _ _ k => Sampling.tsTrust k i _)) r _

theorem acting_thmLevels (d : Dev) : Acting [.thmLvl] d d.thmLevels :=
  ((Acting.thmLevel d 0).trans (Acting.thmLevel _ 1)).trans (Acting.thmLevel _ 2)

theorem acting_thmFollow (d : Dev) (entered : Bool) : Acting [.eqProf, .mpNext] d (d.thmFollow entered) :=
  Acting.thmFast (Acting.thmProfile d _)

theorem acting_thmJudged (d : Dev) (r : List Int) : Acting [.eqProf, .mpNext] (d.thmSensed r).thmLevels (d.thmJudged r) := by
  rw [Dev.thmJudged]
  exact acting_thmFollow ..

theorem sampling_thmJudged (d : Dev) (r : List Int) : Sampling d (d.thmJudged r) :=
  ((sampling_thmSensed d r).trans (Acting.sampling (acting_thmLevels _) (by decide))).trans
    (Acting.sampling (acting_thmJudged d r) (by decide))

/-- At or above the shutdown threshold the device is at its level. -/
theorem flag_thmLevels_two {d : Dev} (h : d.thmLevels.thmTh 2 ≤ d.thmLevels.thmMax) : d.thmLevels.flag .thmLvl 2 = true := by
  have hlast : Acting [.thmLvl] ((d.thmLevel 0).thmLevel 1) d.thmLevels := Acting.thmLevel _ 2
  rw [hlast.thmTh_eq, hlast.thmMax_eq] at h
  exact flag_thmLevel_of_le h

/-! ### A sample in SLEEP -/

/-- In SLEEP the thresholds decide on STOP_EV alone. -/
theorem State.thmDecide_of_asleep {s : State} (k : Nat) (h : s.dev.v .pwrState 0 = 1) :
    s.thmDecide k = { s with dev := s.dev.evIf (decide (s.dev.thmTh 2 ≤ s.dev.thmMax)) THM_STATUS_STOP_EV 0 } := if_pos h

/-- The device after a sample in SLEEP, at the end of the command. -/
def Dev.thmAsleep (d : Dev) (r : List Int) : Dev :=
  ((d.thmJudged r).evIf (decide ((d.thmJudged r).thmTh 2 ≤ (d.thmJudged r).thmMax)) THM_STATUS_STOP_EV 0).thmShow

theorem State.thmSample_of_asleep {s : State} (r : List Int) (k : Nat) (h : s.dev.v .pwrState 0 = 1) :
    s.thmSample r k = { s with dev := s.dev.thmAsleep r } := by
  have hjudged : (s.dev.thmJudged r).v .pwrState 0 = 1 := (Keeps.v_eq (sampling_thmJudged s.dev r) _ _ (by decide)).trans h
  rw [State.thmSample_eq, State.thmDecide_of_asleep (s := { s with dev := s.dev.thmJudged r }) k hjudged, Dev.thmAsleep]

theorem exec_thmSample_of_asleep {s : State} (r : List Int) (k : Fin 5) (hon : s.dev.flag .offMgmt 0 = false) (h : s.dev.v .pwrState 0 = 1) :
    exec (.thmSample r k) s = .next (s.put (s.dev.thmAsleep r)) := by
  show execThmSample r k s = _
  rw [execThmSample, hon, if_neg Bool.false_ne_true, State.thmSample_of_asleep r k h, ok, State.put, State.commit]

theorem acting_thmAsleep (d : Dev) (r : List Int) : Acting [] (d.thmJudged r) (d.thmAsleep r) :=
  Acting.thmShow ((Keeps.refl ..).evIf _ _ 0 (thmActFields_fkey _ (by decide) (by decide)))

theorem sampling_thmAsleep (d : Dev) (r : List Int) : Sampling d (d.thmAsleep r) :=
  (sampling_thmJudged d r).trans (Acting.sampling (acting_thmAsleep d r) (by decide))

/-- What follows the levels keeps them. -/
theorem acting_thmAsleep_of_levels (d : Dev) (r : List Int) : Acting [.eqProf, .mpNext] (d.thmSensed r).thmLevels (d.thmAsleep r) :=
  (acting_thmJudged d r).trans ((acting_thmAsleep d r).mono (fun _ => id) (varsIn_sub (by decide)))

/-- At or above the shutdown threshold a sample in SLEEP sets STOP_EV. -/
theorem get_stopEv_thmAsleep {d : Dev} {r : List Int} (h : (d.thmAsleep r).thmTh 2 ≤ (d.thmAsleep r).thmMax) :
    (d.thmAsleep r).get THM_STATUS_STOP_EV 0 = 1 := by
  rw [(acting_thmAsleep d r).thmTh_eq, (acting_thmAsleep d r).thmMax_eq] at h
  rw [Dev.thmAsleep, Dev.thmShow, Dev.get_set_field _ _ _ _ _ _ (by decide), Dev.evIf_eq, decide_eq_true h, if_pos rfl, Dev.get_set_same]
  rfl

/-- At or above the shutdown threshold a sample in SLEEP leaves the device at its level. -/
theorem flag_two_thmAsleep {d : Dev} {r : List Int} (h : (d.thmAsleep r).thmTh 2 ≤ (d.thmAsleep r).thmMax) :
    (d.thmAsleep r).flag .thmLvl 2 = true := by
  have hacts := acting_thmAsleep_of_levels d r
  rw [hacts.thmTh_eq, hacts.thmMax_eq] at h
  rw [Dev.flag, hacts.v_eq .thmLvl 2 (by decide)]
  exact flag_thmLevels_two h

theorem calm_put (s : State) (e : Dev) : Calm e (s.put e).dev := Calm.settle s.dev e

/-- The end of a command keeps the temperature, the thresholds and the levels. -/
theorem acting_put (s : State) (e : Dev) : Acting [] e (s.put e).dev :=
  (calm_put s e).mono (fun _ => False.elim) (fun _ => False.elim)

/-- In SLEEP the shutdown level drives THERM_N low (R395). -/
theorem thermN_of_asleep {d : Dev} (h : d.v .pwrState 0 = 1) (hl : d.flag .thmLvl 2 = true) : d.thermN = true := by
  simp [Dev.thermN, h, hl]

/-- A sample in SLEEP: at or above the shutdown threshold it sets STOP_EV and drives THERM_N low; it leaves the device in SLEEP with the
datapath as it was, and sends no gasp. -/
theorem completes_thmSample_of_asleep (s : State) (r : List Int) (k : Fin 5) (hon : s.dev.flag .offMgmt 0 = false)
    (h : s.dev.v .pwrState 0 = 1) : Completes (.thmSample r k) s fun t =>
      (t.dev.thmTh 2 ≤ t.dev.thmMax → t.dev.get THM_STATUS_STOP_EV 0 = 1 ∧ t.dev.thermN = true) ∧ t.dev.v .pwrState 0 = 1
      ∧ t.dev.v .pwrTarget 0 = s.dev.v .pwrTarget 0 ∧ t.dev.v .thmSt 0 = s.dev.v .thmSt 0 ∧ (∀ n < 8, t.dev.v .slGasp n = s.dev.v .slGasp n)
      ∧ t.dev.sloeFw = s.dev.sloeFw ∧ (∀ b < 2, t.dev.v .offBunch b = s.dev.v .offBunch b) ∧ t.dev.v .offClk 0 = s.dev.v .offClk 0
      ∧ Frame thmFields (varsIn thmVars) [.fresh] s t := by
  have hend := acting_put s (s.dev.thmAsleep r)
  obtain ⟨-, -, hkeeps⟩ := frame_put (sampling_thmAsleep s.dev r)
  have hstate : (s.put (s.dev.thmAsleep r)).dev.v .pwrState 0 = 1 := (hkeeps.v_eq .pwrState 0 (by decide)).trans h
  refine ⟨_, exec_thmSample_of_asleep r k hon h, fun hhot => ?_, hstate, hkeeps.v_eq .pwrTarget 0 (by decide),
    hkeeps.v_eq .thmSt 0 (by decide), fun n _ => hkeeps.v_eq .slGasp n (by decide), hkeeps.rest .sloeFw (by decide),
    fun b _ => hkeeps.v_eq .offBunch b (by decide), hkeeps.v_eq .offClk 0 (by decide),
    frame_put (sampling_thmAsleep s.dev r)⟩
  rw [hend.thmTh_eq, hend.thmMax_eq] at hhot
  have hlevel : (s.put (s.dev.thmAsleep r)).dev.flag .thmLvl 2 = true := by
    rw [Dev.flag, hend.v_eq .thmLvl 2 (by decide)]
    exact flag_two_thmAsleep hhot
  refine ⟨?_, thermN_of_asleep hstate hlevel⟩
  rw [get_put _ _ _ _ (calmField_of_reg (by decide) (by decide)), get_stopEv_thmAsleep hhot]

/-- With management off THM_SAMPLE does nothing: no sensor samples. -/
theorem completes_thmSample_of_offMgmt (s : State) (r : List Int) (k : Fin 5) (hoff : s.dev.flag .offMgmt 0 = true) :
    Completes (.thmSample r k) s fun t => Still s t := by
  refine ⟨s.put s.dev, ?_, still_put_dev s⟩
  show execThmSample r k s = _
  rw [execThmSample, hoff, if_pos rfl]
  rfl

/-! ### The statement -/

/-- A codeword of line lane `n`, just arrived. -/
def cwOfLane (n : Nat) : Codeword :=
  { lane := n, id := 0, arrive := 0, bch := false, lsb := false, partner := none, soft := [], work := [], best := none, passes := 0,
    run := none, place := [], maxp := 0, verify := false, fin := false, failed := false, rel := none, spec := false, word := [],
    played := false }

/-- The last step of an entry to SLEEP is due while the reorder stages hold a codeword of lane `n`. -/
def entryHoldingCw (n : Nat) : State :=
  { State.reset with dev := { Dev.reset.sv .pwrTarget 0 psSLEEP with cws := [cwOfLane n] } }

/-- A state with a codeword that meets the hypotheses of `completes_lowPowerEntryDone_sleep`. -/
theorem witness_lowPowerEntryDone_sleep :
    Completes .lowPowerEntryDone (entryHoldingCw 7) fun t => t.dev.v .pwrState 0 = 1 ∧ pathOff t.dev :=
  completes_lowPowerEntryDone_sleep _ (by decide) rfl rfl rfl rfl

/-- A codeword of a ninth lane is none of either bunch, and the entry leaves it where it is. -/
theorem cws_lowPowerEntryDone_ninth_lane :
    (after (exec .lowPowerEntryDone (entryHoldingCw 8)) (entryHoldingCw 8)).dev.cws = [cwOfLane 8] := by decide +kernel

/-- Refutes O59: its clause on the entry to SLEEP asks that no codeword be left, from every state, and a state may hold one of lane 8,
which belongs to neither bunch. No command brings such a codeword in, as the line lanes of commands are 0 to 7; from states without one
the clause holds (`completes_lowPowerEntryDone_sleep`), and the clauses on THM_SAMPLE hold from every state
(`completes_thmSample_of_asleep`, `completes_thmSample_of_offMgmt`). -/
theorem not_sleepSample : ¬ Obligations.SleepSample := by
  unfold Obligations.SleepSample
  intro ⟨_, hentry, _⟩
  obtain ⟨t, ht, -, -, -, -, -, -, hempty, -⟩ := hentry (entryHoldingCw 8) rfl rfl rfl rfl
  have hleft := cws_lowPowerEntryDone_ninth_lane
  rw [ht] at hleft
  exact List.cons_ne_nil _ _ (hleft.symm.trans hempty)

end Sys2Proof.Machine
end
